-- ==== Sys2Proof/Word.lean ====
section
/-! DEFINITION. The word types: a byte, the 32-bit word of the host registers and of the two Izyten cores. -/

namespace Sys2Proof

/-- One byte of any store (00 R7: multi-byte structures are little-endian). -/
abbrev Byte := BitVec 8

/-- A 32-bit register or core word (12 R345, 09 R272). -/
abbrev Word := BitVec 32

end Sys2Proof
end

