-- ==== Sys2Proof/Terms.lean ====
section
/-! DEFINITION. The operand types of the commands: names the manual gives its parts, and what an event brings in from outside. -/

namespace Sys2Proof

/-- The two Izyten cores (12 R340). -/
inductive CoreId where
  | c0 | c1
deriving DecidableEq, Repr

/-- A general register number G0 to G15 (12 R345). -/
abbrev Reg := Fin 16

/-- The two Crila ports of a device (07 R184). -/
inductive Port where
  | up | dn
deriving DecidableEq, Repr

/-- The set-up register pairs of 08 R255. -/
inductive PtrPair where
  | rtbl | dbpg | stpg
deriving DecidableEq, Repr

/-- PCI Express function states (09 R258). -/
inductive DState where
  | d0 | d3hot | d3cold
deriving DecidableEq, Repr

/-- The PCI Express link as the function sees it (09 R258, R260, 16 R440). -/
inductive LinkState where
  | down | training | l0 | l1 | l1_2 | l2l3
deriving DecidableEq, Repr

/-- What host software writes into configuration space beside Bus Master Enable (09 R258): Enable Relaxed Ordering, Max_Payload_Size and
Max_Read_Request_Size in bytes, MSI-X Enable and Function Mask, and BAR0. -/
structure CfgCtl where
  relaxed : Bool
  maxPayload : Nat
  maxRead : Nat
  msixEn : Bool
  msixMask : Bool
  bar0 : Nat
deriving DecidableEq, Repr

/-- How a device read of host memory ended (10 R293, R313). -/
inductive HostRead where
  | ok (data : List Byte)
  | ur | ca | poison | timeout
deriving DecidableEq, Repr

/-- The addressing modes of format M (13 R380, 12 R348). -/
inductive AMode where
  | disp (d : BitVec 16)
  | index (gi : Reg) (sc : Fin 4)
  | postInc (ag : Option (Fin 4)) (step : BitVec 8)
  | preDec
deriving DecidableEq, Repr

/-- The sampled straps (01 R19, R20). -/
inductive Role where
  | standalone | root | member | test
deriving DecidableEq, Repr

/-- Failed attempts of each timed step of a bring-up or an exit (16 R447): 4 or more means the step never became ready. -/
structure StepFails where
  ldo : Nat
  xtal : Nat
  pll : Nat
deriving DecidableEq, Repr

/-- What one line-test phase found (02 R50). Self values are in 1/1,024 pF. -/
inductive LtResult where
  | leakage (sources sinks : List Nat)
  | coupling (pins : List Nat)
  | self (values : List (Nat × Nat))
deriving DecidableEq, Repr

/-- A pair of Q14 values core 0 has derived for one chain and slot from the frame's stored sums (03 R66, R67). -/
structure PairResult where
  chain : Nat
  slot : Nat
  pc : Int
  ps : Int
deriving DecidableEq, Repr

/-- A self scale core 0 has derived for one chain and pass (04 R97). -/
structure ScaleResult where
  chain : Nat
  pass : Nat
  f : Nat
deriving DecidableEq, Repr

/-- A damaged item found by a parity check: store code of 18 R482 and the item index of R486. -/
structure ParityHit where
  store : Nat
  index : Nat
  addr : Nat
deriving DecidableEq, Repr

/-- A fragment record of 07 R213. -/
structure Frag where
  rid : Nat
  trk : Nat
  cls : Nat
  edges : Nat
  age : Nat
  touched : Bool
  reported : Bool
  px : Nat
  py : Nat
  peak : Nat
  area : Nat
  signal : Nat
  tokenId : Nat
  angle : Nat
  tokenQ : Nat
  w : Nat
  w3 : Nat
  sx : Nat
  sy : Nat
  sx3 : Nat
  sy3 : Nat
  cxx : Nat
  cyy : Nat
  cxy : Int
  pstart : Nat
  p0 : List Int
  p1 : List Int
deriving DecidableEq, Repr

/-- A FRAGSET (07 R214): epoch, fragments and continuation entries (RID, STATE). -/
structure FragSet where
  src : Nat
  epoch : Nat
  frags : List Frag
  conts : List (Nat × Nat)
deriving DecidableEq, Repr

/-- An array-map entry and tile record (07 R205, 17 R471), as read from settings memory with its CRC checked. -/
structure TileRec where
  format : Nat
  tile : Nat
  codeSet : Nat
  ntiles : Nat
  ox : Nat
  oy : Nat
  dmap : Nat
  smap : Nat
  pitchS : Nat
  pitchD : Nat
  /-- (neighbour tile, edge 0 to 7) of every valid neighbour entry -/
  nbrs : List (Nat × Nat)
  gpio : List Nat
  crcOk : Bool
deriving DecidableEq, Repr

/-- A 32-byte command descriptor (10 R290), field by field; `rsv` is 1 when a reserved bit of byte 1 is set. -/
structure Desc where
  opcode : Nat
  ord : Bool
  dfence : Bool
  rsv : Bool
  tag : Nat
  tile : Nat
  a0 : Nat
  a1 : Nat
  addr : Nat
  p0 : Nat
  p1 : Nat
  p2 : Nat
  p3 : Nat
deriving DecidableEq, Repr

/-- A message of the ring (07 R200). Types whose format the manual lays out carry their fields; bulk data carry their bytes. -/
inductive Msg where
  | enum
  | assign (tile : Nat) (lent : List Nat) (rec : Option TileRec)
  | hello (retained : Bool) (tile gen : Nat)
  | ready (level : Nat)
  | route (dirs : List (Nat × Bool)) (online : List Nat) (seams : List (Nat × Nat)) (map : List TileRec) (ring : Nat) (cut : List Nat)
  | brk (tile : Nat) (port : Port)
  | epoch (e : Nat)
  | fragset (f : FragSet)
  | idReturn (id : Nat)
  | report (epoch : Nat) (part : Nat) (data : List Byte) (contact : Bool)
  | event (code : Nat) (epoch : Nat) (d0 d1 : Nat)
  | cmd (num : Nat) (d : Desc)
  | prepare (slot : Nat) (isSwitch : Bool) (named : Option Nat) (rate : Option Nat)
  | abandon (slot : Nat)
  | askRids (opener : Nat)
  | wake (code : Nat)
  | unstage (num : Nat)
  | apply (ea gen slot : Nat) (set : List Nat)
  | prepareReply (code off : Nat)
  | armed (image : List Byte)
  | cpl (num code r0 r1 : Nat)
  | stream (epoch kind : Nat) (raw : Bool) (blocks : List (Nat × List Byte))
  | fwData (data : List Byte) (crc : Nat) (level : Nat) (update : Bool)
  | ctxData (slot off : Nat) (data : List Byte) (kind : Nat)
  | capture (num : Nat) (data : List Byte)
  | power (state : Nat) (epoch : Nat)
  | diag (item : Nat)
  | diagReply (item value : Nat)
  | contactBit (present : Bool)
deriving DecidableEq, Repr

/-- One block (07 R186, R188): the sync header's two bits and the 64 bits behind it, which a lane carries scrambled. A received block stands
here as its lane brought it. -/
structure LinkBlock where
  hdr : Nat
  bits : Nat
deriving DecidableEq, Repr

/-- One Crila frame (07 R191); `msg` is the message its payload is a part of, `part` of `parts` frames. -/
structure CFrame where
  seq : Nat
  cls : Nat
  dst : Nat
  src : Nat
  bcast : Bool
  dirn : Bool
  wrapped : Bool
  ttl : Nat
  num : Nat
  part : Nat
  parts : Nat
  msg : Msg
deriving DecidableEq, Repr

/-- What a settings-memory read brings to the boot ROM (17 R470 to R473, 19 R493): header, copies A and B, coded firmware. -/
structure EepromImage where
  header : List Byte
  copyA : List Byte
  copyB : List Byte
  fw : List Byte
deriving DecidableEq, Repr

/-- How a memory-port transfer ended (17 R463 to R468). -/
inductive TwcEnd where
  | ok (data : List Byte)
  | nack
  | stuck
deriving DecidableEq, Repr

/-- How a job of the host DMA engine ended (10 R313): bytes moved, and the data of a read job. -/
structure HdmaEnd where
  result : Nat
  moved : Nat
  data : List Byte
deriving DecidableEq, Repr

end Sys2Proof
end

