-- ==== Sys2Proof/Syntax.lean ====
section
/-! DEFINITION. The commands of the block: one constructor per row of spec/opcode_table.json, with the operands an event brings
in from outside (the table gives the rows no operands). A row that executes a command descriptor names its journal entry `j`; a row
that reads host memory brings the read's end; an Izyten instruction names the core that executes it and its fields (13 R373), and
`parity` is true when a byte the instruction reads fails its parity check (12 R357, 18 R477). -/

namespace Sys2Proof

/-- A command of the block, in the order of the table. -/
inductive Instr where
  /-- R425: PORn is driven low and every domain resets. -/
  | pornAssert
  /-- R491: PORn rises: the straps are sampled and Bellows brings up the oscillator, the LDO and the PLL. -/
  | pornRelease (role : Role) (maddr : Nat) (eeprom : Bool) (fails : StepFails)
  /-- R491: The 100 ms timer after a failed bring-up expires and the whole bring-up sequence runs again. -/
  | bringupRetry (fails : StepFails)
  /-- R411: The X32 crystal reaches regulation and Bellows switches the AON clock to it glitch-free. -/
  | aonCrystalSwitch
  /-- R514: VDD33 falls below the AON regulator threshold and the device resets as on PORn. -/
  | vdd33Undervoltage
  /-- R514: VDDSER is removed while LINK or HOST is on, which is treated as a one-sided link reset. -/
  | vddserRemoval
  /-- R265: PERST# is asserted: the HOST domain resets, the rings go off and the journal is cleared. -/
  | perstAssert
  /-- R264: PERST# deasserts: WAKE# is released and link training starts within 20 ms. -/
  | perstDeassert
  /-- R265: A hot reset resets the function but keeps the pointers and the journal; RING_EN is cleared. -/
  | hotReset
  /-- R265: The link goes down; handled as a hot reset, with outstanding requests abandoned. -/
  | dlDown
  /-- R265: A function-level reset returns the function state to defaults and clears the journal. -/
  | flr
  /-- R261: A D-state change pauses or resumes the host DMA engine and doorbell polling. -/
  | pcieDstateChange (d : DState)
  /-- R261: A change of Bus Master Enable stops DMA, or resumes it with an immediate poll. -/
  | busMasterEnableChange (on : Bool) (c : CfgCtl)
  /-- R260: The link enters or leaves L1 or L1.2, which raises HOST_PM. -/
  | linkPmChange (l : LinkState)
  /-- R258: A device read receives no completion within the Completion Timeout. -/
  | pcieCompletionTimeout
  /-- R414: The lock detector gates the PLL clocks and Bellows restarts CORE, AFE and LINK. -/
  | pllUnlock (fails : StepFails)
  /-- R446: The CORE supply browns out in low-power mode: the CORE domain resets and BROWNOUT is raised. -/
  | coreBrownout
  /-- R268: A write to a register that has no behaviour of its own, with the size, alignment and off-domain checks. -/
  | registerWrite (off size : Nat) (v : Nat)
  /-- R281: RING_EN is written 1 while the rings are disabled; the ring table is read and checked. -/
  | ringStart (table : Option HostRead)
  /-- R525: A pending ring start proceeds once Bus Master Enable is 1 and the function is in D0. -/
  | ringStartDeferred (table : Option HostRead)
  /-- R273: RING_EN is written 0: descriptor fetching stops and the rings drain. -/
  | ringStop
  /-- R273: The record write in progress finishes and RING_ACT clears. -/
  | ringDrainComplete
  /-- R273: A keyed RESET_CTL.CORE write resets the CORE, AFE and LINK domains of the tile. -/
  | resetCtlCore (key : Nat)
  /-- R273: A keyed RESET_CTL.CORE write with ARRAY resets every member as well. -/
  | resetCtlArray (key : Nat)
  /-- R255: A write to a _LO pointer register loads the holding latch. -/
  | pointerLoWrite (p : PtrPair) (v : Word)
  /-- R255: A write to a _HI pointer register loads the 64-bit pair, or is dropped while the rings are enabled. -/
  | pointerHiWrite (p : PtrPair) (v : Word)
  /-- R275: A POLL_NOW.GO write starts a doorbell read within 2 µs. -/
  | pollNow (go : Bool)
  /-- R276: A write sets COUNT and TIME of one vector, or of all vectors with ALL. -/
  | msixModWrite (v : Word)
  /-- R431: The host sets the power floor; a floor below the current state is the HOST_REQ wake source. -/
  | pwrReqStateWrite (st : Nat)
  /-- R449: A PWR_REQ.CLRLIMP write clears HOLD and starts a full exit with fresh attempt counts. -/
  | clrlimp
  /-- R279: A write selects a diagnostic item and, for a member, starts a fetch over the ring. -/
  | diagSelWrite (v : Word)
  /-- R279: The value of a member's diagnostic item arrives and BUSY clears. -/
  | diagFetchResult (tile item : Nat) (v : Word)
  /-- R275: The interval poll timer expires and the doorbell page is read. -/
  | doorbellPoll
  /-- R287: The 5 µs poll while records are held for a full RPT or EVT ring. -/
  | fullRingPoll
  /-- R286: The doorbell read returns; each index is tested and accepted or kept. -/
  | doorbellReadComplete (cmdPi strPi cplCi rptCi evtCi : Nat)
  /-- R301: Descriptors are fetched once journal entries and CPL slots are free, and entered as ISSUED. -/
  | descriptorFetch (data : Option HostRead)
  /-- R292: The NOP command completes at once. -/
  | nop (j : Nat)
  /-- R297: Completes when every earlier entry is POSTED and a flush has returned. -/
  | fence (j : Nat)
  /-- R242: Applies INIT and writes a piece of host data into a context slot on the selected tiles. -/
  | stageContext (j : Nat) (piece : HostRead)
  /-- R246: Checks a STAGING slot across a set of tiles and schedules it to apply at E_a. -/
  | commit (j : Nat)
  /-- R246: Checks a READY slot across a set of tiles and schedules it to apply at E_a. -/
  | switch (j : Nat)
  /-- R292: Writes a context slot image to host memory. -/
  | readContext (j : Nat)
  /-- R83: Requests a forced hop of one carrier role through CHN_HOP_FORCE. -/
  | hop (j : Nat)
  /-- R50: Requests a line test on the selected tiles. -/
  | lineTest (j : Nat)
  /-- R524: Requests a full or a group calibration, or joins one already pending or running. -/
  | recalibrate (j : Nat)
  /-- R141: Releases a named track: its mask is re-baselined and the track retires as RELEASED. -/
  | releaseContact (j : Nat)
  /-- R155: Checks a token dictionary bank image and writes it into a bank that is not in use. -/
  | tokenLoad (j : Nat) (img : HostRead)
  /-- R310: Codes a frame SRAM region as LL-G into host memory, from a snapshot or in place. -/
  | capture (j : Nat)
  /-- R372: Checks an applet image, loads it into core 1 and restarts core 1. -/
  | appletLoad (j : Nat) (img : HostRead)
  /-- R368: Pushes two words into the applet's mailbox queue. -/
  | mailboxSend (j : Nat)
  /-- R475: Writes a settings copy, or resolves a copy mismatch, and reads the result back. -/
  | settingsWrite (j : Nat) (img : HostRead) (readBack1 readBack2 : List Byte)
  /-- R231: Sends a member new firmware, checks it and restarts the member at an epoch. -/
  | fwUpdateMember (j : Nat) (img : HostRead)
  /-- R292: Resets one member, which then rejoins. -/
  | resetMember (j : Nat)
  /-- R295: A forwarded command is unanswered after 20 ms; it is resent once or ends with TIMEOUT. -/
  | forwardTimeout (j tile : Nat)
  /-- R300: The completion of an APPLIED entry is written to its reserved CPL slot. -/
  | completionPost (j : Nat)
  /-- R299: A zero-length flush read returns and the DFENCE completion may be written. -/
  | flushReadComplete (j : Nat)
  /-- R289: The status page is written after a batch of ring writes, at most once per 2 µs. -/
  | statusPageWrite
  /-- R289: The 100 ms status-page write in DRONE, which advances HEARTBEAT. -/
  | statusPageTimer
  /-- R276: A vector's TIME expires with unsignalled events and its message falls due. -/
  | msixTimeLimit (vec : Fin 16)
  /-- R307: A buffered event is written to the EVT ring when there is room. -/
  | eventWrite
  /-- R305: A report image is written into the next RPT slot, records first and header last. -/
  | reportPost (postUs : Nat)
  /-- R331: A stream record is written once every block of it has arrived. -/
  | streamRecordWrite (tile kind : Nat) (descs : List (Nat × Nat × Nat))
  /-- R331: 900 µs after the boundary, a stream record is written with markers for the missing blocks. -/
  | streamRecordDeadline (tile kind : Nat) (descs : List (Nat × Nat × Nat))
  /-- R309: A stream buffer is retired when FLUSH epochs have passed since its first record. -/
  | streamBufferRetire
  /-- R313: An HDMA_CTL.GO write starts a DMA job between core memory and host memory. -/
  | hdmaJobStart (v : Word)
  /-- R313: A DMA job ends, with its RESULT and XFER, and DONE is set. -/
  | hdmaJobDone (e : HdmaEnd)
  /-- R313: An HDMA_POST.GO write posts a completion or event record into its ring. -/
  | hdmaPost (v : Word)
  /-- R313: A record post ends after its flush and write, with its RESULT. -/
  | hdmaPostDone (ok : Bool)
  /-- R13: The frame timer reaches a boundary: the epoch advances and pending contexts, hops and calibration phases take effect. -/
  | epochBoundary
  /-- R58: 10 µs before the frame ends, the scan parameters of the next frame are latched. -/
  | latchInstant
  /-- R56: A 12 µs step ends and its mixed step value is stored. -/
  | scanStep (step : Nat) (x : List (List Int)) (tpar : List Nat)
  /-- R55: The guard/settle interval begins: roles switch and tripped drivers are re-enabled. -/
  | guardSettleStart (temp : Int)
  /-- R75: Chain and tile noise, and the per-chain weights, are computed from the listen data. -/
  | tileNoise
  /-- R81: At 1,960 µs, Chanter decides whether an automatic hop is due. -/
  | hopDecision
  /-- R47: A driver's overcurrent trip sends it to high-impedance and counts the trip. -/
  | driverTrip (pin : Nat) (sourcing : Bool)
  /-- R103: An SH driver trips; on the third trip the shield fault is latched. -/
  | shieldTrip (sh : Fin 4)
  /-- R71: The transform and combination of a frame complete and its delta frame and self deltas are written. -/
  | deltaFrameWritten (par : List ParityHit)
  /-- R167: The tracker segments the frame, matches tokens and detections, and updates the track table. -/
  | trackUpdate (trkUs : Nat) (par : List ParityHit)
  /-- R126: The baselines and node states are updated after the tracker, or after Crook's merge. -/
  | baselineUpdate
  /-- R222: Once every awaited FRAGSET has arrived, Crook merges the components and decides ownership. -/
  | crookMerge
  /-- R222: 480 µs after the boundary, Crook merges without the missing FRAGSETs and sets STITCHLATE. -/
  | stitchDeadline
  /-- R329: The stream channel codes a frame's delta and self data into FR blocks. -/
  | streamFrameCode (bad : List (Nat × Nat))
  /-- R50: A line-test phase ends; after the last phase the codes are assigned and DONE is set. -/
  | lineTestPhaseEnd (r : LtResult)
  /-- R123: Core 0 derives and loads the correction pairs and self scales from an injection or verify frame. -/
  | calInjectionResult (pairs : List PairResult) (scales : List ScaleResult)
  /-- R124: A trim measurement frame updates the trim codes. -/
  | trimSearchMeasure
  /-- R132: After the 16 baseline frames, B and Bs are formed and the reference and self tests run. -/
  | initialBaseline
  /-- R125: Trim RAM is restored from the trim shadow. -/
  | trimRestore (par : List ParityHit)
  /-- R54: A CHN_LTEST.START write schedules a line test at the next boundary. -/
  | ltestStart (v : Word)
  /-- R149: A CHN_CAL_CTL.FULL write schedules a full calibration. -/
  | calFullStart (v : Word)
  /-- R149: A CHN_CAL_CTL.GROUPS write schedules a group recalibration. -/
  | calGroupStart (v : Word)
  /-- R83: A CHN_HOP_FORCE.GO write requests a forced hop, replacing any pending one. -/
  | hopForceWrite (v : Word)
  /-- R194: A Crila frame is received, acknowledged in order or NAKed, and forwarded or consumed. -/
  | crilaFrameReceive (port : Port) (f : CFrame) (blocks : List LinkBlock) (par : Bool)
  /-- R189: A CB0 or CB1 delivers ACK, NAK and credits; a NAK triggers a go-back-N resend. -/
  | controlBlockReceive (port : Port) (block : LinkBlock)
  /-- R196: A queued frame is sent once a credit and a window place are free. -/
  | frameTransmit (port : Port)
  /-- R194: No ACK has advanced for 2.0 µs and the held frames are resent. -/
  | retransmitTimeout (port : Port) (par : Bool)
  /-- R224: A receiver declares its port down, wraps its traffic and sends BREAK. -/
  | portDown (port : Port)
  /-- R224: The 1 ms retrain timer of a down port expires and training starts. -/
  | portRetrain (port : Port)
  /-- R197: A port finishes training, measures its hop latency and enters UP. -/
  | trainingComplete (port : Port) (hopLat : Nat)
  /-- R209: A member receives an epoch marker, corrects its frame timer and forwards the marker. -/
  | mark (port : Port) (block : LinkBlock) (residence : Nat) (err : Int)
  /-- R204: A member that is not enrolled receives the enrolment probe and answers HELLO. -/
  | enum (port : Port)
  /-- R204: An ENUM reaches no device within 1 ms and the root turns to UP-ward enrolment. -/
  | enumTimeout
  /-- R229: The root receives HELLO and enrols or restores the member. -/
  | hello (port : Port) (retained : Bool) (tile gen : Nat)
  /-- R204: A member receives its tile index and reads its tile record. -/
  | assign (tile : Nat) (lent : List Nat) (rec : List Byte)
  /-- R204: The root receives READY from a member. -/
  | ready (tile level : Nat) (rec : List Byte)
  /-- R226: A device receives new directions and the online set, and stops wrapping. -/
  | route (dirs : List (Nat × Bool)) (online : List Nat) (seams : List (Nat × Nat)) (map : List TileRec) (ring : Nat) (cut : List Nat)
  /-- R226: The root receives a port-down report. -/
  | breakReport (tile : Nat) (port : Port)
  /-- R226: 100 µs after the first BREAK, the root decides link or member loss and sends ROUTE. -/
  | breakDecision
  /-- R209: A member takes the full epoch number from the root's EPOCH message. -/
  | epochMessage (e : Nat)
  /-- R214: A neighbour's edge fragments for a frame are received. -/
  | fragset (f : FragSet) (parity : Bool)
  /-- R221: The opener receives the release of a lent contact ID and clears the lent mark. -/
  | idReturn (id : Nat)
  /-- R227: The root assembles a member's report image from its REPORT frames. -/
  | reportFrame (tile epoch part : Nat) (data : List Byte)
  /-- R227: 900 µs after the boundary, an incomplete image is posted with PARTIAL. -/
  | reportImageDeadline (tile epoch : Nat)
  /-- R200: The root receives an event from a member. -/
  | eventMessage (tile code epoch d0 d1 : Nat)
  /-- R295: A member receives a forwarded command, including PREPARE, and executes it. -/
  | cmdMessage (num : Nat) (m : Msg)
  /-- R295: The root receives a member's completion of a forwarded command. -/
  | cplMessage (tile num code r0 r1 : Nat)
  /-- R248: The root receives a member's check result and decides the commit once every reply has arrived. -/
  | prepareReply (tile code off : Nat) (late : Bool)
  /-- R244: A member of the set does not answer within 2 ms and the commit fails with code 0x84. -/
  | prepareTimeout (tile : Nat)
  /-- R248: A member receives APPLY, writes the header fields and sets its slot PENDING. -/
  | applyMessage (ea gen slot : Nat) (set : List Nat)
  /-- R248: The root receives a member's ARMED answer. -/
  | armed (tile : Nat) (image : List Byte)
  /-- R331: The root receives stream blocks from a member. -/
  | streamMessage (tile epoch kind : Nat) (raw : Bool) (blocks : List (Nat × List Byte))
  /-- R497: A member receives a firmware image, checks its CRC-32 and starts it. -/
  | fwData (data : List Byte) (crc level : Nat) (update : Bool)
  /-- R242: A member receives a context piece or image, or its reference baseline. -/
  | ctxData (slot off : Nat) (data : List Byte) (kind : Nat)
  /-- R200: The root receives capture data from a member. -/
  | captureMessage (tile num : Nat) (data : List Byte)
  /-- R498: The root broadcasts the firmware once all members are READY, or 400 ms after its first ASSIGN. -/
  | fwBroadcast
  /-- R433: A member receives the root's order to change power state at an epoch. -/
  | powerMessage (state epoch : Nat)
  /-- R438: A Crila wake beacon arrives, is recorded as a wake and is forwarded. -/
  | wakeBeacon (port : Port)
  /-- R332: A MUTE_CTL.GO write latches the job registers and starts a job. -/
  | muteJobStart (v : Word)
  /-- R336: A MUTE_CTL.ABORT write stops the job at the next block boundary. -/
  | muteJobAbort
  /-- R333: A job block is coded or decoded and written if it fits. -/
  | muteJobBlock (parity hostFail : Bool)
  /-- R392: A rising edge of an ICU event line counts as an arrival and passes the coalescing stage. -/
  | sourceArrival (n : Fin 48)
  /-- R393: A source's CTIME expires and its PEND is set. -/
  | coalesceTimeout (n : Fin 48)
  /-- R363: A deliverable source is taken: STATUS and the return address are pushed and delivery is committed. -/
  | interruptEntry (core : CoreId) (late : Option (Fin 48)) (parity : Bool)
  /-- R366: A deliverable source wakes a core from WAIT. -/
  | waitWake (core : CoreId)
  /-- R404: A store to ICU_PENDx sets or clears pending bits, keeping bits that arrived since the load. -/
  | icuPendWrite (core : CoreId) (x : Fin 2) (v : Word)
  /-- R404: A core's load of ICU_PENDx clears its arrived bits for that register. -/
  | icuPendRead (core : CoreId) (x : Fin 2)
  /-- R399: A completion write clears ACT of a source owned by the core, or is counted as bad. -/
  | icuDone (core : CoreId) (c : CoreId) (src : Nat)
  /-- R399: An ICU_DONEc write with ALL clears every ACT owned by core c. -/
  | icuDoneAll (core : CoreId) (c : CoreId)
  /-- R393: A write to ICU_SRCn changes PRIO, routing or coalescing; a lower CCOUNT can set PEND at once. -/
  | icuSrcWrite (core : CoreId) (n : Fin 48) (v : Word)
  /-- R408: A TMR_CTLn write enables or disables timer n, loading CNT on enable. -/
  | timerControlWrite (core : CoreId) (n : Fin 4) (v : Word)
  /-- R408: A RESTART write loads CNT from LOAD at once. -/
  | timerRestart (core : CoreId) (n : Fin 4)
  /-- R408: Timer n reaches 0, raises its source and reloads or stops. -/
  | timerExpiry (n : Fin 4)
  /-- R408: An EN write starts and locks the watchdog. -/
  | watchdogStart (v : Word)
  /-- R408: A TMR_WDKICK write reloads the watchdog, or counts a bad kick. -/
  | watchdogKick (v : Word)
  /-- R408: The watchdog expires and escalates: WDOG source, then recovery trap, then domain reset. -/
  | watchdogExpiry
  /-- R484: The recovery code finishes reloading core 0 firmware and READY returns to 1. -/
  | core0RestartComplete (fw : Option (List Byte))
  /-- R479: The 10 s scrub reads the trim shadow, idle slots, the spare bank, the retained entries and the state store. -/
  | scrubRead (par : List ParityHit)
  /-- R369: RUN is written 1 and core 1 leaves reset at MBX_C1PC. -/
  | core1Run
  /-- R402: RUN is written 0: core 1 is held in reset and its ICU ownership is cleared. -/
  | core1Stop
  /-- R369: A write sets the code SRAM split, only while core 1 is held in reset. -/
  | mbxSplitWrite (v : Word)
  /-- R368: An MBX_OUT1 write pushes a pair into the other core's queue or drops it. -/
  | mailboxPush (core : CoreId) (w1 : Word)
  /-- R367: An MBX_CTL.POP write discards the oldest incoming pair. -/
  | mailboxPop (core : CoreId)
  /-- R432: IDLE_T seconds of quiet frames elapse and ACTIVE descends to IDLE-SCAN. -/
  | idleTimeout
  /-- R432: DRONE_T, or GESTURE_T after a trigger, elapses in IDLE-SCAN and the descent to DRONE begins. -/
  | droneTimeout
  /-- R440: Bellows enters a deeper state: quiescence, last frame, save, then CORE and HOST power-down. -/
  | powerEntry
  /-- R442: A block neither refuses nor quiesces within 1 ms and the entry is unwound. -/
  | entryAbort (controller block : Nat)
  /-- R442: 100 ms after a refusal, the entry is attempted again. -/
  | entryRetry
  /-- R435: At each Drone period the PLL starts and the eight gangs are measured. -/
  | droneBurst (x : List (List (List Int)))
  /-- R439: A wake source is recorded, the host is notified and the exit begins. -/
  | wakeRecord (code : Nat)
  /-- R444: The LDO, PLL, CORE clocks and AFE come up and scanning resumes. -/
  | powerExit (fails : StepFails)
  /-- R447: An exit step misses its limit and is retried; after 4 attempts limp mode is entered. -/
  | wakeStepTimeout (step : Nat)
  /-- R423: A rising edge on a GPIO wake input is latched as a wake event. -/
  | gpioWakeEdge (pin : Fin 4)
  /-- R459: The management-port address arrives; it is ACKed or NACKed and may raise TWM_ADDR. -/
  | twmAddressMatch (read : Bool)
  /-- R455: A written byte sets the pointer or writes the register at the pointer. -/
  | twmWriteByte (b : Byte)
  /-- R455: A read byte returns the register at the pointer and the pointer advances. -/
  | twmReadByte
  /-- R456: A write of 0xA5 to WAKE raises the TWM_WAKE source. -/
  | twmWake (b : Byte)
  /-- R456: A write of 0x5C to LIMPCLR acts as PWR_REQ.CLRLIMP. -/
  | limpclr (b : Byte)
  /-- R456: A write appends a byte to INDATA, or is dropped when it is full. -/
  | indata (b : Byte)
  /-- R456: The bytes in INDATA go to core 0 as one message. -/
  | insend (v : Byte)
  /-- R456: A read of OUTDATA removes the oldest outgoing byte. -/
  | outdata
  /-- R454: SCL is held low for 25 ms and the target leaves the transaction. -/
  | twmSclTimeout
  /-- R459: CLK_BUS is not running 1.2 ms after the address ACK; SCL is released. -/
  | twmStretchTimeout
  /-- R462: A read from 0x0C is arbitrated and the winner releases ALERT#. -/
  | alertResponse (lowest : Nat)
  /-- R476: A TWM_CTL.ASET write sets ALERT_STAT bits, which may assert ALERT#. -/
  | twmAlertSet (v : Word)
  /-- R476: Core 0 appends a byte to OUTDATA and sets MBOX. -/
  | twmMboxWrite (b : Byte)
  /-- R476: Core 0 reads and removes the oldest byte of the latest INSEND message. -/
  | twmMboxRead
  /-- R463: A TWC_CTL.GO write starts a settings-memory transfer. -/
  | twcTransferStart (v : Word)
  /-- R463: A memory-port transfer ends with its RESULT and raises TWC_DONE. -/
  | twcTransferDone (e : TwcEnd)
  /-- R464: The controller loses arbitration, releases the bus and restarts the transfer after bus-free time. -/
  | twcArbitrationLost (finalNack : Bool)
  /-- R466: A NACKed target address is retried every 100 µs for up to 20 ms. -/
  | twcNackRetry (acked expired : Bool)
  /-- R468: The port clocks SCL to free a stuck SDA, retried every 10 ms. -/
  | twcBusRecovery (freed : Bool)
  /-- R493: Core 0 runs the boot ROM by role and reads settings and firmware. -/
  | bootRomStart (img : EepromImage)
  /-- R495: The loader receives the length, CRC and level of an image. -/
  | loadBegin (msg : List Byte)
  /-- R495: The loader writes image bytes to code SRAM. -/
  | loadData (msg : List Byte)
  /-- R495: The loader checks the CRC and starts the image. -/
  | loadEnd (msg : List Byte)
  /-- R496: Core 0 firmware applies the tile record, loads the bank and applet, and starts the frame timer. -/
  | firmwareStart (rec : List Byte) (applet : List Byte) (refs : List (List Byte))
  /-- R377: Gd := Ga + Gb. -/
  | add (core : CoreId) (gd ga gb : Reg)
  /-- R377: Gd := Ga - Gb. -/
  | sub (core : CoreId) (gd ga gb : Reg)
  /-- R377: Bitwise AND of Ga and Gb. -/
  | and (core : CoreId) (gd ga gb : Reg)
  /-- R377: Bitwise OR of Ga and Gb. -/
  | or (core : CoreId) (gd ga gb : Reg)
  /-- R377: Bitwise XOR of Ga and Gb. -/
  | xor (core : CoreId) (gd ga gb : Reg)
  /-- R377: Signed less-than compare of Ga and Gb. -/
  | cmplt (core : CoreId) (gd ga gb : Reg)
  /-- R377: Unsigned less-than compare of Ga and Gb. -/
  | cmplo (core : CoreId) (gd ga gb : Reg)
  /-- R377: The smaller of Ga and Gb, signed. -/
  | min (core : CoreId) (gd ga gb : Reg)
  /-- R377: The larger of Ga and Gb, signed. -/
  | max (core : CoreId) (gd ga gb : Reg)
  /-- R377: The smaller of Ga and Gb, unsigned. -/
  | minu (core : CoreId) (gd ga gb : Reg)
  /-- R377: The larger of Ga and Gb, unsigned. -/
  | maxu (core : CoreId) (gd ga gb : Reg)
  /-- R377: Shift left by Gb[4:0]. -/
  | shl (core : CoreId) (gd ga gb : Reg)
  /-- R377: Logical shift right by Gb[4:0]. -/
  | shru (core : CoreId) (gd ga gb : Reg)
  /-- R377: Arithmetic shift right by Gb[4:0]. -/
  | shrs (core : CoreId) (gd ga gb : Reg)
  /-- R377: Low 32 bits of the product. -/
  | mul (core : CoreId) (gd ga gb : Reg)
  /-- R377: High 32 bits of the signed product. -/
  | mulhs (core : CoreId) (gd ga gb : Reg)
  /-- R377: High 32 bits of the unsigned product. -/
  | mulhu (core : CoreId) (gd ga gb : Reg)
  /-- R377: Saturating signed add. -/
  | addsat (core : CoreId) (gd ga gb : Reg)
  /-- R377: Saturating signed subtract. -/
  | subsat (core : CoreId) (gd ga gb : Reg)
  /-- R377: Sign-extend byte. -/
  | sexb (core : CoreId) (gd ga : Reg)
  /-- R377: Sign-extend halfword. -/
  | sexh (core : CoreId) (gd ga : Reg)
  /-- R377: Count leading zero bits. -/
  | clz (core : CoreId) (gd ga : Reg)
  /-- R378: Add the sign-extended immediate. -/
  | addK (core : CoreId) (gd ga : Reg) (imm : BitVec 18)
  /-- R378: AND with the zero-extended immediate. -/
  | andK (core : CoreId) (gd ga : Reg) (imm : BitVec 18)
  /-- R378: OR with the zero-extended immediate. -/
  | orK (core : CoreId) (gd ga : Reg) (imm : BitVec 18)
  /-- R378: XOR with the zero-extended immediate. -/
  | xorK (core : CoreId) (gd ga : Reg) (imm : BitVec 18)
  /-- R378: Signed compare with the immediate. -/
  | cmpltK (core : CoreId) (gd ga : Reg) (imm : BitVec 18)
  /-- R378: Unsigned compare with the immediate. -/
  | cmploK (core : CoreId) (gd ga : Reg) (imm : BitVec 18)
  /-- R378: Shift left by an immediate amount. -/
  | shlK (core : CoreId) (gd ga : Reg) (sh : BitVec 5)
  /-- R378: Logical shift right by an immediate amount. -/
  | shruK (core : CoreId) (gd ga : Reg) (sh : BitVec 5)
  /-- R378: Arithmetic shift right by an immediate amount. -/
  | shrsK (core : CoreId) (gd ga : Reg) (sh : BitVec 5)
  /-- R378: Gd := imm18 << 14. -/
  | ldhi (core : CoreId) (gd : Reg) (imm : BitVec 18)
  /-- R379: Rounded, saturated Q15 multiply. -/
  | mulq (core : CoreId) (gd ga gb : Reg)
  /-- R379: Saturating Q31 multiply-accumulate. -/
  | macq (core : CoreId) (gd ga gb : Reg)
  /-- R379: Saturating Q31 multiply-subtract. -/
  | msuq (core : CoreId) (gd ga gb : Reg)
  /-- R379: Round Q31 to Q15. -/
  | rndq (core : CoreId) (gd ga : Reg)
  /-- R379: Saturating Q15 add. -/
  | addq (core : CoreId) (gd ga gb : Reg)
  /-- R379: Saturating Q15 subtract. -/
  | subq (core : CoreId) (gd ga gb : Reg)
  /-- R380: Load a sign-extended byte. -/
  | ldb (core : CoreId) (gd gb : Reg) (mode : AMode) (parity : Bool)
  /-- R380: Load a zero-extended byte. -/
  | ldbu (core : CoreId) (gd gb : Reg) (mode : AMode) (parity : Bool)
  /-- R380: Load a sign-extended halfword. -/
  | ldh (core : CoreId) (gd gb : Reg) (mode : AMode) (parity : Bool)
  /-- R380: Load a zero-extended halfword. -/
  | ldhu (core : CoreId) (gd gb : Reg) (mode : AMode) (parity : Bool)
  /-- R380: Load a word. -/
  | ldw (core : CoreId) (gd gb : Reg) (mode : AMode) (parity : Bool)
  /-- R380: Store a byte. -/
  | stb (core : CoreId) (gs gb : Reg) (mode : AMode)
  /-- R380: Store a halfword. -/
  | sth (core : CoreId) (gs gb : Reg) (mode : AMode)
  /-- R380: Store a word. -/
  | stw (core : CoreId) (gs gb : Reg) (mode : AMode)
  /-- R382: Atomically swap Gd with a word in shared data SRAM. -/
  | xchg (core : CoreId) (gd gb : Reg) (d : BitVec 16) (parity : Bool)
  /-- R383: Branch when Ga equals Gb. -/
  | brEq (core : CoreId) (ga gb : Reg) (off : BitVec 18)
  /-- R383: Branch when Ga differs from Gb. -/
  | brNe (core : CoreId) (ga gb : Reg) (off : BitVec 18)
  /-- R383: Branch when Ga is less than Gb, signed. -/
  | brLt (core : CoreId) (ga gb : Reg) (off : BitVec 18)
  /-- R383: Branch when Ga is at least Gb, signed. -/
  | brGe (core : CoreId) (ga gb : Reg) (off : BitVec 18)
  /-- R383: Branch when Ga is less than Gb, unsigned. -/
  | brLo (core : CoreId) (ga gb : Reg) (off : BitVec 18)
  /-- R383: Branch when Ga is at least Gb, unsigned. -/
  | brHs (core : CoreId) (ga gb : Reg) (off : BitVec 18)
  /-- R383: Branch on a compare of Ga with zero by COND. -/
  | brz (core : CoreId) (ga : Reg) (cond : BitVec 4) (off : BitVec 18)
  /-- R384: PC-relative jump. -/
  | jmp (core : CoreId) (off : BitVec 26)
  /-- R384: Push the return address and jump PC-relative. -/
  | call (core : CoreId) (off : BitVec 26)
  /-- R385: Copy elements from G1 to G2, G3 times. -/
  | scopy (core : CoreId) (stride : BitVec 4) (size : BitVec 2) (parity : Bool) (upto : Option Nat)
  /-- R385: Fill G3 elements at G2 with Ga. -/
  | sfill (core : CoreId) (ga : Reg) (stride : BitVec 4) (size : BitVec 2) (upto : Option Nat)
  /-- R385: Compare two buffers until COND holds. -/
  | smatch (core : CoreId) (stride : BitVec 4) (cond size : BitVec 2) (parity : Bool) (upto : Option Nat)
  /-- R385: Scan a buffer for an element meeting COND against Ga. -/
  | sseek (core : CoreId) (ga : Reg) (stride : BitVec 4) (cond size : BitVec 2) (parity : Bool) (upto : Option Nat)
  /-- R387: Raise BREAK. -/
  | brk (core : CoreId)
  /-- R387: The NOP instruction does nothing. -/
  | instrNop (core : CoreId)
  /-- R387: Raise TRAP with an immediate code. -/
  | trap (core : CoreId) (imm : BitVec 10)
  /-- R352: Pop the return address and jump to it. -/
  | ret (core : CoreId) (parity : Bool)
  /-- R365: Return from an interrupt, or tail-chain to a deliverable source. -/
  | reti (core : CoreId) (parity : Bool)
  /-- R358: Return from an exception, restoring STATUS from ESTATUS. -/
  | eret (core : CoreId)
  /-- R366: Stop fetch and gate the core clock until a source is deliverable. -/
  | wait (core : CoreId)
  /-- R384: Jump to the address in Ga. -/
  | jr (core : CoreId) (ga : Reg)
  /-- R384: Push the return address and jump to the address in Ga. -/
  | callr (core : CoreId) (ga : Reg)
  /-- R387: Read a system register. -/
  | mfs (core : CoreId) (gd : Reg) (n : BitVec 10)
  /-- R388: Write a system register. -/
  | mts (core : CoreId) (ga : Reg) (n : BitVec 10)
  /-- R388: Read STATUS and clear IE in one step. -/
  | di (core : CoreId) (gd : Reg)
  /-- R388: Set STATUS.IE. -/
  | ei (core : CoreId)
  /-- R268: A host read of the register file returns the addressed bytes, clears the RC fields it returns and gives 0xFFFF_00nn for an off or unclocked home domain. -/
  | hostRegisterRead (off size : Nat)
  /-- R264: PCI Express link training completes and the link comes up, setting STATUS.GEN and WIDTH and letting configuration requests be answered. -/
  | pcieLinkUp (gen width : Nat)
  /-- R312: The host clears the mask of an MSI-X vector whose pending bit is set, and the held message is sent. -/
  | msixVectorUnmask (vec : Fin 16)
  /-- R293: A completion returns for a device read of the ring table or of command descriptors; the data are checked or entered, or a UR, CA or poisoned completion sets ERR_STATUS.HOSTRD. -/
  | hostReadCompletion (r : HostRead)
  /-- R440: During a DORMANT entry the link reaches L2/L3 Ready and Bellows powers the HOST domain off. -/
  | l2l3Ready
  /-- R442: No L2/L3 Ready and no PERST# arrive within 100 ms of a DORMANT entry, and the PCIe controller refuses the entry. -/
  | l2l3ReadyTimeout
deriving DecidableEq, Repr

end Sys2Proof
end

