-- ==== Sys2Proof/WellFormed.lean ====
section
/-! DEFINITION. Which commands are well formed: the reserved encodings and register restrictions of the Izyten instructions
(13 R375, R378, R380, R383, R385, 12 R349). A command outside the instruction set has no reserved form here: what the manual says of
its out-of-range values is part of its meaning. -/

namespace Sys2Proof

/-- A load does not update and load one register at once (12 R349, 13 R380). -/
def loadOk (gd gb : Reg) : AMode → Bool
  | .disp _ => true
  | .index _ _ => true
  | .postInc _ _ => gd != gb
  | .preDec => gd != gb

/-- A string instruction's STRIDE and SIZE are not reserved (13 R385). -/
def stringOk (stride : BitVec 4) (size : BitVec 2) : Bool := stride != 0#4 && size != 3#2

/-- The well-formed commands. -/
def Instr.wf : Instr → Bool
  | .ldb _ gd gb m _ => loadOk gd gb m
  | .ldbu _ gd gb m _ => loadOk gd gb m
  | .ldh _ gd gb m _ => loadOk gd gb m
  | .ldhu _ gd gb m _ => loadOk gd gb m
  | .ldw _ gd gb m _ => loadOk gd gb m
  | .brz _ _ cond _ => decide (cond.toNat < 6)
  | .scopy _ stride size _ _ => stringOk stride size
  | .sfill _ ga stride size _ => stringOk stride size && ga != 2 && ga != 3
  | .smatch _ stride _ size _ _ => stringOk stride size
  | .sseek _ ga stride _ size _ _ => stringOk stride size && ga != 1 && ga != 3
  | _ => true

end Sys2Proof
end

