-- ==== Sys2Proof/Decode.lean ====
section
/-! DEFINITION. The commands that a word spells by the bits of spec/opcode_table.json: no row of the table gives a bit, so no word spells a
command. And the decoder of the Izyten instruction words, whose encodings chapter 13 gives (13 R373 to R390). -/

namespace Sys2Proof

/-- The command spelt by a word of `nbits` bits: none, since the table gives its rows no bits. -/
def decodeTableWord (_nbits _w : Nat) : Option Instr := none

/-! ### Izyten instruction words -/

/-- Bits `lo` to `lo + n - 1` of an instruction word. -/
def wordField (w : Word) (lo n : Nat) : BitVec n := w.extractLsb' lo n

/-- The register field at bit `lo` (13 R373). -/
def wordReg (w : Word) (lo : Nat) : Reg := Fin.ofNat 16 (wordField w lo 4).toNat

/-- The integer group by FN (13 R377); rows marked b = 0 take no Gb. -/
def integerOf (c : CoreId) (fn : Nat) (gd ga gb : Reg) : Option Instr :=
  match fn with
  | 0x00 => some (.add c gd ga gb)
  | 0x01 => some (.sub c gd ga gb)
  | 0x02 => some (.and c gd ga gb)
  | 0x03 => some (.or c gd ga gb)
  | 0x04 => some (.xor c gd ga gb)
  | 0x05 => some (.cmplt c gd ga gb)
  | 0x06 => some (.cmplo c gd ga gb)
  | 0x07 => some (.min c gd ga gb)
  | 0x08 => some (.max c gd ga gb)
  | 0x09 => some (.minu c gd ga gb)
  | 0x0A => some (.maxu c gd ga gb)
  | 0x0B => some (.shl c gd ga gb)
  | 0x0C => some (.shru c gd ga gb)
  | 0x0D => some (.shrs c gd ga gb)
  | 0x10 => some (.mul c gd ga gb)
  | 0x11 => some (.mulhs c gd ga gb)
  | 0x12 => some (.mulhu c gd ga gb)
  | 0x14 => some (.addsat c gd ga gb)
  | 0x15 => some (.subsat c gd ga gb)
  | 0x18 => if gb = 0 then some (.sexb c gd ga) else none
  | 0x19 => if gb = 0 then some (.sexh c gd ga) else none
  | 0x1A => if gb = 0 then some (.clz c gd ga) else none
  | _ => none

/-- The Q15 group by FN (13 R379). -/
def q15Of (c : CoreId) (fn : Nat) (gd ga gb : Reg) : Option Instr :=
  match fn with
  | 0x00 => some (.mulq c gd ga gb)
  | 0x01 => some (.macq c gd ga gb)
  | 0x02 => some (.msuq c gd ga gb)
  | 0x03 => if gb = 0 then some (.rndq c gd ga) else none
  | 0x04 => some (.addq c gd ga gb)
  | 0x05 => some (.subq c gd ga gb)
  | _ => none

/-- The immediate shifts (13 R378): [6:5] the kind, [17:7] reserved. -/
def shiftOf (c : CoreId) (gd ga : Reg) (imm : BitVec 18) : Option Instr :=
  let sh := imm.extractLsb' 0 5
  if imm.extractLsb' 7 11 ≠ 0#11 then none
  else match (imm.extractLsb' 5 2).toNat with
    | 0 => some (.shlK c gd ga sh)
    | 1 => some (.shruK c gd ga sh)
    | 2 => some (.shrsK c gd ga sh)
    | _ => none

/-- The addressing mode of format M (13 R380); none where a reserved field is not zero. -/
def modeOf (w : Word) : Option AMode :=
  match (wordField w 16 2).toNat with
  | 0 => some (.disp (wordField w 0 16))
  | 1 => if wordField w 0 10 = 0#10 then some (.index (wordReg w 12) (Fin.ofNat 4 (wordField w 10 2).toNat)) else none
  | 2 =>
    if wordField w 8 5 ≠ 0#5 then none
    else if wordField w 15 1 = 1#1 then some (.postInc (some (Fin.ofNat 4 (wordField w 13 2).toNat)) (wordField w 0 8))
    else some (.postInc none (wordField w 0 8))
  | _ => if wordField w 0 16 = 0#16 then some .preDec else none

/-- Format M by major opcode (13 R374, R380, R382). -/
def memoryOf (c : CoreId) (op : Nat) (r gb : Reg) (m : AMode) : Option Instr :=
  match op with
  | 0x10 => some (.ldb c r gb m false)
  | 0x11 => some (.ldbu c r gb m false)
  | 0x12 => some (.ldh c r gb m false)
  | 0x13 => some (.ldhu c r gb m false)
  | 0x14 => some (.ldw c r gb m false)
  | 0x16 => match m with
    | .disp d => some (.xchg c r gb d false)
    | _ => none
  | 0x18 => some (.stb c r gb m)
  | 0x19 => some (.sth c r gb m)
  | 0x1A => some (.stw c r gb m)
  | _ => none

/-- Format T by KIND (13 R385): the fields that a kind does not use are zero. -/
noncomputable def stringOf (c : CoreId) (w : Word) : Option Instr :=
  let ga := wordReg w 22
  let st := wordField w 8 4
  let cond := wordField w 4 2
  let size := wordField w 0 2
  if wordField w 14 8 ≠ 0#8 ∨ wordField w 6 2 ≠ 0#2 ∨ wordField w 2 2 ≠ 0#2 then none
  else match (wordField w 12 2).toNat with
    | 0 => if ga = 0 ∧ cond = 0#2 then some (.scopy c st size false none) else none
    | 1 => if cond = 0#2 then some (.sfill c ga st size none) else none
    | 2 => if ga = 0 then some (.smatch c st cond size false none) else none
    | _ => some (.sseek c ga st cond size false none)

/-- Format S by FN (13 R387): the fields that a row does not use are zero. -/
noncomputable def systemOf (c : CoreId) (w : Word) : Option Instr :=
  let gd := wordReg w 22
  let ga := wordReg w 18
  let imm := wordField w 8 10
  let only (d a i : Bool) (x : Instr) : Option Instr :=
    if (d || gd == 0) && (a || ga == 0) && (i || imm == 0#10) then some x else none
  match (wordField w 0 8).toNat with
  | 0x00 => only false false false (.brk c)
  | 0x01 => only false false false (.instrNop c)
  | 0x02 => only false false true (.trap c imm)
  | 0x08 => only false false false (.ret c false)
  | 0x09 => only false false false (.reti c false)
  | 0x0A => only false false false (.eret c)
  | 0x0B => only false false false (.wait c)
  | 0x0C => only false true false (.jr c ga)
  | 0x0D => only false true false (.callr c ga)
  | 0x10 => only true false true (.mfs c gd imm)
  | 0x11 => only false true true (.mts c ga imm)
  | 0x12 => only true false false (.di c gd)
  | 0x13 => only false false false (.ei c)
  | _ => none

/-- The instruction of a word, before the restrictions of its operands (13 R374). -/
noncomputable def formatOf (c : CoreId) (w : Word) : Option Instr :=
  let op := (wordField w 26 6).toNat
  let gd := wordReg w 22
  let ga := wordReg w 18
  let imm := wordField w 0 18
  match op with
  | 0x00 => systemOf c w
  | 0x01 => if wordField w 6 8 = 0#8 then integerOf c (wordField w 0 6).toNat gd ga (wordReg w 14) else none
  | 0x02 => if wordField w 6 8 = 0#8 then q15Of c (wordField w 0 6).toNat gd ga (wordReg w 14) else none
  | 0x04 => some (.addK c gd ga imm)
  | 0x05 => some (.andK c gd ga imm)
  | 0x06 => some (.orK c gd ga imm)
  | 0x07 => some (.xorK c gd ga imm)
  | 0x08 => some (.cmpltK c gd ga imm)
  | 0x09 => some (.cmploK c gd ga imm)
  | 0x0A => shiftOf c gd ga imm
  | 0x0B => if ga = 0 then some (.ldhi c gd imm) else none
  | 0x20 => some (.brEq c gd ga imm)
  | 0x21 => some (.brNe c gd ga imm)
  | 0x22 => some (.brLt c gd ga imm)
  | 0x23 => some (.brGe c gd ga imm)
  | 0x24 => some (.brLo c gd ga imm)
  | 0x25 => some (.brHs c gd ga imm)
  | 0x26 => some (.brz c gd (wordField w 18 4) imm)
  | 0x28 => some (.jmp c (wordField w 0 26))
  | 0x29 => some (.call c (wordField w 0 26))
  | 0x2C => stringOf c w
  | _ => (modeOf w).bind (memoryOf c op gd ga)

/-- The instruction that core `c` reads from a word; none for a reserved encoding (13 R375). What the memory returns with it, a parity
error of a load's data, is no part of the word and reads false. (Lean compiles no constructor of so long a type; the kernel evaluates it.) -/
noncomputable def instrOfWord (c : CoreId) (w : Word) : Option Instr := (formatOf c w).filter (·.wf)

end Sys2Proof
end

