-- ==== Sys2Proof/Machine/Bits.lean ====
section
/-! DEFINITION. Bit fields, byte order, rounding and saturation, and the checksums of 07 R192 and 11 R318. -/

namespace Sys2Proof.Machine

/-- Bits `[lo + w - 1 : lo]` of `v` (00 R7). -/
def fld (v lo w : Nat) : Nat := v / 2 ^ lo % 2 ^ w

/-- Bit `i` of `v`. -/
def bit (v i : Nat) : Bool := v / 2 ^ i % 2 == 1

/-- A Boolean as a bit value. -/
def b2n (b : Bool) : Nat := if b then 1 else 0

/-- The word whose fields are given as (value, low bit). -/
def pack : List (Nat × Nat) → Nat
  | [] => 0
  | f :: fs => f.1 * 2 ^ f.2 + pack fs

/-- A bit set as a number, from the list of its set bit numbers. -/
def bitSet (is : List Nat) : Nat := is.eraseDups.foldl (fun a i => a + 2 ^ i) 0

/-- The set bits of `v` below `n`. -/
def bitsOf (n v : Nat) : List Nat := (List.range n).filter (bit v)

/-- Number of set bits of `v` below `n`. -/
def popcount (n v : Nat) : Nat := (bitsOf n v).length

/-- The low `w` bits of `v` as a two's complement number. -/
def sext (w v : Nat) : Int :=
  let u := v % 2 ^ w
  if u < 2 ^ (w - 1) then (u : Int) else (u : Int) - (2 ^ w : Nat)

/-- The two's complement bits of `x` in a field of `w` bits. -/
def tc (w : Nat) (x : Int) : Nat := (x % ((2 ^ w : Nat) : Int)).toNat

/-- `x` limited to `lo` to `hi`. -/
def clampI (lo hi x : Int) : Int := if x < lo then lo else if hi < x then hi else x

/-- `x` limited to a signed field of `w` bits. -/
def satI (w : Nat) (x : Int) : Int := clampI (-(2 ^ (w - 1) : Nat)) ((2 ^ (w - 1) : Nat) - 1) x

/-- A saturating counter of `w` bits advanced by `k` (00 R11). -/
def cnt (w v k : Nat) : Nat := Nat.min (v + k) (2 ^ w - 1)

/-- `x / 2^n` rounded toward minus infinity (an arithmetic shift right). -/
def asr (x : Int) (n : Nat) : Int := x / ((2 ^ n : Nat) : Int)

/-- `x / 2^n` rounded to the nearest, a half upward: (x + 2^(n-1)) >> n. -/
def rshr (x : Int) (n : Nat) : Int := (x + (2 ^ (n - 1) : Nat)) / ((2 ^ n : Nat) : Int)

/-- Serial arithmetic of 00 R14: `a` is later than `b`. -/
def later (a b : Nat) : Bool := 0 < sext 32 ((a + (2 ^ 32 - b % 2 ^ 32)) % 2 ^ 32)
  && (a + (2 ^ 32 - b % 2 ^ 32)) % 2 ^ 32 != 2 ^ 31

/-- `a - b` of two 32-bit counters. -/
def diff32 (a b : Nat) : Nat := (a % 2 ^ 32 + (2 ^ 32 - b % 2 ^ 32)) % 2 ^ 32

/-- The 32-bit counter `k` places on. -/
def add32 (a k : Nat) : Nat := (a + k) % 2 ^ 32

/-- The least `n` bytes of `v`, least significant first. -/
def leBytes : Nat → Nat → List Byte
  | 0, _ => []
  | n + 1, v => BitVec.ofNat 8 v :: leBytes n (v / 256)

/-- The number that bytes spell, least significant first. -/
def leNat : List Byte → Nat
  | [] => 0
  | b :: bs => b.toNat + 256 * leNat bs

/-- `n` bytes of `bs` from offset `o` as a number; bytes past the end count 0. -/
def leAt (bs : List Byte) (o n : Nat) : Nat := leNat ((bs.drop o).take n)

/-- `bs` with the bytes from offset `o` replaced by `xs`, the length kept. -/
def patch (bs : List Byte) (o : Nat) (xs : List Byte) : List Byte :=
  (bs.take o ++ xs ++ bs.drop (o + xs.length)).take bs.length

/-- A zero-filled list of bytes. -/
def zeros (n : Nat) : List Byte := List.replicate n 0

/-- `n` copies of the fill after `bs`, cut to `n` bytes in all. -/
def padTo (n : Nat) (bs : List Byte) : List Byte := (bs ++ zeros n).take n

/-- One bit of the reflected CRC-32. -/
def crc32Bit (c : BitVec 32) : BitVec 32 :=
  if c.getLsbD 0 then (c >>> 1) ^^^ 0xEDB88320#32 else c >>> 1

/-- One byte of the CRC-32. -/
def crc32Byte (c : BitVec 32) (b : Byte) : BitVec 32 :=
  crc32Bit (crc32Bit (crc32Bit (crc32Bit (crc32Bit (crc32Bit (crc32Bit (crc32Bit (c ^^^ b.setWidth 32))))))))

/-- The CRC-32 of 07 R192: IEEE 802.3, reflected, initial value and final complement all ones. -/
def crc32 (bs : List Byte) : Nat := (bs.foldl crc32Byte 0xFFFFFFFF#32 ^^^ 0xFFFFFFFF#32).toNat

/-- One bit of the CRC-16. -/
def crc16Bit (c : BitVec 16) : BitVec 16 :=
  if c.getLsbD 15 then (c <<< 1) ^^^ 0x1021#16 else c <<< 1

/-- One byte of the CRC-16. -/
def crc16Byte (c : BitVec 16) (b : Byte) : BitVec 16 :=
  crc16Bit (crc16Bit (crc16Bit (crc16Bit (crc16Bit (crc16Bit (crc16Bit (crc16Bit (c ^^^ (b.setWidth 16 <<< 8)))))))))

/-- The CRC-16 of 11 R318: polynomial 0x1021, initial value 0xFFFF, no reflection, no complement. -/
def crc16 (bs : List Byte) : Nat := (bs.foldl crc16Byte 0xFFFF#16).toNat

/-- Element `i` of a list, or `d` past its end. -/
def nth {α : Type} (l : List α) (i : Nat) (d : α) : α := l.getD i d

/-- Element `i` replaced by what `f` makes of it. -/
def modAt {α : Type} (l : List α) (i : Nat) (f : α → α) : List α := l.modify i f

/-- The value filed under `k`, if one is. -/
def assoc {α : Type} (l : List (Nat × α)) (k : Nat) : Option α := (l.find? (·.1 == k)).map (·.2)

/-- `l` with `v` filed under `k`, replacing what stood there. -/
def file {α : Type} (l : List (Nat × α)) (k : Nat) (v : α) : List (Nat × α) := l.filter (·.1 != k) ++ [(k, v)]

/-- Integer square root by bisection over `w` bits: the largest r with r * r ≤ x, for x below 4^w. -/
def isqrtAux (x : Nat) : Nat → Nat → Nat
  | 0, r => r
  | w + 1, r => if (r + 2 ^ w) * (r + 2 ^ w) ≤ x then isqrtAux x w (r + 2 ^ w) else isqrtAux x w r

/-- Integer square root of a number below 2^128. -/
def isqrt (x : Nat) : Nat := isqrtAux x 64 0

/-- Position of the highest set bit of a number below 2^n; 0 for 0. -/
def log2Aux : Nat → Nat → Nat
  | 0, _ => 0
  | n + 1, x => if x < 2 ^ (n + 1) then log2Aux n x else n + 1

/-- Floor of the base-two logarithm of a number below 2^64. -/
def ilog2 (x : Nat) : Nat := log2Aux 64 x

/-- `x` is a power of two. -/
def isPow2 (x : Nat) : Bool := x != 0 && 2 ^ ilog2 x == x

/-- Bit reversal of the low `k` bits (12 R350). -/
def revBits (k x : Nat) : Nat :=
  (List.range k).foldl (fun a i => if bit x i then a + 2 ^ (k - 1 - i) else a) 0

end Sys2Proof.Machine
end

