-- ==== Sys2Proof/Machine/Codec.lean ====
section
/-! DEFINITION. The block formats of Mute (11 R317 to R327): FR, LL-G and LL-R, encoded and decoded. -/

namespace Sys2Proof.Machine

/-- The 64 samples of a block of 128 bytes (11 R317). -/
def samplesOf (b : List Byte) : List Int := (List.range 64).map (fun j => sext 16 (leAt b (2 * j) 2))

/-- Samples as little-endian bytes. -/
def bytesOf (xs : List Int) : List Byte := xs.flatMap (fun x => leBytes 2 (tc 16 x))

/-- A block with its trailer (11 R318). -/
def sealBlock (b : List Byte) : List Byte := b ++ leBytes 2 (crc16 b)

/-- The trailer of a whole block is right. -/
def blockCrcOk (b : List Byte) : Bool := crc16 (b.take (b.length - 2)) == leAt b (b.length - 2) 2

/-- Why a block cannot be decoded. -/
inductive BlockErr where
  | crc | format
deriving DecidableEq, Repr

/-! ### FR (11 R320 to R322) -/

/-- The 64 bytes of an FR block from its fields. -/
def frBlock (base : Int) (shift bidx kind elo : Nat) (res : List Nat) : List Byte :=
  sealBlock (leBytes 2 (tc 16 base) ++ leBytes 2 (pack [(shift, 0), (bidx % 512, 4), (kind, 13)]) ++ leBytes 2 elo ++
    leBytes 56 (pack (List.zip res ((List.range 64).map (7 * ·)))))

/-- The smallest shift from `s` on with which a span fits 7 bits. -/
def frShift (span : Nat) : Nat → Nat → Nat
  | 0, s => s
  | n + 1, s => if span / 2 ^ s ≤ 127 then s else frShift span n (s + 1)

/-- An FR block of 128 input bytes (11 R321). -/
def frEncode (bidx kind elo : Nat) (b : List Byte) : List Byte :=
  let xs := samplesOf b
  let base := xs.foldl min (xs.headD 0)
  let top := xs.foldl max (xs.headD 0)
  let sh := frShift (top - base).toNat 9 0
  frBlock base sh bidx kind elo (xs.map (fun x => (x - base).toNat / 2 ^ sh))

/-- A dropped-block marker (11 R322). -/
def frMarker (bidx kind elo : Nat) : List Byte := frBlock 0 15 bidx kind elo (List.replicate 64 0)

/-- SHIFT of an FR block. -/
def frShiftOf (b : List Byte) : Nat := fld (leAt b 2 2) 0 4

/-- The samples of an FR block; a marker gives 64 zeros. -/
def frDecode (b : List Byte) : Except BlockErr (List Int) :=
  if !blockCrcOk b then .error .crc
  else
    let h := leAt b 2 2
    let sh := fld h 0 4
    if (10 ≤ sh ∧ sh ≤ 14) ∨ fld h 13 2 = 2 ∨ bit h 15 then .error .format
    else if sh = 15 then .ok (List.replicate 64 0)
    else
      let r := leAt b 6 56
      .ok ((List.range 64).map (fun j => sext 16 (leAt b 0 2) + ((r / 2 ^ (7 * j) % 128 * 2 ^ sh : Nat) : Int)))

/-! ### LL-G (11 R323 to R325) -/

/-- A signed 16-bit difference mapped to an unsigned value (11 R324). -/
def zig (v : Int) : Nat := if 0 ≤ v then (2 * v).toNat else (-2 * v - 1).toNat

/-- Its inverse. -/
def zag (z : Nat) : Int := if z % 2 = 0 then ((z / 2 : Nat) : Int) else -(((z + 1) / 2 : Nat) : Int)

/-- The z values of the samples under PRED. -/
def llgZ (pred : Bool) (xs : List Int) : List Nat :=
  (List.zip xs (if pred then 0 :: xs else List.replicate 64 0)).map (fun p => zig (sext 16 (tc 16 (p.1 - p.2))))

/-- Bits needed for a value: the least w with z < 2^w. -/
def bitWidth (z : Nat) : Nat := if z = 0 then 0 else ilog2 z + 1

/-- A bit string as (number, length) with a field of `w` bits appended. -/
def appendBits (a : Nat × Nat) (v w : Nat) : Nat × Nat := (a.1 + v * 2 ^ a.2, a.2 + w)

/-- The coded body (11 R324). -/
def llgBody (pred : Bool) (xs : List Int) : List Byte :=
  let z := llgZ pred xs
  let g (i : Nat) : List Nat := (z.drop (16 * i)).take 16
  let w (i : Nat) : Nat := (g i).foldl (fun a v => Nat.max a (bitWidth v)) 0
  let head := (List.range 4).foldl (fun a i => appendBits a (w i) 5) (0, 0)
  let all := (List.range 4).foldl (fun a i => (g i).foldl (fun a v => appendBits a v (w i)) a) head
  leBytes ((all.2 + 7) / 8) all.1

/-- An LL-G block of 128 input bytes (11 R325). -/
def llgEncode (b : List Byte) : List Byte :=
  let xs := samplesOf b
  let p1 := llgBody true xs
  let p0 := llgBody false xs
  let (body, flags) := if p1.length ≤ p0.length then (p1, 2) else (p0, 0)
  if 127 < body.length then sealBlock (leBytes 1 128 ++ leBytes 1 1 ++ padTo 128 b)
  else sealBlock (leBytes 1 body.length ++ leBytes 1 flags ++ body)

/-- `n` fields of `w` bits from bit `o` of a number. -/
def takeBits (v o w n : Nat) : List Nat := (List.range n).map (fun i => v / 2 ^ (o + w * i) % 2 ^ w)

/-- The samples of a coded body; none when its length or padding does not fit it. -/
def llgSamples (pred : Bool) (body : List Byte) : Option (List Int) :=
  let v := leNat body
  let w := takeBits v 0 5 4
  let wi (i : Nat) : Nat := w.getD i 0
  let o (i : Nat) : Nat := 20 + 16 * (w.take i).sum
  if w.any (16 < ·) || (o 4 + 7) / 8 != body.length || v / 2 ^ (o 4) != 0 then none
  else
    let z := (List.range 4).flatMap (fun i => takeBits v (o i) (wi i) 16)
    let xs := z.foldl (fun (a : Int × List Int) z =>
      let x := sext 16 (tc 16 ((if pred then a.1 else 0) + zag z))
      (x, a.2 ++ [x])) (0, [])
    some xs.2

/-- The length of an LL-G block at the front of the input, and its 128 bytes. -/
def llgDecode (b : List Byte) : Except BlockErr (Nat × List Byte) :=
  let n := leAt b 0 1
  let f := leAt b 1 1
  if n = 0 ∨ 128 < n ∨ b.length < n + 4 then .error .format
  else
    let blk := b.take (n + 4)
    if !blockCrcOk blk then .error .crc
    else if 4 ≤ f then .error .format
    else if f % 2 = 1 then (if n = 128 then .ok (n + 4, (blk.drop 2).take 128) else .error .format)
    else match llgSamples (2 ≤ f) ((blk.drop 2).take n) with
      | some xs => .ok (n + 4, bytesOf xs)
      | none => .error .format

/-! ### LL-R (11 R326, R327) -/

/-- Equal bytes at the front of a list, at most `n`. -/
def runLen : Nat → List Byte → Nat
  | 0, _ => 0
  | _, [] => 0
  | n + 1, b :: bs => match bs with
    | [] => 1
    | c :: _ => if b = c then runLen n bs + 1 else 1

/-- A literal token of the bytes collected. -/
def litToken (l : List Byte) : List Byte := if l.isEmpty then [] else leBytes 1 (l.length - 1) ++ l

/-- The tokens of a block (11 R327); `l` collects the literal stretch under way. -/
def llrTokens : Nat → List Byte → List Byte → List Byte
  | 0, l, _ => litToken l
  | _, l, [] => litToken l
  | n + 1, l, b :: bs =>
    let r := runLen 130 (b :: bs)
    if 3 ≤ r then litToken l ++ leBytes 1 (0x80 + (r - 3)) ++ [b] ++ llrTokens n [] ((b :: bs).drop r)
    else if l.length = 127 then litToken (l ++ [b]) ++ llrTokens n [] bs
    else llrTokens n (l ++ [b]) bs

/-- An LL-R block of 128 input bytes (11 R327). -/
def llrEncode (b : List Byte) : List Byte :=
  let body := llrTokens 129 [] (padTo 128 b)
  if 128 ≤ body.length then sealBlock (leBytes 1 0x80 ++ padTo 128 b) else sealBlock (leBytes 1 0 ++ body)

/-- Tokens read until 128 bytes stand: bytes read and produced. -/
def llrRead : Nat → List Byte → Nat → List Byte → Option (Nat × List Byte)
  | 0, _, _, _ => none
  | n + 1, bs, used, out =>
    if out.length = 128 then some (used, out)
    else match bs with
      | [] => none
      | c :: rest =>
        let v := c.toNat
        if v < 0x80 then
          if rest.length < v + 1 ∨ 128 < out.length + v + 1 then none
          else llrRead n (rest.drop (v + 1)) (used + v + 2) (out ++ rest.take (v + 1))
        else match rest with
          | [] => none
          | x :: rest2 =>
            let k := v - 0x80 + 3
            if 128 < out.length + k then none else llrRead n rest2 (used + 2) (out ++ List.replicate k x)

/-- The length of an LL-R block at the front of the input, and its 128 bytes. -/
def llrDecode (b : List Byte) : Except BlockErr (Nat × List Byte) :=
  let h := leAt b 0 1
  let body := if 128 ≤ h then (if b.length < 131 then none else some (128, (b.drop 1).take 128)) else llrRead 130 (b.drop 1) 0 []
  match body with
  | none => .error .format
  | some (n, out) =>
    if b.length < n + 3 then .error .format
    else if !blockCrcOk (b.take (n + 3)) then .error .crc
    else if h % 128 ≠ 0 then .error .format
    else .ok (n + 3, out)

/-- A whole LL-R coded image, block after block (11 R326): the decoded bytes, none when a block fails. -/
def llrImage : Nat → List Byte → Option (List Byte)
  | 0, b => if b.isEmpty then some [] else none
  | n + 1, b =>
    if b.isEmpty then some []
    else match llrDecode b with
      | .error _ => none
      | .ok (k, out) => (llrImage n (b.drop k)).map (out ++ ·)

end Sys2Proof.Machine
end

