-- ==== Sys2Proof/Config.lean ====
section
/-! DEFINITION. What the manual leaves open: free values, which nothing in Lean can evaluate. -/

namespace Sys2Proof

/-- A fresh free value: the n-th one drawn in a run (log entry 2). -/
opaque Config.freeValue : Nat → Word

/-- The boot ROM's contents, which the manual does not give (12 R342): the byte at an offset (log entry 5). -/
opaque Config.bootRom : Nat → Byte

/-- The value an ideal chain gives for the calibration charge (03 R67: a known charge, whose size the manual does not state), of the width
of a step value (03 R66), by REED_GAIN and DRIVE_AMP (log entry 24). -/
opaque Config.calTarget : Nat → Nat → BitVec 24

/-- The payload bytes of a message whose format the manual leaves to the firmware interface (07 R200, 00 R2), by frame of the message
(log entry 105). -/
opaque Config.msgPayload : Msg → Nat → List Byte

/-- The message header that begins a message of several frames: 8 bytes that carry its message number, at places the manual does not
give (07 R200; log entry 105): by number and byte. -/
opaque Config.msgHead : Nat → Nat → Byte

/-- The LTSSM state code of diagnostic item 0x0400 (09 R278), whose coding the manual does not give: by link state (log entry 6). -/
opaque Config.ltssm : Nat → Word

end Sys2Proof
end

