-- ==== Sys2Proof/Machine/State.lean ====
section
/-! DEFINITION. The state of the block: every register, RAM, queue, counter and mode the manual gives one TK6420, grouped by the
block that owns it, and the queue of waiting commands. Each field's default is its value after reset; where the manual states none,
log entry 3 names the value. Registers that are packed views of these fields are computed where they are read. -/

namespace Sys2Proof.Machine

/-- Why a step stops with a fault. -/
inductive Fault where
  /-- An Izyten command whose fields form a reserved encoding (13 R375, 12 R349: it does undefined things). Raised by the
  instruction meanings; safe. -/
  | reservedEncoding
  /-- An Izyten command placed in a delay slot where 12 R355 or 13 R389 reserves the use. Raised by the instruction meanings; safe. -/
  | reservedUse
deriving DecidableEq, Repr

/-- Why a step gives a command no meaning. -/
inductive Refusal where
  /-- The command is not modelled yet. Raised by the arms of exec only; safe. -/
  | notModelled (mnemonic : String)
deriving DecidableEq, Repr

/-- A store of bytes in its canonical form: addresses strictly rising, no entry equal to what an unlisted address reads as. -/
abbrev Memory := List Host.Cell

/-! ### Straps, boot, clocks and resets (01, 15, 19) -/

/-- How far the device has come up (19 R491 to R496). -/
inductive BootPhase where
  /-- `PORn` is low. -/
  | held
  /-- Bring-up failed; CORE, AFE and LINK stay in reset until the next attempt (R491). -/
  | failed
  /-- Core 0 runs the boot ROM (R492). -/
  | rom
  /-- The loader waits for the host (R494). -/
  | loader
  /-- A member's boot ROM waits for ENUM (R497). -/
  | waitEnum
  /-- A member waits for FW_DATA (R497). -/
  | waitFw
  /-- Firmware has been started and has not completed R496. -/
  | started
  /-- Firmware runs. -/
  | running
  /-- Core 0 restarts its firmware (18 R484). -/
  | restart
deriving DecidableEq, Repr

structure Boot where
  phase : BootPhase := .held
  role : Role := .standalone
  maddr : Nat := 0
  eepromSel : Bool := false
  /-- Firmware interface level of the image held (09 R272 CAPS1, 17 R470 FW_LEVEL). -/
  level : Nat := 0
  /-- Bytes and CRC-32 of the image in code SRAM. -/
  fwLen : Nat := 0
  fwCrc : Nat := 0
  /-- 0 settings memory, 1 loader, 2 root (19 R503). -/
  source : Nat := 0
  /-- Loader: length, CRC-32 and level of LOAD_BEGIN (19 R495). -/
  load : Option (Nat × Nat × Nat) := none
  fwvalid : Bool := false
  /-- Core 0's restart (18 R484) waits for the loader (R503). -/
  reload : Bool := false
  /-- A PARITY event for core 0 code or data, deferred until the restart completes (18 R484). -/
  restartPar : Bool := false
  /-- Damage found during the restart, whose mending it defers (18 R485). -/
  parWait : List ParityHit := []
  ready : Bool := false
  /-- The member sent READY a second time after a bad image (19 R497). -/
  fwRetried : Bool := false
  /-- The boot context of 19 R500 is still to be decided. -/
  bootCtxDue : Bool := false
  /-- At a member: an update image that stands checked in the capture staging region (07 R231): its length, CRC-32 and level, and the
  epoch at which it is to be started once the command has named one. -/
  staged : Option (Nat × Nat × Nat) := none
  stagedAt : Option Nat := none
  /-- The applet image of the header that a root also sends to its members (19 R498). -/
  applet : List Byte := []
  /-- The boot follows an exit from DORMANT (16 R441). -/
  dormant : Bool := false
deriving DecidableEq, Repr

structure Clocks where
  pllLock : Bool := false
  xtalOk : Bool := false
  aonXtal : Bool := false
  limpClk : Bool := false
  unlock : Nat := 0
  mergeIcu : Nat := 0
  mergeWake : Nat := 0
  dsRetry : Nat := 0
  abandon : Nat := 0
  /-- BEL_RST_CAUSE bits 0 to 6 (15 R429). -/
  rstPor : Bool := true
  rstPerst : Bool := false
  rstCoreCtl : Bool := false
  rstUnlock : Bool := false
  rstCoreBo : Bool := false
  rstMember : Bool := false
  rstWdog : Bool := false
  /-- Domains on and clocked (01 R17): CORE, AFE, LINK, HOST. AON is always on. -/
  core : Bool := false
  afe : Bool := false
  link : Bool := false
  host : Bool := true
  /-- Device time in µs, counted at frame and Drone-period boundaries; the model's own clock for once-per-interval limits. -/
  now : Nat := 0
deriving DecidableEq, Repr

/-! ### Power (16) -/

/-- The power states in the encoding of `PWR_STATE.STATE` (09 R272). -/
inductive PState where
  | active | idleScan | drone | dormant
deriving DecidableEq, Repr

/-- A BEL counter (16 R453): COUNT and LASTID. -/
structure BelCnt where
  count : Nat := 0
  lastId : Nat := 0
deriving DecidableEq, Repr

structure Power where
  state : PState := .active
  busy : Bool := false
  limp : Bool := false
  hold : Bool := false
  /-- `PWR_REQ.STATE` in force, and the value latched while BUSY (16 R431). -/
  floor : Nat := 0
  floorNext : Option Nat := none
  target : PState := .active
  latched : Option Nat := none
  /-- Descent ordered and waiting for its boundary or a retry (16 R440, R442). -/
  entryDue : Option PState := none
  entryEpoch : Nat := 0
  /-- A DORMANT entry waiting for L2/L3 Ready (R440 step 6). -/
  awaitL2 : Bool := false
  /-- Sources on their way to Bellows (15 R422), and WAKE events to post once ACTIVE or IDLE-SCAN is reached (R439). -/
  wakeDue : List Nat := []
  /-- The port that the beacon on its way arrived on; the sources taken during an exit, which act when it completes (16 R443); and the source
  of a member's wake, which it tells the root of (16 R438; log entry 132). -/
  beaconPort : Option Port := none
  during : List Nat := []
  tellRoot : Option Nat := none
  wakeEvts : List Nat := []
  /-- The default wake applet runs (16 R452): its FINGER tracks now open with the device time of their NEW, and the short
  touches' LIFT times and positions. -/
  dfltApplet : Bool := false
  taps : List (Nat × Nat) := []
  lifted : List (Nat × Int × Int) := []
  /-- Consecutive quiet µs, µs in IDLE-SCAN, and whether a Drone trigger opened IDLE-SCAN (16 R432). -/
  quietUs : Nat := 0
  idleUs : Nat := 0
  byDrone : Bool := false
  wakeSinceDrone : Bool := false
  /-- Members' contact-present bits (16 R433). -/
  contactTiles : List Nat := []
  idleT : Nat := 30
  droneT : Nat := 60
  gestureT : Nat := 20
  wakeMode : Nat := 0
  rate : Nat := 2
  persist : Nat := 2
  shift : Nat := 6
  on : Nat := 96
  noise : Nat := 4000
  wakeEn : Nat := 0x3FFF
  wakeHost : Nat := 0x2FF0
  last : Nat := 0
  prev : Nat := 0
  new : Bool := false
  failStep : Nat := 0
  failAttempts : Nat := 0
  /-- A WAKE_FAIL event to post when ACTIVE is next reached (16 R449). -/
  failReport : Bool := false
  /-- Attempts made of the step being timed: LDO, crystal, PLL (16 R447). -/
  attempts : Nat := 0
  attemptStep : Nat := 0
  /-- The ordered entry was refused and waits for its next attempt (16 R442). -/
  refused : Bool := false
  counters : List BelCnt := List.replicate 32 {}
  /-- GPIO functions 0 to 3 (17 R471), latched edges and driven levels. -/
  gpio : List Nat := [0, 0, 0, 0]
  gpioEdge : List Bool := [false, false, false, false]
  gpioOut : List Bool := [false, false, false, false]
  /-- Offsets of the retention items found damaged, which count as absent (18 R482). -/
  retBad : List Nat := []
deriving DecidableEq, Repr

structure Drone where
  slot : Nat := 0
  pcnt : Nat := 0
  base : Bool := false
  gang : Nat := 0
  dd : List Int := List.replicate 8 0
  db : List Int := List.replicate 8 0
  /-- Sum of GV over the forming bursts, and their number (16 R436). -/
  acc : List Int := List.replicate 8 0
  formed : Nat := 0
  negRun : List Nat := List.replicate 8 0
  noisyRun : Nat := 0
  /-- Correction pairs of Reeds 0 to 7 for the five slots and FD_0 to FD_7, loaded at DRONE entry (16 R435). -/
  pairs : List (Int × Int) := List.replicate 40 (0, 0)
  fd : List Nat := List.replicate 8 0
deriving DecidableEq, Repr

/-! ### Host port (09) -/

/-- One MSI-X vector: its modulation (09 R276) and its pending and mask bits (10 R312). -/
structure Vec where
  count : Nat := 1
  time : Nat := 0
  unsignalled : Nat := 0
  /-- Those of the unsignalled events that came after the latest write of COUNT, and the TIME under which the first timed one came
  (09 R276). -/
  since : Nat := 0
  limit : Nat := 0
  due : Bool := false
  pend : Bool := false
  masked : Bool := true
  addr : Nat := 0
  data : Nat := 0
deriving DecidableEq, Repr

/-- Configuration space beside Bus Master Enable, Enable Relaxed Ordering and the power state (09 R258, R260). Sizes in bytes; `aer` is the
AER uncorrectable error status of the Base Specification (bit 12 poisoned TLP, bit 14 Completion Timeout). -/
structure CfgSpace where
  bar0 : Nat := 0
  maxPayload : Nat := 128
  maxRead : Nat := 512
  msixEn : Bool := false
  msixMask : Bool := false
  aer : Nat := 0
  /-- The latencies it reports, in microseconds (09 R260). -/
  l1Exit : Nat := 8
  tPowerOn : Nat := 70
deriving DecidableEq, Repr

structure HostPort where
  cfg : CfgSpace := {}
  /-- Configuration requests are answered with Configuration Request Retry Status (09 R264). -/
  crs : Bool := true
  bme : Bool := false
  dstate : DState := .d0
  link : LinkState := .down
  /-- Enable Relaxed Ordering in Device Control (09 R258). -/
  relaxed : Bool := true
  perst : Bool := true
  wakePin : Bool := false
  pmPme : Nat := 0
  gen : Nat := 0
  width : Nat := 0
  rtbl : Nat := 0
  dbpg : Nat := 0
  stpg : Nat := 0
  rtblLo : Nat := 0
  dbpgLo : Nat := 0
  stpgLo : Nat := 0
  interval : Nat := 20
  vecs : List Vec := List.replicate 16 {}
  modVec : Nat := 0
  /-- ERR_STATUS bits 0 to 8 (09 R272). -/
  hiwr : Bool := false
  narrow : Bool := false
  rtblErr : Bool := false
  hostrd : Bool := false
  parity : Bool := false
  offacc : Bool := false
  wakeFail : Bool := false
  dualMis : Bool := false
  memberLost : Bool := false
  cntParity : Nat := 0
  cntHostrd : Nat := 0
  cntLinkrst : Nat := 0
  cntDropwr : Nat := 0
  offCount : Nat := 0
  offDom : Nat := 0
  scratch : Word := 0
  diagItem : Nat := 0
  diagTile : Nat := 0
  diagBusy : Bool := false
  diagData : Word := 0
  /-- Recovery entries of diagnostic item 0x0400 (09 R278). -/
  recov : Nat := 0
  /-- TEMP.TPEAK; none: no sample since the register's reset, which reads 0. -/
  tpeak : Option Int := none
  jrnPeak : Nat := 0
  /-- What the latest host register read returned, least significant byte first. -/
  reply : List Byte := []
deriving DecidableEq, Repr

/-! ### Rings, journal, events, reports, streams, host DMA (10) -/

/-- One ring of the table in use (10 R280). -/
structure RingCfg where
  base : Nat := 0
  log2n : Nat := 0
  vec : Nat := 0
  irq : Bool := false
deriving DecidableEq, Repr

/-- A host read the device has outstanding (10 R281, R290, R313). -/
inductive ReadReq where
  | ringTable
  | doorbell
  | descs (n : Nat)
  /-- The image of a RETAINED entry, for a tile that came back without it or whose bank is damaged (10 R303, 18 R482). -/
  | retained (cmd tile : Nat)
  /-- The descriptor of a damaged journal entry (10 R303). -/
  | refetch (cmd : Nat)
deriving DecidableEq, Repr

structure Rings where
  en : Bool := false
  act : Bool := false
  /-- A start accepted and not yet carried out (10 R525). -/
  startPending : Bool := false
  draining : Bool := false
  cmd : RingCfg := {}
  cpl : RingCfg := {}
  rpt : RingCfg := {}
  str : RingCfg := {}
  evt : RingCfg := {}
  /-- A ring table has been accepted since the journal was last cleared (10 R303). -/
  tableValid : Bool := false
  cmdCi : Nat := 0
  strCi : Nat := 0
  cplPi : Nat := 0
  rptPi : Nat := 0
  evtPi : Nat := 0
  cmdPi : Nat := 0
  strPi : Nat := 0
  cplCi : Nat := 0
  rptCi : Nat := 0
  evtCi : Nat := 0
  /-- Next CMD index to fetch and next CPL index to reserve (10 R300, R301). -/
  fetch : Nat := 0
  cplNext : Nat := 0
  cplWritten : List Nat := []
  pollAgain : Bool := false
  reads : List ReadReq := []
  /-- Reads of retained images that wait until the rings run again (10 R303). -/
  waitReads : List ReadReq := []
  /-- An unchanged table is in force again; the replay follows the next doorbell read (10 R303). -/
  replayDue : Bool := false
  /-- Device time of the latest RING_ERROR event of each index (10 R286). -/
  ringErr : List (Nat × Nat) := []
  /-- Index change waiting for a status page write, and the page's own counters (10 R288, R289). -/
  dirty : Bool := false
  heartbeat : Nat := 0
  replay : Bool := false
deriving DecidableEq, Repr

/-- The stages of a journal entry (10 R300); FREE entries are absent. -/
inductive Stage where
  | issued | applied | posted | retained
deriving DecidableEq, Repr

/-- What an ISSUED entry waits for (10 R292, 16 R442). -/
inductive JWait where
  | start | latch | boundary (ea : Nat) | lineTest | cal | release | snapshot | member | fence | check | settings | refetch
deriving DecidableEq, Repr

/-- One journal entry (10 R300). `tiles` lists the tiles whose part is outstanding. -/
structure JEntry where
  cmd : Nat
  d : Desc
  stage : Stage := .issued
  cpl : Nat
  wait : JWait := .start
  code : Nat := 0
  r0 : Nat := 0
  r1 : Nat := 0
  ctile : Nat := 0
  tiles : List Nat := []
  resent : List Nat := []
  flushed : Bool := false
  imgCrc : Nat := 0
  /-- The bank that a TOKEN_LOAD went to on each tile (10 R300). -/
  banks : List (Nat × Nat) := []
  /-- A replay has to write its completion (10 R304). -/
  redo : Bool := false
deriving DecidableEq, Repr

/-- An event waiting or written (10 R307, R308). -/
structure Ev where
  code : Nat
  tile : Nat
  epoch : Nat
  d0 : Nat
  d1 : Nat
deriving DecidableEq, Repr

structure Events where
  buf : List Ev := []
  /-- How many of `buf` have been written and wait for EVT_CI. -/
  written : Nat := 0
  seq : Nat := 0
  lost : Nat := 0
  lostDue : Nat := 0
  /-- PARITY events of the current frame (18 R486): store, lowest item so far, its action, epoch. -/
  parThis : List (Nat × Nat × Nat × Nat) := []
deriving DecidableEq, Repr

/-- A contact record (06 R177). -/
structure Rec where
  id : Nat := 0
  trk : Nat := 0
  cls : Nat := 0
  status : Nat := 0
  x : Nat := 0
  y : Nat := 0
  z : Nat := 0
  rtile : Nat := 0
  stitched : Bool := false
  peak : Nat := 0
  area : Nat := 0
  angle : Nat := 0
  major : Nat := 0
  minor : Nat := 0
  tokenId : Nat := 0xFFFF
  tokenQ : Nat := 0
  stale : Bool := false
  ambig : Bool := false
  edge : Bool := false
  waterCut : Bool := false
  suspect : Bool := false
  touched : Bool := false
  coast : Bool := false
  suppressed : Bool := false
  signal : Nat := 0
  vx : Int := 0
  vy : Int := 0
deriving DecidableEq, Repr

/-- A report image before it is written (06 R175, R176). -/
structure Report where
  epoch : Nat := 0
  tile : Nat := 0
  ctx : Nat := 0
  kp : Nat := 0
  ks : Nat := 0
  discard : Bool := false
  lineFault : Bool := false
  selfStale : Bool := false
  wet : Bool := false
  tableFull : Bool := false
  partialImg : Bool := false
  overrun : Bool := false
  suspect : Bool := false
  recal : Bool := false
  stitchLate : Bool := false
  resync : Bool := false
  tokenSkip : Bool := false
  dcause : Nat := 0
  nblob : Nat := 0
  water : Nat := 0
  trkUs : Nat := 0
  ntrack : Nat := 0
  nnew : Nat := 0
  nret : Nat := 0
  ntoken : Nat := 0
  recs : List Rec := []
deriving DecidableEq, Repr

/-- A member's image under assembly from its REPORT frames (07 R227): parts received with their bytes. -/
structure RptAsm where
  tile : Nat
  epoch : Nat
  parts : List (Nat × List Byte)
deriving DecidableEq, Repr

/-- A report as it stands in the hold or the queue: its image bytes, with tile and epoch for the order of 10 R306. -/
structure RptImg where
  tile : Nat
  epoch : Nat
  nrec : Nat
  image : List Byte
deriving DecidableEq, Repr

structure Reports where
  /-- Complete images waiting for a slot, in the order they became complete (10 R305). -/
  due : List RptImg := []
  hold : List RptImg := []
  lost : Nat := 0
  episode : Nat := 0
  firstLost : Nat := 0
  /-- Tiles whose next posted report carries OVERRUN (10 R306). -/
  overrun : List Nat := []
  asm : List RptAsm := []
deriving DecidableEq, Repr

/-- A stream buffer in hand (10 R309). -/
structure SBuf where
  idx : Nat
  addr : Nat
  len : Nat
  flush : Nat
  used : Nat := 0
  efirst : Nat := 0
  elast : Nat := 0
  nrec : Nat := 0
deriving DecidableEq, Repr

/-- A stream record under assembly (11 R331). Blocks by BIDX; a dropped one is absent. -/
structure SRec where
  epoch : Nat
  tile : Nat
  kind : Nat
  raw : Bool
  d : Nat
  s : Nat
  nblk : Nat
  blocks : List (Nat × List Byte) := []
  markers : List Nat := []
deriving DecidableEq, Repr

structure Streams where
  bufs : List SBuf := []
  recs : List SRec := []
  /-- Next STR index whose descriptor is to be read. -/
  next : Nat := 0
  drop : Nat := 0
  dropEvt : List (Nat × Nat) := []
deriving DecidableEq, Repr

/-- A capture snapshot held (10 R310): region code and its bytes' length in the staging region. -/
structure Capture where
  held : Option Nat := none
  /-- Captures waiting for their boundary: command number and descriptor. -/
  waiting : List (Nat × Desc) := []
  /-- Those of them whose snapshot has been taken. -/
  copied : List Nat := []
deriving DecidableEq, Repr

structure Hdma where
  dir : Bool := false
  flush : Bool := false
  ro : Bool := false
  busy : Bool := false
  done : Bool := false
  result : Nat := 0
  laddr : Nat := 0
  haddrLo : Word := 0
  haddrHi : Word := 0
  len : Nat := 0
  xfer : Nat := 0
  recs : List Word := [0, 0, 0, 0]
  ring : Nat := 1
  pbusy : Bool := false
  afterFlush : Bool := false
  presult : Nat := 0
  index : Nat := 0
  ur : Nat := 0
  ca : Nat := 0
  poison : Nat := 0
  timeout : Nat := 0
deriving DecidableEq, Repr

/-! ### Scan: Chanter, electrodes, frames, calibration (02 to 05) -/

/-- What a frame is used for (05 R119, 02 R50). -/
inductive FrameKind where
  | normal
  | lineTest
  /-- Settle, or an unused frame of a full calibration. -/
  | calIdle
  /-- Injection (`false`) or verify (`true`) frame of the listed chains. -/
  | inject (verify : Bool) (chains : List Nat)
  | trimMeasure
  | baseline
  /-- Nothing is scanned. -/
  | none
deriving DecidableEq, Repr

/-- What the device keeps of a frame beside its step store (03 R68 holds the header in frame SRAM). -/
structure Frame where
  epoch : Nat := 0
  kind : FrameKind := .none
  /-- DCAUSE of 06 R176; 0: not discarded. -/
  dcause : Nat := 0
  /-- The pins with codes 0x1 to 0x7 while the frame is scanned, with their codes (02 R51, 03 R69). -/
  faults : List (Nat × Nat) := []
  /-- Drive lines undriven for the whole mutual segment (02 R48). -/
  undriven : List Nat := []
  /-- Pins whose self value is replaced in this frame (02 R48). -/
  selfRep : List Nat := []
  /-- Self data invalid by a shield trip or a parity error (04 R104). -/
  selfBad : Bool := false
  /-- Overrange samples of the mutual segment per chain, and chains overrange in the listen segment. -/
  ovr : List Nat := []
  listenOvr : List Nat := []
  /-- Self-pass sums per pin: (pin, role 0 sum, role 1 sum, an overrange sample used). -/
  self : List (Nat × Int × Int × Bool) := []
  /-- Columns interpolated because their chains are under group recalibration (05 R144). -/
  recalCols : List Nat := []
  recal : Bool := false
  noiseOk : Bool := false
  /-- A damaged byte of the frame's listen data was read: no hop decision, persistence counts unchanged (18 R482). -/
  listenBad : Bool := false
  tokenBad : Bool := false
  interpolated : Bool := false
  decoded : Bool := false
  /-- The tracker has processed the frame. -/
  tracked : Bool := false
  /-- The merge of the frame is done, or none is awaited; the baseline update may run (05 R126). -/
  merged : Bool := false
  /-- The baseline update of the frame is done (05 R126). -/
  updated : Bool := false
  /-- Frame length in µs (03 R57). -/
  us : Nat := 2000
deriving DecidableEq, Repr

/-- A hop latched for the coming boundary (03 R82, R83). -/
structure HopDue where
  forced : Bool
  role : Nat
  old : Nat
  new : Nat
deriving DecidableEq, Repr

/-- A forced-hop request (03 R83), with the HOP command that made it, if one did. -/
structure HopReq where
  slot : Nat
  role : Nat
  cmd : Option Nat
deriving DecidableEq, Repr

/-- A HOP command decided at a latch instant and completed at the next boundary (03 R83): CMD index and outcome 0 to 2. -/
structure HopDecided where
  cmd : Nat
  outcome : Nat
deriving DecidableEq, Repr

structure Chanter where
  seg : Nat := 7
  step : Nat := 0xFF
  pri : Nat := 0
  sec : Nat := 0
  npri : Nat := 0
  nsec : Nat := 0
  hopAuto : Nat := 0
  hopForced : Nat := 0
  hopCancelled : Nat := 0
  req : Option HopReq := none
  /-- Commands whose request was replaced, waiting for the deciding latch instant. -/
  replaced : List Nat := []
  decided : List HopDecided := []
  noise : List Nat := [0, 0, 0, 0, 0]
  divLast : Nat := 0
  divTotal : Nat := 0
  perP : Nat := 0
  perS : Nat := 0
  lastHop : Option Nat := none
  /-- Automatic hop decided for the next latch instant: role and slot. -/
  auto : Option (Nat × Nat) := none
  due : Option HopDue := none
  /-- The AFE domain has powered up and no frame has been scanned since (03 R90). -/
  fresh : Bool := true
  lastGain : Nat := 0
  cur : Frame := {}
  prev : Frame := {}
  /-- Frame length code in force (03 R57, 16 R430). -/
  rate : Nat := 0
  /-- The frame timer runs (19 R496). -/
  timer : Bool := false
  /-- The first boundary of the timer has passed. -/
  counted : Bool := false
  latchPassed : Bool := false
  /-- A member that lost the ring discards its reports (01 R25). -/
  discardReports : Bool := false
deriving DecidableEq, Repr

structure Electrodes where
  code : List Nat := List.replicate 320 0xF
  /-- Pins whose driver a trip holds at high-impedance until the next guard/settle interval. -/
  tripped : List Nat := []
  /-- Trips of each pin with no trip-free whole frame between them: (pin, count, sourcing). -/
  tripRun : List (Nat × Nat × Bool) := []
  tripThis : List Nat := []
  lowRun : List Nat := List.replicate 320 0
  highRun : List Nat := List.replicate 320 0
  ovrRun : List Nat := List.replicate 192 0
  okRun : List Nat := List.replicate 192 0
  /-- Epoch of the latest code-0x6 event of a pin (02 R53). -/
  satEvt : List (Nat × Nat) := []
  ltPending : Bool := false
  /-- Frames of the running line test still to come; 0: none. -/
  ltLeft : Nat := 0
  ltDone : Bool := false
  /-- The phase of the running test: 0 leakage, 1 coupling, 2 self, 3 past the phases (02 R50); and the self pass, 0 A or 1 B. -/
  ltPhase : Nat := 0
  ltPass : Nat := 0
  ltCmds : List Nat := []
  /-- Codes the phases of the running test have given so far: (pin, code). -/
  ltCodes : List (Nat × Nat) := []
  /-- The boot line test has run since the AFE domain came up from reset (02 R50). -/
  ltBoot : Bool := false
  faultChg : Bool := false
  tripCnt : Nat := 0
  ovrCnt : Nat := 0
  shTripped : List Nat := []
  shRun : List (Nat × Nat) := []
  shThis : List Nat := []
  shFault : Bool := false
  shTrips : Nat := 0
  selfOk : Bool := false
  selfAge : Nat := 7
  /-- The last valid self deltas, per pin (04 R104). -/
  lastSd : List Int := List.replicate 320 0
  /-- What stood there before the latest decoded frame, with that frame's epoch: SELF_OK, AGE and the self deltas (04 R117). -/
  selfWas : Option (Nat × Bool × Nat × List Int) := none
  /-- Reference self values and absolute baseline of the tile, when a usable record is held (05 R134, 17 R472). -/
  refRec : List Byte := []
deriving DecidableEq, Repr

/-- A suspect region of nodes (05 R137). -/
structure Region where
  nodes : List (Nat × Nat)
  neg : Bool := false
  quiet : Nat := 0
deriving DecidableEq, Repr

/-- A suspect pin (05 R137). -/
structure SusPin where
  pin : Nat
  neg : Bool := false
  quiet : Nat := 0
deriving DecidableEq, Repr

/-- A released contact waiting for the baseline update (05 R141). -/
structure Release where
  cmd : Nat
  trk : Nat
  id : Nat
deriving DecidableEq, Repr

/-- What a calibration is (05 R119, R144). -/
inductive CalKind where
  | none | full | group
deriving DecidableEq, Repr

/-- A measurement that failed its verification (05 R123): chain, slot (or 8 + pass for a self scale), attempts, error. -/
structure CalTry where
  chain : Nat
  slot : Nat
  attempts : Nat
  best : Int × Int
  err : Nat
deriving DecidableEq, Repr

/-- A group whose last verify frame has ended: that frame's epoch, the group, its pairs and scales from before, and y_old of its chains.
Its baselines take the gain change before the next frame is decoded (05 R145). -/
structure GainChange where
  epoch : Nat
  group : Nat
  old : List (Nat × List (Int × Int) × List Nat)
  yold : List (Nat × List Int)
deriving DecidableEq, Repr

/-- The verification counts as they stood before a verify frame's results, with its epoch (05 R119, R123). -/
structure CalTook where
  epoch : Nat
  tries : List CalTry
  verifies : Nat
  calfail : Nat
  runFail : Nat
deriving DecidableEq, Repr

structure Calib where
  kind : CalKind := .none
  /-- Calibrations asked for and not yet started; `true`: by a command. -/
  fullDue : Option Bool := none
  groupDue : Option Bool := none
  byCmd : Bool := false
  /-- 0 idle; 1 settle; 2 injection; 3 verify; 4 trim search; 5 initial baseline; 6 group. -/
  phase : Nat := 0
  /-- Frames of the phase done. -/
  done : Nat := 0
  /-- The pairs of the latest injection frame have been loaded (05 R123). -/
  measured : Bool := false
  /-- The initial-baseline phase is to run alone (05 R138, 18 R482). -/
  baseDue : Bool := false
  /-- Damaged pins whose self baseline the next valid frame sets (18 R482). -/
  selfFix : List Nat := []
  /-- The initial-baseline phase runs alone (05 R138, 18 R482). -/
  baseOnly : Bool := false
  group : Nat := 0
  /-- Group frame: 0 injection (G), 1 verify (G + 1), 2 a further verify frame; 3: the last verify frame is in processing. -/
  sub : Nat := 0
  /-- A frame of the group has been scanned and the group is not complete (05 R146). -/
  begun : Bool := false
  tries : List CalTry := []
  /-- Verify frames whose results have been taken since the pairs were measured, up to 3 (05 R123); the latest one's counts from before. -/
  verifies : Nat := 0
  took : Option CalTook := none
  calfail : Nat := 0
  /-- CALFAIL of the running calibration, for its event and command. -/
  runFail : Nat := 0
  trimsat : Nat := 0
  /-- Old pairs and scales of the group in progress: chain, five pairs, two scales. -/
  old : List (Nat × List (Int × Int) × List Nat) := []
  /-- y_old of the chains of the group in progress, for the five slots (05 R145). -/
  yold : List (Nat × List Int) := []
  gain : Option GainChange := none
  /-- Trim RAM is to be restored from the shadow before the next mutual segment (05 R125). -/
  trimDue : Bool := false
  calDone : Bool := false
  /-- RECALIBRATE commands that wait for the full calibration, and for the group one (05 R524). -/
  cmds : List Nat := []
  groupCmds : List Nat := []
  refused : Bool := false
  negreb : Nat := 0
  regions : List Region := []
  susPins : List SusPin := []
  releases : List Release := []
  /-- Mask nodes of released contacts on lines still interpolated (05 R141). -/
  relNodes : List (Nat × Nat) := []
  temps : List Int := []
  tnow : Int := 0
  tcal : Int := 0
  tempHeld : Bool := false
  /-- The 10 % test of 05 R138 is due at the first valid frame after the warm-up frame. -/
  guard : Bool := false
  /-- Contact-mask nodes to mark suspect after a rebuild (18 R482). -/
  maskSus : List (Nat × Nat) := []
deriving DecidableEq, Repr

/-! ### Tracker and tokens (06) -/

/-- A track-table entry (06 R167 to R177). -/
structure Track where
  id : Nat
  rid : Nat
  cls : Nat
  x : Int
  y : Int
  vx : Int := 0
  vy : Int := 0
  ax : Int
  ay : Int
  stillUs : Nat := 0
  stale : Bool := false
  coast : Nat := 0
  age : Nat := 0
  isNew : Bool := true
  /-- Retirement status when the track retires in this frame; 1: it does not. -/
  status : Nat := 1
  /-- The record this track has in the current report. -/
  rcd : Rec
  /-- Nodes of its blob in the latest frame (the contact mask, 05 R128); peak node. -/
  nodes : List (Nat × Nat) := []
  pd : Nat := 0
  ps : Nat := 0
  detected : Bool := true
  /-- This tile reported the RID in the previous frame, and where (07 R213, R218). -/
  reported : Bool := false
  repX : Nat := 0
  repY : Nat := 0
  /-- The component of the previous frame named these other tiles (07 R214). -/
  comp : List Nat := []
  silent : Bool := false
  /-- The tile that reported the RID in the previous frame, and the class of the RID there (07 R216, R228); what this frame's component says
  of the two. -/
  owner : Option Nat := none
  ridCls : Option Nat := none
  nextOwner : Option Nat := none
  nextCls : Option Nat := none
deriving DecidableEq, Repr

/-- The tracker's state from before a frame whose report waits for Crook (06 R173). -/
structure TrackSave where
  tab : List (Option Track)
  openCtr : Nat
  resync : Bool
  hoverCand : Nat
  hoverUp : Bool
  mask : List (Nat × Nat)
  wet : Bool
  dryCnt : Nat
  lent : List (Nat × Nat)
deriving DecidableEq, Repr

structure Tracker where
  tab : List (Option Track) := List.replicate 64 none
  openCtr : Nat := 0
  resync : Bool := false
  /-- The epoch of the frame at which every track retires (06 R174). -/
  retireAt : Option Nat := none
  /-- The epoch of the first frame under another electrode map (04 R117). -/
  mapAt : Option Nat := none
  hoverCand : Nat := 0
  /-- A hover was reported when a line test retired the tracks: it is still reported after it (04 R117). -/
  hoverUp : Bool := false
  /-- The contact mask of the latest segmented frame (05 R128). -/
  mask : List (Nat × Nat) := []
  /-- Water nodes, touch blobs' spans and nodes of the latest frame, for the baseline update (05 R127, R130). -/
  water : List (Nat × Nat) := []
  blobs : List (List (Nat × Nat)) := []
  wet : Bool := false
  dryCnt : Nat := 0
  waterW : Nat := 0
  report : Report := {}
  prevRecs : List Rec := []
  full : Nat := 0
  blobcap : Nat := 0
  candcap : Nat := 0
  clustcap : Nat := 0
  opens : Nat := 0
  retires : Nat := 0
  last : Nat := 0
  max : Nat := 0
  nblob : Nat := 0
  ncand : Nat := 0
  ntok : Nat := 0
  /-- Peak and flags of the frame's own detections at the seams: PX, PY, WATERCUT, SUSPECT (07 R216). -/
  marks : List (Nat × Nat × Bool × Bool) := []
  /-- The fragments of the frame at this tile, one set for each neighbour they go to, which `src` names (07 R212). -/
  frags : List FragSet := []
  /-- What stood before the frame whose merge is awaited. -/
  saved : Option TrackSave := none
  /-- The table is to be rebuilt from the mirror at the next frame (18 R483). -/
  rebuild : Bool := false
deriving DecidableEq, Repr

/-- The dictionary banks' generations (06 R155); their bytes stand in memory. `recent` is the bank loaded more recently. -/
structure Tokens where
  gen0 : Nat := 0
  gen1 : Nat := 0
  recent : Nat := 0
  bad : Bool := false
deriving DecidableEq, Repr

/-! ### Crila ring and array (07) -/

/-- What a lane carries in one block (07 R186): the lane, the sync header and the scrambled bits. -/
structure LaneWord where
  lane : Nat
  hdr : Nat
  bits : Nat
deriving DecidableEq, Repr

/-- One Crila port (07 R186 to R197). -/
structure PortSt where
  /-- 0 down; 1 training; 2 up; 3 disabled. -/
  state : Nat := 0
  lane : Nat := 0
  hopLat : Nat := 0
  txSeq : Nat := 0
  /-- Sent and not covered by an ACK, oldest first, with the times each has been sent. -/
  held : List (CFrame × Nat) := []
  /-- The last in-order SEQ received (none since training), and whether a NAK is owed or has been sent. -/
  rxSeq : Nat := 4095
  nakDue : Bool := false
  nakSent : Bool := false
  cred : List Nat := [0, 0, 0]
  q0 : List CFrame := []
  q1 : List CFrame := []
  q2 : List CFrame := []
  /-- A MARK block to send in place of the next CB0: epoch, DELAY, HOPS; and the frames that are to follow it (07 R208). -/
  mark : Option (Nat × Nat × Nat) := none
  late : List CFrame := []
  /-- How many of the held frames, from the newest back, are still to be sent again (07 R194, R196). -/
  again : Nat := 0
  /-- The next half of the link cycle begins with CB1 (07 R187); the scrambler of each lane (R186); the last half cycle sent. -/
  half : Bool := false
  scr : List (BitVec 58) := [0, 0]
  wire : List LaneWord := []
  /-- The lane the next received block comes on; each lane's last 64 blocks, oldest first: 0 valid, 1 of a reserved type, 2 with an
  invalid sync header (07 R188, R224). -/
  rxLane : Nat := 0
  /-- The descrambler of each lane (07 R186), and the blocks of the half cycle that have arrived (R187). -/
  rscr : List (BitVec 58) := [0, 0]
  rxPos : Nat := 0
  win : List (List Nat) := [[], []]
  /-- Received frames that hold one of the 16 receive buffers of their class (07 R196). -/
  bufs : List CFrame := []
deriving DecidableEq, Repr

structure Crila where
  up : PortSt := {}
  dn : PortSt := {}
  tile : Nat := 0
  enrolled : Bool := false
  lock : Bool := false
  wrap : Bool := false
  openRing : Bool := false
  ntiles : Nat := 0
  err : Int := 0
  maxErr : Nat := 0
  crcUp : Nat := 0
  crcDn : Nat := 0
  retryUp : Nat := 0
  retryDn : Nat := 0
  upDown : Nat := 0
  dnDown : Nat := 0
  ttlDrop : Nat := 0
  late : Nat := 0
  lateArr : Nat := 0
  fragCap : Nat := 0
  seamOff : Nat := 0
  sdrop : Nat := 0
  /-- Directions of ROUTE: tile, travelling UP-ward (07 R199, R226). -/
  dirs : List (Nat × Bool) := []
  routed : Bool := false
  /-- The devices of the ring and its broken links, as ROUTE last carried them (07 R226). -/
  ring : Nat := 0
  cut : List Nat := []
  /-- A ROUTE has ended wrapping, and no port has gone down since (07 R225). -/
  wrapOff : Bool := false
  /-- Boundaries in a row without a MARK, up to 4 (01 R25; log entry 106). -/
  noMark : Nat := 0
  online : List Nat := [0]
  accepted : List (Nat × Nat) := []
  msgNum : Nat := 0
  inbox : List CFrame := []
  marks : Nat := 0
  good : Nat := 0
  bad : Nat := 0
  /-- HOPS and port of the marker used for the latest boundary (07 R209). -/
  best : Option (Nat × Port) := none
  /-- The first of the two markers of a boundary, which waits for the other: HOPS, port and error. -/
  first : Option (Nat × Port × Int) := none
  /-- Tiles that a ROUTE has named offline since the latest merge (07 R228). -/
  lost : List Nat := []
  /-- Frame-timer phase and frequency corrections, in units of 1/4 ns and 1/64 ns per frame. -/
  phase : Int := 0
  freq : Int := 0
  /-- The member holds its state across the loss (HELLO RETAINED). -/
  retained : Bool := false
  lent : List (Nat × Nat) := []
  /-- This tile's own array-map entry and disabled seams (07 R205, R206). -/
  own : Option TileRec := none
  seamsOff : List Nat := []
  /-- The array-map entries of the tiles as ROUTE last carried them (log entry 29). -/
  map : List TileRec := []
deriving DecidableEq, Repr

/-- A member coming back (07 R229, R230): tile, epoch after which it joins, RESET. -/
structure Rejoin where
  tile : Nat
  epoch : Nat
  reset : Bool
deriving DecidableEq, Repr

/-- What the root alone keeps of its array (07, 08, 19). -/
structure ArrayRoot where
  forming : Bool := false
  nmap : Nat := 1
  nextPos : Nat := 1
  upward : Bool := false
  upDist : Nat := 0
  map : List TileRec := []
  breaks : List (Nat × Port) := []
  rejoins : List Rejoin := []
  /-- Members that have started and get their context once their retained images have been read (10 R303). -/
  ctxWait : List Nat := []
  fwSent : Bool := false
  awaitReady : List Nat := []
  /-- READY has arrived with level 0 and no image was sent yet. -/
  wantFw : List Nat := []
  fwFails : List Nat := []
  /-- Members to be taken offline at an epoch (08 R250). -/
  dropAt : List (Nat × Nat) := []
  memberGen : List (Nat × Nat) := []
  /-- The staged images of the members' slots as the root delivered them, by 8 × tile + slot; a slot that is not listed is EMPTY (07 R229,
  08 R250; log entry 112). -/
  shadow : List (Nat × List Byte) := []
  /-- The reference baselines of the members, for each its own (17 R470). -/
  refs : List (Nat × List Byte) := []
  /-- The devices of the ring as the enumeration found it, enrolled or not (07 R204). -/
  ring : Nat := 0
  /-- A member that enrols and waits for its lent IDs (07 R221): index and port, the tiles that have yet to answer, the IDs so far. -/
  collect : Option (Nat × Port × List Nat × List Nat) := none
  /-- Member firmware update under way: CMD index, tile, the epoch at which the member starts it (07 R231). -/
  fwUpdate : Option (Nat × Nat × Option Nat) := none
  /-- The boot context's slot and the members that have not yet staged it (19 R500). -/
  bootStage : Option (Nat × List Nat) := none
  resetMember : Option (Nat × Nat) := none
  /-- Members whose CORE domain resets, and the frames held for them until they send HELLO (07 R232). -/
  quiet : List Nat := []
  queue : List CFrame := []
  /-- Links known to be broken: link i joins DN of i and UP of i + 1 (07 R226). -/
  cut : List Nat := []
  /-- ENUM is out, by this port (07 R204). -/
  probe : Option Port := none
deriving DecidableEq, Repr

structure Crook where
  sets : List FragSet := []
  waiting : List Nat := []
  deadline : Bool := false
deriving DecidableEq, Repr

/-! ### Contexts (08) -/

/-- The slot states of 08 R235, in the encoding of `CHN_CTX_STATE`. -/
inductive SlotState where
  | empty | staging | checking | ready | pending | active | draining
deriving DecidableEq, Repr

/-- A COMMIT or SWITCH from acceptance to its boundary (08 R246 to R251). -/
structure CommitJob where
  cmd : Option Nat
  slot : Nat
  isSwitch : Bool
  set : List Nat
  named : Option Nat
  before : SlotState
  /-- Tile, code and offset; with code 0, instead of the offset, the first epoch that no line test of the tile covers. -/
  replies : List (Nat × Nat × Nat) := []
  waiting : List Nat := []
  unarmed : List Nat := []
  decided : Bool := false
  ea : Nat := 0
  gen : Nat := 0
  /-- The images that members have ARMED with, until they apply (08 R240). -/
  images : List (Nat × List Byte) := []
deriving DecidableEq, Repr

structure Contexts where
  slots : List SlotState := List.replicate 8 .empty
  /-- E_a of the ACTIVE and of the PENDING slot. -/
  ea : Nat := 0
  pendEa : Nat := 0
  gen : Nat := 0
  failCode : Nat := 0
  failTile : Nat := 0
  failOff : Nat := 0
  applied : Nat := 0
  failed : Nat := 0
  job : Option CommitJob := none
  /-- Slots with a damaged byte (18 R482). -/
  bad : List Nat := []
  /-- The ACTIVE image has been restored: the pair restarts at the next boundary (18 R485). -/
  restored : Bool := false
  /-- A member enrolled again waits for a context of the root: it does not scan, its pins float (01 R25). -/
  waits : Bool := false
  /-- No usable ACTIVE image is left: the tile has stopped scanning (18 R482, action 16). -/
  stopped : Bool := false
  /-- The pins of the PENDING map have been switched (02 R37). -/
  switched : Bool := false
  /-- Commands that fail code 0x88 and wait for their members' own results, in the order of their acceptance (08 R245). -/
  doomed : List CommitJob := []
  /-- Pieces and images of the commands under way: CMD index and bytes (08 R242, 10 R295). -/
  pieces : List (Nat × List Byte) := []
  /-- At a member: the image of the root that waits for its slot to be free (07 R229). -/
  incoming : Option (List Byte) := none
  /-- The earliest epoch at which that image may apply (03 R58). -/
  incomingEa : Nat := 0
  /-- At a member: commands that wait for their piece or image from the root, with their descriptors. -/
  staging : List (Nat × Desc) := []
  /-- The commit copy of the PENDING slot (08 R240). -/
  copy : List Byte := []
  copyBad : Bool := false
deriving DecidableEq, Repr

/-! ### Mute (11) -/

/-- The job registers of Mute (11 R339), also in the form latched at GO (R332). -/
structure MuteRegs where
  cls : Nat := 0
  dir : Bool := false
  host : Bool := false
  src : Nat := 0
  dst : Nat := 0
  ilen : Nat := 0
  olen : Nat := 0
  elo : Nat := 0
  bidx0 : Nat := 0
deriving DecidableEq, Repr

structure Mute where
  regs : MuteRegs := {}
  job : MuteRegs := {}
  busy : Bool := false
  done : Bool := false
  abort : Bool := false
  result : Nat := 0
  marks : Nat := 0
  cons : Nat := 0
  prod : Nat := 0
  errCrc : Nat := 0
  errFormat : Nat := 0
  stageDrop : Nat := 0
  errParity : Nat := 0
  strNblk : Nat := 0
  strBusy : Bool := false
  strEpoch : Nat := 0
  /-- Host address that DST is an offset from (11 R338). -/
  haddr : Nat := 0
  /-- A running job was stopped for a power entry and goes on after the wake (11 R336). -/
  paused : Bool := false
  /-- The CAPTURE that the stopped job is of, and what the command had taken in and put out before its latest resumption. -/
  resumeCmd : Option Nat := none
  before : Nat × Nat := (0, 0)
  /-- CAPTURE whose job this is. -/
  forCmd : Option Nat := none
deriving DecidableEq, Repr

/-! ### Izyten cores, mailbox, interrupts, timers (12 to 14) -/

structure Core where
  g : Vector Word 16 := Vector.replicate 16 0
  pc : Word := 0
  ie : Bool := false
  brm : Bool := false
  exc : Bool := false
  level : Nat := 0
  vbase : Word := 0
  epc : Word := 0
  estatus : Word := 0
  ecause : Nat := 0
  eaddr : Word := 0
  slimit : Word := 0
  cycle : Nat := 0
  cycleh : Word := 0
  etgt : Word := 0
  agBase : Vector Word 4 := Vector.replicate 4 0
  agLen : Vector Nat 4 := Vector.replicate 4 0
  agMode : Vector Nat 4 := Vector.replicate 4 0
  /-- The load before the next instruction: register and its value from before the load (12 R351). -/
  ld : Option (Reg × Word) := none
  /-- Where execution goes after the instruction now next, one address for each instruction that follows (12 R354, R356). -/
  slot : List Word := []
  waiting : Bool := false
deriving DecidableEq, Repr

structure Mailbox where
  out0a : Word := 0
  out0b : Word := 0
  /-- Pairs waiting for core 0 and for core 1. -/
  q0 : List (Word × Word) := []
  q1 : List (Word × Word) := []
  drop0 : Nat := 0
  drop1 : Nat := 0
  run : Bool := false
  halted : Bool := false
  c1pc : Word := 0x10020000
  split : Nat := 8
  cause : Nat := 0
deriving DecidableEq, Repr

/-- One interrupt source (14 R391 to R404). -/
structure Src where
  pend : Bool := false
  mask : Bool := false
  act : Bool := false
  own : Bool := false
  arr : Nat := 0
  prio : Nat := 0
  target : Bool := false
  fallback : Bool := false
  ccount : Nat := 1
  ctime : Nat := 0
  c : Nat := 0
  arrived0 : Bool := false
  arrived1 : Bool := false
deriving DecidableEq, Repr

/-- `ICU_CURc` (14 R407). -/
structure Cur where
  src : Nat := 0
  valid : Bool := false
  narr : Nat := 0
deriving DecidableEq, Repr

structure Icu where
  src : List Src := ({} : Src) :: { target := true } :: List.replicate 46 {}
  thr0 : Nat := 0
  thr1 : Nat := 0
  cur0 : Cur := {}
  cur1 : Cur := {}
  badCount : Nat := 0
  badSrc : Nat := 0
  badCore : Bool := false
  undCount : Nat := 0
  undSrc : Nat := 0
  parStore : Nat := 0
  parValid : Bool := false
  parMulti : Bool := false
  parAddr : Nat := 0
  parCnt : Nat := 0
  /-- Edges held in the crossings while CLK_BUS is stopped (14 R392). -/
  heldEdges : List Nat := []
deriving DecidableEq, Repr

structure Timer where
  en : Bool := false
  periodic : Bool := false
  load : Nat := 1
  cnt : Nat := 0
deriving DecidableEq, Repr

structure Timers where
  t : List Timer := List.replicate 4 {}
  wdEn : Bool := false
  badKick : Nat := 0
  wdLoad : Nat := 1000000
  wdCnt : Nat := 0
  stage : Nat := 0
  traps : Nat := 0
  usec : Nat := 0
deriving DecidableEq, Repr

/-! ### Two-wire ports and settings (17) -/

structure Twm where
  ptr : Nat := 0
  /-- Latched bytes of TEMP_H and of EPOCH bytes 1 to 3 (17 R455). -/
  tempH : Nat := 0
  epochB : List Nat := [0, 0, 0]
  /-- A transaction is addressed to the device; the next written byte sets the pointer. -/
  active : Bool := false
  first : Bool := false
  /-- The device NACKs and reads 0xFF until STOP (17 R459, R460). -/
  dead : Bool := false
  stretch : Bool := false
  alertWake : Bool := false
  alertDual : Bool := false
  alertMbox : Bool := false
  alertSetdef : Bool := false
  alertRestart : Bool := true
  alertEn : Nat := 0x1F
  alertPin : Bool := false
  out : List Byte := []
  inb : List Byte := []
  msg : List Byte := []
  slope : Nat := 1
  hdrok : Bool := false
  timeout : Nat := 0
  abort : Nat := 0
  ara : Nat := 0
  /-- Whether the latest byte or address was acknowledged, and the byte the latest read returned. -/
  acked : Bool := false
  reply : Byte := 0
deriving DecidableEq, Repr

structure Twc where
  dir : Bool := false
  busy : Bool := false
  done : Bool := false
  result : Nat := 0
  speed : Nat := 1
  slope : Nat := 1
  off : Nat := 0
  len : Nat := 0
  buf : Word := 0
  arblost : Nat := 0
  nack : Nat := 0
  recov : Nat := 0
  stuck : Nat := 0
  /-- Bus recovery has run since the port left reset (17 R468). -/
  recovered : Bool := false
deriving DecidableEq, Repr

structure Settings where
  /-- The header's bytes when accepted (17 R470). -/
  header : List Byte := []
  copyA : List Byte := []
  copyB : List Byte := []
  intactA : Bool := false
  intactB : Bool := false
  /-- 0 copy A, 1 copy B, 2 defaults (17 R456 SETSRC). -/
  inUse : Nat := 0
  /-- 0 copy A, 1 copy B; none while a mismatch stands (17 R474). -/
  target : Option Nat := none
  mismatch : Bool := false
  /-- A DUAL_MISMATCH event is to be posted when the rings run. -/
  mismatchEvt : Bool := false
  tileRec : Option TileRec := none
deriving DecidableEq, Repr

/-! ### Outputs and the whole -/

/-- One memory write the device has issued (10 R298): address, bytes, Relaxed Ordering. -/
structure HostWrite where
  addr : Nat
  data : List Byte
  ro : Bool
deriving DecidableEq, Repr

/-- One LTR message (09 R259): the snoop latency in microseconds, and the Requirement bit of the No-Snoop Latency. -/
structure Ltr where
  snoop : Nat
  noSnoop : Bool
deriving DecidableEq, Repr

/-- One transfer on the memory port's bus (17 R463): target address, word address, and the bytes of a write or the length of a read. -/
structure BusXfer where
  dev : Nat
  word : Nat
  write : Bool
  len : Nat
  data : List Byte
deriving DecidableEq, Repr

/-- What has left the device, oldest first. -/
structure Outs where
  writes : List HostWrite := []
  msix : List Nat := []
  /-- Addresses of the zero-length flush reads issued (10 R299). -/
  flushes : List Nat := []
  ltrs : List Ltr := []
  /-- Crila wake beacons sent (16 R438): ports. -/
  beacons : List Port := []
  /-- Transfers that core 0 and the boot ROM have started on the memory port's bus (17 R463). -/
  bus : List BusXfer := []
  /-- Frame-sync pulses of 1.0 µs (17 R471): pin, and the epoch that began with it. -/
  syncs : List (Nat × Nat) := []
  /-- Array-wide resets ordered (09 R265). -/
  arrayResets : Nat := 0
deriving DecidableEq, Repr

/-- The state of the block. -/
structure State where
  /-- The commands waiting, first in, first out. -/
  pending : List Instr := []
  /-- The model's own: how many free values have been drawn (log entry 2). -/
  fresh : Nat := 0
  /-- The manual's epoch counter (00 R13). -/
  epoch : Nat := 0
  /-- Every RAM of the device (01 R26, 12 R342 and the stores outside the core map). -/
  mem : Memory := []
  /-- Addresses of the code and data SRAM bytes found to hold bad parity, until they are written (18 R477). -/
  parBad : List Nat := []
  boot : Boot := {}
  clk : Clocks := {}
  pwr : Power := {}
  drone : Drone := {}
  host : HostPort := {}
  rings : Rings := {}
  jrn : List JEntry := []
  evt : Events := {}
  rpt : Reports := {}
  strm : Streams := {}
  cap : Capture := {}
  hdma : Hdma := {}
  chn : Chanter := {}
  elec : Electrodes := {}
  cal : Calib := {}
  trk : Tracker := {}
  tok : Tokens := {}
  crl : Crila := {}
  arr : ArrayRoot := {}
  crook : Crook := {}
  ctx : Contexts := {}
  mute : Mute := {}
  core0 : Core := { brm := true, vbase := 0x1000 }
  core1 : Core := { pc := 0x10020000, vbase := 0x10020000 }
  mbx : Mailbox := {}
  icu : Icu := {}
  tmr : Timers := {}
  twm : Twm := {}
  twc : Twc := {}
  sets : Settings := {}
  out : Outs := {}
deriving DecidableEq, Repr

/-- The machine right after reset: `PORn` low, every register at its reset value, every RAM listing nothing. -/
def State.reset : State := {}

end Sys2Proof.Machine
end

