-- ==== Sys2Proof/Machine/Memory.lean ====
section
/-! DEFINITION. The RAMs as one store of bytes in canonical form, and where each RAM lies in it. Core addresses are those of 12 R342;
stores outside the core map (trim RAM, coefficient RAM and the like) stand at keys from 2^32 up (log entry 4). -/

namespace Sys2Proof.Machine

/-! ### Where things lie -/

def codeBase : Nat := 0x10000000
def dataBase : Nat := 0x20000000
def sharedBase : Nat := 0x2001C000
def frameBase : Nat := 0x30000000
def ctxBase : Nat := 0x40068000
def retBase : Nat := 0x50000000
/-- 01 R26. -/
def stepStore (epoch : Nat) : Nat := if epoch % 2 = 0 then 0x30000000 else 0x30024C00
def baseMut : Nat := 0x30049800
def deltaFrame (epoch : Nat) : Nat := if epoch % 2 = 0 then 0x30061800 else 0x3006D800
def listenData : Nat := 0x30079800
def baseSelf : Nat := 0x3007F800
def selfDelta : Nat := 0x3007FD00
def noiseArea : Nat := 0x30080800
def mirrorBase : Nat := 0x30081800
def crookBuf : Nat := 0x30083800
def muteStaging : Nat := 0x30087800
def captureStaging : Nat := 0x30097800
/-- Trim RAM (02 R44): code of chain s, carrier role r, step t at 2 (256 s + 128 r + t). -/
def trimRam : Nat := 0x100000000
/-- The trim shadow (05 R118), laid out as the trim RAM. -/
def trimShadow : Nat := 0x100020000
/-- Coefficient RAM: pair of chain s and slot k (pc, ps, 16 bits each) at 4 (5 s + k - 2) (03 R66). -/
def coefRam : Nat := 0x100040000
/-- Trim gains Ky of chain s and slot k, 32 bits each (05 R118). -/
def kyRam : Nat := 0x100042000
/-- Self scales F of chain s and pass, 16 bits each, at 2 (2 s + pass) (04 R97). -/
def scaleRam : Nat := 0x100044000
/-- Node-state RAM (05 R131). -/
def nodeRam : Nat := 0x100048000
/-- Sums of the baseline frames: 64-bit entries of 24,576 nodes and 320 pins (05 R132). -/
def accRam : Nat := 0x100050000
/-- Dictionary bank b (06 R155). -/
def dictBank (b : Nat) : Nat := 0x100090000 + 0x400 * b

/-! ### Bytes -/

/-- Byte `o` of the defaults image of a context slot (08 R238, R239, with the defaults of R79, R116, R148, R182 and R241). -/
def defaultsByte (slot o : Nat) : Byte :=
  match o with
  | 0x000 => 0x01 | 0x001 => BitVec.ofNat 8 slot
  | 0x2C1 => 1 | 0x2C2 => 1 | 0x2C4 => 4 | 0x2C5 => 3 | 0x2C6 => 1 | 0x2C7 => 0x0F | 0x2C8 => 240 | 0x2CA => 24 | 0x2CB => 3
  | 0x2CC => 25 | 0x2CD => 8 | 0x2CE => 64
  | 0x2E1 => 2 | 0x2E2 => 1 | 0x2E3 => 50 | 0x2E4 => 192 | 0x2E6 => 64 | 0x2E8 => 64 | 0x2EA => 24 | 0x2EB => 1 | 0x2EC => 160
  | 0x2EE => 96 | 0x2F1 => 8 | 0x2F2 => 4
  | 0x300 => 10 | 0x301 => 2 | 0x302 => 40 | 0x304 => 60 | 0x306 => 25 | 0x307 => 64 | 0x308 => 40 | 0x30A => 150 | 0x30C => 0x90
  | 0x30D => 1 | 0x30E => 128 | 0x310 => 0x08 | 0x311 => 7 | 0x312 => 64 | 0x314 => 8
  | 0x320 => 200 | 0x322 => 0x90 | 0x323 => 1 | 0x324 => 250 | 0x326 => 192 | 0x327 => 1 | 0x329 => 3 | 0x32A => 16 | 0x32B => 96
  | 0x32C => 40 | 0x32E => 1 | 0x331 => 8 | 0x333 => 1 | 0x335 => 4
  | 0x342 => 120 | 0x344 => 0xA0 | 0x345 => 15 | 0x346 => 4 | 0x347 => 4 | 0x349 => 10 | 0x34C => 0xFF | 0x34D => 0xFF
  | 0x34E => 0xFF | 0x34F => 0xFF
  | 0x362 => 1
  | _ => 0

/-- What an address that nothing has written reads as: the defaults image in the context RAM (08 R238), 0 elsewhere (log entry 3). -/
def Memory.background (a : Nat) : Byte :=
  if ctxBase ≤ a ∧ a < ctxBase + 0x4000 then defaultsByte ((a - ctxBase) / 0x800) ((a - ctxBase) % 0x800) else 0

/-- One byte. -/
def Memory.byte : Memory → Nat → Byte
  | [], a => Memory.background a
  | c :: m, a => if c.1 = a then c.2 else Memory.byte m a

/-- The listed cells of a block of bytes from address `a`. -/
def Memory.cellsFrom : Nat → List Byte → Memory
  | _, [] => []
  | a, b :: bs => if b = Memory.background a then Memory.cellsFrom (a + 1) bs else (a, b) :: Memory.cellsFrom (a + 1) bs

/-- The bytes of a block written from address `a` on. -/
def Memory.write (m : Memory) (a : Nat) (bs : List Byte) : Memory :=
  m.filter (fun c => c.1 < a) ++ (Memory.cellsFrom a bs ++ m.filter (fun c => a + bs.length ≤ c.1))

/-- `n` bytes from address `a` of cells that begin at `a` or later, rising. -/
def Memory.walk : Memory → Nat → Nat → List Byte
  | _, _, 0 => []
  | [], a, n + 1 => Memory.background a :: Memory.walk [] (a + 1) n
  | c :: m, a, n + 1 => if c.1 = a then c.2 :: Memory.walk m (a + 1) n else Memory.background a :: Memory.walk (c :: m) (a + 1) n

/-- `n` bytes from address `a`. -/
def Memory.read (m : Memory) (a n : Nat) : List Byte := Memory.walk (m.filter (fun c => a ≤ c.1 && c.1 < a + n)) a n

/-- An unsigned number of `n` bytes, little-endian (00 R7). -/
def Memory.le (m : Memory) (a n : Nat) : Nat := leNat (m.read a n)

/-- A signed number of `n` bytes. -/
def Memory.leI (m : Memory) (a n : Nat) : Int := sext (8 * n) (m.le a n)

/-- The signed numbers of `w` bytes each that a list of bytes spells. -/
def intsOf (w : Nat) : Nat → List Byte → List Int
  | 0, _ => []
  | n + 1, b => sext (8 * w) (leNat (b.take w)) :: intsOf w n (b.drop w)

/-- `n` signed numbers of `w` bytes each from address `a`. -/
def Memory.ints (m : Memory) (a w n : Nat) : List Int := intsOf w n (m.read a (w * n))

/-- Signed numbers as bytes, `w` each. -/
def intBytes (w : Nat) (xs : List Int) : List Byte := xs.flatMap (fun x => leBytes w (tc (8 * w) x))

/-- A number written as `n` bytes. -/
def Memory.putLe (m : Memory) (a n v : Nat) : Memory := m.write a (leBytes n v)

/-- A signed number written as `n` bytes. -/
def Memory.putLeI (m : Memory) (a n : Nat) (x : Int) : Memory := m.putLe a n (tc (8 * n) x)

/-- Everything from `a` on for `n` bytes back at what an unlisted address reads as. -/
def Memory.clear (m : Memory) (a n : Nat) : Memory := m.filter (fun c => c.1 < a || a + n ≤ c.1)

/-- Addresses strictly rising. -/
def Memory.rising : Memory → Bool
  | [] => true
  | [_] => true
  | c :: d :: m => c.1 < d.1 && Memory.rising (d :: m)

/-- The canonical form: addresses strictly rising, no entry equal to what an unlisted address reads as. -/
def Memory.wf (m : Memory) : Bool := Memory.rising m && m.all (fun c => c.2 != Memory.background c.1)

/-- The same bytes in canonical form. -/
def Memory.canon (m : Memory) : Memory := if m.wf then m else m.foldr (fun c a => a.write c.1 [c.2]) []

end Sys2Proof.Machine
end

