-- ==== Sys2Proof/Machine/Ops.lean ====
section
/-! DEFINITION. Operations that commands of every family share: how a command ends, free values, roles and domains, interrupt
arrivals, events, messages to the ring, parity captures, and taking an exception. -/

namespace Sys2Proof.Machine

/-- What a command answers. -/
abbrev Answer := Host.Outcome State Fault Refusal

/-- Every command ends here: the queue is not a command's to change, and the RAMs stand in canonical form. -/
def answer (s t : State) : Answer := .next { t with pending := s.pending, mem := t.mem.canon }

/-- One free value drawn (log entry 2). -/
def draw (s : State) : Word × State := (Config.freeValue s.fresh, { s with fresh := s.fresh + 1 })

/-- A free value limited to `-b` to `b`: an error bounded by the manual. -/
def bounded (w : Word) (b : Nat) : Int := (w.toNat % (2 * b + 1) : Nat) - (b : Int)

/-! ### Roles and domains (01 R17, R20) -/

def State.isMember (s : State) : Bool := s.boot.role == .member
def State.isRoot (s : State) : Bool := s.boot.role == .root
/-- The device has the host side of chapters 09 and 10 (09 R262). -/
def State.hostSide (s : State) : Bool := s.boot.role == .root || s.boot.role == .standalone

/-- Domain `id` (1 AON to 5 HOST) is on and clocked. -/
def State.domOn (s : State) (id : Nat) : Bool :=
  if id = 1 then true else if id = 2 then s.clk.core else if id = 3 then s.clk.afe else if id = 4 then s.clk.link
  else if id = 5 then s.clk.host else false

/-- Core 0's firmware is running (19 R496) and not restarting (18 R484). -/
def State.fwRuns (s : State) : Bool := s.clk.core && s.boot.phase == .running

/-- The tile's own index. -/
def State.tile (s : State) : Nat := if s.isMember then s.crl.tile else 0

/-- The slot that is ACTIVE, if one is (08 R235). -/
def State.activeSlot (s : State) : Option Nat := (List.range 8).find? (fun n => s.ctx.slots.getD n .empty == .active)

/-- The slot that is DRAINING, if one is. -/
def State.drainingSlot (s : State) : Option Nat := (List.range 8).find? (fun n => s.ctx.slots.getD n .empty == .draining)

/-- The slot that is PENDING, if one is. -/
def State.pendingSlot (s : State) : Option Nat := (List.range 8).find? (fun n => s.ctx.slots.getD n .empty == .pending)

/-- The target address and the word address of a settings-memory offset (17 R463). -/
def busAddr (o : Nat) : Nat × Nat := (0x50 + o / 65536, o % 65536)

/-- Transfers on the memory port's bus, oldest first; none without settings memory (17 R463, R469). -/
def State.onBus (l : List BusXfer) (s : State) : State := if s.boot.eepromSel then { s with out.bus := s.out.bus ++ l } else s

/-- A read of `n` bytes of settings memory from offset `o`. -/
def busRead (o n : Nat) : BusXfer := { dev := (busAddr o).1, word := (busAddr o).2, write := false, len := n, data := [] }

/-- A settings copy written at offset `o` in 128 pages of 64 bytes in ascending order, and read back (17 R475). -/
def busCopy (o : Nat) (c : List Byte) : List BusXfer :=
  (List.range 128).map (fun i =>
    { dev := (busAddr (o + 64 * i)).1, word := (busAddr (o + 64 * i)).2, write := true, len := 64, data := (c.drop (64 * i)).take 64 }) ++ [busRead o 0x2000]

/-- A context field of `n` bytes at offset `o` of a slot (08 R239). -/
def State.ctxField (s : State) (slot o n : Nat) : Nat := s.mem.le (ctxBase + 0x800 * slot + o) n

/-- A field of the ACTIVE context; the defaults hold while none is. -/
def State.act (s : State) (o n : Nat) : Nat := s.ctxField (s.activeSlot.getD 0) o n

/-- The slot that governs the frame of epoch `e`: the DRAINING one when the active context applied after it (08 R252). -/
def State.slotOf (s : State) (e : Nat) : Nat :=
  match s.drainingSlot with
  | some d => if later s.ctx.ea e then d else s.activeSlot.getD 0
  | none => s.activeSlot.getD 0

/-! ### Interrupt arrivals (14 R391 to R396) -/

/-- Sources whose target is fixed (14 R391): 0, 1, 2 and 47. -/
def fixedTarget (n : Nat) : Bool := n == 0 || n == 1 || n == 2 || n == 47

/-- Core 1 is unavailable (14 R396). -/
def State.core1Gone (s : State) : Bool := !s.mbx.run || s.mbx.halted

/-- The source would be for core 1, which is unavailable, and has no fallback. -/
def State.undeliverable (s : State) (n : Nat) (r : Src) : Bool :=
  r.target && s.core1Gone && (!r.fallback || fixedTarget n)

def State.setSrc (s : State) (n : Nat) (f : Src → Src) : State := { s with icu.src := s.icu.src.modify n f }
def State.srcAt (s : State) (n : Nat) : Src := s.icu.src.getD n {}

/-- ARR counts, and an arrival that finds PEND = 0 passes the coalescing stage; true when PEND becomes 1. -/
def Src.arrival (r : Src) : Src × Bool :=
  let r := { r with arr := cnt 4 r.arr 1 }
  if r.pend then (r, false)
  else if r.ccount ≤ r.c + 1 then ({ r with pend := true, c := 0, arrived0 := true, arrived1 := true }, true)
  else ({ r with c := r.c + 1 }, false)

/-- An arrival at source 47, which is core 0's own. -/
def arriveUndeliv (s : State) : State := s.setSrc 47 (fun r => r.arrival.1)

/-- `ICU_UNDEL` counts source `n` when it has become pending and cannot be delivered (14 R396). -/
def countUndeliverable (n : Nat) (s : State) : State :=
  let r := s.srcAt n
  if s.undeliverable n r && !r.mask && r.prio != 0 then
    arriveUndeliv { s with icu.undCount := cnt 8 s.icu.undCount 1, icu.undSrc := n }
  else s

/-- One arrival of source `n` (14 R392 to R394). -/
def arrive (n : Nat) (s : State) : State :=
  let (r, up) := (s.srcAt n).arrival
  let t := s.setSrc n (fun _ => r)
  if up then countUndeliverable n t else t

/-- The CORE domain is in reset (15 R425, 17 R459). -/
def State.coreInReset (s : State) : Bool := s.boot.phase == .held || s.boot.phase == .failed

/-- A block raises event line `n`: an arrival while CLK_BUS runs (14 R392). While it is stopped the crossing holds one request, and one more
for all that merge behind it, each of which is counted (15 R419); while the CORE domain is in reset its end is idle (R426). -/
def raise (n : Nat) (s : State) : State :=
  if s.clk.core then arrive n s
  else if s.coreInReset then s
  else
    let k := (s.icu.heldEdges.filter (· == n)).length
    let t := if k = 0 then s else { s with clk.mergeIcu := cnt 8 s.clk.mergeIcu 1 }
    if 2 ≤ k then t else { t with icu.heldEdges := s.icu.heldEdges ++ [n] }

/-- `ERR_STATUS.HOSTRD` is set; its change from 0 to 1 is HDMA_ERR (14 R391, R392). -/
def setHostrd (s : State) : State :=
  let t := { s with host.hostrd := true }
  if s.host.hostrd then t else raise 29 t

/-- The held edges arrive when the clock runs again (14 R392). -/
def releaseEdges (s : State) : State :=
  s.icu.heldEdges.foldl (fun t n => arrive n t) { s with icu.heldEdges := [] }

/-! ### Messages to the ring (07 R198 to R200) -/

def State.port (s : State) : Port → PortSt
  | .up => s.crl.up
  | .dn => s.crl.dn

def State.setPort (s : State) (p : Port) (f : PortSt → PortSt) : State :=
  match p with
  | .up => { s with crl.up := f s.crl.up }
  | .dn => { s with crl.dn := f s.crl.dn }

/-- The other port. -/
def portOther : Port → Port
  | .up => .dn
  | .dn => .up

/-- A frame joins the outgoing queue of its class on a port (07 R198). -/
def enqueueOn (p : Port) (f : CFrame) (s : State) : State :=
  s.setPort p (fun q => match f.cls with
    | 0 => { q with q0 := q.q0 ++ [f] }
    | 1 => { q with q1 := q.q1 ++ [f] }
    | _ => { q with q2 := q.q2 ++ [f] })

/-- The message travels UP-ward on its way from this device to `dst` (07 R199, R226). DESIGN CHOICE: a member that no ROUTE has told n yet
sends DN-ward (log entry 128). To and from the root the directions of ROUTE count,
before the first one the rule of the whole ring. Between members it is the way with fewer hops, DN-ward on a tie, and on a broken ring the
way that its broken links leave. -/
def State.goesUp (s : State) (dst : Nat) : Bool :=
  let p := s.tile
  let n := if s.crl.routed then s.crl.ring else s.crl.ntiles
  let upOf (t : Nat) : Bool := ((assoc s.crl.dirs t).getD (2 * t ≤ n))
  if p = 0 then !(if s.crl.routed then upOf dst else decide (2 * dst ≤ n))
  else if dst = 0 then (if s.crl.routed then upOf p else decide (2 * p ≤ n))
  else if s.crl.routed && !s.crl.cut.isEmpty then (if upOf p == upOf dst then decide (dst < p) else upOf p)
  else decide ((p + n - dst) % n < (dst + n - p) % n)

/-- A frame sent out in its direction. At a port that is down it turns back, which sets WRAP, until a ROUTE has arrived; after that it
waits for the port until it trains (07 R225): DESIGN CHOICE, since the manual is silent on it (log entry 128). -/
def sendFrame (f : CFrame) (s : State) : State :=
  let p : Port := if f.dirn then .up else .dn
  if (s.port p).state ≠ 2 ∧ (s.port (portOther p)).state = 2 ∧ !s.crl.wrapOff then
    enqueueOn (portOther p) { f with dirn := !f.dirn, wrapped := true } { s with crl.wrap := true }
  else enqueueOn p f s

/-- A message of class `cls` to tile `dst`, in `parts` frames of its own message number. -/
def sendMsgParts (cls dst : Nat) (bcast : Bool) (msgs : List Msg) (s : State) : State :=
  if !s.clk.link then s else
  let num := s.crl.msgNum
  let up := !bcast && s.goesUp dst
  let fr (i : Nat) (m : Msg) : CFrame :=
    { seq := 0, cls := cls, dst := dst, src := s.tile, bcast := bcast, dirn := up, wrapped := false, ttl := 127, num := num,
      part := i, parts := msgs.length, msg := m }
  let t := { s with crl.msgNum := (num + 1) % 65536 }
  if s.arr.quiet.contains dst && !bcast then
    { t with arr.queue := t.arr.queue ++ (List.zip (List.range msgs.length) msgs).map (fun im => fr im.1 im.2) }
  else (List.zip (List.range msgs.length) msgs).foldl (fun t im =>
    let t1 := sendFrame (fr im.1 im.2) t
    if bcast && s.crl.openRing then sendFrame { fr im.1 im.2 with dirn := true } t1 else t1) t

/-- A message of one frame to one tile. -/
def sendMsg (cls dst : Nat) (m : Msg) (s : State) : State := sendMsgParts cls dst false [m] s

/-- A message of one frame to every device. -/
def broadcast (cls : Nat) (m : Msg) (s : State) : State := sendMsgParts cls 0 true [m] s

/-- A message of one frame straight out of a port that is up (07 R204, R226). -/
def sendOn (p : Port) (cls dst : Nat) (m : Msg) (s : State) : State :=
  if !s.clk.link || (s.port p).state != 2 then s else
  enqueueOn p { seq := 0, cls := cls, dst := dst, src := s.tile, bcast := false, dirn := p == .up, wrapped := false, ttl := 127,
                num := s.crl.msgNum, part := 0, parts := 1, msg := m } { s with crl.msgNum := (s.crl.msgNum + 1) % 65536 }

/-! ### Events (10 R307, R308) -/

/-- An event enters the 64-entry buffer, or is dropped and counted in EVT_LOST, which wraps (R288). -/
def bufferEvent (e : Ev) (s : State) : State :=
  if s.evt.buf.length < 64 then { s with evt.buf := s.evt.buf ++ [e] }
  else { s with evt.lost := add32 s.evt.lost 1, evt.lostDue := cnt 32 s.evt.lostDue 1 }

/-- An event of this tile at an epoch: buffered at the root, sent to it by a member (07 R200), which holds it back while its core 0 restarts
(18 R484). -/
def postEventAt (epoch code d0 d1 : Nat) (s : State) : State :=
  if s.isMember && s.boot.phase != .restart then sendMsg 1 0 (.event code epoch (d0 % 2 ^ 32) (d1 % 2 ^ 31)) s
  else bufferEvent { code := code, tile := s.tile, epoch := epoch, d0 := d0 % 2 ^ 32, d1 := d1 % 2 ^ 31 } s

/-- An event of this tile at the current epoch. -/
def postEvent (code d0 d1 : Nat) (s : State) : State := postEventAt s.epoch code d0 d1 s

/-! ### Parity (18 R486) -/

/-- A detection is counted and, when none is held, captured. -/
def noteParity (store addr : Nat) (s : State) : State :=
  let t := { s with icu.parCnt := cnt 16 s.icu.parCnt 1 }
  if t.icu.parValid then { t with icu.parMulti := true }
  else { t with icu.parValid := true, icu.parStore := store, icu.parAddr := addr }

/-- A detection is counted, captured and raised. -/
def captureParity (store addr : Nat) (s : State) : State := raise (if store = 4 then 41 else 40) (noteParity store addr s)

/-- The root's own count of PARITY events (18 R486). -/
def countParityEvent (s : State) : State :=
  if s.hostSide then { s with host.parity := true, host.cntParity := cnt 8 s.host.cntParity 1 } else s

/-- A PARITY event is posted. -/
def postParity (r : Nat × Nat × Nat × Nat) (s : State) : State :=
  countParityEvent (postEventAt r.2.2.2 0x0E (r.1 + 65536 * r.2.1) r.2.2.1 s)

/-- Core 0 posts one PARITY event per store and per frame, which names the lowest damaged item: while frames run it waits for the frame's
end. -/
def parityEvent (store index action : Nat) (s : State) : State :=
  if !s.chn.timer || !(s.pwr.state == .active || s.pwr.state == .idleScan) then postParity (store, index, action, s.epoch) s
  else if s.evt.parThis.any (fun r => r.1 == store) then
    { s with evt.parThis := s.evt.parThis.map (fun r =>
        if r.1 == store && decide (index < r.2.1) then (store, index, action, r.2.2.2) else r) }
  else { s with evt.parThis := s.evt.parThis ++ [(store, index, action, s.epoch)] }

/-- The frame has ended: its PARITY events are posted. -/
def postParities (s : State) : State := s.evt.parThis.foldl (fun t r => postParity r t) { s with evt.parThis := [] }

/-! ### The cores (12) -/

def State.core (s : State) : CoreId → Core
  | .c0 => s.core0
  | .c1 => s.core1

def State.setCore (s : State) (c : CoreId) (k : Core) : State :=
  match c with
  | .c0 => { s with core0 := k }
  | .c1 => { s with core1 := k }

/-- STATUS as a word, with DS as ESTATUS holds it (12 R347). -/
def Core.status (k : Core) (ds : Bool) : Word :=
  BitVec.ofNat 32 (b2n k.ie + 2 * b2n k.brm + 4 * b2n k.exc + 8 * b2n ds + 16 * (k.level % 16))

/-- Cycles pass on CYCLE (12 R346). -/
def Core.tick (k : Core) (n : Nat) : Core := { k with cycle := (k.cycle + n) % 2 ^ 64 }

/-- The core takes commands: its domain is clocked, it is out of reset, not halted and not in WAIT. In limp mode core 1's clock is gated
(16 R448). -/
def State.canRun (s : State) (c : CoreId) : Bool :=
  s.clk.core && !(s.core c).waiting &&
    match c with
    | .c0 => s.boot.phase != .held && s.boot.phase != .failed
    | .c1 => s.mbx.run && !s.mbx.halted && !s.pwr.limp

/-- Base of core 1's code part (12 R342). -/
def State.c1Base (s : State) : Nat := codeBase + 0x4000 * s.mbx.split

/-- Core 0 is to restart (18 R484): READY falls, and a member asks the root for its image again (19 R503). -/
def restartCore0 (s : State) : State :=
  let t := { s with boot.phase := .restart, boot.ready := false, boot.reload := false, boot.fwRetried := false }
  if t.isMember then sendMsg 1 0 (.ready 0) t else t

/-- Core 0 enters boot/recovery mode at 0x0000_0100 (12 R362); the restart of 18 R484 begins. -/
def recoveryTrap (s : State) : State :=
  let k := s.core0
  restartCore0 { s with
    core0 := { k with brm := true, ie := false, exc := false, level := 0, vbase := 0x1000#32, pc := 0x100#32, ld := none,
                      slot := [], waiting := false } }

/-- The store code of 18 R482 of a byte the cores and Mute can reach. -/
def storeAt (s : State) (a : Nat) : Nat :=
  if codeBase ≤ a ∧ a < codeBase + 0x40000 then (if a < s.c1Base then 0x0F else 0x10)
  else if dataBase ≤ a ∧ a < dataBase + 0x20000 then (if a < sharedBase then 0x0F else 0x10)
  else if frameBase ≤ a ∧ a < frameBase + 0xC0000 then
    (if a < baseMut then 0x01 else if a < 0x30061800 then 0x06 else if a < listenData then 0x02 else if a < baseSelf then 0x03
     else if a < noiseArea then 0x07 else if a < mirrorBase then 0x03 else if a < crookBuf then 0x0A else if a < muteStaging then 0x14
     else if a < captureStaging then 0x12 else 0x13)
  else if ctxBase ≤ a ∧ a < ctxBase + 0x4000 then 0x0B
  else 0x16

/-- One of the `n` bytes from `a` on is known to hold bad parity. -/
def State.badAt (s : State) (a n : Nat) : Bool := s.parBad.any (fun x => decide (a ≤ x ∧ x < a + n))

/-- The byte of a store holds bad parity until it is written, where nothing mends it: code and data SRAM (18 R477, R482; log entry 132). -/
def noteBad (store a : Nat) (s : State) : State :=
  if store = 0x0F ∨ store = 0x10 then { s with parBad := s.parBad.filter (· != a) ++ [a] } else s

/-- Bytes written to a RAM: they are good again (18 R477). -/
def State.put (s : State) (a : Nat) (bs : List Byte) : State :=
  { s with mem := s.mem.write a bs, parBad := s.parBad.filter (fun x => decide (x < a) || decide (a + bs.length ≤ x)) }

/-- A detection by a core's read: counted and captured, with the PARITY event of its store (18 R486); the ICU source of a core's own
read stays quiet (14 R391). Core 0's own code or data restart it, and its event waits until the restart is over (R484). -/
def coreParity (c : CoreId) (a : Nat) (s : State) : State :=
  let st := storeAt s a
  let t := noteBad st a (noteParity st a s)
  if c == .c0 && st == 0x0F then restartCore0 { t with boot.restartPar := true }
  else parityEvent st 0 0 t

/-- Core 1 stops after a double fault (12 R370): HALTED and CAUSE, source 2, the sources it leaves undeliverable (14 R396), and
the APPLET event that core 0 firmware posts. -/
def haltCore1 (cause : Nat) (s : State) : State :=
  let t := { s with mbx.halted := true, mbx.cause := cause }
  let t := if s.core1Gone then t else
    (List.range 48).foldl (fun u n => if (u.srcAt n).pend then countUndeliverable n u else u) t
  let t := raise 2 t
  postEvent 0x13 (0xFFFF0000 + cause) (t.core1.epc.toNat % 2 ^ 31) t

/-- TAKING AN EXCEPTION (12 R358): ESTATUS, EPC, EADDR and ECAUSE are set, STATUS takes EXC = 1 and IE = 0, and the core goes on at
VBASE + 0x600. An instruction in a delay slot gives ESTATUS.DS and ETGT (R356). While EXC = 1 it is a double fault (R360). -/
def takeExc (c : CoreId) (cause : Nat) (epc eaddr : Word) (s : State) : State :=
  let k := s.core c
  let ds := !k.slot.isEmpty
  let k1 := { k with
    estatus := k.status ds, epc := if ds then k.pc else epc, eaddr := eaddr, ecause := cause,
    etgt := k.slot.headD k.etgt, ld := none }
  if k.exc then
    match c with
    | .c0 => recoveryTrap { s with core0 := k1 }
    | .c1 => haltCore1 cause { s with core1 := { k1 with slot := [] } }
  else
    s.setCore c ({ k1 with exc := true, ie := false, pc := k.vbase + 0x600#32, slot := [] }.tick 4)

/-- A faulting instruction: EPC names it (12 R357). -/
def faultAt (c : CoreId) (cause : Nat) (eaddr : Word) (s : State) : State := takeExc c cause (s.core c).pc eaddr s

/-- A core-0 store, as a command of its own, to a register whose domain is `on`: elsewhere it raises DATA_BUS, where core 0 runs (12 R344). -/
def offStore (on : Bool) (ea : Nat) (f : State → State) (s : State) : State :=
  if s.clk.core && on then f s
  else if s.canRun .c0 then faultAt .c0 0x02 (BitVec.ofNat 32 ea) s
  else s

/-- RETURN FROM AN EXCEPTION (12 R358, R356): STATUS := ESTATUS, BRM only cleared, on at EPC, and then at ETGT when ESTATUS.DS = 1.
In boot/recovery mode the next instruction runs first (R354). -/
def retExc (c : CoreId) (s : State) : State :=
  let k := s.core c
  let e := k.estatus.toNat
  let go := if bit e 3 then [k.epc, k.etgt] else [k.epc]
  let k1 := { k with ie := bit e 0, brm := k.brm && bit e 1, exc := bit e 2, level := fld e 4 4, ld := none }
  s.setCore c (if k.brm then { k1.tick 1 with pc := k.pc + 4#32, slot := go }
    else { k1.tick 4 with pc := go.headD k.epc, slot := go.tail })

/-- The instruction is done: on to the next one, or to where a delay slot leads (12 R354). -/
def Core.advance (k : Core) (cycles : Nat) : Core :=
  match k.slot with
  | [] => { k.tick cycles with pc := k.pc + 4#32 }
  | t :: ts => { k.tick cycles with pc := t, slot := ts }

/-- A taken transfer (12 R341, R354): in boot/recovery mode the next instruction runs before the target. -/
def Core.jump (k : Core) (target : Word) (cycles : Nat) : Core :=
  if k.brm then { k.tick 1 with pc := k.pc + 4#32, slot := [target] }
  else { k.tick cycles with pc := target, slot := [] }

end Sys2Proof.Machine
end

