-- ==== Sys2Proof/Machine/Bellows.lean ====
section
/-! DEFINITION. What Bellows does for commands of every family: its counters, and recording a wake source (16 R438, R439, R443). -/

namespace Sys2Proof.Machine

/-- Counter `n` of 16 R453 advances; `id` is the block recorded with it, 0 for counters that hold none. -/
def belCount (n id : Nat) (s : State) : State :=
  { s with pwr.counters := s.pwr.counters.modify n (fun c => { count := cnt 16 c.count 1, lastId := id }) }

/-- The code of a power state (09 R272). -/
def PState.code : PState → Nat
  | .active => 0
  | .idleScan => 1
  | .drone => 2
  | .dormant => 3

/-- The state of a code. -/
def pstateOf : Nat → PState
  | 0 => .active
  | 1 => .idleScan
  | 2 => .drone
  | _ => .dormant

/-- A wake source: its bit in `BEL_WAKE_EN`, and whether it can arise in IDLE-SCAN, DRONE and DORMANT (16 R438). -/
structure WakeInfo where
  bit : Nat
  idle : Bool
  drone : Bool
  dormant : Bool
deriving DecidableEq, Repr

/-- The table of 16 R438. -/
def wakeInfo : Nat → Option WakeInfo
  | 0x01 => some ⟨0, true, true, false⟩
  | 0x02 => some ⟨1, false, false, true⟩
  | 0x03 => some ⟨2, false, true, false⟩
  | 0x10 => some ⟨3, false, true, false⟩
  | 0x11 => some ⟨4, true, false, false⟩
  | 0x12 => some ⟨5, true, false, false⟩
  | 0x20 => some ⟨6, false, true, true⟩
  | 0x21 => some ⟨7, true, true, true⟩
  | 0x30 => some ⟨8, true, true, true⟩
  | 0x31 => some ⟨9, true, true, true⟩
  | 0x32 => some ⟨10, true, true, true⟩
  | 0x33 => some ⟨11, true, true, true⟩
  | 0x40 => some ⟨12, false, true, true⟩
  | 0x50 => some ⟨13, false, true, false⟩
  | _ => none

/-- The state that a source raises to (16 R438): from DORMANT every wake ends in ACTIVE. -/
def wakeTarget (code : Nat) (st : PState) (floor : Nat) : PState :=
  if st = .dormant then .active
  else match code with
    | 0x01 => pstateOf floor
    | 0x03 => .idleScan
    | 0x10 => .idleScan
    | 0x40 => .idleScan
    | 0x50 => .idleScan
    | _ => .active

/-- The source can arise in this state. -/
def WakeInfo.arises (w : WakeInfo) : PState → Bool
  | .active => false
  | .idleScan => w.idle
  | .drone => w.drone
  | .dormant => w.dormant

/-- A source sets out for Bellows (15 R422): one request is on its way, and one more for all that merge behind it, each of which is
counted (R419). -/
def wakeSource (code : Nat) (s : State) : State :=
  let k := (s.pwr.wakeDue.filter (· == code)).length
  let t := if k = 0 then s else { s with clk.mergeWake := cnt 8 s.clk.mergeWake 1 }
  if 2 ≤ k then t else { t with pwr.wakeDue := s.pwr.wakeDue ++ [code] }

/-- STATE as `PWR_STATE` shows it: limp mode reads 2 (16 R448). -/
def State.shownState (s : State) : Nat := if s.pwr.limp then 2 else s.pwr.state.code

/-- The floor written by the host (16 R431): 4 to 7 are reserved; latched while a transition runs; below the present state it is the
HOST_REQ wake source. -/
def setFloor (st : Nat) (s : State) : State :=
  if 4 ≤ st then s
  else if s.pwr.busy then { s with pwr.floorNext := some st }
  else
    let t := { s with pwr.floor := st }
    if st < t.shownState then wakeSource 0x01 t else t

/-- A transition has ended: a floor written meanwhile governs (16 R431). -/
def latchedFloor (s : State) : State := match s.pwr.floorNext with
  | some f => setFloor f { s with pwr.floorNext := none }
  | none => s

/-- How the host learns of a wake (16 R439). -/
def notifyHost (code : Nat) (s : State) : State :=
  if !s.hostSide then s
  else match s.host.dstate with
    | .d0 =>
      if s.pwr.state = .idleScan ∧ s.rings.act then postEvent 0x10 code 0 s
      else { s with pwr.wakeEvts := s.pwr.wakeEvts ++ [code] }
    | .d3hot => { s with host.pmPme := s.host.pmPme + 1 }
    | .d3cold => { s with host.wakePin := true }

/-- A wake beacon out of both Crila ports (16 R438); a standalone device has no partner. -/
def sendBeacons (ps : List Port) (s : State) : State :=
  if s.boot.role = .standalone then s else { s with out.beacons := s.out.beacons ++ ps }

/-- LAST, PREV and NEW, the wake record of the retention memory (16 R441), the count of wakes, and the PWR_DONE source (R439, 14 R391). -/
def recordWake (code : Nat) (s : State) : State :=
  raise 36 (belCount 20 0 { s with pwr.prev := s.pwr.last, pwr.last := code, pwr.new := true
                                   mem := s.mem.putLe (retBase + 0x104) 4 (code + 256 * s.pwr.last) })

/-- The state that a wake raises the device to: out of limp mode, once HOLD is clear, the floor, or IDLE-SCAN where the floor is deeper
(16 R449). -/
def wakeRise (code : Nat) (s : State) : PState :=
  if s.pwr.limp then (if s.pwr.floor < 2 then pstateOf s.pwr.floor else .idleScan) else wakeTarget code s.pwr.state s.pwr.floor

/-- What a wake sends over Crila (16 R438): beacons out of both ports, or, where a beacon is the source, out of the other one. DESIGN CHOICE:
a member that rises to ACTIVE for a source of its own also tells the root which, so that the root applies its target to the array (log
entry 132). -/
def wakeOthers (code : Nat) (tgt : PState) (s : State) : State :=
  if code = 0x40 then sendBeacons (s.pwr.beaconPort.map portOther).toList { s with pwr.beaconPort := none }
  else sendBeacons [.up, .dn] (if s.isMember && tgt == .active then { s with pwr.tellRoot := some code } else s)

/-- A recorded wake acts: latched during an entry (16 R443); no rise while HOLD stands (R448); during an exit it waits for its end (R443);
else the exit begins. From IDLE-SCAN the rise takes effect at the next boundary (R444); a member's rise from there is the root's to order
(R433), which the member tells of it. -/
def actOnWake (code : Nat) (s : State) : State :=
  if s.pwr.hold then s
  else if s.pwr.busy && s.pwr.target.code > s.pwr.state.code then
    belCount 12 0 { s with pwr.latched := some code }
  else
    let tgt := wakeRise code s
    if tgt.code ≥ s.pwr.state.code then s
    else if s.pwr.busy then (if s.pwr.state = .idleScan then s else { s with pwr.during := s.pwr.during ++ [code] })
    else
      let t := { s with pwr.floor := if s.pwr.state = .dormant then 0 else s.pwr.floor }
      if t.pwr.state = .idleScan then
        if t.isMember then sendMsg 1 0 (.wake code) t else { t with pwr.busy := true, pwr.target := tgt }
      else
        wakeOthers code tgt { t with pwr.busy := true, pwr.target := tgt, pwr.byDrone := code == 0x10, pwr.wakeSinceDrone := code != 0x10 }

/-- Bellows takes a wake source (16 R439): a disabled source is neither recorded nor acted on. -/
def takeWake (code : Nat) (s : State) : State :=
  let t := { s with pwr.wakeDue := s.pwr.wakeDue.erase code
                    pwr.gpioEdge := if 0x30 ≤ code ∧ code < 0x34 then s.pwr.gpioEdge.set (code - 0x30) false else s.pwr.gpioEdge }
  match wakeInfo code with
  | none => t
  | some w =>
    if !bit t.pwr.wakeEn w.bit then t
    else if !w.arises t.pwr.state && !(t.pwr.busy && t.pwr.target.code > t.pwr.state.code) then t
    else
      let u := recordWake code t
      let u := if bit u.pwr.wakeHost w.bit then notifyHost code u else u
      actOnWake code u

end Sys2Proof.Machine
end

