-- ==== Sys2Proof/Machine/Operands.lean ====
section
/-! DEFINITION. Operands of the Izyten instructions: register reads under the load delay, and the addressing modes with their base
updates (12 R348 to R351, 13 R380). -/

namespace Sys2Proof.Machine

/-- A register as the instruction now executing reads it: the one just loaded still gives its old value (12 R351). -/
def Core.rd (k : Core) (r : Reg) : Word :=
  match k.ld with
  | some (l, old) => if l = r then old else k.g.get r
  | none => k.g.get r

/-- A register write, visible to the very next instruction (13 R376). -/
def Core.wr (k : Core) (r : Reg) (v : Word) : Core := { k with g := k.g.set r v }

/-- The load delay ends with the instruction that follows the load. -/
def Core.settleLoad (k : Core) : Core := { k with ld := none }

/-- A load's result: written now; the next instruction still reads the old value, but for boot/recovery mode, where the core
stalls a cycle (12 R351, R354). -/
def Core.wrLoad (k : Core) (r : Reg) (v : Word) : Core :=
  if k.brm then { (k.wr r v).tick 1 with ld := none }
  else { k.wr r v with ld := some (r, k.g.get r) }

/-- Base of address generator `n` after a step of `st` bytes from `g` (12 R350). -/
def agUpdate (k : Core) (n : Fin 4) (g : Word) (st : Int) (size : Nat) : Word :=
  let base := (k.agBase.get n).toNat
  let len := k.agLen.get n
  let mode := k.agMode.get n
  let lin := BitVec.ofInt 32 (g.toInt + st)
  if len = 0 then lin
  else if mode = 1 then
    let n := (g.toNat : Int) + st
    BitVec.ofInt 32 (if 0 ≤ st then (if (base + len : Nat) ≤ n then n - (len : Nat) else n) else (if n < (base : Nat) then n + (len : Nat) else n))
  else if mode = 2 then
    if !isPow2 len || len < size || base % len ≠ 0 then lin
    else
      let q := ilog2 size
      let w := ilog2 len - q
      let i := (g - BitVec.ofNat 32 base).toNat / 2 ^ q
      BitVec.ofNat 32 base + BitVec.ofNat 32 (revBits w ((revBits w i + 1) % 2 ^ w) * 2 ^ q)
  else lin

/-- The effective address of an access of `size` bytes, and Gb afterwards (12 R348). -/
def Core.ea (k : Core) (gb : Reg) (size : Nat) : AMode → Word × Word
  | .disp d => (k.rd gb + d.signExtend 32, k.rd gb)
  | .index gi sc => (k.rd gb + (k.rd gi <<< sc.val), k.rd gb)
  | .postInc none st => (k.rd gb, k.rd gb + BitVec.ofInt 32 (st.toInt * size))
  | .postInc (some n) st => (k.rd gb, agUpdate k n (k.rd gb) (st.toInt * size) size)
  | .preDec => (k.rd gb - BitVec.ofNat 32 size, k.rd gb - BitVec.ofNat 32 size)

/-- The mode updates Gb. -/
def updatesBase : AMode → Bool
  | .disp _ => false
  | .index _ _ => false
  | .postInc _ _ => true
  | .preDec => true

/-- A pre-decrement store through G15 below SLIMIT (12 R352, 13 R381). -/
def stackCheck (k : Core) (gb : Reg) (ea : Word) : AMode → Bool
  | .preDec => gb == 15 && ea.toNat < k.slimit.toNat
  | _ => false

/-- Size in bytes of an element (13 R385). -/
def elemSize (size : BitVec 2) : Nat := 2 ^ size.toNat

end Sys2Proof.Machine
end

