-- ==== Sys2Proof/Machine/Flags.lean ====
section
/-! DEFINITION. The Izyten cores have no condition flags (12 R345): what other machines keep in flags is here the compare of a
compare-and-branch (13 R383), of BRZ and of a string element (13 R385), and saturation (13 R377, R379). -/

namespace Sys2Proof.Machine

/-- A truth value as a register result. -/
def asWord (b : Bool) : Word := if b then 1#32 else 0#32

/-- The comparisons of 13 R383. -/
inductive Cmp where
  | eq | ne | lt | ge | lo | hs
deriving DecidableEq, Repr

/-- Ga compared with Gb. -/
def Cmp.holds : Cmp → Word → Word → Bool
  | .eq, a, b => a == b
  | .ne, a, b => a != b
  | .lt, a, b => a.slt b
  | .ge, a, b => !a.slt b
  | .lo, a, b => a.ult b
  | .hs, a, b => !a.ult b

/-- BRZ's comparison of Ga with zero by COND; 6 to 15 are reserved (13 R383). -/
def brzHolds (cond : BitVec 4) (a : Word) : Bool :=
  match cond.toNat with
  | 0 => a == 0#32
  | 1 => a != 0#32
  | 2 => a.toInt < 0
  | 3 => 0 ≤ a.toInt
  | 4 => 0 < a.toInt
  | _ => a.toInt ≤ 0

/-- A string element compared with its operand, both unsigned (13 R385). -/
def elemHolds (cond : BitVec 2) (e p : Nat) : Bool :=
  match cond.toNat with
  | 0 => e == p
  | 1 => e != p
  | 2 => e < p
  | _ => p ≤ e

/-- A value limited to a signed 32-bit word. -/
def sat32 (x : Int) : Word := BitVec.ofInt 32 (satI 32 x)

/-- A value limited to 16 bits, sign-extended. -/
def sat16 (x : Int) : Word := BitVec.ofInt 32 (satI 16 x)

/-- The low 16 bits of a register as a Q15 value (13 R379). -/
def q15 (w : Word) : Int := (w.setWidth 16).toInt

end Sys2Proof.Machine
end

