-- ==== Sys2Proof/Machine/Integer.lean ====
section
/-! DEFINITION. Izyten instructions: the frame every instruction shares, and the integer, immediate and Q15 groups
(13 R377 to R379). Each instruction has a meaning of its own over these shared forms. -/

namespace Sys2Proof.Machine

/-- An address the core may fetch from (12 R342). -/
def fetchOk (s : State) (c : CoreId) (pc : Word) : Bool :=
  let a := pc.toNat
  a < 0x10000 ||
    match c with
    | .c0 => codeBase ≤ a && a < s.c1Base
    | .c1 => s.c1Base ≤ a && a < codeBase + 0x40000

/-- The word at the core's pc is known to hold bad parity (12 R357). -/
def State.fetchBad (s : State) (c : CoreId) : Bool := s.badAt (s.core c).pc.toNat 4

/-- The frame of an instruction: a core that is not running takes no command (log entry 7); a fetch the map forbids raises FETCH_BUS
and one of a word with bad parity PARITY (12 R357); a reserved encoding (`ok` false, 12 R349) or a reserved use in a delay slot (`ban` true, 12 R355) stops. -/
def instr (c : CoreId) (ok ban : Bool) (body : State → State) (s : State) : Answer :=
  if !s.canRun c then answer s s
  else if !fetchOk s c (s.core c).pc then answer s (takeExc c 0x01 (s.core c).pc (s.core c).pc s)
  else if s.fetchBad c then answer s (faultAt c 0x07 (s.core c).pc (coreParity c (s.core c).pc.toNat s))
  else if !ok then .fault .reservedEncoding
  else if ban && !(s.core c).slot.isEmpty then .fault .reservedUse
  else answer s (body s)

/-- A register result of one cycle: the register written, the load delay over, on to the next instruction. -/
def setReg (c : CoreId) (gd : Reg) (f : Core → Word) (s : State) : State :=
  s.setCore c ((((s.core c).wr gd (f (s.core c))).settleLoad).advance 1)

/-- An instruction whose whole effect is one register result. -/
def alu (c : CoreId) (gd : Reg) (f : Core → Word) (s : State) : Answer := instr c true false (setReg c gd f) s

/-- Leading zero bits of a word, 0 to 32 (13 R377). -/
def clzWord (w : Word) : Nat :=
  (List.range 32).foldr (fun i n => if w.getLsbD (31 - i) then 0 else n + 1) 0

/-- R377: Ga + Gb. -/
def execAdd (c : CoreId) (gd ga gb : Reg) (s : State) : Answer :=
  alu c gd (fun k => k.rd ga + k.rd gb) s

/-- R377: Ga - Gb. -/
def execSub (c : CoreId) (gd ga gb : Reg) (s : State) : Answer :=
  alu c gd (fun k => k.rd ga - k.rd gb) s

/-- R377: Ga AND Gb. -/
def execAnd (c : CoreId) (gd ga gb : Reg) (s : State) : Answer :=
  alu c gd (fun k => k.rd ga &&& k.rd gb) s

/-- R377: Ga OR Gb. -/
def execOr (c : CoreId) (gd ga gb : Reg) (s : State) : Answer :=
  alu c gd (fun k => k.rd ga ||| k.rd gb) s

/-- R377: Ga XOR Gb. -/
def execXor (c : CoreId) (gd ga gb : Reg) (s : State) : Answer :=
  alu c gd (fun k => k.rd ga ^^^ k.rd gb) s

/-- R377: 1 if Ga < Gb signed, else 0. -/
def execCmplt (c : CoreId) (gd ga gb : Reg) (s : State) : Answer :=
  alu c gd (fun k => asWord ((k.rd ga).slt (k.rd gb))) s

/-- R377: 1 if Ga < Gb unsigned, else 0. -/
def execCmplo (c : CoreId) (gd ga gb : Reg) (s : State) : Answer :=
  alu c gd (fun k => asWord ((k.rd ga).ult (k.rd gb))) s

/-- R377: The smaller, signed. -/
def execMin (c : CoreId) (gd ga gb : Reg) (s : State) : Answer :=
  alu c gd (fun k => if (k.rd gb).slt (k.rd ga) then k.rd gb else k.rd ga) s

/-- R377: The larger, signed. -/
def execMax (c : CoreId) (gd ga gb : Reg) (s : State) : Answer :=
  alu c gd (fun k => if (k.rd ga).slt (k.rd gb) then k.rd gb else k.rd ga) s

/-- R377: The smaller, unsigned. -/
def execMinu (c : CoreId) (gd ga gb : Reg) (s : State) : Answer :=
  alu c gd (fun k => if (k.rd gb).ult (k.rd ga) then k.rd gb else k.rd ga) s

/-- R377: The larger, unsigned. -/
def execMaxu (c : CoreId) (gd ga gb : Reg) (s : State) : Answer :=
  alu c gd (fun k => if (k.rd ga).ult (k.rd gb) then k.rd gb else k.rd ga) s

/-- R377: Ga shifted left by Gb[4:0]. -/
def execShl (c : CoreId) (gd ga gb : Reg) (s : State) : Answer :=
  alu c gd (fun k => k.rd ga <<< ((k.rd gb).toNat % 32)) s

/-- R377: Ga shifted right by Gb[4:0], zero fill. -/
def execShru (c : CoreId) (gd ga gb : Reg) (s : State) : Answer :=
  alu c gd (fun k => k.rd ga >>> ((k.rd gb).toNat % 32)) s

/-- R377: Ga shifted right by Gb[4:0], sign fill. -/
def execShrs (c : CoreId) (gd ga gb : Reg) (s : State) : Answer :=
  alu c gd (fun k => (k.rd ga).sshiftRight ((k.rd gb).toNat % 32)) s

/-- R377: Bits [31:0] of the product. -/
def execMul (c : CoreId) (gd ga gb : Reg) (s : State) : Answer :=
  alu c gd (fun k => k.rd ga * k.rd gb) s

/-- R377: Bits [63:32] of the signed product. -/
def execMulhs (c : CoreId) (gd ga gb : Reg) (s : State) : Answer :=
  alu c gd (fun k => BitVec.ofInt 32 ((k.rd ga).toInt * (k.rd gb).toInt / 2 ^ 32)) s

/-- R377: Bits [63:32] of the unsigned product. -/
def execMulhu (c : CoreId) (gd ga gb : Reg) (s : State) : Answer :=
  alu c gd (fun k => BitVec.ofNat 32 ((k.rd ga).toNat * (k.rd gb).toNat / 2 ^ 32)) s

/-- R377: The signed sum, limited to 32 bits. -/
def execAddsat (c : CoreId) (gd ga gb : Reg) (s : State) : Answer :=
  alu c gd (fun k => sat32 ((k.rd ga).toInt + (k.rd gb).toInt)) s

/-- R377: The signed difference, limited to 32 bits. -/
def execSubsat (c : CoreId) (gd ga gb : Reg) (s : State) : Answer :=
  alu c gd (fun k => sat32 ((k.rd ga).toInt - (k.rd gb).toInt)) s

/-- R377: The low byte of Ga, sign-extended. -/
def execSexb (c : CoreId) (gd ga : Reg) (s : State) : Answer :=
  alu c gd (fun k => ((k.rd ga).setWidth 8).signExtend 32) s

/-- R377: The low halfword of Ga, sign-extended. -/
def execSexh (c : CoreId) (gd ga : Reg) (s : State) : Answer :=
  alu c gd (fun k => ((k.rd ga).setWidth 16).signExtend 32) s

/-- R377: Leading zero bits of Ga. -/
def execClz (c : CoreId) (gd ga : Reg) (s : State) : Answer :=
  alu c gd (fun k => BitVec.ofNat 32 (clzWord (k.rd ga))) s

/-- R378: Ga + sext(imm18). -/
def execAddK (c : CoreId) (gd ga : Reg) (imm : BitVec 18) (s : State) : Answer :=
  alu c gd (fun k => k.rd ga + imm.signExtend 32) s

/-- R378: Ga AND zext(imm18). -/
def execAndK (c : CoreId) (gd ga : Reg) (imm : BitVec 18) (s : State) : Answer :=
  alu c gd (fun k => k.rd ga &&& imm.setWidth 32) s

/-- R378: Ga OR zext(imm18). -/
def execOrK (c : CoreId) (gd ga : Reg) (imm : BitVec 18) (s : State) : Answer :=
  alu c gd (fun k => k.rd ga ||| imm.setWidth 32) s

/-- R378: Ga XOR zext(imm18). -/
def execXorK (c : CoreId) (gd ga : Reg) (imm : BitVec 18) (s : State) : Answer :=
  alu c gd (fun k => k.rd ga ^^^ imm.setWidth 32) s

/-- R378: 1 if Ga < sext(imm18) signed, else 0. -/
def execCmpltK (c : CoreId) (gd ga : Reg) (imm : BitVec 18) (s : State) : Answer :=
  alu c gd (fun k => asWord ((k.rd ga).slt (imm.signExtend 32))) s

/-- R378: 1 if Ga < sext(imm18) unsigned, else 0. -/
def execCmploK (c : CoreId) (gd ga : Reg) (imm : BitVec 18) (s : State) : Answer :=
  alu c gd (fun k => asWord ((k.rd ga).ult (imm.signExtend 32))) s

/-- R378: Ga shifted left by imm18[4:0]. -/
def execShlK (c : CoreId) (gd ga : Reg) (sh : BitVec 5) (s : State) : Answer :=
  alu c gd (fun k => k.rd ga <<< sh.toNat) s

/-- R378: Ga shifted right, zero fill. -/
def execShruK (c : CoreId) (gd ga : Reg) (sh : BitVec 5) (s : State) : Answer :=
  alu c gd (fun k => k.rd ga >>> sh.toNat) s

/-- R378: Ga shifted right, sign fill. -/
def execShrsK (c : CoreId) (gd ga : Reg) (sh : BitVec 5) (s : State) : Answer :=
  alu c gd (fun k => (k.rd ga).sshiftRight sh.toNat) s

/-- R378: imm18 << 14. -/
def execLdhi (c : CoreId) (gd : Reg) (imm : BitVec 18) (s : State) : Answer :=
  alu c gd (fun _ => imm.setWidth 32 <<< 14) s

/-- R379: The rounded, saturated Q15 product. -/
def execMulq (c : CoreId) (gd ga gb : Reg) (s : State) : Answer :=
  alu c gd (fun k => sat16 (rshr (q15 (k.rd ga) * q15 (k.rd gb)) 15)) s

/-- R379: Gd plus the doubled product, limited to 32 bits. -/
def execMacq (c : CoreId) (gd ga gb : Reg) (s : State) : Answer :=
  alu c gd (fun k => sat32 ((k.rd gd).toInt + 2 * (q15 (k.rd ga) * q15 (k.rd gb)))) s

/-- R379: Gd less the doubled product, limited to 32 bits. -/
def execMsuq (c : CoreId) (gd ga gb : Reg) (s : State) : Answer :=
  alu c gd (fun k => sat32 ((k.rd gd).toInt - 2 * (q15 (k.rd ga) * q15 (k.rd gb)))) s

/-- R379: Q31 rounded to Q15. -/
def execRndq (c : CoreId) (gd ga : Reg) (s : State) : Answer :=
  alu c gd (fun k => sat16 (rshr (k.rd ga).toInt 16)) s

/-- R379: The Q15 sum, limited to 16 bits. -/
def execAddq (c : CoreId) (gd ga gb : Reg) (s : State) : Answer :=
  alu c gd (fun k => sat16 (q15 (k.rd ga) + q15 (k.rd gb))) s

/-- R379: The Q15 difference, limited to 16 bits. -/
def execSubq (c : CoreId) (gd ga gb : Reg) (s : State) : Answer :=
  alu c gd (fun k => sat16 (q15 (k.rd ga) - q15 (k.rd gb))) s

end Sys2Proof.Machine
end

