-- ==== Sys2Proof/Machine/Icu.lean ====
section
/-! DEFINITION. The interrupt unit (14): selection and delivery, completions, its registers, and the commands that act on it. -/

namespace Sys2Proof.Machine

/-- The core a pending source is for, taking fallback into account; none while it is undeliverable (14 R396). -/
def State.effTarget (s : State) (n : Nat) : Option CoreId :=
  let r := s.srcAt n
  if !r.target then some .c0
  else if s.undeliverable n r then none
  else if s.core1Gone then some .c0
  else some .c1

/-- Source `n` may be selected for core `c` (14 R397). -/
def State.eligible (s : State) (c : CoreId) (n : Nat) : Bool :=
  let r := s.srcAt n
  r.pend && !r.act && !r.mask && r.prio != 0 && s.effTarget n == some c

/-- The candidate of core `c`: the highest PRIO, the lowest number on equal PRIO (14 R397). -/
def State.candidate (s : State) (c : CoreId) : Option Nat :=
  (List.range 48).foldl (fun best n =>
    if s.eligible c n then
      match best with
      | none => some n
      | some b => if (s.srcAt b).prio < (s.srcAt n).prio then some n else best
    else best) none

def State.thr (s : State) : CoreId → Nat
  | .c0 => s.icu.thr0
  | .c1 => s.icu.thr1

/-- The candidate when its PRIO exceeds the core's threshold and `level`. -/
def State.above (s : State) (c : CoreId) (level : Nat) : Option Nat :=
  (s.candidate c).filter (fun n => s.thr c < (s.srcAt n).prio && level < (s.srcAt n).prio)

/-- The deliverable candidate of core `c` (14 R397). -/
def State.deliverable (s : State) (c : CoreId) : Option Nat := s.above c (s.core c).level

/-- A delivery is committed (14 R398): PEND clears, ACT and the owner are set, ARR moves to NARR. -/
def commitDelivery (c : CoreId) (n : Nat) (s : State) : State :=
  let r := s.srcAt n
  let t := s.setSrc n (fun r => { r with pend := false, act := true, own := c == .c1, arr := 0 })
  let cur : Cur := { src := n, valid := true, narr := r.arr }
  match c with
  | .c0 => { t with icu.cur0 := cur }
  | .c1 => { t with icu.cur1 := cur }

/-- A completion of source `n` for core `c`, written by core `w` (14 R399). -/
def complete (w c : CoreId) (n : Nat) (s : State) : State :=
  let r := s.srcAt n
  if n < 48 && r.act && r.own == (c == .c1) then s.setSrc n (fun r => { r with act := false, own := false })
  else { s with icu.badCount := cnt 8 s.icu.badCount 1, icu.badSrc := n, icu.badCore := w == .c1 }

/-- ALL: every ACT owned by core `c` clears (14 R399). -/
def completeAll (c : CoreId) (s : State) : State :=
  { s with icu.src := s.icu.src.map (fun r => if r.act && r.own == (c == .c1) then { r with act := false, own := false } else r) }

/-- Bits of the 32 sources of register half `x` that `f` holds for. -/
def State.srcBits (s : State) (x : Nat) (f : Src → Bool) : Nat :=
  (List.range 32).foldl (fun a i => if 32 * x + i < 48 && f (s.srcAt (32 * x + i)) then a + 2 ^ i else a) 0

/-- A core's load of `ICU_PENDx` clears its arrived bits for that register (14 R404). -/
def clearArrived (c : CoreId) (x : Nat) (s : State) : State :=
  (List.range 32).foldl (fun t i => t.setSrc (32 * x + i) (fun r =>
    match c with
    | .c0 => { r with arrived0 := false }
    | .c1 => { r with arrived1 := false })) s

/-- One bit of a store to `ICU_PENDx` (14 R404): a bit stored as 0 whose arrived bit is 1 stays 1; core 1 changes only the bits of
sources whose TARGET is 1 (R406). A bit set by a store becomes pending, and may be undeliverable (R396). -/
def writePend (c : CoreId) (n : Nat) (b : Bool) (s : State) : State :=
  let r := s.srcAt n
  if c == .c1 && !r.target then s
  else
    let kept := match c with
      | .c0 => r.arrived0
      | .c1 => r.arrived1
    let p := b || (r.pend && kept)
    let t := s.setSrc n (fun r => { r with pend := p })
    if p && !r.pend then countUndeliverable n t else t

/-- A store to `ICU_PENDx`. -/
def writePendReg (c : CoreId) (x v : Nat) (s : State) : State :=
  (List.range (if x = 0 then 32 else 16)).foldl (fun t i => writePend c (32 * x + i) (bit v i) t) s

/-- A store to `ICU_MASKx`. -/
def writeMaskReg (x v : Nat) (s : State) : State :=
  (List.range (if x = 0 then 32 else 16)).foldl (fun t i => t.setSrc (32 * x + i) (fun r => { r with mask := bit v i })) s

/-- The count of a source has run out: PEND is set, where a store has not set it meanwhile, and the count starts again (14 R393). -/
def coalesced (n : Nat) (s : State) : State :=
  let r := s.srcAt n
  if r.pend then s.setSrc n (fun r => { r with c := 0 })
  else countUndeliverable n (s.setSrc n (fun r => { r with pend := true, c := 0, arrived0 := true, arrived1 := true }))

/-- A store to `ICU_SRCn` (14 R407): CCOUNT 0 is reserved (00 R9); TARGET is fixed for sources 0, 1, 2 and 47; core 1 changes only
PRIO, CCOUNT and CTIME (R406). A count that already meets a lower CCOUNT sets PEND (R393). -/
def writeSrcReg (c : CoreId) (n v : Nat) (s : State) : State :=
  let r := s.srcAt n
  let cc := if fld v 8 4 = 0 then r.ccount else fld v 8 4
  let r1 := { r with prio := fld v 0 4, ccount := cc, ctime := fld v 16 10 }
  let r2 := if c == .c1 then r1
    else { r1 with target := if fixedTarget n then r.target else bit v 4, fallback := bit v 5 }
  if r2.c ≠ 0 && r2.ccount ≤ r2.c then coalesced n (s.setSrc n (fun _ => r2)) else s.setSrc n (fun _ => r2)

/-- `ICU_SRCn` as it reads. -/
def srcReg (r : Src) : Nat :=
  pack [(r.prio, 0), (b2n r.target, 4), (b2n r.fallback, 5), (r.ccount, 8), (r.ctime, 16)]

/-- An ICU register as it reads (14 R407, 18 R487), without the effects of a read. -/
def icuPeek (s : State) (o : Nat) : Nat :=
  let cur (k : Cur) : Nat := pack [(k.src, 0), (b2n k.valid, 6), (k.narr, 8)]
  match o with
  | 0x000 => s.srcBits 0 (·.pend)
  | 0x004 => s.srcBits 1 (·.pend)
  | 0x008 => s.srcBits 0 (·.mask)
  | 0x00C => s.srcBits 1 (·.mask)
  | 0x010 => s.srcBits 0 (·.act)
  | 0x014 => s.srcBits 1 (·.act)
  | 0x018 => s.srcBits 0 (·.own)
  | 0x01C => s.srcBits 1 (·.own)
  | 0x020 => s.icu.thr0
  | 0x024 => s.icu.thr1
  | 0x028 => cur s.icu.cur0
  | 0x02C => cur s.icu.cur1
  | 0x038 => pack [(s.icu.badCount, 0), (s.icu.badSrc, 8), (b2n s.icu.badCore, 14)]
  | 0x03C => pack [(s.icu.undCount, 0), (s.icu.undSrc, 8)]
  | 0x200 => pack [(s.icu.parStore, 0), (b2n s.icu.parValid, 8), (b2n s.icu.parMulti, 9)]
  | 0x204 => s.icu.parAddr
  | 0x208 => s.icu.parCnt
  | _ =>
    if 0x040 ≤ o ∧ o < 0x058 then
      pack ((List.range 8).map (fun j => ((s.srcAt (8 * ((o - 0x040) / 4) + j)).arr, 4 * j)))
    else if 0x100 ≤ o ∧ o < 0x1C0 then srcReg (s.srcAt ((o - 0x100) / 4))
    else 0

/-- What a core's read of an ICU register does beside (14 R404, R407). -/
def icuReadEffect (c : CoreId) (o : Nat) (s : State) : State :=
  match o with
  | 0x000 => clearArrived c 0 s
  | 0x004 => clearArrived c 1 s
  | 0x038 => { s with icu.badCount := 0 }
  | 0x03C => { s with icu.undCount := 0 }
  | 0x208 => { s with icu.parCnt := 0 }
  | _ => s

/-- A core may write this ICU register (14 R406). -/
def icuMayWrite (s : State) (c : CoreId) (o : Nat) : Bool :=
  match c with
  | .c0 => true
  | .c1 => o == 0x024 || o == 0x034 || o == 0x000 || o == 0x004 ||
      (decide (0x100 ≤ o ∧ o < 0x1C0) && (s.srcAt ((o - 0x100) / 4)).target)

/-- A store of a core to an ICU register (14 R407, 18 R487). -/
def icuWrite (c : CoreId) (o v : Nat) (s : State) : State :=
  match o with
  | 0x000 => writePendReg c 0 v s
  | 0x004 => writePendReg c 1 v s
  | 0x008 => writeMaskReg 0 v s
  | 0x00C => writeMaskReg 1 v s
  | 0x020 => { s with icu.thr0 := fld v 0 4 }
  | 0x024 => { s with icu.thr1 := fld v 0 4 }
  | 0x030 => if bit v 31 then completeAll .c0 s else complete c .c0 (fld v 0 6) s
  | 0x034 => if bit v 31 then completeAll .c1 s else complete c .c1 (fld v 0 6) s
  | 0x200 => { s with icu.parValid := s.icu.parValid && !bit v 8, icu.parMulti := s.icu.parMulti && !bit v 9 }
  | _ => if 0x100 ≤ o ∧ o < 0x1C0 ∧ o % 4 = 0 then writeSrcReg c ((o - 0x100) / 4) v s else s

/-! ### Commands -/

/-- R392: a rising edge of event line `n`; sources 3 and 4 have none, they are software's (R391). -/
def execSourceArrival (n : Fin 48) (s : State) : Answer := answer s (if n.val = 3 ∨ n.val = 4 then s else raise n.val s)

/-- R393: the time limit of a source's coalescing stage: it acts where a count is running and CTIME is not 0, while CLK_BUS runs. -/
def execCoalesceTimeout (n : Fin 48) (s : State) : Answer :=
  let r := s.srcAt n.val
  answer s (if s.clk.core && r.c != 0 && r.ctime != 0 then coalesced n.val s else s)

/-- R366: a deliverable source wakes a core from WAIT. How many cycles CYCLE counted meanwhile is a free value (log entry 11). -/
def execWaitWake (core : CoreId) (s : State) : Answer :=
  answer s (if s.clk.core && (s.core core).waiting && (s.deliverable core).isSome then
    let d := draw s
    d.2.setCore core ({ d.2.core core with waiting := false }.tick d.1.toNat) else s)

/-- R366: WAIT: on at once when a source is deliverable, else the core stops until one is; a reserved use in a delay slot. -/
def execWait (core : CoreId) (s : State) : Answer :=
  let go (u : State) : State :=
    u.setCore core { ((u.core core).settleLoad).advance 1 with waiting := (u.deliverable core).isNone }
  instr core true true go s

/-- A core's store to a register as a command of its own: a core that is not running stores nothing (log entry 7), and a store the
register does not grant raises DATA_BUS (12 R343). -/
def coreStore (c : CoreId) (may : Bool) (ea : Nat) (f : State → State) (s : State) : Answer :=
  if !s.canRun c then answer s s
  else if may then answer s (f s)
  else answer s (faultAt c 0x02 (BitVec.ofNat 32 ea) s)

/-- R404: a store to `ICU_PENDx`. -/
def execIcuPendWrite (core : CoreId) (x : Fin 2) (v : Word) (s : State) : Answer :=
  coreStore core true (0x40000000 + 4 * x.val) (writePendReg core x.val v.toNat) s

/-- R404: a load of `ICU_PENDx`. -/
def execIcuPendRead (core : CoreId) (x : Fin 2) (s : State) : Answer :=
  coreStore core true (0x40000000 + 4 * x.val) (clearArrived core x.val) s

/-- R399: a completion written to `ICU_DONEc`; core 1 may write only `ICU_DONE1` (R406). -/
def execIcuDone (core c : CoreId) (src : Nat) (s : State) : Answer :=
  coreStore core (core == .c0 || c == .c1) (0x40000030 + (if c = .c1 then 4 else 0)) (complete core c (src % 64)) s

/-- R399: a completion with ALL. -/
def execIcuDoneAll (core c : CoreId) (s : State) : Answer :=
  coreStore core (core == .c0 || c == .c1) (0x40000030 + (if c = .c1 then 4 else 0)) (completeAll c) s

/-- R393: a store to `ICU_SRCn`. -/
def execIcuSrcWrite (core : CoreId) (n : Fin 48) (v : Word) (s : State) : Answer :=
  coreStore core (icuMayWrite s core (0x100 + 4 * n.val)) (0x40000100 + 4 * n.val) (writeSrcReg core n.val v.toNat) s

end Sys2Proof.Machine
end

