-- ==== Sys2Proof/Machine/Mailbox.lean ====
section
/-! DEFINITION. Core control, the mailbox (12 R367 to R370), the timers and the watchdog's registers (14 R408). -/

namespace Sys2Proof.Machine

/-! ### Mailbox -/

/-- What core 0 firmware makes of a pair from core 1: an APPLET event (12 R368), and the APPLET wake source for a wake word in
IDLE-SCAN (16 R451). -/
def appletPair (w0 w1 : Word) (s : State) : State :=
  if !(s.clk.core && (s.boot.phase == .running || s.boot.phase == .restart)) then s
  else
    let t := postEvent 0x13 w0.toNat (w1.toNat % 2 ^ 31) s
    if w0.toNat / 65536 = 0xFFFE ∧ w0.toNat % 65536 ≠ 0 ∧ t.pwr.state = .idleScan then wakeSource 0x12 t else t

/-- A pair of words into the other core's queue; a full queue drops and counts it (12 R367, R368). -/
def pushPair (c : CoreId) (w0 w1 : Word) (s : State) : State :=
  match c with
  | .c0 =>
    if 8 ≤ s.mbx.q1.length then { s with mbx.drop0 := cnt 8 s.mbx.drop0 1 }
    else raise 1 { s with mbx.q1 := s.mbx.q1 ++ [(w0, w1)] }
  | .c1 =>
    if 8 ≤ s.mbx.q0.length then { s with mbx.drop1 := cnt 8 s.mbx.drop1 1 }
    else appletPair w0 w1 (raise 0 { s with mbx.q0 := s.mbx.q0 ++ [(w0, w1)] })

/-- A write of `MBX_OUT1`. -/
def mailboxPush (c : CoreId) (w1 : Word) (s : State) : State :=
  pushPair c (match c with
    | .c0 => s.mbx.out0a
    | .c1 => s.mbx.out0b) w1 s

/-- The oldest incoming pair goes; nothing on an empty queue. -/
def mailboxPop (c : CoreId) (s : State) : State :=
  match c with
  | .c0 => { s with mbx.q0 := s.mbx.q0.tail }
  | .c1 => { s with mbx.q1 := s.mbx.q1.tail }

/-- Core 1 as it stands in reset (12 R369). -/
def core1Reset (s : State) : Core :=
  { pc := s.mbx.c1pc, vbase := BitVec.ofNat 32 s.c1Base, g := (Vector.replicate 16 (0#32)).set 15 0x20020000#32 }

/-- RUN written 1: a core 1 in reset leaves it at `MBX_C1PC` (12 R369). A start in the boot ROM, which it may fetch from otherwise, raises
FETCH_BUS as one anywhere else outside its code part does. -/
def core1Run (s : State) : State :=
  if s.mbx.run then s
  else
    let t := { s with core1 := core1Reset s, mbx.run := true }
    if s.mbx.c1pc.toNat < 0x10000 then takeExc .c1 0x01 s.mbx.c1pc s.mbx.c1pc t else t

/-- RUN written 0 (12 R367, R372, 14 R396, R402): core 1 in reset, HALTED clear, its queued pairs discarded, its ACT bits, threshold
and current source reset; sources it leaves undeliverable are counted. -/
def core1Stop (s : State) : State :=
  let gone := s.core1Gone
  let t := completeAll .c1 { s with mbx.run := false, mbx.halted := false, mbx.q1 := [], core1 := core1Reset s,
                                    icu.thr1 := 0, icu.cur1 := {}, pwr.taps := [], pwr.lifted := [] }
  if gone then t else
    (List.range 48).foldl (fun u n => if (u.srcAt n).pend then countUndeliverable n u else u) t

/-- `MBX_SPLIT` written: only while RUN = 0; 0 is reserved (12 R367, R369). -/
def setSplit (v : Nat) (s : State) : State :=
  if s.mbx.run || fld v 0 4 = 0 then s else { s with mbx.split := fld v 0 4 }

/-- An MBX register as core `c` reads it (12 R367). -/
def mbxPeek (c : CoreId) (s : State) (o : Nat) : Nat :=
  let m := s.mbx
  let inq := match c with
    | .c0 => m.q0
    | .c1 => m.q1
  let outq := match c with
    | .c0 => m.q1
    | .c1 => m.q0
  let drop := match c with
    | .c0 => m.drop0
    | .c1 => m.drop1
  match o with
  | 0x000 => (match c with
    | .c0 => m.out0a
    | .c1 => m.out0b).toNat
  | 0x008 => (inq.headD (0#32, 0#32)).1.toNat
  | 0x00C => (inq.headD (0#32, 0#32)).2.toNat
  | 0x010 => pack [(inq.length, 8), (8 - outq.length, 12), (drop, 24)]
  | 0x100 => pack [(b2n m.run, 0), (b2n m.halted, 1), (b2n s.core1.waiting, 2)]
  | 0x104 => m.c1pc.toNat
  | 0x108 => m.split
  | 0x10C => m.cause
  | _ => 0

/-- A read of `MBX_CTL` clears DROP. -/
def mbxReadEffect (c : CoreId) (o : Nat) (s : State) : State :=
  if o = 0x010 then
    match c with
    | .c0 => { s with mbx.drop0 := 0 }
    | .c1 => { s with mbx.drop1 := 0 }
  else s

/-- Both cores write the banked registers, core 0 the rest (12 R367). -/
def mbxMayWrite (c : CoreId) (o : Nat) : Bool := c == .c0 || o ≤ 0x010

/-- A store to an MBX register. -/
def mbxWrite (c : CoreId) (o v : Nat) (s : State) : State :=
  match o with
  | 0x000 => (match c with
    | .c0 => { s with mbx.out0a := BitVec.ofNat 32 v }
    | .c1 => { s with mbx.out0b := BitVec.ofNat 32 v })
  | 0x004 => mailboxPush c (BitVec.ofNat 32 v) s
  | 0x010 => if bit v 0 then mailboxPop c s else s
  | 0x100 => if bit v 0 then core1Run s else core1Stop s
  | 0x104 => { s with mbx.c1pc := BitVec.ofNat 32 (v / 4 * 4) }
  | 0x108 => setSplit v s
  | _ => s

/-! ### Timers and watchdog -/

def State.timer (s : State) (n : Nat) : Timer := s.tmr.t.getD n {}
def State.setTimer (s : State) (n : Nat) (f : Timer → Timer) : State := { s with tmr.t := s.tmr.t.modify n f }

/-- A store to `TMR_CTLn`: EN from 0 to 1, or RESTART, loads CNT (14 R408). -/
def timerControl (n v : Nat) (s : State) : State :=
  s.setTimer n (fun t =>
    { t with en := bit v 0, periodic := bit v 1, cnt := if (bit v 0 && !t.en) || bit v 2 then t.load else t.cnt })

/-- RESTART alone: CNT from LOAD. -/
def timerRestart (n : Nat) (s : State) : State := s.setTimer n (fun t => { t with cnt := t.load })

/-- Timer `n` reaches 0: its source, and a reload or the end (14 R408). -/
def timerExpire (n : Nat) (s : State) : State :=
  let t := s.timer n
  if !t.en || !s.clk.core then s
  else raise (5 + n) (s.setTimer n (fun t => if t.periodic then { t with cnt := t.load } else { t with en := false, cnt := 0 }))

/-- EN = 1 starts the watchdog at its load and locks it. -/
def watchdogStart (v : Nat) (s : State) : State :=
  if s.tmr.wdEn || !bit v 0 then s else { s with tmr.wdEn := true, tmr.wdCnt := s.tmr.wdLoad }

/-- 0x5A3C reloads the count and sets STAGE to 0; any other value is counted. -/
def watchdogKick (v : Nat) (s : State) : State :=
  if v % 65536 = 0x5A3C then { s with tmr.wdCnt := s.tmr.wdLoad, tmr.stage := 0 }
  else { s with tmr.badKick := cnt 8 s.tmr.badKick 1 }

/-- A TMR register as it reads. -/
def tmrPeek (s : State) (o : Nat) : Nat :=
  if o < 0x040 then
    let t := s.timer (o / 0x10)
    match o % 0x10 with
    | 0x0 => pack [(b2n t.en, 0), (b2n t.periodic, 1)]
    | 0x4 => t.load
    | 0x8 => t.cnt
    | _ => 0
  else match o with
    | 0x040 => pack [(b2n s.tmr.wdEn, 0), (s.tmr.badKick, 8)]
    | 0x044 => s.tmr.wdLoad
    | 0x04C => pack [(s.tmr.wdCnt, 0), (s.tmr.stage, 24), (s.tmr.traps, 28)]
    | 0x050 => s.tmr.usec
    | _ => 0

/-- RC fields of the TMR block. -/
def tmrReadEffect (o : Nat) (s : State) : State :=
  match o with
  | 0x040 => { s with tmr.badKick := 0 }
  | 0x04C => { s with tmr.traps := 0 }
  | _ => s

/-- Core 1 may write `TMR_CTL2`, `TMR_LOAD2`, `TMR_CTL3` and `TMR_LOAD3` (14 R408). -/
def tmrMayWrite (c : CoreId) (o : Nat) : Bool := c == .c0 || o == 0x020 || o == 0x024 || o == 0x030 || o == 0x034

/-- A store to a TMR register: LOAD 0, and a watchdog load below 1,000, are reserved (00 R9). -/
def tmrWrite (o v : Nat) (s : State) : State :=
  if o < 0x040 then
    match o % 0x10 with
    | 0x0 => timerControl (o / 0x10) v s
    | 0x4 => if v = 0 then s else s.setTimer (o / 0x10) (fun t => { t with load := v })
    | _ => s
  else match o with
    | 0x040 => watchdogStart v s
    | 0x044 => if s.tmr.wdEn || fld v 0 24 < 1000 then s else { s with tmr.wdLoad := fld v 0 24 }
    | 0x048 => watchdogKick v s
    | _ => s

/-! ### Commands -/

/-- R368: a pair pushed into the other core's queue. -/
def execMailboxPush (core : CoreId) (w1 : Word) (s : State) : Answer := coreStore core true 0x40050004 (mailboxPush core w1) s

/-- R367: the oldest incoming pair discarded. -/
def execMailboxPop (core : CoreId) (s : State) : Answer := coreStore core true 0x40050010 (mailboxPop core) s

/-- R369: RUN := 1, written by core 0. -/
def execCore1Run (s : State) : Answer := answer s (if s.clk.core then core1Run s else s)

/-- R402: RUN := 0. -/
def execCore1Stop (s : State) : Answer := answer s (if s.clk.core then core1Stop s else s)

/-- R369: `MBX_SPLIT`. -/
def execMbxSplitWrite (v : Word) (s : State) : Answer := answer s (if s.clk.core then setSplit v.toNat s else s)

/-- R408: a store to `TMR_CTLn`. -/
def execTimerControlWrite (core : CoreId) (n : Fin 4) (v : Word) (s : State) : Answer :=
  coreStore core (tmrMayWrite core (0x10 * n.val)) (0x40040000 + 0x10 * n.val) (timerControl n.val v.toNat) s

/-- R408: a RESTART write. -/
def execTimerRestart (core : CoreId) (n : Fin 4) (s : State) : Answer :=
  coreStore core (tmrMayWrite core (0x10 * n.val)) (0x40040000 + 0x10 * n.val) (timerRestart n.val) s

/-- R408: timer n reaches 0. -/
def execTimerExpiry (n : Fin 4) (s : State) : Answer := answer s (timerExpire n.val s)

/-- R408: the watchdog's EN write. -/
def execWatchdogStart (v : Word) (s : State) : Answer := answer s (if s.clk.core then watchdogStart v.toNat s else s)

/-- R408: a kick. -/
def execWatchdogKick (v : Word) (s : State) : Answer := answer s (if s.clk.core then watchdogKick v.toNat s else s)

end Sys2Proof.Machine
end

