-- ==== Sys2Proof/Machine/Rings.lean ====
section
/-! DEFINITION. The rings and their pages, records out to host memory, MSI-X, and the command journal (10 R280 to R307, R312). -/

namespace Sys2Proof.Machine

/-! ### Writes and messages to the host -/

/-- The host DMA engine may issue requests (09 R261): Bus Master Enable, D0, and a link that is up. -/
def State.dmaOk (s : State) : Bool :=
  s.clk.host && s.host.bme && s.host.dstate == .d0 && (s.host.link == .l0 || s.host.link == .l1 || s.host.link == .l1_2)

/-- The rings run and records may be written. -/
def State.ringsOk (s : State) : Bool := s.rings.act && !s.rings.draining && s.dmaOk

/-- A memory write leaves the device; Relaxed Ordering only where Device Control permits it (10 R298). -/
def hostWrite (addr : Nat) (data : List Byte) (ro : Bool) (s : State) : State :=
  { s with out.writes := s.out.writes ++ [{ addr := addr, data := data, ro := ro && s.host.relaxed }] }

/-- The longest memory write TLP: 256 bytes, or Max_Payload_Size where that is smaller (10 R305). -/
def State.tlpSize (s : State) : Nat := Nat.min 256 s.host.cfg.maxPayload

/-- The TLPs of a write: each of at most `sz` bytes, none across a 4 KiB boundary, all with the attribute of the write (10 R305). -/
def tlpsFrom (sz : Nat) (ro : Bool) : Nat → Nat → List Byte → List HostWrite
  | 0, _, _ => []
  | n + 1, a, b =>
    let k := Nat.min sz (4096 - a % 4096)
    if b.isEmpty then [] else { addr := a, data := b.take k, ro := ro } :: tlpsFrom sz ro n (a + k) (b.drop k)

/-- A write as it goes over the link (10 R305). -/
def State.tlps (s : State) (w : HostWrite) : List HostWrite := tlpsFrom s.tlpSize w.ro w.data.length w.addr w.data

/-- The LTR message of the present power state (09 R259). DESIGN CHOICE (log entry 114): it goes out where the link comes up and where the
latency changes. -/
def sendLtr (s : State) : State :=
  if s.hostSide && s.clk.host && (s.host.link == .l0 || s.host.link == .l1 || s.host.link == .l1_2) then
    { s with out.ltrs := s.out.ltrs ++ [{ snoop := if s.pwr.state == .drone then 3000 else 100, noSnoop := false }] }
  else s

/-- Flush reads that the device waits for (10 R297, R299). -/
def State.flushing (s : State) : Nat := (s.jrn.filter (·.wait == .fence)).length

/-- The longest read request: 512 bytes, or Max_Read_Request_Size where that is smaller (09 R258). -/
def State.readSize (s : State) : Nat := Nat.min 512 s.host.cfg.maxRead

/-- The requests of a read of `n` bytes, one after another under the tag of the read: none longer than that, none across a 4 KiB boundary. -/
def requestsFrom (sz : Nat) : Nat → Nat → Nat → List (Nat × Nat)
  | 0, _, _ => []
  | k + 1, a, n =>
    let m := Nat.min n (Nat.min sz (4096 - a % 4096))
    if n = 0 then [] else (a, m) :: requestsFrom sz k (a + m) (n - m)

/-- A read as it goes over the link (09 R258). -/
def State.readRequests (s : State) (addr n : Nat) : List (Nat × Nat) := requestsFrom s.readSize n addr n

/-- Tags that flush reads and a running job of the engine hold: one each (09 R258; log entry 131). -/
def State.otherTags (s : State) : Nat :=
  s.flushing + b2n (s.hdma.pbusy && s.hdma.afterFlush && s.host.relaxed) + b2n (s.hdma.busy && !s.hdma.dir)

/-- The reads that hold one of the 32 tags (09 R258), oldest first; the others wait for one. -/
def State.outReads (s : State) : List ReadReq := s.rings.reads.take (32 - s.otherTags)

/-- The engine may issue a read now (09 R258, R261): requests are permitted, and a tag is free. -/
def State.readOk (s : State) : Bool := s.dmaOk && decide (s.rings.reads.length + s.otherTags < 32)

/-- A flush read may go out: a tag is free. -/
def State.flushOk (s : State) : Bool := decide (s.outReads.length + s.otherTags < 32)

/-- Retained images, or the descriptor of a damaged entry, are asked for; while the rings are stopped, or the engine may issue nothing, the reads
wait (10 R303, 09 R261). -/
def askRetained (rs : List ReadReq) (s : State) : State :=
  if s.ringsOk then { s with rings.reads := s.rings.reads ++ rs } else { s with rings.waitReads := s.rings.waitReads ++ rs }

/-- The phase value of ring index `i` (10 R282). -/
def phaseOf (log2n i : Nat) : Nat := 1 - i / 2 ^ log2n % 2

/-- Entries of a ring. -/
def RingCfg.size (r : RingCfg) : Nat := 2 ^ r.log2n

/-- The address of index `i` in a ring of records of `sz` bytes. -/
def RingCfg.slot (r : RingCfg) (sz i : Nat) : Nat := r.base + sz * (i % r.size)

/-- A vector's message leaves, or waits behind its mask or the function's with the pending bit set and the count held (10 R312). It is a
memory write: while the engine may issue none, or MSI-X Enable is 0, it stays due (09 R258, R261). -/
def sendVector (v : Nat) (s : State) : State :=
  let x := s.host.vecs.getD v {}
  if !s.dmaOk || !s.host.cfg.msixEn then { s with host.vecs := s.host.vecs.modify v (fun x => { x with due := true }) }
  else if x.masked || s.host.cfg.msixMask then { s with host.vecs := s.host.vecs.modify v (fun x => { x with pend := true, due := false }) }
  else { s with out.msix := s.out.msix ++ [v],
                host.vecs := s.host.vecs.modify v (fun x =>
                  { x with unsignalled := 0, since := 0, limit := 0, due := false, pend := false }) }

/-- Every vector whose message has fallen due sends it; called where a status page write covers the records (10 R312). -/
def sendDueVectors (s : State) : State :=
  (List.range 16).foldl (fun t v => if (t.host.vecs.getD v {}).due then sendVector v t else t) s

/-- A record written to a ring is one event of its vector (09 R276, 10 R312). COUNT and TIME act on the events that come after they are
written: COUNT on their number, TIME on the first of them that comes under a limit (DEDUCED, log entry 115). -/
def countRecord (r : RingCfg) (s : State) : State :=
  if !r.irq then s
  else { s with host.vecs := s.host.vecs.modify r.vec (fun x =>
      { x with unsignalled := x.unsignalled + 1, since := x.since + 1, limit := if x.limit = 0 then x.time else x.limit,
               due := x.due || decide (x.count ≤ x.since + 1) }) }

/-- The tiles online as a 64-bit mask (09 R276). -/
def State.onlineMask (s : State) : Nat := bitSet (0 :: s.crl.online)

/-- A tile is online; the device's own tile 0 always is. -/
def State.isOnline (s : State) (t : Nat) : Bool := t == 0 || (s.isRoot && s.crl.online.contains t)

/-- The first 64 bytes of the status page (10 R288). -/
def statusBytes (s : State) : List Byte :=
  let p := s.pwr
  leBytes 4 s.rings.cmdCi ++ leBytes 4 s.rings.strCi ++ leBytes 4 s.rings.cplPi ++ leBytes 4 s.rings.rptPi ++
  leBytes 4 s.rings.evtPi ++ leBytes 4 s.epoch ++ leBytes 4 s.rings.heartbeat ++
  leBytes 4 (pack [((if p.limp then PState.drone else p.state).code, 0), (b2n p.limp, 3), (b2n p.hold, 4), (b2n s.rings.replay, 5)]) ++
  leBytes 4 s.rpt.lost ++ leBytes 4 s.evt.lost ++ leBytes 4 s.strm.drop ++ leBytes 4 s.jrn.length ++ leBytes 4 s.ctx.gen ++
  leBytes 4 (s.onlineMask % 2 ^ 32) ++ leBytes 4 (s.onlineMask / 2 ^ 32) ++ zeros 4

/-- The status page written, with HEARTBEAT advanced at frame-boundary and 100 ms writes (10 R289); messages that waited for it go. -/
def writeStatusPage (beat : Bool) (s : State) : State :=
  if !s.ringsOk then s
  else
    let t := if beat then { s with rings.heartbeat := cnt 32 s.rings.heartbeat 1 } else s
    sendDueVectors { hostWrite t.host.stpg (statusBytes t) false t with rings.dirty := false }

/-! ### The journal -/

/-- The opcodes of 10 R292: name, TILE rule (0 any, 1 tile 0 only, 2 one tile, 3 one tile or 0xFF, 4 tiles 1 to 63), masks of the
A0, A1 and P0 to P3 bits in use, whether ADDR is in use, Idem, Sticky, and class (0 none, 1 context, 2 scan, 3 member; R296). -/
structure OpInfo where
  tile : Nat
  a0 : Nat
  a1 : Nat
  addr : Bool
  p0 : Bool
  p1 : Nat
  p2 : Nat
  p3 : Nat
  idem : Bool
  sticky : Bool
  cls : Nat
deriving DecidableEq, Repr

/-- All 32 bits of an argument. -/
def wide : Nat := 0xFFFFFFFF

/-- The table of 10 R292. -/
def opInfo : Nat → Option OpInfo
  | 0x00 => some ⟨0, 0, 0, false, false, 0, 0, 0, true, false, 0⟩
  | 0x01 => some ⟨1, 0, 0, false, false, 0, 0, 0, true, false, 0⟩
  | 0x10 => some ⟨3, 0x37, 7, true, true, wide, 0, 0, true, false, 1⟩
  | 0x11 => some ⟨3, 7, 0, false, true, 1, 0, 0, false, false, 1⟩
  | 0x12 => some ⟨3, 7, 0, false, true, 1, 0, 0, false, false, 1⟩
  | 0x13 => some ⟨2, 7, 0, true, false, 0, 0, 0, true, false, 1⟩
  | 0x20 => some ⟨2, 0x17, 0, false, false, 0, 0, 0, false, false, 2⟩
  | 0x21 => some ⟨3, 0, 0, false, false, 0, 0, 0, false, false, 2⟩
  | 0x22 => some ⟨3, 1, 0, false, false, 0, 0, 0, false, false, 2⟩
  | 0x23 => some ⟨2, 0x3F, 0xFFFF, false, false, 0, 0, 0, true, false, 0⟩
  | 0x24 => some ⟨3, 0, 0xFFFF, true, true, 0, 0, 0, true, true, 1⟩
  | 0x30 => some ⟨2, 3, 0, true, false, wide, wide, wide, true, false, 2⟩
  | 0x40 => some ⟨3, 0, 0, true, true, 0, 0, 0, true, true, 3⟩
  | 0x41 => some ⟨2, 0, 0, false, true, wide, 0, 0, false, false, 0⟩
  | 0x50 => some ⟨1, 3, 0, true, true, 0, 0, 0, false, false, 3⟩
  | 0x51 => some ⟨4, 0, 0, true, true, wide, 1, 0, false, false, 3⟩
  | 0x52 => some ⟨4, 0, 0, false, false, 0, 0, 0, false, false, 3⟩
  | _ => none

/-- A value keeps within a mask. -/
def within (v mask : Nat) : Bool := v &&& mask == v

/-- Size of a region of CAPTURE (01 R26). -/
def captureSize (region : Nat) : Nat :=
  match region with
  | 0 => 0x24C00
  | 1 => 0xC000
  | 2 => 0x6000
  | _ => 0x2000

/-- Reserved encodings and out-of-range arguments that a descriptor shows by itself (10 R292, 08 R242, 12 R371, 17 R475, 07 R231). A CAPTURE
starts within its region and its output (log entry 21). -/
def argsOk (d : Desc) : Bool :=
  match d.opcode with
  | 0x30 => decide (d.p2 < captureSize (d.a0 % 4)) && decide (d.p3 ≤ d.p1)
  | 0x40 => decide (d.p0 ≤ 0x20 + 0x40000 + 16384)
  | 0x51 => d.p0 != 0 && d.p0 % 4 == 0 && decide (d.p0 ≤ 0x20000)
  | 0x10 => fld d.a0 4 2 != 3 && d.p0 % 64 == 0 && d.p1 % 64 == 0 && decide (64 ≤ d.p1 ∧ d.p1 ≤ 2048 ∧ d.p0 + d.p1 ≤ 2048)
  | 0x24 => decide (d.a1 ≠ 0)
  | 0x20 => decide (2 ≤ fld d.a0 0 3 ∧ fld d.a0 0 3 ≤ 6)
  | 0x50 => decide (fld d.a0 0 2 ≠ 3) && (fld d.a0 0 2 != 0 || d.p0 == 8192)
  | _ => true

/-- The code with which a command is rejected before execution, in the order of 10 R294; 0: it is not. -/
def rejectCode (s : State) (d : Desc) : Nat :=
  match opInfo d.opcode with
  | none => 0x01
  | some o =>
    if d.rsv || !within d.a0 o.a0 || !within d.a1 o.a1 || (d.addr != 0 && !o.addr) || (d.p0 != 0 && !o.p0) || !within d.p1 o.p1 ||
       !within d.p2 o.p2 || !within d.p3 o.p3 || !argsOk d then 0x02
    else if 64 ≤ d.tile && d.tile ≠ 0xFF then 0x03
    else match o.tile with
      | 0 => 0
      | 1 => if d.tile = 0 then 0 else 0x03
      | 2 => if d.tile ≠ 0xFF && s.isOnline d.tile then 0 else 0x03
      | 3 => if d.tile = 0xFF || s.isOnline d.tile then 0 else 0x03
      | _ => if d.tile ≠ 0 && d.tile ≠ 0xFF && s.isOnline d.tile then 0 else 0x03

/-- The tiles a command selects: the named one, or every online tile (10 R290). -/
def State.selected (s : State) (d : Desc) : List Nat :=
  if d.tile = 0xFF then 0 :: (List.range 64).filter (fun t => t != 0 && s.isOnline t) else [d.tile]

def State.entry (s : State) (j : Nat) : Option JEntry := s.jrn.find? (fun e => e.cmd == j && e.stage != .retained)

def State.setEntry (s : State) (j : Nat) (f : JEntry → JEntry) : State :=
  { s with jrn := s.jrn.map (fun e => if e.cmd == j && e.stage != .retained then f e else e) }

/-- The journal entry becomes APPLIED with its result (10 R300). -/
def finish (j code r0 r1 ctile : Nat) (s : State) : State :=
  s.setEntry j (fun e => if e.stage = .issued then
    { e with stage := .applied, wait := .start, code := code, r0 := r0, r1 := r1, ctile := ctile, tiles := [] } else e)

/-- Class and tiles of two commands that may not overlap (10 R296). -/
def tilesMeet (a b : Desc) : Bool := a.tile == 0xFF || b.tile == 0xFF || a.tile == b.tile

/-- A COMMIT or SWITCH counts as APPLIED at its decision (10 R296). -/
def JEntry.decided (e : JEntry) : Bool :=
  e.stage != .issued || (match e.wait with
    | .boundary _ => true
    | _ => false)

/-- The ordering rules let a command start (10 R296): in journal order, after every earlier one has started, and under the table. -/
def State.mayStart (s : State) (e : JEntry) : Bool :=
  let earlier := (s.jrn.takeWhile (fun x => x.cmd != e.cmd || x.stage == .retained)).filter (·.stage != .retained)
  let cls := ((opInfo e.d.opcode).map (·.cls)).getD 0
  earlier.all (fun x => x.stage != .issued || (x.wait != .start && x.wait != .refetch)) && (!e.d.ord || earlier.all (·.decided)) &&
  earlier.all (fun x => x.d.opcode != 0x01 || x.stage == .posted) &&
  earlier.all (fun x =>
    let xc := ((opInfo x.d.opcode).map (·.cls)).getD 0
    xc != cls || cls == 0 || x.decided || (cls != 3 && !tilesMeet x.d e.d))

/-- Core 0 carries out a command of the journal: the entry is ISSUED and not under way, its opcode is `op`, the order permits it and
firmware is ready; a rejection comes first (10 R294). -/
def runCommand (op j : Nat) (body : JEntry → State → State) (s : State) : Answer :=
  match s.entry j with
  | none => answer s s
  | some e =>
    if e.stage ≠ .issued || e.wait ≠ .start || e.d.opcode ≠ op || !s.fwRuns || !s.hostSide || !s.mayStart e then answer s s
    else
      let rc := rejectCode s e.d
      answer s (if rc ≠ 0 ∧ !(rc = 3 ∧ (op = 0x11 ∨ op = 0x12) ∧ e.d.tile < 64) then finish j rc 0 0 (if rc = 3 ∧ e.d.tile < 64 then e.d.tile else 0) s else body e s)

/-- An entry waits. -/
def setWait (j : Nat) (w : JWait) (s : State) : State := s.setEntry j (fun e => { e with wait := w })

/-- The tiles whose part is outstanding, and their number for PEAK. -/
def setTiles (j : Nat) (ts : List Nat) (s : State) : State := s.setEntry j (fun e => { e with tiles := ts })

/-- A member-bound command goes out as a CMD message under the number of its CMD index (10 R295). -/
def forward (j tile : Nat) (d : Desc) (s : State) : State := sendMsg 1 tile (.cmd j d) s

/-- CMD_CI moves past every entry that is no longer ISSUED, APPLIED or POSTED (10 R301). -/
def advanceCmdCi (s : State) : State :=
  match s.jrn.find? (·.stage != .retained) with
  | some e => { s with rings.dirty := s.rings.dirty || e.cmd != s.rings.cmdCi, rings.cmdCi := e.cmd }
  | none => { s with rings.dirty := s.rings.dirty || s.rings.fetch != s.rings.cmdCi, rings.cmdCi := s.rings.fetch }

/-- The tiles a retained entry keeps for. -/
def retainedTiles (s : State) (e : JEntry) : List Nat := if e.d.tile = 0xFF then 0 :: s.crl.online else [e.d.tile]

/-- The bank of a tile that a TOKEN_LOAD went to (10 R300). -/
def JEntry.bankOf (e : JEntry) (t : Nat) : Nat := (assoc e.banks t).getD 0

/-- Notes that bank, for the command that is still under way. -/
def noteBank (j t b : Nat) (s : State) : State := s.setEntry j (fun e => { e with banks := file e.banks t b })

/-- The retained TOKEN_LOAD entries of one bank of a tile. -/
def State.retainedBank (s : State) (t b : Nat) : List JEntry :=
  s.jrn.filter (fun e => e.stage == .retained && e.d.opcode == 0x24 && e.tiles.contains t && e.bankOf t == b)

/-- The host's CPL_CI has passed a completion (10 R300, R302): the entry is freed, or retained when sticky and completed with OK, in
place of what an older one of its kind kept for the same tile and bank. -/
def consumeEntry (e : JEntry) (s : State) : State :=
  let rest := s.jrn.filter (fun x => x.cmd != e.cmd || x.stage == .retained)
  let sticky := ((opInfo e.d.opcode).map (·.sticky)).getD false
  if sticky && e.code == 0 then
    let ts := retainedTiles s e
    let older := rest.filterMap (fun x =>
      if x.stage == .retained && x.d.opcode == e.d.opcode then
        let left := x.tiles.filter (fun t => !(ts.contains t && x.bankOf t == e.bankOf t))
        if left.isEmpty then none else some { x with tiles := left }
      else some x)
    { s with jrn := older.filter (fun (x : JEntry) => x.stage == .retained) ++ [{ e with stage := .retained, tiles := ts }] ++
        older.filter (fun (x : JEntry) => x.stage != .retained) }
  else { s with jrn := rest }

/-- Every POSTED entry whose completion lies before `ci` is consumed. -/
def consumeTo (old ci : Nat) (s : State) : State :=
  let passed (e : JEntry) : Bool := e.stage == .posted && decide (diff32 e.cpl old < diff32 ci old)
  advanceCmdCi ((s.jrn.filter passed).foldl (fun t e => consumeEntry e t) s)

/-- The 16 bytes of a completion (10 R291). -/
def completionBytes (r : RingCfg) (e : JEntry) : List Byte :=
  leBytes 2 e.d.tag ++ leBytes 1 e.d.opcode ++ leBytes 1 e.code ++ leBytes 4 e.r0 ++ leBytes 4 e.r1 ++
  leBytes 4 (pack [(e.cmd % 65536, 0), (e.ctile, 16), (phaseOf r.log2n e.cpl, 31)])

/-- CPL_PI moves over every consecutive written slot. -/
def advanceCplPi : Nat → State → State
  | 0, s => s
  | n + 1, s =>
    if s.rings.cplWritten.contains s.rings.cplPi then
      advanceCplPi n { s with rings.cplWritten := s.rings.cplWritten.filter (· != s.rings.cplPi),
                              rings.cplPi := add32 s.rings.cplPi 1, rings.dirty := true }
    else s

/-- A completion is written to its reserved slot (10 R298, R300); RO is clear when DFENCE asked for order. The entry of a completion that the
host had already passed is consumed at once. -/
def writeCompletion (e : JEntry) (s : State) : State :=
  let t := hostWrite (s.rings.cpl.slot 16 e.cpl) (completionBytes s.rings.cpl e) (!e.d.dfence) s
  let t := countRecord t.rings.cpl t
  let t := t.setEntry e.cmd (fun x => { x with stage := .posted, redo := false })
  if later t.rings.cplCi e.cpl then advanceCmdCi (consumeEntry { e with stage := .posted } t)
  else if later t.rings.cplPi e.cpl then t
  else advanceCplPi 512 { t with rings.cplWritten := t.rings.cplWritten ++ [e.cpl] }

/-- A completion that replay has to write is still to come. -/
def JEntry.owed (e : JEntry) : Bool := e.redo && (e.stage == .issued || e.stage == .applied)

/-- Replay runs while it has a completion to write (10 R304). -/
def startReplay (s : State) : State :=
  if s.jrn.any (·.owed) then { s with rings.replay := true, rings.dirty := true } else s

/-- Replay is over once nothing it must complete is left (10 R304). -/
def endReplay (s : State) : State :=
  if s.rings.replay && !s.rings.replayDue && !s.jrn.any (·.owed) then
    { s with rings.replay := false, rings.dirty := true }
  else s

def State.slot (s : State) (n : Nat) : SlotState := s.ctx.slots.getD n .empty

def setSlot (n : Nat) (st : SlotState) (s : State) : State := { s with ctx.slots := s.ctx.slots.set n st }

/-- The slot under check returns to its state before (08 R236). -/
def uncheck (g : CommitJob) (s : State) : State :=
  if g.set.contains s.tile && s.slot g.slot == .checking then setSlot g.slot g.before s else s

/-- A member of the set has not refused: its slot may be under check. -/
def mayCheck (g : CommitJob) (k : Nat) : Bool :=
  k != 0 && !g.replies.any (fun r => r.1 == k && r.2.1 != 0 && r.2.1 != 0x84)

/-- A check is abandoned on every tile (10 R303). -/
def dropCheck (g : CommitJob) (s : State) : State :=
  (g.set.filter (mayCheck g)).foldl (fun u k => sendMsg 1 k (.abandon g.slot) u) (uncheck g s)

/-- The checks of commands that are gone are abandoned; a decision that was made stands (10 R303; log entry 131). -/
def dropChecks (s : State) : State :=
  let open' := (s.ctx.job.toList.filter (fun g => g.cmd.isSome && !g.decided)) ++ s.ctx.doomed
  open'.foldl (fun u g => dropCheck g u) { s with
    ctx.job := (s.ctx.job.filter (fun g => g.cmd.isNone || g.decided)).map (fun g => { g with cmd := none }), ctx.doomed := [] }

/-- The number of no command: what a member still does for one that the journal has lost. -/
def noCmd : Nat := 2 ^ 32

/-- A CAPTURE's job ends with its command; the engine has no entry to report to. -/
def dropCapture (s : State) : State :=
  if s.mute.busy && s.mute.forCmd.isSome then
    raise 21 { s with mute.busy := false, mute.done := true, mute.abort := false, mute.result := 6, mute.forCmd := none }
  else s

/-- The journal as FLR, PERST#, PORn and RESET_CTL leave it (10 R284, R303): no entries, every index 0. What was forwarded is not recalled, and
no number of the old journal stands for a command of the new one. -/
def clearJournal (s : State) : State :=
  let s := dropCapture (dropChecks s)
  { s with
    jrn := []
    cap.waiting := [], cap.copied := [], ctx.pieces := []
    arr.fwUpdate := s.arr.fwUpdate.map (fun u => (noCmd, u.2)), arr.resetMember := s.arr.resetMember.map (fun r => (noCmd, r.2))
    rings.tableValid := false, rings.cmdCi := 0, rings.strCi := 0, rings.cplPi := 0, rings.rptPi := 0, rings.evtPi := 0
    rings.cmdPi := 0, rings.strPi := 0, rings.cplCi := 0, rings.rptCi := 0, rings.evtCi := 0, rings.fetch := 0
    rings.cplNext := 0, rings.cplWritten := [], rings.replay := false, rings.replayDue := false, rings.waitReads := []
    strm.bufs := [], strm.next := 0
    evt.written := 0
    elec.ltCmds := [], cal.cmds := [], cal.releases := [], chn.replaced := [], chn.decided := []
    chn.req := s.chn.req.map (fun q => { q with cmd := none }) }

/-- The reads that wait while the rings are stopped: those of retained images and of damaged entries (10 R303). -/
def keptReads (l : List ReadReq) : List ReadReq := l.filter (fun r => match r with
  | .retained _ _ => true
  | .refetch _ => true
  | _ => false)

/-- The rings go off (09 R265, R266): outstanding requests are abandoned, flushes among them. The reads of retained images and of damaged entries are asked
again once the rings run (10 R303). -/
def ringsOff (s : State) : State :=
  { s with rings.en := false, rings.act := false, rings.startPending := false, rings.draining := false,
           rings.waitReads := s.rings.waitReads ++ keptReads s.rings.reads, rings.reads := [],
           rings.pollAgain := false, rings.dirty := false, rings.replayDue := false,
           jrn := s.jrn.map (fun e => if e.wait = .fence then { e with wait := .start } else e) }

/-- A failed device read (09 R272, 10 R293, R313); AER notes a poisoned completion and a timeout (09 R258). -/
def countFailedRead (r : HostRead) (s : State) : State :=
  match r with
  | .ok _ => s
  | _ =>
    let t := setHostrd { s with host.cntHostrd := cnt 8 s.host.cntHostrd 1 }
    match r with
    | .ur => { t with hdma.ur := cnt 8 t.hdma.ur 1 }
    | .ca => { t with hdma.ca := cnt 8 t.hdma.ca 1 }
    | .poison => { t with hdma.poison := cnt 8 t.hdma.poison 1, host.cfg.aer := t.host.cfg.aer ||| 0x1000 }
    | _ => { t with hdma.timeout := cnt 8 t.hdma.timeout 1, host.cfg.aer := t.host.cfg.aer ||| 0x4000 }

/-! ### Ring start -/

/-- A ring entry of the table's bytes (10 R280). -/
def ringOf (b : List Byte) (r : Nat) : RingCfg :=
  let o := 0x20 + 0x20 * r
  { base := leAt b o 8, log2n := leAt b (o + 8) 1, vec := leAt b (o + 9) 1 % 16, irq := leAt b (o + 10) 1 % 2 == 1 }

/-- Two byte ranges meet. -/
def overlap (a b : Nat × Nat) : Bool := a.1 < b.1 + b.2 && b.1 < a.1 + a.2

/-- No two ranges of a list meet. -/
def disjointAll : List (Nat × Nat) → Bool
  | [] => true
  | x :: xs => xs.all (fun y => !overlap x y) && disjointAll xs

/-- The checks of 10 R281 on the 256 bytes of a ring table. -/
def tableOk (s : State) (b : List Byte) : Bool :=
  let rg := (List.range 5).map (ringOf b)
  let g (r : Nat) : RingCfg := rg.getD r {}
  let rsv := (b.drop 3).take 29 ++ b.drop 0xC0 ++ (List.range 5).flatMap (fun r => (b.drop (0x20 + 0x20 * r + 11)).take 21)
  let lim (r lo hi : Nat) : Bool := decide (lo ≤ (g r).log2n ∧ (g r).log2n ≤ hi) && (g r).base != 0
  let strOff := (g 3).base == 0 && (g 3).log2n == 0
  let sizes := [32, 16, 2112, 32, 16]
  let areas := ((List.range 5).filter (fun r => (g r).base != 0)).map (fun r => ((g r).base, sizes.getD r 0 * (g r).size))
  b.length == 256 && leAt b 0 2 == 0x5254 && leAt b 2 1 == 1 && rsv.all (· == 0) &&
  (List.range 5).all (fun r => leAt b (0x20 + 0x20 * r + 9) 1 < 16 && leAt b (0x20 + 0x20 * r + 10) 1 < 2 && (g r).base % 4096 == 0) &&
  lim 0 4 12 && lim 1 4 12 && decide ((g 0).log2n ≤ (g 1).log2n) && lim 2 4 10 && lim 4 4 12 &&
  (strOff || lim 3 2 8) && s.host.dbpg != 0 && s.host.stpg != 0 &&
  disjointAll (areas ++ [(s.host.dbpg, 4096), (s.host.stpg, 4096)])

/-- Replay after a ring restart with an unchanged table (10 R303, R304): APPLIED completions follow by COMPLETION_POST; POSTED ones are
rewritten at their index from the CPL_CI that the doorbell read just showed on, READ_CONTEXT and CAPTURE without DFENCE being executed again first; written events
are written again; stream descriptors in hand are abandoned. -/
def replayRings (s : State) : State :=
  let again (e : JEntry) : Bool := e.stage == .posted && (e.d.opcode == 0x13 || e.d.opcode == 0x30) && !e.d.dfence
  let t : State := { s with
    rings.replay := !(s.jrn.all (fun (e : JEntry) => e.stage == .retained))
    jrn := s.jrn.map (fun e =>
      if again e then { e with stage := .issued, wait := .start, code := 0, r0 := 0, r1 := 0, flushed := false, redo := true }
      else { e with redo := e.redo || e.stage == .applied })
    evt.written := 0, evt.seq := (s.evt.seq + 65536 - s.evt.written % 65536) % 65536, rings.evtPi := s.rings.evtCi
    strm.bufs := [], strm.next := s.rings.strPi, rings.strCi := s.rings.strPi, rings.dirty := true, rings.replayDue := false }
  (t.jrn.filter (fun (e : JEntry) => e.stage == .posted)).foldl (fun u e => writeCompletion e u) t

/-- A doorbell read goes out; one more poll follows the current one when one is outstanding (09 R275). -/
def pollDoorbell (s : State) : State :=
  if !s.ringsOk then s
  else if s.rings.reads.contains .doorbell then { s with rings.pollAgain := true }
  else { s with rings.reads := s.rings.reads ++ [.doorbell] }

/-- A ring table has been read (10 R281): refused, or in force; a changed CMD or CPL entry clears the journal (R303). The doorbell page is
polled at once, and with an unchanged table the replay follows from what it shows. -/
def acceptTable (r : HostRead) (s : State) : State :=
  let t := countFailedRead r { s with rings.reads := s.rings.reads.filter (· != .ringTable), rings.startPending := false }
  if !t.rings.en then t
  else match r with
    | .ok b =>
      if !tableOk t b then { t with host.rtblErr := true, rings.en := false }
      else
        let cmd := ringOf b 0
        let cpl := ringOf b 1
        let same := t.rings.tableValid && t.rings.cmd == cmd && t.rings.cpl == cpl
        let u := if t.rings.tableValid && !same then clearJournal t else t
        let v := { u with rings.cmd := cmd, rings.cpl := cpl, rings.rpt := ringOf b 2, rings.str := ringOf b 3, rings.evt := ringOf b 4,
                          rings.tableValid := true, rings.act := true, rings.dirty := true
                          rings.reads := u.rings.reads ++ u.rings.waitReads, rings.waitReads := [] }
        pollDoorbell (if same then { v with rings.replay := true, rings.replayDue := true } else { v with evt.written := 0 })
    | _ => { t with host.rtblErr := true, rings.en := false }

/-- `CONTROL.RING_EN` written 1 (09 R273, R502, 10 R281, R525): ignored while READY = 0 or the rings run; deferred until Bus Master
Enable is 1 and the function is in D0; the table's read may be answered at once or left outstanding. -/
def ringStart (table : Option HostRead) (s : State) : State :=
  if !s.boot.ready || s.rings.act || s.rings.en then s
  else
    let t := { s with rings.en := true, rings.startPending := true }
    if !t.dmaOk then t
    else match table with
      | some r => acceptTable r t
      | none => { t with rings.reads := t.rings.reads ++ [.ringTable], rings.startPending := false }

/-- `CONTROL.RING_EN` written 0 (09 R273, 10 R525). -/
def ringStop (s : State) : State :=
  if !s.boot.ready then s
  else { s with rings.en := false, rings.startPending := false, rings.draining := s.rings.act,
                rings.reads := s.rings.reads.filter (fun r => r == .doorbell) ++ keptReads s.rings.reads }

/-! ### Polls -/

/-- The producer test of 10 R286. -/
def producerOk (new old c n : Nat) : Bool := decide (diff32 new c ≤ n) && decide (diff32 old c ≤ diff32 new c)

/-- The consumer test of 10 R286. -/
def consumerOk (new old p : Nat) : Bool := decide (diff32 new old ≤ diff32 p old)

/-- A rejected index: one RING_ERROR event per index and per 100 ms (10 R286). -/
def ringError (r bad : Nat) (s : State) : State :=
  match assoc s.rings.ringErr r with
  | some t0 => if s.clk.now < t0 + 100000 then s
      else postEvent 0x0F r (bad % 2 ^ 31) { s with rings.ringErr := file s.rings.ringErr r s.clk.now }
  | none => postEvent 0x0F r (bad % 2 ^ 31) { s with rings.ringErr := file s.rings.ringErr r s.clk.now }

/-- The EVT_LOST event is due once space allows (10 R307). -/
def evtLostEvent (s : State) : State :=
  if s.evt.lostDue ≠ 0 && s.evt.buf.length < 64 then
    { s with evt.lostDue := 0,
             evt.buf := s.evt.buf ++ [{ code := 0x0C, tile := 0, epoch := s.epoch, d0 := s.evt.lostDue, d1 := 0 }] }
  else s

/-- The doorbell values of one read (10 R285, R286, R300, R307). -/
def takeDoorbell (cmdPi strPi cplCi rptCi evtCi : Nat) (s : State) : State :=
  let o := s.rings
  let changed := cmdPi != o.cmdPi || strPi != o.strPi || cplCi != o.cplCi || rptCi != o.rptCi || evtCi != o.evtCi
  let okCmd := producerOk cmdPi o.cmdPi o.cmdCi o.cmd.size
  let okStr := cond (o.str.base == 0) (strPi == o.strPi) (producerOk strPi o.strPi o.strCi o.str.size)
  let okCpl := consumerOk cplCi o.cplCi o.cplPi
  let okRpt := consumerOk rptCi o.rptCi o.rptPi
  let okEvt := consumerOk evtCi o.evtCi o.evtPi
  let t := if okCmd then { s with rings.cmdPi := cmdPi } else ringError 0 cmdPi s
  let t := if okCpl then consumeTo o.cplCi cplCi { t with rings.cplCi := cplCi } else ringError 1 cplCi t
  let t := if okRpt then { t with rings.rptCi := rptCi } else ringError 2 rptCi t
  let t := if okStr then { t with rings.strPi := strPi } else ringError 3 strPi t
  let t := if okEvt then
      let k := diff32 evtCi o.evtCi
      evtLostEvent { t with rings.evtCi := evtCi, evt.buf := t.evt.buf.drop k, evt.written := t.evt.written - k }
    else ringError 4 evtCi t
  let t := if changed then raise 27 t else t
  if okCmd && cmdPi != o.cmdPi && t.pwr.state == .drone then wakeSource 0x03 t else t

/-- A descriptor of 32 bytes (10 R290). -/
def descOf (b : List Byte) : Desc :=
  { opcode := leAt b 0 1, ord := leAt b 1 1 % 2 == 1, dfence := leAt b 1 1 / 2 % 2 == 1, rsv := decide (4 ≤ leAt b 1 1),
    tag := leAt b 2 2, tile := leAt b 4 1, a0 := leAt b 5 1, a1 := leAt b 6 2, addr := leAt b 8 8,
    p0 := leAt b 16 4, p1 := leAt b 20 4, p2 := leAt b 24 4, p3 := leAt b 28 4 }

/-- How many descriptors can be fetched now (10 R301): journal entries FREE, CPL slots unreserved, commands waiting, no replay. -/
def State.fetchable (s : State) : Nat :=
  if !(s.rings.en && s.ringsOk && s.boot.ready && s.fwRuns && !s.rings.replay) then 0
  else Nat.min (diff32 s.rings.cmdPi s.rings.fetch)
    (Nat.min (512 - s.jrn.length) (s.rings.cpl.size - diff32 s.rings.cplNext s.rings.cplCi))

/-- Descriptors enter the journal as ISSUED, each with the next CPL slot reserved (10 R300); one rejected outright is APPLIED at
once (R294). -/
def enterDescs : Nat → List Byte → State → State
  | 0, _, s => s
  | n + 1, b, s =>
    let d := descOf b
    let e : JEntry := { cmd := s.rings.fetch, d := d, cpl := s.rings.cplNext }
    let t := { s with jrn := s.jrn ++ [e], rings.fetch := add32 s.rings.fetch 1, rings.cplNext := add32 s.rings.cplNext 1 }
    let t := { t with host.jrnPeak := Nat.max t.host.jrnPeak t.jrn.length }
    let rc := rejectCode t d
    let early := decide (rc ≤ 2) || d.opcode == 0x11 || d.opcode == 0x12
    enterDescs n (b.drop 32) (if rc ≠ 0 && early then finish e.cmd rc 0 0 (if rc = 3 ∧ d.tile < 64 then d.tile else 0) t else t)

/-- The descriptors of a read are entered; a failed read enters none and is tried again (10 R293). -/
def takeDescs (n : Nat) (r : HostRead) (s : State) : State :=
  let t := countFailedRead r { s with rings.reads := s.rings.reads.filter (fun q => match q with
    | .descs _ => false
    | _ => true) }
  match r with
  | .ok b => enterDescs (Nat.min n (b.length / 32)) b t
  | _ => t

end Sys2Proof.Machine
end

