-- ==== Sys2Proof/Machine/Regs.lean ====
section
/-! DEFINITION. The core-side registers as they read: CHN (02 R54, 03 R92, 04 R105, 05 R149, 06 R183, 08 R257), CRL (07 R233),
MUTE (11 R339), BEL (15 R429, 16 R453), HDMA (10 R313), TWM and TWC (17 R476); what a read clears; and the writes that only set
fields. -/

namespace Sys2Proof.Machine

/-! ### CHN -/

/-- Pins whose code lies in 0x1 to 0x7. -/
def faultPins (s : State) : List Nat := (List.range 320).filter (fun n => decide (1 ≤ s.elec.code.getD n 0xF ∧ s.elec.code.getD n 0xF ≤ 7))

/-- A line test is pending or running. -/
def State.ltBusy (s : State) : Bool := s.elec.ltPending || s.elec.ltLeft != 0

/-- A calibration is pending or running (05 R149). -/
def State.calBusy (s : State) : Bool := s.cal.kind != .none || s.cal.fullDue.isSome || s.cal.groupDue.isSome

/-- PHASE of `CHN_CAL_STAT` (05 R149). -/
def calPhaseCode (p : Nat) : Nat := if p ≤ 1 then p else if p ≤ 3 then 2 else p - 1

/-- Suspect nodes counted in node-state RAM (05 R131). -/
def suspectCount (s : State) : Nat :=
  (s.mem.filter (fun c => nodeRam ≤ c.1 && c.1 < nodeRam + 24576 && c.2.getLsbD 0)).length

/-- The dictionary bank that a generation selects: the bank holding it (06 R155). -/
def bankOf (s : State) (gen : Nat) : Option Nat :=
  if gen = 0 then none else if s.tok.gen0 = gen then some 0 else if s.tok.gen1 = gen then some 1 else none

/-- TOKEN_GEN of the active context; 0 while none is active. -/
def State.tokenGen (s : State) : Nat := if s.activeSlot.isNone then 0 else s.act 0x340 2

def openTracks (s : State) : List Track := (s.trk.tab.filterMap id).filter (·.status == 1)

/-- A Chanter register, without the effects of a read. -/
def chnPeek (s : State) (o : Nat) : Nat :=
  let c := s.chn
  match o with
  | 0x000 => pack [(c.step, 0), (c.seg, 8), (s.epoch % 65536, 16)]
  | 0x004 => pack [(c.pri, 0), (c.sec, 4), (c.npri, 8), (c.nsec, 12)]
  | 0x008 => pack [(c.hopAuto, 0), (c.hopForced, 16), (c.hopCancelled, 24)]
  | 0x00C => pack [(b2n c.req.isSome, 9)]
  | 0x010 => c.noise.getD 0 0
  | 0x014 => c.noise.getD 1 0
  | 0x018 => c.noise.getD 2 0
  | 0x01C => c.noise.getD 3 0
  | 0x020 => c.noise.getD 4 0
  | 0x024 => pack [(c.divLast, 0), (c.divTotal, 16)]
  | 0x028 => pack [(s.elec.shTrips, 0), (b2n s.elec.shFault, 16), (b2n s.elec.selfOk, 17), (s.elec.selfAge, 18)]
  | 0x040 => pack [(b2n s.calBusy, 2), (b2n s.cal.calDone, 3)]
  | 0x044 => pack [(calPhaseCode s.cal.phase, 0), (if s.cal.phase = 6 then s.cal.group else 0, 4), (s.cal.calfail, 8), (s.cal.trimsat, 16)]
  | 0x048 => pack [(suspectCount s, 0), (b2n s.cal.refused, 15), (s.cal.negreb, 16), (((openTracks s).filter (·.stale)).length, 24)]
  | 0x04C => pack [(tc 10 s.cal.tcal, 0), (tc 10 s.cal.tnow, 16)]
  | 0x060 => pack [((openTracks s).length, 0), (s.trk.nblob, 8), (s.trk.ncand, 16), (s.trk.ntok, 24),
                   ((bankOf s s.tokenGen).getD 0, 28), (b2n (s.tokenGen == 0), 29)]
  | 0x064 => pack [(s.trk.full, 0), (s.trk.blobcap, 8), (s.trk.candcap, 16), (s.trk.clustcap, 24)]
  | 0x068 => pack [(s.trk.opens, 0), (s.trk.retires, 16)]
  | 0x06C => pack [(s.tok.gen0, 0), (s.tok.gen1, 16)]
  | 0x070 => pack [(s.trk.last, 0), (s.trk.max, 16)]
  | 0x080 => pack ((List.range 8).map (fun n => ((match s.ctx.slots.getD n .empty with
      | .empty => 0
      | .staging => 1
      | .checking => 2
      | .ready => 3
      | .pending => 4
      | .active => 5
      | .draining => 6), 3 * n)))
  | 0x084 => pack [(s.activeSlot.getD 0, 0), (b2n s.activeSlot.isSome, 3), (s.pendingSlot.getD 0, 4), (b2n s.pendingSlot.isSome, 7)]
  | 0x088 => if s.pendingSlot.isSome then s.ctx.pendEa else s.ctx.ea
  | 0x08C => s.ctx.gen
  | 0x090 => pack [(s.ctx.failCode, 0), (s.ctx.failTile, 8), (s.ctx.failOff, 16)]
  | 0x094 => pack [(s.ctx.applied, 0), (s.ctx.failed, 16)]
  | 0x100 => pack [(b2n s.ltBusy, 1), (b2n s.elec.ltDone, 2)]
  | 0x108 => pack [((faultPins s).length, 0), (b2n s.elec.faultChg, 16)]
  | 0x10C => s.elec.tripCnt
  | 0x110 => s.elec.ovrCnt
  | _ =>
    if 0x200 ≤ o ∧ o < 0x2A0 then
      pack ((List.range 8).map (fun k => (s.elec.code.getD (8 * ((o - 0x200) / 4) + k) 0xF, 4 * k)))
    else 0

/-- RC fields of the Chanter block. -/
def chnReadEffect (o : Nat) (s : State) : State :=
  match o with
  | 0x008 => { s with chn.hopAuto := 0, chn.hopForced := 0, chn.hopCancelled := 0 }
  | 0x024 => { s with chn.divTotal := 0 }
  | 0x028 => { s with elec.shTrips := 0 }
  | 0x044 => { s with cal.calfail := 0 }
  | 0x048 => { s with cal.negreb := 0 }
  | 0x064 => { s with trk.full := 0, trk.blobcap := 0, trk.candcap := 0, trk.clustcap := 0 }
  | 0x068 => { s with trk.opens := 0, trk.retires := 0 }
  | 0x070 => { s with trk.max := 0 }
  | 0x094 => { s with ctx.applied := 0, ctx.failed := 0 }
  | 0x10C => { s with elec.tripCnt := 0 }
  | 0x110 => { s with elec.ovrCnt := 0 }
  | _ => s

/-- A forced-hop request; it replaces a pending one, whose command waits for the deciding latch instant (03 R83, R92). -/
def hopRequest (slot role : Nat) (cmd : Option Nat) (s : State) : State :=
  { s with chn.replaced := s.chn.replaced ++ ((s.chn.req.bind (·.cmd)).toList),
           chn.req := some { slot := slot, role := role, cmd := cmd } }

/-- `CHN_HOP_FORCE` written. -/
def hopForce (v : Nat) (s : State) : State := if bit v 8 then hopRequest (fld v 0 3) (fld v 4 1) none s else s

/-- `CHN_LTEST` written (02 R54): START is ignored while BUSY; DONE is W1C. -/
def ltestWrite (v : Nat) (s : State) : State :=
  let t := { s with elec.ltDone := s.elec.ltDone && !bit v 2 }
  if bit v 0 && !t.ltBusy then { t with elec.ltPending := true } else t

/-- `CHN_CAL_CTL` written (05 R149): FULL and GROUPS are ignored while BUSY; DONE is W1C. DESIGN CHOICE: with both written 1 it is FULL that
counts (log entry 126). -/
def calWrite (v : Nat) (s : State) : State :=
  let t := { s with cal.calDone := s.cal.calDone && !bit v 3 }
  if t.calBusy then t
  else if bit v 0 then { t with cal.fullDue := some false }
  else if bit v 1 then { t with cal.groupDue := some false }
  else t

/-- A core-0 store to a Chanter register. -/
def chnWrite (o v : Nat) (s : State) : State :=
  match o with
  | 0x00C => hopForce v s
  | 0x040 => calWrite v s
  | 0x100 => ltestWrite v s
  | 0x108 => { s with elec.faultChg := s.elec.faultChg && !bit v 16 }
  | _ => s

/-! ### CRL -/

/-- A Crila register, without the effects of a read. -/
def crlPeek (s : State) (o : Nat) : Nat :=
  let c := s.crl
  let st (p : PortSt) : Nat := if s.boot.role = .standalone then 3 else p.state
  match o with
  | 0x000 => pack [((match s.boot.role with
      | .standalone => 0
      | .root => 1
      | .member => 2
      | .test => 3), 0), (s.tile, 2), (b2n (s.isRoot || c.enrolled), 8), (b2n (s.isRoot || c.lock), 9), (b2n c.wrap, 10),
      (b2n (s.isRoot && c.openRing), 11), (if s.isRoot then c.ntiles else 0, 16)]
  | 0x004 => pack [(st c.up, 0), (c.up.lane, 2), (st c.dn, 4), (c.dn.lane, 6)]
  | 0x008 => pack [(c.up.hopLat, 0), (c.dn.hopLat, 16)]
  | 0x00C => pack [(tc 16 c.err, 0), (c.maxErr, 16)]
  | 0x010 => pack [(c.crcUp, 0), (c.crcDn, 16)]
  | 0x014 => pack [(c.retryUp, 0), (c.retryDn, 16)]
  | 0x018 => pack [(c.upDown, 0), (c.dnDown, 8), (c.ttlDrop, 16)]
  | 0x01C => pack [(c.late, 0), (c.lateArr, 8), (c.fragCap, 16), (c.seamOff, 24)]
  | 0x020 => c.lent.length
  | 0x024 => c.sdrop
  | _ => 0

/-- RC fields of the Crila block. -/
def crlReadEffect (o : Nat) (s : State) : State :=
  match o with
  | 0x00C => { s with crl.maxErr := 0 }
  | 0x010 => { s with crl.crcUp := 0, crl.crcDn := 0 }
  | 0x014 => { s with crl.retryUp := 0, crl.retryDn := 0 }
  | 0x018 => { s with crl.upDown := 0, crl.dnDown := 0, crl.ttlDrop := 0 }
  | 0x01C => { s with crl.late := 0, crl.lateArr := 0, crl.fragCap := 0 }
  | 0x024 => { s with crl.sdrop := 0 }
  | _ => s

/-! ### MUTE -/

/-- A Mute register, without the effects of a read. -/
def mutePeek (s : State) (o : Nat) : Nat :=
  let m := s.mute
  match o with
  | 0x000 => pack [(b2n m.busy, 2), (b2n m.done, 3), (m.regs.cls, 4), (b2n m.regs.dir, 6), (b2n m.regs.host, 7)]
  | 0x004 => m.regs.src
  | 0x008 => m.regs.dst
  | 0x00C => m.regs.ilen
  | 0x010 => m.regs.olen
  | 0x014 => pack [(m.regs.elo, 0), (m.regs.bidx0, 16)]
  | 0x018 => pack [(m.result, 0), (m.marks, 8)]
  | 0x01C => m.cons
  | 0x020 => m.prod
  | 0x024 => pack [(m.errCrc, 0), (m.errFormat, 8), (m.stageDrop, 16), (m.errParity, 24)]
  | 0x028 => pack [(m.strNblk, 0), (b2n m.strBusy, 9), (m.strEpoch % 65536, 16)]
  | _ => 0

/-- RC fields of the Mute block. -/
def muteReadEffect (o : Nat) (s : State) : State :=
  if o = 0x024 then { s with mute.errCrc := 0, mute.errFormat := 0, mute.stageDrop := 0, mute.errParity := 0 } else s

/-! ### BEL -/

/-- A Bellows counter as a word. -/
def belCounter (s : State) (n : Nat) : Nat :=
  let c := s.pwr.counters.getD n {}
  if n ≤ 20 then pack [(c.count, 0), (c.lastId, 16)] else 0

/-- A Bellows register, without the effects of a read. -/
def belPeek (s : State) (o : Nat) : Nat :=
  let p := s.pwr
  match o with
  | 0x000 => pack [(s.shownState, 0), (b2n p.busy, 3), (b2n p.limp, 4), (b2n p.hold, 5), (p.floor, 6),
                   (if p.busy then p.target.code else 0, 9), (b2n p.latched.isSome, 12)]
  | 0x004 => pack [(p.idleT, 0), (p.droneT, 8), (p.gestureT, 16), (p.wakeMode, 24)]
  | 0x008 => pack [(p.rate, 0), (p.persist, 2), (p.shift, 6), (p.on, 10)]
  | 0x00C => p.noise
  | 0x010 => pack [(s.drone.slot, 0), (s.drone.pcnt, 3), (b2n s.drone.base, 7), (s.drone.gang, 8)]
  | 0x014 => pack [(p.wakeEn, 0), (p.wakeHost, 16)]
  | 0x018 => pack [(p.last, 0), (p.prev, 8), (b2n p.new, 16)]
  | 0x01C => pack [(p.failStep, 0), (p.failAttempts, 2)]
  | 0x300 => pack [(b2n s.clk.pllLock, 0), (b2n s.clk.xtalOk, 1), (b2n s.clk.aonXtal, 2), (b2n s.clk.limpClk, 3), (s.clk.unlock, 8)]
  | 0x304 => pack [(s.clk.mergeIcu, 0), (s.clk.mergeWake, 8), (s.clk.dsRetry, 16), (s.clk.abandon, 24)]
  | 0x308 => pack [(b2n s.clk.rstPor, 0), (b2n s.clk.rstPerst, 1), (b2n s.clk.rstCoreCtl, 2), (b2n s.clk.rstUnlock, 3),
                   (b2n s.clk.rstCoreBo, 4), (b2n s.clk.rstMember, 5), (b2n s.clk.rstWdog, 6)]
  | _ =>
    if 0x040 ≤ o ∧ o < 0x060 then tc 24 (s.drone.dd.getD ((o - 0x040) / 4) 0)
    else if 0x100 ≤ o ∧ o < 0x180 then belCounter s ((o - 0x100) / 4)
    else 0

/-- RC fields of the Bellows block. -/
def belReadEffect (o : Nat) (s : State) : State :=
  if o = 0x300 then { s with clk.unlock := 0 }
  else if o = 0x304 then { s with clk.mergeIcu := 0, clk.mergeWake := 0, clk.dsRetry := 0, clk.abandon := 0 }
  else if 0x100 ≤ o ∧ o < 0x180 then
    { s with pwr.counters := s.pwr.counters.modify ((o - 0x100) / 4) (fun c => { c with count := 0 }) }
  else s

/-- A core-0 store to a Bellows register; reserved encodings leave their field (00 R9). -/
def belWrite (o v : Nat) (s : State) : State :=
  let keep (ok : Bool) (new old : Nat) : Nat := if ok then new else old
  match o with
  | 0x004 => { s with pwr.idleT := fld v 0 8, pwr.droneT := keep (fld v 8 8 ≠ 0) (fld v 8 8) s.pwr.droneT,
                      pwr.gestureT := keep (5 ≤ fld v 16 8) (fld v 16 8) s.pwr.gestureT, pwr.wakeMode := fld v 24 1 }
  | 0x008 => { s with pwr.rate := fld v 0 2, pwr.persist := keep (fld v 2 4 ≠ 0) (fld v 2 4) s.pwr.persist,
                      pwr.shift := keep (2 ≤ fld v 6 4 ∧ fld v 6 4 ≤ 12) (fld v 6 4) s.pwr.shift,
                      pwr.on := keep (8 ≤ fld v 10 12) (fld v 10 12) s.pwr.on }
  | 0x00C => { s with pwr.noise := keep (fld v 0 24 ≠ 0) (fld v 0 24) s.pwr.noise }
  | 0x014 => { s with pwr.wakeEn := fld v 0 14, pwr.wakeHost := fld v 16 14 }
  | 0x018 => { s with pwr.new := s.pwr.new && !bit v 16 }
  | 0x308 => { s with clk.rstPor := s.clk.rstPor && !bit v 0, clk.rstPerst := s.clk.rstPerst && !bit v 1,
                      clk.rstCoreCtl := s.clk.rstCoreCtl && !bit v 2, clk.rstUnlock := s.clk.rstUnlock && !bit v 3,
                      clk.rstCoreBo := s.clk.rstCoreBo && !bit v 4, clk.rstMember := s.clk.rstMember && !bit v 5,
                      clk.rstWdog := s.clk.rstWdog && !bit v 6 }
  | _ => s

/-! ### HDMA -/

/-- A register of the host DMA engine, without the effects of a read (10 R313). -/
def hdmaPeek (s : State) (o : Nat) : Nat :=
  let h := s.hdma
  match o with
  | 0x000 => pack [(b2n h.dir, 1), (b2n h.flush, 2), (b2n h.ro, 3), (b2n h.busy, 4), (b2n h.done, 5), (h.result, 8)]
  | 0x004 => h.laddr
  | 0x008 => h.haddrLo.toNat
  | 0x00C => h.haddrHi.toNat
  | 0x010 => h.len
  | 0x014 => h.xfer
  | 0x020 => (h.recs.getD 0 0).toNat
  | 0x024 => (h.recs.getD 1 0).toNat
  | 0x028 => (h.recs.getD 2 0).toNat
  | 0x02C => (h.recs.getD 3 0).toNat
  | 0x030 => pack [(h.ring, 0), (b2n h.pbusy, 4), (b2n h.afterFlush, 5), (h.presult, 6), (h.index, 16)]
  | 0x040 => s.rings.cmdPi
  | 0x044 => s.rings.strPi
  | 0x048 => s.rings.cplCi
  | 0x04C => s.rings.rptCi
  | 0x050 => s.rings.evtCi
  | 0x060 => s.rings.cmdCi
  | 0x064 => s.rings.cplPi
  | 0x068 => s.rings.rptPi
  | 0x06C => s.rings.evtPi
  | 0x070 => s.rings.strCi
  | 0x078 => pack [(h.ur, 0), (h.ca, 8), (h.poison, 16), (h.timeout, 24)]
  | _ => 0

/-- RC fields of the host DMA engine. -/
def hdmaReadEffect (o : Nat) (s : State) : State :=
  if o = 0x078 then { s with hdma.ur := 0, hdma.ca := 0, hdma.poison := 0, hdma.timeout := 0 } else s

/-! ### TWM and TWC -/

/-- A register of the management port's core side, without the effects of a read (17 R476). -/
def twmPeek (s : State) (o : Nat) : Nat :=
  match o with
  | 0x004 => pack [((s.twm.msg.headD 0).toNat, 0), (s.twm.msg.length, 8)]
  | 0x008 => pack [(s.twm.timeout, 0), (s.twm.abort, 8), (s.twm.ara, 16)]
  | _ => 0

/-- What a read of it does: TWM_MBOX removes the byte it gives. -/
def twmReadEffect (o : Nat) (s : State) : State :=
  match o with
  | 0x004 => { s with twm.msg := s.twm.msg.tail }
  | 0x008 => { s with twm.timeout := 0, twm.abort := 0, twm.ara := 0 }
  | _ => s

/-- A register of the memory port, without the effects of a read (17 R476). -/
def twcPeek (s : State) (o : Nat) : Nat :=
  let t := s.twc
  match o with
  | 0x000 => pack [(b2n t.dir, 1), (b2n t.busy, 2), (b2n t.done, 3), (t.result, 4), (t.speed, 7), (t.slope, 9)]
  | 0x004 => t.off
  | 0x008 => t.len
  | 0x00C => t.buf.toNat
  | 0x010 => pack [(t.arblost, 0), (t.nack, 8), (t.recov, 16), (t.stuck, 24)]
  | _ => 0

/-- RC fields of the memory port. -/
def twcReadEffect (o : Nat) (s : State) : State :=
  if o = 0x010 then { s with twc.arblost := 0, twc.nack := 0, twc.recov := 0, twc.stuck := 0 } else s

/-! ### Commands of the Chanter registers -/

/-- R54: `CHN_LTEST.START` written by core 0; with the AFE domain off it raises DATA_BUS (12 R344). -/
def execLtestStart (v : Word) (s : State) : Answer := answer s (offStore s.clk.afe 0x40060100 (ltestWrite v.toNat) s)

/-- R149: `CHN_CAL_CTL.FULL`. -/
def execCalFullStart (v : Word) (s : State) : Answer := answer s (offStore s.clk.afe 0x40060040 (calWrite v.toNat) s)

/-- R149: `CHN_CAL_CTL.GROUPS`. -/
def execCalGroupStart (v : Word) (s : State) : Answer := answer s (offStore s.clk.afe 0x40060040 (calWrite v.toNat) s)

/-- R83: `CHN_HOP_FORCE.GO`. -/
def execHopForceWrite (v : Word) (s : State) : Answer := answer s (offStore s.clk.afe 0x4006000C (hopForce v.toNat) s)

end Sys2Proof.Machine
end

