-- ==== Sys2Proof/Machine/Resets.lean ====
section
/-! DEFINITION. Resets and bring-up (15 R409 to R428, 09 R265, 19 R491, 20 R514): what each cause resets, and limp mode (16 R448). -/

namespace Sys2Proof.Machine

/-! ### Alerts (17 R461) -/

/-- Bits of ALERT_STAT: 0 WAKEFAIL, 1 DUALMIS, 2 MBOX, 3 SETDEF, 4 RESTART. -/
def alertStat (s : State) : Nat :=
  pack [(b2n s.twm.alertWake, 0), (b2n s.twm.alertDual, 1), (b2n s.twm.alertMbox, 2), (b2n s.twm.alertSetdef, 3),
        (b2n s.twm.alertRestart, 4)]

/-- An ALERT_STAT bit is set; one that changes from 0 to 1 with its enable drives `ALERT#` low. -/
def setAlert (b : Nat) (s : State) : State :=
  let was := bit (alertStat s) b
  let t := match b with
    | 0 => { s with twm.alertWake := true }
    | 1 => { s with twm.alertDual := true }
    | 2 => { s with twm.alertMbox := true }
    | 3 => { s with twm.alertSetdef := true }
    | _ => { s with twm.alertRestart := true }
  if !was && bit s.twm.alertEn b then { t with twm.alertPin := true } else t

/-! ### Domains -/

/-- The management port's data path resets (17 R456, R460): a transaction under way goes dead until STOP. -/
def twmReset (s : State) : State :=
  { s with twm.ptr := 0, twm.tempH := 0, twm.epochB := [0, 0, 0], twm.out := [], twm.inb := [], twm.msg := [], twm.slope := 1,
           twm.hdrok := false, twm.timeout := 0, twm.ara := 0, twm.first := false, twm.stretch := false,
           twm.dead := s.twm.dead || s.twm.active, twm.abort := b2n s.twm.active }

/-- Everything the CORE domain holds at its reset values; RAM contents stay but for the context slots, which are EMPTY (08 R238,
log entry 3), and VALID of the track mirror (06 R178; log entry 102). Events held in the crossings, and its own wake sources on their way, are
abandoned and counted (15 R427). What the Chanter registers of the calibration show lies in the AFE domain and stays (R425). -/
def coreDomainReset (s : State) : State :=
  let t := twmReset (clearJournal (ringsOff s))
  let gone (c : Nat) : Bool := c == 0x11 || c == 0x12
  { t with
    mem := (t.mem.clear ctxBase 0x4000).clear (mirrorBase + 4) 4
    epoch := 0
    boot := { role := t.boot.role, maddr := t.boot.maddr, eepromSel := t.boot.eepromSel, source := t.boot.source, phase := .held }
    clk.abandon := cnt 8 t.clk.abandon (t.icu.heldEdges.length + (t.pwr.wakeDue.filter gone).length)
    evt := {}, rpt := {}, strm := {}, cap := {}, trk := {}, tok := {}
    cal := { temps := t.cal.temps, tnow := t.cal.tnow, tcal := t.cal.tcal, calDone := t.cal.calDone, calfail := t.cal.calfail
             trimsat := t.cal.trimsat, refused := t.cal.refused, negreb := t.cal.negreb }
    crook := {}, ctx := {}, mute := {}, arr := {}
    core0 := { brm := true, vbase := 0x1000 }, core1 := { pc := 0x10020000, vbase := 0x10020000 }
    mbx := {}, icu := {}, tmr := {}, twc := {}, sets := {}
    host.diagItem := 0, host.diagTile := 0, host.diagBusy := false, host.jrnPeak := 0
    chn.timer := false, chn.seg := 7, chn.step := 0xFF, chn.cur := {}, chn.prev := {}, chn.req := none, chn.auto := none
    chn.due := none, chn.counted := false
    elec.refRec := [], elec.ltPending := false, elec.ltLeft := 0
    pwr.taps := [], pwr.lifted := [], pwr.dfltApplet := false, pwr.contactTiles := [], pwr.quietUs := 0
    pwr.wakeDue := t.pwr.wakeDue.filter (fun c => !gone c), pwr.gpioOut := List.replicate 4 false }

/-- Everything the AFE domain holds (02 R54, 03 R92, 04 R105, 05 R149). -/
def afeDomainReset (s : State) : State :=
  { s with chn := {}, elec := {}, cal.temps := [], cal.tnow := 0, cal.tcal := 0, host.tpeak := none, cal.calDone := false, cal.calfail := 0
           cal.trimsat := 0, cal.refused := false, cal.negreb := 0 }

/-- Trim RAM loses its contents with the power of the AFE domain (02 R44); lost bytes read as 0 (log entry 3). -/
def loseTrim (s : State) : State := { s with mem := s.mem.clear trimRam 0x18000 }

/-- Everything the LINK domain holds; the ports of a root or a member train on release (07 R197, 15 R428). -/
def linkDomainReset (s : State) : State :=
  let ps : PortSt := { state := if s.clk.link then 1 else 0 }
  { s with crl := { up := ps, dn := ps, ntiles := if s.isRoot then 1 else 0 } }

/-- Core 0 starts at 0x0000_0000 in boot/recovery mode (19 R491), and ALERT_STAT.RESTART is set (17 R456). -/
def leaveCoreReset (s : State) : State := setAlert 4 { s with boot.phase := .rom, clk.core := true }

/-- Clocks and domains as in ACTIVE, out of any low-power or limp state (01 R17, 16 R449); a transition that this ends leaves its latched floor
(R431). DESIGN CHOICE: the test role, for which 01 R20
gives no state of LINK and HOST, holds both off (log entry 100). -/
def clocksUp (s : State) : State :=
  latchedFloor { s with
    clk.core := true, clk.afe := true, clk.link := !(s.boot.role == .standalone) && !(s.boot.role == .test), clk.pllLock := true
    clk.xtalOk := true, clk.limpClk := false
    pwr.state := .active, pwr.busy := false, pwr.target := .active, pwr.limp := false, pwr.hold := false, pwr.entryDue := none
    pwr.entryEpoch := 0, pwr.during := [], pwr.tellRoot := none, pwr.beaconPort := none, pwr.quietUs := 0
    pwr.awaitL2 := false, pwr.latched := none, pwr.attempts := 0, pwr.idleUs := 0, pwr.byDrone := false
    drone.slot := 0, drone.pcnt := 0, drone.base := false }

/-- CORE, AFE and LINK reset together and core 0 boots again: `RESET_CTL.CORE`, loss of lock, the watchdog (15 R425). Out of DRONE the latency
tolerance changes (09 R259). -/
def tileReset (s : State) : State :=
  let t := leaveCoreReset (linkDomainReset (afeDomainReset (coreDomainReset (clocksUp s))))
  if s.pwr.state = .drone then sendLtr t else t

/-- Failed attempts of a step are counted (16 R447, R453): counter 14 LDO, 15 crystal, 16 PLL. -/
def countAttempts (n fails : Nat) (s : State) : State := (List.range (Nat.min fails 4)).foldl (fun t _ => belCount n 0 t) s

/-- One bring-up of 19 R491: oscillator, LDO, PLL, each with 4 attempts. A step that never becomes ready is recorded and the domains
stay in reset; otherwise they leave it together, which sets RESTART and drives `ALERT#` (17 R461). -/
def bringUp (f : StepFails) (s : State) : State :=
  let fail (step : Nat) (t : State) : State :=
    setAlert 0 { t with boot.phase := .failed, pwr.failStep := step, pwr.failAttempts := 4 }
  let t := countAttempts 15 f.xtal s
  if 4 ≤ f.xtal then fail 2 t
  else
    let t := { t with clk.xtalOk := true }
    let t := countAttempts 14 f.ldo t
    if 4 ≤ f.ldo then fail 1 t
    else
      let t := countAttempts 16 f.pll t
      if 4 ≤ f.pll then fail 3 t
      else leaveCoreReset (linkDomainReset (clocksUp { t with twm.alertRestart := false }))

/-! ### The host function -/

/-- `n` bytes that nothing states. -/
def drawBytes : Nat → State → List Byte × State
  | 0, s => ([], s)
  | n + 1, s =>
    let (w, t) := draw s
    let (bs, u) := drawBytes n t
    (w.setWidth 8 :: bs, u)

/-- A running job of the host DMA engine and a post under way end as aborted (10 R313). How many bytes had moved is open; those of a write
job are in host memory, and of a read job the core memory holds what the host had there, which no operand gives. -/
def abortHdma (s : State) : State :=
  let t := if s.hdma.busy then
      let (w, u) := draw s
      let n := w.toNat % (u.hdma.len + 1)
      let v := if u.hdma.dir then hostWrite (u.hdma.haddrHi.toNat * 2 ^ 32 + u.hdma.haddrLo.toNat) (u.mem.read u.hdma.laddr n) u.hdma.ro u
        else
          let (bs, x) := drawBytes n u
          x.put u.hdma.laddr bs
      raise 28 { v with hdma.busy := false, hdma.done := true, hdma.result := 5, hdma.xfer := n }
    else s
  if t.hdma.pbusy then { t with hdma.pbusy := false, hdma.presult := 2 } else t

/-- Hot reset, link down and FLR on the function (09 R265): configuration at its defaults, the register file at its reset values but
for the pointers, POLL_CTL and MSIX_MOD; `counts` says whether SCRATCH and ERR_COUNT stay. PWR_REQ and WAKE_SRC show what Bellows holds
(16 R431, R439), which no row of the table resets (log entry 116). -/
def functionReset (counts : Bool) (s : State) : State :=
  let h := s.host
  let keep : HostPort := {
    perst := h.perst, link := h.link, gen := h.gen, width := h.width, rtbl := h.rtbl, dbpg := h.dbpg, crs := h.crs
    stpg := h.stpg, rtblLo := h.rtblLo, dbpgLo := h.dbpgLo, stpgLo := h.stpgLo, interval := h.interval, modVec := h.modVec
    vecs := h.vecs.map (fun v => { count := v.count, time := v.time }), wakePin := h.wakePin, pmPme := h.pmPme, recov := h.recov }
  let k2 : HostPort := if counts then { keep with
    scratch := h.scratch, cntParity := h.cntParity, cntHostrd := h.cntHostrd,
    cntLinkrst := h.cntLinkrst, cntDropwr := h.cntDropwr } else keep
  let t := ringsOff (abortHdma s)
  raise 30 { t with host := k2 }

/-- The event lines of the HOST domain (14 R391). -/
def hostLine (n : Nat) : Bool := decide (27 ≤ n ∧ n ≤ 31) || n == 37

/-- The HOST domain resets (15 R425): configuration and register file at their defaults, rings off, journal cleared; its events in the
crossings, HOST_REQ among them, are abandoned and counted (R426, R427). A function in D3cold stays there, with `WAKE#` as it is, until `PERST#`
deasserts (R263). HOST_RESET is raised when the crossings are released (R427). -/
def hostDomainReset (s : State) : State :=
  let t := clearJournal (ringsOff (abortHdma s))
  let cold := s.host.dstate == .d3cold
  let n := (t.icu.heldEdges.filter hostLine).length + (t.pwr.wakeDue.filter (· == 0x01)).length
  { t with icu.heldEdges := t.icu.heldEdges.filter (fun e => !hostLine e), pwr.wakeDue := t.pwr.wakeDue.filter (· != 0x01),
           clk.abandon := cnt 8 t.clk.abandon n, hdma := {},
           host := { perst := s.host.perst, pmPme := s.host.pmPme, dstate := if cold then .d3cold else .d0, wakePin := cold && s.host.wakePin } }

/-- The HOST domain, where it is on, comes out of reset: training starts unless `PERST#` is low, and HOST_RESET is raised (09 R264, 15 R427). -/
def hostReleased (s : State) : State :=
  if s.clk.host && !s.host.perst then raise 30 { s with host.link := .training, host.crs := true } else s

/-! ### Commands -/

/-- R425: every domain resets; the AON retention memory and the other RAMs keep what they hold (log entry 3). -/
def porn (s : State) : State :=
  { State.reset with fresh := s.fresh, mem := ((s.mem.clear ctxBase 0x4000).clear trimRam 0x18000).clear (mirrorBase + 4) 4, out := s.out, clk.now := s.clk.now, host.perst := s.host.perst }

def execPornAssert (s : State) : Answer := answer s (porn s)

/-- R514: as on `PORn`. -/
def execVdd33Undervoltage (s : State) : Answer := answer s (porn s)

/-- R491, R19: the straps are sampled and the bring-up runs; a member's HOST domain is off (01 R24). -/
def execPornRelease (role : Role) (maddr : Nat) (eeprom : Bool) (fails : StepFails) (s : State) : Answer :=
  answer s (if s.boot.phase ≠ .held || s.pwr.state == .dormant then s
    else bringUp fails { s with boot.role := role, boot.maddr := maddr % 8, boot.eepromSel := eeprom,
                                clk.host := role == .standalone || role == .root })

/-- R491: the whole sequence again after 100 ms, with fresh attempt counts. -/
def execBringupRetry (fails : StepFails) (s : State) : Answer :=
  answer s (if s.boot.phase = .failed then bringUp fails s else s)

/-- R411: the AON clock moves to the crystal, once until the next `PORn`. -/
def execAonCrystalSwitch (s : State) : Answer := answer s { s with clk.aonXtal := true }

/-- R514, R428: VDDSER removed while LINK or HOST is on: a reset of one side of those links. -/
def execVddserRemoval (s : State) : Answer :=
  let t := if s.clk.link then linkDomainReset s else s
  answer s (if t.hostSide && t.clk.host then
    functionReset true { t with host.link := .down, host.gen := 0, host.width := 0, host.cntLinkrst := cnt 8 t.host.cntLinkrst 1 } else t)

/-- R264, R263: `PERST#` high: `WAKE#` is released and training starts, with configuration requests retried until it completes; in DORMANT it is a wake source (16 R438). A
HOST domain that is off stays off until an exit powers it (01 R17, R18). -/
def execPerstDeassert (s : State) : Answer :=
  answer s (if !s.hostSide || !s.host.perst then s
    else
      let t := { s with host.perst := false, host.wakePin := false, host.dstate := .d0, host.crs := true }
      if t.pwr.state == .dormant then wakeSource 0x02 t else hostReleased t)

/-- R265: hot reset. -/
def execHotReset (s : State) : Answer :=
  answer s (if !s.hostSide || !s.clk.host then s
    else functionReset true { s with host.cntLinkrst := cnt 8 s.host.cntLinkrst 1 })

/-- R265: the link goes down. -/
def execDlDown (s : State) : Answer :=
  answer s (if !s.hostSide || !s.clk.host then s
    else functionReset true { s with host.link := .down, host.gen := 0, host.width := 0, host.cntLinkrst := cnt 8 s.host.cntLinkrst 1 })

/-- R265: function-level reset; the journal is cleared. -/
def execFlr (s : State) : Answer :=
  answer s (if !s.hostSide || !s.clk.host then s else clearJournal (functionReset false s))

/-- `RESET_CTL` written: nothing without the key (09 R273); HOLD clears (16 R449). -/
def resetCtl (key : Nat) (array : Bool) (s : State) : State :=
  if key % 256 ≠ 0xC5 then s
  else
    let t := { s with clk.rstCoreCtl := true }
    tileReset (if array && t.isRoot then { t with out.arrayResets := t.out.arrayResets + 1 } else t)

/-- The host reaches its registers (09 R261, R264): a device with a host side, HOST on, the link up, not in D3hot. -/
def State.hostReach (s : State) : Bool :=
  s.hostSide && s.clk.host && s.host.dstate == .d0 && (s.host.link == .l0 || s.host.link == .l1 || s.host.link == .l1_2)

/-- R273: `RESET_CTL.CORE`. -/
def execResetCtlCore (key : Nat) (s : State) : Answer := answer s (if s.hostReach then resetCtl key false s else s)

/-- R273: `RESET_CTL.CORE` with ARRAY. -/
def execResetCtlArray (key : Nat) (s : State) : Answer := answer s (if s.hostReach then resetCtl key true s else s)

/-- R408, R362: the watchdog reaches 0: its source, then the recovery trap, then the reset of the domains. -/
def execWatchdogExpiry (s : State) : Answer :=
  answer s (if !s.tmr.wdEn || !s.clk.core then s
    else if s.tmr.stage = 0 then raise 46 { s with tmr.stage := 1, tmr.wdCnt := s.tmr.wdLoad }
    else if s.tmr.stage = 1 then
      recoveryTrap { s with tmr.stage := 2, tmr.traps := cnt 4 s.tmr.traps 1, tmr.wdCnt := s.tmr.wdLoad }
    else tileReset { s with clk.rstWdog := true })

end Sys2Proof.Machine
end

