-- ==== Sys2Proof/Machine/HostPort.lean ====
section
/-! DEFINITION. The host register file and what arrives over the PCI Express link (09 R258 to R279): reads and writes with their home
domains, the MSI-X table, the diagnostic window, and the commands that act on them and on the ring start (10 R281, R525). -/

namespace Sys2Proof.Machine

/-! ### Reads -/

/-- Domain `id` answers the host: in limp mode the crossings to CORE and AFE are closed (16 R448). -/
def State.hostDomOn (s : State) (id : Nat) : Bool := s.domOn id && !(s.pwr.limp && (id == 2 || id == 3))

/-- Home domain of a diagnostic item on its tile (09 R278); a reserved item reads 0 and lies with the register itself. -/
def diagHome (item : Nat) : Nat :=
  if item < 0x28 ∨ (0x100 ≤ item ∧ item < 0x140) then 3 else if 0x200 ≤ item ∧ item < 0x20A then 4
  else if 0x300 ≤ item ∧ item < 0x320 then 1 else 5

/-- The value of a diagnostic item on this tile (09 R278, R279); reading it clears nothing. -/
def diagValue (s : State) (item : Nat) : Nat :=
  if item < 0x28 then (if s.hostDomOn 3 then chnPeek s (0x200 + 4 * item) else 0xFFFF0003)
  else if 0x100 ≤ item ∧ item < 0x140 then (if s.hostDomOn 3 then chnPeek s (4 * (item - 0x100)) else 0xFFFF0003)
  else if 0x200 ≤ item ∧ item < 0x20A then (if s.hostDomOn 4 then crlPeek s (4 * (item - 0x200)) else 0xFFFF0004)
  else if 0x300 ≤ item ∧ item < 0x320 then belCounter s (item - 0x300)
  else if item = 0x400 then
    if s.clk.host then pack [(((Config.ltssm (match s.host.link with
      | .down => 0
      | .training => 1
      | .l0 => 2
      | .l1 => 3
      | .l1_2 => 4
      | .l2l3 => 5)) &&& 0x3F#32).toNat, 0), (s.host.recov, 8)]
    else 0xFFFF0005
  else 0

/-- Home domain of a register (09 R269, the register map). -/
def regHome (s : State) (o : Nat) : Nat :=
  match o with
  | 0x00C => 2
  | 0x014 => 2
  | 0x018 => 1
  | 0x04C => 2
  | 0x050 => 2
  | 0x054 => 2
  | 0x058 => 1
  | 0x05C => 1
  | 0x060 => 1
  | 0x064 => 3
  | 0x068 => 2
  | 0x06C => 2
  | 0x070 => 2
  | 0x078 => 2
  | 0x07C => if s.host.diagTile = 0 then diagHome s.host.diagItem else 5
  | _ => 5

/-- `ERR_STATUS` as a number (09 R272). -/
def errStatus (s : State) : Nat :=
  let h := s.host
  pack [(b2n h.hiwr, 0), (b2n h.narrow, 1), (b2n h.rtblErr, 2), (b2n h.hostrd, 3), (b2n h.parity, 4), (b2n h.offacc, 5),
        (b2n h.wakeFail, 6), (b2n h.dualMis, 7), (b2n h.memberLost, 8)]

/-- Code of the role in `STATUS` and `ARRAY_STATUS`. -/
def roleCode (s : State) : Nat := if s.isRoot then 1 else 0

/-- A register whose home domain is on, as it reads (09 R272). -/
def hostReg (s : State) (o : Nat) : Nat :=
  let h := s.host
  match o with
  | 0x000 => pack [(0x6420, 0), (0x52D1, 16)]
  | 0x004 => 0xA1
  | 0x008 => pack [(64, 0), (64, 7), (32, 15), (8, 21), (16, 25)]
  | 0x00C => if s.boot.fwvalid then pack [(s.boot.level % 256, 0), (s.boot.level / 256, 8), (1, 16)] else 0
  | 0x010 => pack [(b2n s.boot.ready, 0), (roleCode s, 2), (h.gen, 4), (h.width, 6), (b2n (errStatus s != 0), 8),
      (pack ((List.range 5).map (fun i => (b2n (s.domOn (i + 1)), i))), 10)]
  | 0x014 => pack [(b2n (s.rings.en && s.boot.ready), 0), (b2n s.rings.act, 1)]
  | 0x01C => h.rtbl % 2 ^ 32
  | 0x020 => h.rtbl / 2 ^ 32
  | 0x024 => h.dbpg % 2 ^ 32
  | 0x028 => h.dbpg / 2 ^ 32
  | 0x02C => h.stpg % 2 ^ 32
  | 0x030 => h.stpg / 2 ^ 32
  | 0x034 => h.interval
  | 0x03C =>
    let v := h.vecs.getD h.modVec {}
    pack [(v.count, 0), (v.time, 4), (h.modVec, 16)]
  | 0x040 => errStatus s
  | 0x044 => pack [(h.cntParity, 0), (h.cntHostrd, 8), (h.cntLinkrst, 16), (h.cntDropwr, 24)]
  | 0x048 => pack [(h.offCount, 0), (h.offDom, 16)]
  | 0x04C => pack [(roleCode s, 0), (if s.isRoot then s.crl.ntiles else 1, 2), (s.arr.nmap, 9), (b2n s.arr.forming, 16),
      (b2n (s.isRoot && s.crl.openRing), 17)]
  | 0x050 => s.onlineMask % 2 ^ 32
  | 0x054 => s.onlineMask / 2 ^ 32
  | 0x058 => pack [(s.shownState, 0), (b2n s.pwr.busy, 3), (b2n s.pwr.limp, 4), (b2n s.pwr.hold, 5)]
  | 0x05C => s.pwr.floorNext.getD s.pwr.floor
  | 0x060 => pack [(s.pwr.last, 0), (b2n s.pwr.new, 8)]
  | 0x064 => pack [(tc 10 s.cal.tnow, 0), (tc 10 (h.tpeak.getD 0), 16)]
  | 0x068 => s.epoch
  | 0x06C => chnPeek s 0x084 % 256
  | 0x070 => pack [(s.jrn.length, 0), (b2n (s.jrn.length == 512), 10), (b2n s.rings.replay, 11), (h.jrnPeak, 16)]
  | 0x074 => h.scratch.toNat
  | 0x078 => pack [(h.diagItem, 0), (h.diagTile, 16), (b2n h.diagBusy, 31)]
  | 0x07C => if h.diagTile = 0 then diagValue s h.diagItem else h.diagData.toNat
  | _ => 0

/-- A register as the host reads it: 0xFFFF_00nn while its home domain nn is off (09 R269). -/
def regRead (s : State) (o : Nat) : Nat :=
  if s.hostDomOn (regHome s o) then hostReg s o else 0xFFFF0000 + regHome s o

/-- A word of the MSI-X table (09 R258): address, data and the mask bit. -/
def msixWord (s : State) (o : Nat) : Nat :=
  let v := s.host.vecs.getD (o / 16) {}
  match o % 16 with
  | 0 => v.addr % 2 ^ 32
  | 4 => v.addr / 2 ^ 32
  | 8 => v.data
  | _ => b2n v.masked

/-- One byte of BAR0 (09 R267). -/
def barByte (s : State) (a : Nat) : Byte :=
  let w :=
    if a < 0x80 then regRead s (a / 4 * 4)
    else if 0x8000 ≤ a ∧ a < 0x8100 then msixWord s (a / 4 * 4 - 0x8000)
    else if 0x9000 ≤ a ∧ a < 0x9004 then pack ((List.range 16).map (fun v => (b2n (s.host.vecs.getD v {}).pend, v)))
    else 0
  BitVec.ofNat 8 (w / 2 ^ (8 * (a % 4)))

/-- Reading byte `a` clears the RC field it belongs to (09 R268); TPEAK and PEAK start again from the present value. -/
def clearReadByte (s : State) (a : Nat) : State :=
  if !s.hostDomOn (regHome s (a / 4 * 4)) then s
  else match a with
    | 0x044 => { s with host.cntParity := 0 }
    | 0x045 => { s with host.cntHostrd := 0 }
    | 0x046 => { s with host.cntLinkrst := 0 }
    | 0x047 => { s with host.cntDropwr := 0 }
    | 0x048 => { s with host.offCount := 0 }
    | 0x049 => { s with host.offCount := 0 }
    | 0x066 => { s with host.tpeak := some s.cal.tnow }
    | 0x067 => { s with host.tpeak := some s.cal.tnow }
    | 0x072 => { s with host.jrnPeak := s.jrn.length }
    | 0x073 => { s with host.jrnPeak := s.jrn.length }
    | _ => s

/-- A host read of `size` bytes at `off`: the bytes returned, then the RC fields cleared. An unreachable function reads all ones
(09 R271). -/
def hostRead (off size : Nat) (s : State) : State :=
  if !s.hostReach then { s with host.reply := List.replicate size 0xFF#8 }
  else
    let as := (List.range size).map (off + ·)
    as.foldl clearReadByte { s with host.reply := as.map (barByte s) }

/-! ### Writes -/

/-- A write dropped because the home domain is off (09 R269). -/
def offAccess (dom : Nat) (s : State) : State :=
  { s with host.offacc := true, host.offCount := cnt 16 s.host.offCount 1, host.offDom := dom }

/-- The holding latch of a pair (08 R255). -/
def pointerLo (p : PtrPair) (v : Nat) (s : State) : State :=
  match p with
  | .rtbl => { s with host.rtblLo := v / 256 * 256 }
  | .dbpg => { s with host.dbpgLo := v / 4096 * 4096 }
  | .stpg => { s with host.stpgLo := v / 4096 * 4096 }

/-- The rings are disabled (09 R273). -/
def State.ringsDisabled (s : State) : Bool := !s.rings.en && !s.rings.act

/-- A pair takes effect, or the write is dropped while the rings are enabled (08 R255). -/
def pointerHi (p : PtrPair) (v : Nat) (s : State) : State :=
  if !s.ringsDisabled then { s with host.hiwr := true, host.cntDropwr := cnt 8 s.host.cntDropwr 1 }
  else match p with
    | .rtbl => { s with host.rtbl := v * 2 ^ 32 + s.host.rtblLo }
    | .dbpg => { s with host.dbpg := v * 2 ^ 32 + s.host.dbpgLo }
    | .stpg => { s with host.stpg := v * 2 ^ 32 + s.host.stpgLo }

/-- `POLL_NOW` (09 R275): nothing while the rings are disabled. -/
def pollNow (go : Bool) (s : State) : State := if go then pollDoorbell s else s

/-- `MSIX_MOD` (09 R276): COUNT 0 is reserved and keeps each vector's own; it acts on the events that come after it. -/
def msixMod (v : Nat) (s : State) : State :=
  let put (x : Vec) : Vec := { x with count := if fld v 0 4 = 0 then x.count else fld v 0 4, time := fld v 4 10, since := 0 }
  let t := { s with host.modVec := fld v 16 4 }
  if bit v 20 then { t with host.vecs := t.host.vecs.map put } else { t with host.vecs := t.host.vecs.modify (fld v 16 4) put }

/-- CLRLIMP (16 R449): HOLD clears, and a full exit with fresh attempt counts begins when the floor is ACTIVE or IDLE-SCAN. -/
def clearLimp (s : State) : State :=
  if !s.pwr.limp then { s with pwr.hold := false }
  else
    let t := { s with pwr.hold := false, pwr.attempts := 0 }
    if t.pwr.floor < 2 then { t with pwr.busy := true, pwr.target := pstateOf t.pwr.floor, pwr.attemptStep := 0 } else t

/-- `DIAG_SEL` written (09 R279): a member's item is fetched over the ring, and the value last shown stays until it arrives; an offline
tile's fetch ends at once. -/
def diagSel (v : Nat) (s : State) : State :=
  let t := { s with host.diagData := BitVec.ofNat 32 (regRead s 0x07C), host.diagItem := fld v 0 16, host.diagTile := fld v 16 6, host.diagBusy := false }
  let p := fld v 16 6
  if p = 0 then t
  else if !t.isOnline p then { t with host.diagData := 0xFFFFFFFF#32 }
  else sendMsg 1 p (.diag (fld v 0 16)) { t with host.diagBusy := true }

/-- `ERR_STATUS` written: W1C. -/
def errClear (v : Nat) (s : State) : State :=
  let h := s.host
  { s with host.hiwr := h.hiwr && !bit v 0, host.narrow := h.narrow && !bit v 1, host.rtblErr := h.rtblErr && !bit v 2,
           host.hostrd := h.hostrd && !bit v 3, host.parity := h.parity && !bit v 4, host.offacc := h.offacc && !bit v 5,
           host.wakeFail := h.wakeFail && !bit v 6, host.dualMis := h.dualMis && !bit v 7, host.memberLost := h.memberLost && !bit v 8 }

/-- A vector's mask written; clearing it with the pending bit set sends the held message (10 R312). -/
def maskVector (v : Nat) (m : Bool) (s : State) : State :=
  let t := { s with host.vecs := s.host.vecs.modify v (fun x => { x with masked := m }) }
  if !m && (t.host.vecs.getD v {}).pend then sendVector v t else t

/-- A word of the MSI-X table written. -/
def msixTableWrite (o v : Nat) (s : State) : State :=
  let put (f : Vec → Vec) : State := { s with host.vecs := s.host.vecs.modify (o / 16) f }
  match o % 16 with
  | 0 => put (fun x => { x with addr := x.addr / 2 ^ 32 * 2 ^ 32 + v / 4 * 4 })
  | 4 => put (fun x => { x with addr := v * 2 ^ 32 + x.addr % 2 ^ 32 })
  | 8 => put (fun x => { x with data := v })
  | _ => maskVector (o / 16) (bit v 0) s

/-- A 4-byte write to an aligned BAR0 offset (09 R267 to R276, 08 R255). -/
def hostWrite4 (off v : Nat) (s : State) : State :=
  if 0x8000 ≤ off ∧ off < 0x8100 then msixTableWrite (off - 0x8000) v s
  else match off with
    | 0x014 =>
      if !s.hostDomOn 2 then offAccess 2 s else if bit v 0 then ringStart none s else ringStop s
    | 0x018 => if bit v 0 then resetCtl (v / 2 ^ 24) (bit v 1) s else s
    | 0x01C => pointerLo .rtbl v s
    | 0x020 => pointerHi .rtbl v s
    | 0x024 => pointerLo .dbpg v s
    | 0x028 => pointerHi .dbpg v s
    | 0x02C => pointerLo .stpg v s
    | 0x030 => pointerHi .stpg v s
    | 0x034 => if 1000 < fld v 0 10 then s else { s with host.interval := fld v 0 10 }
    | 0x038 => pollNow (bit v 0) s
    | 0x03C => msixMod v s
    | 0x040 => errClear v s
    | 0x05C =>
      let t := setFloor (fld v 0 3) (raise 37 s)
      if bit v 3 then clearLimp t else t
    | 0x060 => { s with pwr.new := s.pwr.new && !bit v 8 }
    | 0x074 => { s with host.scratch := BitVec.ofNat 32 v }
    | 0x078 => if !s.hostDomOn 2 then offAccess 2 s else diagSel v s
    | _ => s

/-- A host write of `size` bytes (09 R268): 4 bytes aligned, or 8 bytes at a register boundary as two, the lower first; any other is
dropped and counted. -/
def hostRegWrite (off size v : Nat) (s : State) : State :=
  if !s.hostReach then s
  else if (size = 4 ∨ size = 8) ∧ off % 4 = 0 then
    let t := hostWrite4 off (v % 2 ^ 32) s
    if size = 8 then hostWrite4 (off + 4) (v / 2 ^ 32 % 2 ^ 32) t else t
  else if off < 0x80 then { s with host.narrow := true, host.cntDropwr := cnt 8 s.host.cntDropwr 1 }
  else s

/-! ### Commands of the register file -/

/-- R268: a write to the register file. -/
def execRegisterWrite (off size v : Nat) (s : State) : Answer := answer s (hostRegWrite off size v s)

/-- R268: a read of the register file. -/
def execHostRegisterRead (off size : Nat) (s : State) : Answer := answer s (hostRead off size s)

/-- A 4-byte write that reaches the function. -/
def hostCmd (f : State → State) (s : State) : Answer := answer s (if s.hostReach then f s else s)

/-- R281: RING_EN := 1. -/
def execRingStart (table : Option HostRead) (s : State) : Answer :=
  hostCmd (fun u => if u.hostDomOn 2 then ringStart table u else offAccess 2 u) s

/-- R525: a pending start proceeds once Bus Master Enable is 1 and the function is in D0. -/
def execRingStartDeferred (table : Option HostRead) (s : State) : Answer :=
  answer s (if !s.rings.startPending || !s.dmaOk then s
    else match table with
      | some r => acceptTable r s
      | none => { s with rings.reads := s.rings.reads ++ [.ringTable], rings.startPending := false })

/-- R273: RING_EN := 0. -/
def execRingStop (s : State) : Answer := hostCmd (fun u => if u.hostDomOn 2 then ringStop u else offAccess 2 u) s

/-- R273: the record write in progress is done and RING_ACT clears. -/
def execRingDrainComplete (s : State) : Answer :=
  answer s (if s.rings.draining then { s with rings.act := false, rings.draining := false } else s)

/-- R255: a _LO register. -/
def execPointerLoWrite (p : PtrPair) (v : Word) (s : State) : Answer := hostCmd (pointerLo p v.toNat) s

/-- R255: a _HI register. -/
def execPointerHiWrite (p : PtrPair) (v : Word) (s : State) : Answer := hostCmd (pointerHi p v.toNat) s

/-- R275: `POLL_NOW`. -/
def execPollNow (go : Bool) (s : State) : Answer := hostCmd (pollNow go) s

/-- R276: `MSIX_MOD`. -/
def execMsixModWrite (v : Word) (s : State) : Answer := hostCmd (msixMod v.toNat) s

/-- R431: `PWR_REQ.STATE`. -/
def execPwrReqStateWrite (st : Nat) (s : State) : Answer := hostCmd (fun u => setFloor (st % 8) (raise 37 u)) s

/-- R449: `PWR_REQ.CLRLIMP`. -/
def execClrlimp (s : State) : Answer := hostCmd (fun u => clearLimp (raise 37 u)) s

/-- R279: `DIAG_SEL`. -/
def execDiagSelWrite (v : Word) (s : State) : Answer :=
  hostCmd (fun u => if u.hostDomOn 2 then diagSel v.toNat u else offAccess 2 u) s

/-- R312: the host clears a vector's mask. -/
def execMsixVectorUnmask (vec : Fin 16) (s : State) : Answer := hostCmd (maskVector vec.val false) s

/-! ### Commands of the link -/

/-- DMA that had stopped resumes with an immediate poll (09 R261), and the reads that waited go out. -/
def resumeDma (was : Bool) (s : State) : State :=
  if was || !s.ringsOk then s
  else pollDoorbell { s with rings.reads := s.rings.reads ++ s.rings.waitReads, rings.waitReads := [] }

/-- R261: a D-state change raises HOST_PM; leaving D0 ends a job of the engine (10 R313). -/
def execPcieDstateChange (d : DState) (s : State) : Answer :=
  answer s (if !s.hostSide || !s.clk.host || s.host.dstate = d then s
    else resumeDma s.dmaOk (raise 31 { (if d = .d0 then s else abortHdma s) with host.dstate := d }))

/-- Pending vectors that neither their own mask nor the function's holds back send their message. -/
def sendUnmasked (s : State) : State :=
  (List.range 16).foldl (fun t v =>
    let x := t.host.vecs.getD v {}
    if x.pend && !x.masked then sendVector v t else t) s

/-- R261: Bus Master Enable; at 0 it ends a job of the engine (10 R313). DESIGN CHOICE (log entry 117): the table has no other row for a
write to configuration space, so this one carries what else the host sets there. -/
def execBusMasterEnableChange (on : Bool) (c : CfgCtl) (s : State) : Answer :=
  answer s (if !s.hostSide || !s.clk.host then s
    else
      let t := if on then s else abortHdma s
      let t := { t with host.bme := on, host.relaxed := c.relaxed, host.cfg := { t.host.cfg with
        bar0 := c.bar0 / 65536 * 65536 % 2 ^ 64, maxPayload := c.maxPayload, maxRead := c.maxRead, msixEn := c.msixEn, msixMask := c.msixMask } }
      resumeDma s.dmaOk (sendUnmasked t))

/-- What a configuration request is answered with. -/
inductive CfgAnswer where
  /-- The link is not up. -/
  | none
  /-- Configuration Request Retry Status. -/
  | retry
  | data (w : Nat)
deriving DecidableEq, Repr

/-- Bit length of a size field of Device Control: 0 for 128 bytes, 1 for 256, and so on. -/
def sizeCode (n : Nat) : Nat := Nat.log2 (n / 128)

/-- The code of an L1 exit latency in Link Capabilities: 0 below 1 µs, then each code up to twice the last, in µs. -/
def latencyCode (us : Nat) : Nat := Nat.min 7 (Nat.log2 (2 * us - 1))

/-- The words of configuration space that the profile gives (09 R258, R260): IDs, Command and Status, class and revision, BAR0, and the
capabilities of the table: PM at 0x40, MSI-X at 0x50, PCI Express at 0x60, AER at 0x100, L1 PM Substates at 0x148 and LTR at 0x158. Their places
and layouts are those of the Base Specification and of common devices (PRESUMED, log entry 117). -/
def cfgWord (s : State) (o : Nat) : Nat :=
  let c := s.host.cfg
  match o with
  | 0x00 => pack [(0x1F9A, 0), (0x6420, 16)]
  | 0x04 => pack [(b2n s.host.bme, 2), (1, 20)]
  | 0x08 => pack [(0xA1, 0), (0x098000, 8)]
  | 0x10 => c.bar0 % 2 ^ 32 / 16 * 16 + 4
  | 0x14 => c.bar0 / 2 ^ 32
  | 0x34 => 0x40
  -- PM: version 3, PME from D3hot and D3cold; the D-state and No_Soft_Reset
  | 0x40 => pack [(0x01, 0), (0x50, 8), (3, 16), (0x18, 27)]
  | 0x44 => pack [(if s.host.dstate = .d0 then 0 else 3, 0), (1, 3)]
  -- MSI-X: 16 vectors, the table at 0x8000 and the PBA at 0x9000 of BAR0
  | 0x50 => pack [(0x11, 0), (0x60, 8), (15, 16), (b2n c.msixMask, 30), (b2n c.msixEn, 31)]
  | 0x54 => 0x8000
  | 0x58 => 0x9000
  -- PCI Express: 256-byte payload, role-based errors, FLR; Device Control; 8.0 GT/s, 2 lanes, ASPM L1 with its exit latency; the link
  | 0x60 => pack [(0x10, 0), (2, 16)]
  | 0x64 => pack [(1, 0), (1, 15), (1, 28)]
  | 0x68 => pack [(b2n s.host.relaxed, 4), (sizeCode c.maxPayload, 5), (sizeCode c.maxRead, 12)]
  | 0x6C => pack [(3, 0), (2, 4), (2, 10), (latencyCode c.l1Exit, 15), (1, 22)]
  | 0x70 => pack [(s.host.gen, 16), (s.host.width, 20)]
  -- completion timeout ranges A and B, LTR; the three rates
  | 0x84 => pack [(3, 0), (1, 4), (1, 11)]
  | 0x8C => 0x0E
  | 0x100 => pack [(0x0001, 0), (2, 16), (0x148, 20)]
  | 0x104 => c.aer
  -- L1.1 and L1.2 of PCI-PM and ASPM, T_POWER_ON in units of 10 µs
  | 0x148 => pack [(0x001E, 0), (1, 16), (0x158, 20)]
  | 0x14C => pack [(0x1F, 0), (1, 16), (c.tPowerOn / 10, 19)]
  | 0x158 => pack [(0x0018, 0), (1, 16)]
  | _ => 0

/-- A configuration read (09 R264). -/
def cfgRead (o : Nat) (s : State) : CfgAnswer :=
  if !(s.hostSide && s.clk.host) || s.host.perst || s.host.link == .down then .none
  else if s.host.crs then .retry else .data (cfgWord s o)

/-- The link is trained and up. -/
def linkUp : LinkState → Bool
  | .l0 => true
  | .l1 => true
  | .l1_2 => true
  | _ => false

/-- R260: the link enters or leaves L1 or L1.2. An exit to L0 passes Recovery, as in the Base Specification (PRESUMED, log entry 117), which
diagnostic item 0x0400 counts (R278). -/
def execLinkPmChange (l : LinkState) (s : State) : Answer :=
  answer s (if s.hostSide && s.clk.host && linkUp s.host.link && linkUp l && s.host.link != l then
      raise 31 { s with host.link := l, host.recov := if l = .l0 then cnt 8 s.host.recov 1 else s.host.recov }
    else s)

/-- The stored image of a dictionary bank: empty entries where VALID is 0 (06 R156). -/
def storedBank (img : List Byte) (valid : Nat) : List Byte :=
  (List.range 32).flatMap (fun i => if bit valid i then padTo 32 ((img.drop (32 * i)).take 32) else zeros 32)

/-- A bank written, with its generation (06 R155). -/
def writeBank (b gen : Nat) (img : List Byte) (s : State) : State :=
  { s with mem := s.mem.write (dictBank b) img, tok.recent := b
           tok.gen0 := if b = 0 then gen else s.tok.gen0, tok.gen1 := if b = 0 then s.tok.gen1 else gen }

/-- The settings copy in use as far as the boot bank goes. -/
def bootCopy (s : State) : List Byte := if s.sets.inUse = 0 then s.sets.copyA else if s.sets.inUse = 1 then s.sets.copyB else []

/-- The boot bank of the settings copy in use, if it names one (17 R473): generation and stored image. -/
def bootBank (s : State) : Option (Nat × List Byte) :=
  let c := bootCopy s
  let g := leAt c 0x1000 2
  if g = 0 then none else some (g, storedBank (padTo 1024 ((c.drop 0x1100).take 1024)) (leAt c 0x1004 4))

/-- The number of the TOKEN_LOAD by which the root mends a member's bank from the boot bank, which no journal entry holds. -/
def bankNum : Nat := 0xFFFFFFFC

/-- A damaged bank is loaded from the boot bank (18 R482), on a member by a TOKEN_LOAD of the root's own. -/
def bankFromBoot (tile b : Nat) (s : State) : State :=
  match bootBank s with
  | none => s
  | some g =>
    if tile = s.tile then writeBank b g.1 g.2 s
    else sendMsg 2 tile (.ctxData 0 bankNum g.2 3) (sendMsg 1 tile (.cmd bankNum
      { opcode := 0x24, ord := false, dfence := false, rsv := false, tag := 0, tile := tile, a0 := 0, a1 := g.1, addr := 0
        p0 := leAt (bootCopy s) 0x1004 4, p1 := 0, p2 := 0, p3 := 0 }) s)

/-- The image of a RETAINED entry has been read again (10 R303): checked against the CRC-32 held, it goes to the tile; a failed read or
another image frees the entry and posts RETAIN_LOST, and a bank then comes from the boot bank (18 R482). -/
def takeRetained (c tile : Nat) (r : HostRead) (s : State) : State :=
  let t := countFailedRead r { s with rings.reads := s.rings.reads.filter (· != .retained c tile) }
  match t.jrn.find? (fun e => e.cmd == c && e.stage == .retained) with
  | none => t
  | some e =>
    let lost (bad : Bool) : State :=
      let u := postEvent 0x14 (pack [(e.d.opcode, 0), (tile, 8), (b2n bad, 16)]) 0 { t with jrn := t.jrn.filter (· != e) }
      if e.d.opcode = 0x24 then bankFromBoot tile (e.bankOf tile) u else u
    match r with
    | .ok b =>
      let img := padTo (if e.d.opcode = 0x24 then 1024 else e.d.p0) b
      if crc32 img ≠ e.imgCrc then lost false
      else if tile = 0 then { t with mem := t.mem.write (dictBank (e.bankOf 0)) (storedBank img e.d.p0), tok.bad := false }
      else sendMsg 2 tile (.ctxData 0 e.cmd img 3) (sendMsg 1 tile (.cmd e.cmd e.d) t)
    | _ => lost true

/-- The descriptor of a damaged entry has been read again, and the entry starts afresh; a failed read ends it with HOST_READ (10 R303). -/
def takeRefetch (j : Nat) (r : HostRead) (s : State) : State :=
  let t := countFailedRead r { s with rings.reads := s.rings.reads.filter (· != .refetch j) }
  match t.entry j with
  | none => t
  | some e =>
    if e.wait ≠ .refetch then t
    else match r with
      | .ok b => t.setEntry j (fun x => { x with d := descOf (padTo 32 b), wait := .start })
      | _ => finish j 0x06 0 0 0 t

/-- A flush read of an entry has returned: the completion may be written, or the FENCE is done (10 R297, R299); HDMA_DONE
(14 R391). -/
def flushDone (e : JEntry) (s : State) : State :=
  let s := raise 28 s
  if e.stage = .issued then finish e.cmd 0 0 0 0 (s.setEntry e.cmd (fun x => { x with flushed := true }))
  else s.setEntry e.cmd (fun x => { x with wait := .start, flushed := true })

/-- A stream descriptor that the host has given is to be read (10 R309). -/
def State.descWaits (s : State) : Bool := s.ringsOk && s.rings.str.base != 0 && s.rings.strPi != s.strm.next

/-- A failed completion that no read of the list waits for: it is counted (10 R313). It is a flush read's, whose writes lie behind it all the
same (R299), or that of a stream descriptor, which is read again (log entry 131). -/
def failOther (r : HostRead) (s : State) : State :=
  match s.jrn.find? (fun e => e.wait == .fence && e.stage != .retained) with
  | some e => flushDone e (countFailedRead r s)
  | none => if s.descWaits || (s.hdma.pbusy && s.hdma.afterFlush) then countFailedRead r s else s

/-- The doorbell read failed: the poll that was owed follows it (09 R275). -/
def failDoorbell (r : HostRead) (s : State) : State :=
  let t := countFailedRead r { s with rings.reads := s.rings.reads.filter (· != .doorbell), rings.pollAgain := false }
  if s.rings.pollAgain then pollDoorbell t else t

/-- The oldest outstanding read of the ring table, of descriptors, of a retained image or of a damaged entry ends; a failure with none of these out is the
doorbell read's, or that of another kind of read (10 R293, R313). -/
def endTableRead (r : HostRead) (s : State) : State :=
  match s.outReads.find? (· != .doorbell) with
  | some .ringTable => acceptTable r s
  | some (.descs n) => takeDescs n r s
  | some (.retained c t) => takeRetained c t r s
  | some (.refetch j) => takeRefetch j r s
  | _ => match r with
    | .ok _ => s
    | _ => if s.outReads.contains .doorbell then failDoorbell r s else failOther r s

/-- R258, R293: the oldest outstanding device read times out. -/
def execPcieCompletionTimeout (s : State) : Answer :=
  answer s (match s.outReads with
    | [] => failOther .timeout s
    | .doorbell :: _ => failDoorbell .timeout s
    | _ => endTableRead .timeout s)

/-- R281, R293: a completion for a read of the ring table or of descriptors. -/
def execHostReadCompletion (r : HostRead) (s : State) : Answer := answer s (endTableRead r s)

/-- R264: training completes and the link comes up; rates 1 to 3, widths 1 and 2. -/
def execPcieLinkUp (gen width : Nat) (s : State) : Answer :=
  answer s (if s.hostSide && s.clk.host && !s.host.perst && decide (1 ≤ gen ∧ gen ≤ 3 ∧ 1 ≤ width ∧ width ≤ 2) && !linkUp s.host.link then
    sendLtr { s with host.link := .l0, host.gen := gen, host.width := width, host.crs := false } else s)

end Sys2Proof.Machine
end

