-- ==== Sys2Proof/Machine/Journal.lean ====
section
/-! DEFINITION. The commands of the rings (10 R275 to R313): polls, fetches, completions, events, reports, the status page and the host
DMA engine; and how a command's parts on several tiles are started, answered and summed. -/

namespace Sys2Proof.Machine

/-! ### Parts of a command -/

/-- RESULT0 of this opcode is summed over the tiles (10 R292). -/
def summed (op : Nat) : Bool := op == 0x10 || op == 0x21 || op == 0x22

/-- One tile's part of a command of the journal is final (10 R293). A sum adds; otherwise the results are those of the failing tile with
the lowest number, or of the root's own part, or of the one tile named. -/
def tilePart (j tile code r0 r1 : Nat) (s : State) : State :=
  match s.entry j with
  | none => s
  | some e =>
    if e.stage ≠ .issued || !e.tiles.contains tile then s
    else
      let lower := code ≠ 0 && (e.code = 0 || tile < e.ctile)
      let own := code = 0 && e.code = 0 && (tile = 0 || e.d.tile ≠ 0xFF)
      let e1 := { e with
        tiles := e.tiles.filter (· != tile)
        code := if lower then code else e.code
        ctile := if lower then tile else e.ctile
        r0 := if summed e.d.opcode then e.r0 + r0 else if lower || own then r0 else e.r0
        r1 := if summed e.d.opcode then e.r1 else if lower || own then r1 else e.r1 }
      let t := s.setEntry j (fun _ => e1)
      if e1.tiles.isEmpty then finish j e1.code e1.r0 e1.r1 e1.ctile t else t

/-- This tile's part of command `num` is final: to the journal at the root, by a CPL message from a member (10 R295). -/
def partDone (num code r0 r1 : Nat) (s : State) : State :=
  if s.isMember then sendMsg 1 0 (.cpl num code r0 r1) s else tilePart num 0 code r0 r1 s

/-- The parts of a command start: this tile's own by `own`, a member's by a CMD message (10 R295). -/
def startParts (e : JEntry) (w : JWait) (own : State → State) (s : State) : State :=
  let ts := s.selected e.d
  let t := s.setEntry e.cmd (fun x => { x with tiles := ts, wait := w, code := 0, r0 := 0, r1 := 0, ctile := 0 })
  let t := ts.foldl (fun u p => if p = 0 then u else forward e.cmd p e.d u) t
  if ts.contains 0 then own t else t

/-! ### Polls and fetches -/

/-- R275: the interval poll, in ACTIVE only; an INTERVAL of 0 turns it off. -/
def execDoorbellPoll (s : State) : Answer :=
  answer s (if s.pwr.state = .active ∧ s.host.interval ≠ 0 then pollDoorbell s else s)

/-- The EVT ring has room, judged against the last EVT_CI polled. -/
def State.evtRoom (s : State) : Bool := diff32 s.rings.evtPi s.rings.evtCi < s.rings.evt.size

/-- Records are held for a full ring (10 R287): reports, events of the buffer, or the event that a post of core 0 left with FULL. -/
def State.recordsHeld (s : State) : Bool :=
  !s.rpt.hold.isEmpty ||
  ((decide (s.evt.written < s.evt.buf.length) || (s.hdma.presult == 1 && s.hdma.ring == 4)) && !s.evtRoom)

/-- R287: the poll while records are held for a full RPT or EVT ring. -/
def execFullRingPoll (s : State) : Answer := answer s (if s.recordsHeld then pollDoorbell s else s)

/-- R286: the doorbell read returns; a replay that waited for it follows (R303). While the rings drain it is only the end of that read. -/
def execDoorbellReadComplete (cmdPi strPi cplCi rptCi evtCi : Nat) (s : State) : Answer :=
  answer s (if !s.outReads.contains .doorbell then s
    else
      let t := { s with rings.reads := s.rings.reads.filter (· != .doorbell), rings.pollAgain := false }
      if !s.rings.act || s.rings.draining then t
      else
      let u := takeDoorbell (cmdPi % 2 ^ 32) (strPi % 2 ^ 32) (cplCi % 2 ^ 32) (rptCi % 2 ^ 32) (evtCi % 2 ^ 32) t
      let v := if u.rings.replayDue && u.ringsOk then endReplay (replayRings u) else u
      if s.rings.pollAgain then pollDoorbell v else v)

/-- A read of descriptors is outstanding. -/
def State.fetching (s : State) : Bool := s.rings.reads.any (fun r => match r with
  | .descs _ => true
  | _ => false)

/-- R301: descriptors are fetched, at once or by a read left outstanding. -/
def execDescriptorFetch (data : Option HostRead) (s : State) : Answer :=
  answer s (if s.fetchable = 0 || s.fetching || !s.readOk then s
    else match data with
      | some r => takeDescs s.fetchable r s
      | none => { s with rings.reads := s.rings.reads ++ [.descs s.fetchable] })

/-! ### Commands without a tile's work, and completions -/

/-- R292: NOP completes at once. -/
def execNop (j : Nat) (s : State) : Answer := runCommand 0x00 j (fun _ u => finish j 0 0 0 0 u) s

/-- A zero-length flush read of an address goes out (10 R299). -/
def flushRead (a : Nat) (s : State) : State := { s with out.flushes := s.out.flushes ++ [a] }

/-- Every entry before this one is POSTED (10 R297). -/
def earlierPosted (s : State) (j : Nat) : Bool :=
  ((s.jrn.filter (·.stage != .retained)).takeWhile (fun x => x.cmd != j)).all (·.stage == .posted)

/-- R297: a FENCE flushes once every earlier entry is POSTED; with Relaxed Ordering disabled there is no flush (R299). -/
def execFence (j : Nat) (s : State) : Answer :=
  runCommand 0x01 j (fun e u =>
    if !earlierPosted u j || !u.ringsOk || !u.flushOk then u
    else if u.host.relaxed then setWait j .fence (flushRead (u.rings.cpl.slot 16 e.cpl) u)
    else finish j 0 0 0 0 u) s

/-- R299: a flush read returns. -/
def execFlushReadComplete (j : Nat) (s : State) : Answer :=
  answer s (match s.entry j with
    | none => s
    | some e =>
      if e.wait ≠ .fence then s else flushDone e s)

/-- R300: the completion of an APPLIED entry; with DFENCE the flush comes first. Core 0 writes it, in service (18 R484). -/
def execCompletionPost (j : Nat) (s : State) : Answer :=
  answer s (match s.entry j with
    | none => s
    | some e =>
      if e.stage ≠ .applied || e.wait ≠ .start || !s.ringsOk || !s.fwRuns then s
      else if e.d.dfence && s.host.relaxed && !e.flushed then
        if !s.flushOk then s else setWait j .fence (flushRead (s.rings.cpl.slot 16 e.cpl) s)
      else endReplay (writeCompletion e s))

/-- R368: MAILBOX_SEND on this tile. -/
def mailboxSendOwn (num : Nat) (d : Desc) (s : State) : State :=
  partDone num 0 0 0 (pushPair .c0 (BitVec.ofNat 32 d.p0) (BitVec.ofNat 32 d.p1) s)

/-- R368: MAILBOX_SEND. -/
def execMailboxSend (j : Nat) (s : State) : Answer :=
  runCommand 0x41 j (fun e u => startParts e .member (mailboxSendOwn j e.d) u) s

/-- The piece or image that a command sent again needs, when the root still holds it. -/
def resendImage (e : JEntry) (tile : Nat) (s : State) : State :=
  match assoc s.ctx.pieces e.cmd with
  | none => s
  | some p =>
    if e.d.opcode = 0x10 then (if e.wait = .member then sendMsg 2 tile (.ctxData (fld e.d.a0 0 3) e.d.p0 p 0) s else s)
    else sendMsg 2 tile (.ctxData 0 e.cmd p (if e.wait = .check then 5 else 3)) s

/-- The root keeps the piece or image of a command until the command has ended. -/
def keepPiece (j : Nat) (b : List Byte) (s : State) : State :=
  let running (k : Nat) : Bool := (s.entry k).any (fun e => e.stage == .issued)
  { s with ctx.pieces := s.ctx.pieces.filter (fun p => p.1 != j && running p.1) ++ [(j, b)] }

/-- A tile's part of a command is sent again, whose output starts afresh (10 R295, R303). -/
def resend (e : JEntry) (tile : Nat) (s : State) : State :=
  resendImage e tile (forward e.cmd tile e.d (s.setEntry e.cmd (fun x => { x with r1 := if x.d.opcode = 0x30 then 0 else x.r1 })))

/-- What the root tracks of a command's update or reset of a member has ended with it. -/
def endMember (j : Nat) (s : State) : State :=
  { s with arr.fwUpdate := s.arr.fwUpdate.filter (fun u => u.1 != j), arr.resetMember := s.arr.resetMember.filter (fun r => r.1 != j) }

/-- R295: a forwarded command unanswered for 20 ms: sent once more when Idem, else TIMEOUT. -/
def execForwardTimeout (j tile : Nat) (s : State) : Answer :=
  answer s (match s.entry j with
    | none => s
    | some e =>
      if e.stage ≠ .issued || tile = 0 || !e.tiles.contains tile || !s.isOnline tile then s
      else if ((opInfo e.d.opcode).map (·.idem)).getD false && !e.resent.contains tile then
        resend e tile (s.setEntry j (fun x => { x with resent := x.resent ++ [tile] }))
      else endMember j (tilePart j tile 0x08 0 0 s))

/-! ### Status page and MSI-X -/

/-- R289: the status page after a batch of ring writes that changed an index. -/
def execStatusPageWrite (s : State) : Answer :=
  answer s (if s.rings.dirty || s.host.vecs.any (·.due) then writeStatusPage false s else s)

/-- R289: the 100 ms status page in DRONE. -/
def execStatusPageTimer (s : State) : Answer := answer s (if s.pwr.state = .drone then writeStatusPage true s else s)

/-- R276: the TIME under which a vector's first timed event came expires; the message still waits for the status page that covers the
records (R312). -/
def execMsixTimeLimit (vec : Fin 16) (s : State) : Answer :=
  let v := s.host.vecs.getD vec.val {}
  answer s (if v.unsignalled = 0 || v.limit = 0 then s
    else
      let t := { s with host.vecs := s.host.vecs.modify vec.val (fun x => { x with due := true }) }
      if s.rings.dirty then t else sendVector vec.val t)

/-! ### Events -/

/-- The 16 bytes of an event (10 R308). -/
def eventBytes (r : RingCfg) (seq idx : Nat) (e : Ev) : List Byte :=
  leBytes 1 e.code ++ leBytes 1 (e.tile % 64) ++ leBytes 2 seq ++ leBytes 4 e.epoch ++ leBytes 4 e.d0 ++
  leBytes 4 (pack [(e.d1 % 2 ^ 31, 0), (phaseOf r.log2n idx, 31)])

/-- R307: the oldest unwritten event is written; a full ring is polled at once (R287). Core 0 writes it, in service (18 R484). -/
def execEventWrite (s : State) : Answer :=
  answer s (if !s.ringsOk || !s.fwRuns then s
    else match s.evt.buf[s.evt.written]? with
      | none => s
      | some e => if !s.evtRoom then pollDoorbell s else
        let r := s.rings.evt
        let t := hostWrite (r.slot 16 s.rings.evtPi) (eventBytes r s.evt.seq s.rings.evtPi e) false s
        countRecord r { t with evt.written := t.evt.written + 1, evt.seq := (t.evt.seq + 1) % 65536,
                               rings.evtPi := add32 t.rings.evtPi 1, rings.dirty := true })

/-! ### Reports -/

/-- A report image falls due (10 R305); before the first ring start after a journal clear it is discarded (19 R502). -/
def reportDue (r : RptImg) (s : State) : State := if s.rings.tableValid then { s with rpt.due := s.rpt.due ++ [r] } else s

/-- The order of the hold: the oldest epoch first, the lower tile on a tie (10 R306). -/
def heldBefore (a b : RptImg) : Bool := later b.epoch a.epoch || (a.epoch == b.epoch && a.tile < b.tile)

/-- The held report that is first in that order. -/
def oldestHeld (l : List RptImg) : Option RptImg := l.foldl (fun best r => match best with
  | none => some r
  | some b => if heldBefore r b then some r else some b) none

/-- The hold has room for what it lists (10 R306, R310). -/
def holdFits (s : State) (l : List RptImg) : Bool :=
  if s.isRoot then decide (l.length ≤ 64) && decide ((l.map (·.nrec)).sum ≤ 960) else decide (l.length ≤ 1)

/-- Held reports are discarded, oldest first, until the rest fits; RPT_LOST wraps (R288). -/
def trimHold : Nat → State → State
  | 0, s => s
  | n + 1, s =>
    if holdFits s s.rpt.hold then s
    else match oldestHeld s.rpt.hold with
      | none => s
      | some r => trimHold n { s with rpt.hold := s.rpt.hold.filter (fun x => !(x.tile == r.tile && x.epoch == r.epoch)),
                                      rpt.lost := add32 s.rpt.lost 1 }

/-- The held reports as they lie in the capture staging region (10 R310): on a root the headers from 0x2_0000, their records after the room
for 64 headers; one report on a standalone device. Their order on a root is the model's choice (log entry 119). -/
def storeHold (s : State) : State :=
  let imgs := s.rpt.hold.map (fun r => (padTo 64 (r.image.take 64), padTo (32 * r.nrec) (r.image.drop 64)))
  if s.isRoot then
    { s with mem := (s.mem.write (captureStaging + 0x20000) (imgs.flatMap (·.1))).write (captureStaging + 0x21000) (imgs.flatMap (·.2)) }
  else { s with mem := s.mem.write (captureStaging + 0x800) ((s.rpt.hold.take 1).flatMap (fun r => padTo 2112 r.image)) }

/-- A report joins the hold; a newer one of the same tile replaces the one held (10 R306). -/
def holdReport (r : RptImg) (s : State) : State :=
  let again := s.rpt.hold.any (·.tile == r.tile)
  let t := if !again then s
    else
      let first := match s.rpt.hold.find? (·.tile == r.tile) with
        | some x => if s.rpt.episode = 0 then x.epoch else s.rpt.firstLost
        | none => s.rpt.firstLost
      { s with rpt.lost := add32 s.rpt.lost 1, rpt.episode := cnt 32 s.rpt.episode 1, rpt.firstLost := first,
               rpt.overrun := s.rpt.overrun.filter (· != r.tile) ++ [r.tile] }
  storeHold (trimHold 66 { t with rpt.hold := t.rpt.hold.filter (·.tile != r.tile) ++ [r] })

/-- The RPT_OVERRUN event once the hold is empty (10 R306). -/
def endEpisode (s : State) : State :=
  if s.rpt.hold.isEmpty && s.rpt.episode != 0 then
    postEvent 0x0B s.rpt.episode (s.rpt.firstLost % 2 ^ 31) { s with rpt.episode := 0 }
  else s

/-- A report written into the next RPT slot: the records first, the header last (10 R305), with POST_US, OVERRUN and PHASE. -/
def writeReport (postUs : Nat) (r : RptImg) (s : State) : State :=
  let c := s.rings.rpt
  let i := s.rings.rptPi
  let ovr := s.rpt.overrun.contains r.tile
  let img := patch r.image 0x12 (leBytes 2 (Nat.min postUs 0xFFFF))
  let img := if ovr then patch img 0x08 [(img.getD 0x08 0) ||| 0x40#8] else img
  let img := patch img 0x3C (leBytes 4 (phaseOf c.log2n i))
  let t := hostWrite (c.slot 2112 i + 64) (img.drop 64) true s
  let t := hostWrite (c.slot 2112 i) (img.take 64) false t
  countRecord c { t with rings.rptPi := add32 i 1, rings.dirty := true, rpt.overrun := t.rpt.overrun.filter (· != r.tile) }

/-- The RPT ring has room, judged against the last RPT_CI polled. -/
def State.rptRoom (s : State) : Bool := diff32 s.rings.rptPi s.rings.rptCi < s.rings.rpt.size

/-- R305, R306: the next report: a held one first; with the ring full or stopped the report that has fallen due is held. -/
def execReportPost (postUs : Nat) (s : State) : Answer :=
  answer s (if s.ringsOk && s.rptRoom then
      match oldestHeld s.rpt.hold with
      | some r => endEpisode (writeReport postUs r { s with
          rpt.hold := s.rpt.hold.filter (fun x => !(x.tile == r.tile && x.epoch == r.epoch)) })
      | none => match s.rpt.due with
        | [] => s
        | r :: rest => writeReport postUs r { s with rpt.due := rest }
    else match s.rpt.due with
      | [] => s
      | r :: rest =>
        let t := holdReport r { s with rpt.due := rest }
        if t.ringsOk then pollDoorbell t else t)

/-! ### Host DMA engine (10 R313) -/

/-- A byte range within code SRAM, data SRAM or frame SRAM. -/
def inSram (a n : Nat) : Bool :=
  decide (codeBase ≤ a ∧ a + n ≤ codeBase + 0x40000) || decide (dataBase ≤ a ∧ a + n ≤ dataBase + 0x20000) ||
  decide (frameBase ≤ a ∧ a + n ≤ frameBase + 0xC0000)

/-- A job ends: RESULT, XFER and DONE, which raises HDMA_DONE. -/
def endJob (result moved : Nat) (s : State) : State :=
  raise 28 { s with hdma.busy := false, hdma.done := true, hdma.result := result, hdma.xfer := moved }

/-- `HDMA_CTL` written by core 0. -/
def hdmaCtl (v : Nat) (s : State) : State :=
  let t := { s with hdma.dir := bit v 1, hdma.flush := bit v 2, hdma.ro := bit v 3, hdma.done := s.hdma.done && !bit v 5 }
  if !bit v 0 || s.hdma.busy then t
  else if !inSram t.hdma.laddr t.hdma.len || !t.dmaOk then endJob 5 0 t
  else { t with hdma.busy := true }

/-- The ring index a post writes: for CPL the one whose low 16 bits INDEX gives. -/
def postIndex (s : State) : Nat :=
  if s.hdma.ring = 4 then s.rings.evtPi
  else add32 s.rings.cplPi ((s.hdma.index + 65536 - s.rings.cplPi % 65536) % 65536)

/-- The address of that slot. -/
def postSlot (s : State) : Nat := (if s.hdma.ring = 4 then s.rings.evt else s.rings.cpl).slot 16 (postIndex s)

/-- `HDMA_POST` written by core 0: ignored while BUSY; a full EVT ring ends the post with FULL and is polled at once (R287). -/
def hdmaPost (v : Nat) (s : State) : State :=
  if s.hdma.pbusy then s
  else
    let t := { s with hdma.ring := if fld v 0 3 = 1 ∨ fld v 0 3 = 4 then fld v 0 3 else s.hdma.ring,
                      hdma.afterFlush := bit v 5, hdma.index := fld v 16 16 }
    if !bit v 3 then t
    else if !t.ringsOk then { t with hdma.presult := 2 }
    else if t.hdma.ring = 4 && !t.evtRoom then pollDoorbell { t with hdma.presult := 1 }
    else
      let u := { t with hdma.pbusy := true }
      if u.hdma.afterFlush && u.host.relaxed then flushRead (postSlot u) u else u

/-- The four words of the record with the phase value of the index in bit 31 of the last. -/
def postBytes (s : State) (log2n i : Nat) : List Byte :=
  let w (k : Nat) : Nat := (s.hdma.recs.getD k 0).toNat
  leBytes 4 (w 0) ++ leBytes 4 (w 1) ++ leBytes 4 (w 2) ++ leBytes 4 (w 3 % 2 ^ 31 + 2 ^ 31 * phaseOf log2n i)

/-- The record written: CPL_PI moves over every consecutive written slot, EVT_PI by 1; a posted event stays in core 0's buffer until
the host has consumed it (10 R307). One that finds the buffer full is dropped and counted like any other event, and the post ends as aborted
(log entry 131). -/
def postRecord (s : State) : State :=
  let i := postIndex s
  if s.hdma.ring = 4 then
    let w (k : Nat) : Nat := (s.hdma.recs.getD k 0).toNat
    let e : Ev := { code := w 0 % 256, tile := w 0 / 256 % 64, epoch := w 1, d0 := w 2, d1 := w 3 % 2 ^ 31 }
    if 64 ≤ s.evt.buf.length then { bufferEvent e s with hdma.presult := 2 } else
    let t := hostWrite (s.rings.evt.slot 16 i) (postBytes s s.rings.evt.log2n i) false s
    countRecord t.rings.evt { t with
      rings.evtPi := add32 i 1, rings.dirty := true, evt.written := t.evt.written + 1
      evt.buf := t.evt.buf.take t.evt.written ++ [e] ++ t.evt.buf.drop t.evt.written }
  else
    let t := hostWrite (s.rings.cpl.slot 16 i) (postBytes s s.rings.cpl.log2n i) (!s.hdma.afterFlush) s
    let t := countRecord t.rings.cpl { t with
      jrn := t.jrn.map (fun e => if e.cpl == i && e.stage == .applied then { e with stage := .posted, redo := false } else e) }
    endReplay <| advanceCplPi 512 { t with rings.cplWritten := t.rings.cplWritten ++ [i] }

/-- R313: `HDMA_CTL`; with the HOST domain off core 0's store raises DATA_BUS (12 R344). -/
def execHdmaJobStart (v : Word) (s : State) : Answer := answer s (offStore (s.clk.host && s.hostSide) 0x40090000 (hdmaCtl v.toNat) s)

/-- R313: a job ends. A read job has moved its bytes into core memory, a write job its bytes to the host, with a flush after the last. With no requests permitted it ends as aborted. -/
def execHdmaJobDone (e : HdmaEnd) (s : State) : Answer :=
  answer s (if !s.hdma.busy || 6 ≤ e.result then s
    else
      let res := if s.dmaOk then e.result else 5
      let n := if res = 0 then s.hdma.len else Nat.min e.moved s.hdma.len
      let host := s.hdma.haddrHi.toNat * 2 ^ 32 + s.hdma.haddrLo.toNat
      let t := if s.hdma.dir then
          let u := hostWrite host (s.mem.read s.hdma.laddr n) s.hdma.ro s
          if s.hdma.flush && res = 0 && s.host.relaxed then flushRead (host + (n - 1)) u else u
        else s.put s.hdma.laddr (padTo n e.data)
      let t := if s.hdma.dir then t
        else countFailedRead (match res with
          | 1 => .ur
          | 2 => .ca
          | 3 => .poison
          | 4 => .timeout
          | _ => .ok []) t
      endJob res n t)

/-- R313: `HDMA_POST`. -/
def execHdmaPost (v : Word) (s : State) : Answer := answer s (offStore (s.clk.host && s.hostSide) 0x40090030 (hdmaPost v.toNat) s)

/-- R313: a record post ends: written, or aborted. -/
def execHdmaPostDone (ok : Bool) (s : State) : Answer :=
  answer s (if !s.hdma.pbusy then s
    else if ok && s.ringsOk then { postRecord { s with hdma.presult := 0 } with hdma.pbusy := false }
    else { s with hdma.pbusy := false, hdma.presult := 2 })

end Sys2Proof.Machine
end

