-- ==== Sys2Proof/Machine/Panel.lean ====
section
/-! DEFINITION. The panel as a context describes it: the electrode map (02 R33 to R36) and the scan fields of the context image. -/

namespace Sys2Proof.Machine

/-- The electrode map entry of a pin in a slot. -/
def State.mapEntry (s : State) (slot pin : Nat) : Nat := s.ctxField slot (0x040 + 2 * pin) 2

/-- ROLE of a map entry: 0 unused, 1 drive, 2 sense, 3 shield follower. -/
def mapRole (e : Nat) : Nat := fld e 0 2
/-- LINE of a map entry. -/
def mapLine (e : Nat) : Nat := fld e 2 8
/-- EXCL of a map entry. -/
def mapExcl (e : Nat) : Bool := bit e 15

/-- The map of a slot as a list, read once. -/
def State.mapList (s : State) (slot : Nat) : List Nat := (List.range 320).map (s.mapEntry slot)

/-- Number of lines of a role. -/
def countRole (m : List Nat) (role : Nat) : Nat := (m.filter (fun e => mapRole e == role)).length

/-- The pin of line `l` of a role in a map. -/
def pinOf (m : List Nat) (role l : Nat) : Option Nat :=
  (List.range 320).find? (fun n => mapRole (m.getD n 0) == role && mapLine (m.getD n 0) == l)

/-- The pins of a role in the order of their lines. -/
def pinsOf (m : List Nat) (role : Nat) : List Nat := (List.range (countRole m role)).map (fun l => (pinOf m role l).getD 0)

/-- D of a slot (02 R34). -/
def State.dLines (s : State) (slot : Nat) : Nat := countRole (s.mapList slot) 1
/-- S of a slot. -/
def State.sLines (s : State) (slot : Nat) : Nat := countRole (s.mapList slot) 2

end Sys2Proof.Machine
end

