-- ==== Sys2Proof/Machine/Frames.lean ====
section
/-! DEFINITION. Frames and line status: frame lengths (03 R57), the store header (03 R68), line-status codes and their events (02 R49 to
R53), and the parameters that a frame was scanned under. -/

namespace Sys2Proof.Machine

/-- Frame length of a FRAME_RATE code in µs (03 R57). -/
def frameUs (r : Nat) : Nat := if r = 0 then 2000 else if r = 1 then 4000 else if r = 2 then 8000 else 16667

/-- Frames of a line test (02 R50). -/
def ltFrames (r : Nat) : Nat := if r = 0 then 5 else if r = 1 then 3 else if r = 2 then 2 else 1

/-! ### Line-status codes -/

/-- Codes 0x1 to 0x7: the line is faulted (02 R51). -/
def codeBad (c : Nat) : Bool := decide (1 ≤ c ∧ c ≤ 7)

/-- Codes 0x1 to 0x5 and 0x7: the line is held and its Reed output discarded (02 R49); its self delta is replaced (04 R101). -/
def codeHeld (c : Nat) : Bool := decide (1 ≤ c ∧ c ≤ 5) || c == 7

/-- Codes that leave the pin at high-impedance (02 R49). -/
def codeFloats (c : Nat) : Bool := decide (2 ≤ c ∧ c ≤ 4)

def State.codeOf (s : State) (pin : Nat) : Nat := s.elec.code.getD pin 0xF

/-- A pin's line is faulted in a frame; it is held in a frame, its Reed output discarded. -/
def Frame.bad (f : Frame) (pin : Nat) : Bool := f.faults.any (fun x => x.1 == pin)
def Frame.held (f : Frame) (pin : Nat) : Bool := f.faults.any (fun x => x.1 == pin && codeHeld x.2)

/-- An injection frame (`false`) or a verify frame (`true`) (05 R121, R123). -/
def Frame.injection (f : Frame) (verify : Bool) : Bool := match f.kind with
  | .inject v _ => v == verify
  | _ => false

/-- The tile posts no reports, stream blocks or fragments for the frame (05 R120, 02 R50); a frame of a group recalibration is reported
(05 R144). -/
def Frame.silent (f : Frame) : Bool := match f.kind with
  | .normal => false
  | .inject _ _ => !f.recal
  | _ => true

/-- The chain is under injection in a frame of this kind (05 R121). -/
def FrameKind.injects (k : FrameKind) (c : Nat) : Bool := match k with
  | .inject _ cs => cs.contains c
  | _ => false

/-- The faulted pins now, for a frame that starts. -/
def State.faultsNow (s : State) : List (Nat × Nat) := (List.zip (List.range 320) s.elec.code).filter (fun x => codeBad x.2)

/-- The line-fault event of a change (02 R53): for code 0x6 set or cleared at most once per pin in any 100 frames. -/
def faultEvent (pin old new : Nat) (s : State) : State :=
  let post (t : State) : State := postEvent 0x01 (pack [(pin, 0), (new, 12), (old, 16)]) 0 t
  if !codeBad old && !codeBad new then s
  else if new = 6 ∨ (old = 6 ∧ new = 0) then
    match assoc s.elec.satEvt pin with
    | some e => if diff32 s.epoch e < 100 then s else post { s with elec.satEvt := file s.elec.satEvt pin s.epoch }
    | none => post { s with elec.satEvt := file s.elec.satEvt pin s.epoch }
  else post s

/-- A pin's line-status code changes: CHG, its source and the event (02 R53, R54). -/
def setCode (pin new : Nat) (s : State) : State :=
  let old := s.codeOf pin
  if old = new then s
  else
    let t := { s with elec.code := s.elec.code.set pin new, elec.faultChg := true }
    let t := if s.elec.faultChg then t else raise 14 t
    faultEvent pin old new t

/-! ### The store header of a frame (03 R68) -/

def hdrBase (e : Nat) : Nat := stepStore e + 150400
def statusBase (e : Nat) : Nat := stepStore e + 149376
def selfBase (e : Nat) : Nat := stepStore e + 147456

/-- What a frame was scanned under, as its store header records it (03 R69). -/
structure Params where
  ctx : Nat
  kp : Nat
  ks : Nat
  cs : Nat
  d : Nat
  s : Nat
  gain : Nat
  amp : Nat
  warmup : Bool
  wMin : Nat
  diverge : Nat
deriving DecidableEq, Repr

/-- The parameters of the frame of epoch `e`. -/
def State.params (s : State) (e : Nat) : Params :=
  let f (o n : Nat) : Nat := s.mem.le (hdrBase e + o) n
  { ctx := f 4 1, kp := f 5 1, ks := f 6 1, cs := f 7 1, d := f 8 1, s := f 9 1, gain := f 10 1, amp := f 11 1,
    warmup := bit (f 12 1) 2, wMin := f 16 2, diverge := f 18 2 }

/-- The header's 128 bytes of a new frame. -/
def headerBytes (e : Nat) (p : Params) : List Byte :=
  leBytes 4 e ++ leBytes 1 p.ctx ++ leBytes 1 p.kp ++ leBytes 1 p.ks ++ leBytes 1 p.cs ++ leBytes 1 p.d ++ leBytes 1 p.s ++
  leBytes 1 p.gain ++ leBytes 1 p.amp ++ leBytes 4 (4 * b2n p.warmup) ++ leBytes 2 p.wMin ++ leBytes 2 p.diverge ++ zeros 108

/-- A bit of the header's flags is set. -/
def setHdrFlag (e b : Nat) (s : State) : State :=
  let v := s.mem.le (hdrBase e + 12) 1
  if bit v b then s else { s with mem := s.mem.putLe (hdrBase e + 12) 1 (v + 2 ^ b) }

/-- The effective code set (07 R207): the context's on a standalone device, the map entry's otherwise. -/
def State.codeSet (s : State) (slot : Nat) : Nat :=
  if s.boot.role = .standalone then s.ctxField slot 0x2C3 1 % 64
  else match s.crl.own with
    | some r => if r.codeSet = 0xFF then s.tile else r.codeSet % 64
    | none => s.ctxField slot 0x2C3 1 % 64

/-- The parameters that hold for a frame scanned from now on. -/
def State.liveParams (s : State) (warm : Bool) : Params :=
  let n := s.activeSlot.getD 0
  { ctx := n, kp := s.chn.pri, ks := s.chn.sec, cs := s.codeSet n, d := s.dLines n, s := s.sLines n, gain := s.act 0x2C2 1,
    amp := s.act 0x2C1 1, warmup := warm, wMin := s.act 0x2CD 1, diverge := s.act 0x2CE 2 }

/-! ### The frame being scanned and the frame being processed -/

/-- The frame scanned now is to be discarded, for the first cause found (06 R176). -/
def discardCur (c : Nat) (s : State) : State := { s with chn.cur.dcause := if s.chn.cur.dcause = 0 then c else s.chn.cur.dcause }

/-- The self data of the frame in processing prove bad after its decode: those of before stand, one frame older (04 R104). -/
def selfLost (s : State) : State :=
  let t := { s with chn.prev.selfBad := true }
  match t.elec.selfWas with
  | some w => if w.1 = t.chn.prev.epoch then
      { t with elec.selfOk := false, elec.selfAge := Nat.min 7 (w.2.2.1 + 1), elec.lastSd := w.2.2.2 } else t
  | none => t

/-- The frame in processing is discarded after its decode: the self data are as before it (04 R117). -/
def selfBack (s : State) : State := match s.elec.selfWas with
  | some w => if w.1 = s.chn.prev.epoch then { s with elec.selfOk := w.2.1, elec.selfAge := w.2.2.1, elec.lastSd := w.2.2.2 } else s
  | none => s

/-- The frame in processing is to be discarded. -/
def discardPrev (c : Nat) (s : State) : State :=
  if s.chn.prev.dcause ≠ 0 then s else selfBack { s with chn.prev.dcause := c }

/-- The tile scans (19 R496, 16 R431): AFE on, the frame timer running, a context active, the state ACTIVE or IDLE-SCAN. -/
def State.scans (s : State) : Bool :=
  s.clk.afe && s.clk.core && s.chn.timer && s.activeSlot.isSome && !s.ctx.stopped && !s.ctx.waits && !s.pwr.limp &&
  (s.pwr.state == .active || s.pwr.state == .idleScan)

/-- Pins of a slot's map with a role, in line order, cached for one command. -/
structure PinMap where
  drive : List Nat
  sense : List Nat

def State.pinMap (s : State) (slot : Nat) : PinMap :=
  let m := s.mapList slot
  { drive := pinsOf m 1, sense := pinsOf m 2 }

/-- The tracks of the table, with their indices. -/
def State.tracks (s : State) : List (Nat × Track) :=
  (List.zip (List.range 64) s.trk.tab).filterMap (fun p => p.2.map (fun t => (p.1, t)))

/-- Every track retires without a report, the open counter restarts and the next report carries RESYNC (06 R174); a released contact
that waited completes with NOT_FOUND and the epoch of the frame in processing, in which the tracks retire (05 R141). -/
def retireSilently (s : State) : State :=
  let t := s.cal.releases.foldl (fun u r => partDone r.cmd 0x0D u.chn.prev.epoch 0 u) s
  { t with trk.tab := List.replicate 64 none, trk.openCtr := 0, trk.resync := true, trk.mask := [], trk.blobs := [], trk.prevRecs := [],
           trk.retires := cnt 16 t.trk.retires ((t.tracks.filter (·.2.status == 1)).length), trk.rebuild := false, trk.retireAt := none, cal.releases := [] }

/-- Tracks retire when the frame that starts now is processed (06 R174: at the first frame of a calibration or a line test). -/
def retireHere (s : State) : State := { s with trk.retireAt := some s.epoch }

/-- The first frame under another electrode map comes into processing: the self, water and hover state starts afresh (04 R117). -/
def mapDue (s : State) : State :=
  match s.trk.mapAt with
  | some e =>
    if later e s.chn.prev.epoch then s
    else { s with trk.mapAt := none, trk.wet := false, trk.dryCnt := 0, trk.hoverCand := 0, trk.hoverUp := false, elec.selfAge := 7 }
  | none => s

/-- The frame that comes into processing is the one at which the tracks retire. A line test leaves a reported hover reported (04 R117): its
track goes with the others (06 R174), and the hover opens another after the test (log entry 97). -/
def retireDue (s : State) : State :=
  match s.trk.retireAt with
  | some e =>
    if later e s.chn.prev.epoch then s
    else
      let hover := s.tracks.any (fun t => t.2.cls == 4 && t.2.status == 1)
      { retireSilently s with trk.hoverUp := s.chn.prev.kind == .lineTest && (hover || s.trk.hoverUp) }
  | none => s

end Sys2Proof.Machine
end

