-- ==== Sys2Proof/Machine/Dsp.lean ====
section
/-! DEFINITION. The arithmetic of the step mixer, the transform engine and the DSP block (03 R59 to R78, 04 R96 to R101). -/

namespace Sys2Proof.Machine

/-! ### Codes and carriers -/

/-- One step of the scrambling register (03 R62). -/
def lfsrNext (st : Nat) : Nat :=
  let f := (st ^^^ (st / 4) ^^^ (st / 8) ^^^ (st / 32)) % 2
  st / 2 + f * 32768

/-- `n` chips from a register state, each 1 or -1. -/
def chipsFrom : Nat → Nat → List Int
  | 0, _ => []
  | n + 1, st => (1 - 2 * ((st % 2 : Nat) : Int)) :: chipsFrom n (lfsrNext st)

/-- The scrambling sequence s[0] to s[127] of a code-set index (03 R62). -/
def chips (cs : Nat) : List Int := chipsFrom 128 ((cs + 1) * 0x9E37 % 65536)

/-- H[d][t] of the Walsh-Hadamard matrix of order 128 (03 R61). -/
def walsh (d t : Nat) : Int := if popcount 7 (d &&& t) % 2 = 0 then 1 else -1

/-- round(16,384 sin(2 pi m / 48)) of the first quarter. -/
def sineQuarter : List Int := [0, 2139, 4240, 6270, 8192, 9974, 11585, 12998, 14189, 15137, 15826, 16244, 16384]

/-- The reference table at phase `m` of 48 (03 R64). -/
def sine48 (m : Nat) : Int :=
  let r := m % 48
  if r ≤ 12 then sineQuarter.getD r 0
  else if r ≤ 24 then sineQuarter.getD (24 - r) 0
  else if r ≤ 36 then -(sineQuarter.getD (r - 24) 0)
  else -(sineQuarter.getD (48 - r) 0)

/-- One mixer sum (03 R65); `ph` shifts by a quarter period for the cosine. -/
def mixSum (k ph : Nat) (x : List Int) : Int :=
  ((List.range 48).map (fun n => asr (x.getD n 0 * sine48 (k * n + ph) + 512) 10)).foldl (· + ·) 0

/-- The in-phase and quadrature sums of a step window at slot `k`. -/
def mixIQ (k : Nat) (x : List Int) : Int × Int := (mixSum k 0 x, mixSum k 12 x)

/-- An ADC sample: 14 bits, the converter holding the ends of its range (02 R43). -/
def adcSample (v : Int) : Int := clampI (-8192) 8191 v

/-- The phase-corrected step value (03 R66). -/
def stepValue (iq pair : Int × Int) : Int := satI 24 (asr (iq.1 * pair.1 - iq.2 * pair.2 + 8192) 14)

/-- The correction pair of a chain and slot (03 R66, 05 R118). -/
def State.pair (s : State) (chain k : Nat) : Int × Int :=
  (s.mem.leI (coefRam + 4 * (5 * chain + k - 2)) 2, s.mem.leI (coefRam + 4 * (5 * chain + k - 2) + 2) 2)

/-- A sample at either end of the ADC range is overrange (02 R43). -/
def overrange (v : Int) : Bool := v == -8192 || v == 8191

/-- The magnitude estimate of a listen step (03 R74). -/
def magnitude (iq : Int × Int) : Nat :=
  let a := iq.1.natAbs
  let b := iq.2.natAbs
  Nat.min 16777215 (Nat.max a b + 3 * Nat.min a b / 8)

/-! ### The transform -/

/-- One butterfly stage over pairs at distance `h` of a list: blocks of 2h. -/
def butterfly : Nat → Nat → List Int → List Int
  | 0, _, _ => []
  | n + 1, h, l =>
    let a := l.take h
    let b := (l.drop h).take h
    List.zipWith (· + ·) a b ++ List.zipWith (· - ·) a b ++ butterfly n h (l.drop (2 * h))

/-- The Walsh-Hadamard transform of 128 values in 7 stages (03 R70). -/
def wht128 (z : List Int) : List Int :=
  butterfly 1 64 (butterfly 2 32 (butterfly 4 16 (butterfly 8 8 (butterfly 16 4 (butterfly 32 2 (butterfly 64 1 z))))))

/-- The 128 step values of a chain and role. -/
def stepValues (s : State) (e chain role : Nat) : List Int :=
  s.mem.ints (stepStore e + 3 * (256 * chain + 128 * role)) 3 128

/-- The raw node values u[role][d] of a chain, all 128 rows (03 R70). -/
def rawColumn (s : State) (e chain role : Nat) (seq : List Int) : List Int :=
  (wht128 (List.zipWith (fun c y => satI 24 (c * y)) seq (stepValues s e chain role))).map (fun x => asr (x + 64) 7)

/-! ### Weights -/

/-- The inverse-variance weight of 03 R76, limited by W_MIN. -/
def weight (a b wMin : Nat) : Nat :=
  let q := a * a + b * b
  let w := if a = 0 ∧ b = 0 then 128 else (256 * (b * b) + q / 2) / q
  if w < wMin then wMin else if 256 - wMin < w then 256 - wMin else w

/-- The chain noise of a chain and slot from the listen data (03 R75). -/
def chainNoise (s : State) (chain k : Nat) : Nat :=
  (((List.range 8).map (fun j => s.mem.le (listenData + 3 * (40 * chain + 8 * (k - 2) + j)) 3)).foldl (· + ·) 0 + 4) / 8

/-- The primary weight that the noise area holds for a chain (03 R78). -/
def State.wp (s : State) (chain : Nat) : Nat := s.mem.le (noiseArea + 16 * chain + 8) 2

/-- The two roles combined (03 R77), and whether the divergence rule chose: `np`, `ns` are the noise figures. -/
def combine (wp np ns lim : Nat) (d7 : Nat) (u0 u1 : Int) : Int × Bool :=
  if lim ≠ 0 ∧ (lim : Int) < asr ((u0 - u1).natAbs : Int) d7 then (if ns < np then u1 else u0, true)
  else (asr ((wp : Int) * u0 + (256 - wp : Nat) * u1 + 128) 8, false)

/-- The combined raw values of a chain's column, rows 0 to D - 1, and how many the divergence rule resolved. -/
def columnU (s : State) (e chain : Nat) (p : Params) (seq : List Int) : List Int × Nat :=
  let wp := s.wp chain
  let np := s.mem.le (noiseArea + 16 * chain) 3
  let ns := s.mem.le (noiseArea + 16 * chain + 4) 3
  let r := ((rawColumn s e chain 0 seq).zip (rawColumn s e chain 1 seq)).take p.d
  let c := r.map (fun u => combine wp np ns p.diverge 7 u.1 u.2)
  (c.map (·.1), (c.filter (·.2)).length)

/-- The combined raw values of a frame, by column: D values for each chain below S. -/
def frameU (s : State) (e : Nat) : List (List Int) :=
  let p := s.params e
  let seq := chips p.cs
  (List.range p.s).map (fun c => (columnU s e c p seq).1)

/-- A node's value in a frame given by columns. -/
def nodeOf (cols : List (List Int)) (d c : Nat) : Int := (cols.getD c []).getD d 0

/-- A frame given by columns as 24,576 values by rows of 192, with 0 outside D x S. -/
def byRows (d c : Nat) (cols : List (List Int)) : List Int :=
  (List.range 128).flatMap (fun i => (List.range 192).map (fun j => if i < d ∧ j < c then nodeOf cols i j else 0))

/-- A frame given by rows, by its first `c` columns. -/
def columnsOf (c : Nat) (rows : List (List Int)) : List (List Int) :=
  (List.range c).map (fun j => rows.map (fun r => r.getD j 0))

/-- `d` rows of `c` values of `w` bytes from address `a`, the row stride being 192 values, by columns. -/
def State.cols (s : State) (a w d c : Nat) : List (List Int) :=
  columnsOf c ((List.range d).map (fun i => s.mem.ints (a + w * 192 * i) w c))

/-- The mutual baseline by columns. -/
def State.baseCols (s : State) (d c : Nat) : List (List Int) := s.cols baseMut 4 d c

/-- The delta frame of an epoch by columns. -/
def State.deltaCols (s : State) (e d c : Nat) : List (List Int) := s.cols (deltaFrame e) 2 d c

/-- A delta from a baseline and a raw value (03 R72). -/
def deltaOf (b u : Int) : Int := satI 16 (asr (b - 256 * u + 16384) 15)

/-! ### Interpolation of faulted lines (02 R52) -/

/-- The value of a faulted line between its neighbours; 0 when either is missing or faulted. -/
def between (n : Nat) (bad : Nat → Bool) (v : Nat → Int) (i : Nat) : Int :=
  if i = 0 ∨ n ≤ i + 1 then 0 else if bad (i - 1) || bad (i + 1) then 0 else asr (v (i - 1) + v (i + 1)) 1

/-- Rows first, then columns, over a frame given by columns. -/
def interpolate (d c : Nat) (badRow badCol : Nat → Bool) (cols : List (List Int)) : List (List Int) :=
  let rows := cols.map (fun col => (List.range d).map (fun i =>
    if badRow i then between d badRow (fun k => col.getD k 0) i else col.getD i 0))
  (List.range c).map (fun j => if badCol j then
      (List.range d).map (fun i => between c badCol (fun k => (rows.getD k []).getD i 0) j)
    else rows.getD j [])

/-- The lines of the frame in processing that are interpolated: rows, and columns (02 R48, R51, R52, 05 R144). -/
def Frame.badRows (f : Frame) (m : PinMap) : List Nat :=
  (List.range m.drive.length).filter (fun d => f.bad (m.drive.getD d 0) || f.undriven.contains d)

/-- A chain's column is overrange in the frame: 25 % or more of its mutual-segment samples (02 R47). -/
def Frame.overrangeCol (f : Frame) (c : Nat) : Bool := decide (1536 ≤ f.ovr.getD c 0)

def Frame.badCols (f : Frame) (m : PinMap) : List Nat :=
  (List.range m.sense.length).filter (fun c =>
    f.bad (m.sense.getD c 0) || f.overrangeCol c || f.recalCols.contains c)

/-! ### Self data (04 R96 to R101) -/

/-- The self value of a pin and role in the step store. -/
def selfValue (s : State) (e pin role : Nat) : Int := s.mem.leI (selfBase e + 6 * pin + 3 * role) 3

/-- The combined self value SVc (04 R99), with the tile noise of the frame. -/
def selfCombined (s : State) (f : Frame) (noise : List Nat) (pin : Nat) : Int :=
  let p := s.params f.epoch
  let np := noise.getD (p.kp - 2) 0
  let ns := noise.getD (p.ks - 2) 0
  (combine (weight np ns p.wMin) np ns (s.ctxField p.ctx 0x2E0 2) 0 (selfValue s f.epoch pin 0) (selfValue s f.epoch pin 1)).1

/-- The self baseline of a pin. -/
def State.bs (s : State) (pin : Nat) : Int := s.mem.leI (baseSelf + 4 * pin) 4

/-- The self delta of a pin (04 R99). -/
def selfDeltaOf (svc bs : Int) : Int := satI 16 (svc - asr (bs + 128) 8)

/-- A line's self delta once faulted lines are replaced (04 R101): `own` are the deltas along the axis. -/
def replacedSelf (n : Nat) (rep : Nat → Bool) (own : Nat → Int) (i : Nat) : Int :=
  if !rep i then own i
  else
    let l := decide (0 < i) && !rep (i - 1)
    let r := decide (i + 1 < n) && !rep (i + 1)
    if l && r then (if own (i - 1) < own (i + 1) then own (i + 1) else own (i - 1))
    else if l then own (i - 1) else if r then own (i + 1) else 0

/-- The median of a list as 05 R135 takes it: the middle value, or the floor of the mean of the two middle values. -/
def median (l : List Int) : Int :=
  let a := l.mergeSort (· ≤ ·)
  let n := a.length
  if n % 2 = 1 then a.getD (n / 2) 0 else (a.getD (n / 2 - 1) 0 + a.getD (n / 2) 0) / 2

end Sys2Proof.Machine
end

