-- ==== Sys2Proof/Machine/Grid.lean ====
section
/-! DEFINITION. Nodes of the panel as pairs (drive line, sense line): distances, neighbourhoods, connected sets (05 R128, R136, 06 R163). -/

namespace Sys2Proof.Machine

abbrev Node := Nat × Nat

/-- The linear index of a node (05 R131). -/
def lin (n : Node) : Nat := 192 * n.1 + n.2

/-- |a - b|. -/
def absDiff (a b : Nat) : Nat := (a - b) + (b - a)

/-- Chebyshev distance. -/
def cheb (a b : Node) : Nat := Nat.max (absDiff a.1 b.1) (absDiff a.2 b.2)

/-- Every node of a panel of `d` by `c` lines, in the order of the linear index. -/
def allNodes (d c : Nat) : List Node := (List.range d).flatMap (fun i => (List.range c).map (fun j => (i, j)))

/-- The nodes within Chebyshev distance `m` of a set. -/
def dilate (d c m : Nat) (ns : List Node) : List Node := (allNodes d c).filter (fun n => ns.any (fun x => cheb n x ≤ m))

/-- 8-adjacent, or the same node. -/
def near8 (a b : Node) : Bool := cheb a b ≤ 1

/-- 4-adjacent, or the same node. -/
def near4 (a b : Node) : Bool := absDiff a.1 b.1 + absDiff a.2 b.2 ≤ 1

/-- What a set reaches within another by a relation, round after round; and what it leaves. -/
def growSet {α : Type} (near : α → α → Bool) : Nat → List α → List α → List α → List α × List α
  | 0, acc, _, rest => (acc, rest)
  | n + 1, acc, front, rest =>
    let p := rest.partition (fun x => front.any (near x))
    if p.1.isEmpty then (acc, rest) else growSet near n (acc ++ p.1) p.1 p.2

/-- The connected sets of a list under a relation. -/
def components {α : Type} (near : α → α → Bool) : Nat → List α → List (List α)
  | 0, _ => []
  | _ + 1, [] => []
  | n + 1, x :: xs =>
    let g := growSet near (xs.length + 1) [x] [x] xs
    g.1 :: components near n g.2

/-- The span of a node set on the drive axis; none of an empty set. -/
def driveSpan (ns : List Node) : Option (Nat × Nat) := match ns with
  | [] => none
  | n :: r => some (r.foldl (fun a x => Nat.min a x.1) n.1, r.foldl (fun a x => Nat.max a x.1) n.1)

/-- The span on the sense axis. -/
def senseSpan (ns : List Node) : Option (Nat × Nat) := match ns with
  | [] => none
  | n :: r => some (r.foldl (fun a x => Nat.min a x.2) n.2, r.foldl (fun a x => Nat.max a x.2) n.2)

/-- A line lies within `m` lines of a span. -/
def nearSpan (m i : Nat) : Option (Nat × Nat) → Bool
  | none => false
  | some p => decide (p.1 ≤ i + m) && decide (i ≤ p.2 + m)

end Sys2Proof.Machine
end

