-- ==== Sys2Proof/Machine/Calibrate.lean ====
section
/-! DEFINITION. Calibration (05 R118 to R125, R143 to R147, R524): what starts, ends or abandons one, its phases from boundary to
boundary, and the rows that load its results. -/

namespace Sys2Proof.Machine

/-! ### Starting and ending -/

/-- The calibration event (05 R147, 10 R308): 0 start, 1 complete, 2 abandoned. -/
def calEvent (what : Nat) (group byCmd : Bool) (s : State) : State :=
  postEvent 0x06 (pack [(what, 0), (b2n group, 2), (b2n byCmd, 3), (s.cal.calfail, 8)]) 0 s

/-- `CHN_CAL_CTL.DONE` is set (05 R149). -/
def setCalDone (s : State) : State := if s.cal.calDone then s else raise 17 { s with cal.calDone := true }

/-- The commands that wait for the full or the group calibration complete with its CALFAIL (05 R524). -/
def endCalCmds (group : Bool) (fails : Nat) (s : State) : State :=
  let done (l : List Nat) (t : State) : State := l.foldl (fun u j => partDone j 0 fails 0 u) t
  if group then done s.cal.groupCmds { s with cal.groupCmds := [] } else done s.cal.cmds { s with cal.cmds := [] }

/-- The pairs and scales of a chain as they stand. -/
def chainPairs (s : State) (c : Nat) : List (Int × Int) × List Nat :=
  ((List.range 5).map (fun i => s.pair c (i + 2)), (List.range 2).map (fun p => s.mem.le (scaleRam + 2 * (2 * c + p)) 2))

def loadPair (c k : Nat) (p : Int × Int) (s : State) : State :=
  { s with mem := s.mem.write (coefRam + 4 * (5 * c + k - 2)) (leBytes 2 (tc 16 p.1) ++ leBytes 2 (tc 16 p.2)) }

def loadScale (c pass f : Nat) (s : State) : State := { s with mem := s.mem.putLe (scaleRam + 2 * (2 * c + pass)) 2 f }

/-- The pins that a chain measures in a pass (04 R93). -/
def chainPin (m : PinMap) (c pass : Nat) : Option Nat := if pass = 0 then m.sense[c]? else m.drive[c]?

/-- A self scale is loaded during a group recalibration, and Bs of the pin takes its change (05 R145): also when a scale is measured anew
after a failed verification, and when the old scale comes back (log entry 89). -/
def rescaleSelf (m : PinMap) (c pass fNew : Nat) (s : State) : State :=
  let fOld := s.mem.le (scaleRam + 2 * (2 * c + pass)) 2
  let t := match chainPin m c pass with
    | some pin => if fOld = 0 then s
        else { s with mem := s.mem.putLeI (baseSelf + 4 * pin) 4 ((s.mem.leI (baseSelf + 4 * pin) 4 * fNew + (fOld / 2 : Nat)) / fOld) }
    | none => s
  loadScale c pass fNew t

/-- Chains return to pairs and scales they had before. -/
def restorePairs (old : List (Nat × List (Int × Int) × List Nat)) (s : State) : State :=
  let m := s.pinMap (s.activeSlot.getD 0)
  old.foldl (fun u o =>
    let u := (List.zip (List.range 5) o.2.1).foldl (fun v p => loadPair o.1 (p.1 + 2) p.2 v) u
    (List.zip (List.range 2) o.2.2).foldl (fun v p => rescaleSelf m o.1 p.1 p.2 v) u) s

/-- The group in progress returns to its old pairs and scales (05 R146). -/
def restoreGroup (s : State) : State :=
  let t := restorePairs s.cal.old s
  { t with cal.old := [], cal.yold := [] }

/-- A running calibration is abandoned (05 R146, R147). The commands of a group recalibration complete here (R524); those of a full one
wait for the calibration that takes its place. -/
def abandonCal (s : State) : State :=
  if s.cal.kind = .none then s
  else
    let group := s.cal.kind == .group
    let t := if group then restoreGroup s else s
    let t := if s.cal.baseOnly then t else setCalDone (calEvent 2 group t.cal.byCmd t)
    let t := { t with cal.kind := .none, cal.phase := 0, cal.done := 0, cal.sub := 0, cal.begun := false, cal.group := 0, cal.tries := []
                      cal.baseOnly := false, cal.measured := false }
    if group then endCalCmds true t.cal.runFail t else t

/-- A full calibration starts at this boundary (05 R119): tracks retire (06 R174). -/
def startFull (byCmd : Bool) (s : State) : State :=
  let t := retireHere (abandonCal s)
  calEvent 0 false byCmd { t with
    cal.kind := .full, cal.byCmd := byCmd, cal.fullDue := none, cal.groupDue := none, cal.baseDue := false, cal.phase := 1, cal.done := 0
    cal.measured := false, cal.tries := [], cal.runFail := 0, cal.baseOnly := false, cal.guard := false, cal.gain := none }

/-- A group recalibration starts at this boundary; TCAL takes the filtered temperature (05 R143, R144). -/
def startGroup (byCmd : Bool) (s : State) : State :=
  calEvent 0 true byCmd { s with
    cal.kind := .group, cal.byCmd := byCmd, cal.groupDue := none, cal.phase := 6, cal.group := 0, cal.sub := 0, cal.begun := false
    cal.measured := false, cal.tries := [], cal.runFail := 0, cal.tcal := s.cal.tnow, cal.old := [], cal.yold := [] }

/-- The initial-baseline phase alone (05 R138, 18 R482): the accumulators start from 0; it posts no calibration event. DESIGN CHOICE: after
the 10 % test too the tracks retire and the next report carries RESYNC, as 18 R482 has it after a parity error (log entry 126). -/
def startBase (s : State) : State :=
  let t := retireHere s
  { t with cal.kind := .full, cal.baseOnly := true, cal.baseDue := false, cal.phase := 5, cal.done := 0, cal.guard := false,
           mem := t.mem.clear accRam 0x40000 }

/-- A full calibration is asked for. It takes the place of a group one that waits, whose commands join it (05 R146, R524). -/
def requestFull (byCmd : Bool) (s : State) : State :=
  let join := s.cal.groupDue.isSome && s.cal.kind != .group
  { s with cal.fullDue := some (byCmd || s.cal.fullDue == some true), cal.groupDue := none
           cal.cmds := if join then s.cal.cmds ++ s.cal.groupCmds else s.cal.cmds
           cal.groupCmds := if join then [] else s.cal.groupCmds }

/-- R524: what a RECALIBRATE command does on a tile. -/
def recalOwn (num : Nat) (group : Bool) (s : State) : State :=
  let fullHere := s.cal.fullDue.isSome || (s.cal.kind == .full && !s.cal.baseOnly)
  let groupHere := s.cal.groupDue.isSome || s.cal.kind == .group
  let joinFull (t : State) : State := { t with cal.cmds := t.cal.cmds ++ [num] }
  if fullHere then joinFull s
  else if group then { s with cal.groupCmds := s.cal.groupCmds ++ [num], cal.groupDue := if groupHere then s.cal.groupDue else some true }
  else
    let t := abandonCal (if s.cal.groupDue.isSome then endCalCmds true 0 { s with cal.groupDue := none } else s)
    requestFull true (joinFull t)

/-- R524: RECALIBRATE. -/
def execRecalibrate (j : Nat) (s : State) : Answer :=
  runCommand 0x22 j (fun e u => startParts e .cal (recalOwn j (e.d.a0 % 2 == 1)) u) s

/-! ### From boundary to boundary -/

/-- The chains of group `g` (05 R144). -/
def groupChains (g lines : Nat) : List Nat := (List.range lines).filter (fun c => c % 12 == g)

/-- y of a chain and slot from the I′ and Q′ that a frame stored for its eight calibration-charge steps, under a pair (03 R66, R67):
the mean of the eight (log entry 24). -/
def chargeValue (s : State) (e c k : Nat) (pair : Int × Int) : Int :=
  let ys := (List.range 8).map (fun i =>
    let t := 8 * (k - 2) + i
    stepValue (s.mem.leI (stepStore e + 3 * (256 * c + t)) 3, s.mem.leI (stepStore e + 3 * (256 * c + 128 + t)) 3) pair)
  (ys.foldl (· + ·) 0 + 4) / 8

/-- The y of an ideal chain for the calibration charge (03 R67), positive by the choice of the pair's sign: one of the values of a step value
above 0 (log entry 24). -/
def idealValue (gain amp : Nat) : Int := (Nat.max 1 ((Config.calTarget gain amp).toNat % 2 ^ 23) : Nat)

/-- The deviation of y from the value of an ideal chain, against the 0.1 % of 03 R67: the pair meets it when the first number is at most
the second. -/
def pairError (s : State) (e c k : Nat) (pair : Int × Int) : Nat × Nat :=
  let p := s.params e
  let ideal := idealValue p.gain p.amp
  (1000 * (chargeValue s e c k pair - ideal).natAbs, ideal.natAbs)

/-- The self value of the calibration charge of a chain and pass in a frame, for the sum `y` of a role and a scale `f` (04 R96, R97). -/
def chargeSelf (y : Int) (f : Nat) : Int := satI 24 (asr (y * (f : Int) + 524288) 20)

/-- The sum of a role that R96 would form of the charge: eleven times the mean of the pass's 20 steps (05 R121; log entry 125). -/
def chargeSum (s : State) (e c pass role : Nat) : Int :=
  11 * ((List.range 20).map (fun i => s.mem.leI (stepStore e + 3 * (256 * c + 128 * role + 88 + 20 * pass + i)) 3)).foldl (· + ·) 0 / 20

/-- The deviation of the self value of both roles from 1,024, in 1/1,000 (05 R123): it is within 0.2 % up to 2,048. `now` are the sums. -/
def scaleError (now : List Int) (f : Nat) : Nat :=
  (now.map (fun y => 1000 * (chargeSelf y f - 1024).natAbs)).foldl Nat.max 0

/-- The charge's sums as the pairs in force in `t` give them, of steps that a frame stored under those in force in `s`; none where the latter
give no y of the charge to compare with (log entry 125). -/
def chargeSums (s t : State) (e c pass : Nat) : Option (List Int) :=
  let p := s.params e
  (List.zip [0, 1] [p.kp, p.ks]).mapM (fun rk =>
    let old := s.pair c rk.2
    let new := t.pair c rk.2
    let y := chargeSum s e c pass rk.1
    if old = new then some y
    else
      let v := chargeValue s e c rk.2 old
      if v = 0 then none else some (y * chargeValue s e c rk.2 new / v))

/-- The scale among those derived for a chain and pass that meets the target of 04 R97 on the stored sums. -/
def derivedScale (scales : List ScaleResult) (e c pass : Nat) (s t : State) : Option Nat :=
  (scales.find? (fun r => r.chain == c && r.pass == pass && decide (r.f < 65536) && match chargeSums s t e c pass with
    | some ys => decide (scaleError ys r.f ≤ 2048)
    | none => true)).map (·.f)

/-- round(65,536 Y_ideal / y) with a half away from zero (05 R145). DESIGN CHOICE: 65,536, no change, for y = 0, where the manual gives no
value (log entry 90). -/
def gainRatio (ideal y : Int) : Int :=
  if y = 0 then 65536
  else
    let n := (65536 * ideal).natAbs
    let q : Int := ((2 * n + y.natAbs) / (2 * y.natAbs) : Nat)
    if (0 ≤ ideal) = (0 ≤ y) then q else -q

/-- The baselines of a group's columns take the gain change (05 R145), under the parameters of the frame about to be decoded and the
latest weights. -/
def rescaleGroup (p : Params) (g : GainChange) (s : State) : State :=
  g.yold.foldl (fun t o =>
    let q (k : Nat) : Int := gainRatio (idealValue p.gain p.amp) (o.2.getD (k - 2) 0)
    let w := s.wp o.1
    let r := asr ((w : Int) * q p.kp + ((256 - w : Nat) : Int) * q p.ks + 128) 8
    (List.range p.d).foldl (fun u d =>
      let a := baseMut + 4 * (192 * d + o.1)
      { u with mem := u.mem.putLeI a 4 (asr (u.mem.leI a 4 * r + 32768) 16) }) t) s

/-- The gain change of a completed group is applied before the decode of a frame after its last verify frame (05 R145). -/
def applyGain (e : Nat) (s : State) : State :=
  match s.cal.gain with
  | some g => if later e g.epoch then rescaleGroup (s.params e) g { s with cal.gain := none } else s
  | none => s

/-- The trim search starts from code 0 everywhere (05 R124). -/
def clearTrim (s : State) : State := { s with mem := s.mem.clear trimRam 0x18000 }

/-- The trim table copied into the shadow (05 R125). -/
def saveTrim (s : State) : State := { s with mem := s.mem.write trimShadow (s.mem.read trimRam 0x18000) }

/-- The trim RAM restored from the shadow (05 R125). -/
def restoreTrim (s : State) : State := { s with mem := s.mem.write trimRam (s.mem.read trimShadow 0x18000) }

/-- The group's last verify frame, of epoch `e`, has ended: its gain change is due, and the next group or the end of the recalibration
follows. -/
def nextGroup (e : Nat) (s : State) : State :=
  let t := applyGain e s
  let t := { t with cal.gain := some { epoch := e, group := t.cal.group, old := t.cal.old, yold := t.cal.yold }
                    cal.old := [], cal.yold := [], cal.tries := [], cal.measured := false, cal.begun := false, cal.sub := 0 }
  if t.cal.group < 11 then { t with cal.group := t.cal.group + 1 } else { t with cal.sub := 3 }

/-- The last verify frame of the last group has been processed too: the recalibration is complete (05 R147; log entry 91). -/
def finishGroups (s : State) : State :=
  if s.cal.kind = .group ∧ s.cal.sub = 3 then
    let u := { s with cal.kind := .none, cal.phase := 0, cal.group := 0, cal.sub := 0 }
    endCalCmds true u.cal.runFail (setCalDone (calEvent 1 true u.cal.byCmd u))
  else s

/-- Frame G or a verify frame was discarded: the group restarts with a new frame G, from its old pairs and scales (05 R146). When the
discard is found after the group's last verify frame ended, it is that group that restarts. -/
def restartGroup (e : Nat) (s : State) : State :=
  let t := restoreGroup s
  let t := { t with cal.sub := 0, cal.tries := [], cal.measured := false, cal.begun := true }
  match s.cal.gain with
  | some g => if g.epoch = e then restorePairs g.old { t with cal.gain := none, cal.group := g.group } else t
  | none => t

/-- What a group frame that has ended brings the recalibration (05 R144, R146). -/
def groupFrameEnded (f : Frame) (s : State) : State :=
  match f.kind with
  | .inject verify chains =>
    if s.cal.sub = 3 || chains != groupChains s.cal.group (s.params f.epoch).s then s
    else if f.dcause ≠ 0 then restartGroup f.epoch s
    else if !verify then
      if s.cal.sub ≠ 0 then s
      else
        let pairs (c : Nat) : List (Int × Int) := ((assoc s.cal.old c).map (·.1)).getD (chainPairs s c).1
        { s with cal.sub := 1, cal.begun := true
                 cal.yold := chains.map (fun c => (c, (List.range 5).map (fun i => chargeValue s f.epoch c (i + 2) ((pairs c).getD i (0, 0))))) }
    else if s.cal.sub = 0 then s
    else if s.cal.tries.isEmpty then nextGroup f.epoch s else { s with cal.sub := 2 }
  | _ => s

/-- A verify frame whose results have been taken is discarded: its verifications count as none (R119). -/
def undoVerify (e : Nat) (s : State) : State := match s.cal.took with
  | some w => if w.epoch = e then
      { s with cal.tries := w.tries, cal.verifies := w.verifies, cal.calfail := w.calfail, cal.runFail := w.runFail, cal.took := none } else s
  | none => s

/-- What the frame that has just ended brings the running calibration (05 R119, R144, R146): a discarded frame counts as no frame. -/
def calFrameEnded (f : Frame) (s : State) : State :=
  let ok := f.dcause == 0
  match s.cal.kind with
  | .none => s
  | .group => groupFrameEnded f s
  | .full =>
    match s.cal.phase with
    | 1 => { s with cal.phase := 2, cal.done := 0, cal.measured := false, cal.tcal := s.cal.tnow }
    | 2 => if ok && f.injection false then { s with cal.phase := 3 } else { s with cal.measured := false, cal.tries := [] }
    | 3 => if !ok then undoVerify f.epoch s
      else if f.injection true && s.cal.tries.isEmpty then clearTrim { s with cal.phase := 4, cal.done := 0 } else s
    | 4 =>
      if s.cal.done % 2 = 0 && !(ok && f.kind == .trimMeasure) then s
      else if s.cal.done < 7 then { s with cal.done := s.cal.done + 1 }
      else
        let t := saveTrim s
        { t with cal.phase := 5, cal.done := 0, mem := t.mem.clear accRam 0x40000 }
    | 5 => if ok && f.kind == .baseline && decide (s.cal.done < 16) then { s with cal.done := s.cal.done + 1 } else s
    | _ => s

/-- What the frame that starts is used for. -/
def calFrameKind (lines : Nat) (s : State) : FrameKind :=
  match s.cal.kind with
  | .none => .normal
  | .group => if s.cal.sub = 3 then .normal else .inject (decide (s.cal.sub ≠ 0)) (groupChains s.cal.group lines)
  | .full =>
    match s.cal.phase with
    | 1 => .calIdle
    | 2 => .inject false (List.range lines)
    | 3 => .inject true (List.range lines)
    | 4 => if s.cal.done % 2 = 0 then .trimMeasure else .calIdle
    | 5 => if s.cal.done < 16 then .baseline else .normal
    | _ => .normal

/-- Calibrations that wait start at this boundary, in ACTIVE (05 R143) for a group, when no line test runs (05 R146). DESIGN CHOICE: an
initial-baseline phase that falls due during a group recalibration abandons it (log entry 126). -/
def calStart (s : State) : State :=
  if s.elec.ltLeft ≠ 0 then s
  else match s.cal.fullDue with
    | some c => startFull c s
    | none =>
      if s.cal.baseDue && (s.cal.kind != .full) then startBase (abandonCal s)
      else match s.cal.groupDue with
        | some c => if s.cal.kind = .none ∧ s.pwr.state = .active then startGroup c s else s
        | none => s

/-- A discard found while a calibration frame is processed takes the frame's count back (05 R119, R146). The frame scanned meanwhile takes
over where it was scanned as the lost one was: an injection frame, an unused frame of the trim search, the first frame after the baseline
frames. A baseline frame whose sums have been taken stays counted (log entry 91). -/
def uncountCal (f : Frame) (s : State) : State :=
  let cur := s.chn.cur.kind
  match f.kind with
  | .inject verify _ =>
    if f.recal then (if s.cal.kind = .group then restartGroup f.epoch s else s)
    else if s.cal.kind ≠ .full ∨ 4 < s.cal.phase then s
    else if verify then { undoVerify f.epoch s with cal.phase := 3, cal.done := 0, chn.cur.kind := if cur == .trimMeasure then .calIdle else cur }
    else { s with cal.phase := 2, cal.done := 0, cal.measured := false, cal.tries := []
                  chn.cur.kind := match cur with
                    | .inject _ cs => .inject false cs
                    | k => k }
  | .trimMeasure =>
    if s.cal.phase = 4 ∧ s.cal.done % 2 = 1 then
      { s with cal.done := s.cal.done - 1, chn.cur.kind := if cur == .calIdle then .trimMeasure else cur }
    else s
  | .baseline =>
    if s.cal.phase = 5 ∧ !f.decoded then
      { s with cal.done := s.cal.done - 1, chn.cur.kind := if cur == .normal then .baseline else cur }
    else s
  | _ => s

/-! ### Results -/

/-- Ky of a chain and slot from an injection frame with the new pair (05 R122). -/
def kyOf (s : State) (e c k gain : Nat) (pair : Int × Int) : Int :=
  let ys := (List.range 8).map (fun i =>
    let t := 40 + 8 * (k - 2) + i
    stepValue (s.mem.leI (stepStore e + 3 * (256 * c + t)) 3, s.mem.leI (stepStore e + 3 * (256 * c + 128 + t)) 3) pair)
  asr (-(ys.foldl (· + ·) 0) * ((2 ^ (3 - gain) : Nat) : Int) + 64) 7

/-- A pair is loaded with the trim gain that goes with it. -/
def loadMeasured (e c k : Nat) (pair : Int × Int) (s : State) : State :=
  let ky := kyOf s e c k (s.params e).gain pair
  let t := loadPair c k pair s
  { t with mem := t.mem.putLeI (kyRam + 4 * (5 * c + k - 2)) 4 ky }

/-- One verification (05 R123): within `tol` the measurement stands; else it is tried again, and after the third failure, or in the third
verify frame (R119: up to two further ones), the value with the smallest error is kept and CALFAIL counted. `now` is the value in force, `key` its slot or 8 + pass. -/
def verifyOne (c key err tol : Nat) (now : Int × Int) (load keep : State → State) (keepBest : Int × Int → State → State)
    (s : State) : State :=
  let old := s.cal.tries.find? (fun t => t.chain == c && t.slot == key)
  let rest := s.cal.tries.filter (fun t => !(t.chain == c && t.slot == key))
  if err ≤ tol then keep { s with cal.tries := rest }
  else
    let n := if 3 ≤ s.cal.verifies then 3 else (old.map (·.attempts)).getD 0 + 1
    let best := match old with
      | some t => if t.err ≤ err then (t.best, t.err) else (now, err)
      | none => (now, err)
    if n < 3 then load { s with cal.tries := rest ++ [{ chain := c, slot := key, attempts := n, best := best.1, err := best.2 }] }
    else keepBest best.1 { s with cal.tries := rest, cal.calfail := cnt 8 s.cal.calfail 1, cal.runFail := s.cal.runFail + 1 }

/-- The frame whose results core 0 loads now, and whether it is a verify frame (05 R123): the injection frame once its mutual segment is
scanned, or in the frame after it; a verify frame once, its mutual segment being scanned. A discarded frame counts as none (R119). -/
def State.resultFrame (s : State) : Option (Frame × Bool) :=
  let full := s.cal.kind == .full
  let done := s.chn.seg != 0 && s.chn.cur.dcause == 0
  let scanned := s.chn.cur.injection false && done
  if s.cal.measured then
    if s.chn.cur.injection true && done && (s.cal.took.map (·.epoch)) != some s.chn.cur.epoch && (if full then s.cal.phase == 3 else s.cal.sub == 1 || s.cal.sub == 2) then
      some (s.chn.cur, true)
    else none
  else if s.chn.prev.injection false && s.chn.prev.dcause == 0 && (if full then s.cal.phase == 3 else s.cal.sub == 1) then
    some (s.chn.prev, false)
  else if scanned && (if full then s.cal.phase == 2 else s.cal.sub == 0) then some (s.chn.cur, false)
  else none

/-- The pair among those derived for a chain and slot that meets the target of 03 R67 on the frame's stored sums. -/
def derivedPair (pairs : List PairResult) (e c k : Nat) (s : State) : Option (Int × Int) :=
  (pairs.find? (fun r => r.chain == c && r.slot == k &&
    (let x := pairError s e c k (r.pc, r.ps); decide (x.1 ≤ x.2)))).map (fun r => (r.pc, r.ps))

/-- Something for every slot of the given chains. -/
def forSlots (chains : List Nat) (g : Nat → Nat → State → State) (s : State) : State :=
  chains.foldl (fun u c => (List.range 5).foldl (fun v i => g c (i + 2) v) u) s

/-- The results of a verify frame are taken: what its discard would bring back is noted. -/
def beginVerify (e : Nat) (s : State) : State :=
  { s with cal.verifies := Nat.min 3 (s.cal.verifies + 1)
           cal.took := some { epoch := e, tries := s.cal.tries, verifies := s.cal.verifies, calfail := s.cal.calfail, runFail := s.cal.runFail } }

/-- Something for both passes of the given chains. -/
def forPasses (chains : List Nat) (g : Nat → Nat → State → State) (s : State) : State :=
  chains.foldl (fun u c => (List.range 2).foldl (fun v i => g c i v) u) s

/-- Results of an injection frame, and later of the verify frames (05 R121 to R123). A pair that misses the target on the stored sums is
none that core 0 derives; a verification takes its error from the stored sums, under the pairs and scales in force, for every chain. -/
def takeCalResults (pairs : List PairResult) (scales : List ScaleResult) (s : State) : State :=
  match s.resultFrame with
  | none => s
  | some (f, verify) =>
    match f.kind with
    | .inject _ chains =>
      let e := f.epoch
      let m := s.pinMap (s.params e).ctx
      let group := s.cal.kind == .group
      let load (c pass fNew : Nat) (u : State) : State := if group then rescaleSelf m c pass fNew u else loadScale c pass fNew u
      let setScale (c pass : Nat) (u : State) : State := match derivedScale scales e c pass s u with
        | some f => load c pass f u
        | none => u
      let setPair (c k : Nat) (u : State) : State := match derivedPair pairs e c k s with
        | some p => loadMeasured e c k p u
        | none => u
      if !verify then
        let t := if group then { s with cal.old := chains.map (fun c => (c, chainPairs s c)) } else s
        { forPasses chains setScale (forSlots chains setPair t) with cal.measured := true, cal.verifies := 0, cal.took := none }
      else
        let t := forSlots chains (fun c k u =>
          let x := pairError u e c k (u.pair c k)
          verifyOne c k x.1 x.2 (u.pair c k) (setPair c k) id (fun b v => loadMeasured e c k b v) u) (beginVerify e s)
        forPasses chains (fun c pass u =>
          let now := u.mem.le (scaleRam + 2 * (2 * c + pass)) 2
          verifyOne c (8 + pass) (scaleError [chargeSum s e c pass 0, chargeSum s e c pass 1] now) 2048 ((now : Int), 0)
            (setScale c pass) id (fun b v => load c pass b.1.toNat v) u) t
    | _ => s

/-- R123: core 0 loads what it derived from an injection or verify frame. -/
def execCalInjectionResult (pairs : List PairResult) (scales : List ScaleResult) (s : State) : Answer :=
  answer s (if s.cal.kind = .none || !s.fwRuns then s else takeCalResults pairs scales s)

/-- A rational rounded half away from zero. -/
def roundDiv (n d : Int) : Int :=
  if d = 0 then 0
  else
    let q : Int := ((2 * n.natAbs + d.natAbs) / (2 * d.natAbs) : Nat)
    if (0 ≤ n) = (0 ≤ d) then q else -q

/-- One chain and role of a trim measurement (05 R124): the new codes, and whether a step is saturated. -/
def trimChain (s : State) (e c role k : Nat) : List Int × Bool :=
  let ky := s.mem.leI (kyRam + 4 * (5 * c + k - 2)) 4
  let base := trimRam + 2 * (256 * c + 128 * role)
  let r := (List.zip (s.mem.ints base 2 128) (stepValues s e c role)).map (fun cy =>
    let n := clampI (-512) 511 (cy.1 + roundDiv (16 * cy.2) ky)
    (n, decide (ky < 16 * cy.2.natAbs) && (n == -512 || n == 511)))
  (r.map (·.1), r.any (·.2))

/-- R124: the trim measurement of the frame in processing. -/
def execTrimSearchMeasure (s : State) : Answer :=
  let f := s.chn.prev
  let p := s.params f.epoch
  answer s (if f.kind ≠ .trimMeasure || f.dcause ≠ 0 || s.cal.phase ≠ 4 then s
    else
      let (t, sat) := (List.range p.s).foldl (fun (a : State × Nat) c =>
        let r0 := trimChain s f.epoch c 0 p.kp
        let r1 := trimChain s f.epoch c 1 p.ks
        ({ a.1 with mem := a.1.mem.write (trimRam + 512 * c) (intBytes 2 (r0.1 ++ r1.1)) }, a.2 + b2n (r0.2 || r1.2))) (s, 0)
      if s.cal.done = 7 then { t with cal.trimsat := sat } else t)

end Sys2Proof.Machine
end

