-- ==== Sys2Proof/Machine/Checks.lean ====
section
/-! DEFINITION. The consistency checks of a context image (08 R244, R245, R522): each failure is a check code and an offset. -/

namespace Sys2Proof.Machine

/-- A field of the image with fixed limits (08 R239, R522): check code, offset, bits, least and greatest value. -/
structure FieldRule where
  code : Nat
  off : Nat
  bits : Nat
  lo : Nat
  hi : Nat

/-- The fields of 03 R79, 04 R116, 05 R148, 06 R182 and 08 R241 with their limits. -/
def fieldRules : List FieldRule :=
  [⟨0x20, 0x2C0, 2, 0, 3⟩, ⟨0x20, 0x2C1, 1, 0, 1⟩, ⟨0x20, 0x2C2, 2, 0, 3⟩, ⟨0x20, 0x2C3, 6, 0, 63⟩, ⟨0x21, 0x2C4, 3, 2, 6⟩,
   ⟨0x21, 0x2C5, 3, 2, 6⟩, ⟨0x20, 0x2C6, 1, 0, 1⟩, ⟨0x22, 0x2C7, 5, 0, 31⟩, ⟨0x20, 0x2C8, 16, 0, 65535⟩, ⟨0x20, 0x2CA, 7, 17, 64⟩,
   ⟨0x20, 0x2CB, 4, 1, 15⟩, ⟨0x20, 0x2CC, 8, 0, 255⟩, ⟨0x20, 0x2CD, 8, 0, 128⟩, ⟨0x20, 0x2CE, 12, 0, 4095⟩] ++
  [⟨0x30, 0x2E0, 15, 0, 32767⟩, ⟨0x30, 0x2E2, 2, 0, 2⟩, ⟨0x30, 0x2E3, 8, 1, 255⟩, ⟨0x30, 0x2E4, 13, 0, 8191⟩, ⟨0x30, 0x2E6, 10, 0, 1023⟩,
   ⟨0x30, 0x2E8, 15, 1, 24576⟩, ⟨0x30, 0x2EA, 7, 16, 64⟩, ⟨0x31, 0x2EB, 1, 0, 1⟩, ⟨0x31, 0x2EC, 13, 16, 8191⟩, ⟨0x31, 0x2EE, 13, 0, 8190⟩,
   ⟨0x31, 0x2F0, 15, 17, 32767⟩, ⟨0x31, 0x2F2, 4, 0, 15⟩] ++
  [⟨0x40, 0x300, 4, 4, 15⟩, ⟨0x40, 0x301, 3, 0, 7⟩, ⟨0x40, 0x302, 10, 1, 1023⟩, ⟨0x40, 0x304, 12, 1, 4095⟩, ⟨0x40, 0x306, 6, 1, 63⟩,
   ⟨0x40, 0x307, 8, 1, 255⟩, ⟨0x40, 0x308, 12, 1, 4095⟩, ⟨0x40, 0x30A, 12, 0, 4095⟩, ⟨0x40, 0x30C, 13, 0, 8191⟩, ⟨0x40, 0x30E, 12, 1, 4095⟩,
   ⟨0x40, 0x310, 16, 0, 65535⟩, ⟨0x40, 0x312, 10, 0, 1023⟩, ⟨0x40, 0x314, 6, 0, 63⟩] ++
  [⟨0x50, 0x320, 12, 16, 4095⟩, ⟨0x50, 0x322, 15, 16, 32767⟩, ⟨0x50, 0x324, 15, 16, 32767⟩, ⟨0x51, 0x326, 8, 0, 255⟩, ⟨0x51, 0x327, 4, 1, 15⟩,
   ⟨0x51, 0x328, 12, 64, 4095⟩, ⟨0x51, 0x32A, 8, 4, 255⟩, ⟨0x51, 0x32B, 8, 8, 255⟩, ⟨0x51, 0x32C, 10, 5, 1023⟩, ⟨0x51, 0x32E, 1, 0, 1⟩,
   ⟨0x51, 0x330, 15, 1, 32767⟩, ⟨0x51, 0x332, 9, 192, 320⟩, ⟨0x51, 0x334, 11, 0, 2047⟩] ++
  [⟨0x58, 0x342, 12, 16, 4095⟩, ⟨0x58, 0x344, 15, 16, 32767⟩, ⟨0x58, 0x346, 3, 1, 6⟩, ⟨0x58, 0x347, 4, 1, 15⟩, ⟨0x58, 0x348, 12, 256, 4095⟩,
   ⟨0x60, 0x360, 3, 0, 7⟩, ⟨0x60, 0x361, 2, 0, 1⟩, ⟨0x60, 0x362, 5, 1, 16⟩]

/-- Bytes of a field of `n` bits. -/
def fieldBytes (n : Nat) : Nat := if n ≤ 8 then 1 else 2

/-- The failures of fields outside their limits; a reserved bit in the field's bytes is one (08 R239). -/
def limitFails (img : List Byte) : List (Nat × Nat) :=
  (fieldRules.filter (fun r =>
    let raw := leAt img r.off (fieldBytes r.bits)
    decide (2 ^ r.bits ≤ raw) || decide (raw % 2 ^ r.bits < r.lo) || decide (r.hi < raw % 2 ^ r.bits))).map (fun r => (r.code, r.off))

/-- A failure at an offset when the condition holds. -/
def failIf (c : Bool) (code off : Nat) : List (Nat × Nat) := if c then [(code, off)] else []

/-- The failures of relations between fields (08 R522). -/
def relationFails (img : List Byte) : List (Nat × Nat) :=
  let f (o n : Nat) : Nat := leAt img o (fieldBytes n) % 2 ^ n
  let p := f 0x2C4 3
  let q := f 0x2C5 3
  let mask := f 0x2C7 5
  let has (k : Nat) : Bool := decide (2 ≤ k) && bit mask (k - 2)
  failIf (p == q) 0x21 0x2C5 ++
  failIf (!has p || !has q || (f 0x2C6 1 == 1 && decide (popcount 5 mask < 3))) 0x22 0x2C7 ++
  failIf (decide (f 0x2EC 13 ≤ f 0x2EE 13)) 0x31 0x2EE ++
  failIf (decide (f 0x2F0 15 ≤ f 0x2EC 13)) 0x31 0x2F0 ++
  failIf (decide (1 ≤ f 0x304 12) && decide (f 0x304 12 < f 0x302 10)) 0x41 0x304 ++
  failIf (decide (f 0x322 15 < f 0x320 12)) 0x50 0x322 ++
  failIf (decide (f 0x324 15 < f 0x320 12) || decide (f 0x322 15 < f 0x324 15)) 0x50 0x324 ++
  failIf (decide (f 0x32C 10 ≤ f 0x32A 8)) 0x51 0x32C ++
  failIf (decide (f 0x344 15 < f 0x342 12)) 0x58 0x344

/-- The electrode map of an image. -/
def imageMap (img : List Byte) : List Nat := (List.range 320).map (fun n => leAt img (0x040 + 2 * n) 2)

/-- The failures of one axis: a missing index, or an index repeated or out of range (02 R34). -/
def axisFails (m : List Nat) (role code : Nat) : List (Nat × Nat) :=
  let n := countRole m role
  let pins := (List.range 320).filter (fun i => mapRole (m.getD i 0) == role)
  let line (i : Nat) : Nat := mapLine (m.getD i 0)
  let lines := pins.map line
  failIf ((List.range n).any (fun l => !lines.contains l)) code 0x040 ++
  (pins.filter (fun i => decide (n ≤ line i) || pins.any (fun k => k != i && line k == line i))).map (fun i => (code, 0x040 + 2 * i))

/-- The failures of the map (02 R34). -/
def mapFails (img : List Byte) : List (Nat × Nat) :=
  let m := imageMap img
  let d := countRole m 1
  let c := countRole m 2
  failIf (!(decide (4 ≤ d ∧ d ≤ 128) && decide (4 ≤ c ∧ c ≤ 192))) 0x10 0x040 ++ axisFails m 1 0x11 ++ axisFails m 2 0x12 ++
  (List.range 320).flatMap (fun i =>
    let e := m.getD i 0
    let idle := mapRole e == 0 || mapRole e == 3
    failIf (idle && (mapLine e != 0 || mapExcl e)) 0x13 (0x040 + 2 * i) ++ failIf (fld e 10 5 != 0) 0x14 (0x040 + 2 * i))

/-- The reserved byte ranges outside the header (08 R239). -/
def reservedOffsets : List Nat :=
  let span (a b : Nat) : List Nat := (List.range (b + 1 - a)).map (· + a)
  span 0x2D0 0x2DF ++ span 0x2F3 0x2FF ++ span 0x315 0x31F ++ [0x32F] ++ span 0x336 0x33F ++ span 0x34A 0x34B ++ span 0x350 0x35F ++
  span 0x363 0x7FF

/-- The reserved bytes of the header. -/
def headerReserved : List Nat := [0x002, 0x003] ++ (List.range 44).map (· + 0x014)

/-- The checks that depend on the image alone (08 R244: 0x01 and 0x10 to 0x70, but 0x59). -/
def imageFails (slot : Nat) (img : List Byte) : List (Nat × Nat) :=
  failIf (leAt img 0 1 != 1) 0x01 0x000 ++ failIf (leAt img 1 1 != slot) 0x01 0x001 ++
  ((headerReserved.filter (fun o => leAt img o 1 != 0)).map (fun o => (0x01, o))) ++
  mapFails img ++ limitFails img ++ relationFails img ++
  ((reservedOffsets.filter (fun o => leAt img o 1 != 0)).map (fun o => (0x70, o)))

/-- A failure that R245 reports before another of the same tile: the lower code, then the lower offset. -/
def failBefore (a b : Nat × Nat) : Bool := decide (a.1 < b.1) || (a.1 == b.1 && decide (a.2 < b.2))

/-- The failure reported of a list. -/
def worstFail (l : List (Nat × Nat)) : Option (Nat × Nat) := l.foldl (fun best f => match best with
  | none => some f
  | some b => if failBefore f b then some f else some b) none

/-- The failure reported of the tiles' results (08 R245): code, tile, offset. -/
def worstTile (l : List (Nat × Nat × Nat)) : Option (Nat × Nat × Nat) := l.foldl (fun best f =>
  if f.2.1 = 0 then best
  else match best with
    | none => some f
    | some b => if f.2.1 < b.2.1 ∨ (f.2.1 = b.2.1 ∧ f.1 < b.1) then some f else some b) none

end Sys2Proof.Machine
end

