-- ==== Sys2Proof/Machine/Contexts.lean ====
section
/-! DEFINITION. Context slots (08 R234 to R254): staging, reading, COMMIT and SWITCH on a tile and over an array, and what applies at E_a. -/

namespace Sys2Proof.Machine

/-! ### Slots -/

def slotBase (n : Nat) : Nat := ctxBase + 0x800 * n

/-- The 2,048 bytes of a slot. -/
def State.image (s : State) (n : Nat) : List Byte := s.mem.read (slotBase n) 0x800

/-- The slot state's code (08 R235). -/
def SlotState.code : SlotState → Nat
  | .empty => 0
  | .staging => 1
  | .checking => 2
  | .ready => 3
  | .pending => 4
  | .active => 5
  | .draining => 6

/-- The slot may not be written (08 R237, R243). -/
def SlotState.held (st : SlotState) : Bool := st == .checking || st == .pending || st == .active || st == .draining

/-! ### Staging -/

/-- R243 on this tile: 0 accepted, 0x04 DENIED. -/
def stageCheck (d : Desc) (s : State) : Nat :=
  if (s.slot (fld d.a0 0 3)).held || (fld d.a0 4 2 == 2 && s.slot (fld d.a1 0 3) == .empty) then 0x04 else 0

/-- The defaults image of a slot (08 R238). -/
def defaultsImage (n : Nat) (s : State) : List Byte := (s.mem.clear (slotBase n) 0x800).read (slotBase n) 0x800

/-- INIT and the piece (08 R242). INIT 2 copies the whole source slot, its CTX_ID too, as the rule says; the example of chapter 08 needs the
slot's own CTX_ID there, and no example overrides a rule (00 R12; log entry 25). A damaged byte is copied damaged. -/
def stageApply (d : Desc) (data : List Byte) (s : State) : State :=
  let n := fld d.a0 0 3
  let init := fld d.a0 4 2
  let src := fld d.a1 0 3
  let m := if init = 1 then s.mem.clear (slotBase n) 0x800
    else if init = 2 then s.mem.write (slotBase n) (s.image src)
    else s.mem
  let t := setSlot n .staging { s with mem := m.write (slotBase n + d.p0) (padTo d.p1 data) }
  { t with ctx.bad := if init = 0 ∨ init = 2 ∧ s.ctx.bad.contains src ∧ s.ctx.bad.contains n then t.ctx.bad
      else if init = 2 ∧ s.ctx.bad.contains src then t.ctx.bad ++ [n]
      else t.ctx.bad.filter (· != n) }

/-- A member's slot as the root last delivered it. -/
def shadowImage (k n : Nat) (s : State) : List Byte := (assoc s.arr.shadow (8 * k + n)).getD (defaultsImage n s)

/-- The root notes what a piece makes of a member's slot. -/
def shadowStage (d : Desc) (data : List Byte) (k : Nat) (s : State) : State :=
  let n := fld d.a0 0 3
  let base := match fld d.a0 4 2 with
    | 1 => defaultsImage n s
    | 2 => shadowImage k (fld d.a1 0 3) s
    | _ => shadowImage k n s
  { s with arr.shadow := file s.arr.shadow (8 * k + n) (patch base d.p0 (padTo d.p1 data)) }

/-- Every selected tile accepts: the piece goes out and is written here (08 R242). -/
def stageWrite (j : Nat) (s : State) : State :=
  match s.entry j, assoc s.ctx.pieces j with
  | some e, some p =>
    let ts := s.selected e.d
    let t := s.setEntry j (fun x => { x with tiles := ts, wait := .member })
    let t := ts.foldl (fun u k =>
      if k = 0 then u else shadowStage e.d p k (sendMsg 2 k (.ctxData (fld e.d.a0 0 3) e.d.p0 p 0) u)) t
    if ts.contains 0 then tilePart j 0 0 1 0 (stageApply e.d p t) else t
  | _, _ => s

/-- A tile's answer to a forwarded STAGE_CONTEXT: first whether it accepts, then that its piece is written; a refusal by any tile leaves
every slot as it was (08 R243, log entry 26). -/
def stagePart (j tile code r0 : Nat) (s : State) : State :=
  match s.entry j with
  | none => s
  | some e =>
    if e.wait = .member then (if code = 0 ∧ r0 = 0 then s else tilePart j tile code r0 0 s)
    else if e.wait ≠ .check || !e.tiles.contains tile || (code = 0 && r0 ≠ 0) then s
    else
      let lower := code ≠ 0 && (e.code = 0 || tile < e.ctile)
      let e1 := { e with tiles := e.tiles.filter (· != tile), code := if lower then code else e.code,
                         ctile := if lower then tile else e.ctile }
      let t := s.setEntry j (fun _ => e1)
      if !e1.tiles.isEmpty then t
      else if e1.code ≠ 0 then
        finish j e1.code 0 0 e1.ctile ((t.selected e.d).foldl (fun u k => if k = 0 then u else sendMsg 1 k (.unstage j) u) t)
      else stageWrite j t

/-- R242: STAGE_CONTEXT; it waits while the engine may issue no read (09 R258, R261). -/
def execStageContext (j : Nat) (piece : HostRead) (s : State) : Answer :=
  runCommand 0x10 j (fun e u =>
    let ts := u.selected e.d
    if !u.readOk then u
    else if ts.contains 0 && stageCheck e.d u ≠ 0 then finish j 0x04 0 0 0 u
    else match piece with
      | .ok b =>
        let ms := ts.filter (· != 0)
        let t := keepPiece j (padTo e.d.p1 b) u
        let t := t.setEntry j (fun x => { x with tiles := ms, wait := .check, code := 0, ctile := 0 })
        if ms.isEmpty then stageWrite j t else ms.foldl (fun v k => forward j k e.d v) t
      | r => finish j 0x06 0 0 0 (countFailedRead r u)) s

/-- A member receives STAGE_CONTEXT: it accepts and waits for the piece, or refuses. -/
def stageMember (num : Nat) (d : Desc) (s : State) : State :=
  if stageCheck d s ≠ 0 then partDone num 0x04 0 0 s
  else partDone num 0 0 0 { s with ctx.staging := file s.ctx.staging num d }

/-- A member receives the piece for a slot at an offset. -/
def stageMemberPiece (slot off : Nat) (data : List Byte) (s : State) : State :=
  match s.ctx.staging.find? (fun p => p.2.opcode == 0x10 && fld p.2.a0 0 3 == slot && p.2.p0 == off) with
  | none => s
  | some p => partDone p.1 0 1 0 (stageApply p.2 data { s with ctx.staging := s.ctx.staging.filter (fun q => q.1 != p.1) })

/-- READ_CONTEXT on this tile (10 R292): the image to the host; a member sends it to the root behind its state. -/
def readContextOwn (num : Nat) (d : Desc) (s : State) : State :=
  let n := fld d.a0 0 3
  let img := s.image n
  if s.isMember then sendMsg 2 0 (.capture num (leBytes 1 (s.slot n).code ++ img)) s
  else partDone num 0 (s.slot n).code (leAt img 0x00C 4) (hostWrite d.addr img true s)

/-- R292: READ_CONTEXT; it waits while the engine may write nothing (09 R261). -/
def execReadContext (j : Nat) (s : State) : Answer :=
  runCommand 0x13 j (fun e u => if !u.dmaOk then u else startParts e .member (readContextOwn j e.d) u) s

/-! ### Checks of this tile -/

/-- Epochs from now on that a line test, running or waiting, takes (02 R50, 08 R249); 0: none. -/
def State.ltCover (s : State) : Nat :=
  if s.elec.ltLeft ≠ 0 then s.elec.ltLeft else if s.elec.ltPending then 1 + ltFrames s.chn.rate else 0

/-- The tile's record: the array-map entry in an array, the record of settings memory otherwise (07 R205). -/
def State.tileRecord (s : State) : Option TileRec := match s.crl.own with
  | some r => some r
  | none => s.sets.tileRec

/-- The checks on this tile's slot (08 R244). `rate` is the frame rate of the other tiles after the commit, where there are any. -/
def ownFails (slot : Nat) (isSwitch : Bool) (named rate : Option Nat) (s : State) : List (Nat × Nat) :=
  let img := s.image slot
  let gen := leAt img 0x340 2
  failIf (s.slot slot != (if isSwitch then SlotState.ready else SlotState.staging)) 0x02 0xFFF ++
  failIf (s.ctx.bad.contains slot) 0x03 0xFFF ++
  (if isSwitch then [] else imageFails slot img) ++
  failIf (gen != 0 && (bankOf s gen).isNone) 0x59 0x340 ++
  (match s.tileRecord with
    | some r => failIf (countRole (imageMap img) 1 != r.dmap || countRole (imageMap img) 2 != r.smap) 0x80 0x040
    | none => []) ++
  (match rate with
    | some r => failIf (leAt img 0x2C0 1 != r) 0x81 0x2C0
    | none => []) ++
  failIf (decide (32 < s.crl.ntiles) && leAt img 0x361 1 % 4 == 1 && leAt img 0x360 1 % 8 != 0) 0x82 0x361 ++
  failIf (s.isMember && !s.crl.lock) 0x87 0xFFF ++
  (match named with
    | some e => failIf (decide (diff32 e s.epoch < s.ltCover)) 0x89 0xFFF
    | none => [])

/-! ### Decision -/

/-- The failed check as a completion carries it (10 R292). -/
def failResult (f : Nat × Nat × Nat) : Nat := pack [(f.2.1, 0), (f.1, 8), (f.2.2, 16)]

/-- A failed check is recorded: tile, code, offset (08 R257). -/
def recordFail (f : Nat × Nat × Nat) (s : State) : State :=
  { s with ctx.failTile := f.1, ctx.failCode := f.2.1, ctx.failOff := f.2.2, ctx.failed := cnt 16 s.ctx.failed 1 }

/-- The decision fails: nothing is applied on any tile (08 R245, R251). -/
def failCommit (g : CommitJob) (f : Nat × Nat × Nat) (s : State) : State :=
  let t := dropCheck g (recordFail f s)
  match g.cmd with
  | some j => finish j 0x05 (failResult f) 0 f.1 t
  | none => t

/-- When a context that reaches Chanter now takes effect (03 R58): at its epoch, but after the latch instant not at the next boundary (log
entry 130). -/
def takesEffect (ea : Nat) (s : State) : Nat :=
  let first := add32 s.epoch (if s.chn.latchPassed then 2 else 1)
  if later first ea then first else ea

/-- GEN, APPLY_EPOCH and IMAGE_CRC are written, the slot becomes PENDING and the commit copy is taken (08 R240, R248). -/
def makePending (slot ea gen : Nat) (s : State) : State :=
  let img := s.image slot
  let hdr := leBytes 4 gen ++ leBytes 4 ea ++ leBytes 4 (crc32 (img.drop 0x40))
  let t := setSlot slot .pending { s with mem := s.mem.write (slotBase slot + 4) hdr }
  { t with ctx.pendEa := takesEffect ea s, ctx.copy := patch img 4 hdr, ctx.copyBad := false, ctx.switched := false }

/-- The decision passes (08 R246, R248). -/
def passCommit (g : CommitJob) (ea : Nat) (s : State) : State :=
  let gen := add32 s.ctx.gen 1
  let t := { s with ctx.gen := gen }
  let t := if g.set.contains 0 then makePending g.slot ea gen t else t
  let t := { t with ctx.job := some { g with decided := true, ea := ea, gen := gen, unarmed := g.set.filter (· != 0) } }
  let t := if t.isRoot && !t.crl.online.isEmpty then broadcast 1 (.apply ea gen g.slot g.set) t else t
  match g.cmd with
  | some j => t.setEntry j (fun e => { e with wait := .boundary ea, r0 := ea, r1 := gen })
  | none => t

/-- The first of the next boundaries, from `e` on, that no line test of the set covers (08 R249). -/
def openBoundary (now cover : Nat) : Nat → Nat → Nat
  | 0, e => e
  | n + 1, e => if diff32 e now < cover then openBoundary now cover n (add32 e 1) else e

/-- Every result is in: the root decides (08 R247 to R249). `late`: fewer than 200 µs remain to the frame's latch instant; it matters
for a set with a member only. -/
def decideCommit (late : Bool) (g : CommitJob) (s : State) : State :=
  let array := g.set.any (· != 0)
  let past := s.chn.latchPassed || (array && late)
  let r81 := g.replies.map (fun r => if r.2.1 = 0x81 ∧ g.set.contains 0 then (0, r.2.1, r.2.2) else r)
  let tooLate := match g.named with
    | some e => !later e s.epoch || (e == add32 s.epoch 1 && past)
    | none => false
  let all := if tooLate then r81 ++ [(g.set.headD 0, 0x86, 0xFFF)] else r81
  match worstTile all with
  | some f => failCommit g f { s with ctx.job := none }
  | none =>
    let cover := if !array then 0
      else (g.replies.map (fun r => if r.1 ≠ 0 ∧ later r.2.2 s.epoch then diff32 r.2.2 s.epoch else 0)).foldl Nat.max
        (if g.set.contains 0 then s.ltCover else 0)
    let ea := match g.named with
      | some e => e
      | none => openBoundary s.epoch cover 8 (add32 s.epoch (if past then 2 else 1))
    passCommit g ea s

/-- The context image that the root's journal holds for a member (08 R240, 07 R229). -/
def memberImage (k : Nat) (s : State) : Option (List Byte) :=
  if (assoc s.arr.memberGen k).isSome then some (s.mem.read (captureStaging + 0x800 * (k % 64)) 0x800) else none

/-- FRAME_RATE of an online tile outside the set, as its ACTIVE context has it; none: no such tile, or none with a context. -/
def outsideRate (ts : List Nat) (s : State) : Option Nat :=
  ((s.crl.online.filter (fun k => !ts.contains k)).filterMap (fun k =>
    if k = 0 then (if s.activeSlot.isSome then some (s.act 0x2C0 1 % 4) else none)
    else (memberImage k s).map (fun img => leAt img 0x2C0 1 % 4))).head?

/-- No other COMMIT or SWITCH is CHECKING or PENDING (08 R244, code 0x88). -/
def State.commitFree (s : State) : Bool := s.ctx.job.isNone && s.ctx.doomed.isEmpty && s.pendingSlot.isNone

/-- COMMIT or SWITCH accepted (08 R246 to R249): this tile's checks at once, PREPARE to each member of the set. One that fails code 0x88
changes nothing, but a lower code of a member is still asked for (R245). -/
def acceptCommit (j : Nat) (d : Desc) (isSwitch : Bool) (s : State) : State :=
  let ts := s.selected d
  let slot := fld d.a0 0 3
  let named := if bit d.p1 0 then some d.p0 else none
  let own := ts.contains 0
  let others := if s.isRoot then outsideRate ts s else none
  let window := match named with
    | some e => failIf (!(decide (2 ≤ diff32 e s.epoch ∧ diff32 e s.epoch ≤ 65536))) 0x85 0xFFF
    | none => []
  let off := failIf (!ts.all (fun k => s.isOnline k)) 0x83 0xFFF
  let busy := !s.commitFree
  let fails := (if own then ownFails slot isSwitch named others s else []) ++ off ++ window ++ failIf busy 0x88 0xFFF
  let res := (worstFail fails).getD (0, 0)
  let first := ts.headD 0
  let ms := ts.filter (fun k => k != 0 && s.isOnline k)
  let g : CommitJob := { cmd := some j, slot := slot, isSwitch := isSwitch, set := ts, named := named, before := s.slot slot,
                         replies := [(first, res.1, res.2)] }
  if busy ∧ ms.isEmpty then finish j 0x05 (failResult (first, res.1, res.2)) 0 first (recordFail (first, res.1, res.2) s)
  else
    let right := s.slot slot == (if isSwitch then SlotState.ready else SlotState.staging)
    let t := if own && right then setSlot slot .checking s else s
    if ms.isEmpty then decideCommit false g t
    else
      let rate := if own then some (leAt (t.image slot) 0x2C0 1) else others
      let t := if busy then { t with ctx.doomed := t.ctx.doomed ++ [{ g with waiting := ms }] } else { t with ctx.job := some { g with waiting := ms } }
      let t := setWait j .check t
      ms.foldl (fun u k => sendMsg 1 k (.prepare slot isSwitch named rate) u) t

/-- R246: COMMIT. -/
def execCommit (j : Nat) (s : State) : Answer := runCommand 0x11 j (fun e u => acceptCommit j e.d false u) s

/-- R246: SWITCH. -/
def execSwitch (j : Nat) (s : State) : Answer := runCommand 0x12 j (fun e u => acceptCommit j e.d true u) s

/-- A result joins a job's: a member that passes tells how many epochs its line test still takes. -/
def heard (tile code off : Nat) (g : CommitJob) (s : State) : CommitJob :=
  { g with waiting := g.waiting.filter (· != tile), replies := g.replies ++ [(tile, code, if code = 0 then add32 s.epoch off else off)] }

/-- Every result of a command that fails code 0x88 is in: the lowest code is reported (08 R245). -/
def endDoomed (g : CommitJob) (s : State) : State :=
  failCommit g ((worstTile g.replies).getD (0, 0x88, 0xFFF)) { s with ctx.doomed := s.ctx.doomed.filter (fun x => x.cmd != g.cmd) }

/-- The result goes to the first of the commands failed by code 0x88 that waits for the tile. -/
def doomedResult (tile code off : Nat) (s : State) : State :=
  match s.ctx.doomed.find? (fun g => g.waiting.contains tile) with
  | none => s
  | some g =>
    let g1 := heard tile code off g s
    let t := { s with ctx.doomed := s.ctx.doomed.map (fun x => if x.cmd == g.cmd then g1 else x) }
    if g1.waiting.isEmpty then endDoomed g1 t else t

/-- A member's result, or its silence (08 R244, R248). It answers in the order it was asked in. -/
def prepareResult (tile code off : Nat) (late : Bool) (s : State) : State :=
  match s.ctx.job with
  | none => doomedResult tile code off s
  | some g =>
    if g.decided || !g.waiting.contains tile then doomedResult tile code off s
    else
      let g1 := heard tile code off g s
      let t := { s with ctx.job := some g1 }
      if g1.waiting.isEmpty then decideCommit late g1 t else t

/-- A tile of the set is lost before the decision (08 R244, code 0x84), whether or not it has answered. -/
def loseReply (k : Nat) (s : State) : State :=
  let gone (g : CommitJob) : CommitJob := if g.set.contains k then heard k 0x84 0xFFF g s else g
  let t := { s with ctx.doomed := s.ctx.doomed.map gone }
  let t := (t.ctx.doomed.filter (·.waiting.isEmpty)).foldl (fun u g => endDoomed g u) t
  match t.ctx.job with
  | some g =>
    if g.decided || !g.set.contains k then t
    else
      let g1 := gone g
      let u := { t with ctx.job := some g1 }
      if g1.waiting.isEmpty then decideCommit false g1 u else u
  | none => t

/-- R248: PREPARE_REPLY. -/
def execPrepareReply (tile code off : Nat) (late : Bool) (s : State) : Answer :=
  answer s (if s.isRoot then prepareResult tile code off late s else s)

/-- R244: no answer within 2 ms. -/
def execPrepareTimeout (tile : Nat) (s : State) : Answer :=
  answer s (if s.isRoot then prepareResult tile 0x84 0xFFF false s else s)

/-- A member checks its slot (08 R248), and that it has no other check or PENDING slot (code 0x88). With code 0 the offset field tells how many
epochs a line test of the member takes. -/
def prepareMember (slot : Nat) (isSwitch : Bool) (named rate : Option Nat) (s : State) : State :=
  match worstFail (ownFails slot isSwitch named rate s ++ failIf (s.ctx.job.isSome || s.pendingSlot.isSome) 0x88 0xFFF) with
  | some f => sendMsg 1 0 (.prepareReply f.1 f.2) (recordFail (s.tile, f.1, f.2) s)
  | none =>
    let g : CommitJob := { cmd := none, slot := slot, isSwitch := isSwitch, set := [s.tile], named := named, before := s.slot slot }
    sendMsg 1 0 (.prepareReply 0 s.ltCover) (setSlot slot .checking { s with ctx.job := some g })

/-- The check of a member is abandoned. -/
def abandonMember (slot : Nat) (s : State) : State :=
  match s.ctx.job with
  | some g => if g.slot = slot ∧ !g.decided then uncheck g { s with ctx.job := none } else s
  | none => s

/-- R248: a member receives APPLY: the generation always, the slot when it is of the set. -/
def applyMember (ea gen slot : Nat) (set : List Nat) (s : State) : State :=
  let t := { s with ctx.gen := gen }
  if set.contains t.tile && t.slot slot == .checking then
    let u := makePending slot ea gen { t with ctx.job := none }
    sendMsg 1 0 (.armed u.ctx.copy) u
  else t

/-- R248: APPLY. -/
def execApplyMessage (ea gen slot : Nat) (set : List Nat) (s : State) : Answer :=
  answer s (if s.isMember then applyMember (ea % 2 ^ 32) (gen % 2 ^ 32) (slot % 8) set s else s)

/-- R248: ARMED: the member's image, which the root's journal is to hold from E_a on (R240). -/
def execArmed (tile : Nat) (image : List Byte) (s : State) : Answer :=
  answer s (match s.ctx.job with
    | some g =>
      if !s.isRoot || !g.decided || !g.unarmed.contains tile then s
      else { s with ctx.job := some { g with unarmed := g.unarmed.filter (· != tile), images := file g.images tile (padTo 0x800 image) } }
    | none => s)

/-- At E_a the root's journal takes the images of the members of the set, with GEN: as they ARMED with them, or, of one that did not arm, as
the root delivered it (R240, R250). -/
def journalImages (g : CommitJob) (s : State) : State :=
  if !s.isRoot then s
  else (g.set.filter (· != 0)).foldl (fun t k =>
    let raw := shadowImage k g.slot t
    let img := (assoc g.images k).getD
      (patch raw 4 (leBytes 4 g.gen ++ leBytes 4 g.ea ++ leBytes 4 (crc32 (raw.drop 0x40))))
    { t with arr.memberGen := file t.arr.memberGen k g.gen, mem := t.mem.write (captureStaging + 0x800 * (k % 64)) img }) s

/-- The check of a command in progress is abandoned on every tile (10 R303): it completes with INTERRUPTED. -/
def abandonCheck (j : Nat) (s : State) : State :=
  let mine (g : CommitJob) : Bool := g.cmd == some j && !g.decided
  let gs := s.ctx.job.toList.filter mine ++ s.ctx.doomed.filter mine
  let t := gs.foldl (fun u g => dropCheck g u) { s with ctx.job := s.ctx.job.filter (fun g => !mine g), ctx.doomed := s.ctx.doomed.filter (fun g => !mine g) }
  finish j 0x09 0 0 0 t

/-! ### The boundary -/

/-- Role, index or EXCL of a pin differ between two maps (02 R37). -/
def pinChanged (a b : Nat) : Bool := mapRole a != mapRole b || mapLine a != mapLine b || mapExcl a != mapExcl b

/-- While the AFE domain is off, the codes stand in the retention memory (16 R434, R441): a code that changes there is written there. -/
def saveCode (pin c : Nat) (s : State) : State :=
  if s.clk.afe then s
  else
    let b := s.mem.le (retBase + pin / 2) 1
    { s with mem := s.mem.putLe (retBase + pin / 2) 1 (if pin % 2 = 0 then b / 16 * 16 + c else b % 16 + 16 * c) }

/-- The pins that change switch, and their line status with them (02 R37). -/
def switchPins (old new : List Nat) (s : State) : State :=
  (List.range 320).foldl (fun t n =>
    let e := new.getD n 0
    if !pinChanged (old.getD n 0) e then t
    else
      let c := if mapRole e = 0 ∨ mapRole e = 3 then 0xF else if mapExcl e then 7 else 0
      let u := saveCode n c (setCode n c t)
      { u with elec.lowRun := u.elec.lowRun.set n 0, elec.highRun := u.elec.highRun.set n 0
               elec.ovrRun := if mapRole e = 2 then u.elec.ovrRun.set (mapLine e) 0 else u.elec.ovrRun
               elec.okRun := if mapRole e = 2 then u.elec.okRun.set (mapLine e) 0 else u.elec.okRun
               elec.tripRun := u.elec.tripRun.filter (fun r => r.1 != n) }) s

/-- The map a tile holds before its first context: no pin mapped. -/
def State.activeMap (s : State) : List Nat := match s.activeSlot with
  | some n => s.mapList n
  | none => []

/-- The pins of a PENDING map switch in the guard/settle interval of the frame before E_a, the last one scanned under the old context (02 R37);
those of a first context at E_a, until which they float (R38). -/
def switchPending (s : State) : State :=
  match s.pendingSlot with
  | some n =>
    if s.ctx.switched || s.activeSlot.isNone || s.ctx.pendEa ≠ add32 s.epoch 1 then s
    else { switchPins s.activeMap (s.mapList n) s with ctx.switched := true }
  | none => s

/-- A hop due at this boundary is discarded (03 R84). -/
def cancelHop (s : State) : State :=
  match s.chn.due with
  | none => s
  | some h =>
    { s with chn.due := none, chn.hopCancelled := cnt 8 s.chn.hopCancelled 1
             chn.decided := s.chn.decided.map (fun d => if h.forced && d.outcome == 0 then { d with outcome := 3 } else d) }

/-- What every apply does, and the restoring of the ACTIVE image too (08 R253, 18 R485): the slot pair restarts from the image, the persistence
counts clear. -/
def restartPair (img : List Byte) (s : State) : State :=
  let f (o : Nat) : Nat := leAt img o 1
  { s with
    chn.pri := f 0x2C4, chn.sec := f 0x2C5, chn.npri := f 0x2C4, chn.nsec := f 0x2C5, chn.perP := 0, chn.perS := 0, chn.lastHop := none
    chn.auto := none }

/-- A latched shield fault clears, and the drivers are on again (04 R103). -/
def clearShieldFault (s : State) : State :=
  if s.elec.shFault then { s with elec.shFault := false, elec.shRun := [], elec.shTripped := [] } else s

/-- Slot `n` becomes ACTIVE (08 R252, R253), with the effects of what differs from the old image. The first context since a CORE reset with
the AFE domain on has a full calibration to itself; with the AFE domain off too the boot line test is followed by it (07 R230, R231). -/
def applyOver (oldImg : Option (List Byte)) (n : Nat) (s : State) : State :=
  let bad := s.ctx.bad.contains n && s.ctx.copyBad
  let img := s.image n
  let t := if s.ctx.switched then s else switchPins (oldImg.elim [] imageMap) (s.mapList n) s
  let t := match s.activeSlot with
    | some a => setSlot a .draining t
    | none => t
  let t := cancelHop (setSlot n .active t)
  let f (o : Nat) : Nat := leAt img o 1
  let t := restartPair img { t with
    ctx.ea := s.ctx.pendEa, ctx.switched := false, ctx.applied := cnt 16 s.ctx.applied 1, ctx.stopped := bad, ctx.waits := false, ctx.copy := [] }
  let t := clearShieldFault t
  let t := if t.hostSide then { t with mem := t.mem.write captureStaging img } else t
  match oldImg with
  | none => if t.elec.ltBoot then requestFull false t else t
  | some o =>
    let mapDiff := (List.zip (imageMap o) (imageMap img)).any (fun p => p.1 != p.2)
    let gainDiff := leAt o 0x2C2 1 != f 0x2C2
    let calDiff := mapDiff || gainDiff || leAt o 0x2C1 1 != f 0x2C1 || ((t.boot.role == .standalone || t.crl.own.isNone) && leAt o 0x2C3 1 != f 0x2C3)
    let t := if mapDiff then { t with trk.mapAt := some t.epoch } else t
    if calDiff then requestFull false t else t

/-- The PENDING slot becomes ACTIVE. -/
def applySlot (n : Nat) (s : State) : State := applyOver (s.activeSlot.map s.image) n s

/-- The root's image for a returning member stands in its slot. -/
def putIncoming (img : List Byte) (s : State) : State :=
  let n := leAt img 1 1 % 8
  { s with
    mem := s.mem.write (slotBase n) img, ctx.gen := leAt img 4 4, ctx.pendEa := s.ctx.incomingEa, ctx.copy := img, ctx.copyBad := false
    ctx.switched := false, ctx.incoming := none, ctx.bad := s.ctx.bad.filter (· != n) }

/-- The root's image goes into its slot, which becomes PENDING, once no other slot is PENDING and its own is not in use: it passes STAGING and
CHECKING at once, the checks being those of its commit and of IMAGE_CRC (R229). -/
def takeIncoming (s : State) : State :=
  match s.ctx.incoming with
  | none => s
  | some img =>
    let n := leAt img 1 1 % 8
    if (s.slot n).held && s.slot n != .pending || s.pendingSlot.any (· != n) then s else setSlot n .pending (putIncoming img s)

/-- An image whose slot is ACTIVE at its epoch takes the old one's place at that boundary (log entry 113). -/
def replaceActive (s : State) : State :=
  match s.ctx.incoming with
  | none => s
  | some img =>
    let n := leAt img 1 1 % 8
    if s.slot n == .active && s.pendingSlot.isNone && !later s.ctx.incomingEa s.epoch then applyOver (some (s.image n)) n (putIncoming img s) else s

/-- Contexts at a boundary (08 R236, R251 to R254): DRAINING ends; a PENDING slot whose E_a has come applies; the commit completes. -/
def contextBoundary (s : State) : State :=
  let t := match s.drainingSlot with
    | some n => setSlot n .ready s
    | none => s
  let t := if t.ctx.restored then (match t.activeSlot with
      | some n => restartPair (t.image n) (cancelHop { t with ctx.restored := false })
      | none => { t with ctx.restored := false }) else t
  let due (u : State) : State := match u.pendingSlot with
    | some n => if later u.ctx.pendEa u.epoch then u else applySlot n u
    | none => u
  let t := due (takeIncoming (replaceActive (due t)))
  match t.ctx.job with
  | some g =>
    if !g.decided || later g.ea t.epoch then t
    else
      let u := journalImages g { t with ctx.job := none }
      match g.cmd with
      | some j => finish j 0 g.ea g.gen 0 u
      | none => u
  | none => t

/-- The image the root sends a returning member (07 R229): its IMAGE_CRC is checked, and it applies at the epoch it names; a bad one is
asked for once more, then the tile stops (18 R480, R482). -/
def restoreImage (data : List Byte) (s : State) : State :=
  let img := padTo 0x800 data
  if crc32 (img.drop 0x40) ≠ leAt img 0x00C 4 then
    if s.ctx.copyBad then { s with ctx.stopped := true }
    else sendMsg 1 0 (.hello true s.tile s.ctx.gen) { s with ctx.copyBad := true }
  else
    takeIncoming { s with ctx.incoming := some img, ctx.incomingEa := takesEffect (leAt img 8 4) s, ctx.copyBad := false }

end Sys2Proof.Machine
end

