-- ==== Sys2Proof/Machine/Tokens.lean ====
section
/-! DEFINITION. Token dictionaries (06 R155 to R160): entries, the fit of a trial, the rules of TOKEN_LOAD and the banks. -/

namespace Sys2Proof.Machine

/-- A dictionary entry (06 R156). -/
structure Entry where
  id : Nat
  npads : Nat
  sym : Nat
  tol : Nat
  pads : List (Int × Int)
  raw : List Byte
deriving DecidableEq, Repr

/-- Entry `i` of a 1,024-byte bank image. -/
def entryOf (img : List Byte) (i : Nat) : Entry :=
  let b := (img.drop (32 * i)).take 32
  { id := leAt b 0 2, npads := leAt b 2 1 % 8, sym := leAt b 3 1 % 8, tol := leAt b 4 1,
    pads := (List.range 6).map (fun j => (sext 16 (leAt b (8 + 4 * j) 2), sext 16 (leAt b (10 + 4 * j) 2))), raw := b }

/-! ### Fit (06 R160) -/

/-- Points less their mean, scaled by their number. -/
def centred (ps : List (Int × Int)) : List (Int × Int) :=
  let n : Int := (ps.length : Nat)
  let sx := (ps.map (·.1)).foldl (· + ·) 0
  let sy := (ps.map (·.2)).foldl (· + ·) 0
  ps.map (fun p => (n * p.1 - sx, n * p.2 - sy))

def dot (a b : Int × Int) : Int := a.1 * b.1 + a.2 * b.2
def cross (a b : Int × Int) : Int := a.1 * b.2 - a.2 * b.1
def sumI (l : List Int) : Int := l.foldl (· + ·) 0
def maxI (l : List Int) : Int := l.foldl (fun a b => if a < b then b else a) 0

/-- The result of one trial: A and B of 06 R160, and the square of the residual, in units of 2^-16 of the squared scaled coordinates. -/
structure Fit where
  a : Int
  b : Int
  r2 : Int

/-- The fit of measured points `m` to pads `e`, both centred, partners in order (06 R160). -/
def fitOf (e m : List (Int × Int)) : Fit :=
  let pr := List.zip e m
  let a := sumI (pr.map (fun p => dot p.1 p.2))
  let b := sumI (pr.map (fun p => cross p.1 p.2))
  let q := (a * a + b * b).toNat
  let sq : Int := (isqrtAux (q * 2 ^ 32) 96 0 : Nat)
  let r (p : (Int × Int) × (Int × Int)) : Int :=
    let x := a * dot p.1 p.2 + b * cross p.1 p.2
    let along := if sq = 0 then 2 ^ 16 * dot p.1 p.2 else 2 ^ 32 * x / sq
    2 ^ 16 * (dot p.1 p.1 + dot p.2 p.2) - 2 * along
  { a := a, b := b, r2 := maxI (pr.map r) }

/-- Every order of a list. -/
def orders {α : Type} : List α → List (List α)
  | [] => [[]]
  | x :: xs => (orders xs).flatMap (fun p => (List.range (p.length + 1)).map (fun i => p.take i ++ x :: p.drop i))

/-- The angles of the rotation steps of `turnOf`, in 2^-32 of a turn. -/
def cordicTable : List Nat :=
  [536870912, 316933406, 167458907, 85004756, 42667331, 21354465, 10679838, 5340245, 2670163, 1335087, 667544, 333772, 166886, 83443,
   41722, 20861, 10430, 5215, 2608, 1304, 652, 326, 163, 81, 41, 20, 10, 5]

/-- Rotation steps that bring (a, b) to the x axis, the angle summed. -/
def cordic : List Nat → Nat → Int → Int → Int → Int
  | [], _, _, _, z => z
  | t :: ts, k, a, b, z =>
    if 0 < b then cordic ts (k + 1) (a + asr b k) (b - asr a k) (z + (t : Int))
    else cordic ts (k + 1) (a - asr b k) (b + asr a k) (z - (t : Int))

/-- atan2(b, a) in 2^-32 of a turn. -/
def turnOf (a b : Int) : Int :=
  if a = 0 ∧ b = 0 then 0
  else if a < 0 then cordic cordicTable 0 (-a * 2 ^ 32) (-b * 2 ^ 32) (2 ^ 31)
  else cordic cordicTable 0 (a * 2 ^ 32) (b * 2 ^ 32) 0

/-! ### The rules of TOKEN_LOAD (06 R157) -/

/-- Rule 1: ranges and reserved bits. -/
def entryRule1 (e : Entry) : Bool :=
  decide (3 ≤ e.npads ∧ e.npads ≤ 6) && decide (1 ≤ e.sym ∧ e.sym ≤ 6) && decide (32 ≤ e.tol) && e.id != 0xFFFF &&
  decide (leAt e.raw 2 1 < 8) && decide (leAt e.raw 3 1 < 8) && leAt e.raw 5 3 == 0 && (e.pads.drop e.npads).all (· == (0, 0))

/-- The pads in use. -/
def Entry.used (e : Entry) : List (Int × Int) := e.pads.take e.npads

/-- Every pair of a list satisfies a relation. -/
def allPairs {α : Type} (r : α → α → Bool) : List α → Bool
  | [] => true
  | x :: xs => xs.all (r x) && allPairs r xs

/-- Rule 2: the pads' distances from their mean and from each other. -/
def entryRule2 (e : Entry) : Bool :=
  let n : Int := (e.npads : Nat)
  (centred e.used).all (fun p => decide (dot p p ≤ (2048 * n) * (2048 * n))) &&
  allPairs (fun (p q : Int × Int) => decide (512 * 512 ≤ dot (p.1 - q.1, p.2 - q.2) (p.1 - q.1, p.2 - q.2))) e.used

/-- cos and sin of 360 degrees / SYM, scaled by 2^62. -/
def symTurn (n : Nat) : Int × Int :=
  match n with
  | 2 => (-4611686018427387904, 0)
  | 3 => (-2305843009213693952, 3993837246235628775)
  | 4 => (0, 4611686018427387904)
  | 5 => (1425089352415399811, 4385974038932618941)
  | 6 => (2305843009213693952, 3993837246235628775)
  | _ => (4611686018427387904, 0)

/-- Rule 3: the pads rotated by 360 degrees / SYM meet the pads within TOL under some assignment. -/
def entryRule3 (e : Entry) : Bool :=
  let c := symTurn e.sym
  let ps := centred e.used
  let lim : Int := ((e.npads * e.tol) * (e.npads * e.tol) : Nat)
  e.sym == 1 || (orders ps).any (fun qs => (List.zip ps qs).all (fun p =>
    decide (2 ^ 62 * (dot p.1 p.1 + dot p.2 p.2) - 2 * (c.1 * dot p.1 p.2 + c.2 * cross p.1 p.2) ≤ 2 ^ 62 * lim)))

/-- Rule 4: two entries of equal NPADS fit each other at a residual of at most twice the larger tolerance. -/
def entriesCollide (a b : Entry) : Bool :=
  a.npads == b.npads &&
  (let ea := centred a.used
   let t : Int := (2 * Nat.max a.tol b.tol * a.npads : Nat)
   (orders (centred b.used)).any (fun eb => decide ((fitOf ea eb).r2 ≤ 2 ^ 16 * (t * t))))

/-- The lowest-numbered rule that valid entry `i` breaks; 0: none. -/
def brokenRule (img : List Byte) (valid i : Nat) : Nat :=
  let e := entryOf img i
  if !entryRule1 e then 1 else if !entryRule2 e then 2 else if !entryRule3 e then 3
  else if (List.range i).any (fun k => bit valid k && entryRule1 (entryOf img k) && entriesCollide (entryOf img k) e) then 4 else 0

/-- The lowest entry that breaks a rule, and the rule. -/
def tokenFault (img : List Byte) (valid : Nat) : Option (Nat × Nat) :=
  ((bitsOf 32 valid).map (fun i => (i, brokenRule img valid i))).find? (fun p => p.2 != 0)

/-! ### Banks (06 R155) -/

def State.bankGen (s : State) (b : Nat) : Nat := if b = 0 then s.tok.gen0 else s.tok.gen1

/-- The ACTIVE or the PENDING context selects the bank. -/
def State.bankUsed (s : State) (b : Nat) : Bool :=
  let g := s.bankGen b
  let sel (n : Option Nat) : Bool := match n with
    | some k => s.ctxField k 0x340 2 == g
    | none => false
  g != 0 && (sel s.activeSlot || sel s.pendingSlot)

/-- The bank a load goes to (06 R155): written, held already, or refused. -/
inductive BankChoice where
  | write (b : Nat)
  | same (b : Nat)
  | denied

def chooseBank (s : State) (gen : Nat) (img : List Byte) : BankChoice :=
  let holder := (List.range 2).find? (fun b => s.bankGen b == gen)
  match holder with
  | some b => if s.mem.read (dictBank b) 1024 = img then .same b else if s.bankUsed b then .denied else .write b
  | none =>
    match s.bankUsed 0, s.bankUsed 1 with
    | true, true => .denied
    | true, false => .write 1
    | false, true => .write 0
    | false, false =>
      if s.bankGen 0 = 0 then .write 0 else if s.bankGen 1 = 0 then .write 1 else .write (1 - s.tok.recent)

/-- What a tile makes of a TOKEN_LOAD (06 R155, R157): the bank to write, or the one that holds it already; else code, RESULT0 and
RESULT1 of a refusal. -/
def tokenJudge (d : Desc) (img : List Byte) (s : State) : Except (Nat × Nat × Nat) BankChoice :=
  let checking := match s.ctx.job with
    | some g => !g.decided
    | none => false
  if checking then .error (0x04, 0, 0)
  else match tokenFault img d.p0 with
    | some f => .error (0x0A, f.1, f.2)
    | none => match chooseBank s d.a1 (storedBank img d.p0) with
      | .denied => .error (0x04, 0, 0)
      | b => .ok b

/-- TOKEN_LOAD on this tile. -/
def tokenLoadOwn (num : Nat) (d : Desc) (img : List Byte) (s : State) : State :=
  match tokenJudge d img s with
  | .error c => partDone num c.1 c.2.1 c.2.2 s
  | .ok (.write b) => partDone num 0 b 0 (writeBank b d.a1 (storedBank img d.p0) (noteBank num s.tile b s))
  | .ok (.same b) => partDone num 0 b 0 (noteBank num s.tile b s)
  | .ok .denied => s

/-- A member only says whether it would take the load (10 R294): RESULT1 1 marks that answer. -/
def tokenCheck (num : Nat) (d : Desc) (img : List Byte) (s : State) : State :=
  match tokenJudge d img s with
  | .error c => partDone num c.1 c.2.1 c.2.2 s
  | .ok _ => partDone num 0 0 1 s

/-- A command with an image from host memory, which waits while the engine may issue no read (09 R258, R261): a failed read ends it; else each part starts, a member's with the image behind it (log
entry 27). `img` is cut or filled to `n` bytes. -/
def startWithImage (e : JEntry) (r : HostRead) (n : Nat) (own : List Byte → State → State) (s : State) : State :=
  if !s.readOk then s
  else match r with
  | .ok b =>
    let img := padTo n b
    let t := keepPiece e.cmd img (s.setEntry e.cmd (fun x => { x with imgCrc := crc32 img }))
    startParts e .member (fun u => own img u)
      ((t.selected e.d).foldl (fun u k => if k = 0 then u else sendMsg 2 k (.ctxData 0 e.cmd img 3) u) t)
  | r => finish e.cmd 0x06 0 0 0 (countFailedRead r s)

/-- Every tile takes the load: each writes it now. -/
def tokenWrite (j : Nat) (s : State) : State :=
  match s.entry j, assoc s.ctx.pieces j with
  | some e, some img =>
    startParts e .member (tokenLoadOwn j e.d img)
      ((s.selected e.d).foldl (fun u k => if k = 0 then u else sendMsg 2 k (.ctxData 0 j img 3) u) s)
  | _, _ => s

/-- A member's answer to a forwarded TOKEN_LOAD: first whether it takes it, then that it is done; a refusal by any tile leaves every bank as
it was (10 R294, log entry 26). -/
def tokenPart (j tile code r0 r1 : Nat) (s : State) : State :=
  match s.entry j with
  | none => s
  | some e =>
    if e.wait = .member then
      (if code = 0 ∧ r1 = 1 then s else tilePart j tile code r0 r1 (if code = 0 then noteBank j tile r0 s else s))
    else if e.wait ≠ .check || !e.tiles.contains tile || (code = 0 && r1 ≠ 1) then s
    else
      let lower := code ≠ 0 && (e.code = 0 || tile < e.ctile)
      let e1 := { e with tiles := e.tiles.filter (· != tile), code := if lower then code else e.code, r0 := if lower then r0 else e.r0,
                         r1 := if lower then r1 else e.r1, ctile := if lower then tile else e.ctile }
      let t := s.setEntry j (fun _ => e1)
      if !e1.tiles.isEmpty then t else if e1.code ≠ 0 then finish j e1.code e1.r0 e1.r1 e1.ctile t else tokenWrite j t

/-- R155: TOKEN_LOAD. For TILE = 0xFF every tile is asked before any writes, so that a refusal changes nothing on any (10 R294). -/
def execTokenLoad (j : Nat) (img : HostRead) (s : State) : Answer :=
  runCommand 0x24 j (fun e u =>
    let ms := (u.selected e.d).filter (· != 0)
    if e.d.tile ≠ 0xFF || ms.isEmpty then startWithImage e img 1024 (tokenLoadOwn j e.d) u
    else if !u.readOk then u
    else match img with
      | .ok b =>
        let b := padTo 1024 b
        match tokenJudge e.d b u with
        | .error c => finish j c.1 c.2.1 c.2.2 0 u
        | .ok _ =>
          let t := keepPiece j b (u.setEntry j (fun x => { x with
            imgCrc := crc32 b, tiles := ms, wait := .check, code := 0, r0 := 0, r1 := 0, ctile := 0 }))
          ms.foldl (fun v k => forward j k e.d (sendMsg 2 k (.ctxData 0 j b 5) v)) t
      | r => finish j 0x06 0 0 0 (countFailedRead r u)) s

end Sys2Proof.Machine
end

