-- ==== Sys2Proof/Machine/Integrity.lean ====
section
/-! DEFINITION. Parity errors (18 R477 to R488): what each store's error discards and restores, the scrub, and the journal after a
core 0 restart (10 R303). -/

namespace Sys2Proof.Machine

/-- The frame in processing is discarded for a parity error; a calibration frame then counts as none. -/
def discardParity (s : State) : State :=
  if s.chn.prev.dcause = 0 then discardPrev 2 (uncountCal s.chn.prev s) else s

/-- A parity error in what the frame in processing acquired: PARITY in its store header (03 R68), and the frame is discarded. -/
def discardAcquired (s : State) : State :=
  let f := s.chn.prev
  discardParity (if f.kind == .none || f.kind == .lineTest then s else setHdrFlag f.epoch 1 s)

/-- A parity error in the listen data or in the noise and weights (18 R482). The listen data of the frame being scanned lie in the same
bytes as those of the frame before; while its noise is not computed, the frame hit is that one, and it decides no hop. -/
def listenFault (addr : Nat) (s : State) : State :=
  if decide (listenData ≤ addr ∧ addr < baseSelf) && s.scans && (s.chn.seg == 3 || (s.chn.seg == 4 && !s.chn.cur.noiseOk)) then
    setHdrFlag s.chn.cur.epoch 1 (discardCur 2 { s with chn.cur.listenBad := true })
  else discardAcquired s

/-- A restore of trim RAM that is due is done (05 R125). -/
def trimDueNow (s : State) : State := if s.cal.trimDue then restoreTrim { s with cal.trimDue := false } else s

/-- After a mutual segment: the restore that a parity error asked for, unless a full calibration supersedes it (18 R482, R485). -/
def trimAfterMutual (s : State) : State := if s.cal.fullDue.isSome then { s with cal.trimDue := false } else trimDueNow s

/-- A parity error in the trim shadow (18 R482): copied again from trim RAM, by the end of the search when one runs; found during a restore,
a full calibration instead, which is then also what the trim RAM's own event names. -/
def shadowFault (s : State) : Nat × State :=
  if s.cal.trimDue then
    (4, requestFull false { s with
      cal.trimDue := false
      evt.parThis := s.evt.parThis.map (fun r => if r.1 == 4 && r.2.2.1 == 3 then (4, r.2.1, 4, r.2.2.2) else r) })
  else (14, if s.cal.kind == .full && s.cal.phase == 4 then s else saveTrim s)

/-- An entry is executed again from its descriptor. -/
def again (e : JEntry) : JEntry :=
  { e with stage := .issued, wait := .start, tiles := [], resent := [], code := 0, r0 := 0, r1 := 0, ctile := 0, flushed := false }

/-- An ISSUED entry after a fault (10 R303): executed again when safe to replay, a check abandoned, otherwise INTERRUPTED. -/
def replayIssued (e : JEntry) (s : State) : State :=
  if e.stage ≠ .issued then s
  else if e.d.opcode = 0x11 ∨ e.d.opcode = 0x12 then (if e.decided then s else abandonCheck e.cmd s)
  else if ((opInfo e.d.opcode).map (·.idem)).getD false then s.setEntry e.cmd again
  else finish e.cmd 0x09 0 0 0 s

/-- A damaged entry that is safe to replay starts again once its descriptor has been read again (10 R303). -/
def refetchEntry (e : JEntry) (s : State) : State :=
  askRetained [.refetch e.cmd] (s.setEntry e.cmd (fun x => { again x with wait := .refetch }))

/-- The opcode is safe to replay, and not one whose check is abandoned. -/
def replaySafe (op : Nat) : Bool := op != 0x11 && op != 0x12 && ((opInfo op).map (·.idem)).getD false

/-- A damaged journal entry (10 R303). A COMMIT or SWITCH that was decided counts as APPLIED (R296): it still applies, and ends INTERRUPTED. -/
def journalFault (i : Nat) (s : State) : State :=
  match s.jrn[i]? with
  | none => s
  | some e =>
    let t := s.setEntry e.cmd (fun x => { x with redo := true })
    match e.stage with
    | .issued => startReplay (if replaySafe e.d.opcode then refetchEntry e t else if e.decided then finish e.cmd 0x09 0 0 0 t else replayIssued e t)
    | .applied =>
      startReplay (if replaySafe e.d.opcode then refetchEntry e t
        else t.setEntry e.cmd (fun x => { x with code := 0x09, r0 := 0, r1 := 0 }))
    | .posted => s
    | .retained => { s with jrn := s.jrn.eraseIdx i }

/-- A context image whose IMAGE_CRC is right (08 R240). -/
def imageGood (img : List Byte) : Bool := crc32 (img.drop 0x40) == leAt img 0x00C 4

/-- What mends a damaged context slot (18 R482): the action code and the state. -/
def slotFault (n : Nat) (s : State) : Nat × State :=
  match s.slot n with
  | .active =>
    if s.isMember then (8, sendMsg 1 0 (.hello true s.tile s.ctx.gen) { s with ctx.bad := s.ctx.bad.filter (· != n) ++ [n] })
    else
      let img := s.mem.read captureStaging 0x800
      if imageGood img then
        (8, { s with mem := s.mem.write (slotBase n) img, ctx.bad := s.ctx.bad.filter (· != n), ctx.restored := true })
      else (16, { s with ctx.stopped := true })
  | .pending =>
    if imageGood s.ctx.copy && !s.ctx.copyBad then
      (8, { s with mem := s.mem.write (slotBase n) s.ctx.copy, ctx.bad := s.ctx.bad.filter (· != n) })
    else (16, { s with ctx.bad := s.ctx.bad ++ [n], ctx.copyBad := true })
  | .draining => (1, { s with ctx.bad := s.ctx.bad ++ [n] })
  | _ => (0, { s with ctx.bad := s.ctx.bad ++ [n] })

/-- A damaged dictionary bank (18 R482) is loaded again from the host image of its RETAINED TOKEN_LOAD, whose bytes are the bank's own, or
from the boot bank. A member's bank is the root's to load, which the PARITY event moves to it. -/
def bankFault (b : Nat) (t : State) : State :=
  let held := t.retainedBank t.tile b
  if !held.isEmpty then (if t.isMember then t else askRetained (held.map (fun e => ReadReq.retained e.cmd 0)) t)
  else if t.isMember then t else bankFromBoot 0 b t

/-- The retention item that holds an offset (16 R441). -/
def retItem (o : Nat) : Nat :=
  if o < 0xA8 then 0 else if o < 0xD0 then 0xA8 else if o < 0xE0 then 0xD0 else if o < 0x100 then 0xE0 else if o < 0x200 then 0x100
  else if o < 0x800 then 0x200 else 0x800

/-- The number of the root's own READ_CONTEXT of a member's ACTIVE image, which no journal entry holds. -/
def storeNum : Nat := 0xFFFFFFFE

/-- A damaged image of the state store is read again from the tile's ACTIVE slot, over the ring for a member (18 R482): the slot is the one
that the stored image names (log entry 118). -/
def storeFault (addr : Nat) (s : State) : State :=
  let k := (addr - captureStaging) / 0x800 % 64
  if k = 0 then
    match s.activeSlot with
    | some n => { s with mem := s.mem.write captureStaging (s.image n) }
    | none => s
  else if s.isOnline k then
    let slot := s.mem.le (captureStaging + 0x800 * k + 1) 1 % 8
    sendMsg 1 k (.cmd storeNum { opcode := 0x13, ord := false, dfence := false, rsv := false, tag := 0, tile := k, a0 := slot, a1 := 0,
                                 addr := 0, p0 := 0, p1 := 0, p2 := 0, p3 := 0 }) s
  else s

/-- A parity error in Crook's buffers (18 R482): the neighbour's fragments of that frame are gone, and the merge is one without them. Which
neighbour and frame the address names is log entry 104. -/
def fragFault (addr : Nat) (s : State) : State :=
  match ((s.crl.own.map (fun r => r.nbrs.map (·.1))).getD [])[(addr - crookBuf) / 0x400 % 8]? with
  | none => s
  | some k =>
    let hit (g : FragSet) : Bool := g.src == k && g.epoch % 2 == (addr - crookBuf) / 0x2000 % 2
    { s with crook.sets := s.crook.sets.filter (fun g => !hit g)
             crook.waiting := if s.crook.sets.any (fun g => hit g && add32 g.epoch 1 == s.epoch) then s.crook.waiting ++ [k]
               else s.crook.waiting }

/-- What a parity error in a store discards (18 R482). -/
def parityDrop (h : ParityHit) (s : State) : State :=
  match h.store with
  | 0x01 => discardAcquired s
  | 0x02 => discardParity s
  | 0x03 => listenFault h.addr s
  | 0x04 => discardAcquired s
  | 0x05 => discardAcquired s
  | 0x06 => discardParity s
  | 0x07 => selfLost s
  | 0x08 => selfLost s
  | 0x09 => discardParity s
  | 0x0B => if s.slot (h.index % 8) == .active || s.slot (h.index % 8) == .draining then discardParity s else s
  | 0x0C => if s.bankUsed (h.index % 2) then { s with tok.bad := true } else s
  | 0x14 => fragFault h.addr s
  | 0x13 => if h.index < s.rpt.hold.length then
      endEpisode (storeHold { s with rpt.hold := s.rpt.hold.eraseIdx h.index, rpt.lost := add32 s.rpt.lost 1 }) else s
  | _ => s

/-- What the device recomputes for it (18 R482), and the action code. A full calibration takes the place of a rebuilt baseline (R485). -/
def parityMend (h : ParityHit) (s : State) : Nat × State :=
  match h.store with
  | 0x01 => (1, s)
  | 0x02 => (1, s)
  | 0x03 => (1, s)
  | 0x04 => (3, { s with cal.trimDue := true })
  | 0x05 => (4, requestFull false s)
  | 0x06 => (5, if s.cal.fullDue.isSome || (s.cal.kind == .full && !s.cal.baseOnly) then s
      else { s with cal.baseDue := true, cal.maskSus := s.trk.mask })
  | 0x07 => (6, { s with cal.selfFix := s.cal.selfFix ++ [h.index] })
  | 0x08 => (4, requestFull false s)
  | 0x09 => (7, { s with trk.rebuild := true })
  | 0x0B => slotFault (h.index % 8) s
  | 0x0C => (9, bankFault (h.index % 2) s)
  | 0x0D => (11, journalFault h.index s)
  | 0x0E => (8, storeFault h.addr s)
  | 0x0F => (10, recoveryTrap { s with boot.restartPar := true })
  | 0x11 => shadowFault s
  | 0x12 => (2, s)
  | 0x13 => (13, s)
  | 0x14 => (12, s)
  | 0x15 => (1, s)
  | 0x16 => (15, { s with pwr.retBad := s.pwr.retBad ++ [retItem (h.addr - retBase)] })
  | _ => (0, s)

/-- The damaged item that the PARITY event names, for the stores that have one (18 R486). -/
def parityItem (h : ParityHit) : Nat := if [0x04, 0x05, 0x07, 0x0B, 0x0C, 0x0D].contains h.store then h.index else 0

/-- The mending and the PARITY event of a detection (18 R486). -/
def parityAct (h : ParityHit) (s : State) : State :=
  let (a, t) := parityMend h s
  parityEvent h.store (parityItem h) a t

/-- What follows a detection: what it damaged is discarded. Mending and event follow; a core 0 restart, which a
detection in core 0's own memory begins, defers them (R485). -/
def parityFound (h : ParityHit) (s : State) : State :=
  let t := parityDrop h (noteBad h.store h.addr s)
  if h.store = 0x0F then (parityMend h t).2
  else if t.boot.phase == .restart then { t with boot.parWait := t.boot.parWait ++ [h] }
  else parityAct h t

/-- One detection (18 R486), captured and counted. -/
def parityHit (h : ParityHit) (s : State) : State := parityFound h (captureParity h.store h.addr s)

/-- The item that an address names in a store that a Mute job reads (18 R486): the slot, or the pin of a self baseline or self delta. -/
def itemAt (a : Nat) : Nat :=
  if ctxBase ≤ a ∧ a < ctxBase + 0x4000 then (a - ctxBase) / 0x800
  else if baseSelf ≤ a ∧ a < selfDelta then (a - baseSelf) / 4
  else if selfDelta ≤ a ∧ a < noiseArea then (a - selfDelta) / 4 % 320
  else 0

/-- Several detections in one reading: those of a context slot first, whose restoring comes before every other action (18 R485). -/
def parityHits (par : List ParityHit) (s : State) : State :=
  (par.filter (·.store == 0x0B) ++ par.filter (·.store != 0x0B)).foldl (fun t h => parityHit h t) s

/-- R125: the trim RAM restored from its shadow, `par` being what fails its parity check in reading it. -/
def execTrimRestore (par : List ParityHit) (s : State) : Answer :=
  answer s (if s.clk.core && s.clk.afe then
    trimDueNow (parityHits par { s with cal.trimDue := true }) else s)

/-- R479: the scrub reads its stores; a failed read is handled as any other of that store. -/
def execScrubRead (par : List ParityHit) (s : State) : Answer :=
  answer s (if !s.fwRuns || !(s.pwr.state == .active || s.pwr.state == .idleScan) then s
    else parityHits par s)

/-- Core 0 leaves boot mode for the image at 0x1000_0000 (19 R493 step 7). -/
def startImage (s : State) : State :=
  { s with core0 := { s.core0 with brm := false, pc := BitVec.ofNat 32 codeBase, ld := none, slot := [], waiting := false } }

/-- R484, R303: the firmware is loaded again and runs, and with it its code and data are written anew (log entry 132): the journal is handled, READY returns to 1 and what was deferred is posted. -/
def finishRestart (s : State) : State :=
  let t := startImage { s with boot.phase := .running, boot.ready := true, boot.fwvalid := true, boot.reload := false
                               parBad := s.parBad.filter (fun a => storeAt s a != 0x0F) }
  let t := if t.isMember then
      t.evt.buf.foldl (fun u e => postEventAt e.epoch e.code e.d0 e.d1 u) { t with evt.buf := [] } else t
  let owes (e : JEntry) : JEntry := { e with redo := e.redo || e.stage == .issued || e.stage == .applied }
  let t := startReplay (t.jrn.foldl (fun u e => replayIssued e u) { t with jrn := t.jrn.map owes })
  let t := if t.boot.restartPar then parityEvent 0x0F 0 10 { t with boot.restartPar := false } else t
  (t.boot.parWait.filter (·.store == 0x0B) ++ t.boot.parWait.filter (·.store != 0x0B)).foldl (fun u h => parityAct h u)
    { t with boot.parWait := [] }

end Sys2Proof.Machine
end

