-- ==== Sys2Proof/Machine/Pins.lean ====
section
/-! DEFINITION. What stands on the electrode and shield pins (02 R38, R48, R49, R50, R51, 03 R55, R60 to R63, 04 R93, R94, R103, 16 R434,
R435): the output state of each pin by role, segment and line status, and the waveforms as exact phases. -/

namespace Sys2Proof.Machine

/-- The output state of a pin. Centre levels are in units of 100 µV. -/
inductive PinOut where
  | highZ
  /-- `VCM` through 2 kΩ typical: an unused pin. -/
  | weak
  /-- Held at `VCM` by its Reed. -/
  | vcmReed
  /-- Held at `VCM`, low impedance, by its own driver or by the shield driver. -/
  | vcm
  /-- Quiet: the 2.50 V centre level, low impedance. -/
  | quiet
  /-- The code waveform of a drive line. -/
  | code (line : Nat)
  /-- Measured in a self pass: the driver is off, a Reed holds the pin around its centre level. -/
  | measured (centre : Nat)
  /-- A follower, driven around its centre level. -/
  | follower (centre : Nat)
  /-- Measured with its gang in a Drone burst. -/
  | gang (g centre : Nat)
  /-- Line test, coupling phase: 2.50 V, raised to 3.50 V in the turn of this number. -/
  | raised (turn : Nat)
deriving DecidableEq, Repr

/-- `VCM` and the drive centre level in units of 100 µV (02 R38). -/
def vcmLevel : Nat := 16500
def driveLevel : Nat := 25000
/-- The level of a pin raised in the coupling phase (02 R50). -/
def raisedLevel : Nat := 35000

/-- The centre level of a line of a role (04 R93). -/
def centreOf (role : Nat) : Nat := if role = 1 then driveLevel else vcmLevel

/-- A mapped line that is faulted with a code other than 0x6 (02 R49). -/
def heldOut (role code : Nat) : PinOut := if codeFloats code then .highZ else if role = 1 then .quiet else .vcm

/-- A pin of a role while the context is active and its line is good (02 R38, 04 R93); `cut`: its chain is disconnected from it for an
injection frame (05 R121). -/
def segmentOut (seg role line : Nat) (cut : Bool) : PinOut :=
  if role = 0 then .weak
  else if role = 1 then
    (if seg = 0 then .code line else if seg = 1 then .follower driveLevel else if seg = 2 then .measured driveLevel else .quiet)
  else if role = 2 then
    (if seg = 0 then (if cut then .vcm else .vcmReed) else if seg = 1 then .measured vcmLevel else if seg = 2 then .follower vcmLevel
     else if seg = 3 then .vcmReed else .vcm)
  else if seg = 1 ∨ seg = 2 then .follower vcmLevel else .vcm

/-- The segment whose pin states a phase of the line test shows where it gives none of its own: the self passes A and B in the Self phase
(02 R50, 04 R93), the guard interval otherwise. -/
def testSeg (phase pass : Nat) : Nat := if phase = 2 then 1 + pass else 4

/-- A pin in a line test (02 R50): every mapped pin at 2.50 V, raised in its turn, then the two self passes. DESIGN CHOICE: shield followers
and unused pins outside the self passes, and the lines after them, stand as in the guard interval (log entry 122). -/
def testOut (phase pass role line pin code : Nat) : PinOut :=
  if role = 0 ∨ role = 3 then segmentOut (testSeg phase pass) role line false
  else if code = 7 then heldOut role code
  else if phase = 0 then .quiet else if phase = 1 then .raised pin
  else segmentOut (testSeg phase pass) role line false

/-- The gang of a line (16 R434). -/
def gangOf (role line d s : Nat) : Nat := if role = 2 then 4 * line / s else 4 + 4 * line / d

/-- A pin in a step of a Drone burst (16 R434, R435): in steps 0 to 8 the gangs are measured and the rest follows; in steps 9 and 10 all
drivers are quiet and the Reeds 0 to 7 go on mixing, so the pins of the gangs stay at their centre level. -/
def droneOut (s : State) (step slot pin : Nat) : PinOut :=
  let e := s.mapEntry slot pin
  let role := mapRole e
  let left := role == 3 || codeBad (s.codeOf pin)
  if role = 0 then .weak
  else if 9 ≤ step then (if role = 1 then .quiet else if left then .vcm else .vcmReed)
  else if left then .follower (centreOf role)
  else .gang (gangOf role (mapLine e) (s.dLines slot) (s.sLines slot)) (centreOf role)

/-- A shield pin in a step of a Drone burst. -/
def droneShield (step : Nat) : PinOut := if 9 ≤ step then .vcm else .follower vcmLevel

/-- The step of a Drone burst whose pin states the model shows while no burst runs; DESIGN CHOICE, since the manual says nothing of the time
between bursts (log entry 92): the quiet one. -/
def restStep : Nat := 10

/-- The slot whose map the pins follow: they switch in the guard interval before E_a (02 R37); before the first context applies there is none
(R38). -/
def State.pinSlot (s : State) : Option Nat := if s.ctx.switched && s.activeSlot.isSome then s.pendingSlot else s.activeSlot

/-- No context gives the pins a role yet, or none is left (02 R38, 18 R482), or the drivers are without power (16 R440). -/
def State.pinsFloat (s : State) : Bool :=
  s.boot.phase == .held || s.pinSlot.isNone || s.pwr.state == .dormant || s.ctx.stopped || s.ctx.waits || (!s.clk.afe && s.pwr.state != .drone)

/-- The pin's own driver is on (02 R47): it can trip. -/
def PinOut.driven : PinOut → Bool
  | .vcm => true
  | .quiet => true
  | .code _ => true
  | .follower _ => true
  | .raised _ => true
  | _ => false

/-- The output state of electrode pin `E<pin>` now. A tripped driver is off (02 R48); a pin that a Reed holds needs none (04 R93). -/
def State.pinOut (s : State) (pin : Nat) : PinOut :=
  if s.pinsFloat then .highZ
  else
    let slot := s.pinSlot.getD 0
    let e := s.mapEntry slot pin
    let role := mapRole e
    let code := s.codeOf pin
    if s.pwr.state = .drone then droneOut s restStep slot pin
    else if s.elec.ltLeft ≠ 0 then testOut s.elec.ltPhase s.elec.ltPass role (mapLine e) pin code
    else
      let o := if (role = 1 ∨ role = 2) && codeHeld code then heldOut role code
        else segmentOut s.chn.seg role (mapLine e) (s.chn.cur.kind.injects (mapLine e))
      if s.elec.tripped.contains pin && o.driven then .highZ else o

/-- The output state of shield pin `SH<n>` now (02 R38, 04 R93, R103). -/
def State.shieldOut (s : State) (n : Nat) : PinOut :=
  if s.pinsFloat then .highZ
  else if s.pwr.state = .drone then droneShield restStep
  else if s.elec.shFault || s.elec.shTripped.contains n then .highZ
  else segmentOut (if s.elec.ltLeft ≠ 0 then testSeg s.elec.ltPhase s.elec.ltPass else s.chn.seg) 3 0 false

/-- The level that the device drives on GPIO pin `GPIO<j>` now: none while the pin is an input, as it is until the tile record is applied, and
until a context applies (17 R471, 19 R490; log entry 135). -/
def State.gpioPin (s : State) (j : Nat) : Option Bool :=
  if s.pwr.gpio.getD j 0 < 2 || s.activeSlot.isNone then none else some (s.pwr.gpioOut.getD j false)

/-- The driver of a mapped pin that is on while the tile scans (02 R47). -/
def State.driverOn (s : State) (pin : Nat) : Bool :=
  let role := mapRole (s.mapEntry (s.pinSlot.getD 0) pin)
  (role == 1 || role == 2) && (s.pinOut pin).driven

/-! ### Waveforms -/

/-- The code element of drive line `d` at step `t` (03 R63); rows D to 127 have no line. -/
def driveCode (cs d t : Nat) : Int := walsh d t * (chips cs).getD t 1

/-- A level as the waveform rules give it: centre + sign x peak x (the sum of sin over the phases), the centre and the peak in units of
100 µV and each phase in 1/192 of a turn. -/
structure Wave where
  centre : Nat
  peak : Nat
  sign : Int
  phases : List Nat
deriving DecidableEq, Repr

/-- A carrier at slot `k` at DAC sample `m` of a step: phase zero at the step boundary, k whole cycles in the 192 samples. -/
def carrierPhase (k m : Nat) : Nat := k * m % 192

/-- The peak of each carrier of the code waveform: A / 4 for 3.3 Vpp and 5.0 Vpp (02 R39, 03 R60). -/
def drivePeak (amp : Nat) : Nat := if amp = 0 then 8250 else 12500

/-- The code waveform of drive line `d` at DAC sample `m` of step `t` (03 R60). -/
def driveWave (p : Params) (d t m : Nat) : Wave :=
  { centre := driveLevel, peak := drivePeak p.amp, sign := driveCode p.cs d t, phases := [carrierPhase p.kp m, carrierPhase p.ks m] }

/-- The self waveform at DAC sample `m` around a centre level: 0.125 V each carrier, no code (04 R94). -/
def selfWave (p : Params) (centre m : Nat) : Wave :=
  { centre := centre, peak := 1250, sign := 1, phases := [carrierPhase p.kp m, carrierPhase p.ks m] }

/-- The waveform of a Drone burst: one carrier at k_d with a peak of 0.0125 V (16 R434). -/
def droneWave (slot centre m : Nat) : Wave := { centre := centre, peak := 125, sign := 1, phases := [carrierPhase slot m] }

/-- A constant level. -/
def levelWave (centre : Nat) : Wave := { centre := centre, peak := 0, sign := 0, phases := [] }

/-- The turns of the coupling phase in DAC samples: 20 µs each, of 192 samples in 12 µs (02 R50, 03 R60). -/
def turnSamples : Nat := 320

/-- The level of a pin in an output state at DAC sample `m` of the step under way, or in a line test of its phase; none of a pin that floats.
DESIGN CHOICE: the coupling phase raises the pins in the order of their numbers (log entry 122). -/
def State.waveOf (s : State) (o : PinOut) (m : Nat) : Option Wave :=
  let p := s.params s.epoch
  match o with
  | .highZ => none
  | .weak => some (levelWave vcmLevel)
  | .vcmReed => some (levelWave vcmLevel)
  | .vcm => some (levelWave vcmLevel)
  | .quiet => some (levelWave driveLevel)
  | .raised n => some (levelWave (if m / turnSamples = n then raisedLevel else driveLevel))
  | .code d => some (driveWave p d s.chn.step m)
  | .measured c => some (selfWave p c m)
  | .follower c => some (if s.pwr.state = .drone then droneWave s.drone.slot c m else selfWave p c m)
  | .gang _ c => some (droneWave s.drone.slot c m)

/-- A charge put in at an amplifier's input: the peak in fC, and the phase of the carrier in 1/192 of a turn. -/
structure Charge where
  peak : Int
  phase : Nat
deriving DecidableEq, Repr

/-- LSB of the trim DACs in fC (02 R44). -/
def trimLsb (amp : Nat) : Nat := if amp = 0 then 33 else 50

/-- The charges that the trim DAC of chain `c` injects at DAC sample `m` of the step under way (02 R44): in the mutual segment code × LSB ×
carrier, once for each role; nothing in any other segment. A chain under injection takes the code of 05 R121 instead, in its Ky steps. -/
def State.trimCharges (s : State) (c m : Nat) : List Charge :=
  let p := s.params s.epoch
  let lsb : Int := (trimLsb p.amp : Nat)
  let t := s.chn.step
  if s.chn.seg ≠ 0 ∨ 128 ≤ t ∨ p.s ≤ c then []
  else if s.chn.cur.kind.injects c then
    (if 40 ≤ t ∧ t < 80 then [{ peak := ((32 * 2 ^ p.gain : Nat) : Int) * lsb, phase := carrierPhase (2 + (t - 40) / 8) m }] else [])
  else (List.zip [0, 1] [p.kp, p.ks]).map (fun rk =>
    { peak := sext 10 (s.mem.le (trimRam + 2 * (256 * c + 128 * rk.1 + t)) 2) * lsb, phase := carrierPhase rk.2 m })

/-- The level on electrode pin `E<pin>` at DAC sample `m` of the step under way. -/
def State.pinWave (s : State) (pin m : Nat) : Option Wave := s.waveOf (s.pinOut pin) m

end Sys2Proof.Machine
end

