-- ==== Sys2Proof/Machine/Scan.lean ====
section
/-! DEFINITION. The scan of a frame and its decoding (02 R36 to R53, 03 R55 to R92, 04 R93 to R105, 05 R142, R143): steps, noise, hops,
trips, the line test, the temperature sample, and the delta frame with the self deltas. -/

namespace Sys2Proof.Machine

/-! ### Steps -/

/-- The chains whose data a frame's segment reads: the Reeds S and up are powered down (02 R36, 04 R93). -/
def segOf (step : Nat) : Nat := if step < 128 then 0 else if step < 140 then 1 else if step < 152 then 2 else 3

/-- The slot that an injection step mixes (05 R121). -/
def injectSlot (t : Nat) : Nat := if t < 40 then 2 + t / 8 else 2 + (t - 40) / 8

/-- Overrange samples of a window (02 R43). -/
def overCount (x : List Int) : Nat := (x.filter overrange).length

/-- The two stored values of a mutual step: y for each role, or I′ and Q′ of a chain under injection (05 R121, log entry 28). -/
def mutualPair (s : State) (p : Params) (t c : Nat) (x : List Int) : Int × Int :=
  if s.chn.cur.kind.injects c && decide (t < 80) then
    let iq := mixIQ (injectSlot t) x
    (satI 24 iq.1, satI 24 iq.2)
  else (stepValue (mixIQ p.kp x) (s.pair c p.kp), stepValue (mixIQ p.ks x) (s.pair c p.ks))

/-- The mutual part of a step: step values, status record, overrange counts (03 R65, R66, R68). -/
def mutualStep (t : Nat) (p : Params) (x : List (List Int)) (s : State) : State :=
  let e := s.epoch
  let chains := List.range p.s
  let w (u : State) (c : Nat) : State :=
    let v := mutualPair s p t c (x.getD c [])
    { u with mem := (u.mem.putLeI (stepStore e + 3 * (256 * c + t)) 3 v.1).putLeI (stepStore e + 3 * (256 * c + 128 + t)) 3 v.2 }
  let n := (chains.filter (fun c => overCount (x.getD c []) != 0)).length
  let old := s.mem.le (statusBase e + 8 * t) 1
  let u := chains.foldl w s
  { u with
    mem := u.mem.write (statusBase e + 8 * t) (leBytes 1 (pack [(b2n (bit old 0), 0), (b2n (n != 0), 1), (b2n (bit old 2), 2)]) ++
      leBytes 1 0 ++ leBytes 2 n ++ leBytes 4 0)
    chn.cur.ovr := chains.map (fun c => u.chn.cur.ovr.getD c 0 + overCount (x.getD c [])) }

/-- Trim RAM entries that read with bad parity in a step (03 R68, 18 R482): TPAR, the header's PARITY, the frame
discarded, the restore from the shadow after the mutual segment. The byte offset within trim RAM is open, since the manual does not lay that RAM out. -/
def trimParity (t : Nat) (chains : List Nat) (s : State) : State :=
  match chains with
  | [] => s
  | c :: cs =>
    let u := (c :: cs).foldl (fun v _ =>
      let (w, v) := draw v
      captureParity 0x04 (w.toNat % 61440) v) s
    let a := statusBase s.epoch + 8 * t
    let u := setHdrFlag s.epoch 1 { u with cal.trimDue := true, mem := u.mem.putLe a 1 (u.mem.le a 1 % 4 + 4) }
    parityEvent 0x04 (cs.foldl Nat.min c) 3 (discardCur 2 u)

/-- A step of a self pass: the sums of its used steps, and after the last one the self values (04 R96, R98). -/
def selfStep (pass j : Nat) (p : Params) (x : List (List Int)) (s : State) : State :=
  if j = 0 then s
  else
    let m := s.pinMap p.ctx
    let pins := if pass = 0 then m.sense else m.drive
    let one (l : List (Nat × Int × Int × Bool)) (ci : Nat × Nat) : List (Nat × Int × Int × Bool) :=
      if s.chn.cur.held ci.2 then l
      else
        let w := x.getD ci.1 []
        let o := (assoc l ci.2).getD (0, 0, false)
        file l ci.2 (o.1 + stepValue (mixIQ p.kp w) (s.pair ci.1 p.kp), o.2.1 + stepValue (mixIQ p.ks w) (s.pair ci.1 p.ks),
          o.2.2 || overCount w != 0)
    let idx := List.zip (List.range pins.length) pins
    let t := { s with chn.cur.self := idx.foldl one (if j = 1 then [] else s.chn.cur.self) }
    if j ≠ 11 then t
    else idx.foldl (fun u ci =>
      match assoc t.chn.cur.self ci.2 with
      | none => u
      | some v =>
        let f : Int := (u.mem.le (scaleRam + 2 * (2 * ci.1 + pass)) 2 : Nat)
        let sv (y : Int) : Int := if v.2.2 then 8388607 else satI 24 (asr (y * f + 524288) 20)
        { u with mem := u.mem.write (selfBase s.epoch + 6 * ci.2) (intBytes 3 [sv v.1, sv v.2.1]) }) t

/-- A step of the listen segment (03 R74). -/
def listenStep (j : Nat) (p : Params) (x : List (List Int)) (s : State) : State :=
  let chains := List.range p.s
  let s0 := if j = 0 then { s with mem := s.mem.clear (listenData + 120 * p.s) (120 * (192 - p.s)) } else s
  let t := chains.foldl (fun u c => (List.range 5).foldl (fun v k =>
    { v with mem := v.mem.putLe (listenData + 3 * (40 * c + 8 * k + j)) 3 (magnitude (mixIQ (k + 2) (x.getD c []))) }) u) s0
  { t with chn.cur.listenOvr := t.chn.cur.listenOvr ++ chains.filter (fun c => overCount (x.getD c []) != 0) }

/-- A step of the two self passes of a line test ends (02 R50): pass B begins after step 139. -/
def testStep (step : Nat) (s : State) : State :=
  if s.elec.ltPhase = 2 ∧ 128 ≤ step ∧ step < 152 then { s with elec.ltPass := if step < 139 then 0 else 1 } else s

/-- R56: a 12 µs step ends: `x` holds the 48 samples of each powered chain, `tpar` the chains whose trim entry read with bad parity. -/
def execScanStep (step : Nat) (x : List (List Int)) (tpar : List Nat) (s : State) : Answer :=
  answer s (if s.scans && s.chn.cur.kind == .lineTest then testStep step s
    else if !s.scans || s.chn.cur.kind == .none || 160 ≤ step then s
    else
      let p := s.params s.epoch
      let x := x.map (fun w => w.map adcSample)
      let t := if step < 127 then trimParity step tpar (mutualStep step p x s)
        else if step = 127 then trimAfterMutual (trimParity step tpar (mutualStep step p x s))
        else if step < 140 then selfStep 0 (step - 128) p x s
        else if step < 152 then selfStep 1 (step - 140) p x s
        else listenStep (step - 152) p x s
      { t with chn.step := if step = 159 then 0xFF else step + 1, chn.seg := if step = 159 then 4 else segOf (step + 1) })

/-! ### Trips -/

/-- A code that changes while a frame is scanned: the line is held or good from now on, and its Reed output in that frame is discarded with it
(02 R49). -/
def setCodeNow (pin c : Nat) (s : State) : State :=
  let t := setCode pin c s
  let rest := t.chn.cur.faults.filter (fun x => x.1 != pin)
  { t with chn.cur.faults := if c = 0 then rest else rest ++ [(pin, c)] }

/-- Trips of a pin with no trip-free whole frame between them; the third latches code 0x2 or 0x3, which takes the place of 0x0 or 0x6 only: a
latched code stands until a test or a switch (02 R47, R49, R523). -/
def countTrip (pin : Nat) (sourcing : Bool) (s : State) : State :=
  let n := match s.elec.tripRun.find? (fun r => r.1 == pin) with
    | some r => r.2.1 + 1
    | none => 1
  let t := { s with elec.tripRun := s.elec.tripRun.filter (fun r => r.1 != pin) ++ [(pin, n, sourcing)]
                    elec.tripThis := s.elec.tripThis ++ [pin], elec.tripCnt := cnt 16 s.elec.tripCnt 1
                    elec.tripped := s.elec.tripped ++ [pin] }
  let t := raise 15 t
  if n < 3 || codeHeld (t.codeOf pin) then t
  else setCodeNow pin (if sourcing then 2 else 3) { t with elec.tripRun := t.elec.tripRun.filter (fun r => r.1 != pin) }

/-- The trip of a driving drive line: TRIP in the step's status record and DISTURBED in the header, and the frame is discarded (02 R48). -/
def disturbFrame (s : State) : State :=
  let a := statusBase s.epoch + 8 * s.chn.step
  let old := s.mem.le a 1
  let t := if s.chn.step < 128 && !bit old 0 then { s with mem := s.mem.putLe a 1 (old + 1) } else s
  setHdrFlag s.epoch 0 (discardCur 1 t)

/-- R47, R48: an overcurrent trip of a driver that is on. One that was driving its code disturbs the frame; a follower of a self pass has its
self value replaced; from the guard interval on the driver stays off through the next frame's mutual segment. -/
def execDriverTrip (pin : Nat) (sourcing : Bool) (s : State) : Answer :=
  answer s (if !s.scans || 320 ≤ pin || s.chn.cur.kind == .lineTest || !s.driverOn pin then s
    else
      let t := countTrip pin sourcing s
      match s.pinOut pin with
      | .code _ => disturbFrame t
      | .follower _ => { t with chn.cur.selfRep := t.chn.cur.selfRep ++ [pin] }
      | _ => t)

/-- R103: an SH driver trips: in the mutual segment or a self pass the frame's self data is invalid; the third trip latches the fault. -/
def execShieldTrip (sh : Fin 4) (s : State) : Answer :=
  answer s (if !s.scans || s.elec.shFault || s.elec.shTripped.contains sh.val then s
    else
      let n := (assoc s.elec.shRun sh.val).getD 0 + 1
      let t := { s with elec.shRun := file s.elec.shRun sh.val n, elec.shThis := s.elec.shThis ++ [sh.val]
                        elec.shTrips := cnt 16 s.elec.shTrips 1, elec.shTripped := s.elec.shTripped ++ [sh.val] }
      let t := raise 15 t
      let t := if s.chn.seg ≤ 2 then { t with chn.cur.selfBad := true } else t
      if n < 3 then t else postEvent 0x04 sh.val 0 { t with elec.shFault := true })

/-! ### Guard interval, temperature -/

/-- The filtered temperature (05 R142): the mean of the latest 16 samples, or of those there are. -/
def meanTemp (l : List Int) : Int := if l.isEmpty then 0 else sumI l / (l.length : Nat)

/-- Whether the filtered temperature has left TCAL by RECAL_DT (05 R143). -/
def tempDue (s : State) : Bool :=
  let dt := s.act 0x314 1
  dt != 0 && decide (2 * dt ≤ (s.cal.tnow - s.cal.tcal).natAbs)

/-- The trigger of 05 R143 in ACTIVE; ignored during a calibration (05 R146). Before the first full calibration, which follows the boot
line test, there is nothing that a temperature could have moved away from. -/
def tempTrigger (s : State) : State :=
  if !tempDue s || s.calBusy || !s.fwRuns || !s.elec.ltBoot then s
  else if s.pwr.state = .active then { s with cal.groupDue := some false, cal.tempHeld := false }
  else { s with cal.tempHeld := true }

/-- R55: the guard/settle interval begins: tripped drivers are re-enabled, pins that change role switch, the temperature is sampled. -/
def execGuardSettleStart (temp : Int) (s : State) : Answer :=
  answer s (if !s.clk.afe || !s.clk.core || !s.chn.timer then s
    else
      let t := { s with chn.seg := if s.chn.cur.kind == FrameKind.lineTest then 6 else if s.chn.cur.kind == FrameKind.none then 7 else 4
                        chn.step := 0xFF, elec.tripped := []
                        elec.shTripped := if s.elec.shFault then s.elec.shTripped else []
                        cal.temps := (s.cal.temps ++ [clampI (-512) 511 temp]).drop (s.cal.temps.length + 1 - 16) }
      let m := meanTemp t.cal.temps
      let t := raise 39 { t with cal.tnow := m, host.tpeak := some (match t.host.tpeak with
        | some p => if p < m then m else p
        | none => m) }
      tempTrigger (switchPending t))

/-! ### Noise and hops -/

/-- The chains that count towards the tile noise (03 R75). DESIGN CHOICE: by the codes that the frame carries, those at its start with the
changes of 0x6 since (log entry 94). -/
def noiseChains (s : State) (p : Params) : List Nat :=
  let m := s.pinMap p.ctx
  (List.range p.s).filter (fun c => !s.chn.cur.bad (m.sense.getD c 0) && !s.chn.cur.listenOvr.contains c)

/-- A slot of HOP_MASK that neither role uses, with the lowest noise (03 R80). -/
def freeSlot (s : State) (mask : Nat) : Option Nat :=
  ((List.range 5).map (· + 2)).foldl (fun best k =>
    if !bit mask (k - 2) || k == s.chn.pri || k == s.chn.sec then best
    else match best with
      | none => some k
      | some b => if s.chn.noise.getD (k - 2) 0 < s.chn.noise.getD (b - 2) 0 then some k else best) none

/-- The role on slot `k` is noisy (03 R80); with no free slot it is not. -/
def noisy (s : State) (ctx k : Nat) : Bool :=
  let m := s.chn.noise.getD (k - 2) 0
  match freeSlot s (s.ctxField ctx 0x2C7 1) with
  | none => false
  | some f => decide (16 * s.ctxField ctx 0x2C8 2 ≤ m) && decide (s.ctxField ctx 0x2CA 1 * s.chn.noise.getD (f - 2) 0 ≤ 16 * m)

/-- R75, R76, R78, R80: chain and tile noise, weights, and the persistence counts. DESIGN CHOICE: a frame in which no chain counts is one in
which the tile noise is computed (log entry 94). Damaged listen data leave the persistence counts, and decide no hop (18 R482). -/
def execTileNoise (s : State) : Answer :=
  answer s (if !s.scans || s.chn.cur.kind == .lineTest || s.chn.cur.kind == .none then s
    else
      let p := s.params s.epoch
      let chains := noiseChains s p
      let mean (k : Nat) : Nat :=
        if chains.isEmpty then 0 else (chains.map (fun c => chainNoise s c k)).foldl (· + ·) 0 / chains.length
      let area := (List.range p.s).flatMap (fun c =>
        let a := chainNoise s c p.kp
        let b := chainNoise s c p.ks
        let w := weight a b p.wMin
        leBytes 4 a ++ leBytes 4 b ++ leBytes 2 w ++ leBytes 2 (256 - w) ++ leBytes 4 0)
      let t := { s with mem := (s.mem.clear noiseArea 0xC00).write noiseArea area
                        chn.noise := (List.range 5).map (fun k => mean (k + 2)), chn.cur.noiseOk := !chains.isEmpty && !s.chn.cur.listenBad }
      let count (k n : Nat) : Nat := if noisy t p.ctx k then Nat.min 15 (n + 1) else 0
      raise 11 (if s.chn.cur.listenBad then t
        else { t with chn.perP := count t.chn.pri t.chn.perP, chn.perS := count t.chn.sec t.chn.perS }))

/-- R55: at reduced rates idle time follows the guard interval. DESIGN CHOICE: no row marks its start at 2,000 µs; the model takes the last
event of the guard interval, at 1,960 µs, for it (log entry 95). -/
def idleTime (s : State) : State := if s.scans && s.chn.seg == 4 && s.chn.cur.us != 2000 then { s with chn.seg := 5 } else s

/-- R81: at 1,960 µs an automatic hop is decided for the next latch instant: the role with the higher noise, the secondary on a tie. -/
def execHopDecision (s : State) : Answer :=
  answer s (idleTime (if !s.scans || !s.chn.cur.noiseOk then s
    else
      let c := (s.params s.epoch).ctx
      let need := s.ctxField c 0x2CB 1
      let quiet := match s.chn.lastHop with
        | none => true
        | some e => !later e (diff32 (add32 s.epoch 1) (s.ctxField c 0x2CC 1))
      let m (k : Nat) : Nat := s.chn.noise.getD (k - 2) 0
      let okP := decide (need ≤ s.chn.perP)
      let okS := decide (need ≤ s.chn.perS)
      match freeSlot s (s.ctxField c 0x2C7 1) with
      | none => s
      | some f =>
        if s.ctxField c 0x2C6 1 % 2 = 0 || !quiet || !(okP || okS) then s
        else
          let role := if okP && okS then (if m s.chn.sec < m s.chn.pri then 0 else 1) else if okP then 0 else 1
          { s with chn.auto := some (role, f) }))

/-- A hop of a role taken at the latch instant for the coming frame. -/
def latchHop (forced : Bool) (role slot : Nat) (s : State) : State :=
  { s with
    chn.due := some { forced := forced, role := role, old := if role = 0 then s.chn.pri else s.chn.sec, new := slot }
    chn.npri := if role = 0 then slot else s.chn.npri, chn.nsec := if role = 0 then s.chn.nsec else slot
    chn.perP := if role = 0 then 0 else s.chn.perP, chn.perS := if role = 0 then s.chn.perS else 0 }

/-- R58, R83, R250: the latch instant: a forced hop is applied, or ignored; else an automatic one; members that have not answered ARMED
are to go offline at E_a. DESIGN CHOICE: NPRI and NSEC hold the running pair or the hop until a pending context applies (log entry 96). -/
def latchInstant (s : State) : State :=
  let t := raise 10 { s with chn.latchPassed := true, chn.npri := s.chn.pri, chn.nsec := s.chn.sec, chn.auto := none
                             chn.replaced := []
                             chn.decided := s.chn.decided ++ s.chn.replaced.map (fun j => { cmd := j, outcome := 2 }) }
  let byAuto (u : State) : State := match s.chn.auto with
    | some a => latchHop false a.1 a.2 u
    | none => u
  let t := match s.chn.req with
    | none => byAuto t
    | some q =>
      let other := if q.role = 0 then s.chn.sec else s.chn.pri
      let ok := decide (2 ≤ q.slot ∧ q.slot ≤ 6) && bit (s.act 0x2C7 1) (q.slot - 2) && q.slot != other
      let note (o : Nat) (u : State) : State :=
        { u with chn.req := none, chn.decided := u.chn.decided ++ (q.cmd.toList.map (fun j => ({ cmd := j, outcome := o } : HopDecided))) }
      if ok then latchHop true q.role q.slot (note 0 t) else byAuto (note 1 t)
  match t.ctx.job with
  | some g =>
    if g.decided && g.ea == add32 t.epoch 1 then
      { t with arr.dropAt := t.arr.dropAt ++ g.unarmed.map (fun k => (k, g.ea)), ctx.job := some { g with unarmed := [] } }
    else t
  | none => t

/-- R58: LATCH_INSTANT. -/
def execLatchInstant (s : State) : Answer :=
  answer s (if !s.clk.afe || !s.clk.core || !s.chn.timer then s else latchInstant s)

/-- R83: HOP on this tile: the request to Chanter. -/
def hopOwn (num : Nat) (d : Desc) (s : State) : State := hopRequest (fld d.a0 0 3) (fld d.a0 4 1) (some num) s

/-- R83: HOP. -/
def execHop (j : Nat) (s : State) : Answer := runCommand 0x20 j (fun e u => startParts e .latch (hopOwn j e.d) u) s

/-- HOP commands decided at the latch instant complete at the boundary (03 R83): RESULT0 is the new frame's epoch. -/
def completeHops (s : State) : State :=
  let t := s.chn.decided.foldl (fun u d => partDone d.cmd (if d.outcome = 0 then 0 else 0x0E) u.epoch d.outcome u) s
  { t with chn.decided := [] }

/-- A latched hop takes effect (03 R82, R86). -/
def takeHop (s : State) : State :=
  match s.chn.due with
  | none => s
  | some h =>
    let t := { s with
      chn.due := none, chn.lastHop := some s.epoch
      chn.pri := if h.role = 0 then h.new else s.chn.pri, chn.sec := if h.role = 0 then s.chn.sec else h.new
      chn.hopAuto := if h.forced then s.chn.hopAuto else cnt 16 s.chn.hopAuto 1
      chn.hopForced := if h.forced then cnt 8 s.chn.hopForced 1 else s.chn.hopForced }
    postEvent 0x02 (pack [(h.role, 0), (b2n h.forced, 1), (h.old, 8), (h.new, 12)]) 0 (raise 16 t)

/-! ### Line test -/

/-- R50: LINE_TEST on this tile. -/
def lineTestOwn (num : Nat) (s : State) : State := { s with elec.ltPending := true, elec.ltCmds := s.elec.ltCmds ++ [num] }

/-- R50: LINE_TEST. -/
def execLineTest (j : Nat) (s : State) : Answer := runCommand 0x21 j (fun e u => startParts e .lineTest (lineTestOwn j) u) s

/-- A test may start at this boundary (02 R50, 05 R146, 08 R249): no full calibration, no group in progress, no E_a within its frames. -/
def ltMayStart (s : State) : Bool :=
  let n := ltFrames s.chn.rate
  s.elec.ltPending && s.elec.ltLeft == 0 && s.cal.kind != .full && !(s.cal.kind == .group && s.cal.begun) &&
  !(s.pendingSlot.isSome && decide (diff32 s.ctx.pendEa s.epoch < n))

/-- A line test starts (02 R50): tracks retire (06 R174), the shield fault clears (04 R103). -/
def startLineTest (s : State) : State :=
  let t := clearShieldFault (retireHere s)
  { t with elec.ltPending := false, elec.ltLeft := ltFrames t.chn.rate, elec.ltCodes := [], elec.ltPhase := 0, elec.ltPass := 0 }

/-- The test is complete: `DONE` is set (02 R54). -/
def setTestDone (s : State) : State := if s.elec.ltDone then s else raise 18 { s with elec.ltDone := true }

/-- A frame of the running test has ended; after the last one `DONE` is set (02 R54), the commands complete (02 R50) and, after the boot test,
a full calibration is due (05 R119). -/
def lineTestFrame (s : State) : State :=
  if s.elec.ltLeft = 0 then s
  else
    let t := { s with elec.ltLeft := s.elec.ltLeft - 1 }
    if t.elec.ltLeft ≠ 0 then t
    else
      let t := setTestDone (if t.elec.ltBoot then t else requestFull false { t with elec.ltBoot := true })
      if t.elec.ltPending then t
      else
        let n := (faultPins t).length
        let u := t.elec.ltCmds.foldl (fun v j => partDone j 0 n 0 v) t
        { u with elec.ltCmds := [] }

/-- The code that stands when two phases flag a pin (02 R50): 0x4, then 0x2 or 0x3, then 0x5, then 0x1. -/
def ltRank (c : Nat) : Nat := if c = 4 then 4 else if c = 2 ∨ c = 3 then 3 else if c = 5 then 2 else if c = 1 then 1 else 0

def ltNote (s : State) (pins : List Nat) (c : Nat) : State :=
  pins.foldl (fun t n =>
    if ltRank ((assoc t.elec.ltCodes n).getD 0) < ltRank c then { t with elec.ltCodes := file t.elec.ltCodes n c } else t) s

/-- The reference held was taken under the electrode map, REED_GAIN and DRIVE_AMP of the active context (05 R134, 17 R472). -/
def refMatches (s : State) : Bool :=
  let r := s.elec.refRec
  !r.isEmpty && leAt r 0x02 1 % 4 == s.act 0x2C2 1 && leAt r 0x03 1 % 2 == s.act 0x2C1 1 &&
  leAt r 0x08 4 == crc32 ((s.image (s.activeSlot.getD 0)).drop 0x40 |>.take 0x280)

/-- The reference self value of a pin, where the record holds one (02 R47, 05 R135, 17 R472), under whatever map and gain it was taken. -/
def refSelf (s : State) (pin : Nat) : Option Nat :=
  let r := s.elec.refRec
  if r.isEmpty || leAt r 0x0C 1 % 2 = 0 then none else some (leAt r (0x6040 + 3 * pin) 3)

/-- Self value limits of 02 R47. -/
def selfLow (s : State) (pin : Nat) (v : Int) : Bool :=
  decide (v < 10240) || (match refSelf s pin with
    | some r => decide (10 * v < 6 * (r : Int))
    | none => false)

def selfHigh (v : Int) : Bool := decide (450560 < v)

/-- The test's codes replace those of every mapped pin but excluded ones (02 R50). -/
def ltAssign (s : State) : State :=
  let t := (List.range 320).foldl (fun u n =>
    let c := u.codeOf n
    if c = 7 ∨ c = 0xF then u else setCode n ((assoc u.elec.ltCodes n).getD 0) u) s
  { t with elec.lowRun := List.replicate 320 0, elec.highRun := List.replicate 320 0, elec.ovrRun := List.replicate 192 0
           elec.okRun := List.replicate 192 0, elec.tripRun := [], elec.ltCodes := [] }

/-- R50: a phase of the line test ends. -/
def execLineTestPhaseEnd (r : LtResult) (s : State) : Answer :=
  answer s (if s.elec.ltLeft = 0 then s
    else match r with
      | .leakage src snk => ltNote (ltNote { s with elec.ltPhase := 1 } src 2) snk 3
      | .coupling pins => ltNote { s with elec.ltPhase := 2 } pins 4
      | .self vs =>
        ltAssign (ltNote (ltNote { s with elec.ltPhase := 3 } ((vs.filter (fun v => selfHigh (v.2 : Int))).map (·.1)) 5)
          ((vs.filter (fun v => selfLow s v.1 (v.2 : Int))).map (·.1)) 1))

/-! ### The delta frame -/

/-- The pin has another entry in the active map than in that of the frame in processing: the rules of 02 R47 start afresh (02 R37). -/
def mapMoved (s : State) (pin : Nat) : Bool :=
  let c := (s.params s.chn.prev.epoch).ctx
  match s.activeSlot with
  | some n => n != c && pinChanged (s.mapEntry c pin) (s.mapEntry n pin)
  | none => false

/-- The overrange frames of the frame in processing are counted (02 R47, R54), a discarded frame's too; a held line's Reed output is
discarded. -/
def countOverrange (m : PinMap) (s : State) : State :=
  let n := ((List.zip (List.range m.sense.length) m.sense).filter (fun cp =>
    !s.chn.prev.held cp.2 && s.chn.prev.overrangeCol cp.1)).length
  { s with elec.ovrCnt := cnt 16 s.elec.ovrCnt n }

/-- The persistent-overrange rules of 02 R47 on the frame in processing. -/
def overrangeRules (m : PinMap) (s : State) : State :=
  (List.zip (List.range m.sense.length) m.sense).foldl (fun t cp =>
    let c := cp.1
    let code := t.codeOf cp.2
    if s.chn.prev.held cp.2 || mapMoved s cp.2 then t
    else if s.chn.prev.overrangeCol c then
      let n := t.elec.ovrRun.getD c 0 + 1
      let u := { t with elec.ovrRun := t.elec.ovrRun.set c (Nat.min n 3), elec.okRun := t.elec.okRun.set c 0 }
      if 3 ≤ n ∧ code = 0 then setCodeNow cp.2 6 u else u
    else
      let n := t.elec.okRun.getD c 0 + 1
      let u := { t with elec.ovrRun := t.elec.ovrRun.set c 0, elec.okRun := t.elec.okRun.set c (Nat.min n 16) }
      if 16 ≤ n ∧ code = 6 then setCodeNow cp.2 0 u else u) s

/-- The self-value rules of 02 R47: four consecutive frames latch 0x1 or 0x5. DESIGN CHOICE: a frame with invalid self data, and a pin whose
self value is replaced in it, neither count in the runs of four frames nor end them (log entry 99). -/
def selfRules (pins : List Nat) (s : State) : State :=
  pins.foldl (fun t n =>
    if codeHeld (t.codeOf n) || t.chn.prev.held n || t.chn.prev.selfRep.contains n || mapMoved s n then t
    else
      let v := selfCombined s s.chn.prev s.chn.noise n
      let lo := if selfLow s n v then Nat.min 4 (t.elec.lowRun.getD n 0 + 1) else 0
      let hi := if selfHigh v then Nat.min 4 (t.elec.highRun.getD n 0 + 1) else 0
      let u := { t with elec.lowRun := t.elec.lowRun.set n lo, elec.highRun := t.elec.highRun.set n hi }
      if lo = 4 then setCodeNow n 1 u else if hi = 4 then setCodeNow n 5 u else u) s

/-- The self deltas of the frame (04 R99 to R101). -/
def selfDeltas (s : State) (m : PinMap) : List Int :=
  let f := s.chn.prev
  let sd (pin : Nat) : Int := selfDeltaOf (selfCombined s f s.chn.noise pin) (s.bs pin)
  let rep (pin : Nat) : Bool := f.held pin || f.selfRep.contains pin
  let axis (pins : List Nat) : List (Nat × Int) :=
    let own := pins.map (fun n => if rep n then 0 else sd n)
    (List.zip (List.range pins.length) pins).map (fun ip =>
      (ip.2, replacedSelf pins.length (fun i => rep (pins.getD i 0)) (fun i => own.getD i 0) ip.1))
  let all := axis m.drive ++ axis m.sense
  (List.range 320).map (fun n => (assoc all n).getD 0)

/-- Self data of the frame in processing: the self deltas are written (04 R100), valid (R104) or with the age one more. DESIGN CHOICE: the
entry of a faulted line holds the replaced value of R101 (log entry 98). -/
def selfPart (m : PinMap) (s : State) : State :=
  let sd := selfDeltas s m
  let t := { s with mem := s.mem.write selfDelta (intBytes 2 sd)
                    elec.selfWas := some (s.chn.prev.epoch, s.elec.selfOk, s.elec.selfAge, s.elec.lastSd) }
  if s.chn.prev.selfBad || s.elec.shFault then
    { t with elec.selfOk := false, elec.selfAge := Nat.min 7 (s.elec.selfAge + 1), chn.prev.selfBad := true }
  else { t with elec.lastSd := sd, elec.selfOk := true, elec.selfAge := 0 }

/-- The nodes of a frame that the divergence rule resolved (03 R77, R92). -/
def countDiverged (n : Nat) (s : State) : State :=
  { s with chn.divLast := cnt 16 0 n, chn.divTotal := cnt 16 s.chn.divTotal n }

/-- The mutual part: transform, combination, baseline, interpolation; the delta frame is written whole (03 R70 to R73, 02 R52). -/
def mutualPart (m : PinMap) (s : State) : State :=
  let f := s.chn.prev
  let p := s.params f.epoch
  let seq := chips p.cs
  let r := (List.range p.s).map (fun c => columnU s f.epoch c p seq)
  let s := countDiverged ((r.map (·.2)).foldl (· + ·) 0) s
  let base := s.baseCols p.d p.s
  let raw := List.zipWith (fun b u => List.zipWith deltaOf b u) base (r.map (·.1))
  let rows := f.badRows m
  let cols := f.badCols m
  let v := interpolate p.d p.s (fun d => rows.contains d) (fun c => cols.contains c) raw
  { s with mem := s.mem.write (deltaFrame f.epoch) (intBytes 2 (byRows p.d p.s v))
           chn.prev.interpolated := !rows.isEmpty || !cols.isEmpty, chn.prev.decoded := true }

/-- A baseline frame's sums: every node's u and every pin's SVc (05 R132). -/
def accumulate (m : PinMap) (s : State) : State :=
  let f := s.chn.prev
  let p := s.params f.epoch
  let seq := chips p.cs
  let r := (List.range p.s).map (fun c => columnU s f.epoch c p seq)
  let s := countDiverged ((r.map (·.2)).foldl (· + ·) 0) s
  let u := byRows p.d p.s (r.map (·.1))
  let sums := List.zipWith (· + ·) (s.mem.ints accRam 8 24576) u
  let pins := m.drive ++ m.sense
  let ps := (List.range 320).map (fun n => if pins.contains n then selfCombined s f s.chn.noise n else 0)
  let psum := List.zipWith (· + ·) (s.mem.ints (accRam + 0x30000) 8 320) ps
  { s with mem := (s.mem.write accRam (intBytes 8 sums)).write (accRam + 0x30000) (intBytes 8 psum) }

/-- The 10 % test of 05 R138 on the frame's deltas. -/
def guardTest (p : Params) (s : State) : State :=
  if !s.cal.guard then s
  else
    let v := s.deltaCols s.chn.prev.epoch p.d p.s
    let band : Int := (s.ctxField p.ctx 0x302 2 : Nat)
    let n := (v.map (fun c => (c.filter (fun x => decide (band ≤ (x.natAbs : Int)))).length)).foldl (· + ·) 0
    let t := { s with cal.guard := false }
    if p.d * p.s < 10 * n then { t with cal.baseDue := true } else t

/-- R71: frame N is decoded during epoch N + 1. A discarded frame is not; a line-test frame has nothing to decode. The frames of a full
calibration bring self data and their age like any other (04 R104). DESIGN CHOICE: a discarded frame leaves the runs of frames of 02 R47
as they are (log entry 99). -/
def execDeltaFrameWritten (par : List ParityHit) (s : State) : Answer :=
  answer s (if !s.clk.core || s.chn.prev.kind == .none || s.chn.prev.kind == .lineTest || s.chn.prev.decoded then s
    else
      let t := parityHits par s
      let t := applyGain s.chn.prev.epoch t
      let f := t.chn.prev
      let p := t.params f.epoch
      let m := t.pinMap p.ctx
      let t := countOverrange m t
      if f.dcause ≠ 0 then { t with chn.prev.decoded := true }
      else
        let t := overrangeRules m t
        let t := selfPart m (if f.selfBad || t.elec.shFault then t else selfRules (m.drive ++ m.sense) t)
        match f.kind with
        | .normal => raise 12 (guardTest p (mutualPart m t))
        | .inject _ _ => if f.recal then raise 12 (guardTest p (mutualPart m t)) else { t with chn.prev.decoded := true }
        | .baseline => { accumulate m t with chn.prev.decoded := true }
        | _ => { t with chn.prev.decoded := true })

end Sys2Proof.Machine
end

