-- ==== Sys2Proof/Machine/Baseline.lean ====
section
/-! DEFINITION. Baselines (05 R126 to R141): the update of a frame, suspect regions and pins, released contacts, and the initial baseline
with its reference and self tests. -/

namespace Sys2Proof.Machine

/-! ### One frame's update -/

/-- What the update knows of a node. -/
structure NodeRow where
  n : Node
  u : Int
  delta : Int
  b : Int
  neg : Nat
  sus : Bool
  bad : Bool
  mask : Bool
  water : Bool
  change : Option Int := none
  kept : Bool := true

/-- The fields of 05 R148 that the update uses. -/
structure BlParams where
  shift : Nat
  margin : Nat
  band : Int
  neg : Int
  hold : Nat
  susClear : Nat
  susNeg : Int
  selfBand : Int

def State.blParams (s : State) (slot : Nat) : BlParams :=
  let f (o n : Nat) : Nat := s.ctxField slot o n
  { shift := f 0x300 1, margin := f 0x301 1, band := (f 0x302 2 : Nat), neg := (f 0x304 2 : Nat), hold := f 0x306 1,
    susClear := f 0x307 1, susNeg := (f 0x308 2 : Nat), selfBand := (f 0x30E 2 : Nat) }

/-- The table of 05 R127 on one node; drift and suspect rules follow. -/
def rowRule (q : BlParams) (r : NodeRow) : NodeRow :=
  if r.bad then r
  else if r.mask then { r with neg := 0 }
  else if r.water then { r with neg := 0 }
  else if r.sus then r
  else if r.delta ≤ -q.neg then
    let n := Nat.min 63 (r.neg + 1)
    if q.hold ≤ n then { r with b := 256 * r.u, neg := 0, kept := false } else { r with neg := n }
  else if (r.delta.natAbs : Int) < q.band then
    let c := asr (256 * r.u - r.b + ((2 ^ (q.shift - 1) : Nat) : Int)) q.shift
    { r with b := r.b + c, neg := 0, change := some c, kept := false }
  else { r with neg := 0 }

/-- The tracks whose blobs mask the baseline (05 R128): every class but hover with a detection in the frame, by rising ID. -/
def State.maskTracks (s : State) : List Track :=
  (((s.tracks.map (·.2)).filter (fun t => t.detected && t.cls != 4 && !t.nodes.isEmpty))).mergeSort (fun a b => a.id ≤ b.id)

/-- The mean change over a track's drift ring (05 R129); none with fewer than 8 nodes. -/
def driftOf (q : BlParams) (rows : List NodeRow) (blob : List Node) : Option Int :=
  let ring := rows.filter (fun r => r.change.isSome && !r.mask &&
    blob.any (fun x => cheb r.n x ≤ q.margin + 2) && !blob.any (fun x => cheb r.n x ≤ q.margin))
  if ring.length < 8 then none else some (sumI (ring.map (fun r => r.change.getD 0)) / (ring.length : Nat))

/-- The drift rule on every mask node, by the track with the lowest ID that holds it. -/
def driftRule (q : BlParams) (blobs : List (List Node)) (rows : List NodeRow) : List NodeRow :=
  let ds := blobs.map (fun b => (b, driftOf q rows b))
  rows.map (fun r =>
    if r.bad || !r.mask then r
    else match ds.find? (fun d => d.1.any (fun x => cheb r.n x ≤ q.margin)) with
      | some (_, some d) => { r with b := r.b + d, kept := false }
      | _ => r)

/-- The state a suspect set brings from the frame before: a negative delta seen, and quiet frames (05 R137). -/
def regionPast (old : List Region) (ns : List Node) : Bool × Nat :=
  (old.any (fun r => r.neg && r.nodes.any ns.contains),
   match ns with
   | [] => 0
   | x :: xs =>
     let q (n : Node) : Nat := ((old.find? (fun r => r.nodes.contains n)).map (·.quiet)).getD 0
     xs.foldl (fun a n => Nat.min a (q n)) (q x))

/-- The suspect rule (05 R137) on the regions of the frame: rows, regions that stay, and how many were re-baselined. DESIGN CHOICE: a
discarded frame between two negative frames keeps the first sighting (log entry 93). -/
def suspectRule (q : BlParams) (old : List Region) (rows : List NodeRow) : List NodeRow × List Region × Nat :=
  let sus := (rows.filter (·.sus)).map (·.n)
  (components near4 (sus.length + 1) sus).foldl (fun (a : List NodeRow × List Region × Nat) ns =>
    let mine (r : NodeRow) : Bool := ns.contains r.n
    let low := rows.any (fun r => mine r && decide (r.delta ≤ -q.susNeg))
    let past := regionPast old ns
    if low && past.1 then
      (a.1.map (fun r => if mine r && !r.bad then { r with b := 256 * r.u, sus := false, kept := false } else r), a.2.1, a.2.2 + 1)
    else
      let quiet := !rows.any (fun r => mine r && (r.mask || decide (q.band ≤ (r.delta.natAbs : Int))))
      let n := if quiet then past.2 + 1 else 0
      if q.susClear ≤ n then (a.1.map (fun r => if mine r then { r with sus := false } else r), a.2.1, a.2.2)
      else (a.1, a.2.1 ++ [{ nodes := ns, neg := low, quiet := n }], a.2.2)) (rows, [], 0)

/-- Nodes of released contacts (05 R141): B takes the frame's value and the node turns suspect; nodes on interpolated lines wait. -/
def releaseNodes (ns : List Node) (rows : List NodeRow) : List NodeRow × List Node :=
  (rows.map (fun r => if ns.contains r.n && !r.bad then { r with b := 256 * r.u, sus := true, kept := false } else r),
   (rows.filter (fun r => ns.contains r.n && r.bad)).map (·.n))

/-- The rows of the frame in processing. -/
def State.nodeRows (s : State) (p : Params) (m : PinMap) (mask : List Node) : List NodeRow :=
  let f := s.chn.prev
  let u := frameU s f.epoch
  let delta := s.deltaCols f.epoch p.d p.s
  let base := s.baseCols p.d p.s
  let st := s.cols nodeRam 1 p.d p.s
  let rows := f.badRows m
  let cols := f.badCols m
  (allNodes p.d p.s).map (fun n =>
    let v := tc 8 (nodeOf st n.1 n.2)
    { n := n, u := nodeOf u n.1 n.2, delta := nodeOf delta n.1 n.2, b := nodeOf base n.1 n.2, neg := fld v 2 6, sus := bit v 0,
      bad := rows.contains n.1 || cols.contains n.2, mask := mask.contains n, water := s.trk.water.contains n })

/-- B and the node states written back. -/
def State.putRows (s : State) (rows : List NodeRow) : State :=
  rows.foldl (fun t r =>
    let st := pack [(b2n r.sus, 0), (b2n r.kept, 1), (r.neg, 2)]
    { t with mem := (t.mem.putLeI (baseMut + 4 * lin r.n) 4 r.b).putLe (nodeRam + lin r.n) 1 st }) s

/-- Contacts released in this frame: the commands complete with the frame's epoch (05 R141). -/
def State.released (s : State) : List (Release × Track) :=
  s.cal.releases.filterMap (fun r => match s.trk.tab.getD r.trk none with
    | some t => if t.status = 4 then some (r, t) else none
    | none => none)

/-- The mutual part of the update. -/
def updateNodes (p : Params) (m : PinMap) (s : State) : State :=
  let q := s.blParams p.ctx
  let ts := s.maskTracks
  let blobs := ts.map (·.nodes)
  let rows := (s.nodeRows p m (dilate p.d p.s q.margin blobs.flatten)).map (rowRule q)
  let rows := driftRule q blobs rows
  let r := suspectRule q s.cal.regions rows
  let freed := s.released
  let mine := dilate p.d p.s q.margin ((freed.filter (fun x => x.2.cls != 4 && x.2.detected)).flatMap (fun x => x.2.nodes))
  let out := releaseNodes (mine ++ s.cal.relNodes) r.1
  let t := s.putRows out.1
  let t := { t with cal.regions := r.2.1, cal.negreb := cnt 8 t.cal.negreb r.2.2, cal.relNodes := out.2,
                    cal.releases := t.cal.releases.filter (fun x => !freed.any (fun y => y.1 == x)) }
  freed.foldl (fun u x => partDone x.1.cmd 0 u.chn.prev.epoch 0 u) t

/-! ### Self baselines (05 R130) -/

/-- Pin-state entry of a pin (05 R131). -/
def State.pinState (s : State) (pin : Nat) : Nat := s.mem.le (nodeRam + 24576 + pin) 1

def putPinState (pin : Nat) (sus : Bool) (neg : Nat) (s : State) : State :=
  { s with mem := s.mem.putLe (nodeRam + 24576 + pin) 1 (pack [(b2n sus, 0), (neg, 2)]) }

def setBs (pin : Nat) (v : Int) (s : State) : State := { s with mem := s.mem.putLeI (baseSelf + 4 * pin) 4 v }

/-- The self baseline of one pin, `near` when a blob's span lies within BL_MARGIN lines of its line. -/
def updatePin (q : BlParams) (pin : Nat) (near : Bool) (svc sd : Int) (s : State) : State :=
  let st := s.pinState pin
  let past := s.cal.susPins.find? (·.pin == pin)
  let rest := s.cal.susPins.filter (·.pin != pin)
  if s.chn.prev.bad pin || s.chn.prev.selfRep.contains pin then s
  else if s.cal.selfFix.contains pin then
    setBs pin (256 * svc) (putPinState pin true 0 { s with cal.selfFix := s.cal.selfFix.filter (· != pin), cal.susPins := rest ++ [{ pin := pin }] })
  else if near then { s with cal.susPins := if past.isSome then rest ++ [{ pin := pin }] else rest }
  else if bit st 0 then
    let low := decide (sd ≤ -q.selfBand)
    if low && ((past.map (·.neg)).getD false) then
      setBs pin (256 * svc) (putPinState pin false (fld st 2 6) { s with cal.susPins := rest })
    else
      let n := if (sd.natAbs : Int) < q.selfBand then ((past.map (·.quiet)).getD 0) + 1 else 0
      if q.susClear ≤ n then putPinState pin false (fld st 2 6) { s with cal.susPins := rest }
      else { s with cal.susPins := rest ++ [{ pin := pin, neg := low, quiet := n }] }
  else if sd ≤ -q.selfBand then
    let n := Nat.min 63 (fld st 2 6 + 1)
    if q.hold ≤ n then setBs pin (256 * svc) (putPinState pin false 0 s) else putPinState pin false n s
  else if (sd.natAbs : Int) < q.selfBand then
    setBs pin (s.bs pin + asr (256 * svc - s.bs pin + ((2 ^ (q.shift - 1) : Nat) : Int)) q.shift) (putPinState pin false 0 s)
  else putPinState pin false 0 s

/-- The self baselines of a frame whose self data is valid. -/
def updateSelf (p : Params) (m : PinMap) (s : State) : State :=
  if s.chn.prev.selfBad then s
  else
    let q := s.blParams p.ctx
    let axis (pins : List Nat) (span : List Node → Option (Nat × Nat)) (t : State) : State :=
      (List.zip (List.range pins.length) pins).foldl (fun u ip =>
        updatePin q ip.2 (s.trk.blobs.any (fun b => nearSpan q.margin ip.1 (span b)))
          (selfCombined s s.chn.prev s.chn.noise ip.2) (s.mem.leI (selfDelta + 2 * ip.2) 2) u) t
    axis m.sense senseSpan (axis m.drive driveSpan s)

/-- A frame that leaves every B as it is: FROZEN is set. -/
def freezeNodes (p : Params) (s : State) : State :=
  (allNodes p.d p.s).foldl (fun t n =>
    let v := t.mem.le (nodeRam + lin n) 1
    if bit v 1 then t else { t with mem := t.mem.putLe (nodeRam + lin n) 1 (v + 2) }) s

/-- R126: the baselines and node states of frame N are updated, once the tracker, or Crook's merge, is done. -/
def execBaselineUpdate (s : State) : Answer :=
  answer s (if !s.clk.core || !s.chn.prev.merged || s.chn.prev.updated then s
    else
      let f := s.chn.prev
      let p := s.params f.epoch
      let m := s.pinMap p.ctx
      let t := { s with chn.prev.updated := true }
      raise 13 (if f.dcause ≠ 0 || f.silent then freezeNodes p t else updateSelf p m (updateNodes p m t)))

/-! ### Initial baseline (05 R132 to R136) -/

/-- T of a chain's column (05 R133): the weights and slots of the sixteenth frame. -/
def trimColumn (s : State) (c : Nat) (p : Params) (seq : List Int) : List Int :=
  let role (r k : Nat) : List Int :=
    let ky := s.mem.leI (kyRam + 4 * (5 * c + k - 2)) 4
    (wht128 (List.zipWith (fun x code => x * code * ky) seq (s.mem.ints (trimRam + 2 * (256 * c + 128 * r)) 2 128))).map
      (fun x => asr (x + 1024) 11)
  let wp := s.wp c
  ((role 0 p.kp).zip (role 1 p.ks)).map (fun t => asr ((wp : Int) * t.1 + ((256 - wp : Nat) : Int) * t.2 + 128) 8)

/-- Aref of the reference record, by rows of 192 (17 R472); none when a block does not decode. -/
def refNodes (rec : List Byte) : Option (List (List Int)) :=
  (List.range 128).mapM (fun d => do
    let r ← (List.range 3).mapM (fun k => (frDecode ((rec.drop (0x40 + 64 * (3 * d + k))).take 64)).toOption)
    pure r.flatten)

/-- A node of the reference test. -/
structure RefNode where
  n : Node
  a0 : Int
  aref : Int
  t : Int
  fail : Bool := false

/-- The offset of a column: the median over its unflagged nodes, or over the tile's with fewer than 16. -/
def columnOffset (ns : List RefNode) (c : Nat) : Int :=
  let ok := ns.filter (fun x => !x.fail)
  let mine := ok.filter (fun x => x.n.2 == c)
  median ((if mine.length < 16 then ok else mine).map (fun x => x.a0 - x.aref))

/-- One pass of the reference test: nodes flagged under the offsets the nodes so far give. -/
def refPass (tol : Int) (cols : Nat) (ns : List RefNode) : List RefNode × List Int :=
  let os := (List.range cols).map (columnOffset ns)
  (ns.map (fun x => { x with fail := decide (tol ≤ x.aref + os.getD x.n.2 0 - x.a0) }), os)

/-- The reference test (05 R134): the nodes and column offsets when the reference is used. -/
def refTest (s : State) (p : Params) : Option (List RefNode × List Int) :=
  let tol := s.ctxField p.ctx 0x30A 2
  if tol = 0 || !refMatches s then none
  else match refNodes s.elec.refRec with
    | none => none
    | some ref =>
      let seq := chips p.cs
      let t := (List.range p.s).map (fun c => trimColumn s c p seq)
      let b := s.baseCols p.d p.s
      let ns := (allNodes p.d p.s).map (fun n =>
        let tv := nodeOf t n.1 n.2
        { n := n, a0 := asr (asr (nodeOf b n.1 n.2) 8 + tv + 64) 7, aref := (ref.getD n.1 []).getD n.2 0, t := tv : RefNode })
      let one := refPass (tol : Int) p.s ns
      let two := refPass (tol : Int) p.s one.1
      if p.d * p.s < 4 * (two.1.filter (·.fail)).length then none else some two

/-- What the self test finds on an axis (05 R135): the flagged lines, those flagged against a reference, and o_p. A faulted line is no
neighbour, but may be flagged. -/
def selfAxis (s : State) (pins : List Nat) (tol : Int) : List Nat × List Nat × Int :=
  let n := pins.length
  let svc (i : Nat) : Int := asr (s.bs (pins.getD i 0)) 8
  let ref (i : Nat) : Option Nat := refSelf s (pins.getD i 0)
  let ok (i : Nat) : Bool := !codeBad (s.codeOf (pins.getD i 0))
  let flag (i : Nat) : Bool := match ref i with
    | some r => decide (tol ≤ svc i - (r : Int))
    | none =>
      let nb := (List.range n).filter (fun j => j != i && decide (absDiff i j ≤ 8) && ok j)
      !nb.isEmpty && decide (tol ≤ svc i - median (nb.map svc))
  let fl := if tol ≤ 0 then [] else (List.range n).filter flag
  let rest := (List.range n).filter (fun i => !fl.contains i && (ref i).isSome)
  (fl, fl.filter (fun i => (ref i).isSome), median (rest.map (fun i => svc i - ((ref i).getD 0 : Nat))))

/-- A pin flagged against its reference (05 R136). -/
def flagPins (pins : List Nat) (a : List Nat × List Nat × Int) (s : State) : State :=
  a.2.1.foldl (fun t i =>
    let pin := pins.getD i 0
    let t := setBs pin (256 * (((refSelf s pin).getD 0 : Nat) + a.2.2)) (putPinState pin true 0 t)
    { t with cal.susPins := t.cal.susPins ++ [{ pin := pin }] }) s

/-- B, Bs and the node states of the sums (05 R132). -/
def formBaselines (m : PinMap) (s : State) : State :=
  let b := (s.mem.ints accRam 8 24576).map (fun x => 16 * x)
  let ps := s.mem.ints (accRam + 0x30000) 8 320
  let mem := (s.mem.write baseMut (intBytes 4 b)).clear nodeRam (24576 + 320)
  (m.drive ++ m.sense).foldl (fun t pin => setBs pin (16 * ps.getD pin 0) t)
    { s with mem := mem, cal.susPins := [], cal.regions := [], cal.relNodes := [], cal.selfFix := [] }

/-- A full calibration, or the initial-baseline phase alone, ends (05 R147, R524). -/
def endFull (s : State) : State :=
  let alone := s.cal.baseOnly
  let t := { s with cal.kind := .none, cal.phase := 0, cal.done := 0, cal.baseOnly := false, cal.measured := false }
  if alone then t else endCalCmds false t.cal.runFail (setCalDone (calEvent 1 false t.cal.byCmd t))

/-- R132: B and Bs are formed after the sixteenth frame; then the tests of R134 to R136 run. -/
def initialBaseline (s : State) : State :=
  let p := s.params s.chn.prev.epoch
  let m := s.pinMap p.ctx
  let t := formBaselines m s
  let ref := refTest t p
  let tol : Int := (t.ctxField p.ctx 0x30C 2 : Nat)
  let ad := selfAxis t m.drive tol
  let as := selfAxis t m.sense tol
  let rf : List RefNode := match ref with
    | some r => r.1.filter (·.fail)
    | none => []
  let os := (ref.map (·.2)).getD []
  let fails := rf.map (·.n) ++ ad.1.flatMap (fun d => as.1.map (fun c => (d, c)))
  let sus := dilate p.d p.s 1 fails ++ t.cal.maskSus.filter (fun n => n.1 < p.d && n.2 < p.s)
  let t := rf.foldl (fun u x =>
    { u with mem := u.mem.putLeI (baseMut + 4 * lin x.n) 4 (256 * (128 * (x.aref + os.getD x.n.2 0) - x.t)) }) t
  let t := sus.foldl (fun u n => { u with mem := u.mem.putLe (nodeRam + lin n) 1 1 }) t
  let t := flagPins m.sense as (flagPins m.drive ad t)
  endFull { t with cal.refused := ref.isSome, cal.maskSus := [] }

/-- R132: INITIAL_BASELINE. -/
def execInitialBaseline (s : State) : Answer :=
  answer s (if s.cal.kind = .full && s.cal.phase = 5 && s.cal.done = 16 && s.chn.prev.decoded && s.chn.prev.kind == .baseline
    then initialBaseline s else s)

/-! ### Released contacts -/

/-- RELEASE_CONTACT on this tile (05 R141): an open track with that ID waits for the baseline update; else NOT_FOUND at once. -/
def releaseOwn (num : Nat) (d : Desc) (s : State) : State :=
  match s.trk.tab.getD (d.a0 % 64) none with
  | some t =>
    if t.rid = d.a1 ∧ t.status = 1 then { s with cal.releases := s.cal.releases ++ [{ cmd := num, trk := d.a0 % 64, id := d.a1 }] }
    else partDone num 0x0D 0 0 s
  | none => partDone num 0x0D 0 0 s

/-- R141: RELEASE_CONTACT. -/
def execReleaseContact (j : Nat) (s : State) : Answer :=
  runCommand 0x23 j (fun e u => startParts e .release (releaseOwn j e.d) u) s

end Sys2Proof.Machine
end

