-- ==== Sys2Proof/Machine/Segment.lean ====
section
/-! DEFINITION. What the tracker finds in a frame: token detections (06 R152 to R161), water nodes (04 R106 to R111), blobs and their
measures (06 R162 to R165), and the hover strength (04 R112 to R115). -/

namespace Sys2Proof.Machine

/-- A delta frame as the tracker reads it: lines and values by columns. -/
structure View where
  d : Nat
  c : Nat
  cols : List (List Int)

def View.at (w : View) (n : Node) : Int := nodeOf w.cols n.1 n.2

/-- The nodes at or above a threshold, in the order of the linear index. -/
def View.above (w : View) (th : Int) : List Node := (allNodes w.d w.c).filter (fun n => decide (th ≤ w.at n))

/-- The 8-neighbours of a node on the panel. -/
def View.nbrs (w : View) (n : Node) : List Node :=
  ((List.range 3).flatMap (fun i => (List.range 3).map (fun j => (n.1 + i, n.2 + j)))).filterMap (fun q =>
    if q.1 = 0 ∨ q.2 = 0 then none
    else
      let m : Node := (q.1 - 1, q.2 - 1)
      if m = n ∨ w.d ≤ m.1 ∨ w.c ≤ m.2 then none else some m)

/-- The node exceeds another: the greater delta, on equal deltas the lower linear index. -/
def View.over (w : View) (a b : Node) : Bool := decide (w.at b < w.at a) || (w.at a == w.at b && decide (lin a < lin b))

/-- The first of a list under a strict order. -/
def bestOf {α : Type} (lt : α → α → Bool) : List α → Option α
  | [] => none
  | x :: xs => some (xs.foldl (fun a y => if lt y a then y else a) x)

/-- The node touches a border line of the panel. -/
def View.onEdge (w : View) (n : Node) : Bool := n.1 == 0 || n.2 == 0 || n.1 + 1 == w.d || n.2 + 1 == w.c

/-- The weight of a node above a level. -/
def View.weight (w : View) (half : Int) (n : Node) : Nat := (w.at n - half).toNat

/-- The centroid of 06 R158: x, y in 1/256 pitch. -/
def View.centroid (w : View) (half : Int) (ns : List Node) (peak : Node) : Nat × Nat :=
  let tot := (ns.map (w.weight half)).sum
  if tot = 0 then (256 * peak.2, 256 * peak.1)
  else ((256 * (ns.map (fun n => n.2 * w.weight half n)).sum + tot / 2) / tot,
        (256 * (ns.map (fun n => n.1 * w.weight half n)).sum + tot / 2) / tot)

/-! ### Self support (04 R104 to R107) -/

/-- The self deltas the tracker uses, by drive and by sense line; none when it treats every node as self-supported. -/
abbrev SelfView := Option (List Int × List Int)

def selfView (s : State) (m : PinMap) : SelfView :=
  if s.chn.prev.selfBad && decide (4 < s.elec.selfAge) then none
  else some (m.drive.map (fun n => s.elec.lastSd.getD n 0), m.sense.map (fun n => s.elec.lastSd.getD n 0))

def minI (a b : Int) : Int := if a < b then a else b

/-- R106: the node is self-supported. -/
def supported (v : SelfView) (selfMin ratio : Int) (n : Node) (delta : Int) : Bool := match v with
  | none => true
  | some (ds, ss) =>
    let sup := minI (ds.getD n.1 0) (ss.getD n.2 0)
    decide (selfMin ≤ sup) && decide (ratio * delta ≤ 256 * sup)

/-! ### Token pads (06 R152 to R154) -/

structure Cand where
  peak : Node
  pv : Int
  nodes : List Node
  x : Nat
  y : Nat

/-- The pad candidates of a frame, in order of decreasing peak. -/
def candidates (w : View) (padMin padMax : Int) (padArea : Nat) : List Cand :=
  let half := padMin / 2
  let hot := w.above half
  let isPeak (n : Node) : Bool := decide (padMin ≤ w.at n) && (w.nbrs n).all (w.over n)
  let regions := components near8 (hot.length + 1) hot
  let cs := regions.filterMap (fun r =>
    match r.filter isPeak with
    | [p] =>
      if r.length ≤ padArea ∧ w.at p ≤ padMax then
        let q := w.centroid half r p
        some { peak := p, pv := w.at p, nodes := r, x := q.1, y := q.2 : Cand }
      else none
    | _ => none)
  cs.mergeSort (fun a b => decide (b.pv < a.pv) || (a.pv == b.pv && decide (lin a.peak ≤ lin b.peak)))

/-- Two candidates are at most TOKEN_SPAN apart, in the common scale of 06 R151. -/
def linked (aspect span : Nat) (a b : Cand) : Bool :=
  let dx := 256 * absDiff a.x b.x
  let dy := aspect * absDiff a.y b.y
  decide (dx * dx + dy * dy ≤ (256 * span) * (256 * span))

/-- The clusters, each with its candidates by rising index, in order of their lowest one. -/
def clusters (aspect span : Nat) (cs : List Cand) : List (List Cand) :=
  let ics := List.zip (List.range cs.length) cs
  (components (fun a b => linked aspect span a.2 b.2) (ics.length + 1) ics).map (fun g =>
    (g.mergeSort (fun a b => a.1 ≤ b.1)).map (·.2))

/-- One matching trial: the residual's square in the units of `Fit`, the entry, its index and the turn in 2^-32. -/
structure Trial where
  r2 : Int
  idx : Nat
  e : Entry
  turn : Nat

/-- The best trial of a cluster (06 R159, R160). -/
def matchCluster (bank : List Byte) (mask aspect : Nat) (cs : List Cand) : Option Trial :=
  let n := cs.length
  let pts := cs.map (fun c => ((256 * c.x : Nat), (aspect * c.y : Nat)))
  let trials := (bitsOf 32 mask).flatMap (fun i =>
    let e := entryOf bank i
    if e.npads ≠ n then []
    else
      let ec := centred (e.used.map (fun p => (256 * p.1, 256 * p.2)))
      (orders (centred (pts.map (fun p => ((p.1 : Int), (p.2 : Int)))))).filterMap (fun mc =>
        let f := fitOf ec mc
        let lim : Int := (256 * n * e.tol : Nat)
        if f.r2 ≤ 65536 * (lim * lim) then some { r2 := f.r2, idx := i, e := e, turn := tc 32 (turnOf f.a f.b) : Trial } else none))
  bestOf (fun a b => decide (a.r2 < b.r2) || (a.r2 == b.r2 && (decide (a.idx < b.idx) || (a.idx == b.idx && decide (a.turn < b.turn))))) trials

/-! ### Detections -/

/-- A detection: a blob or a token. Positions in 1/256 pitch: `xf`, `yf` of a finger, `xa`, `ya` of a large contact or palm. -/
structure Det where
  token : Bool := false
  nodes : List Node
  peakNode : Node
  peak : Nat
  area : Nat
  signal : Nat := 0
  xf : Nat
  yf : Nat
  xa : Nat
  ya : Nat
  major : Nat := 0
  minor : Nat := 0
  angle : Nat := 0
  edge : Bool
  waterCut : Bool := false
  suspect : Bool
  touched : Bool := false
  tokenId : Nat := 0xFFFF
  tokenQ : Nat := 0

/-- ANGLE (06 R160): `a` of 65,536 units modulo 65,536 / `sym`, which need not be whole, with an error `e` that keeps the whole number
within two units of it. -/
def angleOf (sym a : Nat) (e : Int) : Nat :=
  let x := a * sym % 65536
  let v : Int := (x / sym : Nat) + (if x % sym ≠ 0 ∧ e = -2 then -1 else e)
  if v < 0 then ((65536 + v * (sym : Int) + ((sym - 1 : Nat) : Int)) / (sym : Int)).toNat
  else if 65536 ≤ v * (sym : Int) then ((v * (sym : Int) - 65536) / (sym : Int)).toNat
  else v.toNat

/-- A matched cluster as a detection (06 R160, R161, R177); ANGLE is off by at most 2 units, a free value. -/
def tokenDet (w : View) (v : SelfView) (selfMin ratio : Int) (sus : List Node) (cs : List Cand) (t : Trial) (s : State) : Det × State :=
  let n := cs.length
  let (r, s) := draw s
  let lim := 256 * n * Nat.max 1 t.e.tol
  let q := isqrt (255 * 255 * t.r2.toNat / (65536 * (lim * lim)))
  let x := ((cs.map (·.x)).sum + n / 2) / Nat.max 1 n
  let y := ((cs.map (·.y)).sum + n / 2) / Nat.max 1 n
  let ns := cs.flatMap (·.nodes)
  ({ token := true, nodes := ns, peakNode := (cs.map (·.peak)).headD (0, 0), peak := (maxI (cs.map (·.pv))).toNat, area := ns.length,
     xf := x, yf := y, xa := x, ya := y, angle := angleOf (Nat.max 1 t.e.sym) ((t.turn + 32768) / 65536) (bounded r 2), edge := ns.any w.onEdge, suspect := ns.any sus.contains,
     touched := cs.any (fun c => supported v selfMin ratio c.peak c.pv), tokenId := t.e.id, tokenQ := 255 - q }, s)

/-! ### Segmentation (06 R162 to R164) -/

structure Blob where
  nodes : List Node
  peak : Node

/-- Where a touch node points: its greatest 8-neighbour among the touch nodes, if that exceeds it. -/
def pointsTo (w : View) (touch : List Node) (n : Node) : Option Node :=
  bestOf w.over ((w.nbrs n).filter (fun m => decide (w.at n < w.at m) && touch.contains m))

/-- The peak that a node leads to. -/
def leadsTo (w : View) (touch : List Node) : Nat → Node → Node
  | 0, n => n
  | k + 1, n => match pointsTo w touch n with
    | none => n
    | some m => leadsTo w touch k m

/-- The basins of the touch nodes, by rising peak index. -/
def basins (w : View) (touch : List Node) : List Blob :=
  let led := touch.map (fun n => (leadsTo w touch touch.length n, n))
  (touch.filter (fun p => (pointsTo w touch p).isNone)).map (fun p =>
    { nodes := (led.filter (fun x => x.1 == p)).map (·.2), peak := p : Blob })

/-- The saddle of two blobs; none when they do not touch. -/
def saddle (w : View) (a b : Blob) : Option Int :=
  bestOf (fun x y => decide (y < x)) (a.nodes.flatMap (fun x => (b.nodes.filter (near8 x)).map (fun y => minI (w.at x) (w.at y))))

/-- A pair of blobs that qualifies for merging: saddle, lower and higher peak index, and the two blobs. -/
structure MergePair where
  sad : Int
  lo : Nat
  hi : Nat
  a : Blob
  b : Blob

/-- The qualifying pairs of a list. -/
def mergePairs (w : View) (split : Nat) : List Blob → List MergePair
  | [] => []
  | a :: rest => rest.filterMap (fun b => match saddle w a b with
      | none => none
      | some v =>
        if asr ((split : Int) * minI (w.at a.peak) (w.at b.peak)) 8 ≤ v then
          some { sad := v, lo := Nat.min (lin a.peak) (lin b.peak), hi := Nat.max (lin a.peak) (lin b.peak), a := a, b := b : MergePair }
        else none) ++ mergePairs w split rest

/-- One pair after another is merged until none qualifies (06 R163). -/
def mergeBlobs (w : View) (split : Nat) : Nat → List Blob → List Blob
  | 0, bs => bs
  | n + 1, bs =>
    match bestOf (fun (x y : MergePair) => decide (y.sad < x.sad) || (x.sad == y.sad && (decide (x.lo < y.lo) ||
        (x.lo == y.lo && decide (x.hi < y.hi))))) (mergePairs w split bs) with
    | none => bs
    | some p =>
      let u : Blob := { nodes := p.a.nodes ++ p.b.nodes, peak := if w.over p.a.peak p.b.peak then p.a.peak else p.b.peak }
      mergeBlobs w split n (u :: bs.filter (fun x => x.peak != p.a.peak && x.peak != p.b.peak))

/-- The blobs of a frame by rising peak index, at most 128, and how many were dropped over that (06 R163, R164). -/
def blobsOf (w : View) (split : Nat) (peakOff : Int) (touch : List Node) : List Blob × Nat :=
  let bs := (mergeBlobs w split touch.length (basins w touch)).filter (fun b => decide (peakOff ≤ w.at b.peak))
  let kept := (bs.mergeSort (fun a b => !w.over b.peak a.peak)).take 128
  (kept.mergeSort (fun a b => lin a.peak ≤ lin b.peak), bs.length - kept.length)

/-! ### Measures (06 R165) -/

/-- Weighted sums of a node set: W, and the second central moments scaled by W, in (1/256 pitch)², x along s, y by ASPECT. -/
structure Moments where
  w : Nat
  xx : Int
  yy : Int
  xy : Int

def momentsOf (v : View) (half : Int) (aspect : Nat) (ns : List Node) : Moments :=
  let f (g : Node → Nat) : Nat := (ns.map (fun n => v.weight half n * g n)).sum
  let w := f (fun _ => 1)
  let sx := f (fun n => 256 * n.2)
  let sy := f (fun n => aspect * n.1)
  { w := w, xx := (w * f (fun n => 256 * n.2 * (256 * n.2)) : Nat) - (sx * sx : Nat),
    yy := (w * f (fun n => aspect * n.1 * (aspect * n.1)) : Nat) - (sy * sy : Nat),
    xy := (w * f (fun n => 256 * n.2 * (aspect * n.1)) : Nat) - (sx * sy : Nat) }

/-- round(32 sqrt(l / (2 · 2^16 · W²))), at most 255: an extent in 1/8 pitch from twice an eigenvalue scaled by W². -/
def extent (l : Int) (w : Nat) : Nat := if w = 0 then 0 else Nat.min 255 ((isqrt (l.toNat / (32 * w * w)) + 1) / 2)

/-- MAJOR, MINOR and ANGLE of moments, with their bounded errors as free values (06 R165); moments of a single node have
no major axis, and ANGLE is free. -/
def shapeOf (m : Moments) (s : State) : (Nat × Nat × Nat) × State :=
  let root : Int := (isqrtAux ((m.xx - m.yy) * (m.xx - m.yy) + 4 * (m.xy * m.xy)).toNat 128 0 : Nat)
  let l1 := m.xx + m.yy + root
  let l2 := m.xx + m.yy - root
  let (r1, s) := draw s
  let (r2, s) := draw s
  let (r3, s) := draw s
  let near (x : Nat) (e : Int) : Nat := (clampI 0 255 ((x : Int) + e)).toNat
  let angle := if l1 ≤ 0 then r3.toNat % 32768
    else if 16 * (l1 - l2) < l1 then 0
    else ((asr (turnOf (m.xx - m.yy) (2 * m.xy) + 65536) 17 + bounded r3 64) % 32768).toNat
  ((near (extent l1 m.w) (bounded r1 1), near (extent l2 m.w) (bounded r2 1), angle), s)

/-- A blob as a detection. -/
def blobDet (w : View) (half : Int) (aspect : Nat) (removed sus : List Node) (b : Blob) (s : State) : Det × State :=
  let (sh, s) := shapeOf (momentsOf w half aspect b.nodes) s
  let f := w.centroid half (b.nodes.filter (near8 b.peak)) b.peak
  let a := w.centroid half b.nodes b.peak
  ({ nodes := b.nodes, peakNode := b.peak, peak := (w.at b.peak).toNat, area := b.nodes.length,
     signal := Nat.min 0xFFFFFF (sumI (b.nodes.map w.at)).toNat, xf := f.1, yf := f.2, xa := a.1, ya := a.2, major := sh.1,
     minor := sh.2.1, angle := sh.2.2, edge := b.nodes.any w.onEdge, waterCut := removed.any (fun n => b.nodes.any (near8 n)),
     suspect := b.nodes.any sus.contains }, s)

/-! ### Hover (04 R112 to R115) -/

/-- The self deltas of an axis with the lines near any blob set to 0. -/
def excluded (sd : List Int) (excl : Nat) (spans : List (Option (Nat × Nat))) : List Int :=
  (List.zip (List.range sd.length) sd).map (fun p => if spans.any (nearSpan excl p.1) then 0 else p.2)

/-- The index of the largest value, the lowest on a tie. -/
def peakIdx (l : List Int) : Nat :=
  ((List.zip (List.range l.length) l).foldl (fun (a : Nat × Option Int) p => match a.2 with
    | none => (p.1, some p.2)
    | some v => if v < p.2 then (p.1, some p.2) else a) (0, none)).1

/-- The position on an axis (R114). DESIGN CHOICE: the peak's own position when every term is 0 (log entry 103). -/
def hoverPos (l : List Int) (pk : Nat) : Nat :=
  let idx := (List.range l.length).filter (fun i => decide (absDiff i pk ≤ 2))
  let v (i : Nat) : Nat := (l.getD i 0).toNat
  let tot := (idx.map v).sum
  if tot = 0 then 256 * pk else (256 * (idx.map (fun i => i * v i)).sum + tot / 2) / tot

/-- A second local maximum on an axis (R115). -/
def hoverAmbig (l : List Int) (pk : Nat) : Bool :=
  (List.range l.length).any (fun i =>
    let v := l.getD i 0
    decide (0 < v) && (i == 0 || decide (l.getD (i - 1) 0 < v)) && (decide (l.length ≤ i + 1) || decide (l.getD (i + 1) 0 ≤ v)) &&
    decide (4 ≤ absDiff i pk) && decide (l.getD pk 0 ≤ 2 * v))

end Sys2Proof.Machine
end

