-- ==== Sys2Proof/Machine/Taps.lean ====
section
/-! DEFINITION. The default wake applet (16 R451, R452): what it makes of the records of a published track mirror. -/

namespace Sys2Proof.Machine

/-- A wake request of the default applet. -/
def wakeRequest (code word1 : Nat) (s : State) : State :=
  pushPair .c1 (BitVec.ofNat 32 (0xFFFE0000 + code)) (BitVec.ofNat 32 word1) s

/-- A record of the mirror that the default applet looks at (16 R452): a double tap, or a token placed. Device time is that of the
publication. -/
def tapRecord (s : State) (r : Rec) : State :=
  let now := s.clk.now
  if r.cls = 3 ∧ r.status = 0 then wakeRequest 2 r.tokenId s
  else if r.cls ≠ 0 then { s with pwr.taps := s.pwr.taps.filter (fun p => p.1 != r.id) }
  else if r.status = 0 then
    let recent := s.pwr.lifted.filter (fun l => decide (now ≤ l.1 + 400000))
    let meets (l : Nat × Int × Int) : Bool := decide (((r.x : Int) - l.2.1).natAbs ≤ 512 ∧ ((r.y : Int) - l.2.2).natAbs ≤ 512)
    let t := { s with pwr.taps := file s.pwr.taps r.id now, pwr.lifted := recent.filter (fun l => !meets l) }
    if recent.any meets then wakeRequest 1 r.id t else t
  else if 2 ≤ r.status ∧ r.status ≤ 5 then
    let t := { s with pwr.taps := s.pwr.taps.filter (fun p => p.1 != r.id) }
    match assoc s.pwr.taps r.id with
    | some t0 =>
      if r.status = 2 ∧ t0 + 30000 ≤ now ∧ now ≤ t0 + 300000 then { t with pwr.lifted := t.pwr.lifted ++ [(now, (r.x : Int), (r.y : Int))] } else t
    | none => t
  else s

/-- The default applet, while core 1 runs it, on a mirror just published. -/
def tapApplet (rs : List Rec) (s : State) : State :=
  if s.pwr.dfltApplet && s.clk.core && !s.pwr.limp && !s.core1Gone then rs.foldl (fun u r => tapRecord u r) s else s

end Sys2Proof.Machine
end

