-- ==== Sys2Proof/Machine/Report.lean ====
section
/-! DEFINITION. Report images and the track mirror (06 R173 to R178), and who gets an image: the host's report ring at the root, the root
by a REPORT message from a member (07 R227). -/

namespace Sys2Proof.Machine

/-! ### Images -/

/-- A contact record's 32 bytes (06 R177). -/
def recBytes (r : Rec) : List Byte :=
  leBytes 2 r.id ++ leBytes 1 r.trk ++ leBytes 1 (pack [(r.cls, 0), (r.status, 4)]) ++ leBytes 3 r.x ++ leBytes 1 r.z ++ leBytes 3 r.y ++
  leBytes 1 (pack [(r.rtile % 64, 0), (b2n r.stitched, 6)]) ++ leBytes 2 (Nat.min r.peak 0xFFFF) ++ leBytes 2 (Nat.min r.area 0xFFFF) ++
  leBytes 2 r.angle ++ leBytes 1 r.major ++ leBytes 1 r.minor ++ leBytes 2 r.tokenId ++ leBytes 1 r.tokenQ ++
  leBytes 1 (pack [(b2n r.stale, 0), (b2n r.ambig, 1), (b2n r.edge, 2), (b2n r.waterCut, 3), (b2n r.suspect, 4), (b2n r.touched, 5),
    (b2n r.coast, 6), (b2n r.suppressed, 7)]) ++
  leBytes 3 (Nat.min r.signal 0xFFFFFF) ++ leBytes 1 0 ++ leBytes 2 (tc 16 r.vx) ++ leBytes 2 (tc 16 r.vy)

/-- A record read back from its bytes. -/
def recOfBytes (b : List Byte) : Rec :=
  let fl := leAt b 0x17 1
  { id := leAt b 0 2, trk := leAt b 2 1 % 64, cls := fld (leAt b 3 1) 0 4, status := fld (leAt b 3 1) 4 3, x := leAt b 4 3, z := leAt b 7 1,
    y := leAt b 8 3, rtile := leAt b 0x0B 1 % 64, stitched := bit (leAt b 0x0B 1) 6, peak := leAt b 0x0C 2, area := leAt b 0x0E 2,
    angle := leAt b 0x10 2, major := leAt b 0x12 1, minor := leAt b 0x13 1, tokenId := leAt b 0x14 2, tokenQ := leAt b 0x16 1,
    stale := bit fl 0, ambig := bit fl 1, edge := bit fl 2, waterCut := bit fl 3, suspect := bit fl 4, touched := bit fl 5,
    coast := bit fl 6, suppressed := bit fl 7, signal := leAt b 0x18 3, vx := sext 16 (leAt b 0x1C 2), vy := sext 16 (leAt b 0x1E 2) }

/-- The 64-byte header (06 R176) over `nrec` records; POST_US and PHASE are the host DMA engine's. -/
def reportHeader (r : Report) (nrec : Nat) : List Byte :=
  leBytes 4 r.epoch ++ leBytes 1 (r.tile % 64) ++ leBytes 1 nrec ++ leBytes 1 r.ctx ++ leBytes 1 (pack [(r.kp, 0), (r.ks, 4)]) ++
  leBytes 2 (pack [(b2n r.discard, 0), (b2n r.lineFault, 1), (b2n r.selfStale, 2), (b2n r.wet, 3), (b2n r.tableFull, 4), (b2n r.partialImg, 5),
    (b2n r.overrun, 6), (b2n r.suspect, 7), (b2n r.recal, 8), (b2n r.stitchLate, 9), (b2n r.resync, 10), (b2n r.tokenSkip, 11)]) ++
  leBytes 1 r.dcause ++ leBytes 1 (Nat.min r.nblob 255) ++ leBytes 2 (Nat.min r.water 0xFFFF) ++ leBytes 2 0 ++
  leBytes 2 (Nat.min r.trkUs 0xFFFF) ++ leBytes 2 0 ++ leBytes 1 r.ntrack ++ leBytes 1 r.nnew ++ leBytes 1 r.nret ++ leBytes 1 r.ntoken ++
  zeros 40

/-- The records of an image, at most 64: beyond that EVICTED ones are left out. -/
def fitRecs (rs : List Rec) : List Rec := if rs.length ≤ 64 then rs else (rs.filter (·.status != 5)).take 64

/-- The 2,112 bytes of an image of some records. -/
def imageOf (r : Report) (rs : List Rec) : List Byte :=
  padTo 2112 (reportHeader r (fitRecs rs).length ++ (fitRecs rs).flatMap recBytes)

/-- The records a host sees (06 R175). -/
def Report.shown (r : Report) : List Rec := r.recs.filter (fun x => !x.suppressed)

/-! ### Mirror and delivery -/

/-- The mirror (06 R178): the image into the copy not most recently published, then PUB; source 20. -/
def publishMirror (r : Report) (s : State) : State :=
  let pub := s.mem.le mirrorBase 4
  let first := s.mem.le (mirrorBase + 0x40) 4 == pub && bit (s.mem.le (mirrorBase + 4) 4) 0
  let a := if first then mirrorBase + 0x880 else mirrorBase + 0x40
  let m := ((s.mem.write a (imageOf r r.recs)).putLe mirrorBase 4 r.epoch).putLe (mirrorBase + 4) 4 1
  tapApplet r.recs (raise 20 { s with mem := m })

/-- The tile holds a track of a class that 16 R432 counts. -/
def State.contactHere (s : State) : Bool := s.tracks.any (fun t => t.2.status == 1 && decide (t.2.cls < 4))

/-- A GPIO output of function 3 shows it (17 R471); function 2 is low again 1 µs after each boundary. -/
def showContact (s : State) : State :=
  { s with pwr.gpioOut := (List.range 4).map (fun i => s.pwr.gpio.getD i 0 == 3 && s.contactHere) }

/-- The tile posts the reports of its frames: in ACTIVE, and from a member that is locked and has not lost the ring (16 R430, 07 R211, 01 R25). -/
def State.posts (s : State) : Bool :=
  s.pwr.state == .active && (s.hostSide || (s.crl.enrolled && s.crl.lock && !s.chn.discardReports))

/-- RESYNC stays due until a report is posted (06 R174). -/
def resyncAfter (s : State) : Bool := s.trk.resync && !s.posts

/-- The bytes of an image in the `i`-th of its 17 REPORT frames: the first frame begins with the message header (07 R200). -/
def reportPart (i : Nat) (img : List Byte) : List Byte := if i = 0 then img.take 120 else (img.drop (128 * i - 8)).take 128

/-- The image of a frame goes on its way (10 R305, 07 R227): a member without LOCK, or one that lost the ring, sends none (07 R211). Outside
ACTIVE none is posted (16 R430); a member then sends the contact-present bit alone (R433). -/
def deliverReport (r : Report) (s : State) : State :=
  let img := imageOf r r.shown
  if s.pwr.state ≠ .active then
    (if s.isMember && s.crl.enrolled && s.crl.lock then sendMsg 1 0 (.contactBit s.contactHere) s else s)
  else if s.hostSide then reportDue { tile := 0, epoch := r.epoch, nrec := (fitRecs r.shown).length, image := img } s
  else if !s.crl.enrolled || !s.crl.lock || s.chn.discardReports then s
  else sendMsgParts 1 0 false ((List.range 17).map (fun i =>
    Msg.report r.epoch i (reportPart i img) s.contactHere)) s

/-- Another tile than `me` reported the track's ID in the frame before (07 R218, R228). -/
def Track.handed (t : Track) (me : Nat) : Bool := t.owner.any (fun k => k != me)

/-- The tracks' records of this frame: number, table entry, own values. -/
def trackRec (i : Nat) (t : Track) : Rec :=
  { t.rcd with id := t.rid, trk := i, status := if t.status ≠ 1 then t.status else t.rcd.status, stale := t.stale || t.rcd.stale }

/-- A record of a track that this tile reports alone, and another tile reported in the frame before, is a HANDOFF with velocity 0 (07 R218,
R228). -/
def ownerRec (me : Nat) (t : Track) (r : Rec) : Rec :=
  if t.handed me && !r.suppressed && decide (r.status < 2) then { r with status := 6, vx := 0, vy := 0 } else r

/-- Whether this tile reported a track in a frame, and where; comes after the report stands. -/
def noteReported (r : Report) (s : State) : State :=
  { s with trk.tab := s.trk.tab.map (fun o => o.map (fun t =>
      match r.shown.find? (fun x => x.id == t.rid && decide (x.status < 2 ∨ x.status = 6)) with
      | some x => { t with reported := true, repX := x.x, repY := x.y, owner := some s.tile, ridCls := some x.cls }
      | none => { t with reported := false, owner := t.nextOwner, ridCls := t.nextCls })) }

/-- The contact mask of the table's tracks (05 R128), for the next frame's segmentation (06 R162). -/
def remask (p : Params) (s : State) : State :=
  { s with trk.mask := dilate p.d p.s (s.ctxField p.ctx 0x301 1) (s.maskTracks.flatMap (·.nodes)) }

/-- The tile that reports an ID's final retirement returns it to its opener; its own are lent no longer (07 R221). -/
def returnIds (r : Report) (s : State) : State :=
  if s.boot.role = .standalone then s
  else
    let gone := r.shown.filter (fun x => decide (2 ≤ x.status ∧ x.status ≤ 5))
    let t := { s with crl.lent := s.crl.lent.filter (fun l => !gone.any (fun x => x.id == l.1)) }
    (gone.filter (fun x => x.id / 1024 != s.tile)).foldl (fun u x => sendMsg 0 (x.id / 1024) (.idReturn x.id) u) t

/-- The report of the frame in processing is complete: records by rising index, retiring extras first, counts, mirror, delivery. `extras`
are records without a table entry of their own. -/
def finishReport (extras : List Rec) (s : State) : State :=
  let mine := (s.tracks.filter (fun t => !t.2.silent)).map (fun t => ownerRec s.tile t.2 (trackRec t.1 t.2))
  let noPalm := s.ctxField (s.params s.chn.prev.epoch).ctx 0x32E 1 == 0
  let recs := (List.range 64).flatMap (fun i => extras.filter (·.trk == i) ++ mine.filter (·.trk == i))
  let recs := recs.map (fun x => if x.cls = 2 ∧ noPalm then { x with suppressed := true } else x)
  let nnew := (s.tracks.filter (fun t => t.2.isNew)).length
  let nret := (s.tracks.filter (fun t => t.2.status != 1)).length + (extras.filter (·.status == 5)).length
  let r := { s.trk.report with recs := recs, ntrack := s.tracks.length, nnew := nnew, nret := nret }
  let t := { s with trk.report := r, trk.prevRecs := recs, chn.prev.merged := true, chn.prev.tracked := true
                    trk.opens := cnt 16 s.trk.opens nnew, trk.retires := cnt 16 s.trk.retires nret, trk.last := r.trkUs % 1024
                    trk.max := Nat.max s.trk.max (r.trkUs % 1024) }
  let t := if t.pwr.state == .idleScan && t.pwr.wakeMode == 0 && recs.any (fun x => x.status == 0 && decide (x.cls < 4)) then
      wakeSource 0x11 t else t
  showContact (returnIds r (noteReported r (deliverReport r (publishMirror r t))))

/-- The header of a report of the frame in processing. -/
def headerOf (trkUs : Nat) (s : State) : Report :=
  let f := s.chn.prev
  let p := s.params f.epoch
  { epoch := f.epoch, tile := s.tile, ctx := p.ctx, kp := p.kp, ks := p.ks, lineFault := f.interpolated,
    selfStale := f.selfBad || s.elec.shFault, wet := s.trk.wet, suspect := decide (0 < suspectCount s), recal := f.recal,
    resync := s.trk.resync, trkUs := trkUs }

/-- Entries that retired in the frame before are free (06 R172), the others start a frame. -/
def freshTab (s : State) : State :=
  { s with trk.tab := s.trk.tab.map (fun o => o.bind (fun t =>
      if t.status = 1 then some { t with isNew := false, silent := false, detected := false, nextOwner := none, nextCls := none
                                         age := Nat.min (t.age + 1) 0xFFFFFF
                                         rcd := { t.rcd with stitched := false, stale := false, suppressed := false, status := 1, coast := false } }
      else none)) }

/-- Still time of a track (05 R139, R140), and its event when the limit is reached. -/
def stillTrack (us radius limit : Nat) (i : Nat) (t : Track) (s : State) : State :=
  let put (t : Track) (u : State) : State := { u with trk.tab := u.trk.tab.set i (some t) }
  if t.isNew then put { t with ax := t.x, ay := t.y, stillUs := 0, stale := false } s
  else if (radius : Int) < ((t.x - t.ax).natAbs : Int) ∨ (radius : Int) < ((t.y - t.ay).natAbs : Int) then
    put { t with ax := t.x, ay := t.y, stillUs := 0, stale := false } s
  else
    let us := t.stillUs + us
    let reached := decide (limit ≠ 0 ∧ 1000000 * limit ≤ us)
    let u := put { t with stillUs := us, stale := t.stale || reached } s
    if reached && !t.stale then postEventAt s.chn.prev.epoch 0x05 (pack [(t.rid, 0), (i, 16)]) (us / 1000000) u else u

/-- Still times of every track. -/
def stillAll (s : State) : State :=
  let c := (s.params s.chn.prev.epoch).ctx
  s.tracks.foldl (fun u t => stillTrack s.chn.prev.us (s.ctxField c 0x312 2) (s.ctxField c 0x310 2) t.1 t.2 u) s

/-- A discarded frame (06 R173): no track changes, and who reported its ID stands; the report carries the records of the one before. -/
def discardedReport (trkUs : Nat) (s : State) : State :=
  let t := stillAll (freshTab s)
  let h := headerOf trkUs t
  let carried := (t.trk.prevRecs.filter (fun x => x.status < 2 || x.status == 6)).map (fun x =>
    { x with status := 1, vx := 0, vy := 0, stale := (t.tracks.find? (fun k => k.2.rid == x.id)).elim x.stale (·.2.stale) })
  let r := { h with discard := true, dcause := t.chn.prev.dcause, recs := carried, ntrack := t.tracks.length }
  let u := { t with trk.report := r, trk.prevRecs := carried, trk.resync := resyncAfter t, chn.prev.merged := true, chn.prev.tracked := true
                    trk.last := trkUs % 1024, trk.max := Nat.max t.trk.max (trkUs % 1024), trk.blobs := [], trk.water := [] }
  let u := { u with trk.tab := u.trk.tab.map (fun o => o.map (fun k => { k with nextOwner := k.owner, nextCls := k.ridCls })) }
  noteReported r (deliverReport r (publishMirror r u))

end Sys2Proof.Machine
end

