-- ==== Sys2Proof/Machine/Tracker.lean ====
section
/-! DEFINITION. The tracker (06 R166 to R174, R179, R483, 04 R110 to R113): classes, matching, coasting, the hover, opening and IDs, and the
fragments it hands to Crook (07 R212 to R214). -/

namespace Sys2Proof.Machine

/-- The tracker's context fields (06 R182, 04 R116). -/
structure TrkParams where
  touch : Int
  on : Nat
  off : Int
  split : Nat
  lift : Nat
  radius : Nat
  large : Nat
  palm : Nat
  palmMajor : Nat
  zFull : Nat
  aspect : Nat
  join : Nat
  hold : Nat
  policy : Nat
  selfMin : Int
  ratio : Int

def State.trkParams (s : State) (slot : Nat) : TrkParams :=
  let f (o n : Nat) : Nat := s.ctxField slot o n
  { touch := (f 0x320 2 : Nat), on := f 0x322 2, off := (f 0x324 2 : Nat), split := f 0x326 1, lift := f 0x327 1, radius := f 0x328 2,
    large := f 0x32A 1, palm := f 0x32C 2, palmMajor := f 0x32B 1, zFull := f 0x330 2, aspect := f 0x332 2, join := f 0x334 2,
    hold := f 0x347 1, policy := f 0x2E2 1, selfMin := (f 0x2E4 2 : Nat), ratio := (f 0x2E6 2 : Nat) }

/-- The class of a blob (06 R166), with the hold column of the class its track has. -/
def classOf (q : TrkParams) (held : Option Nat) (area major : Nat) : Nat :=
  let palm := if held = some 2 then decide (3 * q.palm / 4 ≤ area ∨ 3 * q.palmMajor / 4 ≤ major)
    else decide (q.palm ≤ area ∨ q.palmMajor ≤ major)
  if palm then 2 else if (if held = some 1 then 3 * q.large / 4 else q.large) ≤ area then 1 else 0

/-- The position of a detection as a class has it (06 R165). -/
def Det.pos (d : Det) (cls : Nat) : Int × Int := if cls = 0 then ((d.xf : Int), (d.yf : Int)) else ((d.xa : Int), (d.ya : Int))

def Det.cls (q : TrkParams) (held : Option Nat) (d : Det) : Nat := if d.token then 3 else classOf q held d.area d.major

/-- Z of a peak (06 R165, R177). -/
def zOf (full peak : Nat) : Nat := if full = 0 then 255 else Nat.min 255 (255 * peak / full)

/-- The array origin of the tile (06 R150, 07 R207). -/
def State.origin (s : State) : Nat × Nat := if s.boot.role = .standalone then (0, 0) else
  match s.crl.own with
  | some r => (r.ox, r.oy)
  | none => (0, 0)

/-- The record values of a track at a position. -/
def placeRec (s : State) (x y : Int) (r : Rec) : Rec :=
  { r with x := (s.origin.1 + x.toNat) % 2 ^ 24, y := (s.origin.2 + y.toNat) % 2 ^ 24, rtile := s.tile }

/-- The measures of a detection in a record. -/
def measureRec (q : TrkParams) (cls : Nat) (d : Det) (r : Rec) : Rec :=
  { r with cls := cls, z := zOf q.zFull d.peak, peak := d.peak, area := d.area, angle := d.angle, major := d.major, minor := d.minor,
           tokenId := d.tokenId, tokenQ := d.tokenQ, edge := d.edge, waterCut := d.waterCut, suspect := d.suspect, touched := d.touched,
           signal := d.signal, ambig := false }

/-- An assigned track takes a detection (06 R167). -/
def takeDet (q : TrkParams) (s : State) (t : Track) (d : Det) : Track :=
  let c := d.cls q (some t.cls)
  let p := d.pos c
  let vx := satI 16 (p.1 - t.x)
  let vy := satI 16 (p.2 - t.y)
  { t with cls := c, x := p.1, y := p.2, vx := vx, vy := vy, coast := 0, detected := true, nodes := d.nodes, pd := d.peakNode.1,
           ps := d.peakNode.2, rcd := { placeRec s p.1 p.2 (measureRec q c d t.rcd) with coast := false, vx := vx, vy := vy } }

/-- A track retires with a status (06 R172). -/
def Track.retire (t : Track) (st : Nat) : Track := { t with status := st, vx := 0, vy := 0, rcd := { t.rcd with vx := 0, vy := 0 } }

def putTrack (i : Nat) (t : Track) (s : State) : State := { s with trk.tab := s.trk.tab.set i (some t) }

/-! ### Matching -/

/-- The predicted position, within the tile. -/
def predict (p : Params) (t : Track) : Int × Int :=
  (clampI 0 ((256 * (p.s - 1) : Nat) : Int) (t.x + t.vx), clampI 0 ((256 * (p.d - 1) : Nat) : Int) (t.y + t.vy))

/-- A pair that may be assigned: distance, track index, detection index. -/
structure MatchPair where
  dist : Nat
  ti : Nat
  di : Nat
deriving DecidableEq

def matchPairs (q : TrkParams) (p : Params) (radius : Nat) (ts : List (Nat × Track)) (ds : List (Nat × Det)) : List MatchPair :=
  ts.flatMap (fun t => ds.filterMap (fun d =>
    if t.2.cls = 4 ∨ (t.2.cls = 3) ≠ (d.2.token = true) ∨ (d.2.token = true ∧ d.2.tokenId ≠ t.2.rcd.tokenId) then none
    else
      let a := predict p t.2
      let b := d.2.pos (d.2.cls q none)
      let dist := Nat.max (a.1 - b.1).natAbs (a.2 - b.2).natAbs
      if dist ≤ radius then some { dist := dist, ti := t.1, di := d.1 : MatchPair } else none))

/-- The assignment (06 R167): pairs by rising distance, track index, detection index. -/
def assign (ps : List MatchPair) : List (Nat × Nat) :=
  (ps.mergeSort (fun a b => decide (a.dist < b.dist) || (a.dist == b.dist && (decide (a.ti < b.ti) || (a.ti == b.ti && decide (a.di ≤ b.di)))))).foldl
    (fun l x => if l.any (fun y => y.1 == x.ti || y.2 == x.di) then l else l ++ [(x.ti, x.di)]) []

/-- A track that no detection takes (06 R169); after a rebuild it is reported once with LIFT (18 R483). -/
def coastTrack (q : TrkParams) (p : Params) (rebuilt : Bool) (claimed : List Node) (t : Track) : Track :=
  let a := predict p t
  let on : Node := (((a.2 + 128) / 256).toNat, ((a.1 + 128) / 256).toNat)
  if rebuilt then t.retire 2
  else if t.cls ≠ 3 ∧ claimed.contains on then t.retire 3
  else
    let n := t.coast + 1
    let u := { t with coast := n, vx := 0, vy := 0, rcd := { t.rcd with coast := true, vx := 0, vy := 0 } }
    if (if t.cls = 3 then q.hold else q.lift) ≤ n then u.retire 2 else u

/-- Every open track but a hover takes its detection or coasts. -/
def matchTracks (q : TrkParams) (p : Params) (rebuilt : Bool) (ds : List Det) (asg : List (Nat × Nat)) (s : State) : State :=
  s.tracks.foldl (fun u t =>
    if t.2.cls = 4 then (if rebuilt then putTrack t.1 (t.2.retire 2) u else u)
    else match assoc asg t.1 with
      | some di => match ds[di]? with
        | some d => putTrack t.1 (takeDet q u t.2 d) u
        | none => u
      | none =>
        let claimed := asg.flatMap (fun a => match ds[a.2]? with
          | some d => if a.1 = t.1 ∨ d.token then [] else d.nodes
          | none => [])
        putTrack t.1 (coastTrack q p rebuilt claimed t.2) u) s

/-! ### Opening -/

/-- The next contact ID (06 R170, 07 R221), and the counter after it. -/
def nextId (s : State) : Nat × Nat :=
  let tile := s.tile
  let held := s.tracks.map (fun t => t.2.id) ++ (s.tracks.map (fun t => t.2.rid)) ++ s.crl.lent.map (·.1)
  let c := ((List.range 1024).map (fun k => (s.trk.openCtr + k) % 1024)).find? (fun v => !held.contains (1024 * tile + v))
  let v := c.getD s.trk.openCtr
  (1024 * tile + v, (v + 1) % 1024)

/-- The lowest free entry. -/
def freeEntry (s : State) : Option Nat := (List.range 64).find? (fun i => (s.trk.tab.getD i none).isNone)

/-- The table's hover, if it holds one that has not retired. -/
def State.hover (s : State) : Option (Nat × Track) := s.tracks.find? (fun t => t.2.cls == 4 && t.2.status == 1)

/-- A track opens in entry `i`. -/
def openAt (i cls : Nat) (p : Int × Int) (nodes : List Node) (pk : Node) (detected : Bool) (r : Rec) (s : State) : State :=
  let id := nextId s
  putTrack i { id := id.1, rid := id.1, cls := cls, x := p.1, y := p.2, ax := p.1, ay := p.2, nodes := nodes, pd := pk.1, ps := pk.2,
               detected := detected, rcd := placeRec s p.1 p.2 { r with cls := cls } } { s with trk.openCtr := id.2 }

/-- A detection opens a track (06 R168): a free entry, the hover's, or none. What an eviction leaves is a record of its own. -/
def openDet (q : TrkParams) (d : Det) (a : State × List Rec) : State × List Rec :=
  let c := d.cls q none
  let go (i : Nat) (u : State) : State := openAt i c (d.pos c) d.nodes d.peakNode true (measureRec q c d {}) u
  match freeEntry a.1 with
  | some i => (go i a.1, a.2)
  | none =>
    match a.1.hover with
    | some h =>
      let gone := { trackRec h.1 (h.2.retire 5) with status := 5 }
      (go h.1 { a.1 with trk.tab := a.1.trk.tab.set h.1 none }, a.2 ++ [gone])
    | none => ({ a.1 with trk.full := cnt 8 a.1.trk.full 1, trk.report.tableFull := true }, a.2)

/-! ### Hover -/

/-- What the self data show of a hover. -/
structure HoverView where
  h : Int
  pd : Nat
  ps : Nat
  x : Nat
  y : Nat
  ambig : Bool
  exclD : List (Option (Nat × Nat))
  exclS : List (Option (Nat × Nat))

def hoverView (excl : Nat) (blobs : List (List Node)) (v : List Int × List Int) : HoverView :=
  let d := excluded v.1 excl (blobs.map driveSpan)
  let c := excluded v.2 excl (blobs.map senseSpan)
  let pd := peakIdx d
  let ps := peakIdx c
  { h := minI (d.getD pd 0) (c.getD ps 0), pd := pd, ps := ps, x := hoverPos c ps, y := hoverPos d pd,
    ambig := hoverAmbig d pd || hoverAmbig c ps, exclD := blobs.map driveSpan, exclS := blobs.map senseSpan }

/-- The record of a hover (04 R114, R115, 06 R177). -/
def hoverRec (full : Nat) (v : HoverView) (r : Rec) : Rec :=
  { r with cls := 4, z := zOf full v.h.toNat, peak := Nat.min v.h.toNat 0xFFFF, area := 0, angle := 0, major := 0, minor := 0,
           tokenId := 0xFFFF, tokenQ := 0, edge := false, waterCut := false, suspect := false, touched := false, signal := 0,
           ambig := v.ambig }

/-- What becomes of a reported hover: it stays, it lifts, or its lines fell under a blob. -/
inductive HoverFate where
  | stays | lifts | covered

/-- R113, for a hover track. -/
def hoverFate (en : Bool) (off : Int) (excl : Nat) (v : Option HoverView) (t : Track) : HoverFate :=
  match v with
  | none => .lifts
  | some v =>
    if !en then .lifts
    else if v.exclD.any (nearSpan excl t.pd) || v.exclS.any (nearSpan excl t.ps) then .covered
    else if v.h < off then .lifts else .stays

/-- The reported hover in this frame (04 R113, 06 R171): `opens` are the detections that open a track, with their indices; the answer
drops the one that takes over the hover's entry. -/
def oldHover (q : TrkParams) (slot : Nat) (v : Option HoverView) (opens : List (Nat × Det)) (s : State) : List (Nat × Det) × State :=
  match s.hover with
  | none => (opens, s)
  | some h =>
    let f (o n : Nat) : Nat := s.ctxField slot o n
    match hoverFate (f 0x2EB 1 == 1) (f 0x2EE 2 : Nat) (f 0x2F2 1) v h.2, v with
    | .stays, some v =>
      let vx := satI 16 ((v.x : Int) - h.2.x)
      let vy := satI 16 ((v.y : Int) - h.2.y)
      (opens, putTrack h.1 { h.2 with x := v.x, y := v.y, vx := vx, vy := vy, pd := v.pd, ps := v.ps
                                      rcd := { placeRec s v.x v.y (hoverRec (f 0x2F0 2) v h.2.rcd) with vx := vx, vy := vy } } s)
    | .covered, _ =>
      let dist (d : Det) : Nat := Nat.max ((d.pos (d.cls q none)).1 - h.2.x).natAbs ((d.pos (d.cls q none)).2 - h.2.y).natAbs
      match bestOf (fun a b => decide (dist a.2 < dist b.2)) (opens.filter (fun d => !d.2.token && decide (dist d.2 ≤ q.join))) with
      | some d => (opens.filter (fun x => x.1 != d.1), putTrack h.1 (takeDet q s h.2 d.2) s)
      | none => (opens, putTrack h.1 (h.2.retire 2) s)
    | _, _ => (opens, putTrack h.1 (h.2.retire 2) s)

/-- A hover that a line test left reported stays while H reaches HOVER_OFF (04 R113, R117; log entry 97). -/
def hoverGoesOn (slot : Nat) (v : HoverView) (s : State) : Bool := s.trk.hoverUp && decide ((s.ctxField slot 0x2EE 2 : Int) ≤ v.h)

/-- A new hover is reported from the second consecutive frame with a candidate, in a free entry (04 R113). DESIGN CHOICE: not in the frame in
which the hover before it is dropped, `had` (log entry 123). -/
def newHover (slot : Nat) (had : Bool) (v : Option HoverView) (s : State) : State :=
  match v with
  | some v =>
    let on := hoverGoesOn slot v s
    let t := { s with trk.hoverUp := on }
    if had || (s.trk.hoverCand < 2 && !on) then t
    else match freeEntry t with
      | some i => openAt i 4 ((v.x : Int), (v.y : Int)) [] (v.pd, v.ps) false (hoverRec (s.ctxField slot 0x2F0 2) v {}) { t with trk.hoverUp := false }
      | none => t
  | none => { s with trk.hoverUp := false }

/-! ### Water and tokens of a frame -/

/-- W of the frame decides its wet state (04 R110) before segmentation, with an event at a change. -/
def wetState (slot w : Nat) (s : State) : State :=
  let wet := decide (s.ctxField slot 0x2E8 2 ≤ w)
  let n := if wet then 0 else s.trk.dryCnt + 1
  let next := wet || (s.trk.wet && decide (n < s.ctxField slot 0x2E3 1))
  let t := { s with trk.wet := next, trk.dryCnt := if next then n else 0, trk.waterW := w }
  if next = s.trk.wet then t else postEventAt s.chn.prev.epoch 0x03 (b2n next) w t

/-- Token detections of a frame (06 R152 to R161). -/
def tokenDets (w : View) (v : SelfView) (q : TrkParams) (slot : Nat) (sus : List Node) (s : State) : List Det × State :=
  let f (o n : Nat) : Nat := s.ctxField slot o n
  match bankOf s (f 0x340 2) with
  | none => ([], { s with trk.ncand := 0, trk.ntok := 0 })
  | some b =>
    if s.tok.bad then ([], { s with trk.ncand := 0, trk.ntok := 0 })
    else
      let all := candidates w (f 0x342 2 : Nat) (f 0x344 2 : Nat) (f 0x346 1)
      let cs := all.take 48
      let gs := clusters q.aspect (f 0x348 2) cs
      let ok := gs.filter (fun g => decide (3 ≤ g.length ∧ g.length ≤ 6))
      let missed := (gs.filter (fun g => decide (7 ≤ g.length))).length + (ok.length - 8)
      let bank := s.mem.read (dictBank b) 1024
      let r := (ok.take 8).foldl (fun (a : List Det × State) g =>
        match matchCluster bank (f 0x34C 4) q.aspect g with
        | none => a
        | some t =>
          let d := tokenDet w v q.selfMin q.ratio sus g t a.2
          (a.1 ++ [d.1], d.2)) ([], s)
      (r.1, { r.2 with
        trk.candcap := cnt 8 r.2.trk.candcap (all.length - cs.length), trk.clustcap := cnt 8 r.2.trk.clustcap missed
        trk.ncand := cs.length, trk.ntok := r.1.length, trk.report.tokenSkip := decide (0 < missed), trk.report.ntoken := r.1.length })

/-! ### Fragments (07 R212 to R214) -/

/-- The tile takes part in stitching: an online map neighbour across a seam that is not disabled (06 R179, 07 R212). -/
def State.seams (s : State) : List (Nat × Nat) :=
  if s.boot.role = .standalone then []
  else match s.crl.own with
    | some r => r.nbrs.filter (fun n => s.crl.online.contains n.1 && n.1 != s.tile && !s.crl.seamsOff.contains n.1)
    | none => []

/-- Bit set of the edges that a node set touches: x-low, x-high, y-low, y-high. -/
def edgesOf (w : View) (ns : List Node) : Nat :=
  pack [(b2n (ns.any (fun n => n.2 == 0)), 0), (b2n (ns.any (fun n => n.2 + 1 == w.c)), 1), (b2n (ns.any (fun n => n.1 == 0)), 2),
    (b2n (ns.any (fun n => n.1 + 1 == w.d)), 3)]

/-- The corner node of an edge code 4 to 7 (07 R205). -/
def cornerNode (w : View) (e : Nat) : Node := (if e = 4 ∨ e = 5 then 0 else w.d - 1, if e = 4 ∨ e = 6 then 0 else w.c - 1)

/-- A detection touches the edge or corner shared with a neighbour. -/
def meetsEdge (w : View) (e : Nat) (ns : List Node) : Bool := if e < 4 then bit (edgesOf w ns) e else ns.contains (cornerNode w e)

/-- Line `k` in from edge `e` at position `i` along it. -/
def seamNode (w : View) (e k i : Nat) : Node :=
  match e with
  | 0 => (i, k)
  | 1 => (i, w.c - 1 - k)
  | 2 => (k, i)
  | _ => (w.d - 1 - k, i)

/-- The profile of a blob along a seam: PSTART, and the deltas of the edge line and of the next one inward (07 R213). DESIGN CHOICE: the ten
nodes about the peak's projection are five below it, itself and four above (log entry 124). -/
def profileOf (w : View) (o : Nat × Nat) (e : Nat) (ns : List Node) (pk : Node) : Nat × List Int × List Int :=
  if 4 ≤ e then (0, [w.at (cornerNode w e)], [])
  else
    let along (n : Node) : Nat := if e < 2 then n.1 else n.2
    let c := along pk
    let idx := (List.range 10).filterMap (fun j =>
      let i := c + j
      if i < 5 then none
      else if ns.any (fun n => along n ≤ i - 5) && ns.any (fun n => i - 5 ≤ along n) then some (i - 5) else none)
    ((if e < 2 then o.2 else o.1) + 256 * idx.headD c, idx.map (fun i => w.at (seamNode w e 0 i)), idx.map (fun i => w.at (seamNode w e 1 i)))

/-- A fragment for the seam at edge `e` (07 R213). -/
def fragOf (w : View) (q : TrkParams) (s : State) (e : Nat) (d : Det) (trk : Option (Nat × Track)) : Frag :=
  let o := s.origin
  let half := q.touch / 2
  let near := d.nodes.filter (near8 d.peakNode)
  let sum (ns : List Node) (g : Node → Nat) : Nat := (ns.map (fun n => w.weight half n * g n)).sum
  let x (n : Node) : Nat := o.1 + 256 * n.2
  let y (n : Node) : Nat := o.2 + 256 * n.1
  let m := momentsOf w half 256 d.nodes
  let scaled (v : Int) : Int := if m.w = 0 then 0 else v / (4096 * (m.w : Nat))
  let pr := profileOf w o e d.nodes d.peakNode
  { rid := (trk.map (·.2.rid)).getD 0xFFFF, trk := (trk.map (·.1)).getD 0, cls := (trk.map (·.2.cls)).getD (d.cls q none)
    edges := edgesOf w d.nodes, age := (trk.map (·.2.age)).getD 0, touched := d.touched, reported := (trk.map (·.2.reported)).getD false
    px := x d.peakNode, py := y d.peakNode, peak := d.peak, area := d.area, signal := d.signal, tokenId := d.tokenId
    angle := if d.token then d.angle else 0, tokenQ := d.tokenQ, w := m.w, w3 := sum near (fun _ => 1), sx := sum d.nodes x
    sy := sum d.nodes y, sx3 := sum near x, sy3 := sum near y, cxx := Nat.min (scaled m.xx).toNat 0xFFFFFFFF
    cyy := Nat.min (scaled m.yy).toNat 0xFFFFFFFF, cxy := satI 32 (scaled m.xy), pstart := pr.1, p0 := pr.2.1, p1 := pr.2.2 }

/-- The fragments for each seam, at most 8 each, and how many stay behind (07 R212). -/
def fragSets (w : View) (q : TrkParams) (s : State) (ds : List (Det × Option (Nat × Track))) : List FragSet × Nat :=
  let opposite (n : Nat) : Bool := (bit n 0 && bit n 1) || (bit n 2 && bit n 3)
  let sets := s.seams.map (fun nb =>
    let mine := (ds.filter (fun d => meetsEdge w nb.2 d.1.nodes && (d.1.token || !opposite (edgesOf w d.1.nodes)))).map (fun d => fragOf w q s nb.2 d.1 d.2)
    (nb.1, mine.mergeSort (fun a b => decide (b.peak < a.peak) || (a.peak == b.peak && decide (a.trk ≤ b.trk)))))
  (sets.map (fun x => { src := x.1, epoch := s.chn.prev.epoch, frags := x.2.take 8, conts := [] }),
   (sets.map (fun x => x.2.length - 8)).sum)

/-- The continuation entries for a neighbour (07 R214). -/
def contsFor (tile : Nat) (s : State) : List (Nat × Nat) :=
  ((s.tracks.filter (fun t => t.2.comp.contains tile)).map (fun t =>
    (t.2.rid, if t.2.status ≠ 1 then 2 else if t.2.coast ≠ 0 then 1 else 0))).take 14

/-- The FRAGSETs of a frame go out, one to each neighbour, empty ones too: a header frame and one frame for each fragment; Crook waits for
theirs. -/
def sendFragments (sets : List FragSet) (capped : Nat) (s : State) : State :=
  let t := { s with crl.fragCap := cnt 8 s.crl.fragCap capped, trk.frags := sets
                    crook.waiting := (sets.map (·.src)).filter (fun k => !s.crook.sets.any (fun f => f.src == k && f.epoch == s.chn.prev.epoch)) }
  if t.isMember && !t.crl.lock then t
  else sets.foldl (fun u f =>
    sendMsgParts 0 f.src false (List.replicate (1 + f.frags.length) (.fragset { f with src := u.tile, conts := contsFor f.src u })) u) t

/-! ### The update -/

/-- The tracks that the mirror's good copy gives back (18 R483): `bad` is the addresses that read with bad parity. -/
def mirrorTracks (bad : List Nat) (s : State) : Option (List (Nat × Track)) :=
  let pub := s.mem.le mirrorBase 4
  let ok (a : Nat) : Bool := !bad.any (fun b => decide (a ≤ b ∧ b < a + 2112))
  let pick := if s.mem.le (mirrorBase + 0x40) 4 = pub then [mirrorBase + 0x40, mirrorBase + 0x880] else [mirrorBase + 0x880, mirrorBase + 0x40]
  if !bit (s.mem.le (mirrorBase + 4) 4) 0 then none
  else match pick.find? ok with
    | none => none
    | some a =>
      let n := s.mem.le (a + 5) 1
      some ((List.range n).filterMap (fun k =>
        let r := recOfBytes (s.mem.read (a + 64 + 32 * k) 32)
        let x : Int := (r.x : Int) - (s.origin.1 : Nat)
        let y : Int := (r.y : Int) - (s.origin.2 : Nat)
        if r.status < 2 then
          some (r.trk, { id := r.id, rid := r.id, cls := r.cls, x := x, y := y, ax := x, ay := y, isNew := false, rcd := r : Track })
        else none))

/-- The table emptied by a parity error takes what the mirror kept. -/
def rebuildTab (par : List ParityHit) (s : State) : State :=
  let t := { s with trk.rebuild := false, trk.tab := List.replicate 64 none }
  match mirrorTracks ((par.filter (·.store == 0x0A)).map (·.addr)) s with
  | none => { t with trk.resync := true }
  | some ts => ts.foldl (fun u x => putTrack x.1 x.2 u) t

/-- A RELEASE_CONTACT that waits (05 R141): its track retires as RELEASED; one whose track retired otherwise completes with NOT_FOUND. -/
def markReleases (s : State) : State :=
  s.cal.releases.foldl (fun u r =>
    let lost := partDone r.cmd 0x0D u.chn.prev.epoch 0 { u with cal.releases := u.cal.releases.filter (· != r) }
    match u.trk.tab.getD r.trk none with
    | some t => if t.rid ≠ r.id ∨ t.status ≠ 1 then lost else putTrack r.trk (t.retire 4) u
    | none => lost) s

/-- The track of a detection after the update. -/
def trackOfDet (s : State) (d : Det) : Option (Nat × Track) :=
  s.tracks.find? (fun t => t.2.detected && t.2.nodes == d.nodes && t.2.status == 1)

/-- What a frame that is discarded before its merge leaves as it was (06 R173). -/
def saveTracks (s : State) : State :=
  { s with trk.saved := some {
      tab := s.trk.tab, openCtr := s.trk.openCtr, resync := s.trk.resync, hoverCand := s.trk.hoverCand,
      hoverUp := s.trk.hoverUp, mask := s.trk.mask, wet := s.trk.wet, dryCnt := s.trk.dryCnt, lent := s.crl.lent } }

/-- The frame whose merge was awaited is discarded: the tracks are those of before it. -/
def undoTracks (s : State) : State := match s.trk.saved with
  | none => s
  | some v => { s with
      trk.tab := v.tab, trk.openCtr := v.openCtr, trk.resync := v.resync, trk.hoverCand := v.hoverCand, trk.hoverUp := v.hoverUp
      trk.mask := v.mask, trk.wet := v.wet, trk.dryCnt := v.dryCnt, crl.lent := v.lent, trk.saved := none }

/-- A valid frame (06 R152 to R172). DESIGN CHOICE: of equal peaks the detection of the lower index opens its track first, the blobs before
the tokens (log entry 61). -/
def validFrame (trkUs : Nat) (par : List ParityHit) (s : State) : State :=
  let p := s.params s.chn.prev.epoch
  let q := s.trkParams p.ctx
  let m := s.pinMap p.ctx
  let w : View := { d := p.d, c := p.s, cols := s.deltaCols s.chn.prev.epoch p.d p.s }
  let v := selfView s m
  let sus := (allNodes p.d p.s).filter (fun n => bit (s.mem.le (nodeRam + lin n) 1) 0)
  let held := s.trk.mask
  let rebuilt := s.trk.rebuild
  let s := if rebuilt then rebuildTab par s else s
  let s := freshTab { s with trk.report := {} }
  let tok := tokenDets w v q p.ctx sus s
  let s := tok.2
  let taken := tok.1.flatMap (·.nodes)
  let water := (w.above q.touch).filter (fun n => !taken.contains n && !supported v q.selfMin q.ratio n (w.at n))
  let s := wetState p.ctx water.length s
  let removed := if q.policy = 0 then [] else water
  let free : Int := if q.policy = 2 ∧ s.trk.wet then q.touch * (s.ctxField p.ctx 0x2EA 1 : Nat) / 16 else q.touch
  let touch := (w.above q.touch).filter (fun n =>
    !taken.contains n && !removed.contains n && (held.contains n || decide (free ≤ w.at n)))
  let seg := blobsOf w q.split q.off touch
  let bl := seg.1.foldl (fun (a : List Det × State) b =>
    let d := blobDet w (q.touch / 2) q.aspect removed sus b a.2
    (a.1 ++ [d.1], d.2)) ([], s)
  let ds := bl.1 ++ tok.1
  let s := bl.2
  let h := { headerOf trkUs s with tokenSkip := s.trk.report.tokenSkip, ntoken := s.trk.report.ntoken, nblob := seg.1.length + seg.2
                                   water := water.length }
  let s := { s with trk.report := h, trk.blobcap := cnt 8 s.trk.blobcap seg.2, trk.nblob := seg.1.length
                    trk.blobs := seg.1.map (·.nodes), trk.water := water, trk.resync := resyncAfter s }
  let ids := List.zip (List.range ds.length) ds
  let asg := assign (matchPairs q p (if rebuilt then 512 else q.radius) s.tracks ids)
  let s := matchTracks q p rebuilt ds asg s
  let hv := v.map (hoverView (s.ctxField p.ctx 0x2F2 1) s.trk.blobs)
  let on := s.ctxField p.ctx 0x2EB 1 == 1
  let cand := on && (match hv with
    | some x => decide ((s.ctxField p.ctx 0x2EC 2 : Int) ≤ x.h)
    | none => false)
  let s := { s with trk.hoverCand := if cand then Nat.min 2 (s.trk.hoverCand + 1) else 0 }
  let opens := ids.filter (fun d => !asg.any (fun a => a.2 == d.1) && (d.2.token || decide (q.on ≤ d.2.peak)))
  let had := s.hover.isSome
  let oh := oldHover q p.ctx hv opens s
  let order := oh.1.mergeSort (fun a b => decide (b.2.peak < a.2.peak) || (a.2.peak == b.2.peak && decide (a.1 ≤ b.1)))
  let op := order.foldl (fun a d => openDet q d.2 a) (oh.2, [])
  let s := newHover p.ctx had (if on then hv else none) op.1
  let s := stillAll (markReleases s)
  let s := remask p s
  if s.seams.isEmpty then finishReport op.2 { s with trk.frags := [] }
  else
    let fs := fragSets w q s (ds.map (fun d => (d, trackOfDet s d)))
    let o := s.origin
    sendFragments fs.1 fs.2 { s with
      trk.report.recs := op.2, chn.prev.tracked := true
      trk.marks := ds.map (fun d => (o.1 + 256 * d.peakNode.2, o.2 + 256 * d.peakNode.1, d.waterCut, d.suspect)) }

/-- A frame whose report the tile does not post: line test, calibration (02 R50, 05 R120). -/
def quietFrame (s : State) : State := { s with chn.prev.tracked := true, chn.prev.merged := true }

/-- A tile that has stopped scanning posts reports without records (18 R482). -/
def stoppedReport (trkUs : Nat) (s : State) : State :=
  let r := { headerOf trkUs s with recs := [] }
  deliverReport r (publishMirror r { s with trk.report := r, trk.prevRecs := [], trk.resync := resyncAfter s, chn.prev.tracked := true })

/-- R167: the tracker on frame N. A parity error found in reading discards the frame. -/
def execTrackUpdate (trkUs : Nat) (par : List ParityHit) (s : State) : Answer :=
  answer s (if !s.clk.core || s.chn.prev.tracked then s
    else if s.chn.prev.kind == .none then (if s.ctx.stopped && s.chn.timer then stoppedReport trkUs s else s)
    else if !s.chn.prev.decoded then s
    else
      let t := parityHits par s
      let empty := t.seams.map (fun n => ({ src := n.1, epoch := t.chn.prev.epoch, frags := [], conts := [] } : FragSet))
      if t.chn.prev.silent then quietFrame t
      else if t.chn.prev.dcause ≠ 0 then
        let u := discardedReport trkUs t
        if empty.isEmpty then u else { sendFragments empty 0 u with crook.waiting := [] }
      else validFrame trkUs par (if t.seams.isEmpty then t else saveTracks t))

end Sys2Proof.Machine
end

