-- ==== Sys2Proof/Machine/Wire.lean ====
section
/-! DEFINITION. The Crila wire (07 R186 to R192, R196, R205, R213, R214): blocks and their types, the control, MARK and frame blocks, the
check of a frame, scrambler and lanes, and the records that cross the ring as bytes. -/

namespace Sys2Proof.Machine

/-! ### Blocks (R188) -/

inductive BlockKind where
  | idle | cb0 | cb1 | sof | eof | train | mark
deriving DecidableEq, Repr

/-- The first byte of a control block. -/
def BlockKind.code : BlockKind → Nat
  | .idle => 0x1E
  | .cb0 => 0x2D
  | .cb1 => 0x33
  | .sof => 0x4B
  | .eof => 0x55
  | .train => 0x66
  | .mark => 0x78

/-- The block type of a code; the others are reserved. -/
def kindOfCode : Nat → Option BlockKind
  | 0x1E => some .idle
  | 0x2D => some .cb0
  | 0x33 => some .cb1
  | 0x4B => some .sof
  | 0x55 => some .eof
  | 0x66 => some .train
  | 0x78 => some .mark
  | _ => none

/-- A block as the receiver reads it. -/
inductive BlockRead where
  | data (bits : Nat)
  | control (k : BlockKind) (payload : Nat)
  | invalid
deriving DecidableEq, Repr

/-- Sync header 0b01 says data, 0b10 a control block, whose first byte is its type and the other 56 bits its payload. -/
def readBlock (b : LinkBlock) : BlockRead :=
  if b.hdr = 1 then .data (b.bits % 2 ^ 64)
  else if b.hdr = 2 then
    match kindOfCode (b.bits % 256) with
    | some k => .control k (fld b.bits 8 56)
    | none => .invalid
  else .invalid

/-- A control block. -/
def controlOf (k : BlockKind) (payload : Nat) : LinkBlock := { hdr := 2, bits := k.code + 256 * (payload % 2 ^ 56) }

/-- A data block of 8 payload bytes. -/
def dataOf (bs : List Byte) : LinkBlock := { hdr := 1, bits := leNat (padTo 8 bs) }

def idleBlock : LinkBlock := controlOf .idle 0

/-! ### Control and MARK blocks (R189, R190) -/

/-- The free receive buffers of a class, of 16 (R196). -/
def PortSt.free (q : PortSt) (c : Nat) : Nat := 16 - (q.bufs.filter (fun f => f.cls == c)).length

/-- The payload of CB0 and CB1: ACK, NAK and the credits this port advertises. -/
def cbPayload (q : PortSt) : Nat := pack [(q.rxSeq % 4096, 0), (b2n q.nakDue, 12), (q.free 0, 16), (q.free 1, 21), (q.free 2, 26)]

/-- The payload of a MARK block: EPOCH_LO, DELAY and HOPS. -/
def markPayload (m : Nat × Nat × Nat) : Nat := pack [(m.1 % 2 ^ 16, 0), (m.2.1 % 2 ^ 24, 16), (m.2.2 % 64, 40)]

/-! ### Records that cross the ring as bytes -/

/-- A tile record's array-map entry and the rest of it (R205, 17 R471), from its 128 bytes. -/
def tileRecOf (bs : List Byte) : TileRec :=
  let b := padTo 128 bs
  let nbr (j : Nat) : Nat := leAt b (0x14 + 4 * j) 4
  { format := leAt b 0 1, tile := fld (leAt b 1 1) 0 6, codeSet := leAt b 2 1, ntiles := fld (leAt b 3 1) 0 7, ox := leAt b 4 3, oy := leAt b 8 3
    dmap := leAt b 0x0C 1, smap := leAt b 0x0D 1, pitchS := leAt b 0x0E 2, pitchD := leAt b 0x10 2
    nbrs := (List.range 8).filterMap (fun j => if bit (nbr j) 31 then some (fld (nbr j) 0 6, fld (nbr j) 8 3) else none)
    gpio := (List.range 4).map (fun j => leAt b (0x40 + j) 1 % 4)
    crcOk := crc32 (b.take 0x7C) == leAt b 0x7C 4 }

/-- A fragment's 128-byte record (R213). -/
def fragRecord (f : Frag) : List Byte :=
  padTo 0x58 (leBytes 2 f.rid ++ leBytes 1 (f.trk % 64) ++ leBytes 1 (pack [(f.cls % 16, 0), (f.edges % 16, 4)]) ++ leBytes 3 f.age ++
    leBytes 1 (pack [(b2n f.touched, 0), (b2n f.reported, 1)]) ++ leBytes 4 (f.px % 2 ^ 24) ++ leBytes 4 (f.py % 2 ^ 24) ++ leBytes 2 f.peak ++
    leBytes 2 f.area ++ leBytes 4 (f.signal % 2 ^ 24) ++ leBytes 2 f.tokenId ++ leBytes 2 f.angle ++ leBytes 4 (f.tokenQ % 256) ++
    leBytes 4 f.w ++ leBytes 4 f.w3 ++ leBytes 8 f.sx ++ leBytes 8 f.sy ++ leBytes 8 (f.sx3 % 2 ^ 48) ++ leBytes 8 (f.sy3 % 2 ^ 48) ++
    leBytes 4 f.cxx ++ leBytes 4 f.cyy ++ leBytes 4 (tc 32 f.cxy) ++ leBytes 3 f.pstart ++ leBytes 1 f.p0.length) ++
  padTo 20 (f.p0.flatMap (fun v => leBytes 2 (tc 16 v))) ++ padTo 20 (f.p1.flatMap (fun v => leBytes 2 (tc 16 v)))

/-- The header of a FRAGSET (R214): EPOCH, the counts, and the continuation entries. Where the counts lie behind EPOCH is the model's
choice (log entry 105). -/
def fragHeader (g : FragSet) : List Byte :=
  leBytes 4 g.epoch ++ leBytes 1 g.frags.length ++ leBytes 1 g.conts.length ++
  (g.conts.take 14).flatMap (fun k => leBytes 2 k.1 ++ leBytes 1 k.2 ++ zeros 5)

/-- The 8-byte message header of a message of several frames (R200). -/
def msgHeader (num : Nat) : List Byte := (List.range 8).map (Config.msgHead num)

/-- The payload bytes of a frame whose message the manual lays out: the frames of a FRAGSET (its header, then one fragment each) and of a
REPORT image (06 R175). -/
def laidOut (f : CFrame) : Option (List Byte) :=
  let head := if f.part = 0 ∧ 1 < f.parts then msgHeader f.num else []
  match f.msg with
  | .fragset g => some (if f.part = 0 then head ++ fragHeader g else (g.frags[f.part - 1]?).elim [] fragRecord)
  | .report _ _ d _ => some (head ++ d)
  | _ => none

/-- The payload bytes of a frame, at most 16 blocks of 8. -/
def frameBytes (f : CFrame) : List Byte := ((laidOut f).getD (Config.msgPayload f.msg f.part)).take 128

/-! ### Frames (R191, R192, R200) -/

/-- The message type of R200. The root's orders and queries travel as CMD, the answers to them as CPL, the contact-present bit of its own
as EVENT (log entry 105). -/
def mtypeOf : Msg → Nat
  | .enum => 0x01
  | .assign _ _ _ => 0x02
  | .hello _ _ _ => 0x03
  | .ready _ => 0x04
  | .route _ _ _ _ _ _ => 0x05
  | .brk _ _ => 0x06
  | .epoch _ => 0x07
  | .fragset _ => 0x10
  | .idReturn _ => 0x11
  | .report _ _ _ _ => 0x20
  | .event _ _ _ _ => 0x21
  | .contactBit _ => 0x21
  | .cmd _ _ => 0x22
  | .prepare _ _ _ _ => 0x22
  | .abandon _ => 0x22
  | .askRids _ => 0x22
  | .wake _ => 0x21
  | .unstage _ => 0x22
  | .apply _ _ _ _ => 0x22
  | .power _ _ => 0x22
  | .diag _ => 0x22
  | .prepareReply _ _ => 0x23
  | .armed _ => 0x23
  | .cpl _ _ _ _ => 0x23
  | .diagReply _ _ => 0x23
  | .stream _ _ _ _ => 0x30
  | .fwData _ _ _ _ => 0x31
  | .ctxData _ _ _ _ => 0x32
  | .capture _ _ => 0x33

/-- The frame header: the SOF payload of a frame of `len` payload blocks. -/
def sofPayload (f : CFrame) (len : Nat) : Nat :=
  pack [(f.seq % 4096, 0), (f.cls % 4, 12), (f.dst % 64, 14), (f.src % 64, 20), (b2n f.bcast, 26), (b2n f.dirn, 27), (b2n f.wrapped, 28),
    (len % 32, 29), (f.ttl % 128, 34), (mtypeOf f.msg, 41)]

/-- The CRC-32 in the EOF payload: over the 7 SOF payload bytes and the payload bytes. -/
def frameCrc (sof : Nat) (payload : List Byte) : Nat := crc32 (leBytes 7 sof ++ payload)

/-- Payload blocks of 8 bytes, the last filled up with 0. -/
def payloadBlocks (bs : List Byte) : List LinkBlock :=
  (List.range ((bs.length + 7) / 8)).map (fun i => dataOf ((bs.drop (8 * i)).take 8))

/-- The blocks of a frame: SOF, LEN payload blocks, EOF. -/
def frameBlocks (f : CFrame) : List LinkBlock :=
  let bs := frameBytes f
  let n := (bs.length + 7) / 8
  let sof := sofPayload f n
  controlOf .sof sof :: payloadBlocks bs ++ [controlOf .eof (frameCrc sof (padTo (8 * n) bs))]

/-- The payload words at the head of a list of blocks. -/
def dataRun : List BlockRead → List Nat
  | .data v :: rest => v :: dataRun rest
  | _ => []

/-- A received frame: its header and payload bytes, when its blocks are valid, LEN agrees with them and its CRC passes (R192). -/
def parseFrame (bs : List LinkBlock) : Option (Nat × List Byte) :=
  match bs.map readBlock with
  | .control .sof h :: rest =>
    let ds := dataRun rest
    let payload := ds.flatMap (leBytes 8)
    match rest.drop ds.length with
    | .control .eof e :: tail =>
      if ds.length = fld h 29 5 ∧ fld e 0 32 = frameCrc h payload ∧ tail.all (· == .control .idle 0) then some (h, payload) else none
    | _ => none
  | _ => none

/-- The blocks that arrived are those of frame `f`, undamaged: a frame that is not is a bad frame (R192). -/
def wireOk (f : CFrame) (bs : List LinkBlock) : Bool :=
  match parseFrame bs with
  | some r => r.1 == sofPayload f (fld r.1 29 5) && (match laidOut f with
    | some b => r.2 == padTo r.2.length b && decide (b.length ≤ r.2.length)
    | none => true)
  | none => false

/-! ### Scrambler and lanes (R186) -/

/-- One bit through the self-synchronising scrambler x^58 + x^39 + 1: bit k of the state is the bit sent k + 1 bits ago. -/
def scrambleBit (st : BitVec 58) (b : Bool) : Bool × BitVec 58 :=
  let o := b ^^ st.getLsbD 38 ^^ st.getLsbD 57
  (o, st <<< 1 ||| (BitVec.ofBool o).setWidth 58)

/-- The other way at the receiver, whose state is what it received. -/
def descrambleBit (st : BitVec 58) (b : Bool) : Bool × BitVec 58 :=
  (b ^^ st.getLsbD 38 ^^ st.getLsbD 57, st <<< 1 ||| (BitVec.ofBool b).setWidth 58)

/-- The low `n` bits of a word, lowest first, through a step of the scrambler or descrambler. -/
def scrambled (f : BitVec 58 → Bool → Bool × BitVec 58) : Nat → Nat → BitVec 58 → Nat × BitVec 58
  | 0, _, st => (0, st)
  | n + 1, v, st =>
    let o := f st (v % 2 == 1)
    let r := scrambled f n (v / 2) o.2
    (b2n o.1 + 2 * r.1, r.2)

/-- Blocks on the two lanes in turn, from lane `l` on; the sync header is not scrambled. -/
def toLanes : Nat → List (BitVec 58) → List LinkBlock → List LaneWord × List (BitVec 58)
  | _, scr, [] => ([], scr)
  | l, scr, b :: bs =>
    let r := scrambled scrambleBit 64 b.bits (scr.getD (l % 2) 0)
    let rest := toLanes (l + 1) (scr.set (l % 2) r.2) bs
    ({ lane := l % 2, hdr := b.hdr, bits := r.1 } :: rest.1, rest.2)

/-! ### Link cycles (R187) -/

/-- The 19 blocks of a half of a link cycle: CB0, or a MARK that is due, or CB1; and a frame slot with a frame or without. -/
def halfCycle (q : PortSt) (f : Option CFrame) : List LinkBlock :=
  let ctl := if q.half then controlOf .cb1 (cbPayload q) else match q.mark with
    | some m => controlOf .mark (markPayload m)
    | none => controlOf .cb0 (cbPayload q)
  let slot := (f.elim [] frameBlocks)
  ctl :: slot ++ List.replicate (18 - slot.length) idleBlock

/-- A port sends half a link cycle: a NAK that is owed goes with the control block, and a MARK takes a CB0's place (R190, R194). -/
def sendHalf (p : Port) (f : Option CFrame) (s : State) : State :=
  s.setPort p (fun q =>
    let w := toLanes (b2n q.half) q.scr (halfCycle q f)
    let marked := !q.half && q.mark.isSome
    { q with wire := w.1, scr := w.2, half := !q.half, mark := if q.half then q.mark else none, nakDue := q.nakDue && marked })

/-! ### What a receiver counts (R188, R197, R224) -/

/-- 0: a valid block; 1: of a reserved type; 2: with an invalid sync header. -/
def blockFault (b : LinkBlock) : Nat := if b.hdr ≠ 1 ∧ b.hdr ≠ 2 then 2 else if readBlock b = .invalid then 1 else 0

/-- A lane's last 64 blocks with one more. -/
def window (w : List Nat) (x : Nat) : List Nat := (w ++ [x]).drop (w.length + 1 - 64)

/-- A block arrives on the next lane: with 16 invalid ones among the last 64 the lane has lost block lock, with 64 valid sync headers in a
row it has it. -/
def noteBlock (q : PortSt) (b : LinkBlock) : PortSt :=
  let l := q.rxLane % 2
  let w := window (q.win.getD l []) (blockFault b)
  let lost := decide (16 ≤ (w.filter (· != 0)).length)
  let lock := decide (64 ≤ w.length) && w.all (· != 2)
  { q with rxLane := (l + 1) % 2, win := q.win.set l (if lost then [] else w)
           lane := if lost then q.lane - (if bit q.lane l then 2 ^ l else 0) else if lock && !bit q.lane l then q.lane + 2 ^ l else q.lane }

/-- A block arrives on the next lane and goes through its descrambler, whose state is what the lane brought (R186). -/
def hearBlock (q : PortSt) (b : LinkBlock) : PortSt × LinkBlock :=
  let l := q.rxLane % 2
  let r := scrambled descrambleBit 64 b.bits (q.rscr.getD l 0)
  let d : LinkBlock := { b with bits := r.1 }
  ({ noteBlock q d with rscr := q.rscr.set l r.2, rxPos := Nat.min 19 (q.rxPos + 1) }, d)

/-- A block as the next lane carries it to this port. -/
def lineBlock (q : PortSt) (b : LinkBlock) : LinkBlock :=
  { b with bits := (scrambled scrambleBit 64 b.bits (q.rscr.getD (q.rxLane % 2) 0)).1 }

/-- An IDLE block arrives. -/
def hearIdle (q : PortSt) : PortSt := (hearBlock q (lineBlock q idleBlock)).1

def hearIdles : Nat → PortSt → PortSt
  | 0, q => q
  | n + 1, q => hearIdles n (hearIdle q)

/-- A control block begins a half of the link cycle: what no command brought of the half before was IDLE (R187; log entry 127). -/
def endSlot (q : PortSt) : PortSt := if q.rxPos = 0 then q else { hearIdles (19 - q.rxPos) q with rxPos := 0 }

/-- Blocks arrive at a port, one after another. -/
def hearBlocks : PortSt → List LinkBlock → PortSt × List LinkBlock
  | q, [] => (q, [])
  | q, b :: bs =>
    let r := hearBlock q b
    let t := hearBlocks r.1 bs
    (t.1, r.2 :: t.2)

/-- Blocks as the lanes carry them to this port. -/
def lineBlocks : PortSt → List LinkBlock → List LinkBlock
  | _, [] => []
  | q, b :: bs => lineBlock q b :: lineBlocks (hearBlock q (lineBlock q b)).1 bs

end Sys2Proof.Machine
end

