-- ==== Sys2Proof/Machine/Link.lean ====
section
/-! DEFINITION. The link layer of the Crila ports (07 R189 to R200, R224, R225): frames in order, acknowledgement and retransmission,
forwarding and consumption, training, and a port going down. -/

namespace Sys2Proof.Machine

/-- The device has a ring: a root or a member with its LINK domain on. -/
def State.onRing (s : State) : Bool := s.clk.link && (s.isRoot || s.isMember)

/-- A frame gives back its receive buffer (07 R196). -/
def freeBuffer (f : CFrame) (s : State) : State :=
  if s.crl.up.bufs.contains f then { s with crl.up.bufs := s.crl.up.bufs.erase f } else { s with crl.dn.bufs := s.crl.dn.bufs.erase f }

/-- A message that waited in the inbox has been dealt with. -/
def consume (m : Msg → Bool) (s : State) : State :=
  match s.crl.inbox.find? (fun f => m f.msg) with
  | none => s
  | some f => freeBuffer f { s with crl.inbox := s.crl.inbox.erase f }

/-- Every frame of a message, or of several, has been dealt with. -/
def consumeAll (m : Msg → Bool) (s : State) : State :=
  (s.crl.inbox.filter (fun f => m f.msg)).foldl (fun t f => freeBuffer f t)
    { s with crl.inbox := s.crl.inbox.filter (fun f => !m f.msg) }

/-! ### Reception (R194, R200) -/

/-- The source and message number of a message of several frames have been accepted within the last 4,096 messages of that source; `part`
tells its frames apart. A message of one frame carries no number. -/
def seen (f : CFrame) (l : List (Nat × Nat)) : Bool := decide (1 < f.parts) && l.contains (f.src, 1024 * f.num + f.part)

/-- The accepted list with a new frame, and what is more than 4,096 messages older gone. -/
def noteSeen (f : CFrame) (l : List (Nat × Nat)) : List (Nat × Nat) :=
  if f.parts ≤ 1 then l
  else l.filter (fun a => a.1 != f.src ||
    (let d := (f.num + 65536 - a.2 / 1024) % 65536
     decide (d < 4096 ∨ 32768 < d))) ++ [(f.src, 1024 * f.num + f.part)]

/-- Every frame of the message that `f` belongs to has been accepted (14 R391: the sources 22 and 23 are a message's). -/
def wholeMessage (f : CFrame) (l : List (Nat × Nat)) : Bool :=
  decide (f.parts ≤ 1) || (List.range f.parts).all (fun i => l.contains (f.src, 1024 * f.num + i))

/-- A frame for this device: a repeated one is discarded, a new one goes to core 0, and holds its receive buffer until core 0 has dealt with it
(log entry 107); the last frame of its message raises the source. -/
def acceptFrame (p : Port) (f : CFrame) (s : State) : State :=
  if seen f s.crl.accepted then s
  else
    let t := ({ s with crl.accepted := noteSeen f s.crl.accepted, crl.inbox := s.crl.inbox ++ [f] }).setPort p
      (fun q => { q with bufs := q.bufs ++ [f] })
    if wholeMessage f t.crl.accepted then raise (if f.cls = 2 then 23 else 22) t else t

/-- A frame passes on (R199, R200, R225): TTL one less; at 0 it is discarded and counted. -/
def forwardFrame (f : CFrame) (s : State) : State :=
  if f.ttl ≤ 1 then { s with crl.ttlDrop := cnt 16 s.crl.ttlDrop 1 } else sendFrame { f with ttl := f.ttl - 1 } s

/-- What a device that is not enrolled takes: the probe and the index it is given (R204). -/
def forStranger : Msg → Bool
  | .enum => true
  | .assign _ _ _ => true
  | _ => false

/-- Whether the frame is this device's to take, and whether it goes on: a broadcast frame is delivered to every device it passes, enrolled
or not (R191). -/
def routeOf (f : CFrame) (s : State) : Bool × Bool :=
  if s.isMember && !s.crl.enrolled then (if f.bcast then (true, true) else (forStranger f.msg, !forStranger f.msg))
  else if f.bcast then (f.src != s.tile, f.src != s.tile)
  else
    let back := s.isRoot && (match f.msg with
      | .enum => true
      | _ => false)
    let here := back || (f.dst == s.tile && !(forStranger f.msg && s.isMember))
    (here, !here)

/-- A frame that arrived in order on a port. -/
def takeFrame (p : Port) (f : CFrame) (s : State) : State :=
  let r := routeOf f s
  let t := if r.1 then acceptFrame p f s else s
  if r.2 then forwardFrame f t else t

/-- R194: a frame is received on a port. -/
def receiveFrame (p : Port) (f : CFrame) (good : Bool) (s : State) : State :=
  let q := s.port p
  let want := (q.rxSeq + 1) % 4096
  let nak (t : State) : State := if q.nakSent then t else t.setPort p (fun x => { x with nakDue := true, nakSent := true })
  if q.state ≠ 2 then s
  else if !good then
    nak (match p with
      | .up => { s with crl.crcUp := cnt 16 s.crl.crcUp 1 }
      | .dn => { s with crl.crcDn := cnt 16 s.crl.crcDn 1 })
  else if f.seq = want then takeFrame p f (s.setPort p (fun x => { x with rxSeq := want, nakDue := false, nakSent := false }))
  else if (q.rxSeq + 4096 - f.seq % 4096) % 4096 < 2048 then s
  else nak s

/-- A parity error in a Crila buffer (18 R481, R482). -/
def bufferParity (s : State) : State := parityHit { store := 0x15, index := 0, addr := 0 } s

/-- R186, R192, R194: CRILA_FRAME_RECEIVE: `f` is the frame that was sent, `blocks` what the lanes brought of it. With `par` its receive buffer
reads with bad parity, which makes it a bad frame (18 R481). -/
def execCrilaFrameReceive (port : Port) (f : CFrame) (blocks : List LinkBlock) (par : Bool) (s : State) : Answer :=
  answer s (if s.onRing && (s.port port).state == 2 then
      let r := hearBlocks (s.port port) blocks
      receiveFrame port f (wireOk f r.2 && !par) ((if par then bufferParity s else s).setPort port (fun _ => r.1))
    else s)

/-! ### A port goes down (R224 to R226) -/

/-- A frame that turns back at a break (R225). -/
def turnBack (f : CFrame) : CFrame := { f with dirn := !f.dirn, wrapped := true }

/-- `CRL_LOSS` counts a port going down. -/
def countDown (p : Port) (s : State) : State :=
  match p with
  | .up => { s with crl.upDown := cnt 8 s.crl.upDown 1 }
  | .dn => { s with crl.dnDown := cnt 8 s.crl.dnDown 1 }

/-- BREAK to the root by the working port; the root notes its own. A root without an enrolled member has no ring to break (01 R23). -/
def sendBreak (p : Port) (s : State) : State :=
  if s.isRoot then
    if s.crl.ntiles ≤ 1 then s else { s with arr.breaks := s.arr.breaks.filter (· != (0, p)) ++ [(0, p)] }
  else if s.crl.enrolled then sendOn (portOther p) 0 0 (.brk s.tile p) s
  else s

/-- The port is down: what it held turns back out of the other port, or waits for the port when both are down. How a member notices that it
has lost the ring (01 R25) the manual does not say; the model's choice: both of its ports are down, or no MARK reached it over four
boundaries in a row (log entry 106). -/
def portDown (p : Port) (s : State) : State :=
  let q := s.port p
  if q.state ≠ 2 then s
  else
    let all := q.held.map (·.1) ++ q.q0 ++ q.q1 ++ q.late ++ q.q2
    let of (c : Nat) : List CFrame := all.filter (fun f => if c = 2 then decide (2 ≤ f.cls) else f.cls == c)
    let t := raise 24 (countDown p (s.setPort p (fun _ => { hopLat := q.hopLat, q0 := of 0, q1 := of 1, q2 := of 2, bufs := q.bufs })))
    let other := (t.port (portOther p)).state == 2
    let t := { t with crl.wrap := true, crl.wrapOff := false }
    if other then
      sendBreak p (all.foldl (fun u f => enqueueOn (portOther p) (turnBack f) u) (t.setPort p (fun x => { x with q0 := [], q1 := [], q2 := [] })))
    else
      let u := if t.isRoot then sendBreak p t else t
      { u with chn.discardReports := u.chn.discardReports || u.isMember }

/-- R224: PORT_DOWN. -/
def execPortDown (port : Port) (s : State) : Answer := answer s (if s.onRing then portDown port s else s)

/-- R224: training starts on a port that is down. -/
def execPortRetrain (port : Port) (s : State) : Answer :=
  answer s (if s.onRing && (s.port port).state == 0 then raise 24 (s.setPort port (fun x => { x with state := 1 })) else s)

/-- R197: training is complete: the hop latency is measured; above 1.0 µs (768 cycles of CLK_LINK) the port does not enter UP. SEQ
starts from 0. DESIGN CHOICE: scramblers and descramblers start from 0 with it (log entry 127). An enrolled member tells the root what it holds (R200); a root in service looks for devices that came back (R230). -/
def trainingComplete (p : Port) (hopLat : Nat) (s : State) : State :=
  if (s.port p).state ≠ 1 then s
  else if 768 < hopLat then s.setPort p (fun x => { x with hopLat := Nat.min hopLat 0xFFFF })
  else
    let t := raise 24 (s.setPort p (fun x =>
      { x with state := 2, lane := 3, hopLat := hopLat, txSeq := 0, rxSeq := 4095, held := [], cred := [0, 0, 0], again := 0,
               half := false, scr := [0, 0], rxLane := 0, rscr := [0, 0], rxPos := 0, win := [[], []], late := [], nakDue := false, nakSent := false, mark := none }))
    let t := { t with crl.marks := 0 }
    if t.isMember then (if t.crl.enrolled then sendMsg 1 0 (.hello true t.tile t.ctx.gen) t else t)
    else if t.boot.phase == .running && t.arr.probe.isNone then
      sendOn p 1 0 .enum { t with arr.probe := some p }
    else t

/-- R197: TRAINING_COMPLETE. -/
def execTrainingComplete (port : Port) (hopLat : Nat) (s : State) : Answer :=
  answer s (if s.onRing then trainingComplete port hopLat s else s)

/-! ### Transmission (R194 to R196) -/

/-- Frames resent, counted in `CRL_RETRY`. -/
def countRetry (p : Port) (n : Nat) (s : State) : State :=
  match p with
  | .up => { s with crl.retryUp := cnt 16 s.crl.retryUp n }
  | .dn => { s with crl.retryDn := cnt 16 s.crl.retryDn n }

/-- The class of a frame has a credit (R196). -/
def hasCredit (q : PortSt) (f : CFrame) : Bool := decide (0 < q.cred.getD (Nat.min f.cls 2) 0)

/-- The oldest held frame that is still to be sent again goes, when its class has a credit; its eighth sending without its ACK advancing
declares the port down (R194 to R196). -/
def sendAgain (p : Port) (s : State) : State :=
  let q := s.port p
  let i := q.held.length - q.again
  match q.held[i]? with
  | none => s
  | some h =>
    if q.again = 0 ∨ !hasCredit q h.1 then s
    else
      let t := countRetry p 1 (s.setPort p (fun x =>
        { x with held := x.held.set i (h.1, h.2 + 1), again := x.again - 1, cred := x.cred.modify (Nat.min h.1.cls 2) (· - 1) }))
      if 8 ≤ h.2 + 1 then portDown p t else sendHalf p (some h.1) t

/-- Every held frame is to be sent again, oldest first: at once as far as the credits go, the rest as credits come (R194, R196). -/
def resendHeld (p : Port) (s : State) : State :=
  let n := (s.port p).held.length
  (List.range n).foldl (fun t _ => sendAgain p t) (s.setPort p (fun x => { x with again := n }))

/-- R189, R195: ACK frees the frames it covers, which starts the count of sendings of the others anew; the credits replace the last ones;
NAK has the rest sent again. -/
def controlBlock (p : Port) (ack : Nat) (nak : Bool) (cred : List Nat) (s : State) : State :=
  if (s.port p).state ≠ 2 then s
  else
    let t := s.setPort p (fun x =>
      let rest := x.held.filter (fun h => !decide ((ack % 4096 + 4096 - h.1.seq) % 4096 < 2048))
      let moved := decide (rest.length < x.held.length)
      { x with held := if moved then rest.map (fun h => (h.1, 0)) else rest, again := Nat.min x.again rest.length, cred := cred })
    if nak && !(t.port p).held.isEmpty then resendHeld p t else t

/-- R188, R189: CONTROL_BLOCK_RECEIVE: a CB0 or CB1; an invalid block is counted and discarded. -/
def execControlBlockReceive (port : Port) (block : LinkBlock) (s : State) : Answer :=
  answer s (if !s.onRing || (s.port port).state != 2 then s
    else
      let r := hearBlock (endSlot (s.port port)) block
      let t := s.setPort port (fun _ => r.1)
      let take (v : Nat) : State :=
        controlBlock port (fld v 0 12) (bit v 12) [Nat.min (fld v 16 5) 16, Nat.min (fld v 21 5) 16, Nat.min (fld v 26 5) 16] t
      match readBlock r.2 with
      | .control .cb0 v => take v
      | .control .cb1 v => take v
      | _ => t)

/-- The class served next: the lowest one with a frame and a credit (R196, R198). -/
def nextClass (q : PortSt) : Option Nat :=
  let can (c : Nat) (l : List CFrame) : Bool := !l.isEmpty && decide (0 < q.cred.getD c 0)
  if can 0 q.q0 then some 0 else if can 1 q.q1 then some 1 else if can 2 q.q2 then some 2 else none

/-- A half cycle that begins with MARK: what is to follow it may go now (R208). -/
def afterMark (q : PortSt) : PortSt := if !q.half && q.mark.isSome then { q with q1 := q.late ++ q.q1, late := [] } else q

/-- The next frame slot of a port: a frame still to be sent again has it before a new one; a new one leaves with the next SEQ and is held
until an ACK covers it, 64 at most are held; without either the slot is empty (R187, R194, R196). -/
def transmit (p : Port) (s : State) : State :=
  let s := s.setPort p afterMark
  let q := s.port p
  if q.state ≠ 2 then s
  else if q.again ≠ 0 then (if (q.held[q.held.length - q.again]?).any (fun h => hasCredit q h.1) then sendAgain p s else sendHalf p none s)
  else if 64 ≤ q.held.length then sendHalf p none s
  else match nextClass q with
    | none => sendHalf p none s
    | some c =>
      let l := if c = 0 then q.q0 else if c = 1 then q.q1 else q.q2
      match l with
      | [] => s
      | f :: rest =>
        sendHalf p (some { f with seq := q.txSeq }) (s.setPort p (fun x =>
          { x with q0 := if c = 0 then rest else x.q0, q1 := if c = 1 then rest else x.q1, q2 := if c = 2 then rest else x.q2,
                   held := x.held ++ [({ f with seq := x.txSeq }, 1)], txSeq := (x.txSeq + 1) % 4096,
                   cred := x.cred.modify c (· - 1) }))

/-- R196: FRAME_TRANSMIT: half a link cycle. -/
def execFrameTransmit (port : Port) (s : State) : Answer := answer s (if s.onRing then transmit port s else s)

/-- R194: no ACK has advanced for 2.0 µs while frames are held. With `par` the oldest of them reads with bad parity: it is lost, and the port
declares itself down (18 R481). -/
def execRetransmitTimeout (port : Port) (par : Bool) (s : State) : Answer :=
  answer s (if s.onRing && (s.port port).state == 2 && !(s.port port).held.isEmpty then
      if par then portDown port (bufferParity (s.setPort port (fun x => { x with held := x.held.tail }))) else resendHeld port s
    else s)

end Sys2Proof.Machine
end

