-- ==== Sys2Proof/Machine/Crook.lean ====
section
/-! DEFINITION. Crook (07 R212 to R222, R228): the fragments of a frame, components, merged values, ownership, contact IDs across tiles,
and the deadline. -/

namespace Sys2Proof.Machine

/-! ### Fragments and links -/

/-- A fragment as Crook holds it: its tile, and of an own one what each neighbour was sent. -/
structure CFrag where
  tile : Nat
  f : Frag
  views : List (Nat × Frag) := []
deriving DecidableEq

/-- This tile's fragments, once each. -/
def State.ownFrags (s : State) : List CFrag :=
  (s.trk.frags.flatMap (fun g => g.frags.map (fun f => (g.src, f)))).foldl (fun l v =>
    if l.any (fun c => c.f.px == v.2.px && c.f.py == v.2.py) then
      l.map (fun c => if c.f.px = v.2.px ∧ c.f.py = v.2.py then { c with views := c.views ++ [v] } else c)
    else l ++ [{ tile := s.tile, f := v.2, views := [v] }]) []

/-- The sets received for the frame in processing, from neighbours that still count. -/
def State.gotSets (s : State) : List FragSet :=
  s.crook.sets.filter (fun g => g.epoch == s.chn.prev.epoch && s.seams.any (·.1 == g.src))

/-- Every fragment of the frame at this tile. -/
def State.allFrags (s : State) : List CFrag :=
  s.ownFrags ++ s.gotSets.flatMap (fun g => g.frags.map (fun f => { tile := g.src, f := f }))

/-- A list with its indices. -/
def indexed {α : Type} (l : List α) : List (Nat × α) := List.zip (List.range l.length) l

/-- Two profiles meet across an edge (R215). -/
def profilesMeet (touch : Int) (a b : Frag) : Bool :=
  (indexed a.p0).any (fun i => decide (touch ≤ i.2) && (indexed b.p0).any (fun j =>
    decide (touch ≤ j.2) && decide (absDiff (a.pstart + 256 * i.1) (b.pstart + 256 * j.1) ≤ 256)))

/-- An own fragment and one of a neighbour are linked (R215). -/
def linkOne (s : State) (touch : Int) (a b : CFrag) : Bool :=
  match assoc a.views b.tile, assoc s.seams b.tile with
  | some v, some e =>
    if e < 4 then profilesMeet touch v b.f
    else v.p0.any (fun x => decide (touch ≤ x)) && b.f.p0.any (fun x => decide (touch ≤ x))
  | _, _ => false

/-- The link of R215, either way round. -/
def fragLinked (s : State) (touch : Int) (a b : CFrag) : Bool := linkOne s touch a b || linkOne s touch b a

/-- A component with two or more token detections is split (R219). -/
def splitTokens (c : List CFrag) : List (List CFrag) :=
  let p := c.partition (fun x => x.f.cls == 3)
  if p.1.length < 2 then [c] else p.1.map (fun x => [x]) ++ (if p.2.isEmpty then [] else [p.2])

/-- The components of the frame at this tile. -/
def State.comps (s : State) (touch : Int) : List (List CFrag) :=
  let l := s.allFrags
  (components (fragLinked s touch) (l.length + 1) l).flatMap splitTokens

/-! ### Merged values (R216) -/

/-- The component RID (R220): greatest AGE, then the lower tile, then the lower TRK; none when no fragment has a track. -/
def ridOf (c : List CFrag) : Option CFrag :=
  bestOf (fun a b => decide (b.f.age < a.f.age) || (a.f.age == b.f.age && (decide (a.tile < b.tile) || (a.tile == b.tile &&
    decide (a.f.trk < b.f.trk))))) (c.filter (fun x => x.f.rid != 0xFFFF))

/-- The peak fragment: largest PEAK, then the lower tile, then the lower TRK. -/
def peakOf (c : List CFrag) : Option CFrag :=
  bestOf (fun a b => decide (b.f.peak < a.f.peak) || (a.f.peak == b.f.peak && (decide (a.tile < b.tile) || (a.tile == b.tile &&
    decide (a.f.trk < b.f.trk))))) c

/-- The coordinate across a seam of the edge line (`k` = 0) or of the next one inward, of this tile or of the neighbour: `o` and `n` are
this tile's origin and lines on the axis, `low` says which edge. -/
def acrossOf (o n : Nat) (own low : Bool) (k : Nat) : Int :=
  if own then (if low then ((o + 256 * k : Nat) : Int) else ((o + 256 * (n - 1) : Nat) : Int) - (256 * k : Nat))
  else if low then (o : Int) - (256 + 256 * k : Nat) else ((o + 256 * n + 256 * k : Nat) : Int)

/-- A profile as nodes with array coordinates and deltas; `e` is the seam's edge at this tile. -/
def profileNodes (s : State) (p : Params) (own : Bool) (e : Nat) (f : Frag) : List ((Int × Int) × Int) :=
  let x (k : Nat) : Int := acrossOf s.origin.1 p.s own (e == 0 || e == 4 || e == 6) k
  let y (k : Nat) : Int := acrossOf s.origin.2 p.d own (e == 2 || e == 4 || e == 5) k
  if 4 ≤ e then f.p0.map (fun v => ((x 0, y 0), v))
  else
    let line (k : Nat) (l : List Int) : List ((Int × Int) × Int) := (indexed l).map (fun i =>
      let a : Int := (f.pstart + 256 * i.1 : Nat)
      ((if e < 2 then (x k, a) else (a, y k)), i.2))
    line 0 f.p0 ++ line 1 f.p1

/-- Every profile node of a fragment that this tile knows, once each. -/
def fragNodes (s : State) (p : Params) (c : CFrag) : List ((Int × Int) × Int) :=
  (if c.tile = s.tile then c.views.flatMap (fun v => profileNodes s p true ((assoc s.seams v.1).getD 0) v.2)
    else profileNodes s p false ((assoc s.seams c.tile).getD 0) c.f).eraseDups

/-- The position of a FINGER (06 R158): the peak fragment's W3 nodes and the other fragments' profile nodes around its peak. -/
def fingerPos (s : State) (p : Params) (half : Int) (c : List CFrag) (pk : CFrag) : Nat × Nat :=
  let near (n : Int × Int) : Bool := decide ((n.1 - (pk.f.px : Int)).natAbs ≤ 256) && decide ((n.2 - (pk.f.py : Int)).natAbs ≤ 256)
  let ns := ((c.filter (· != pk)).flatMap (fragNodes s p)).filter (fun n => near n.1)
  let w (v : Int) : Nat := (v - half).toNat
  let tot := pk.f.w3 + (ns.map (fun n => w n.2)).sum
  if tot = 0 then (pk.f.px, pk.f.py)
  else ((pk.f.sx3 + (ns.map (fun n => w n.2 * n.1.1.toNat)).sum + tot / 2) / tot,
        (pk.f.sy3 + (ns.map (fun n => w n.2 * n.1.2.toNat)).sum + tot / 2) / tot)

/-- The merged second moments, about the merged mean, in the units of `Moments`. -/
def mergedMoments (aspect : Nat) (c : List CFrag) : Moments :=
  let sum (g : Frag → Nat) : Nat := (c.map (fun x => g x.f)).sum
  let w := sum (·.w)
  let sx := sum (·.sx)
  let sy := sum (·.sy)
  let spread (a b : Frag → Nat) : Int := ((w * sum (fun f => a f * b f / Nat.max 1 f.w) : Nat) : Int)
  let cxy : Int := (c.map (fun x => x.f.cxy)).foldl (· + ·) 0
  { w := w
    xx := (w * (4096 * sum (·.cxx)) : Nat) + (spread (·.sx) (·.sx) - (sx * sx : Nat))
    yy := ((w * (4096 * sum (·.cyy)) : Nat) + (spread (·.sy) (·.sy) - (sy * sy : Nat))) * (aspect * aspect : Nat) / 65536
    xy := ((w : Int) * (4096 * cxy) + (spread (·.sx) (·.sy) - (sx * sy : Nat))) * (aspect : Nat) / 256 }

/-- The class that an ID had in the frame before: as the component of that frame gave it at a track of this tile, reported or left out, else
what the fragment says. -/
def heldClass (s : State) (r : CFrag) : Nat :=
  ((s.tracks.find? (fun t => t.2.rid == r.f.rid)).bind (fun t => t.2.ridCls)).getD r.f.cls

/-- The merged record of a component of blobs. -/
def mergedRec (s : State) (p : Params) (q : TrkParams) (c : List CFrag) (r : Option CFrag) (pk : CFrag) (base : Rec) :
    Rec × State :=
  let sum (g : Frag → Nat) : Nat := (c.map (fun x => g x.f)).sum
  let area := Nat.min (sum (·.area)) 0xFFFF
  let (sh, t) := shapeOf (mergedMoments q.aspect c) s
  let cls := classOf q (r.map (heldClass s)) area sh.1
  let w := sum (·.w)
  let pos := if cls = 0 ∨ w = 0 then fingerPos s p (q.touch / 2) c pk
    else ((sum (·.sx) + w / 2) / w, (sum (·.sy) + w / 2) / w)
  ({ base with cls := cls, x := pos.1 % 2 ^ 24, y := pos.2 % 2 ^ 24, z := zOf q.zFull pk.f.peak, peak := pk.f.peak, area := area,
               signal := Nat.min (sum (·.signal)) 0xFFFFFF, major := sh.1, minor := sh.2.1, angle := sh.2.2, edge := true,
               tokenId := 0xFFFF, tokenQ := 0, touched := false, ambig := false, rtile := s.tile }, t)

/-! ### Ownership (R217) -/

/-- How far a position lies outside an extent (R207), in Chebyshev distance. -/
def outside (ox oy d c : Nat) (pos : Nat × Nat) : Nat :=
  let axis (o n v : Nat) : Nat := Nat.max (o - (v + 128)) (v - (o + 256 * (n - 1) + 128))
  Nat.max (axis ox c pos.1) (axis oy d pos.2)

/-- The distance of a position from a tile's extent; a tile whose entry is not known lies beyond every other. -/
def tileDist (s : State) (p : Params) (pos : Nat × Nat) (k : Nat) : Nat :=
  if k = s.tile then outside s.origin.1 s.origin.2 p.d p.s pos
  else match s.crl.map.find? (fun r => r.tile == k) with
    | some r => outside r.ox r.oy r.dmap r.smap pos
    | none => 2 ^ 30

/-- The tile holds a track for a fragment of the component. -/
def holdsTrack (c : List CFrag) (k : Nat) : Bool := c.any (fun x => x.tile == k && x.f.rid != 0xFFFF)

/-- The owner. A first tile without a track opens one unless its table is full: this tile's own is known; another's is known to be full
when its fragment reached PEAK_ON and opened no track (log entry 30). -/
def ownerOf (s : State) (p : Params) (q : TrkParams) (c : List CFrag) (pos : Nat × Nat) : Option Nat :=
  let tiles := ((c.map (·.tile)).eraseDups.map (fun k => (tileDist s p pos k, k))).mergeSort (fun a b =>
    decide (a.1 < b.1) || (a.1 == b.1 && decide (a.2 ≤ b.2)))
  match tiles.map (·.2) with
  | [] => none
  | k :: rest =>
    let room := if k = s.tile then (freeEntry s).isSome else (c.filter (fun x => x.tile == k)).all (fun x => decide (x.f.peak < q.on))
    if holdsTrack c k || room then some k else rest.find? (holdsTrack c)

/-! ### A component at this tile -/

/-- The tracks of this tile's fragments in a component: indices. -/
def ownTracks (s : State) (c : List CFrag) : List Nat :=
  ((c.filter (fun x => x.tile == s.tile && x.f.rid != 0xFFFF)).map (·.f.trk)).filter (fun i =>
    match s.trk.tab.getD i none with
    | some t => t.status == 1
    | none => false)

/-- The ID was reported by another tile in the frame before. -/
def reportedElsewhere (me : Nat) (rid : Nat) (c : List CFrag) : Bool := c.any (fun x => x.tile != me && x.f.rid == rid && x.f.reported)

/-- What this tile reported for an ID in the frame before. -/
def ownReport (s : State) (rid : Nat) : Option Rec :=
  s.trk.prevRecs.find? (fun x => x.id == rid && !x.suppressed && decide (x.status < 2 ∨ x.status = 6))

/-- A track of a component takes its RID and age (R220) and is left out of the report (R218); it notes the owner and the class. -/
def adopt (r : CFrag) (owner cls : Option Nat) (i : Nat) (s : State) : State :=
  match s.trk.tab.getD i none with
  | some t => putTrack i { t with rid := r.f.rid, age := r.f.age, rcd := { t.rcd with suppressed := true }, nextOwner := owner, nextCls := cls } s
  | none => s

/-- The track that carries the owner's record: the one with the component's RID, else that of the greatest peak. -/
def carrier (s : State) (c : List CFrag) (rid : Option Nat) : Option Nat :=
  let mine := c.filter (fun x => x.tile == s.tile && (ownTracks s c).contains x.f.trk && x.f.rid != 0xFFFF)
  match mine.find? (fun x => some x.f.rid == rid) with
  | some x => some x.f.trk
  | none => (peakOf mine).map (·.f.trk)

/-- Crook opens a track for an owner without one (R217): the lowest free entry, the open counter standing. It takes the component's RID and
age; where no fragment has a track, its ID is the one that the counter would give (R220, 06 R170). An older RID that no tile of the component
reported was a lost tile's when a ROUTE has just named one (R228). -/
def openOwner (c : List CFrag) (r : Option CFrag) (s : State) : Option (Nat × State) :=
  match freeEntry s, peakOf (c.filter (fun x => x.tile == s.tile)) with
  | some i, some x =>
    let px : Int := ((x.f.px - s.origin.1 : Nat) : Int)
    let py : Int := ((x.f.py - s.origin.2 : Nat) : Int)
    let ps := (x.f.px - s.origin.1) / 256
    let pd := (x.f.py - s.origin.2) / 256
    let id := (r.map (·.f.rid)).getD (nextId s).1
    let orphan := r.any (fun g => decide (0 < g.f.age)) && (ownReport s id).isNone && !c.any (fun y => y.f.rid == id && y.f.reported)
    some (i, putTrack i { id := id, rid := id, cls := x.f.cls, x := px, y := py, ax := px, ay := py, pd := pd, ps := ps,
                          nodes := (s.trk.blobs.find? (fun b => b.contains (pd, ps))).getD [(pd, ps)], age := (r.map (·.f.age)).getD 0,
                          owner := if orphan then s.crl.lost.head? else none
                          rcd := placeRec s px py { cls := x.f.cls } : Track } s)
  | _, _ => none

/-- The owner's record (R218), and one MERGED record for every other ID of the component that was reported (R220). A lost tile's report of
the ID counts as another tile's (R228). -/
def ownRecord (p : Params) (q : TrkParams) (c : List CFrag) (r : Option CFrag) (pk : CFrag) (i : Nat) (s : State) : State × List Rec :=
  match s.trk.tab.getD i none with
  | none => (s, [])
  | some t =>
    let alone := c.length == 1 || c.any (fun x => x.f.cls == 3)
    let m := if alone then (t.rcd, s) else mergedRec s p q c r pk t.rcd
    let s := m.2
    let rid := (r.map (·.f.rid)).getD t.rid
    let age := (r.map (·.f.age)).getD t.age
    let handoff := reportedElsewhere s.tile rid c || t.handed s.tile
    let before := ownReport s rid
    let fresh := age == 0 && before.isNone
    let v := if handoff then (0, 0) else match before with
      | some b => (satI 16 ((m.1.x : Int) - b.x), satI 16 ((m.1.y : Int) - b.y))
      | none => (0, 0)
    let stale := (ownTracks s c).any (fun k => ((s.trk.tab.getD k none).map (·.stale)).getD false)
    let own (g : Rec → Bool) : Bool := (ownTracks s c).any (fun k => ((s.trk.tab.getD k none).map (fun t => g t.rcd)).getD false)
    let here (g : Bool × Bool → Bool) : Bool := c.any (fun x => x.tile == s.tile && s.trk.marks.any (fun m =>
      m.1 == x.f.px && m.2.1 == x.f.py && g m.2.2))
    let rc := { m.1 with
      status := if handoff then 6 else if fresh then 0 else 1
      vx := v.1, vy := v.2, suppressed := false, stitched := decide (1 < (c.map (·.tile)).eraseDups.length), stale := stale
      waterCut := m.1.waterCut || own (·.waterCut) || here (·.1), suspect := m.1.suspect || own (·.suspect) || here (·.2) }
    let u := putTrack i { t with rid := rid, age := age, cls := rc.cls, rcd := rc } s
    let gone := ((c.filter (fun x => x.f.rid != 0xFFFF && x.f.rid != rid && x.f.reported)).map (·.f.rid)).eraseDups
    (u, gone.map (fun id => { rc with id := id, trk := i, status := 3, vx := 0, vy := 0 }))

/-- A component decided at this tile: the owner reports it as one record, every other tile leaves its tracks out (R218, R219). Where none of its
fragments has a track the owner opens one (R217); a fragment that no other is linked to stays what the tracker made of it (06 R168; log
entry 108). -/
def applyComp (p : Params) (q : TrkParams) (c : List CFrag) (a : State × List Rec) : State × List Rec :=
  let s := a.1
  if c.all (fun x => x.tile != s.tile) then a
  else match peakOf c with
    | none => a
    | some pk =>
      let r : Option CFrag := ridOf c
      if r.isNone && c.length == 1 then a
      else
        let token : Option CFrag := c.find? (fun x => x.f.cls == 3)
        let merged : Option Rec := if token.isSome || c.length == 1 then none else some (mergedRec s p q c r pk {}).1
        let owner : Option Nat := match token, merged with
          | some t, _ => some t.tile
          | none, some m => ownerOf s p q c (m.x, m.y)
          | none, none => some pk.tile
        let mine := ownTracks s c
        let u := match r with
          | some g => mine.foldl (fun v i => adopt g owner (merged.map (fun m => m.cls)) i v) s
          | none => s
        if owner ≠ some s.tile then (u, a.2)
        else
          let got := match token with
            | some t => if mine.contains t.f.trk then some (t.f.trk, u) else none
            | none => match carrier s c (r.map (fun x : CFrag => x.f.rid)) with
              | some i => some (i, u)
              | none => openOwner c r u
          match got with
          | some g =>
            let o := ownRecord p q c r pk g.1 g.2
            (o.1, a.2 ++ o.2)
          | none => (u, a.2)

/-! ### Silent retirement and lending (R220, R221) -/

/-- The tile on which an ID goes on: a live continuation entry, or a fragment with it. -/
def goesOnAt (s : State) (rid : Nat) : Option Nat :=
  match s.gotSets.find? (fun g => g.conts.any (fun k => k.1 == rid && k.2 == 0)) with
  | some g => some g.src
  | none => (s.gotSets.find? (fun g => g.frags.any (fun f => f.rid == rid))).map (·.src)

/-- A track without a detection whose ID goes on elsewhere retires without a record, and lends an ID of its own (R221). -/
def retireSilent (s : State) : State :=
  s.tracks.foldl (fun u t =>
    if t.2.detected || t.2.cls == 4 || !decide (1 ≤ t.2.status ∧ t.2.status ≤ 3) then u
    else match goesOnAt s t.2.rid with
      | none => u
      | some k =>
        let v := putTrack t.1 { t.2.retire 2 with silent := true } u
        if t.2.rid / 1024 = s.tile then { v with crl.lent := file v.crl.lent t.2.rid k } else v) s

/-- The other tiles in the component of each track's ID, for the continuation entries of the next frame (R214). -/
def noteComps (cs : List (List CFrag)) (s : State) : State :=
  { s with trk.tab := s.trk.tab.map (fun o => o.map (fun t =>
      { t with comp := ((cs.filter (fun c => match ridOf c with
          | some r => r.f.rid == t.rid
          | none => false)).flatMap (fun c => (c.map (·.tile)).filter (· != s.tile))).eraseDups })) }

/-- A fragment that the frame's sets did not carry is reported unstitched (R212): its track stands as it is. The merge of a frame: the
components in turn, then the report; source 26 (14 R391). `late`: a neighbour's FRAGSET is missing (R222). -/
def crookMerge (late : Bool) (s : State) : State :=
  let p := s.params s.chn.prev.epoch
  let q := s.trkParams p.ctx
  let cs := s.comps q.touch
  let t := retireSilent s
  let r := cs.foldl (fun a c => applyComp p q c a) (t, s.trk.report.recs)
  let t := noteComps cs r.1
  let t := { t with trk.report.stitchLate := late, trk.report.recs := [], crook.waiting := [], trk.saved := none, crl.lost := []
                    crl.late := if late then cnt 8 t.crl.late 1 else t.crl.late }
  raise 26 (finishReport r.2 (remask p t))

/-! ### Commands -/

/-- Crook has the frame's own fragments and its report is still open. -/
def State.crookDue (s : State) : Bool :=
  s.clk.core && !(s.chn.prev.kind == .none) && s.chn.prev.tracked && !s.chn.prev.merged && s.chn.prev.dcause == 0

/-- R222: every awaited FRAGSET has arrived, or the deadline had passed before the tracker was done. -/
def execCrookMerge (s : State) : Answer :=
  answer s (if !s.crookDue then s
    else if s.crook.waiting.isEmpty then crookMerge false s
    else if s.crook.deadline then crookMerge true s
    else s)

/-- R222: 480 µs after the boundary. -/
def execStitchDeadline (s : State) : Answer :=
  answer s (if !s.clk.core || !s.chn.timer then s
    else
      let t := { s with crook.deadline := true }
      if t.crookDue then crookMerge (!t.crook.waiting.isEmpty) t else t)

/-- Where a neighbour's fragments of a frame stand in Crook's buffers (01 R26): 1 KiB for each map neighbour and frame parity, a 128-byte
record for each fragment (log entry 104). -/
def fragBase (g : FragSet) (s : State) : Nat :=
  let j := ((s.crl.own.map (fun r => r.nbrs.map (·.1))).getD []).idxOf g.src
  crookBuf + 0x2000 * (g.epoch % 2) + 0x400 * (j % 8)

/-- R214, R222, 18 R482: a FRAGSET arrives; its records go into Crook's buffers. One after the deadline is discarded and counted; one that
reads with bad parity counts as missing; one of a tile that is no neighbour is nothing to Crook. -/
def takeFragset (g : FragSet) (parity : Bool) (s : State) : State :=
  let n := add32 s.epoch 0xFFFFFFFF
  if !s.seams.any (·.1 == g.src) then s
  else if g.epoch ≠ n ∧ later n g.epoch ∨ g.epoch = n ∧ s.crook.deadline then
    { s with crl.lateArr := cnt 8 s.crl.lateArr 1 }
  else if parity then parityHit { store := 0x14, index := g.src, addr := fragBase g s } s
  else { s with mem := s.mem.write (fragBase g s) ((g.frags.take 8).flatMap fragRecord)
                crook.sets := s.crook.sets.filter (fun x => !(x.src == g.src && x.epoch == g.epoch)) ++ [{ g with frags := g.frags.take 8 }]
                crook.waiting := if g.epoch = n then s.crook.waiting.filter (· != g.src) else s.crook.waiting }

/-- R214: FRAGSET. -/
def execFragset (f : FragSet) (parity : Bool) (s : State) : Answer :=
  answer s (if s.onRing && s.clk.core then takeFragset f parity (consumeAll (· == .fragset f) s) else s)

/-- R221: ID_RETURN. -/
def execIdReturn (id : Nat) (s : State) : Answer :=
  answer s (if s.onRing && s.clk.core then
    let t := consume (· == .idReturn id) s
    { t with crl.lent := t.crl.lent.filter (fun l => l.1 != id) } else s)

end Sys2Proof.Machine
end

