-- ==== Sys2Proof/Machine/Array.lean ====
section
/-! DEFINITION. The array (07 R204 to R211, R224 to R232, 19 R497 to R499): enrolment and map checks, epoch lock, ROUTE, loss and return
of members. -/

namespace Sys2Proof.Machine

/-! ### Map checks (R206) -/

/-- The edge of a seam as the other tile names it (R205). -/
def oppositeEdge : Nat → Nat
  | 0 => 1
  | 1 => 0
  | 2 => 3
  | 3 => 2
  | 4 => 7
  | 5 => 6
  | 6 => 5
  | _ => 4

/-- The code set an entry means. -/
def tileCodes (r : TileRec) : Nat := if r.codeSet = 0xFF then r.tile else r.codeSet % 64

/-- Two pitches differ by more than 1 % (of the larger, log entry 31). -/
def pitchOff (a b : Nat) : Bool := decide (Nat.max a b < 100 * absDiff a b)

/-- Lines of two tiles on one axis have a position in common. -/
def shareLine (oa na ob nb : Nat) : Bool :=
  decide (oa % 256 = ob % 256) && decide (oa ≤ ob + 256 * (nb - 1)) && decide (ob ≤ oa + 256 * (na - 1))

/-- Geometry of a seam at edge `e` of `a` (code 4). -/
def seamFits (e : Nat) (a b : TileRec) : Bool :=
  let xh (p q : TileRec) : Bool := q.ox == p.ox + 256 * p.smap
  let yh (p q : TileRec) : Bool := q.oy == p.oy + 256 * p.dmap
  !pitchOff a.pitchS b.pitchS && !pitchOff a.pitchD b.pitchD &&
  match e with
  | 0 => xh b a && shareLine a.oy a.dmap b.oy b.dmap
  | 1 => xh a b && shareLine a.oy a.dmap b.oy b.dmap
  | 2 => yh b a && shareLine a.ox a.smap b.ox b.smap
  | 3 => yh a b && shareLine a.ox a.smap b.ox b.smap
  | 4 => xh b a && yh b a
  | 5 => xh a b && yh b a
  | 6 => xh b a && yh a b
  | _ => xh a b && yh a b

/-- The seams of two entries that fail code 3 or 4: tiles and code. -/
def seamFaults (a b : TileRec) : List (Nat × Nat × Nat) :=
  let ab := a.nbrs.filter (fun n => n.1 == b.tile)
  let ba := b.nbrs.filter (fun n => n.1 == a.tile)
  if ab.isEmpty && ba.isEmpty then []
  else if !(ab.all (fun n => ba.contains (a.tile, oppositeEdge n.2)) && ba.all (fun n => ab.contains (b.tile, oppositeEdge n.2))) then
    [(a.tile, b.tile, 3)]
  else if ab.all (fun n => seamFits n.2 a b) then [] else [(a.tile, b.tile, 4)]

/-- Every faulty seam of a map, each pair once. -/
def mapFaults : List TileRec → List (Nat × Nat × Nat)
  | [] => []
  | a :: rest => rest.flatMap (seamFaults a) ++ mapFaults rest

/-- The seams that are disabled. -/
def badSeams (m : List TileRec) : List (Nat × Nat) := (mapFaults m).map (fun f => (f.1, f.2.1))

/-- The check of an entry that keeps its tile out: 1, 2 or 5; 0: none. -/
def entryCode (nmap p : Nat) (r : TileRec) (m : List TileRec) : Nat :=
  if r.format ≠ 1 ∨ r.tile ≠ p ∨ !r.crcOk then 1
  else if m.any (fun b => b.tile != p && r.nbrs.any (fun n => n.1 == b.tile) && tileCodes b == tileCodes r) then 2
  else if nmap ≤ p then 5 else 0

/-- MAP_ERROR (10 R308). -/
def mapError (p code : Nat) (s : State) : State := postEvent 0x07 (pack [(p, 0), (code, 8)]) 0 s

/-! ### Routes -/

/-- Tiles reached DN-ward from the root, and UP-ward, over links that hold. -/
def reached (n : Nat) (cut : List Nat) : List Nat × List Nat :=
  let dn := ((List.range n).drop 1).takeWhile (fun p => !cut.any (fun l => decide (l < p)))
  let up := ((List.range n).drop 1).filter (fun p => !cut.any (fun l => decide (p ≤ l)))
  (dn, up)

/-- The direction of each of some tiles on its way to the root, in a ring of `n` devices: UP-ward, or not (R199, R226). -/
def directions (n : Nat) (cut tiles : List Nat) : List (Nat × Bool) :=
  let r := reached n cut
  tiles.map (fun p =>
    (p, if cut.isEmpty then decide (2 * p ≤ n) else r.1.contains p && !(r.2.contains p && decide (n < 2 * p))))

/-- A member that had lost the ring is back on it: its tracks retire silently, its first report carries RESYNC, and its reports go out again
(R229, 01 R25). -/
def backOnRing (s : State) : State :=
  let t := retireSilently s
  { t with trk.resync := true, chn.discardReports := false, crl.noMark := 0 }

/-- A member that ROUTE names offline after it was online has lost the ring; it says HELLO where it has seen no port go down itself (R229;
log entry 106). -/
def namedOffline (s : State) : State :=
  let t := { s with chn.discardReports := true }
  if t.fwRuns && !s.chn.discardReports then sendMsg 1 0 (.hello true t.tile t.ctx.gen) t else t

/-- What a device takes from ROUTE (R226, R221, R228): directions, online set, disabled seams and map entries, the ring's size and its broken
links; wrapping ends. A member that it gives no direction is not enrolled (R206); one that it names offline has lost the ring, and one that had
lost it and is named online is back. -/
def applyRoute (dirs : List (Nat × Bool)) (online : List Nat) (seams : List (Nat × Nat)) (m : List TileRec) (ring : Nat) (cut : List Nat)
    (s : State) : State :=
  let me := s.tile
  let off := (seams.filter (fun p => p.1 == me || p.2 == me)).map (fun p => if p.1 = me then p.2 else p.1)
  let t := { s with
    crl.dirs := dirs, crl.routed := true, crl.online := online, crl.wrap := false, crl.wrapOff := true, crl.seamsOff := off, crl.map := m
    crl.ring := ring, crl.cut := cut, crl.ntiles := if s.isRoot then s.crl.ntiles else dirs.length + 1
    crl.seamOff := cnt 8 0 (if s.isRoot then seams.length else off.length)
    crl.lent := s.crl.lent.filter (fun l => online.contains l.2 || l.2 == 64)
    crook.waiting := s.crook.waiting.filter (fun k => online.contains k)
    crl.lost := s.crl.lost ++ s.crl.online.filter (fun k => k != me && !online.contains k)
    crl.enrolled := s.crl.enrolled && (s.isRoot || dirs.any (fun d => d.1 == me)) }
  if !t.isMember || !t.crl.enrolled then t
  else if online.contains me then (if t.chn.discardReports then backOnRing t else t)
  else if s.crl.online.contains me then namedOffline t else t

/-- The members that are enrolled, online or not. -/
def State.enrolledTiles (s : State) : List Nat :=
  ((List.range 64).drop 1).filter (fun p => s.arr.map.any (fun r => r.tile == p) || s.arr.awaitReady.contains p)

/-- The root sends ROUTE to every device and acts on it itself. -/
def sendRoute (s : State) : State :=
  let n := if s.arr.ring = 0 then s.crl.ntiles else s.arr.ring
  let d := directions n s.arr.cut s.enrolledTiles
  let seams := badSeams s.arr.map
  broadcast 0 (.route d s.crl.online seams s.arr.map n s.arr.cut) (applyRoute d s.crl.online seams s.arr.map n s.arr.cut s)

/-- R226: ROUTE at a member. -/
def execRoute (dirs : List (Nat × Bool)) (online : List Nat) (seams : List (Nat × Nat)) (map : List TileRec) (ring : Nat) (cut : List Nat)
    (s : State) : Answer :=
  answer s (if s.isMember && s.clk.link then
    applyRoute dirs online seams map ring cut (consume (fun m => m == .route dirs online seams map ring cut) s) else s)

/-! ### Enrolment (R204) -/

/-- A probe goes out of a port. -/
def sendEnum (p : Port) (s : State) : State := sendOn p 1 0 .enum { s with arr.probe := some p }

/-- The links that no enrolled device closes in a ring of `n` positions: those from the last device reached DN-ward to the first one reached
UP-ward. -/
def gapLinks (n : Nat) (tiles : List Nat) : List Nat :=
  let all := 0 :: tiles
  (List.range n).filter (fun l => !(all.contains l && all.contains ((l + 1) % n)))

/-- The link behind the last device that was enrolled DN-ward. -/
def lastLink (ts : List Nat) (dirs : List (Nat × Bool)) : Nat := (ts.filter (fun p => (assoc dirs p).getD true)).foldl Nat.max 0

/-- The enumeration is over. A ring that ENUM went round is closed, with the devices found on it; otherwise it is open between the devices
enrolled from the two sides, which the root reports when it had no such break before (R185), and every device learns the routes. The index
NTILES - k of R204 counts an open ring's positions by NTILES of the map. -/
def endEnum (closed : Bool) (s : State) : State :=
  let t := { s with arr.probe := none }
  if t.crl.ntiles ≤ 1 then { t with crl.openRing := false }
  else
    let ts := t.enrolledTiles
    let last := ts.getLastD 0
    if closed then
      let n := if t.arr.forming then t.arr.nextPos else if ts.length = last then last + 1 else t.arr.ring
      sendRoute { t with crl.openRing := false, arr.cut := [], arr.ring := Nat.max n (last + 1) }
    else
      let n := if t.arr.forming || t.arr.ring == 0 then Nat.max t.arr.nmap (last + 1) else t.arr.ring
      let gap := if (gapLinks n ts).isEmpty && t.arr.cut.isEmpty then [lastLink ts t.crl.dirs] else gapLinks n ts
      let u := { t with crl.openRing := true, arr.ring := n, arr.cut := (t.arr.cut ++ gap).eraseDups }
      sendRoute (if t.crl.openRing then u else postEvent 0x08 (256 + gap.headD 0) 0 u)

/-- R204: a member receives ENUM; one that is not enrolled answers HELLO with RESET. At the root the probe has come round. -/
def execEnum (port : Port) (s : State) : Answer :=
  answer s (if !s.onRing then s
    else
      let t := consume (· == .enum) s
      if t.isMember then (if t.crl.enrolled then t else sendOn port 1 0 (.hello false t.tile 0) t)
      else if t.arr.probe.isSome && t.arr.probe != some port then endEnum true t else t)

/-- R204: no device answers within 1 ms: the root turns to UP-ward enrolment, and then ends. -/
def execEnumTimeout (s : State) : Answer :=
  answer s (if !s.isRoot || !s.clk.link then s
    else match s.arr.probe with
      | none => s
      | some .dn => sendEnum .up { s with arr.upward := true, arr.upDist := 1 }
      | some .up => endEnum false s)

/-- The RIDs with an opener's index that this tile's tracks hold (R221). -/
def ridsOf (p : Nat) (s : State) : List Nat :=
  (((s.tracks.filter (fun t => t.2.status == 1)).map (·.2.rid)).filter (fun i => i / 1024 == p)).eraseDups

/-- The number of the answers to the root's question for a tile's RIDs, which no journal entry holds. -/
def ridNum : Nat := 0xFFFFFFFD

/-- R221: a member answers with the RIDs it holds of an opener, one in each CPL with how many follow, or with 0xFFFF for none. -/
def answerRids (p : Nat) (s : State) : State :=
  let l := ridsOf p s
  if l.isEmpty then sendMsg 1 0 (.cpl ridNum 0 0xFFFF 0) s
  else (List.zip (List.range l.length) l).foldl (fun t ir => sendMsg 1 0 (.cpl ridNum 0 ir.2 (l.length - 1 - ir.1)) t) s

/-- The ring position of a device that answered a probe: the next one in formation; in service the one that it held, or that is being reset,
else the first one from that side that no device holds. -/
def nextIndex (port : Port) (held : Nat) (s : State) : Nat :=
  if s.arr.forming then (if s.arr.upward then s.arr.nmap - s.arr.upDist else s.arr.nextPos)
  else match s.arr.resetMember with
    | some r => r.2
    | none =>
      if held ≠ 0 ∧ s.arr.map.any (fun r => r.tile == held) then held
      else
        let free := ((List.range s.arr.nmap).drop 1).filter (fun p =>
          !s.crl.online.contains p && !s.arr.awaitReady.contains p && !s.arr.rejoins.any (fun r => r.tile == p))
        match port with
        | .dn => free.headD s.arr.nmap
        | .up => free.getLastD s.arr.nmap

/-- The frames held for a member whose CORE domain was reset go out (R232). -/
def flushQueue (k : Nat) (s : State) : State :=
  let t := { s with arr.quiet := s.arr.quiet.filter (· != k), arr.queue := s.arr.queue.filter (fun f => f.dst != k) }
  (s.arr.queue.filter (fun f => f.dst == k)).foldl (fun u f => sendFrame f u) t

/-- A fetch from a tile that has gone offline ends (09 R279). -/
def endFetch (k : Nat) (s : State) : State :=
  if s.host.diagBusy && s.host.diagTile == k then { s with host.diagBusy := false, host.diagData := 0xFFFFFFFF#32 } else s

/-- A member that has reset is off the array until it joins again. -/
def offline (k : Nat) (s : State) : State :=
  if s.crl.online.contains k then
    sendRoute { endFetch k s with crl.online := s.crl.online.filter (· != k), pwr.contactTiles := s.pwr.contactTiles.filter (· != k) }
  else s

/-- ASSIGN with the IDs it has lent, and the next probe (R204, R221). -/
def assignTile (port : Port) (p : Nat) (lent : List Nat) (s : State) : State := sendEnum port (sendOn port 1 p (.assign p lent none) s)

/-- The IDs are collected: ASSIGN goes out once every tile asked has answered or is gone. -/
def collected (s : State) : State := match s.arr.collect with
  | some c => if (c.2.2.1.filter (fun k => s.crl.online.contains k)).isEmpty then assignTile c.2.1 c.1 c.2.2.2.eraseDups { s with arr.collect := none } else s
  | none => s

/-- One of a member's answers. -/
def takeRid (tile rid left : Nat) (s : State) : State := match s.arr.collect with
  | some c =>
    if !c.2.2.1.contains tile then s
    else collected { s with arr.collect := some (c.1, c.2.1, if left = 0 then c.2.2.1.filter (· != tile) else c.2.2.1,
      if rid / 1024 = c.1 then c.2.2.2 ++ [rid] else c.2.2.2) }
  | none => s

/-- A device is enrolled at its ring position (R204): ASSIGN, once the other members have said which of its IDs they hold (R221), and the next
probe. DESIGN CHOICE: a device beyond position NTILES - 1 ends the enumeration, with the ring taken as open (log entry 128). -/
def enrol (port : Port) (held : Nat) (s : State) : State :=
  let p := nextIndex port held s
  if s.crl.own.isNone then endEnum false (mapError p 1 s)
  else if s.arr.nmap ≤ p ∨ p = 0 ∨ (s.arr.forming && s.arr.upward && decide (p < s.arr.nextPos)) then endEnum false (mapError p 5 s)
  else
    let fresh := !(s.arr.map.any (fun r => r.tile == p)) && !s.arr.awaitReady.contains p
    let s := flushQueue p (offline p s)
    let t := { s with
      arr.nextPos := if s.arr.forming && !s.arr.upward then s.arr.nextPos + 1 else s.arr.nextPos
      arr.upDist := if s.arr.forming && s.arr.upward then s.arr.upDist + 1 else s.arr.upDist
      arr.shadow := s.arr.shadow.filter (fun x => x.1 / 8 != p)
      arr.awaitReady := s.arr.awaitReady.filter (· != p) ++ [p], arr.rejoins := s.arr.rejoins.filter (fun r => r.tile != p), arr.ctxWait := s.arr.ctxWait.filter (· != p), arr.fwFails := s.arr.fwFails.filter (· != p)
      crl.ntiles := if fresh then s.crl.ntiles + 1 else s.crl.ntiles, crl.dirs := file s.crl.dirs p (port == Port.dn) }
    let others := t.crl.online.filter (fun k => k != 0 && k != p)
    collected (others.foldl (fun u k => sendMsg 1 k (.askRids p) u) { t with arr.collect := some (p, port, others, ridsOf p t) })

/-! ### A member's image and return (R229, R230) -/

/-- A member's committed image as it stands (18 R480, R482). -/
def sendStored (k : Nat) (s : State) : State := match memberImage k s with
  | none => s
  | some img => sendMsg 2 k (.ctxData (leAt img 1 1 % 8) 0 img 1) s

/-- The committed image to a member that returns, to apply at the epoch named: that and the array's generation are its header's then
(R229, 08 R240). -/
def sendImage (k ea : Nat) (s : State) : State :=
  match memberImage k s with
  | none => s
  | some img => sendStored k { s with mem := s.mem.write (captureStaging + 0x800 * (k % 64)) (patch img 4 (leBytes 4 s.ctx.gen ++ leBytes 4 ea)) }

/-- A member is to join at the first boundary after an epoch. -/
def joinAt (k ea : Nat) (reset : Bool) (s : State) : State :=
  { s with arr.rejoins := s.arr.rejoins.filter (fun r => r.tile != k) ++ [{ tile := k, epoch := ea, reset := reset }] }

/-- In service the root looks again for devices at positions that are not online, once a link is back (R204, R230). -/
def probeAgain (s : State) : State :=
  if s.arr.forming || s.arr.probe.isSome || ((List.range s.arr.ring).drop 1).all (fun p => s.crl.online.contains p) then s
  else sendEnum .dn { s with arr.upward := false }

/-- The link that is back when a member says HELLO after training (R224): the one that its message came over, when that was broken, else
its other one; none when it is the CORE domain of the member that is back (R232). -/
def mended (port : Port) (k : Nat) (s : State) : List Nat :=
  let n := Nat.max 1 s.arr.ring
  let near := if port = .dn then (k + n - 1) % n else k
  if s.arr.quiet.contains k then [] else [if s.arr.cut.contains near then near else if port = .dn then k else (k + n - 1) % n]

/-- HELLO with RETAINED: a link or a member is back, or a member asks for its image again (R229, 18 R480). One that was lost learns it from
ROUTE, and the link is used again once it joins. DESIGN CHOICE: where the generations agree the epoch named is that of HELLO (log
entry 129). -/
def helloRetained (port : Port) (k gen : Nat) (s : State) : State :=
  let cut := s.arr.cut.filter (fun l => !(mended port k s).contains l)
  let t := flushQueue k { s with arr.probe := none }
  let mend (u : State) : State := { u with arr.cut := cut, crl.openRing := !cut.isEmpty && u.crl.openRing }
  if t.crl.online.contains k then probeAgain (sendRoute (sendStored k (mend t)))
  else if t.arr.rejoins.any (fun r => r.tile == k) || t.arr.ctxWait.contains k then probeAgain (mend t)
  else if t.arr.map.any (fun r => r.tile == k) then
    let u := mend (sendRoute t)
    let ea := if gen = u.ctx.gen ∨ (memberImage k u).isNone then u.epoch else add32 u.epoch 8
    joinAt k ea false (probeAgain (if ea = u.epoch then u else sendImage k ea u))
  else probeAgain (mend t)

/-- R229, R230: HELLO at the root. -/
def execHello (port : Port) (retained : Bool) (tile gen : Nat) (s : State) : Answer :=
  answer s (if !s.isRoot || !s.clk.link then s
    else
      let t := consume (· == .hello retained tile gen) s
      if retained then helloRetained port (tile % 64) gen t
      else if t.arr.forming && t.arr.probe.isNone then t
      else enrol port (tile % 64) t)

/-- A member that lost the ring is enrolled again (01 R25): it does not scan, with its pins high-impedance, until a context that the root
commits is active on it. Its slots stay as they are (08 R236; log entry 109). -/
def stopScanning (s : State) : State := { backOnRing s with ctx.waits := true }

/-- R204: ASSIGN at a member: its index, the IDs it has lent, and the 128 bytes of its tile record, read from settings memory where it is
strapped to have one (17 R469); then READY
with the level of the firmware it runs. -/
def execAssign (tile : Nat) (lent : List Nat) (rc : List Byte) (s : State) : Answer :=
  answer s (if !s.isMember || !s.clk.link then s
    else
      let t := consume (fun m => match m with
        | .assign k _ _ => k == tile
        | _ => false) s
      let u : State := { t with
        crl.tile := tile % 64, crl.enrolled := true, crl.lent := lent.map (fun i => (i, 64))
        crl.own := if t.boot.eepromSel then some (tileRecOf rc) else none
        boot.phase := if t.boot.phase = .rom ∨ t.boot.phase = .waitEnum then .waitFw else t.boot.phase, boot.fwRetried := false }
      let u := u.onBus [busRead (0x4100 + 128 * (tile % 64)) 128]
      sendMsg 1 0 (.ready u.boot.level) (if t.activeSlot.isSome || t.pendingSlot.isSome then stopScanning u else u))

/-- A tile is not enrolled after all (R206): no place in the map or in NTILES, no part in the ring's work; ROUTE tells it so. -/
def refuseTile (p : Nat) (s : State) : State :=
  let t := { s with crl.online := s.crl.online.filter (· != p), arr.map := s.arr.map.filter (fun r => r.tile != p)
                    arr.wantFw := s.arr.wantFw.filter (· != p), crl.dirs := s.crl.dirs.filter (fun d => d.1 != p)
                    crl.ntiles := s.crl.ntiles - 1 }
  sendRoute t

/-- The root's own image, as FW_DATA carries it. -/
def State.fwImage (s : State) : List Byte := s.mem.read codeBase s.boot.fwLen

/-- Firmware and applet by unicast to one member (19 R498). -/
def sendFw (p : Nat) (s : State) : State :=
  let t := sendMsg 2 p (.fwData s.fwImage s.boot.fwCrc s.boot.level false) s
  if t.boot.applet.isEmpty then t else sendMsg 2 p (.ctxData 0 0 t.boot.applet 4) t

/-- The reads of the images that a member that lost its state is to get again, in journal order (10 R303). -/
def readRetained (k : Nat) (s : State) : State :=
  askRetained ((s.jrn.filter (fun e => e.stage == .retained && e.tiles.contains k)).map (fun e => ReadReq.retained e.cmd k)) s

/-- Retained images of a member are being read again, or wait to be. -/
def State.rereads (s : State) (k : Nat) : Bool := (s.rings.reads ++ s.rings.waitReads).any (fun r => match r with
  | .retained _ t => t == k
  | _ => false)

/-- A member that has reset gets its context and is to join (07 R230). -/
def sendContext (k : Nat) (s : State) : State :=
  let ea := if (memberImage k s).isNone then s.epoch else add32 s.epoch 8
  joinAt k ea true (if ea = s.epoch then s else sendImage k ea s)

/-- A member's firmware runs (19 R499, 07 R230): in formation it is online at once; later it gets its retained state and after it the context
(10 R303), and joins; an update of it is complete (R231). -/
def memberStarted (p level : Nat) (s : State) : State :=
  let t := { s with arr.wantFw := s.arr.wantFw.filter (· != p), arr.fwFails := s.arr.fwFails.filter (· != p) }
  let t := match t.arr.fwUpdate with
    | some u => if u.2.1 = p then finish u.1 0 level 0 0 { t with arr.fwUpdate := none } else t
    | none => t
  let t := { t with arr.resetMember := t.arr.resetMember.filter (fun r => !(r.1 == noCmd && r.2 == p)) }
  let t := flushQueue p t
  if t.crl.online.contains p then t
  else
  let t := match assoc t.arr.refs p with
    | some r => sendMsg 2 p (.ctxData 0 0 r 2) t
    | none => t
  if t.arr.forming then sendRoute { t with crl.online := t.crl.online ++ [p] }
  else
    let u := readRetained p t
    if u.rereads p then { u with arr.ctxWait := u.arr.ctxWait.filter (· != p) ++ [p] } else sendContext p u

/-- R204, R206: READY at the root, with the tile record that the member has read: its checks are made as it enrols. -/
def ready (p level : Nat) (rc : TileRec) (s : State) : State :=
  let enrolling := s.arr.awaitReady.contains p
  let t := { s with arr.awaitReady := s.arr.awaitReady.filter (· != p) }
  let code := entryCode t.arr.nmap p rc t.arr.map
  if code ≠ 0 then mapError p code (if enrolling || t.arr.map.any (fun r => r.tile == p) then refuseTile p t else t)
  else
    let m := t.arr.map.filter (fun r => r.tile != p) ++ [rc]
    let new := (mapFaults m).filter (fun f => f.1 == p || f.2.1 == p)
    let t := { t with arr.map := m, crl.seamOff := cnt 8 0 (badSeams m).length }
    let t := if enrolling then new.foldl (fun u f => mapError p f.2.2 u) t else t
    if level ≠ 0 then memberStarted p level t
    else if t.arr.wantFw.contains p ∧ t.arr.fwSent then
      if t.arr.fwFails.contains p then { t with arr.wantFw := t.arr.wantFw.filter (· != p) }
      else sendFw p { t with arr.fwFails := t.arr.fwFails ++ [p] }
    else
      let u := { t with arr.wantFw := t.arr.wantFw.filter (· != p) ++ [p] }
      if u.arr.fwSent then sendFw p u else u

/-- R204: READY. -/
def execReady (tile level : Nat) (rc : List Byte) (s : State) : Answer :=
  answer s (if s.isRoot && s.clk.link then ready tile level (tileRecOf rc) (consume (· == .ready level) s) else s)

/-- 19 R498: the firmware as one broadcast, and the applet image after it, once every enrolled member is READY or 400 ms after the first
ASSIGN. -/
def execFwBroadcast (s : State) : Answer :=
  answer s (if !s.isRoot || !s.arr.forming || s.arr.fwSent || s.arr.probe.isSome then s
    else
      let t := { s with arr.fwSent := true }
      if t.crl.ntiles ≤ 1 then t
      else
        let u := broadcast 2 (.fwData t.fwImage t.boot.fwCrc t.boot.level false) t
        if u.boot.applet.isEmpty then u else broadcast 2 (.ctxData 0 0 u.boot.applet 4) u)

/-! ### Epoch lock (R208 to R211) -/

/-- The lock of a member after a marker with error `e` in ns (R209): set after 8 good ones, cleared after 4 bad ones; its change is
source 25. -/
def lockAfter (e : Int) (s : State) : State :=
  let good := if e.natAbs ≤ 50 then s.crl.good + 1 else 0
  let bad := if 100 < e.natAbs then s.crl.bad + 1 else 0
  let lock := if s.crl.lock then decide (bad < 4) else decide (8 ≤ good)
  let t := { s with crl.good := Nat.min good 8, crl.bad := Nat.min bad 4, crl.lock := lock }
  if lock = s.crl.lock then t else raise 25 t

/-- A marker sets the timer (R209), which an enrolled member's first one starts: the first after training its phase, the second its frequency, later ones correct both by e / 4 and
e / 64. -/
def steer (e : Int) (s : State) : State :=
  let t := { s with crl.err := satI 16 e, crl.maxErr := Nat.max s.crl.maxErr (Nat.min e.natAbs 0xFFFF), crl.marks := Nat.min 2 (s.crl.marks + 1) }
  let t := { t with chn.timer := t.chn.timer || t.crl.enrolled }
  match s.crl.marks with
  | 0 => { t with crl.phase := t.crl.phase + 4 * e }
  | 1 => { t with crl.freq := t.crl.freq + 64 * e }
  | _ => { t with crl.phase := t.crl.phase + e, crl.freq := t.crl.freq + e }

/-- The marker is the one to use: lower HOPS, the UP port's on a tie. -/
def betterMark (port : Port) (hops : Nat) : Option (Nat × Port) → Bool
  | none => true
  | some b => decide (hops < b.1) || (hops == b.1 && port == .up && b.2 == .dn)

/-- A marker is used. -/
def useMark (hops : Nat) (port : Port) (err : Int) (s : State) : State :=
  lockAfter err (steer err { s with crl.best := some (hops, port), crl.first := none })

/-- Both markers of a boundary reach the member: on a whole ring, over two ports that are up (R208). -/
def State.twoMarks (s : State) : Bool := s.crl.up.state == 2 && s.crl.dn.state == 2 && !s.crl.wrap && s.crl.cut.isEmpty && !s.crl.openRing

/-- The marker of a boundary (R209): the better of the two that arrive is used, the other is not. A member whose timer does not run yet, or that
gets one marker only, uses the first (log entry 70). -/
def takeMark (port : Port) (hops : Nat) (err : Int) (s : State) : State :=
  if s.crl.best.isSome then s
  else match s.crl.first with
    | some m => if betterMark port hops (some (m.1, m.2.1)) then useMark hops port err s else useMark m.1 m.2.1 m.2.2 s
    | none => if s.chn.timer && s.twoMarks then { s with crl.first := some (hops, port, err) } else useMark hops port err s

/-- The boundary has come with one marker only: it is used. -/
def lastMark (s : State) : State := match s.crl.first with
  | some m => useMark m.1 m.2.1 m.2.2 s
  | none => s

/-- R208, R209: MARK at a member: forwarded with its DELAY brought up to date; the root consumes those that come round. `residence` is the
time up to the retransmitting block, `err` the member's boundary less the root's in ns. -/
def execMark (port : Port) (block : LinkBlock) (residence : Nat) (err : Int) (s : State) : Answer :=
  answer s (if !s.onRing || (s.port port).state ≠ 2 then s
    else
      let r := hearBlock (endSlot (s.port port)) block
      let s := s.setPort port (fun _ => r.1)
      match readBlock r.2 with
      | .control .mark v =>
        if !s.isMember then s
        else
          let hops := fld v 40 6
          let d := (fld v 16 24 + (s.port port).hopLat + residence) % 2 ^ 24
          let o := portOther port
          let t := if (s.port o).state = 2 then s.setPort o (fun x => { x with mark := some (fld v 0 16, d, (hops + 1) % 64) }) else s
          takeMark port hops err { t with crl.noMark := 0 }
      | _ => s)

/-- R209: the epoch number of the latest boundary; a frame that was scanned under another number is of no use. -/
def execEpochMessage (e : Nat) (s : State) : Answer :=
  answer s (if !s.isMember || !s.clk.link then s
    else
      let n := e % 2 ^ 32
      let t := consume (· == .epoch e) s
      if t.epoch = n then t else { t with epoch := n, chn.cur.epoch := n, chn.cur.kind := FrameKind.none, chn.prev := {} })

/-! ### Loss (R224 to R228) -/

/-- R226: BREAK at the root. -/
def execBreakReport (tile : Nat) (port : Port) (s : State) : Answer :=
  answer s (if s.isRoot && s.clk.link then
    let t := consume (· == .brk tile port) s
    { t with arr.breaks := t.arr.breaks.filter (· != (tile, port)) ++ [(tile, port)] } else s)

/-- A prefix of an image as it is posted with PARTIAL (R227): NREC cut to the records that arrived whole; none without its header. -/
def partialImage (a : RptAsm) : Option RptImg :=
  let n := ((List.range 17).takeWhile (fun i => (assoc a.parts i).isSome)).length
  if n = 0 then none
  else
    let raw := ((List.range n).flatMap (fun i => (assoc a.parts i).getD []))
    let k := Nat.min (leAt raw 5 1) ((raw.length - 64) / 32)
    let h := patch (patch (raw.take 64) 5 (leBytes 1 k)) 8 [(raw.getD 8 0) ||| 0x20#8]
    some { tile := a.tile, epoch := a.epoch, nrec := k, image := padTo 2112 (h ++ (raw.drop 64).take (32 * k)) }

/-- An incomplete image is posted, or dropped without its header. -/
def postPartial (a : RptAsm) (s : State) : State :=
  let t := { s with rpt.asm := s.rpt.asm.filter (· != a) }
  match partialImage a with
  | some r => reportDue r t
  | none => t

/-- The report for a lost tile (R228): no records, RESYNC and PARTIAL. DESIGN CHOICE: its EPOCH is the root's current one, and the header's
other fields are 0 (log entry 129). -/
def lostReport (k : Nat) (s : State) : State :=
  let r : Report := { epoch := s.epoch, tile := k, resync := true, partialImg := true }
  reportDue { tile := k, epoch := s.epoch, nrec := 0, image := imageOf r [] } s

/-- The journal entries that name a lost member (10 R303): a part safe to replay waits; any other ends with MEMBER_LOST. -/
def loseParts (k : Nat) (s : State) : State :=
  s.jrn.foldl (fun u e =>
    if e.stage ≠ .issued then u
    else if e.tiles.contains k then
      (if ((opInfo e.d.opcode).map (·.idem)).getD false then u.setEntry e.cmd (fun x => { x with resent := x.resent.filter (· != k) })
        else tilePart e.cmd k 0x07 0 0 u)
    else if e.d.tile = k ∧ (e.d.opcode = 0x51 ∨ e.d.opcode = 0x52) then finish e.cmd 0x07 0 0 k u
    else u) s

/-- A member is lost (R226 to R228). -/
def loseTile (k : Nat) (s : State) : State :=
  let t := { endFetch k s with
    crl.online := s.crl.online.filter (· != k), pwr.contactTiles := s.pwr.contactTiles.filter (· != k)
    arr.rejoins := s.arr.rejoins.filter (fun r => r.tile != k), arr.ctxWait := s.arr.ctxWait.filter (· != k), arr.fwUpdate := s.arr.fwUpdate.filter (fun u => u.2.1 != k)
    arr.resetMember := s.arr.resetMember.filter (fun r => r.2 != k) }
  let t := (t.rpt.asm.filter (·.tile == k)).foldl (fun u a => postPartial a u) t
  let t := postEvent 0x09 k 0 t
  collected (loseReply k (loseParts k t))

/-- The ends of link `l` of a ring of `n`, from the reports: whether DN of its lower and UP of its upper end reported. -/
def endsOf (n l : Nat) (breaks : List (Nat × Port)) : Bool × Bool := (breaks.contains (l, .dn), breaks.contains ((l + 1) % n, .up))

/-- R226: what the root decides from the reports: the links that are broken, those of them that both ends reported, and the members that
stayed silent at a broken link. -/
def judge (n : Nat) (breaks : List (Nat × Port)) : List Nat × List Nat × List Nat :=
  let cut := (List.range n).filter (fun l => (endsOf n l breaks).1 || (endsOf n l breaks).2)
  let both := cut.filter (fun l => (endsOf n l breaks).1 && (endsOf n l breaks).2)
  let silent := (cut.filter (fun l => !both.contains l)).map (fun l => if (endsOf n l breaks).1 then (l + 1) % n else l)
  (cut, both, (silent.filter (· != 0)).eraseDups)

/-- A tile's way to the root, as ROUTE last set it, ran over one of some links. -/
def ranOver (links : List Nat) (k : Nat) (s : State) : Bool :=
  links.any (fun l => if (assoc s.crl.dirs k).getD true then decide (l < k) else decide (k ≤ l))

/-- R226, R227: the decision: broken links and lost members, their events and reports, the incomplete images of the tiles whose way ran over
them, and ROUTE. -/
def breakDecision (s : State) : State :=
  let n := if s.arr.ring = 0 then s.crl.ntiles else s.arr.ring
  if s.arr.breaks.isEmpty ∨ s.crl.ntiles ≤ 1 then s
  else
    let j := judge n s.arr.breaks
    let around (k : Nat) : List Nat := [(k + n - 1) % n, k]
    let cut := (s.arr.cut ++ j.1 ++ j.2.2.flatMap around).eraseDups
    let r := reached n cut
    let lost := (s.crl.online.filter (fun k => k != 0 && (j.2.2.contains k || !(r.1.contains k || r.2.contains k))))
    let links := if lost.isEmpty then (j.1.filter (fun l => !s.arr.cut.contains l)) else j.2.1.filter (fun l =>
      !s.arr.cut.contains l && !lost.contains l && !lost.contains ((l + 1) % n))
    let t := (s.rpt.asm.filter (fun a => !lost.contains a.tile && ranOver (cut.filter (fun l => !s.arr.cut.contains l)) a.tile s)).foldl
      (fun u a => postPartial a u) s
    let t := { t with arr.breaks := [], arr.cut := cut, crl.openRing := true }
    let t := links.foldl (fun u l => postEvent 0x08 l 0 u) t
    let t := lost.foldl (fun u k => loseTile k u) t
    let t := if lost.isEmpty then t else { t with host.memberLost := true }
    lost.foldl (fun u k => lostReport k u) (sendRoute t)

/-- R226: BREAK_DECISION, 100 µs after the first BREAK. -/
def execBreakDecision (s : State) : Answer := answer s (if s.isRoot && s.clk.link then breakDecision s else s)

end Sys2Proof.Machine
end

