-- ==== Sys2Proof/Machine/Applet.lean ====
section
/-! DEFINITION. Applet images (12 R371, R372) and the start of the default wake applet (16 R452). -/

namespace Sys2Proof.Machine

/-- The header of an applet image (12 R371). -/
structure AppHead where
  codeLen : Nat
  dataLen : Nat
  bssLen : Nat
  entry : Nat
  codeOff : Nat

def appHead (b : List Byte) : AppHead :=
  { codeLen := leAt b 4 4, dataLen := leAt b 8 4, bssLen := leAt b 12 4, entry := leAt b 16 4, codeOff := leAt b 20 4 }

/-- Bytes of core 1's code part (12 R342). -/
def State.c1Part (s : State) : Nat := 0x40000 - 0x4000 * s.mbx.split

/-- The check of an image of `len` bytes (12 R372): 0, BAD_FIELD or CRC_FAIL. -/
def appletCheck (len : Nat) (b : List Byte) (s : State) : Nat :=
  let h := appHead b
  if leAt b 0 2 ≠ 0x4C41 ∨ leAt b 2 1 ≠ 1 ∨ leAt b 3 1 ≠ 0 ∨ len ≠ 0x20 + h.codeLen + h.dataLen ∨ h.codeLen % 4 ≠ 0 ∨ h.entry % 4 ≠ 0 ∨
     h.codeOff % 4 ≠ 0 ∨ s.c1Part < h.codeOff + h.codeLen ∨ h.codeLen ≤ h.entry ∨ 16384 < h.dataLen + h.bssLen then 0x02
  else if crc32 ((b.drop 0x20).take (h.codeLen + h.dataLen)) ≠ leAt b 0x1C 4 then 0x0B
  else 0

/-- A checked image goes into core 1, which restarts with it (12 R372). -/
def loadApplet (b : List Byte) (s : State) : State :=
  let h := appHead b
  let t := core1Stop s
  let u := (t.put (t.c1Base + h.codeOff) ((b.drop 0x20).take h.codeLen)).put sharedBase
    (((b.drop (0x20 + h.codeLen)).take h.dataLen) ++ zeros h.bssLen)
  core1Run { u with mbx.c1pc := BitVec.ofNat 32 (t.c1Base + h.codeOff + h.entry), pwr.dfltApplet := false, pwr.taps := []
                    pwr.lifted := [] }

/-- APPLET_LOAD on this tile: RESULT0 is the image's CRC-32 (10 R292). -/
def appletLoadOwn (num : Nat) (d : Desc) (img : List Byte) (s : State) : State :=
  let c := appletCheck d.p0 img s
  if c ≠ 0 then partDone num c 0 0 s else partDone num 0 (leAt img 0x1C 4) 0 (loadApplet img s)

/-- R372: APPLET_LOAD. -/
def execAppletLoad (j : Nat) (img : HostRead) (s : State) : Answer :=
  runCommand 0x40 j (fun e u => startWithImage e img e.d.p0 (appletLoadOwn j e.d) u) s

/-- The default wake applet starts on core 1 when there is no applet image (16 R452). Its code lies in the firmware image, which the manual does
not give; what it does is `tapApplet` (log entry 33). -/
def startDefaultApplet (s : State) : State := core1Run { s with pwr.dfltApplet := true, pwr.taps := [], pwr.lifted := [] }

/-- An image of the header, or the default applet without one or when it fails its checks (19 R496, R498). -/
def startApplet (img : List Byte) (s : State) : State :=
  if img.isEmpty ∨ appletCheck img.length img s ≠ 0 then startDefaultApplet s else loadApplet img s

end Sys2Proof.Machine
end

