-- ==== Sys2Proof/Machine/Mute.lean ====
section
/-! DEFINITION. The Mute engine (11 R329 to R339): jobs, CAPTURE (10 R309, R310), the stream channel and the stream records. -/

namespace Sys2Proof.Machine

/-! ### Jobs -/

/-- A job stops (11 R337): RESULT, DONE and MUTE_JOB; the CAPTURE it belongs to is final (10 R292, R293). -/
def muteStop (result : Nat) (s : State) : State :=
  let t := raise 21 { s with mute.busy := false, mute.done := true, mute.abort := false, mute.result := result, mute.forCmd := none }
  match s.mute.forCmd with
  | none => t
  | some num =>
    partDone num (if result = 1 then 0 else if result = 2 then 0x0C else if s.host.hostrd && result = 6 then 0x06 else 0x09)
      (s.mute.before.1 + s.mute.cons) (s.mute.before.2 + s.mute.prod) t

/-- GO: the registers are latched; an ILEN or OLEN of 0 stops the job at once (11 R332, R337). `before`: what its command had taken in and put
out already. -/
def muteGo (r : MuteRegs) (cmd : Option Nat) (haddr : Nat) (before : Nat × Nat) (s : State) : State :=
  let t := { s with mute.before := before, mute.job := r, mute.busy := true, mute.abort := false, mute.result := 0, mute.marks := 0, mute.cons := 0,
                    mute.prod := 0, mute.forCmd := cmd, mute.haddr := haddr }
  if r.ilen = 0 then muteStop 1 t else if r.olen = 0 then muteStop 2 t else t

/-- `MUTE_CTL` written: GO is ignored while BUSY; CLASS 3 is reserved (00 R9). A job with HOST set by core 0 writes at the address in
`HDMA_HADDR` (log entry 21). -/
def muteControl (v : Nat) (s : State) : State :=
  let r := { s.mute.regs with cls := if fld v 4 2 = 3 then s.mute.regs.cls else fld v 4 2, dir := bit v 6, host := bit v 7 }
  let t := { s with mute.regs := r, mute.done := s.mute.done && !bit v 3 }
  if t.mute.busy then (if bit v 1 then { t with mute.abort := true } else t)
  else if bit v 0 then muteGo r none (t.hdma.haddrHi.toNat * 2 ^ 32 + t.hdma.haddrLo.toNat) (0, 0) t
  else t

/-- A core-0 store to a Mute register (11 R339); lengths above 1,048,576 are reserved. -/
def muteWrite (o v : Nat) (s : State) : State :=
  match o with
  | 0x000 => muteControl v s
  | 0x004 => { s with mute.regs.src := v }
  | 0x008 => { s with mute.regs.dst := v }
  | 0x00C => if 0x100000 < fld v 0 21 then s else { s with mute.regs.ilen := fld v 0 21 }
  | 0x010 => if 0x100000 < fld v 0 21 then s else { s with mute.regs.olen := fld v 0 21 }
  | 0x014 => { s with mute.regs.elo := fld v 0 16, mute.regs.bidx0 := fld v 16 9 }
  | _ => s

/-- Output of a block: to core memory, to the host through the host DMA engine with Relaxed Ordering, or from a member to the root in
a capture message (11 R338, 10 R309). -/
def muteOut (bs : List Byte) (s : State) : State :=
  let j := s.mute.job
  if j.host && !j.dir then
    match s.mute.forCmd, s.isMember with
    | some num, true => sendMsg 2 0 (.capture num bs) s
    | _, _ => hostWrite (s.mute.haddr + j.dst + s.mute.prod) bs true s
  else s.put (j.dst + s.mute.prod) bs

/-- A block has been written: the counts, and the end of the job (11 R333). -/
def muteCount (used made : Nat) (s : State) : State :=
  let t := { s with mute.cons := s.mute.cons + used, mute.prod := s.mute.prod + made }
  if t.mute.job.ilen ≤ t.mute.cons then muteStop 1 t else if t.mute.abort then muteStop 6 t else t

/-- A reconstructed sample outside 16 bits has no stated value: a free one stands for it (log entry 22). -/
def freeSamples : List Int → State → List Int × State
  | [], s => ([], s)
  | x :: xs, s =>
    if -32768 ≤ x ∧ x ≤ 32767 then
      let r := freeSamples xs s
      (x :: r.1, r.2)
    else
      let d := draw s
      let r := freeSamples xs d.2
      (sext 16 d.1.toNat :: r.1, r.2)

/-- What a decode job makes of the block at the front of its input: bytes read, whether it is a marker, its 128 bytes (as samples for
FR). -/
def muteDecode (cls : Nat) (inp : List Byte) : Except BlockErr (Nat × Bool × (List Int ⊕ List Byte)) :=
  if cls = 0 then
    if inp.length < 64 then .error .format
    else match frDecode (inp.take 64) with
      | .ok xs => .ok (64, frShiftOf inp == 15, .inl xs)
      | .error e => .error e
  else
    match (if cls = 1 then llgDecode inp else llrDecode inp) with
    | .ok (n, out) => .ok (n, false, .inr out)
    | .error e => .error e

/-- A parity error in the input of a block stops the job (11 R335): a delta frame or staged blocks that only Mute read need no mending, a
capture's snapshot is dropped with its job, and any other store is mended as 18 R482 sets out. -/
def muteParity (s : State) : State :=
  let a := s.mute.job.src + s.mute.cons
  let st := storeAt s a
  let t := muteStop 5 { s with mute.errParity := cnt 8 s.mute.errParity 1 }
  if st = 0x02 ∨ st = 0x12 ∨ st = 0x13 then parityEvent st 0 (if st = 0x13 then 13 else 2) (captureParity st a t)
  else parityHit { store := st, index := itemAt a, addr := a } t

/-- One block of a job (11 R333 to R335, R338). A job of a member's core 0 with host output has no host to write to (01 R24, R31): it stops
as aborted (log entry 101). -/
def muteBlock (parity hostFail : Bool) (s : State) : State :=
  let j := s.mute.job
  let room := j.olen - s.mute.prod
  if parity then muteParity s
  else if j.host && !j.dir && s.isMember && s.mute.forCmd.isNone then muteStop 6 s
  else if hostFail && j.host && !j.dir then muteStop 6 (setHostrd s)
  else
    let inp := s.mem.read (j.src + s.mute.cons) (Nat.min 260 (j.ilen - s.mute.cons))
    if !j.dir then
      let n := Nat.min 128 (j.ilen - s.mute.cons)
      let raw := padTo 128 (inp.take n)
      let out := if j.cls = 0 then frEncode (j.bidx0 + s.mute.cons / 128) 3 j.elo raw
        else if j.cls = 1 then llgEncode raw else llrEncode raw
      if room < out.length then muteStop 2 s else muteCount n out.length (muteOut out s)
    else match muteDecode j.cls inp with
      | .error .crc => muteStop 3 { s with mute.errCrc := cnt 8 s.mute.errCrc 1 }
      | .error .format => muteStop 4 { s with mute.errFormat := cnt 8 s.mute.errFormat 1 }
      | .ok (n, mark, out) =>
        if room < 128 then muteStop 2 s
        else
          let t := if mark then { s with mute.marks := cnt 8 s.mute.marks 1 } else s
          match out with
          | .inr bs => muteCount n 128 (muteOut bs t)
          | .inl xs =>
            let r := freeSamples xs t
            muteCount n 128 (muteOut (bytesOf r.1) r.2)

/-- R332: `MUTE_CTL.GO`. -/
def execMuteJobStart (v : Word) (s : State) : Answer := answer s (if s.clk.core then muteControl v.toNat s else s)

/-- R336: `MUTE_CTL.ABORT`: the job stops at the next block boundary. -/
def execMuteJobAbort (s : State) : Answer :=
  answer s (if s.clk.core && s.mute.busy then { s with mute.abort := true } else s)

/-! ### CAPTURE (10 R309, R310) -/

/-- The buffer of a region that its producer has most recently completed at the boundary of epoch `e` (10 R310). -/
def captureSource (region e : Nat) : Nat :=
  match region with
  | 0 => stepStore (add32 e 0xFFFFFFFF)
  | 1 => deltaFrame e
  | 2 => listenData
  | _ => baseSelf

/-- Where this role keeps its snapshot. -/
def snapshotBase (s : State) : Nat := if s.isMember then captureStaging else captureStaging + 0x1040

/-- The job of a CAPTURE, from a buffer at `base`: P2 bytes into the region, P3 bytes into an output of P1 bytes (log entry 21). -/
def captureJob (num base : Nat) (d : Desc) (s : State) : State :=
  muteGo { cls := 1, dir := false, host := true, src := base + d.p2, dst := d.p3, ilen := captureSize (d.a0 % 4) - d.p2,
           olen := Nat.min (d.p1 - d.p3) 0x100000, elo := 0, bidx0 := 0 } (some num) d.addr (0, 0) s

/-- A CAPTURE on this tile: with P2 = 0 it waits for the next boundary; else it goes on from the snapshot held, or on a root from the
buffer current now (10 R310). -/
def captureOwn (num : Nat) (d : Desc) (s : State) : State :=
  if d.p2 = 0 || s.mute.busy then { s with cap.waiting := s.cap.waiting ++ [(num, d)] }
  else if s.isRoot then captureJob num (captureSource (d.a0 % 4) s.epoch) d s
  else if s.cap.held = some (d.a0 % 4) then captureJob num (snapshotBase s) d s
  else partDone num 0x04 0 0 s

/-- The oldest waiting CAPTURE goes on from its snapshot once the job channel is free. -/
def captureWaiting (s : State) : State :=
  match s.cap.waiting with
  | [] => s
  | (num, d) :: rest =>
    if s.mute.busy || s.isRoot then s
    else
      let t := { s with cap.waiting := rest, cap.copied := s.cap.copied.filter (· != num) }
      if d.p2 ≠ 0 then captureOwn num d t
      else if s.cap.copied.contains num then captureJob num (snapshotBase t) d t else s

/-- At the first epoch boundary after a CAPTURE has started its snapshot is taken, and it goes on when the job channel is free; on a root, which
takes none, it starts then (10 R310). -/
def captureAtBoundary (s : State) : State :=
  match s.cap.waiting with
  | [] => s
  | (num, d) :: rest =>
    let r := d.a0 % 4
    if s.isRoot then
      if s.mute.busy then s else captureJob num (captureSource r s.epoch) d { s with cap.waiting := rest }
    else if d.p2 ≠ 0 || s.cap.copied.contains num then captureWaiting s
    else captureWaiting { s with cap.held := some r, cap.copied := s.cap.copied ++ [num]
                                 mem := s.mem.write (snapshotBase s) (s.mem.read (captureSource r s.epoch) (captureSize r)) }

/-- R333: a block of the job; the stream channel's coding goes first (R332). A CAPTURE that waited for the channel follows. Output to the host waits while the host DMA engine may issue no
requests (09 R261). -/
def execMuteJobBlock (parity hostFail : Bool) (s : State) : Answer :=
  answer s (if s.clk.core && s.mute.busy && !s.mute.strBusy &&
      (s.dmaOk || s.isMember || s.mute.job.dir || !s.mute.job.host) then captureWaiting (muteBlock parity hostFail s) else s)

/-- R310: CAPTURE. -/
def execCapture (j : Nat) (s : State) : Answer :=
  runCommand 0x30 j (fun e u => startParts e .snapshot (captureOwn j e.d) u) s

/-! ### Stream channel (11 R329, R330) -/

/-- Blocks of a record of a kind (11 R329): 128-byte units of the input. -/
def streamBlocks (d kind : Nat) : Nat := if kind = 0 then 3 * d else if kind = 1 then 5 else 24

/-- Where a record's input lies for frame `n`. -/
def streamInput (kind n : Nat) : Nat := if kind = 0 then deltaFrame n else if kind = 1 then selfDelta else noiseArea

/-- The blocks of a record: FR coded, or the bytes as they stand. -/
def codeBlocks (s : State) (kind n nblk : Nat) (raw : Bool) : List (Nat × List Byte) :=
  (List.range nblk).map (fun b =>
    let inp := s.mem.read (streamInput kind n + 128 * b) 128
    (b, if raw then inp else frEncode b kind (n % 65536) inp))

/-- Blocks grouped for the messages: two FR blocks or one raw unit each (11 R331). -/
def streamParts (raw : Bool) : List (Nat × List Byte) → List (List (Nat × List Byte))
  | a :: b :: rest => if raw then [a] :: streamParts raw (b :: rest) else [a, b] :: streamParts raw rest
  | [a] => [[a]]
  | [] => []

/-- A member's record goes to the root in STREAM messages of class 2; without a credit and with 32 frames queued the newest blocks are
dropped and counted (07 R203). -/
def sendStream (r : SRec) (s : State) : State :=
  (streamParts r.raw r.blocks).foldl (fun t bs =>
    let q := t.port (if t.goesUp 0 then .up else .dn)
    if q.cred.getD 2 0 = 0 && 32 ≤ q.q2.length then { t with crl.sdrop := cnt 16 t.crl.sdrop bs.length }
    else sendMsg 2 0 (.stream r.epoch r.kind r.raw bs) t) s

/-- The unsent FR blocks of a queue for frame `n` become markers (11 R330); how many there were. -/
def dropQueued (n : Nat) (q : List CFrame) : List CFrame × Nat :=
  (q.map (fun f => match f.msg with
    | .stream e k false bs =>
      if e = n then { f with msg := .stream e k false (bs.map (fun b => (b.1, frMarker b.1 k (n % 65536)))) } else f
    | _ => f),
   (q.map (fun f => match f.msg with
    | .stream e _ false bs => if e = n then bs.length else 0
    | _ => 0)).sum)

/-- The half of the staging region is cleared of frame `n`'s unsent blocks, counted in STAGEDROP (11 R330). -/
def stageDrop (n : Nat) (s : State) : State :=
  if s.isMember then
    let a := dropQueued n s.crl.up.q2
    let b := dropQueued n s.crl.dn.q2
    { s with crl.up.q2 := a.1, crl.dn.q2 := b.1, mute.stageDrop := cnt 8 s.mute.stageDrop (a.2 + b.2) }
  else
    let old (r : SRec) : Bool := r.tile == 0 && r.epoch == n && !r.raw && r.nblk != 0
    { s with
      mute.stageDrop := cnt 8 s.mute.stageDrop ((s.strm.recs.filter old).map (·.blocks.length)).sum
      strm.recs := s.strm.recs.map (fun r => if old r then { r with markers := List.range r.nblk, blocks := [] } else r) }

/-- One record of frame `n` produced: staged, and sent or kept for the root's own write. A block in `bad`, whose input read with bad parity,
becomes a marker (11 R330); of uncompressed data it is dropped, and the root writes what stands for it (R331). -/
def streamRecord (slot n kind : Nat) (raw : Bool) (bad : List Nat) (s : State) : State :=
  let d := s.dLines slot
  let bs := codeBlocks s kind n (streamBlocks d kind) raw
  let bs := if raw then bs.filter (fun b => !bad.contains b.1)
    else bs.map (fun b => if bad.contains b.1 then (b.1, frMarker b.1 kind (n % 65536)) else b)
  let r : SRec := { epoch := n, tile := s.tile, kind := kind, raw := raw, d := d, s := s.sLines slot, nblk := streamBlocks d kind,
                    blocks := bs, markers := if raw then bad else [] }
  let t := if s.isMember then sendStream r s else { s with strm.recs := s.strm.recs ++ [r] }
  if raw then t
  else
    let base := muteStaging + 0x8000 * (n % 2) + (if kind = 0 then 0 else 64 * 384)
    { t with mem := t.mem.write base (r.blocks.flatMap (·.2)) }

/-- Parity errors in the input of the stream channel: block by block (11 R330, R339, 18 R482); of the delta frame, which only Mute read, or of
other stream input. -/
def streamParity (n : Nat) (bad : List (Nat × Nat)) (s : State) : State :=
  bad.foldl (fun t b =>
    let st := if b.1 = 0 then 0x02 else 0x12
    parityEvent st 0 2 (captureParity st (streamInput b.1 n + 128 * b.2)
      { t with mute.errParity := cnt 8 t.mute.errParity 1 })) s

/-- R329: the stream channel codes frame N during epoch N + 1, under the context that governed the frame (08 R241, R252); not a frame that
was discarded (03 R89) or that a calibration or line test used (05 R120), not outside ACTIVE (16 R430), and a member only with LOCK
(07 R211). `bad` are the blocks, by kind and index, whose input reads with bad parity. -/
def execStreamFrameCode (bad : List (Nat × Nat)) (s : State) : Answer :=
  let n := add32 s.epoch 0xFFFFFFFF
  let slot := s.slotOf n
  let sel := s.ctxField slot 0x360 1
  let raw := s.ctxField slot 0x361 1 % 4 = 1
  let every := Nat.max 1 (s.ctxField slot 0x362 1 % 32)
  let quiet := match s.chn.prev.kind with
    | .normal => false
    | .inject _ _ => s.cal.kind == .full
    | _ => true
  answer s (if !s.clk.core || !s.chn.prev.decoded || s.chn.prev.epoch ≠ n || s.activeSlot.isNone || s.chn.discardReports || quiet ||
      s.chn.prev.dcause ≠ 0 || s.pwr.state ≠ .active || (s.isMember && !s.crl.lock) then s
    else
      let fr := n % every = 0 && !raw && (bit sel 0 || bit sel 1)
      let t := if fr then stageDrop (add32 n 0xFFFFFFFE) s else s
      let run (k : Nat) (on : Bool) (raw : Bool) (u : State) : State :=
        if on then
          let hit := bad.filter (fun b => b.1 == k && decide (b.2 < streamBlocks (u.dLines slot) k))
          streamRecord slot n k raw (hit.map (·.2)) (streamParity n hit u)
        else u
      let t := if n % every = 0 then run 2 (bit sel 2) true (run 1 (bit sel 1) raw (run 0 (bit sel 0) raw t)) else t
      let d := t.dLines slot
      raise 19 (if fr then { t with mute.strBusy := false, mute.strEpoch := n % 65536
                                    mute.strNblk := (if bit sel 0 then 3 * d else 0) + (if bit sel 1 then 5 else 0) }
        else { t with mute.strBusy := false }))

/-! ### Stream records at the root (10 R309, R311, 11 R331) -/

/-- A buffer retired: its write-back as one write, STR_CI moved on. -/
def retireBuffer (b : SBuf) (s : State) : State :=
  let c := s.rings.str
  let bytes := leBytes 4 b.used ++ leBytes 4 b.efirst ++ leBytes 4 b.elast ++
    leBytes 4 (pack [(b.nrec, 0), (phaseOf c.log2n b.idx, 31)])
  let t := hostWrite (c.slot 32 b.idx + 16) bytes false s
  countRecord c { t with strm.bufs := t.strm.bufs.tail, rings.strCi := add32 b.idx 1, rings.dirty := true }

/-- The payload of a record: a dropped-block marker, or samples of -32,768, for every block missing (11 R331). -/
def recordPayload (r : SRec) : List Byte :=
  (List.range r.nblk).flatMap (fun b => match assoc r.blocks b with
    | some x => x
    | none => if r.raw then (List.replicate 64 [0x00#8, 0x80#8]).flatten else frMarker b r.kind (r.epoch % 65536))

/-- Blocks missing from a record: those that did not arrive, and the markers that its source sent (11 R331). -/
def recordDropped (r : SRec) : Nat :=
  ((List.range r.nblk).filter (fun b => match assoc r.blocks b with
    | none => true
    | some x => !r.raw && frShiftOf x == 15)).length

/-- The 32-byte header of a record (10 R309). -/
def recordHeader (r : SRec) (plen : Nat) : List Byte :=
  leBytes 4 r.epoch ++ leBytes 4 (pack [(r.tile, 0), (r.kind, 8), (b2n r.raw, 12)]) ++ leBytes 4 plen ++ leBytes 2 r.nblk ++
  leBytes 2 (recordDropped r) ++ leBytes 1 r.d ++ leBytes 1 r.s ++ zeros 14

/-- A record dropped whole, with an event at most once per 100 frames and tile (10 R311). -/
def dropRecord (r : SRec) (s : State) : State :=
  let t := { s with strm.drop := add32 s.strm.drop 1 }
  let quiet := match assoc t.strm.dropEvt r.tile with
    | some e => decide (diff32 t.epoch e < 100)
    | none => false
  if quiet then t
  else postEvent 0x0D t.strm.drop (r.tile + 256 * r.kind) { t with strm.dropEvt := file t.strm.dropEvt r.tile t.epoch }

/-- A record placed into the buffer in hand, or into the next the host has given (`descs`: address, length and FLUSH as read). -/
def placeRecord : Nat → List (Nat × Nat × Nat) → SRec → State → State
  | 0, _, r, s => dropRecord r s
  | n + 1, descs, r, s =>
    let pay := recordPayload r
    match s.strm.bufs with
    | b :: _ =>
      let o := (b.used + 63) / 64 * 64
      if o + 32 + pay.length ≤ b.len then
        let b1 := { b with used := o + 32 + pay.length, efirst := if b.nrec = 0 then r.epoch else b.efirst, elast := r.epoch,
                           nrec := cnt 16 b.nrec 1 }
        let t := hostWrite (b.addr + o) (recordHeader r pay.length) true s
        let t := hostWrite (b.addr + o + 32) pay true t
        { t with strm.bufs := b1 :: t.strm.bufs.tail }
      else placeRecord n descs r (retireBuffer b s)
    | [] =>
      match descs with
      | (addr, len, fl) :: rest =>
        if s.rings.str.base ≠ 0 && s.ringsOk && diff32 s.rings.strPi s.strm.next ≠ 0 then
          placeRecord n rest r { s with strm.bufs := [{ idx := s.strm.next, addr := addr, len := len, flush := fl % 256 }],
                                        strm.next := add32 s.strm.next 1 }
        else dropRecord r s
      | [] => dropRecord r s

/-- Every block of the record has arrived or is known to be dropped. -/
def recordWhole (r : SRec) : Bool :=
  r.nblk != 0 && (List.range r.nblk).all (fun b => (assoc r.blocks b).isSome || r.markers.contains b)

/-- The first record of a tile and kind that passes a test is written; what stands for it until the epoch is over has no blocks left. -/
def writeRecord (tile kind : Nat) (descs : List (Nat × Nat × Nat)) (ok : SRec → Bool) (s : State) : State :=
  match s.strm.recs.find? (fun r => r.tile == tile && r.kind == kind && ok r) with
  | none => s
  | some r =>
    let t := { s with strm.recs := s.strm.recs.map (fun x =>
      if x.tile == r.tile && x.kind == r.kind && x.epoch == r.epoch then { x with nblk := 0, blocks := [], markers := [] } else x) }
    if t.strm.bufs.isEmpty || t.ringsOk then placeRecord 4 descs r t else dropRecord r t

/-- R331: a record with all its blocks. -/
def execStreamRecordWrite (tile kind : Nat) (descs : List (Nat × Nat × Nat)) (s : State) : Answer :=
  answer s (if s.hostSide && s.clk.core then writeRecord tile kind descs recordWhole s else s)


/-- R309: FLUSH epochs have passed since the buffer's first record. -/
def execStreamBufferRetire (s : State) : Answer :=
  answer s (match s.strm.bufs with
    | b :: _ =>
      if s.ringsOk && b.flush ≠ 0 && b.nrec ≠ 0 && decide (b.flush ≤ diff32 s.epoch b.efirst) then retireBuffer b s else s
    | [] => s)

/-- The record of a member, begun with its first blocks or when it is overdue. -/
def beginRecord (tile epoch kind : Nat) (raw : Bool) (s : State) : State :=
  let img := captureStaging + 0x800 * tile
  let m := (List.range 320).map (fun n => s.mem.le (img + 0x40 + 2 * n) 2)
  if s.strm.recs.any (fun r => r.tile == tile && r.epoch == epoch && r.kind == kind) then s
  else { s with strm.recs := s.strm.recs ++ [{ epoch := epoch, tile := tile, kind := kind, raw := raw, d := countRole m 1,
                                                s := countRole m 2, nblk := streamBlocks (countRole m 1) kind }] }

/-- The context that the root holds for a member selects this record for frame `n` (08 R241): it applied by then. Whether it is uncompressed;
none where no record is expected. -/
def State.expected (s : State) (tile kind n : Nat) : Option Bool :=
  match memberImage tile s with
  | none => none
  | some b =>
    if !s.isOnline tile || tile = 0 || 2 < kind || later (leAt b 8 4) n || !bit (leAt b 0x360 1) kind ||
        n % Nat.max 1 (leAt b 0x362 1 % 32) != 0 || s.pwr.state != .active then none
    else some (kind == 2 || leAt b 0x361 1 % 4 == 1)

/-- R331: 900 µs after the boundary: a record with markers for what is missing; of a member none of whose blocks arrived too. -/
def execStreamRecordDeadline (tile kind : Nat) (descs : List (Nat × Nat × Nat)) (s : State) : Answer :=
  let n := add32 s.epoch 0xFFFFFFFF
  answer s (if s.hostSide && s.clk.core then writeRecord tile kind descs (·.nblk != 0) (match s.expected tile kind n with
    | some raw => beginRecord tile n kind raw s
    | none => s) else s)

/-- Stream blocks received from a member (11 R331): late ones find their record already written. -/
def takeStream (tile epoch kind : Nat) (raw : Bool) (blocks : List (Nat × List Byte)) (s : State) : State :=
  if epoch ≠ add32 s.epoch 0xFFFFFFFF || 2 < kind || tile = 0 then s
  else
    let t := beginRecord tile epoch kind raw s
    { t with strm.recs := t.strm.recs.map (fun r =>
        if r.tile == tile && r.epoch == epoch && r.kind == kind && r.nblk != 0 then
          { r with blocks := r.blocks ++ blocks.filter (fun b => b.1 < r.nblk && (assoc r.blocks b.1).isNone) } else r) }

/-- Records of frames before the one now being sent are forgotten at a boundary. -/
def purgeRecords (s : State) : State :=
  { s with strm.recs := s.strm.recs.filter (fun r => r.nblk != 0 || r.epoch == add32 s.epoch 0xFFFFFFFF) }

end Sys2Proof.Machine
end

