-- ==== Sys2Proof/Machine/Messages.lean ====
section
/-! DEFINITION. Messages of the ring (07 R200, R227, R231, 10 R295): reports, events, commands and completions, and bulk data. -/

namespace Sys2Proof.Machine

/-! ### Reports and events at the root -/

/-- A REPORT frame of a member joins its image, which is posted once its 17 frames are there (R227); a reset member's first report
completes RESET_MEMBER (10 R292). -/
def takeReportPart (tile epoch part : Nat) (data : List Byte) (s : State) : State :=
  let old := (s.rpt.asm.find? (fun a => a.tile == tile && a.epoch == epoch)).getD { tile := tile, epoch := epoch, parts := [] }
  let a := { old with parts := file old.parts part (padTo (if part = 0 then 120 else if part = 16 then 72 else 128) data) }
  let rest := s.rpt.asm.filter (fun a => !(a.tile == tile && a.epoch == epoch))
  if a.parts.length < 17 then { s with rpt.asm := rest ++ [a] }
  else
    let img := padTo 2112 ((List.range 17).flatMap (fun i => (assoc a.parts i).getD []))
    let t := reportDue { tile := tile, epoch := epoch, nrec := leAt img 5 1, image := img } { s with rpt.asm := rest }
    match t.arr.resetMember with
    | some r => if r.2 = tile && (t.entry r.1).any (·.tiles.isEmpty) then finish r.1 0 epoch 0 0 { t with arr.resetMember := none } else t
    | none => t

/-- The contact-present bit that came with a member's report (16 R433). -/
def noteContact (tile epoch part : Nat) (s : State) : State :=
  match s.crl.inbox.findSome? (fun f => match f.msg with
    | .report e p _ c => if f.src = tile ∧ e = epoch ∧ p = part then some c else none
    | _ => none) with
  | some true => { s with pwr.contactTiles := s.pwr.contactTiles.filter (· != tile) ++ [tile] }
  | some false => { s with pwr.contactTiles := s.pwr.contactTiles.filter (· != tile) }
  | none => s

/-- R227: REPORT_FRAME. -/
def execReportFrame (tile epoch part : Nat) (data : List Byte) (s : State) : Answer :=
  answer s (if !s.isRoot || !s.clk.core || 17 ≤ part || !s.isOnline tile || tile = 0 then s
    else takeReportPart tile epoch part data (consume (fun m => match m with
      | .report e p _ _ => e == epoch && p == part
      | _ => false) (noteContact tile epoch part s)))

/-- R227: an image still incomplete 900 µs after its boundary is posted with PARTIAL. -/
def execReportImageDeadline (tile epoch : Nat) (s : State) : Answer :=
  answer s (match s.rpt.asm.find? (fun a => a.tile == tile && a.epoch == epoch) with
    | some a => if s.isRoot then postPartial a s else s
    | none => s)

/-- R200: an event of a member enters the root's buffer; a PARITY event counts there (18 R486), and one of a dictionary bank has its
retained image read again, or the boot bank sent where there is none. -/
def execEventMessage (tile code epoch d0 d1 : Nat) (s : State) : Answer :=
  answer s (if !s.isRoot || !s.clk.core then s
    else
      let t := consume (· == .event code epoch d0 d1) s
      let t := bufferEvent { code := code, tile := tile % 64, epoch := epoch, d0 := d0 % 2 ^ 32, d1 := d1 % 2 ^ 31 } t
      if code ≠ 0x0E then t
      else
        let u := countParityEvent t
        if d0 % 65536 ≠ 0x0C then u
        else
          let b := d0 / 65536 % 2
          let held := u.retainedBank tile b
          if held.isEmpty then bankFromBoot (tile % 64) b u
          else askRetained (held.map (fun e => ReadReq.retained e.cmd tile)) u)

/-- R279: a member's value arrives; the reply of a fetch that was abandoned is not the one waited for. -/
def execDiagFetchResult (tile item : Nat) (v : Word) (s : State) : Answer :=
  answer s (
    let t := consume (· == .diagReply item v.toNat) s
    if t.host.diagBusy && t.host.diagTile == tile && t.host.diagItem == item then { t with host.diagBusy := false, host.diagData := v } else t)

/-! ### Commands at a member -/

/-- Core 0's domain of a member resets, ordered by the root (15 R425): an update image stays in the capture staging region. -/
def memberReset (keep : Bool) (s : State) : State :=
  let t := coreDomainReset { s with clk.rstMember := true }
  leaveCoreReset { t with boot.staged := if keep then s.boot.staged else none, crl.enrolled := keep && t.crl.enrolled }

/-- A forwarded command on a member (10 R295). -/
def memberCommand (num : Nat) (d : Desc) (s : State) : State :=
  match d.opcode with
  | 0x10 => stageMember num d s
  | 0x13 => readContextOwn num d s
  | 0x20 => hopOwn num d s
  | 0x21 => lineTestOwn num s
  | 0x22 => recalOwn num (d.a0 % 2 == 1) s
  | 0x23 => releaseOwn num d s
  | 0x24 => { s with ctx.staging := file s.ctx.staging num d }
  | 0x30 => captureOwn num d s
  | 0x40 => { s with ctx.staging := file s.ctx.staging num d }
  | 0x41 => mailboxSendOwn num d s
  | 0x51 => { s with ctx.staging := file s.ctx.staging num d }
  | 0x52 => memberReset false (partDone num 0 0 0 s)
  | _ => partDone num 0x01 0 0 s

/-- R295: CMD, PREPARE and the root's other orders at a member. -/
def execCmdMessage (num : Nat) (m : Msg) (s : State) : Answer :=
  answer s (if !s.isMember || !s.clk.link || !s.fwRuns then s
    else
      let t := consume (· == m) s
      match m with
      | .cmd _ d => memberCommand num d t
      | .prepare slot sw named rate => prepareMember (slot % 8) sw named rate t
      | .abandon slot => abandonMember slot t
      | .askRids p => answerRids p t
      | .unstage j => { t with ctx.staging := t.ctx.staging.filter (fun q => q.1 != j) }
      | .diag item => sendMsg 1 0 (.diagReply item (diagValue t item)) t
      | _ => t)

/-- The check result of an update (R231): a failure ends the command; else the member is to start it at the epoch it answers with. -/
def updateAnswer (j tile code r1 : Nat) (s : State) : State :=
  if code ≠ 0 then finish j code 0 0 tile (endMember j s)
  else
    let t := s.setEntry j (fun e => if e.tiles.contains tile then { e with tiles := [] } else e)
    { t with arr.fwUpdate := some (j, tile, some r1) }

/-- A member that resets is off the array until it joins again (R230, R232). -/
def takeOffline (k : Nat) (s : State) : State :=
  sendRoute { endFetch k s with
    crl.online := s.crl.online.filter (· != k), arr.quiet := s.arr.quiet.filter (· != k) ++ [k]
    pwr.contactTiles := s.pwr.contactTiles.filter (· != k) }

/-- The number of the root's own STAGE_CONTEXT for the boot context, which no journal entry holds (19 R500). -/
def bootNum : Nat := 0xFFFFFFFF

/-- A member has staged the boot context, or refused it, which its check then tells (19 R500). -/
def bootStaged (tile code r0 : Nat) (s : State) : State :=
  match s.arr.bootStage with
  | some b => if code = 0 ∧ r0 = 0 then s else { s with arr.bootStage := some (b.1, b.2.filter (· != tile)) }
  | none => s

/-- A member has refused an update or reset whose command the journal has lost: it does not run there. -/
def lostAnswer (tile : Nat) (s : State) : State :=
  { s with arr.fwUpdate := s.arr.fwUpdate.filter (fun u => !(u.1 == noCmd && u.2.1 == tile))
           arr.resetMember := s.arr.resetMember.filter (fun r => !(r.1 == noCmd && r.2 == tile)) }

/-- R295: CPL at the root. -/
def execCplMessage (tile num code r0 r1 : Nat) (s : State) : Answer :=
  answer s (if !s.isRoot || !s.clk.core then s
    else
      let t := consume (· == .cpl num code r0 r1) s
      match t.entry num with
      | none => if num = bootNum then bootStaged tile code r0 t else if num = ridNum then takeRid tile r0 r1 t
          else if code ≠ 0 then lostAnswer tile t else t
      | some e =>
        if !e.tiles.contains tile then t
        else match e.d.opcode with
          | 0x10 => stagePart num tile code r0 t
          | 0x24 => tokenPart num tile code r0 r1 t
          | 0x51 => updateAnswer num tile code r1 t
          | 0x52 => if code ≠ 0 then finish num code 0 0 tile (endMember num t)
              else takeOffline tile (t.setEntry num (fun e => { e with tiles := [] }))
          | _ => tilePart num tile code r0 r1 t)

/-! ### Bulk data -/

/-- R200: data of a READ_CONTEXT or CAPTURE of a member: into host memory, an image behind its slot state at ADDR, coded blocks one after
another from P3 on; the image that the root's own state store asked for goes there (18 R482). While the engine may write nothing the message waits (09 R261). -/
def execCaptureMessage (tile num : Nat) (data : List Byte) (s : State) : Answer :=
  answer s (if !s.isRoot || !s.clk.core then s
    else
      let t := consume (· == .capture num data) s
      match t.entry num with
      | none => if num = storeNum then { t with mem := t.mem.write (captureStaging + 0x800 * (tile % 64)) (padTo 0x800 (data.drop 1)) } else t
      | some e =>
        if !e.tiles.contains tile then t
        else if !t.dmaOk then s
        else if e.d.opcode = 0x13 then
          let img := data.drop 1
          tilePart num tile 0 (leAt data 0 1) (leAt img 0x00C 4) (hostWrite e.d.addr img true t)
        else if e.d.opcode = 0x30 then
          (hostWrite (e.d.addr + e.d.p3 + e.r1) data true t).setEntry num (fun x => { x with r1 := x.r1 + data.length })
        else t)

/-- R331: stream blocks of a member. -/
def execStreamMessage (tile epoch kind : Nat) (raw : Bool) (blocks : List (Nat × List Byte)) (s : State) : Answer :=
  answer s (if s.isRoot && s.clk.core then
    takeStream tile epoch kind raw blocks (consume (· == .stream epoch kind raw blocks) s) else s)

/-- A reference baseline reaches the tile it is of: it is kept when its CRC-32 passes (17 R470, R472). -/
def takeReference (b : List Byte) (s : State) : State :=
  if leAt b 0 1 = 1 ∧ leAt b 1 1 % 64 = s.tile ∧ crc32 (b.take 0x3C ++ (b.drop 0x40).take 0x63C0) = leAt b 0x3C 4 then
    { s with elec.refRec := b } else s

/-- A command's image reaches a member that waits for it, to be carried out or only checked. -/
def takeImage (check : Bool) (num : Nat) (img : List Byte) (s : State) : State :=
  match assoc s.ctx.staging num with
  | none => s
  | some d =>
    let t := { s with ctx.staging := s.ctx.staging.filter (fun q => q.1 != num) }
    match d.opcode with
    | 0x24 => if check then tokenCheck num d img t else tokenLoadOwn num d img t
    | 0x40 => appletLoadOwn num d img t
    | _ => s

/-- The context image of the root (R229): that of the ACTIVE slot repairs it where it is damaged (18 R480); any other is to apply. -/
def takeContextImage (data : List Byte) (s : State) : State :=
  let img := padTo 0x800 data
  let n := leAt img 1 1 % 8
  if s.slot n == .active && leAt img 8 4 == s.ctx.ea && imageGood img then
    if !s.ctx.bad.contains n then s
    else { s with mem := s.mem.write (slotBase n) img, ctx.bad := s.ctx.bad.filter (· != n), ctx.copyBad := false, ctx.stopped := false,
                  ctx.restored := true }
  else restoreImage data s

/-- R242, R229, 17 R470: CTX_DATA at a member. Kinds: 0 a piece, 1 the context image, 2 a reference, 3 a command's image (its number in
`off`), 4 the applet image of the header, 5 a command's image that is only checked yet. -/
def execCtxData (slot off : Nat) (data : List Byte) (kind : Nat) (s : State) : Answer :=
  answer s (if !s.isMember || !s.clk.core then s
    else
      let t := consume (· == .ctxData slot off data kind) s
      if !t.fwRuns then t
      else match kind with
        | 0 => stageMemberPiece slot off data t
        | 1 => takeContextImage data t
        | 2 => takeReference data t
        | 3 => takeImage false off data t
        | 5 => takeImage true off data t
        | _ => startApplet data t)

/-! ### Firmware (19 R497, R498, 07 R231) -/

/-- GPIO functions of the tile record (17 R471). -/
def applyGpio (s : State) : State :=
  match s.tileRecord with
  | some r => { s with pwr.gpio := (List.range 4).map (fun i => r.gpio.getD i 0 % 4) }
  | none => s

/-- A member's firmware starts (19 R497): the GPIO functions, then READY with its level; it waits for the context. -/
def startMember (len crc level : Nat) (s : State) : State :=
  let t := startImage { s with boot.phase := .running, boot.fwLen := len, boot.fwCrc := crc, boot.level := level, boot.source := 2
                               boot.ready := true, boot.fwvalid := true, boot.fwRetried := false }
  sendMsg 1 0 (.ready level) (startDefaultApplet (applyGpio t))

/-- An image for a member that waits for it: a bad one is asked for once more (19 R497). -/
def takeFirmware (data : List Byte) (crc level : Nat) (s : State) : State :=
  if s.boot.phase ≠ .waitFw ∧ s.boot.phase ≠ .restart then s
  else if crc32 data = crc ∧ data.length ≤ 0x20000 then
    let t := s.put codeBase data
    if s.boot.phase = .restart then
      sendMsg 1 0 (.ready level) (finishRestart { t with boot.fwLen := data.length, boot.fwCrc := crc, boot.level := level })
    else startMember data.length crc level t
  else if s.boot.fwRetried then s
  else sendMsg 1 0 (.ready 0) { s with boot.fwRetried := true }

/-- An update image goes to the capture staging region while the member scans (R231), and a snapshot there is gone (10 R310): the check's result, and the epoch at which it is
started, in CPL. -/
def takeUpdate (data : List Byte) (crc level : Nat) (s : State) : State :=
  match s.ctx.staging.find? (fun p => p.2.opcode == 0x51) with
  | none => s
  | some p =>
    let t := { s with ctx.staging := s.ctx.staging.filter (fun q => q.1 != p.1), cap.held := none, cap.copied := [],
                       mem := s.mem.write captureStaging (data.take 0x28800) }
    if crc32 data ≠ crc ∨ 0x20000 < data.length then partDone p.1 0x0B 0 0 t
    else
      let ea := if bit p.2.p2 0 then p.2.p1 else add32 t.epoch 8
      partDone p.1 0 0 ea { t with boot.staged := some (data.length, crc, level), boot.stagedAt := some ea }

/-- R497, R231: FW_DATA at a member. -/
def execFwData (data : List Byte) (crc level : Nat) (update : Bool) (s : State) : Answer :=
  answer s (if !s.isMember || !s.clk.core then s
    else
      let t := consume (· == .fwData data crc level update) s
      if update then (if t.fwRuns then takeUpdate data crc level t else t) else takeFirmware data crc level t)

/-- A command that updates or resets a member is already running (10 R293). -/
def State.memberBusy (s : State) : Bool :=
  let runs (j : Nat) : Bool := (s.entry j).any (fun e => e.stage == .issued)
  s.arr.fwUpdate.any (fun u => runs u.1) || s.arr.resetMember.any (fun r => runs r.1)

/-- R231: FW_UPDATE_MEMBER: the command and the image go to the member; the image's level is not the manual's to say (log entry 34). -/
def execFwUpdateMember (j : Nat) (img : HostRead) (s : State) : Answer :=
  runCommand 0x51 j (fun e u =>
    if u.memberBusy then finish j 0x04 0 0 0 u
    else if !u.readOk then u
    else match img with
      | .ok b =>
        let b := padTo e.d.p0 b
        let (w, v) := draw u
        let t := setTiles j [e.d.tile] (setWait j .member { v with arr.fwUpdate := some (j, e.d.tile, none) })
        sendMsg 2 e.d.tile (.fwData b (crc32 b) (1 + w.toNat % 65535) true) (forward j e.d.tile e.d t)
      | r => finish j 0x06 0 0 0 (countFailedRead r u)) s

/-- R292: RESET_MEMBER. -/
def execResetMember (j : Nat) (s : State) : Answer :=
  runCommand 0x52 j (fun e u =>
    if u.memberBusy then finish j 0x04 0 0 0 u
    else forward j e.d.tile e.d (setTiles j [e.d.tile] (setWait j .member { u with arr.resetMember := some (j, e.d.tile) }))) s

end Sys2Proof.Machine
end

