-- ==== Sys2Proof/Machine/Boundary.lean ====
section
/-! DEFINITION. The epoch boundary (00 R13, 01 R30, 03 R55 to R92, 08 R252, 16 R430 to R433, 19 R499, R500): what ends, what takes effect,
and the frame that starts. -/

namespace Sys2Proof.Machine

/-! ### The frames before -/

/-- A frame whose stages have not completed by the boundary of N + 2 (01 R30) is discarded, and its report says so; TRK_US of a frame the
tracker never had is open. -/
def overdueFrame (s : State) : State :=
  let f := s.chn.prev
  if f.kind == .none || f.kind == .lineTest || f.merged then s
  else if f.silent then (if f.decoded then s else uncountCal f s)
  else
    let d := draw (discardPrev 4 (uncountCal f (undoTracks s)))
    discardedReport (d.1.toNat % 1024) d.2

/-- Only pins that tripped in the frame that ended keep their count of trips (02 R47, 04 R103). -/
def tripsEnded (s : State) : State :=
  { s with elec.tripRun := s.elec.tripRun.filter (fun r => s.elec.tripThis.contains r.1), elec.tripThis := []
           elec.shRun := s.elec.shRun.filter (fun r => s.elec.shThis.contains r.1), elec.shThis := [] }

/-- The frame that ended, for the line test or calibration it belongs to. -/
def frameEnded (s : State) : State :=
  let t := finishGroups s
  match t.chn.cur.kind with
  | .none => t
  | .lineTest => lineTestFrame t
  | _ => calFrameEnded t.chn.cur t

/-- The epoch counts (00 R13): the first boundary of a timer that starts is epoch 0, or the one after a DORMANT sleep (19 R496, 16 R430). -/
def countEpoch (s : State) : State :=
  if s.chn.counted then { s with epoch := add32 s.epoch 1 } else { s with chn.counted := true }

/-! ### Power at a boundary (16 R430 to R433) -/

/-- A transition is done: source 36; a floor written meanwhile governs (R431). -/
def transitionDone (s : State) : State :=
  latchedFloor (raise 36 { s with pwr.busy := false, pwr.target := s.pwr.state })

/-- No tile of the array holds a track of the classes that count (R432). -/
def State.quiet (s : State) : Bool := !s.contactHere && s.pwr.contactTiles.isEmpty

/-- A power order to the members of an array (R433). -/
def sendPower (st : PState) (epoch : Nat) (s : State) : State :=
  if s.isRoot && s.crl.online.any (· != 0) then broadcast 1 (.power st.code epoch) s else s

/-- ACTIVE is entered from IDLE-SCAN (R444): pending temperature triggers are due (05 R143). -/
def enterActive (s : State) : State :=
  let t := { s with pwr.state := .active, pwr.entryDue := none, pwr.quietUs := 0, pwr.idleUs := 0, pwr.byDrone := false
                    cal.groupDue := if s.cal.tempHeld && !s.calBusy then some false else s.cal.groupDue, cal.tempHeld := false }
  transitionDone (belCount 3 0 (sendPower .active t.epoch t))

/-- IDLE-SCAN is entered from ACTIVE (R440): a group recalibration is abandoned (05 R146). -/
def enterIdle (s : State) : State :=
  let t := if s.cal.kind = .group then abandonCal s else s
  transitionDone (belCount 0 0 { t with pwr.state := .idleScan, pwr.entryDue := none, pwr.quietUs := 0, pwr.idleUs := 0, pwr.byDrone := false })

/-- A descent is ordered (R433): at the next boundary, or the first at least 2 frames on where members follow. -/
def orderEntry (st : PState) (s : State) : State :=
  let e := add32 s.epoch (if s.isRoot && s.crl.online.any (· != 0) then 2 else 1)
  sendPower st e { s with pwr.entryDue := some st, pwr.entryEpoch := e }

/-- The time that counts towards a descent (R432). -/
def countQuiet (us : Nat) (s : State) : State := match s.pwr.state with
  | .active => { s with pwr.quietUs := if s.quiet then s.pwr.quietUs + us else 0 }
  | .idleScan => { s with pwr.idleUs := if s.pwr.wakeMode = 0 && !s.quiet then 0 else s.pwr.idleUs + us }
  | _ => s

/-- Transitions between ACTIVE and IDLE-SCAN at this boundary; a floor that no longer allows a descent ends it; floor 3 orders DORMANT. -/
def powerBoundary (s : State) : State :=
  let now := !later s.pwr.entryEpoch s.epoch
  let t := if s.hostSide && s.pwr.entryDue.any (fun e => decide (s.pwr.floor < e.code)) then { s with pwr.entryDue := none } else s
  let t := match t.pwr.state with
    | .active => if t.pwr.entryDue = some .idleScan ∧ now then enterIdle t else t
    | .idleScan => if (t.pwr.busy ∧ t.pwr.target = .active) ∨ (t.pwr.entryDue = some .active ∧ now) then enterActive t else t
    | _ => t
  if t.hostSide && t.pwr.floor == 3 && !t.pwr.busy && t.pwr.entryDue.isNone then orderEntry .dormant t else t

/-- What core 0 posts once ACTIVE or IDLE-SCAN is reached: WAKE (R439), WAKE_FAIL (R449), and DUAL_MISMATCH when the rings run
(17 R474). -/
def lateEvents (s : State) : State :=
  let t := if s.host.dstate = .d0 ∧ s.rings.act then s.pwr.wakeEvts.foldl (fun u c => postEvent 0x10 c 0 u) s else s
  let t := { t with pwr.wakeEvts := [] }
  let t := if t.pwr.failReport && t.pwr.state == .active && t.ringsOk then
      postEvent 0x11 t.pwr.failStep t.pwr.failAttempts { t with pwr.failReport := false, host.wakeFail := true }
    else t
  if t.sets.mismatchEvt && t.ringsOk then
    let a := leAt t.sets.copyA 0 4
    postEvent 0x12 a (b2n (leAt t.sets.copyB 0 4 != a)) { t with sets.mismatchEvt := false }
  else t

/-! ### The array at a boundary -/

/-- A member off the array joins with the image that the commit it missed has given it (08 R250, 07 R229). -/
def rejoinWith (k : Nat) (s : State) : State :=
  let ea := add32 s.epoch 8
  let reset := (s.arr.rejoins.find? (fun r => r.tile == k)).any (·.reset)
  joinAt k ea reset (sendImage k ea s)

/-- A member taken offline that is on the ring (08 R250) gets the image that applies to it and joins again (07 R229). -/
def dropTile (k : Nat) (s : State) : State :=
  rejoinWith k (sendRoute { s with crl.online := s.crl.online.filter (· != k), pwr.contactTiles := s.pwr.contactTiles.filter (· != k) })

/-- A member joins (07 R229, R230): mask bit, event and ROUTE; the parts of commands that waited for it go out again (10 R303). -/
def joinTile (r : Rejoin) (s : State) : State :=
  let t := { s with arr.rejoins := s.arr.rejoins.filter (fun q => q.tile != r.tile)
                    crl.online := s.crl.online.filter (· != r.tile) ++ [r.tile] }
  let t := sendRoute (postEvent 0x0A (pack [(r.tile, 0), (b2n r.reset, 8)]) 0 t)
  t.jrn.foldl (fun u e =>
    if e.stage == .issued && e.tiles.contains r.tile && ((opInfo e.d.opcode).map (·.idem)).getD false then
      resend e r.tile u
    else u) t

/-- R229: at the first locked epoch after the one named. How the root learns that the member is locked the manual does not say: it is a free
value (log entry 110). -/
def joinLocked (r : Rejoin) (s : State) : State :=
  let d := draw s
  if d.1.getLsbD 0 then joinTile r d.2 else d.2

/-- R208: a MARK is due on a port. Its DELAY, the time from the boundary to the next CB0 in cycles of CLK_LINK, is a free value below a link
cycle's 204.10 ns (157 cycles; log entry 111). -/
def markDue (p : Port) (s : State) : State :=
  if (s.port p).state ≠ 2 then s
  else
    let d := draw s
    d.2.setPort p (fun q => { q with mark := some (s.epoch % 65536, d.1.toNat % 157, 0) })

/-- R208: MARK on both ports in place of the next CB0, then EPOCH. -/
def sendMarks (s : State) : State :=
  if s.crl.up.state ≠ 2 ∧ s.crl.dn.state ≠ 2 then s
  else
    let t := broadcast 1 (.epoch s.epoch) (markDue .dn (markDue .up s))
    let isEpoch (f : CFrame) : Bool := f.msg == .epoch s.epoch
    let hold (q : PortSt) : PortSt :=
      if q.mark.isSome then { q with q1 := q.q1.filter (fun f => !isEpoch f), late := q.late ++ q.q1.filter isEpoch } else q
    (t.setPort .up hold).setPort .dn hold

/-- What the root of an array does. -/
def rootBoundary (s : State) : State :=
  if !s.isRoot || !s.clk.link then s
  else
    let drops := (s.arr.dropAt.filter (fun d => !later d.2 s.epoch)).map (·.1)
    let t := { s with arr.dropAt := s.arr.dropAt.filter (fun d => later d.2 s.epoch) }
    let t := drops.foldl (fun u k => if u.crl.online.contains k then dropTile k u else if u.arr.rejoins.any (fun r => r.tile == k) then
      rejoinWith k u else u) t
    let t := match t.arr.fwUpdate with
      | some u => if u.2.2.any (fun e => !later e t.epoch) && t.crl.online.contains u.2.1 then takeOffline u.2.1 t else t
      | none => t
    let t := (t.arr.ctxWait.filter (fun k => !t.rereads k)).foldl (fun u k => sendContext k { u with arr.ctxWait := u.arr.ctxWait.filter (· != k) }) t
    let t := (t.arr.rejoins.filter (fun r => later t.epoch r.epoch)).foldl (fun u r => joinLocked r u) t
    sendMarks t

/-- The sources that members have told the root of (16 R438; log entry 132): they are the root's to act on. -/
def takeMemberWakes (s : State) : State :=
  let codes := s.crl.inbox.filterMap (fun f => match f.msg with
    | .wake c => some c
    | _ => none)
  if !s.isRoot then s
  else codes.foldl (fun t c => wakeSource c t) (consumeAll (fun m => match m with
    | .wake _ => true
    | _ => false) s)

/-- A member's contact-present bits that came without a report (16 R433); one that turns up in IDLE-SCAN is the CONTACT source of the array
(R438, R433: the root decides). -/
def takeContactBits (s : State) : State :=
  let one (l : List Nat) (f : CFrame) : List Nat := match f.msg with
    | .contactBit b => if b then l.filter (· != f.src) ++ [f.src] else l.filter (· != f.src)
    | _ => l
  if !s.isRoot then s
  else
    let ts := s.crl.inbox.foldl one s.pwr.contactTiles
    let t := consumeAll (fun m => match m with
      | .contactBit _ => true
      | _ => false) { s with pwr.contactTiles := ts }
    if t.pwr.state == .idleScan && t.pwr.wakeMode == 0 && ts.any (fun k => !s.pwr.contactTiles.contains k) then wakeSource 0x11 t else t

/-! ### The boot context (19 R499, R500) -/

/-- The image that is to be the boot context, and the generation before its commit: of the retention memory after a DORMANT sleep
(16 R441), else BOOT_CTX of the settings copy in use (17 R473). -/
def bootImage (s : State) : Option (Nat × List Byte) :=
  let kept := s.mem.read (retBase + 0x800) 0x800
  if s.boot.dormant && leAt kept 0 1 != 0 && !s.pwr.retBad.contains 0x800 then some (add32 (leAt kept 4 4) 0xFFFFFFFF, kept)
  else
    let c := if s.sets.inUse = 0 then s.sets.copyA else if s.sets.inUse = 1 then s.sets.copyB else []
    let img := padTo 0x800 ((c.drop 0x800).take 0x800)
    if leAt img 0 1 = 0 then none else some (0, img)

/-- The members online. -/
def State.members (s : State) : List Nat := (s.crl.online.filter (· != 0)).mergeSort (fun a b => decide (a ≤ b))

/-- The staged boot context is committed to every tile that has it (R500), without a named epoch. One in a slot that is in use by then is not
staged (08 R243); with another COMMIT or SWITCH under way its own fails code 0x88 (08 R244). -/
def bootCommit (n : Nat) (s : State) : State :=
  if !s.commitFree then recordFail (0, 0x88, 0xFFF) s else
  let ms := s.members
  let r := (worstFail (ownFails n false none none s)).getD (0, 0)
  let g : CommitJob := { cmd := none, slot := n, isSwitch := false, set := 0 :: ms, named := none, before := s.slot n,
                         replies := [(0, r.1, r.2)], waiting := ms }
  let t := if s.slot n == .staging then setSlot n .checking s else s
  if ms.isEmpty then decideCommit false g t
  else
    let rate := some (leAt (t.image n) 0x2C0 1)
    ms.foldl (fun u k => sendMsg 1 k (.prepare n false none rate) u) { t with ctx.job := some g }

/-- The boot context is staged here and at every member online. -/
def bootStage (s : State) : State :=
  let t := { s with boot.bootCtxDue := false }
  match bootImage s with
  | none => t
  | some b =>
    let n := leAt b.2 1 1 % 8
    if (t.slot n).held then t
    else
    let t := setSlot n .staging { t with mem := t.mem.write (slotBase n) b.2, ctx.gen := if t.ctx.gen = 0 then b.1 else t.ctx.gen
                                         ctx.bad := t.ctx.bad.filter (· != n) }
    let ms := t.members
    if ms.isEmpty then bootCommit n t
    else
      let d : Desc := { opcode := 0x10, ord := false, dfence := false, rsv := false, tag := 0, tile := 0xFF, a0 := n + 16, a1 := 0,
                        addr := 0, p0 := 0, p1 := 0x800, p2 := 0, p3 := 0 }
      ms.foldl (fun u k => shadowStage d b.2 k (sendMsg 2 k (.ctxData n 0 b.2 0) (forward bootNum k d u))) { t with arr.bootStage := some (n, ms) }

/-- The array stands (19 R498, R499): no probe is out, the firmware has gone, and every member that took it has answered. -/
def State.formed (s : State) : Bool :=
  s.arr.probe.isNone && (decide (s.crl.ntiles ≤ 1) || (s.arr.fwSent && s.arr.wantFw.isEmpty))

/-- The boot context when it is its time; FORMING ends when it, or without one the first context, has applied (R499). -/
def bootContext (s : State) : State :=
  if s.isMember || s.boot.phase != .running then s
  else if s.boot.bootCtxDue then (if !s.isRoot || s.formed then bootStage s else s)
  else match s.arr.bootStage with
    | some b => if b.2.isEmpty then bootCommit b.1 { s with arr.bootStage := none } else s
    | none => if s.arr.forming && s.formed && s.ctx.job.isNone && s.activeSlot.isSome then { s with arr.forming := false } else s

/-! ### The frame that starts -/

/-- Frame length code of the frame that starts (03 R57, 16 R430): the coarse scan of IDLE-SCAN, the context's, or 2.000 ms. -/
def rateNow (s : State) : Nat :=
  if s.pwr.state = .idleScan then 3 else if s.activeSlot.isSome then s.act 0x2C0 1 % 4 else 0

/-- What the frame that starts is for. -/
def kindNow (s : State) : FrameKind :=
  if !s.scans then .none else if s.elec.ltLeft ≠ 0 then .lineTest else calFrameKind (s.sLines (s.activeSlot.getD 0)) s

/-- The line of a pin when it is a drive line of the map in force. -/
def driveLineOf (s : State) (pin : Nat) : Option Nat :=
  let e := s.mapEntry (s.activeSlot.getD 0) pin
  if mapRole e = 1 then some (mapLine e) else none

/-- The frame that starts (03 R55, R58, R68, R90): its header, with cleared status and self areas, and what it carries from before. It is a
warm-up frame as the first one after the AFE domain powered up, under another REED_GAIN than the frame scanned before, or as the settle
frame of a full calibration. -/
def startFrame (s : State) : State :=
  let k := kindNow s
  let rate := rateNow s
  let t := { s with chn.rate := rate, chn.npri := s.chn.pri, chn.nsec := s.chn.sec, chn.latchPassed := false }
  let f : Frame := { epoch := t.epoch, kind := k, us := frameUs rate, faults := t.faultsNow }
  if k == .none then { t with chn.cur := f, chn.seg := 7, chn.step := 0xFF }
  else if k == .lineTest then { t with chn.cur := f, chn.seg := 6, chn.step := 0xFF }
  else
    let settle := t.cal.kind == .full && t.cal.phase == 1
    let p := t.liveParams (t.chn.fresh || settle || t.chn.lastGain != t.act 0x2C2 1)
    let warm := p.warmup
    let t := trimDueNow t
    let e := t.epoch
    let m := ((t.mem.clear (statusBase e) 1024).clear (selfBase e) 1920).write (hdrBase e) (headerBytes e p)
    let group := t.cal.kind == .group && k != .normal
    { t with
      mem := m, chn.fresh := false, chn.lastGain := p.gain, chn.seg := 0, chn.step := 0
      chn.cur := { f with
        dcause := if warm then 3 else 0
        undriven := t.elec.tripped.filterMap (driveLineOf t), selfRep := t.elec.tripped
        selfBad := !t.elec.shTripped.isEmpty || t.elec.shFault
        recalCols := if group then groupChains t.cal.group p.s else [], recal := group } }

/-! ### The boundary -/

/-- The boot line test is due with the first context (02 R50, 19 R500). -/
def bootTest (s : State) : State :=
  if s.activeSlot.isSome && !s.elec.ltBoot && s.elec.ltLeft == 0 then { s with elec.ltPending := true } else s

/-- Line tests and calibrations that may start (02 R50, 05 R119, R146), at the length of the frame that starts. -/
def startDue (s : State) : State :=
  let t := bootTest { s with chn.rate := rateNow s }
  if ltMayStart t && t.scans then startLineTest t else calStart t

/-- The damage noted for the frame that ended: its PARITY events (18 R486); a bank not being read again is whole. -/
def parityBoundary (s : State) : State :=
  let reading := (s.rings.reads ++ s.rings.waitReads).any (fun r => match r with
    | .retained _ t => t == 0
    | _ => false)
  let t := postParities s
  { t with tok.bad := t.tok.bad && reading }

/-- A member that no MARK reached since the boundary before counts it; at four in a row it has lost the ring (01 R25; log entry 106). -/
def markBoundary (s : State) : State :=
  if !s.isMember || !s.crl.enrolled then s
  else
    let s := lastMark s
    let n := if s.crl.best.isSome then 0 else Nat.min 4 (s.crl.noMark + 1)
    { s with crl.noMark := n, chn.discardReports := s.chn.discardReports || n == 4 }

/-- Crook's sets of frames before the one now in processing are forgotten (07 R222). -/
def crookBoundary (s : State) : State :=
  { s with crook.deadline := false, crook.waiting := [], trk.frags := [], crl.best := none, crl.first := none
           crook.sets := s.crook.sets.filter (fun f => f.epoch == add32 s.epoch 0xFFFFFFFF || f.epoch == s.epoch) }

/-- The frame-sync pins pulse at an epoch boundary (17 R471). -/
def syncPulse (s : State) : State :=
  { s with out.syncs := s.out.syncs ++ ((List.range 4).filter (fun i => s.pwr.gpio.getD i 0 == 2)).map (fun i => (i, s.epoch)) }

/-- Everything of an epoch boundary (00 R13). -/
def epochBoundary (s : State) : State :=
  let us := s.chn.cur.us
  let t := countEpoch (parityBoundary (overdueFrame s))
  let t := { t with clk.now := t.clk.now + us }
  let t := frameEnded (tripsEnded t)
  let t := completeHops (takeHop (contextBoundary t))
  let t := countQuiet us (takeContactBits (takeMemberWakes t))
  let t := rootBoundary (powerBoundary t)
  let t := startDue t
  let t := mapDue <| retireDue { t with chn.prev := t.chn.cur }
  let t := crookBoundary (markBoundary (startFrame t))
  let t := purgeRecords (captureAtBoundary (lateEvents (bootContext t)))
  let t := syncPulse (showContact (raise 9 t))
  let t := if t.rings.reads.contains .doorbell then t else pollDoorbell t
  writeStatusPage true t

/-- R13: EPOCH_BOUNDARY, while the frame timer runs in ACTIVE or IDLE-SCAN. At a member with an update to start, the boundary named for
it resets the CORE domain (07 R231). -/
def execEpochBoundary (s : State) : Answer :=
  answer s (if !s.clk.core || !s.clk.afe || !s.chn.timer || s.pwr.limp || !(s.pwr.state == .active || s.pwr.state == .idleScan) then s
    else
      let t := epochBoundary s
      match t.boot.stagedAt with
      | some e => if later e t.epoch then t else memberReset true t
      | none => t)

end Sys2Proof.Machine
end

