-- ==== Sys2Proof/Machine/Power.lean ====
section
/-! DEFINITION. Power states (16 R430 to R449): descents, entries with their refusals and the save list, the Drone sequencer, wake sources,
and exits. -/

namespace Sys2Proof.Machine

/-! ### Descents (R432, R433) -/

/-- R432: IDLE_T seconds of quiet frames have passed in ACTIVE. -/
def execIdleTimeout (s : State) : Answer :=
  answer s (if s.hostSide && s.fwRuns && s.pwr.state == .active && !s.pwr.busy && s.pwr.entryDue.isNone && s.pwr.idleT != 0 &&
      (s.pwr.floor == 1 || s.pwr.floor == 2) && decide (1000000 * s.pwr.idleT ≤ s.pwr.quietUs) then orderEntry .idleScan s else s)

/-- R432: DRONE_T seconds, or GESTURE_T tenths after a Drone trigger, have passed in IDLE-SCAN; a gesture window without a wake is
counted. -/
def execDroneTimeout (s : State) : Answer :=
  answer s (if s.hostSide && s.fwRuns && s.pwr.state == .idleScan && !s.pwr.busy && s.pwr.entryDue.isNone && s.pwr.floor == 2 &&
      decide ((if s.pwr.byDrone then 100000 * s.pwr.gestureT else 1000000 * s.pwr.droneT) ≤ s.pwr.idleUs) then
    orderEntry .drone (if s.pwr.byDrone && !s.pwr.wakeSinceDrone then belCount 19 0 s else s)
  else s)

/-- R433: a member receives the root's order. -/
def execPowerMessage (state epoch : Nat) (s : State) : Answer :=
  answer s (if !s.isMember || !s.clk.link || 4 ≤ state then s
    else
      let t := consume (· == .power state epoch) s
      if pstateOf state = t.pwr.state then { t with pwr.entryDue := none }
      else { t with pwr.entryDue := some (pstateOf state), pwr.entryEpoch := epoch % 2 ^ 32 })

/-! ### Refusals (R442) -/

/-- Core 0 firmware has work that a sleep would break. -/
def firmwareBusy (st : PState) (s : State) : Bool :=
  s.jrn.any (fun e => match e.stage with
    | .issued => (match e.wait with
      | .boundary _ => false
      | _ => true)
    | .applied => true
    | _ => false) || s.arr.fwUpdate.isSome || s.arr.resetMember.isSome || (st == .dormant && s.pendingSlot.isSome)

/-- Frames of class 1 or 2 are held for a neighbour. -/
def linkBusy (s : State) : Bool :=
  s.clk.link && [s.crl.up, s.crl.dn].any (fun q => q.held.any (fun h => decide (1 ≤ h.1.cls)) || !q.q1.isEmpty || !q.q2.isEmpty)

/-- The refusals of an entry to `st`: controller (0 CORE, 1 AFE, 2 LINK, 3 HOST) and refuser, the lowest of each controller. -/
def refusals (st : PState) (s : State) : List (Nat × Nat) :=
  let core : List (Nat × Nat) :=
    (if firmwareBusy st s then [(0, 0x01)] else []) ++ (if s.twc.busy then [(0, 0x05)] else []) ++
    (if s.pwr.hold || (st == .drone && decide (380 < s.cal.tnow)) then [(0, 0x0F)] else [])
  core.take 1 ++
  (if s.cal.kind == .full || s.cal.fullDue.isSome || s.ltBusy then [(1, 0x02)] else []) ++
  (if linkBusy s then [(2, 0x04)] else []) ++
  (if s.hostSide && (s.rings.draining || s.hdma.busy || s.hdma.pbusy || !s.rpt.hold.isEmpty || (s.rings.act && !s.rpt.due.isEmpty)) then
    [(3, 0x03)] else [])

/-- A refusal is counted; the attempt is repeated in 100 ms. -/
def refuse (r : Nat × Nat) (s : State) : State := raise 38 (belCount (4 + r.1) r.2 { s with pwr.refused := true })

/-! ### Entry (R440, R441) -/

/-- The items of the save list that the LINK domain loses. -/
def saveLink (s : State) : State :=
  let link := leBytes 1 s.crl.tile ++ leBytes 1 s.crl.ntiles ++ leBytes 2 (b2n s.crl.enrolled) ++ leBytes 2 s.crl.up.hopLat ++
    leBytes 2 s.crl.dn.hopLat
  { s with mem := s.mem.write (retBase + 0xD0) link, pwr.retBad := s.pwr.retBad.filter (· != 0xD0) }

/-- The items of the save list that the AFE and LINK domains lose. -/
def saveList (s : State) : State :=
  let codes := (List.range 160).flatMap (fun i => leBytes 1 (s.codeOf (2 * i) + 16 * s.codeOf (2 * i + 1)))
  let temps := (List.range 16).flatMap (fun i => leBytes 2 (tc 16 (s.cal.temps.getD i 0)))
  let afe := codes ++ leBytes 8 (b2n s.elec.shFault) ++ temps ++ leBytes 2 (tc 16 s.cal.tcal) ++ leBytes 6 s.cal.temps.length
  saveLink { s with mem := s.mem.write retBase afe, pwr.retBad := s.pwr.retBad.filter (fun o => o != 0 && o != 0xA8) }

/-- A running Mute job is aborted as a block boundary comes, a CAPTURE's too; core 0 takes it up after the wake (11 R336). -/
def pauseMute (s : State) : State :=
  if s.mute.busy then muteStop 6 { s with mute.paused := true, mute.resumeCmd := s.mute.forCmd, mute.forCmd := none } else s

/-- Steps 2 and 3 of R440: scanning stops, tracks retire without a report and keep the open counter, a GPIO pin that shows them goes low (17 R471), calibrations of groups end. -/
def lastFrame (s : State) : State :=
  let n := s.trk.openCtr
  let t := retireSilently (if s.cal.kind = .group then abandonCal s else s)
  pauseMute { t with trk.openCtr := n, chn.cur := {}, chn.seg := 7, chn.step := 0xFF, pwr.gpioOut := List.replicate 4 false }

/-- The Drone sequencer at DRONE entry (R435 to R437). Where no context is ACTIVE (limp mode after a failed DORMANT exit), k_d is some slot
of 2 to 6: a free value (DESIGN CHOICE, log entry 133). -/
def startDrone (s : State) : State :=
  let (w, t) := if s.activeSlot.isSome then (0, s) else draw s
  { t with drone := {
      slot := if s.activeSlot.isSome then s.act 0x2C4 1 else 2 + w.toNat % 5, gang := s.drone.gang, dd := s.drone.dd
      pairs := (List.range 8).flatMap (fun g => (List.range 5).map (fun i => s.pair g (i + 2)))
      fd := (List.range 8).map (fun g => (55 * s.mem.le (scaleRam + 4 * g) 2 + 8) / 16) } }

/-- LINK is off. -/
def linkOff (s : State) : State := { s with clk.link := false, crl.up.state := 0, crl.dn.state := 0 }

/-- A wake latched during the entry is replayed (R443). -/
def replayWake (s : State) : State :=
  match s.pwr.latched with
  | some c => actOnWake c { s with pwr.latched := none }
  | none => s

/-- DRONE is entered: LINK and AFE are off, the CORE clocks stop. -/
def enterDrone (s : State) : State :=
  let t := loseTrim (linkOff (startDrone (saveList (lastFrame s))))
  let t := { t with clk.core := false, clk.afe := false, clk.pllLock := false, pwr.state := .drone, pwr.entryDue := none, pwr.refused := false
                    pwr.wakeSinceDrone := false }
  replayWake (belCount 1 0 (transitionDone (sendLtr t)))

/-- DORMANT is entered: core 0 writes its items, then CORE, AFE, LINK and HOST lose what they hold (R440, R441). -/
def enterDormant (s : State) : State :=
  let t := saveList (lastFrame s)
  let img := match t.activeSlot with
    | some n => t.image n
    | none => zeros 0x800
  let m := (t.mem.write (retBase + 0xE0) (leBytes 4 t.epoch)).write (retBase + 0x800) img
  let t := belCount 2 0 { t with mem := m, pwr.retBad := t.pwr.retBad.filter (fun o => o != 0xE0 && o != 0x800) }
  let host := if t.hostSide then { hostDomainReset t with host.dstate := .d3cold, host.perst := t.host.perst } else t
  let t := loseTrim (linkDomainReset (linkOff (afeDomainReset (coreDomainReset host))))
  replayWake <| latchedFloor { t with
                      clk.core := false, clk.afe := false, clk.host := false, clk.pllLock := false, clk.xtalOk := false, clk.limpClk := false
                      pwr.state := .dormant, pwr.target := .dormant, pwr.busy := false, pwr.limp := false, pwr.awaitL2 := false
                      pwr.entryDue := none, pwr.refused := false, drone.slot := 0, drone.pcnt := 0, drone.base := false }

/-- The frame last scanned has been processed (R440 step 2). -/
def State.framesDone (s : State) : Bool :=
  let f := s.chn.prev
  f.kind == .none || f.kind == .lineTest || f.merged || (f.decoded && f.silent)

/-- An entry to `st` is attempted (R440). For DORMANT the PCIe controller quiesces only with L2/L3 Ready or `PERST#` (R442, 0x06), which
the device then waits for. -/
def attemptEntry (st : PState) (s : State) : State :=
  let rs := refusals st s
  if !rs.isEmpty then rs.foldl (fun t r => refuse r t) s
  else match st with
    | .drone => enterDrone s
    | .dormant =>
      if s.hostSide && !s.host.perst && s.host.link != .l2l3 then { s with pwr.awaitL2 := true, pwr.busy := true, pwr.target := .dormant }
      else enterDormant s
    | _ => s

/-- The deep state whose entry is due now. -/
def State.entryNow (s : State) : Option PState :=
  match s.pwr.entryDue with
  | some st =>
    if decide (st.code ≤ s.pwr.state.code) || decide (st.code < 2) || later s.pwr.entryEpoch s.epoch || s.pwr.busy || !s.framesDone then none
    else some st
  | none => none

/-- R440: POWER_ENTRY. -/
def execPowerEntry (s : State) : Answer :=
  answer s (match s.entryNow with
    | some st => if s.pwr.refused then s else attemptEntry st s
    | none => s)

/-- R442: a block neither refuses nor quiesces within 1 ms: nothing has changed in the end, and the abort is counted. -/
def execEntryAbort (controller block : Nat) (s : State) : Answer :=
  answer s (match s.entryNow with
    | some _ => if 4 ≤ controller ∨ s.pwr.refused then s
        else raise 38 (belCount (8 + controller) (block % 256) { s with pwr.entryDue := none })
    | none => s)

/-- R442: 100 ms after a refusal. -/
def execEntryRetry (s : State) : Answer :=
  answer s (if !s.pwr.refused then s
    else
      let t := { s with pwr.refused := false }
      match t.entryNow with
      | some st => if t.hostSide && decide (t.pwr.floor < st.code) then { t with pwr.entryDue := none } else attemptEntry st t
      | none => t)

/-- A DORMANT entry whose PCIe controller has quiesced: the others are asked again, since a slot may have become PENDING meanwhile (R442,
08 R254). -/
def dormantReady (s : State) : State :=
  let rs := refusals .dormant s
  if rs.isEmpty then enterDormant s
  else replayWake (transitionDone (rs.foldl (fun t r => refuse r t) { s with pwr.awaitL2 := false, pwr.busy := false }))

/-- R440: the link reaches L2/L3 Ready. -/
def execL2l3Ready (s : State) : Answer :=
  answer s (if !s.hostSide || !s.clk.host then s
    else
      let t := { s with host.link := .l2l3 }
      if t.pwr.awaitL2 then dormantReady t else t)

/-- R442: neither came within 100 ms: the PCIe controller refuses. -/
def execL2l3ReadyTimeout (s : State) : Answer :=
  answer s (if s.pwr.awaitL2 then replayWake (transitionDone (refuse (3, 0x06) { s with pwr.awaitL2 := false, pwr.busy := false })) else s)

/-- R265, R425: `PERST#` low on a standalone device or a root; a DORMANT entry that waited for it goes on (R440). -/
def execPerstAssert (s : State) : Answer :=
  answer s (if !s.hostSide then s
    else
      let t := hostDomainReset { s with host.perst := true, clk.rstPerst := true }
      let t := { t with host.perst := true }
      if t.pwr.awaitL2 then dormantReady t else t)

/-! ### Wake sources (R438, R439) -/

/-- R439: Bellows takes a source that is on its way. -/
def execWakeRecord (code : Nat) (s : State) : Answer := answer s (if s.pwr.wakeDue.contains code then takeWake code s else s)

/-- R438: a beacon arrives while LINK is off: it sets out for Bellows, and a device that wakes on it forwards it on its other port. -/
def execWakeBeacon (port : Port) (s : State) : Answer :=
  answer s (if s.boot.role = .standalone ∨ s.boot.role = .test ∨ s.clk.link then s
    else wakeSource 0x40 { s with pwr.beaconPort := if s.pwr.wakeDue.contains 0x40 then s.pwr.beaconPort else some port })

/-- R423: a rising edge on a wake input is latched, raises GPIOn and sets out for Bellows. -/
def execGpioWakeEdge (pin : Fin 4) (s : State) : Answer :=
  answer s (if s.pwr.gpio.getD pin.val 0 ≠ 1 then s
    else wakeSource (0x30 + pin.val) (raise (42 + pin.val) { s with pwr.gpioEdge := s.pwr.gpioEdge.set pin.val true }))

/-! ### Drone bursts (R434 to R437) -/

/-- The Drone period in µs (R450). -/
def droneUs (r : Nat) : Nat := if r = 0 then 200000 else if r = 1 then 100000 else if r = 2 then 50000 else 25000

/-- The correction pair of Reed `g` in the burst: in limp mode a fixed one (R448). -/
def dronePair (s : State) (g : Nat) : Int × Int :=
  if s.pwr.limp then (16384, 0) else s.drone.pairs.getD (5 * g + s.drone.slot - 2) (0, 0)

/-- The value of gang `g` (R435). -/
def gangValue (s : State) (x : List (List (List Int))) (g : Nat) : Int :=
  let ys := (List.range 8).map (fun j => stepValue (mixIQ s.drone.slot ((x.getD (j + 1) []).getD g [])) (dronePair s g))
  satI 24 (asr (ys.foldl (· + ·) 0 * (s.drone.fd.getD g 0 : Nat) + 524288) 20)

/-- The noise of the burst (R435). -/
def droneNoise (s : State) (x : List (List (List Int))) : Nat :=
  let ls := (List.range 2).flatMap (fun j => (List.range 8).map (fun g => magnitude (mixIQ s.drone.slot ((x.getD (j + 9) []).getD g []))))
  ls.foldl (· + ·) 0 / 16

/-- The baseline of a gang after a burst without noise (R436): value and the run of bursts far below. -/
def droneBase (on shift : Nat) (gv dd db : Int) (run : Nat) : Int × Nat :=
  let r := if dd ≤ -(on : Int) then run + 1 else 0
  if 2 * dd.natAbs < on then (db + asr (256 * gv - db + (2 ^ (shift - 1) : Nat)) shift, r)
  else if 4 ≤ r then (256 * gv, 0) else (db, r)

/-- The next slot of HOP_MASK above `k`, wrapping (R437). -/
def nextSlot (mask k : Nat) : Nat :=
  let ks := ((List.range 5).map (· + 2)).filter (fun i => bit mask (i - 2))
  match ks.find? (fun i => decide (k < i)) with
  | some i => i
  | none => ks.headD k

/-- The gang with the largest DD, the lowest on a tie. -/
def bestGang (dd : List Int) : Nat := (List.range 8).foldl (fun b g => if dd.getD b 0 < dd.getD g 0 then g else b) 0

/-- Four noisy bursts move k_d on, and the baselines form afresh (R437). -/
def noisyBurst (s : State) : State :=
  if s.drone.noisyRun + 1 < 4 then { s with drone.noisyRun := s.drone.noisyRun + 1 }
  else { s with drone.noisyRun := 0, drone.slot := nextSlot (s.act 0x2C7 1) s.drone.slot, drone.pcnt := 0, drone.base := false
                drone.formed := 0, drone.acc := List.replicate 8 0, drone.negRun := List.replicate 8 0 }

/-- A burst while the baselines form: no trigger (R436). -/
def formBurst (gv : List Int) (s : State) : State :=
  let acc := List.zipWith (· + ·) s.drone.acc gv
  let n := s.drone.formed + 1
  if n < 4 then { s with drone.acc := acc, drone.formed := n }
  else { s with drone.acc := acc, drone.formed := n, drone.base := true, drone.db := acc.map (fun a => 64 * a) }

/-- A burst without noise on formed baselines: the baselines, the persistence count, and the trigger (R436, R437). -/
def quietBurst (gv dd : List Int) (s : State) : State :=
  let on := s.pwr.on
  let r := (List.range 8).map (fun g => droneBase on s.pwr.shift (gv.getD g 0) (dd.getD g 0) (s.drone.db.getD g 0) (s.drone.negRun.getD g 0))
  let active := dd.any (fun d => decide ((on : Int) ≤ d))
  let n := if active then Nat.min 15 (s.drone.pcnt + 1) else 0
  let t := { s with drone.db := r.map (·.1), drone.negRun := r.map (·.2), drone.pcnt := n }
  if s.drone.pcnt < s.pwr.persist ∧ s.pwr.persist ≤ n then
    wakeSource 0x10 (belCount 18 0 { t with drone.gang := bestGang dd })
  else t

/-- What a burst measures (R435 to R437). -/
def measureBurst (x : List (List (List Int))) (s : State) : State :=
  let gv := (List.range 8).map (gangValue s x)
  let nz := droneNoise s x
  let dd := (List.zip gv s.drone.db).map (fun p => p.1 - asr (p.2 + 128) 8)
  let t := { s with drone.dd := dd }
  let noisy := decide (s.pwr.noise ≤ nz)
  let t := if !s.drone.base then formBurst gv t else if noisy then t else quietBurst gv dd t
  if noisy then noisyBurst t else { t with drone.noisyRun := 0 }

/-- R435: a Drone period boundary: the epoch counts (R430), a context whose E_a comes becomes ACTIVE (08 R254), the doorbell is polled,
and the gangs are measured: `x` holds the samples of 11 steps and Reeds 0 to 7. Floor 3 takes a sleeping device on to DORMANT. -/
def execDroneBurst (x : List (List (List Int))) (s : State) : Answer :=
  let x := x.map (fun w => w.map (fun v => v.map adcSample))
  answer s (if s.pwr.state ≠ .drone || s.pwr.busy then s
    else
      let t := { s with epoch := add32 s.epoch 1, clk.now := s.clk.now + droneUs s.pwr.rate, pwr.attempts := 0, pwr.attemptStep := 0 }
      let t := measureBurst x (contextBoundary t)
      let t := if t.hostSide && t.pwr.floor == 3 && t.pwr.entryDue.isNone then orderEntry .dormant t else t
      if t.rings.reads.contains .doorbell then t else pollDoorbell t)

/-! ### Exits (R444, R447) -/

/-- The AFE domain powers up from its reset, and its items of the save list come back (R441); the self and water state starts afresh
(04 R117). Damaged items count as absent (18 R482). The frame timer starts where firmware goes on (`timer`). -/
def restoreAfe (timer : Bool) (s : State) : State :=
  let f (o n : Nat) : Nat := s.mem.le (retBase + o) n
  let t := afeDomainReset s
  let t := { t with chn.timer := timer, chn.counted := timer, elec.refRec := s.elec.refRec, elec.ltBoot := s.elec.ltBoot, elec.satEvt := s.elec.satEvt
                    trk.wet := false, trk.dryCnt := 0, trk.hoverCand := 0, trk.hoverUp := false, host.tpeak := s.host.tpeak
                    chn.pri := s.act 0x2C4 1, chn.sec := s.act 0x2C5 1, chn.npri := s.act 0x2C4 1, chn.nsec := s.act 0x2C5 1 }
  let t := if s.pwr.retBad.contains 0 then { t with elec.ltPending := true, elec.code := switchedCodes s }
    else { t with elec.code := (List.range 320).map (fun n => f (n / 2) 1 / 16 ^ (n % 2) % 16), elec.shFault := bit (f 0xA0 1) 0 }
  if s.pwr.retBad.contains 0xA8 then t
  else
    let temps := (List.range (Nat.min 16 (f 0xCA 6))).map (fun i => sext 16 (f (0xA8 + 2 * i) 2))
    { t with cal.temps := temps, cal.tcal := sext 16 (f 0xC8 2), cal.tnow := meanTemp temps }
where
  /-- The codes that the map alone gives, before a line test (02 R37, R50). -/
  switchedCodes (s : State) : List Nat :=
    let m := s.activeMap
    (List.range 320).map (fun n =>
      let e := m.getD n 0
      if mapRole e = 0 ∨ mapRole e = 3 then 0xF else if mapExcl e then 7 else 0)

/-- LINK's items of the save list as the retention memory has them; damaged ones count as absent (R441, 18 R482). -/
def linkItems (s : State) : State :=
  let f (o n : Nat) : Nat := s.mem.le (retBase + o) n
  if s.pwr.retBad.contains 0xD0 || s.boot.role == .standalone || s.boot.role == .test then s
  else { s with crl.tile := f 0xD0 1, crl.ntiles := f 0xD1 1, crl.enrolled := bit (f 0xD2 1) 0, crl.up.hopLat := f 0xD4 2, crl.dn.hopLat := f 0xD6 2 }

/-- The LINK domain powers up with its items of the save list, and its ports train (R441, 07 R197). What firmware keeps of the ring in
CORE stays. -/
def restoreLink (s : State) : State :=
  if s.boot.role = .standalone ∨ s.boot.role = .test then s
  else
    let c := s.crl
    linkItems { s with
      clk.link := true
      crl := { up := { state := 1 }, dn := { state := 1 }, ntiles := if s.isRoot then 1 else 0
               dirs := c.dirs, routed := c.routed, ring := c.ring, cut := c.cut, wrapOff := c.wrapOff, online := c.online, accepted := c.accepted
               msgNum := c.msgNum, inbox := c.inbox, retained := true, lent := c.lent, own := c.own, seamsOff := c.seamsOff
               map := c.map, openRing := c.openRing } }

/-- The paused Mute job goes on with a fresh set of registers (11 R334, R336). -/
def resumeMute (s : State) : State :=
  if !s.mute.paused then s
  else
    let j := s.mute.job
    let done := (s.mute.before.1 + s.mute.cons, s.mute.before.2 + s.mute.prod)
    muteGo { j with src := j.src + s.mute.cons, dst := j.dst + s.mute.prod, ilen := j.ilen - s.mute.cons, olen := j.olen - s.mute.prod
                    bidx0 := j.bidx0 + s.mute.cons / 128 } s.mute.resumeCmd s.mute.haddr done
      { s with mute.paused := false, mute.resumeCmd := none }

/-- The sources taken during an exit act when it is complete (R443). -/
def replayDuring (s : State) : State := s.pwr.during.foldl (fun t c => actOnWake c t) { s with pwr.during := [] }

/-- HOST is on in every state but DORMANT (01 R17): an exit that finds it off powers it. -/
def hostPower (s : State) : State := if s.hostSide && !s.clk.host then hostReleased { s with clk.host := true } else s

/-- A member tells the root which source woke it (R438; log entry 132). -/
def tellRoot (s : State) : State := match s.pwr.tellRoot with
  | some c => sendMsg 1 0 (.wake c) { s with pwr.tellRoot := none }
  | none => s

/-- The exit from DRONE (R444), or from limp mode (R449), to `st`: CORE clocks run, held edges arrive, AFE, where it is off, LINK and HOST power
up, and trim RAM is due from the shadow (05 R125); the first frame is a warm-up frame and the 10 % test follows (05 R138). -/
def wakeUp (st : PState) (s : State) : State :=
  let t := { s with clk.core := true, clk.afe := true, clk.pllLock := true, clk.limpClk := false, pwr.limp := false, pwr.hold := false
                    pwr.attempts := 0, pwr.attemptStep := 0 }
  let t := releaseEdges t
  let t := if s.clk.afe then { t with chn.timer := s.fwRuns, chn.counted := s.fwRuns, chn.fresh := true } else restoreAfe true t
  let t := tellRoot (restoreLink (hostPower t))
  let t := { t with cal.guard := true, cal.trimDue := true, trk.resync := true, drone.slot := 0, drone.pcnt := 0, drone.base := false, pwr.state := st
                    pwr.idleUs := 0, pwr.quietUs := 0
                    cal.groupDue := if st == .active && t.cal.tempHeld && !t.calBusy then some false else t.cal.groupDue
                    cal.tempHeld := t.cal.tempHeld && st != .active }
  let t := belCount (if st = .active then 3 else 0) 0 (sendLtr t)
  replayDuring (resumeMute (transitionDone (if st = .active then sendPower .active t.epoch t else t)))

/-- The exit from DORMANT: every domain leaves reset, with the items of the save list, the PCI Express link trains unless `PERST#` is low (09
R264), and core 0 boots; the epoch goes on from its saved value (R430, R441). -/
def wakeDormant (s : State) : State :=
  let e := if s.pwr.retBad.contains 0xE0 then 0 else add32 (s.mem.le (retBase + 0xE0) 4) 1
  let t := clocksUp { s with pwr.floor := 0 }
  let t := linkItems (linkDomainReset (restoreAfe false t))
  let t := hostPower (leaveCoreReset t)
  replayDuring (belCount 3 0 (transitionDone { t with epoch := e, boot.dormant := true, trk.resync := true }))

/-- Limp mode (R448): the limp clock drives CORE and AFE, which powers up where it was off, LINK is off, HOLD is set, the Drone sequencer runs,
the failure is recorded and `ALERT#` driven. A floor latched by the transition that failed governs (R431). -/
def enterLimp (step attempts : Nat) (s : State) : State :=
  let t := if s.clk.link then saveLink s else s
  let t := if t.clk.afe then t else restoreAfe false t
  let t := { linkOff t with
    clk.limpClk := true, clk.pllLock := false, clk.core := true, clk.afe := true
    pwr.limp := true, pwr.hold := true, pwr.state := .drone, pwr.busy := false, pwr.target := .drone, pwr.latched := none, pwr.during := []
    pwr.tellRoot := none, pwr.beaconPort := none, pwr.failStep := step, pwr.failAttempts := attempts, pwr.failReport := true, pwr.attempts := 0 }
  let t := if t.drone.slot == 0 then startDrone t else t
  let t := { t with mem := t.mem.putLe (retBase + 0x100) 4 (step + 4 * attempts) }
  setAlert 0 (belCount 17 0 (latchedFloor t))

/-- Failed attempts of a step so far (R447). -/
def State.tried (s : State) (step fails : Nat) : Nat := (if s.pwr.attemptStep = step then s.pwr.attempts else 0) + fails

/-- A step that never became ready puts the device in limp mode (R447, R448); from DORMANT core 0 has yet to boot. -/
def failExit (step : Nat) (s : State) : State :=
  let t := enterLimp step 4 { s with pwr.attemptStep := 0 }
  if s.pwr.state = .dormant then
    let e := if s.pwr.retBad.contains 0xE0 then 0 else add32 (s.mem.le (retBase + 0xE0) 4) 1
    leaveCoreReset { t with epoch := e, boot.dormant := true, trk.resync := true, pwr.floor := 0 }
  else releaseEdges t

/-- R444, R447: the exit that a wake source began, with the failed attempts of its steps. -/
def execPowerExit (fails : StepFails) (s : State) : Answer :=
  answer s (if !s.pwr.busy || decide (s.pwr.state.code ≤ s.pwr.target.code) || s.pwr.state == .idleScan then s
    else
      let t := countAttempts 14 fails.ldo s
      if 4 ≤ s.tried 1 fails.ldo then failExit 1 t
      else
        let cold := s.pwr.state == .dormant
        let t := if cold then countAttempts 15 fails.xtal t else t
        if cold && decide (4 ≤ s.tried 2 fails.xtal) then failExit 2 t
        else
          let t := if cold then { t with clk.xtalOk := true } else t
          let t := countAttempts 16 fails.pll t
          if 4 ≤ s.tried 3 fails.pll then failExit 3 t
          else if cold then wakeDormant t else wakeUp s.pwr.target t)

/-- R447: a step of an exit, or the PLL of a Drone burst, misses its limit: counted and retried; the fourth time limp mode is entered.
Steps: 1 LDO, 2 crystal (when leaving DORMANT), 3 PLL. -/
def execWakeStepTimeout (step : Nat) (s : State) : Answer :=
  answer s (
    let exiting := s.pwr.busy && decide (s.pwr.target.code < s.pwr.state.code) && s.pwr.state != .idleScan
    let burst := s.pwr.state == .drone && !s.pwr.busy && !s.pwr.limp && step == 3
    let timed := burst || (exiting && (step == 1 || step == 3 || (step == 2 && s.pwr.state == .dormant)))
    if !timed then s
    else
      let n := s.tried step 1
      let t := belCount (13 + step) 0 { s with pwr.attempts := n, pwr.attemptStep := step }
      if 4 ≤ n then failExit step t else t)

/-! ### Faults of the clocks and the supply (15 R414, R446) -/

/-- R414: loss of PLL lock in service: counted, the domains restart, the PLL relocks under the retry rule of 16 R447. -/
def execPllUnlock (fails : StepFails) (s : State) : Answer :=
  answer s (if !s.clk.pllLock then s
    else
      let t := countAttempts 16 fails.pll { s with clk.unlock := cnt 8 s.clk.unlock 1, clk.rstUnlock := true }
      let u := tileReset t
      if 4 ≤ fails.pll then enterLimp 3 4 u else u)

/-- R446: the CORE supply browns out in low-power mode: CORE resets, COREBO is counted, BROWNOUT raised, the LDO returns to full mode,
AFE and LINK power up with their items of the save list (R441), core 0 boots, and the device enters IDLE-SCAN. In limp mode, which HOLD keeps,
the clocks stay as they are. -/
def execCoreBrownout (s : State) : Answer :=
  answer s (if s.pwr.state ≠ .drone then s
    else
      let t := belCount 13 0 { s with clk.rstCoreBo := true }
      let t := takeWake 0x50 t
      if t.pwr.limp then leaveCoreReset (coreDomainReset t) else
      let t := restoreAfe false (coreDomainReset t)
      let t := latchedFloor { t with
        pwr.busy := false, pwr.state := .idleScan, pwr.target := .idleScan, pwr.latched := none, pwr.awaitL2 := false, pwr.during := []
        pwr.tellRoot := none, pwr.beaconPort := none, pwr.entryDue := none, pwr.entryEpoch := 0, pwr.refused := false, pwr.idleUs := 0, pwr.quietUs := 0
        pwr.attempts := 0, pwr.byDrone := false, drone.slot := 0, drone.pcnt := 0, drone.base := false
        clk.pllLock := true, clk.afe := true, clk.link := !(t.boot.role == .standalone) && !(t.boot.role == .test) }
      leaveCoreReset (linkItems (linkDomainReset (belCount 0 0 (sendLtr t)))))

end Sys2Proof.Machine
end

