-- ==== Sys2Proof/Machine/Settings.lean ====
section
/-! DEFINITION. Settings memory (17 R469 to R475): the header, the two settings copies, the choice between them, and SETTINGS_WRITE. -/

namespace Sys2Proof.Machine

/-! ### The header (R470) -/

/-- Coded length of a firmware area that is present, and the end of each area within the memory, in the order of the table. -/
def hdrAreas (h : List Byte) : List (Nat × Nat) :=
  let fw := leAt h 0x08 4
  let app := leAt h 0x18 4
  let refs := leAt h 0x28 8
  let nref := ((List.range 64).filter (fun i => bit refs i)).length
  (if fw = 0 then [] else [(0x8000, fw)]) ++ (if app = 0 then [] else [(app, leAt h 0x1C 4)]) ++
  (if nref = 0 then [] else [(leAt h 0x20 4, 25600 * nref)])

/-- Areas that follow one another without overlap from offset `o` on, within `size` bytes. -/
def areasFit (size : Nat) : Nat → List (Nat × Nat) → Bool
  | o, [] => decide (o ≤ size)
  | o, a :: as => decide (o ≤ a.1) && areasFit size (a.1 + a.2) as

/-- The header is accepted (HDROK). The fixed areas end at 0x8000. -/
def headerOk (h : List Byte) : Bool :=
  let size := leAt h 6 1
  leAt h 0 4 == 0x4D534B54 && leAt h 4 2 == 1 && leAt h 0xFC 4 == crc32 (h.take 0xFC) && decide (1 ≤ size ∧ size ≤ 4) &&
  decide (leAt h 8 4 ≤ 98304) && areasFit (65536 * size) 0x8000 (hdrAreas h)

/-! ### Copies (R473, R474) -/

/-- A copy is intact. -/
def copyIntact (c : List Byte) : Bool := leAt c 4 1 == 1 && leAt c 0x1FFC 4 == crc32 (c.take 0x1FFC)

/-- A field within its range, else its default. -/
def ranged (lo hi dflt v : Nat) : Nat := if lo ≤ v ∧ v ≤ hi then v else dflt

/-- The power fields of a copy, as core 0 writes them into Bellows (16 R450). -/
def applyPower (c : List Byte) (s : State) : State :=
  { s with
    pwr.idleT := leAt c 0x10 1
    pwr.droneT := ranged 1 255 60 (leAt c 0x11 1)
    pwr.gestureT := ranged 5 255 20 (leAt c 0x12 1)
    pwr.wakeMode := leAt c 0x13 1 % 2
    pwr.rate := leAt c 0x14 1 % 4
    pwr.persist := ranged 1 15 2 (leAt c 0x15 1 % 16)
    pwr.shift := ranged 2 12 6 (leAt c 0x16 1 % 16)
    pwr.on := ranged 8 4095 96 (leAt c 0x18 2 % 4096)
    pwr.noise := ranged 1 16777215 4000 (leAt c 0x1C 3)
    pwr.wakeEn := leAt c 0x20 2 % 16384
    pwr.wakeHost := leAt c 0x22 2 % 16384 }

/-- The TWM fields of a copy. -/
def applyTwm (c : List Byte) (s : State) : State :=
  { s with twm.slope := leAt c 0x30 1 % 4, twm.alertEn := leAt c 0x31 1 % 32 }

/-- The bytes of a copy at their defaults, as far as fields read them. -/
def defaultCopy : List Byte :=
  zeros 0x10 ++ [30, 60, 20, 0, 2, 2, 6, 0, 96, 0, 0, 0, 0xA0, 0x0F, 0, 0, 0xFF, 0x3F, 0xF0, 0x2F] ++ zeros 12 ++ [1, 0x1F, 1]

/-- The copy in use, or the defaults. -/
def copyInUse (s : State) : List Byte :=
  if s.sets.inUse = 0 then s.sets.copyA else if s.sets.inUse = 1 then s.sets.copyB else defaultCopy

/-- R474: the copy to use, by the first row that applies: copy in use, target, mismatch. -/
def chooseCopy (a b : List Byte) : Nat × Option Nat × Bool :=
  let ia := copyIntact a
  let ib := copyIntact b
  let sa := leAt a 0 4
  let sb := leAt b 0 4
  if !ia && !ib then (2, some 0, false)
  else if !ib then (0, some 1, false)
  else if !ia then (1, some 0, false)
  else if later sa sb then (0, some 1, false)
  else if later sb sa then (1, some 0, false)
  else if (a.take 0x1FFC).drop 4 = (b.take 0x1FFC).drop 4 then (0, some 1, false)
  else (0, none, true)

/-- Both copies have been read: the choice, its fields, and what R474 reports. -/
def takeCopies (a b : List Byte) (s : State) : State :=
  let k := chooseCopy a b
  let t := { s with
    sets.copyA := a, sets.copyB := b, sets.intactA := copyIntact a, sets.intactB := copyIntact b, sets.inUse := k.1
    sets.target := k.2.1, sets.mismatch := k.2.2, sets.mismatchEvt := k.2.2 }
  let t := applyTwm (copyInUse t) (applyPower (copyInUse t) t)
  let t := if k.1 = 2 then setAlert 3 t else t
  if k.2.2 then setAlert 1 { t with host.dualMis := true } else t

/-! ### SETTINGS_WRITE (R475) -/

/-- The sequence number in use: 0 for the defaults, whose first copy is number 1 (R474). -/
def seqInUse (s : State) : Nat := if s.sets.inUse = 2 then 0 else leAt (copyInUse s) 0 4

/-- A copy with contents and sequence number, its CRC computed anew. -/
def sealCopy (seq : Nat) (body : List Byte) : List Byte :=
  let c := leBytes 4 seq ++ ((padTo 0x2000 body).take 0x1FFC).drop 4
  c ++ leBytes 4 (crc32 c)

/-- What copy `k` (0 A, 1 B) holds now. -/
def storeCopy (k : Nat) (c : List Byte) (s : State) : State :=
  if k = 0 then { s with sets.copyA := c, sets.intactA := copyIntact c }
  else { s with sets.copyB := c, sets.intactB := copyIntact c }

/-- Copy `k` is written with `c` and read back, up to twice: it is then the one in use, and the other is the next target. A second
mismatch leaves the copy in use; what was read back is what the memory now holds. -/
def writeCopy (j k seq : Nat) (c back1 back2 : List Byte) (s : State) : State :=
  let once := busCopy (if k = 0 then 0x100 else 0x2100) c
  let s := s.onBus (if back1 = c then once else once ++ once)
  if s.boot.eepromSel && (back1 = c || back2 = c) then
    let t := storeCopy k c s
    let t := { t with sets.inUse := k, sets.target := some (1 - k), sets.mismatch := false, sets.mismatchEvt := false }
    finish j 0 seq 0 0 (applyTwm c (applyPower c t))
  else finish j 0x0B 0 0 0 (if s.boot.eepromSel then storeCopy k (padTo 0x2000 back2) s else s)

/-- A0 = 0: the host's image as the next copy. -/
def writeImage (j : Nat) (img : HostRead) (back1 back2 : List Byte) (s : State) : State :=
  match img with
    | .ok data =>
      let b := padTo 0x2000 data
      if crc32 (zeros 4 ++ (b.take 0x1FFC).drop 4) ≠ leAt b 0x1FFC 4 then finish j 0x0B 0 0 0 s
      else match s.sets.target with
        | none => finish j 0x04 0 0 0 s
        | some k =>
          let seq := add32 (seqInUse s) 1
          writeCopy j k seq (sealCopy seq b) back1 back2 s
    | r => finish j 0x06 0 0 0 (countFailedRead r s)

/-- A0 = 1 or 2: the mismatch resolved, keeping copy A or copy B. -/
def resolveCopies (j : Nat) (keepA : Bool) (back1 back2 : List Byte) (s : State) : State :=
  if !s.sets.mismatch then finish j 0 (seqInUse s) 0 0 s
  else
    let src := if keepA then s.sets.copyA else s.sets.copyB
    let seq := add32 (leAt src 0 4) 1
    writeCopy j (if keepA then 1 else 0) seq (sealCopy seq src) back1 back2 s

/-- R475: SETTINGS_WRITE, which waits while the engine may issue no read (09 R261); `readBack1` and `readBack2` are what the memory port reads back after the first and the second writing. -/
def execSettingsWrite (j : Nat) (img : HostRead) (readBack1 readBack2 : List Byte) (s : State) : Answer :=
  runCommand 0x50 j (fun e u => match fld e.d.a0 0 2 with
    | 0 => if u.readOk then writeImage j img readBack1 readBack2 u else u
    | 1 => resolveCopies j true readBack1 readBack2 u
    | _ => resolveCopies j false readBack1 readBack2 u) s

end Sys2Proof.Machine
end

