-- ==== Sys2Proof/Machine/TwoWire.lean ====
section
/-! DEFINITION. The management port and the memory port (17 R454 to R468, R476). A new address match ends the transaction before it:
the table has no row for STOP (log entry 20). -/

namespace Sys2Proof.Machine

/-! ### Management port -/

/-- The data path serves bytes: CORE out of reset and clocked, the transaction not dead. -/
def State.twmServes (s : State) : Bool := !s.coreInReset && s.clk.core && !s.twm.dead

/-- R459: the management-port address arrives. In DORMANT, whose CORE domain is without power, it is a NACK that wakes. -/
def execTwmAddressMatch (read : Bool) (s : State) : Answer :=
  let start (ack stretch : Bool) (u : State) : State :=
    { u with twm.active := ack, twm.first := ack && !read, twm.dead := false, twm.stretch := stretch, twm.acked := ack }
  answer s (
    if s.coreInReset && s.pwr.state != .dormant then start false false s
    else match s.pwr.state with
      | .drone => if s.pwr.limp then start true false s else if bit s.pwr.wakeEn 6 then wakeSource 0x20 (start true (!s.clk.core) s) else start false false s
      | .dormant => if bit s.pwr.wakeEn 6 then wakeSource 0x20 (start false false s) else start false false s
      | _ => start true false s)

/-- ALERT_STAT written: W1C, without an effect on `ALERT#` (17 R461). -/
def alertClear (v : Nat) (s : State) : State :=
  { s with twm.alertWake := s.twm.alertWake && !bit v 0, twm.alertDual := s.twm.alertDual && !bit v 1,
           twm.alertMbox := s.twm.alertMbox && !bit v 2, twm.alertSetdef := s.twm.alertSetdef && !bit v 3,
           twm.alertRestart := s.twm.alertRestart && !bit v 4 }

/-- A byte appended to INDATA, dropped when it is full (17 R456). -/
def indataByte (b : Byte) (s : State) : State :=
  if 64 ≤ s.twm.inb.length then s else { s with twm.inb := s.twm.inb ++ [b] }

/-- INSEND: the bytes in INDATA become the message core 0 reads. -/
def insendWrite (v : Byte) (s : State) : State :=
  if v.getLsbD 0 then { s with twm.msg := s.twm.inb, twm.inb := [] } else s

/-- WAKE: 0xA5 raises TWM_WAKE. -/
def twmWakeWrite (b : Byte) (s : State) : State := if b = 0xA5#8 then wakeSource 0x21 s else s

/-- LIMPCLR: 0x5C acts as CLRLIMP. -/
def limpclrWrite (b : Byte) (s : State) : State := if b = 0x5C#8 then clearLimp s else s

/-- A management register written at pointer `p` (17 R456). -/
def twmRegWrite (p : Nat) (b : Byte) (s : State) : State :=
  match p with
  | 0x04 => alertClear b.toNat s
  | 0x05 => { s with twm.alertEn := b.toNat % 32 }
  | 0x06 => twmWakeWrite b s
  | 0x07 => limpclrWrite b s
  | 0x13 => indataByte b s
  | 0x14 => insendWrite b s
  | 0x18 => { s with twm.slope := b.toNat % 4 }
  | _ => s

/-- A management register as it reads at pointer `p`. -/
def twmRegRead (p : Nat) (s : State) : Nat :=
  match p with
  | 0x00 => 0x20
  | 0x01 => 0x64
  | 0x02 => 0xA1
  | 0x03 => pack [(s.shownState % 4, 0), (b2n s.pwr.busy, 3), (b2n s.pwr.limp, 4), (b2n s.pwr.hold, 5), (b2n s.boot.ready, 6)]
  | 0x04 => alertStat s
  | 0x05 => s.twm.alertEn
  | 0x08 => tc 10 s.cal.tnow % 256
  | 0x09 => s.twm.tempH
  | 0x0A => s.epoch % 256
  | 0x0B => s.twm.epochB.getD 0 0
  | 0x0C => s.twm.epochB.getD 1 0
  | 0x0D => s.twm.epochB.getD 2 0
  | 0x0E => s.pwr.last
  | 0x0F => pack [(s.sets.inUse, 0), (b2n s.twm.hdrok, 2)]
  | 0x10 => s.twm.out.length
  | 0x11 => (s.twm.out.headD 0#8).toNat
  | 0x12 => 64 - s.twm.inb.length
  | 0x18 => s.twm.slope
  | _ => 0

/-- What a read at pointer `p` does beside: latches the rest of a multi-byte value, or removes the outgoing byte (17 R455). -/
def twmRegReadEffect (p : Nat) (s : State) : State :=
  match p with
  | 0x08 => { s with twm.tempH := tc 10 s.cal.tnow / 256 }
  | 0x0A => { s with twm.epochB := [s.epoch / 2 ^ 8 % 256, s.epoch / 2 ^ 16 % 256, s.epoch / 2 ^ 24 % 256] }
  | 0x11 => { s with twm.out := s.twm.out.tail }
  | _ => s

/-- The pointer after a data byte (17 R455). -/
def advancePtr (p : Nat) : Nat := if p = 0x11 ∨ p = 0x13 then p else (p + 1) % 0x40

/-- R455: a written byte; it waits while SCL is stretched. -/
def execTwmWriteByte (b : Byte) (s : State) : Answer :=
  answer s (
    if !s.twm.active then s
    else if s.twm.dead then { s with twm.acked := false }
    else if !s.twmServes then s
    else
      let t := { s with twm.stretch := false, twm.acked := true }
      if t.twm.first then { t with twm.first := false, twm.ptr := b.toNat % 0x40 }
      else raise 32 { twmRegWrite t.twm.ptr b t with twm.ptr := advancePtr t.twm.ptr })

/-- R455: a read byte. -/
def execTwmReadByte (s : State) : Answer :=
  answer s (
    if !s.twm.active then s
    else if s.twm.dead then { s with twm.reply := 0xFF#8 }
    else if !s.twmServes then s
    else
      let t := { s with twm.stretch := false, twm.reply := BitVec.ofNat 8 (twmRegRead s.twm.ptr s) }
      { twmRegReadEffect t.twm.ptr t with twm.ptr := advancePtr t.twm.ptr })

/-- R456: a write to WAKE. -/
def execTwmWake (b : Byte) (s : State) : Answer := answer s (if s.twmServes then raise 32 (twmWakeWrite b s) else s)

/-- R456: a write to LIMPCLR. -/
def execLimpclr (b : Byte) (s : State) : Answer := answer s (if s.twmServes then raise 32 (limpclrWrite b s) else s)

/-- R456: a write to INDATA. -/
def execIndata (b : Byte) (s : State) : Answer := answer s (if s.twmServes then raise 32 (indataByte b s) else s)

/-- R456: a write to INSEND. -/
def execInsend (v : Byte) (s : State) : Answer := answer s (if s.twmServes then raise 32 (insendWrite v s) else s)

/-- R456: a read of OUTDATA. -/
def execOutdata (s : State) : Answer :=
  answer s (if s.twmServes then
    { s with twm.reply := s.twm.out.headD 0#8, twm.out := s.twm.out.tail } else s)

/-- R454: SCL low for 25 ms: the target leaves the transaction. -/
def execTwmSclTimeout (s : State) : Answer :=
  answer s (if s.twm.active then
    raise 33 { s with twm.active := false, twm.stretch := false, twm.dead := false, twm.timeout := cnt 8 s.twm.timeout 1 } else s)

/-- R459: CLK_BUS not running 1.2 ms after the address ACK: SCL released, the transaction dead until STOP. -/
def execTwmStretchTimeout (s : State) : Answer :=
  answer s (if s.twm.stretch && !s.clk.core then
    raise 33 { s with twm.stretch := false, twm.dead := true, twm.timeout := cnt 8 s.twm.timeout 1 } else s)

/-- R462: a read from 0x0C: the device answers while it drives `ALERT#`, and wins when no lower address answers. -/
def execAlertResponse (lowest : Nat) (s : State) : Answer :=
  let own := 0x28 + s.boot.maddr
  answer s (
    if !s.twm.alertPin then { s with twm.acked := false }
    else
      let t := { s with twm.acked := true, twm.reply := BitVec.ofNat 8 (2 * Nat.min own lowest) }
      if own ≤ lowest then { t with twm.alertPin := false, twm.ara := cnt 8 s.twm.ara 1 } else t)

/-- `TWM_CTL` (17 R476): ASET. -/
def twmAset (v : Nat) (s : State) : State := (bitsOf 5 v).foldl (fun t b => setAlert b t) s

/-- `TWM_MBOX` written: a byte appended to OUTDATA, and MBOX set. A byte that finds OUTDATA full is dropped (log entry 20). -/
def twmMboxPut (b : Byte) (s : State) : State :=
  setAlert 2 (if 64 ≤ s.twm.out.length then s else { s with twm.out := s.twm.out ++ [b] })

/-- A core-0 store to a TWM register. -/
def twmWrite (o v : Nat) (s : State) : State :=
  match o with
  | 0x000 => twmAset v s
  | 0x004 => twmMboxPut (BitVec.ofNat 8 v) s
  | _ => s

/-- R476: `TWM_CTL.ASET`. -/
def execTwmAlertSet (v : Word) (s : State) : Answer := answer s (if s.clk.core then twmAset v.toNat s else s)

/-- R476: core 0 appends a byte to OUTDATA. -/
def execTwmMboxWrite (b : Byte) (s : State) : Answer := answer s (if s.clk.core then twmMboxPut b s else s)

/-- R476: core 0 reads a byte of the latest INSEND message. -/
def execTwmMboxRead (s : State) : Answer := answer s (if s.clk.core then { s with twm.msg := s.twm.msg.tail } else s)

/-! ### Memory port -/

/-- A transfer ends (17 R463, R476). -/
def twcEnd (result : Nat) (s : State) : State :=
  let t := raise 34 { s with twc.busy := false, twc.done := true, twc.result := result }
  if result = 1 || result = 2 then raise 35 t else t

/-- Size of the settings memory in bytes: as the accepted header says, else the largest (17 R469, R470). -/
def eepromSize (s : State) : Nat := if s.twm.hdrok then leAt s.sets.header 6 1 * 65536 else 0x40000

/-- The transfer asked for is within range (17 R469, R476). -/
def twcRangeOk (s : State) : Bool :=
  decide (1 ≤ s.twc.len ∧ s.twc.len ≤ 4096 ∧ s.twc.off + s.twc.len ≤ eepromSize s) &&
  (!s.twc.dir || decide (s.twc.len ≤ 64 ∧ s.twc.off % 64 + s.twc.len ≤ 64))

/-- The transfer that core 0 asks for, as it goes on the bus (17 R463). -/
def State.busTransfer (s : State) : BusXfer :=
  { dev := (busAddr s.twc.off).1, word := (busAddr s.twc.off).2, write := s.twc.dir, len := s.twc.len
    data := if s.twc.dir then s.mem.read s.twc.buf.toNat s.twc.len else [] }

/-- Bus recovery, counted whether or not it frees SDA; one that does not counts STUCK, raises TWC_ERR and is tried again (17 R468). -/
def busRecovery (freed : Bool) (s : State) : State :=
  let t := { s with twc.recov := cnt 8 s.twc.recov 1, twc.recovered := s.twc.recovered || freed }
  if freed then t else raise 35 { t with twc.stuck := cnt 8 t.twc.stuck 1 }

/-- The first bus recovery of the port, before its first transfer (17 R468), where TWC_BUS_RECOVERY has not run it already. -/
def firstRecovery (s : State) : State := if s.boot.eepromSel && !s.twc.recovered then busRecovery true s else s

/-- A transfer is on the bus or waits for it: core 0's own, or one that the boot, a firmware start, ASSIGN, a restart or SETTINGS_WRITE makes
within its own command. -/
def State.twcActive (s : State) : Bool :=
  s.twc.busy || (s.boot.eepromSel && s.clk.core &&
    (s.boot.phase == .rom || s.boot.phase == .waitEnum || s.boot.phase == .waitFw || s.boot.phase == .started || s.boot.phase == .restart ||
     s.jrn.any (fun e => e.d.opcode == 0x50 && e.stage == .issued)))

/-- `TWC_CTL` written. Without settings memory no transfer is issued (17 R469). -/
def twcControl (v : Nat) (s : State) : State :=
  let t := { s with twc.dir := bit v 1, twc.speed := if fld v 7 2 = 3 then s.twc.speed else fld v 7 2, twc.slope := fld v 9 2,
                    twc.done := s.twc.done && !bit v 3 }
  if !bit v 0 || s.twc.busy || !s.boot.eepromSel then t
  else if !twcRangeOk t then twcEnd 3 t
  else
    { t with twc.busy := true, out.bus := t.out.bus ++ [t.busTransfer] }

/-- A core-0 store to a TWC register. -/
def twcWrite (o v : Nat) (s : State) : State :=
  match o with
  | 0x000 => twcControl v s
  | 0x004 => { s with twc.off := fld v 0 18 }
  | 0x008 => { s with twc.len := fld v 0 13 }
  | 0x00C => { s with twc.buf := BitVec.ofNat 32 v }
  | _ => s

/-- R463: `TWC_CTL.GO`. -/
def execTwcTransferStart (v : Word) (s : State) : Answer := answer s (if s.clk.core then twcControl v.toNat s else s)

/-- R463, R466, R468: a transfer ends; a read has put its bytes into data SRAM. -/
def execTwcTransferDone (e : TwcEnd) (s : State) : Answer :=
  answer s (if !s.twc.busy then s
    else match e with
      | .ok data => twcEnd 0 (if s.twc.dir then firstRecovery s else (firstRecovery s).put s.twc.buf.toNat (padTo s.twc.len data))
      | .nack => twcEnd 1 (firstRecovery s)
      | .stuck => twcEnd 2 s)

/-- R464, R465: arbitration lost: counted, and the transfer starts again; on the final NACK of a read it is no loss, the bytes are
all there and the transfer ends by its own command. -/
def execTwcArbitrationLost (finalNack : Bool) (s : State) : Answer :=
  answer s (if !s.twcActive || finalNack then s
    else
      let t := firstRecovery s
      raise 35 { t with twc.arblost := cnt 8 t.twc.arblost 1 })

/-- R466: a NACKed target address: tried again, acknowledged, or given up after 20 ms. A transfer of the boot ROM or of a command ends with
that command. -/
def execTwcNackRetry (acked expired : Bool) (s : State) : Answer :=
  answer s (if !s.twcActive || acked || !expired then s
    else
      let t := firstRecovery s
      let t := { t with twc.nack := cnt 8 t.twc.nack 1 }
      if t.twc.busy then twcEnd 1 t else raise 35 t)

/-- R468: bus recovery, while a transfer waits to start. -/
def execTwcBusRecovery (freed : Bool) (s : State) : Answer := answer s (if s.clk.core && s.twcActive then busRecovery freed s else s)

end Sys2Proof.Machine
end

