-- ==== Sys2Proof/Machine/Boot.lean ====
section
/-! DEFINITION. Boot (19 R492 to R498, R503): the boot ROM by role, the loader, the start of firmware, and the end of a core 0 restart. -/

namespace Sys2Proof.Machine

/-! ### Firmware in settings memory (R494) -/

/-- An LL-R image that holds `raw` bytes: its blocks are exactly those that `raw` bytes fill, the last one padded (11 R317). -/
def codedImage (raw : Nat) (coded : List Byte) : Option (List Byte) :=
  match llrImage 1300 coded with
  | some out => if out.length = 128 * ((raw + 127) / 128) then some (out.take raw) else none
  | none => none

/-- A decoded length that core 0's part takes: a multiple of 4 up to 0x2_0000. -/
def fwLengthOk (n : Nat) : Bool := n % 4 == 0 && decide (n ≤ 0x20000)

/-- The usable firmware that an accepted header and the coded bytes read give. -/
def storedFirmware (h coded : List Byte) : Option (List Byte) :=
  let n := leAt h 0x08 4
  let raw := leAt h 0x0C 4
  if n = 0 ∨ coded.length < n ∨ !fwLengthOk raw then none
  else match codedImage raw (coded.take n) with
    | some img => if crc32 img = leAt h 0x10 4 then some img else none
    | none => none

/-- An image in code SRAM, and core 0 in it: the firmware's start has yet to be completed (R496). `source`: 0 settings memory, 1 loader. -/
def startFirmware (img : List Byte) (level source : Nat) (s : State) : State :=
  startImage { s.put codeBase img with
    boot.fwLen := img.length, boot.fwCrc := crc32 img, boot.level := level, boot.source := source, boot.phase := .started, boot.load := none }

/-! ### The loader (R494, R495) -/

/-- A reply of the loader: 0xB0, status, 0, 0. -/
def loaderReply (status : Nat) (s : State) : State :=
  twmMboxPut 0 (twmMboxPut 0 (twmMboxPut (BitVec.ofNat 8 status) (twmMboxPut 0xB0#8 s)))

/-- The loader state: no valid firmware, and NEED in OUTDATA. -/
def enterLoader (s : State) : State :=
  loaderReply 4 { s with boot.phase := .loader, boot.load := none, boot.ready := false, boot.fwvalid := false }

/-- A message of the loader is taken from the mailbox. -/
def loaderTakes (kind : Nat) (msg : List Byte) (s : State) : Bool := s.boot.phase == .loader && leAt msg 0 1 == kind && s.clk.core

/-- R495: LOAD_BEGIN. One that is too short is out of range. -/
def execLoadBegin (msg : List Byte) (s : State) : Answer :=
  answer s (if !loaderTakes 1 msg s then s
    else
      let t := { s with twm.msg := [] }
      let n := leAt msg 1 4
      if msg.length < 11 ∨ n = 0 ∨ !fwLengthOk n then loaderReply 2 { t with boot.load := none }
      else loaderReply 0 { t with boot.load := some (n, leAt msg 5 4, leAt msg 9 2) })

/-- R495: LOAD_DATA. -/
def execLoadData (msg : List Byte) (s : State) : Answer :=
  answer s (if !loaderTakes 2 msg s then s
    else
      let t := { s with twm.msg := [] }
      let o := leAt msg 1 3
      let d := msg.drop 4
      match t.boot.load with
      | none => loaderReply 3 t
      | some l =>
        if o % 4 ≠ 0 ∨ d.length % 4 ≠ 0 ∨ d.length < 4 ∨ 60 < d.length ∨ l.1 < o + d.length then loaderReply 2 { t with boot.load := none }
        else t.put (codeBase + o) d)

/-- R495: LOAD_END: the image is started when its CRC is right; a restart that waited for it ends (R503). -/
def execLoadEnd (msg : List Byte) (s : State) : Answer :=
  answer s (if !loaderTakes 3 msg s then s
    else
      let t := { s with twm.msg := [] }
      match t.boot.load with
      | none => loaderReply 3 t
      | some l =>
        let img := t.mem.read codeBase l.1
        let u := { t with boot.load := none }
        if crc32 img ≠ l.2.1 then loaderReply 1 u
        else
          let v := loaderReply 0 u
          if v.boot.reload then
            finishRestart { v with boot.fwLen := l.1, boot.fwCrc := l.2.1, boot.level := l.2.2, boot.source := 1 }
          else startFirmware img l.2.2 1 v)

/-! ### The boot ROM (R492, R493, R497) -/

/-- HELLO out of a port that is up, towards the root by either way. -/
def sendHello (retained : Bool) (s : State) : State :=
  sendOn (if s.crl.up.state = 2 then .up else .dn) 1 0 (.hello retained s.tile s.ctx.gen) s

/-- A member's boot ROM: an update image that stands staged is checked again and started, and the member enrols again with its old index
(07 R231); otherwise the member waits for ENUM, and tells the root that it has reset when its ports have stayed up. -/
def memberBoot (s : State) : State :=
  let t := firstRecovery s
  let wait (u : State) : State := sendHello false { u with boot.phase := .waitEnum, boot.staged := none, crl.enrolled := false }
  match t.boot.staged with
  | some i =>
    let img := t.mem.read captureStaging i.1
    if crc32 img = i.2.1 then
      sendHello true (startMember i.1 i.2.1 i.2.2 { t.put codeBase img with boot.staged := none })
    else wait t
  | none => wait t

/-- The read of the firmware image that the accepted header names (19 R493). -/
def State.firmwareRead (s : State) : List BusXfer :=
  if s.twm.hdrok && leAt s.sets.header 0x08 4 != 0 then [busRead 0x8000 (leAt s.sets.header 0x08 4)] else []

/-- The reads of a firmware start (19 R496): tile record 0, then the applet image and the references that an accepted header names. -/
def State.startReads (s : State) : List BusXfer :=
  let h := s.sets.header
  let nref := ((List.range 64).filter (fun i => bit (leAt h 0x28 8) i)).length
  busRead 0x4100 128 ::
    (if !s.twm.hdrok then [] else
      (if leAt h 0x18 4 = 0 then [] else [busRead (leAt h 0x18 4) (leAt h 0x1C 4)]) ++
      (List.range nref).map (fun i => busRead (leAt h 0x20 4 + 25600 * i) 25600))

/-- The boot ROM of a root or a standalone device: header, copies, speed and firmware; without usable firmware the loader. -/
def rootBoot (img : EepromImage) (s : State) : State :=
  if !s.boot.eepromSel then enterLoader (takeCopies [] [] s)
  else
    let h := padTo 256 img.header
    let ok := headerOk h
    let t := firstRecovery s
    let t := { t with twm.hdrok := ok, sets.header := if ok then h else [] }
    let t := takeCopies (padTo 0x2000 img.copyA) (padTo 0x2000 img.copyB) (t.onBus [busRead 0 256, busRead 0x100 0x2000, busRead 0x2100 0x2000])
    let t := { t with twc.speed := ranged 0 2 1 (leAt (copyInUse t) 0x32 1 % 4) }
    let t := t.onBus (t.firmwareRead)
    match if ok then storedFirmware h img.fw else none with
    | some fw => startFirmware fw (leAt h 0x14 2) 0 t
    | none => enterLoader t

/-- R492, R493: BOOT_ROM_START. In the test role nothing further is described (01 R21). -/
def execBootRomStart (img : EepromImage) (s : State) : Answer :=
  answer s (if s.boot.phase ≠ .rom || !s.clk.core then s
    else if s.isMember then memberBoot s
    else if s.hostSide then rootBoot img s
    else s)

/-! ### Firmware start (R496) -/

/-- Tile record 0 and what follows from it; without a good one the defaults of 17 R469. -/
def takeTileRecord (rc : List Byte) (s : State) : State :=
  let r := if s.boot.eepromSel then some (tileRecOf rc) else none
  let r := r.filter (fun r => r.crcOk && r.format == 1 && r.tile == 0)
  let t := { s with sets.tileRec := r }
  let t := if t.isRoot then
      { t with crl.own := r, arr.map := r.toList, arr.nmap := (r.map (fun x => Nat.max 1 (Nat.min 64 (x.ntiles % 128)))).getD 1 }
    else t
  applyGpio t

/-- The boot bank goes into dictionary bank 0 when it keeps the rules of 06 R157. -/
def loadBootBank (s : State) : State :=
  let c := copyInUse s
  match bootBank s with
  | none => s
  | some b => if (tokenFault (padTo 1024 ((c.drop 0x1100).take 1024)) (leAt c 0x1004 4)).isNone then writeBank 0 b.1 b.2 s else s

/-- The applet image of the header, decoded from its coded bytes; empty when there is none. -/
def headerApplet (coded : List Byte) (s : State) : List Byte :=
  if !s.twm.hdrok || leAt s.sets.header 0x18 4 == 0 then []
  else match llrImage 1300 (coded.take (leAt s.sets.header 0x1C 4)) with
    | some out => out.take (0x20 + leAt out 4 4 + leAt out 8 4)
    | none => []

/-- The references read (17 R470): the tile's own, and at a root those of its members. -/
def takeReferences (refs : List (List Byte)) (s : State) : State :=
  if !s.twm.hdrok then s
  else
    let mine := refs.filter (fun r => bit (leAt s.sets.header 0x28 8) (leAt r 1 1 % 64))
    let t := mine.foldl (fun u r => takeReference r u) s
    if t.isRoot then { t with arr.refs := (mine.filter (fun r => leAt r 1 1 % 64 != 0)).map (fun r => (leAt r 1 1 % 64, r)) } else t

/-- Enrolment begins at a root (07 R204). -/
def startForming (s : State) : State :=
  if !s.isRoot then s
  else sendEnum .dn { s with arr.forming := true, arr.upward := false, arr.nextPos := 1, arr.upDist := 0, arr.ring := 0, arr.cut := [], arr.fwSent := false
                             crl.ntiles := 1, crl.online := [0], crl.lock := true, crl.enrolled := true }

/-- R496: FIRMWARE_START: `rec` is the bytes of tile record 0 (none where it could not be read), `applet` the applet image's coded bytes, `refs` the reference records, as read from
settings memory. -/
def execFirmwareStart (rc : List Byte) (applet : List Byte) (refs : List (List Byte)) (s : State) : Answer :=
  answer s (if s.boot.phase ≠ .started || !s.hostSide then s
    else
      let t := loadBootBank (takeTileRecord rc (s.onBus s.startReads))
      let app := headerApplet applet t
      let t := startApplet app { t with boot.applet := if appletCheck app.length app t = 0 then app else [] }
      let t := takeReferences refs t
      let t := { t with chn.timer := true, chn.counted := false, boot.fwvalid := true, boot.ready := true, boot.phase := .running
                        boot.bootCtxDue := true }
      bootContext (startForming t))

/-! ### Restart (18 R484, R503) -/

/-- R484, R503: the recovery code has loaded core 0's firmware again: from settings memory (`fw`: the coded bytes read), or, without a
usable image there, by the loader. A member gets its image from the root by FW_DATA. -/
def execCore0RestartComplete (fw : Option (List Byte)) (s : State) : Answer :=
  answer s (if s.boot.phase ≠ .restart || s.isMember || !s.clk.core then s
    else
      let s := if s.boot.source = 0 then s.onBus s.firmwareRead else s
      let img := if s.boot.source = 0 then fw.bind (storedFirmware s.sets.header) else none
      match img with
      | some b => finishRestart { s.put codeBase b with boot.fwLen := b.length, boot.fwCrc := crc32 b }
      | none => enterLoader { s with boot.reload := true })

end Sys2Proof.Machine
end

