-- ==== Sys2Proof/Machine/Branch.lean ====
section
/-! DEFINITION. Izyten instructions: branches, jumps and the system group (13 R383, R384, R387, R388), but for those that push or pop,
which stand in Stack.lean. -/

namespace Sys2Proof.Machine

/-- A transfer to `target`: a target that is not word-aligned raises ALIGN (12 R357, 13 R384). -/
def jumpTo (c : CoreId) (target : Word) (cycles : Nat) (s : State) : State :=
  if target.toNat % 4 != 0 then faultAt c 0x03 target s
  else s.setCore c ((s.core c).settleLoad.jump target cycles)

/-- A conditional transfer to the instruction's own address + (sext(off18) << 2) (13 R383). -/
def branchIf (c : CoreId) (taken : Core → Bool) (off : BitVec 18) (s : State) : State :=
  let k := s.core c
  if taken k then jumpTo c (k.pc + (off.signExtend 32 <<< 2)) 3 s
  else s.setCore c (k.settleLoad.advance 1)

/-- R383: taken when Ga = Gb. -/
def execBrEq (c : CoreId) (ga gb : Reg) (off : BitVec 18) (s : State) : Answer :=
  instr c true true (branchIf c (fun k => Cmp.holds .eq (k.rd ga) (k.rd gb)) off) s

/-- R383: taken when Ga differs from Gb. -/
def execBrNe (c : CoreId) (ga gb : Reg) (off : BitVec 18) (s : State) : Answer :=
  instr c true true (branchIf c (fun k => Cmp.holds .ne (k.rd ga) (k.rd gb)) off) s

/-- R383: taken when Ga < Gb, signed. -/
def execBrLt (c : CoreId) (ga gb : Reg) (off : BitVec 18) (s : State) : Answer :=
  instr c true true (branchIf c (fun k => Cmp.holds .lt (k.rd ga) (k.rd gb)) off) s

/-- R383: taken when Ga is at least Gb, signed. -/
def execBrGe (c : CoreId) (ga gb : Reg) (off : BitVec 18) (s : State) : Answer :=
  instr c true true (branchIf c (fun k => Cmp.holds .ge (k.rd ga) (k.rd gb)) off) s

/-- R383: taken when Ga < Gb, unsigned. -/
def execBrLo (c : CoreId) (ga gb : Reg) (off : BitVec 18) (s : State) : Answer :=
  instr c true true (branchIf c (fun k => Cmp.holds .lo (k.rd ga) (k.rd gb)) off) s

/-- R383: taken when Ga is at least Gb, unsigned. -/
def execBrHs (c : CoreId) (ga gb : Reg) (off : BitVec 18) (s : State) : Answer :=
  instr c true true (branchIf c (fun k => Cmp.holds .hs (k.rd ga) (k.rd gb)) off) s

/-- R383: taken on a comparison of Ga with zero; COND 6 to 15 are reserved encodings. -/
def execBrz (c : CoreId) (ga : Reg) (cond : BitVec 4) (off : BitVec 18) (s : State) : Answer :=
  instr c (decide (cond.toNat < 6)) true (branchIf c (fun k => brzHolds cond (k.rd ga)) off) s

/-- R384: to the instruction's own address + (sext(off26) << 2). -/
def execJmp (c : CoreId) (off : BitVec 26) (s : State) : Answer :=
  instr c true true (fun u => jumpTo c ((u.core c).pc + (off.signExtend 32 <<< 2)) 3 u) s

/-- R384, R387: to the address in Ga. -/
def execJr (c : CoreId) (ga : Reg) (s : State) : Answer :=
  instr c true true (fun u => jumpTo c ((u.core c).rd ga) 3 u) s

/-- Nothing but the pc moves. -/
def idleInstr (c : CoreId) (s : State) : State := s.setCore c ((s.core c).settleLoad.advance 1)

/-- R387: NOP. -/
def execInstrNop (c : CoreId) (s : State) : Answer := instr c true false (idleInstr c) s

/-- R387: raises BREAK, EPC naming the next instruction; a reserved use in a delay slot of boot/recovery mode (R389). -/
def execBrk (c : CoreId) (s : State) : Answer :=
  instr c true (s.core c).brm (fun u => takeExc c 0x05 ((u.core c).pc + 4#32) 0#32 u) s

/-- R387: raises TRAP; the handler reads the immediate from the word at EPC - 4. -/
def execTrap (c : CoreId) (_imm : BitVec 10) (s : State) : Answer :=
  instr c true (s.core c).brm (fun u => takeExc c 0x06 ((u.core c).pc + 4#32) 0#32 u) s

/-- R387, 12 R358, R356: return from an exception; an EPC, or an ETGT that it goes on to, that is not word-aligned raises ALIGN. -/
def execEret (c : CoreId) (s : State) : Answer :=
  instr c true true (fun u =>
    if (u.core c).epc.toNat % 4 != 0 then faultAt c 0x03 (u.core c).epc u
    else if (u.core c).estatus.getLsbD 3 && (u.core c).etgt.toNat % 4 != 0 then faultAt c 0x03 (u.core c).etgt u
    else retExc c u) s

/-- R388: Gd := STATUS and IE := 0 in one step. -/
def execDi (c : CoreId) (gd : Reg) (s : State) : Answer :=
  instr c true false (fun u =>
    let k := u.core c
    u.setCore c (({ k.wr gd (k.status false) with ie := false }.settleLoad).advance 1)) s

/-- R388: IE := 1. -/
def execEi (c : CoreId) (s : State) : Answer :=
  instr c true false (fun u => u.setCore c (({ u.core c with ie := true }.settleLoad).advance 1)) s

/-- The number of a core. -/
def coreNum : CoreId → Nat
  | .c0 => 0
  | .c1 => 1

/-- System register `n` as MFS reads it (12 R346); a number the table does not list reads 0. -/
def sysRead (c : CoreId) (k : Core) (n : Nat) : Word :=
  match n with
  | 0 => BitVec.ofNat 32 (coreNum c)
  | 1 => k.status false
  | 2 => k.vbase
  | 3 => k.epc
  | 4 => k.estatus
  | 5 => BitVec.ofNat 32 k.ecause
  | 6 => k.eaddr
  | 7 => k.slimit
  | 8 => BitVec.ofNat 32 k.cycle
  | 9 => k.cycleh
  | 10 => k.etgt
  | 16 => k.agBase.get 0
  | 17 => k.agBase.get 1
  | 18 => k.agBase.get 2
  | 19 => k.agBase.get 3
  | 20 => BitVec.ofNat 32 (k.agLen.get 0)
  | 21 => BitVec.ofNat 32 (k.agLen.get 1)
  | 22 => BitVec.ofNat 32 (k.agLen.get 2)
  | 23 => BitVec.ofNat 32 (k.agLen.get 3)
  | 24 => BitVec.ofNat 32 (k.agMode.get 0)
  | 25 => BitVec.ofNat 32 (k.agMode.get 1)
  | 26 => BitVec.ofNat 32 (k.agMode.get 2)
  | 27 => BitVec.ofNat 32 (k.agMode.get 3)
  | _ => 0#32

/-- An AGn_MODE of 3 is reserved and leaves the field as it was (00 R9). -/
def Core.setAgMode (k : Core) (n : Fin 4) (v : Word) : Core :=
  if v.toNat % 4 = 3 then k else { k with agMode := k.agMode.set n (v.toNat % 4) }

/-- System register `n` written by MTS (12 R346, R347, 13 R388): read-only registers and unlisted numbers ignore it. -/
def sysWrite (k : Core) (n : Nat) (v : Word) : Core :=
  match n with
  | 1 => { k with ie := v.getLsbD 0, brm := k.brm && v.getLsbD 1 }
  | 2 => { k with vbase := v &&& 0xFFFFF800#32 }
  | 3 => { k with epc := v }
  | 4 => { k with estatus := v &&& 0xFF#32 }
  | 7 => { k with slimit := v &&& 0xFFFFFFFC#32 }
  | 10 => { k with etgt := v }
  | 16 => { k with agBase := k.agBase.set 0 v }
  | 17 => { k with agBase := k.agBase.set 1 v }
  | 18 => { k with agBase := k.agBase.set 2 v }
  | 19 => { k with agBase := k.agBase.set 3 v }
  | 20 => { k with agLen := k.agLen.set 0 (v.toNat % 0x20000) }
  | 21 => { k with agLen := k.agLen.set 1 (v.toNat % 0x20000) }
  | 22 => { k with agLen := k.agLen.set 2 (v.toNat % 0x20000) }
  | 23 => { k with agLen := k.agLen.set 3 (v.toNat % 0x20000) }
  | 24 => k.setAgMode 0 v
  | 25 => k.setAgMode 1 v
  | 26 => k.setAgMode 2 v
  | 27 => k.setAgMode 3 v
  | _ => k

/-- R387, R388: Gd := S(n); a read of CYCLE latches CYCLEH (12 R346). -/
def execMfs (c : CoreId) (gd : Reg) (n : BitVec 10) (s : State) : Answer :=
  instr c true false (fun u =>
    let k := u.core c
    let k1 := if n.toNat = 8 then { k with cycleh := BitVec.ofNat 32 (k.cycle / 2 ^ 32) } else k
    u.setCore c (((k1.wr gd (sysRead c k n.toNat)).settleLoad).advance 1)) s

/-- R387, R388: S(n) := Ga; a write that clears BRM is a reserved use in a delay slot (12 R355). -/
def execMts (c : CoreId) (ga : Reg) (n : BitVec 10) (s : State) : Answer :=
  instr c true (n.toNat == 1 && (s.core c).brm && !((s.core c).rd ga).getLsbD 1) (fun u =>
    let k := u.core c
    u.setCore c ((sysWrite k n.toNat (k.rd ga)).settleLoad.advance 1)) s

end Sys2Proof.Machine
end

