-- ==== Sys2Proof/Machine/CoreBus.lean ====
section
/-! DEFINITION. What the cores reach (12 R342 to R344): reads and writes over the memory map, with the permissions of each core, domains
that are off, context-slot protection (08 R237) and parity (12 R357, 18 R477). -/

namespace Sys2Proof.Machine

/-- How a core's read ends: refused by the map, a byte with bad parity, or a value and the state after the read's effects. -/
inductive BusRead where
  | bus
  | parity (t : State)
  | ok (v : Nat) (t : State)

/-- The domain of peripheral block `i` is on: ICU, BEL, TWM, TWC, TMR, MBX, CHN, MUTE, CRL, HDMA (12 R343). -/
def blockOn (s : State) (i : Nat) : Bool :=
  if i = 6 then s.clk.afe else if i = 8 then s.clk.link else if i = 9 then s.clk.host && s.hostSide else true

/-- Core `c` may read block `i` (12 R343, 14 R406, R408). -/
def blockMayRead (c : CoreId) (i : Nat) : Bool :=
  match c with
  | .c0 => decide (i < 10)
  | .c1 => i == 0 || i == 4 || i == 5 || i == 6 || i == 7 || i == 8

/-- A register of a block as a core reads it. -/
def periphPeek (c : CoreId) (s : State) (i o : Nat) : Nat :=
  match i with
  | 0 => icuPeek s o
  | 1 => belPeek s o
  | 2 => twmPeek s o
  | 3 => twcPeek s o
  | 4 => tmrPeek s o
  | 5 => mbxPeek c s o
  | 6 => chnPeek s o
  | 7 => mutePeek s o
  | 8 => crlPeek s o
  | 9 => hdmaPeek s o
  | _ => 0

/-- What the read does beside. -/
def periphReadEffect (c : CoreId) (i o : Nat) (s : State) : State :=
  match i with
  | 0 => icuReadEffect c o s
  | 1 => belReadEffect o s
  | 2 => twmReadEffect o s
  | 3 => twcReadEffect o s
  | 4 => tmrReadEffect o s
  | 5 => mbxReadEffect c o s
  | 6 => chnReadEffect o s
  | 7 => muteReadEffect o s
  | 8 => crlReadEffect o s
  | 9 => hdmaReadEffect o s
  | _ => s

/-- A core-0 store to a register of the host DMA engine (10 R313). -/
def hdmaWrite (o v : Nat) (s : State) : State :=
  match o with
  | 0x000 => hdmaCtl v s
  | 0x004 => { s with hdma.laddr := v / 4 * 4 }
  | 0x008 => { s with hdma.haddrLo := BitVec.ofNat 32 v }
  | 0x00C => { s with hdma.haddrHi := BitVec.ofNat 32 v }
  | 0x010 =>
    let n := fld v 0 17
    if n % 4 = 0 ∧ 4 ≤ n ∧ n ≤ 65536 then { s with hdma.len := n } else s
  | 0x020 => { s with hdma.recs := s.hdma.recs.set 0 (BitVec.ofNat 32 v) }
  | 0x024 => { s with hdma.recs := s.hdma.recs.set 1 (BitVec.ofNat 32 v) }
  | 0x028 => { s with hdma.recs := s.hdma.recs.set 2 (BitVec.ofNat 32 v) }
  | 0x02C => { s with hdma.recs := s.hdma.recs.set 3 (BitVec.ofNat 32 v) }
  | 0x030 => hdmaPost v s
  | 0x060 => { s with rings.cmdCi := v, rings.dirty := true }
  | _ => s

/-- Core `c` may write this register (12 R343, R367, 14 R406, R408). -/
def periphMayWrite (s : State) (c : CoreId) (i o : Nat) : Bool :=
  match c with
  | .c0 => decide (i < 10)
  | .c1 => (i == 0 && icuMayWrite s .c1 o) || (i == 4 && tmrMayWrite .c1 o) || (i == 5 && mbxMayWrite .c1 o)

/-- A store to a register of a block; offsets the block does not define ignore it. -/
def periphWrite (c : CoreId) (i o v : Nat) (s : State) : State :=
  match i with
  | 0 => icuWrite c o v s
  | 1 => belWrite o v s
  | 2 => twmWrite o v s
  | 3 => twcWrite o v s
  | 4 => tmrWrite o v s
  | 5 => mbxWrite c o v s
  | 6 => chnWrite o v s
  | 7 => muteWrite o v s
  | 9 => hdmaWrite o v s
  | _ => s

/-- The W1C bits of a register, which the lanes a narrow store leaves out do not write (log entry 23). -/
def w1cBits (i o : Nat) : Nat :=
  match i, o with
  | 0, 0x200 => 0x300
  | 1, 0x018 => 0x10000
  | 1, 0x308 => 0x7F
  | 3, 0x000 => 0x8
  | 6, 0x040 => 0x8
  | 6, 0x100 => 0x4
  | 6, 0x108 => 0x10000
  | 7, 0x000 => 0x8
  | 9, 0x000 => 0x20
  | _, _ => 0

/-- The word a store of `size` bytes at byte `b` of a register makes of what the register reads. -/
def mergeLanes (old w1c b size v : Nat) : Nat :=
  if size = 4 then v
  else
    let lane := (2 ^ (8 * size) - 1) * 2 ^ (8 * b)
    (old &&& (0xFFFFFFFF ^^^ w1c) &&& (0xFFFFFFFF ^^^ lane)) + v * 2 ^ (8 * b)

/-- A slot that core 0 may not write (08 R237). -/
def slotGuarded (s : State) (a : Nat) : Bool :=
  match s.ctx.slots.getD ((a - ctxBase) / 0x800) .empty with
  | .checking => true
  | .pending => true
  | .active => true
  | .draining => true
  | _ => false

/-- A plain byte range of RAM that core `c` may read; the boot ROM is apart. -/
def ramReadable (s : State) (c : CoreId) (a n : Nat) : Bool :=
  let inside (lo len : Nat) : Bool := decide (lo ≤ a ∧ a + n ≤ lo + len)
  match c with
  | .c0 => inside codeBase 0x40000 || inside dataBase 0x20000 || inside frameBase 0xC0000 || inside retBase 0x1000 ||
      (s.clk.core && inside ctxBase 0x4000)
  | .c1 => decide (s.c1Base ≤ a ∧ a + n ≤ codeBase + 0x40000) || inside sharedBase 0x4000 || inside frameBase 0xC0000 ||
      (s.clk.core && inside ctxBase 0x4000)

/-- A plain byte range of RAM that core `c` may write. -/
def ramWritable (s : State) (c : CoreId) (a n : Nat) : Bool :=
  let inside (lo len : Nat) : Bool := decide (lo ≤ a ∧ a + n ≤ lo + len)
  match c with
  | .c0 => inside codeBase 0x40000 || inside dataBase 0x20000 || inside frameBase 0xC0000 || inside retBase 0x1000 ||
      (s.clk.core && inside ctxBase 0x4000 && !slotGuarded s a)
  | .c1 => inside sharedBase 0x4000

/-- The AON region and the `BEL_` registers (12 R341). -/
def aonAccess (a : Nat) : Bool := decide (retBase ≤ a ∧ a < retBase + 0x1000) || decide (0x40010000 ≤ a ∧ a < 0x40020000)

/-- The stall of an access to them beyond its one cycle: 61 to 92 µs in all, a free value (12 R341; log entry 11). The retries of the sampled
crossings since they were last read, which `BEL_XCROSS` shows, are a free value too (15 R420; log entry 54). -/
def accessed (c : CoreId) (a : Nat) (s : State) : State :=
  if !aonAccess a then s
  else
    let d := draw s
    let n := if s.pwr.limp then 975 + d.1.toNat % 497 else 11711 + d.1.toNat % 5953
    let t := d.2.setCore c ((d.2.core c).tick n)
    if a / 4 = 0x40010304 / 4 then
      let e := draw t
      { e.2 with clk.dsRetry := e.1.toNat % 256 }
    else t

/-- A parity error in one of two reads, where the operand does not say in which of them: a free value (log entry 132). -/
def oneOfTwo (par : Bool) (s : State) : Bool × Bool × State :=
  if par then (let d := draw s; (d.1.getLsbD 0, !d.1.getLsbD 0, d.2)) else (false, false, s)

/-- A core's read of a RAM with bad parity (12 R357): what the store's row of 18 R482 discards and recomputes follows whoever reads it. A
delta frame, staged blocks and the capture region were not read by those that their rows name, so nothing is dropped for them (log entry
134); source 40 stays quiet (14 R391). -/
def readParity (c : CoreId) (a : Nat) (s : State) : State :=
  let st := storeAt s a
  if [0x02, 0x0F, 0x10, 0x12, 0x13].contains st then coreParity c a s
  else parityFound { store := st, index := itemAt a, addr := a } (noteParity st a s)

/-- A core's read of `size` aligned bytes (12 R342 to R344). -/
def coreRead (c : CoreId) (a size : Nat) (parity : Bool) (s : State) : BusRead :=
  if a + size ≤ 0x10000 then .ok (leNat ((List.range size).map (fun i => Config.bootRom (a + i)))) s
  else if ramReadable s c a size then (if parity || s.badAt a size then .parity (readParity c a s) else .ok (s.mem.le a size) s)
  else if 0x40000000 ≤ a ∧ a < 0x400A0000 then
    let i := (a - 0x40000000) / 0x10000
    let o := (a - 0x40000000) % 0x10000
    if !blockMayRead c i || !blockOn s i then .bus
    else .ok (periphPeek c s i (o / 4 * 4) / 2 ^ (8 * (o % 4)) % 2 ^ (8 * size)) (periphReadEffect c i (o / 4 * 4) s)
  else .bus

/-- A core's write of `size` aligned bytes; none where the map forbids it. -/
def coreWrite (c : CoreId) (a size v : Nat) (s : State) : Option State :=
  if ramWritable s c a size then some (s.put a (leBytes size v))
  else if 0x40000000 ≤ a ∧ a < 0x400A0000 && !(decide (ctxBase ≤ a ∧ a < ctxBase + 0x4000)) then
    let i := (a - 0x40000000) / 0x10000
    let o := (a - 0x40000000) % 0x10000
    if !periphMayWrite s c i (o / 4 * 4) || !blockOn s i then none
    else
      let r := o / 4 * 4
      some (periphWrite c i r (mergeLanes (periphPeek c s i r) (w1cBits i r) (o % 4) size (v % 2 ^ (8 * size))) s)
  else none

end Sys2Proof.Machine
end

