-- ==== Sys2Proof/Machine/LoadStore.lean ====
section
/-! DEFINITION. Izyten instructions: loads, stores and XCHG (13 R380 to R382, 12 R348 to R351). -/

namespace Sys2Proof.Machine

/-- The base register after an access, when the mode updates it. -/
def Core.base (k : Core) (gb : Reg) (v : Word) (m : AMode) : Core := if updatesBase m then k.wr gb v else k

/-- A load of `size` bytes, its value made a register by `f`. An access that raises an exception changes nothing (12 R349). -/
def loadBody (c : CoreId) (gd gb : Reg) (m : AMode) (size : Nat) (f : Nat → Word) (parity : Bool) (s : State) : State :=
  let k := s.core c
  let (ea, nb) := k.ea gb size m
  if ea.toNat % size ≠ 0 then faultAt c 0x03 ea s
  else match coreRead c ea.toNat size parity (accessed c ea.toNat s) with
    | .bus => faultAt c 0x02 ea s
    | .parity t => faultAt c 0x07 ea t
    | .ok v t => t.setCore c ((((t.core c).settleLoad.base gb nb m).wrLoad gd (f v)).advance 1)

/-- A load instruction; loading the base it updates is a reserved encoding (12 R349). -/
def load (c : CoreId) (gd gb : Reg) (m : AMode) (size : Nat) (f : Nat → Word) (parity : Bool) (s : State) : Answer :=
  instr c (loadOk gd gb m) false (loadBody c gd gb m size f parity) s

/-- R380: a sign-extended byte. -/
def execLdb (c : CoreId) (gd gb : Reg) (m : AMode) (parity : Bool) (s : State) : Answer :=
  load c gd gb m 1 (fun v => BitVec.ofInt 32 (sext 8 v)) parity s

/-- R380: a zero-extended byte. -/
def execLdbu (c : CoreId) (gd gb : Reg) (m : AMode) (parity : Bool) (s : State) : Answer :=
  load c gd gb m 1 (BitVec.ofNat 32) parity s

/-- R380: a sign-extended halfword. -/
def execLdh (c : CoreId) (gd gb : Reg) (m : AMode) (parity : Bool) (s : State) : Answer :=
  load c gd gb m 2 (fun v => BitVec.ofInt 32 (sext 16 v)) parity s

/-- R380: a zero-extended halfword. -/
def execLdhu (c : CoreId) (gd gb : Reg) (m : AMode) (parity : Bool) (s : State) : Answer :=
  load c gd gb m 2 (BitVec.ofNat 32) parity s

/-- R380: a word. -/
def execLdw (c : CoreId) (gd gb : Reg) (m : AMode) (parity : Bool) (s : State) : Answer :=
  load c gd gb m 4 (BitVec.ofNat 32) parity s

/-- A store of the low `size` bytes of Gs, read before the base moves (13 R381). -/
def storeBody (c : CoreId) (gs gb : Reg) (m : AMode) (size : Nat) (s : State) : State :=
  let k := s.core c
  let (ea, nb) := k.ea gb size m
  if ea.toNat % size ≠ 0 then faultAt c 0x03 ea s
  else if stackCheck k gb ea m then faultAt c 0x04 ea s
  else match coreWrite c ea.toNat size ((k.rd gs).toNat % 2 ^ (8 * size)) (accessed c ea.toNat s) with
    | none => faultAt c 0x02 ea s
    | some t => t.setCore c (((t.core c).settleLoad.base gb nb m).advance 1)

/-- R380: a byte. -/
def execStb (c : CoreId) (gs gb : Reg) (m : AMode) (s : State) : Answer := instr c true false (storeBody c gs gb m 1) s

/-- R380: a halfword. -/
def execSth (c : CoreId) (gs gb : Reg) (m : AMode) (s : State) : Answer := instr c true false (storeBody c gs gb m 2) s

/-- R380: a word. -/
def execStw (c : CoreId) (gs gb : Reg) (m : AMode) (s : State) : Answer := instr c true false (storeBody c gs gb m 4) s

/-- A word within the shared data SRAM (13 R382). -/
def inShared (a : Nat) : Bool := decide (sharedBase ≤ a ∧ a + 4 ≤ sharedBase + 0x4000)

/-- R382: XCHG. -/
def execXchg (c : CoreId) (gd gb : Reg) (d : BitVec 16) (parity : Bool) (s : State) : Answer :=
  instr c true false (fun u =>
    let k := u.core c
    let ea := k.rd gb + d.signExtend 32
    if ea.toNat % 4 ≠ 0 then faultAt c 0x03 ea u
    else if !inShared ea.toNat then faultAt c 0x02 ea u
    else if parity || u.badAt ea.toNat 4 then faultAt c 0x07 ea (coreParity c ea.toNat u)
    else
      let v := u.mem.le ea.toNat 4
      let t := u.put ea.toNat (leBytes 4 (k.rd gd).toNat)
      t.setCore c (((t.core c).settleLoad.wrLoad gd (BitVec.ofNat 32 v)).advance 2)) s

end Sys2Proof.Machine
end

