-- ==== Sys2Proof/Machine/Stack.lean ====
section
/-! DEFINITION. Izyten instructions that push or pop, and interrupt entry and return (12 R352, R361 to R366, 13 R384, R387). -/

namespace Sys2Proof.Machine

/-- A push of one word below G15 `sp` (12 R352): ALIGN, then STACK, then the map; the cause and address of a failure, or the state. -/
def pushWord (c : CoreId) (sp : Word) (v : Word) (s : State) : Except (Nat × Word) State :=
  let a := sp - 4#32
  if sp.toNat % 4 ≠ 0 then .error (0x03, a)
  else if a.toNat < (s.core c).slimit.toNat then .error (0x04, a)
  else match coreWrite c a.toNat 4 v.toNat (accessed c a.toNat s) with
    | none => .error (0x02, a)
    | some t => .ok t

/-- The return address of a call (12 R352). -/
def Core.returnAddr (k : Core) : Word := if k.brm then k.pc + 8#32 else k.pc + 4#32

/-- A call to `target`: a target that is not word-aligned raises ALIGN before the push (13 R384). -/
def callTo (c : CoreId) (target : Word) (s : State) : State :=
  let k := s.core c
  if target.toNat % 4 ≠ 0 then faultAt c 0x03 target s
  else match pushWord c (k.rd 15) k.returnAddr s with
    | .error e => faultAt c e.1 e.2 s
    | .ok t => t.setCore c ((((t.core c).wr 15 (k.rd 15 - 4#32)).settleLoad).jump target 3)

/-- R384: CALL. -/
def execCall (c : CoreId) (off : BitVec 26) (s : State) : Answer :=
  instr c true true (fun u => callTo c ((u.core c).pc + (off.signExtend 32 <<< 2)) u) s

/-- R384, R387: CALLR; the target is Ga from before the push. -/
def execCallr (c : CoreId) (ga : Reg) (s : State) : Answer :=
  instr c true true (fun u => callTo c ((u.core c).rd ga) u) s

/-- R352: RET. -/
def execRet (c : CoreId) (parity : Bool) (s : State) : Answer :=
  instr c true true (fun u =>
    let sp := (u.core c).rd 15
    if sp.toNat % 4 ≠ 0 then faultAt c 0x03 sp u
    else match coreRead c sp.toNat 4 parity (accessed c sp.toNat u) with
      | .bus => faultAt c 0x02 sp u
      | .parity t => faultAt c 0x07 sp t
      | .ok v t =>
        if v % 4 ≠ 0 then faultAt c 0x03 (BitVec.ofNat 32 v) u
        else t.setCore c ((((t.core c).wr 15 (sp + 4#32)).settleLoad).jump (BitVec.ofNat 32 v) 4)) s

/-- The vector of a source (12 R363). -/
def Core.vector (k : Core) (n : Nat) : Word := k.vbase + BitVec.ofNat 32 (32 * n)

/-- RETI's tail-chain (12 R365): a source above the frame's LEVEL and the threshold, where an interrupt may be taken at all
(R363, R358). -/
def State.chainSource (s : State) (c : CoreId) (level : Nat) : Option Nat :=
  let k := s.core c
  if k.ie && !k.brm && !k.exc then s.above c level else none

/-- R365: RETI. -/
def execReti (c : CoreId) (parity : Bool) (s : State) : Answer :=
  instr c true true (fun u =>
    let sp := (u.core c).rd 15
    if sp.toNat % 4 ≠ 0 then faultAt c 0x03 sp u
    else
    let w := oneOfTwo parity u
    match coreRead c (sp.toNat + 4) 4 w.1 (accessed c (sp.toNat + 4) w.2.2) with
      | .bus => faultAt c 0x02 (sp + 4#32) u
      | .parity t => faultAt c 0x07 (sp + 4#32) t
      | .ok st t =>
        match t.chainSource c (fld st 4 4) with
        | some n =>
          let v := commitDelivery c n t
          let k := v.core c
          v.setCore c { (k.settleLoad.tick 3) with level := (t.srcAt n).prio, pc := k.vector n }
        | none =>
          match coreRead c sp.toNat 4 w.2.1 (accessed c sp.toNat t) with
          | .bus => faultAt c 0x02 sp t
          | .parity v => faultAt c 0x07 sp v
          | .ok ra v =>
            if ra % 4 ≠ 0 then faultAt c 0x03 (BitVec.ofNat 32 ra) u
            else
              let k := ((v.core c).wr 15 (sp + 8#32)).settleLoad
              v.setCore c ({ k with ie := bit st 0, level := fld st 4 4 }.jump (BitVec.ofNat 32 ra) 4)) s

/-- An interrupt can be taken at this boundary (12 R363); one between an ERET and its target waits for the target,
and an exception that falls due there goes first (R359). -/
def State.takesInterrupt (s : State) (c : CoreId) : Bool :=
  let k := s.core c
  s.canRun c && k.ie && !k.brm && !k.exc && k.slot.isEmpty && fetchOk s c k.pc && !s.fetchBad c

/-- R363, R364, R361: an interrupt entry: STATUS and the return address pushed, the delivery committed at the jump; a source of higher
priority that arrives in the first 4 cycles takes over; a fault of the pushes is an exception and commits nothing. -/
def interruptEntry (c : CoreId) (n : Nat) (late : Option (Fin 48)) (parity : Bool) (s : State) : State :=
  let s := match late with
    | some m => raise m.val s
    | none => s
  let k := s.core c
  let sp := k.g.get 15
  let fail (cause : Nat) (a : Word) (u : State) : State := takeExc c cause k.pc a u
  if parity then fail 0x07 (sp - 4#32) (coreParity c (sp - 4#32).toNat s)
  else match pushWord c sp (k.status false) s with
    | .error e => fail e.1 e.2 s
    | .ok t1 =>
      match pushWord c (sp - 4#32) k.pc t1 with
      | .error e => fail e.1 e.2 s
      | .ok t2 =>
        let win := match t2.deliverable c with
          | some m => if (t2.srcAt n).prio < (t2.srcAt m).prio then m else n
          | none => n
        let t4 := commitDelivery c win t2
        let k1 := ((t4.core c).wr 15 (sp - 8#32)).settleLoad
        t4.setCore c { (k1.tick 7) with level := (t2.srcAt win).prio, pc := k1.vector win }

/-- R363: a deliverable source is taken. -/
def execInterruptEntry (c : CoreId) (late : Option (Fin 48)) (parity : Bool) (s : State) : Answer :=
  answer s (if !s.takesInterrupt c then s
    else match s.deliverable c with
      | none => s
      | some n => interruptEntry c n late parity s)

end Sys2Proof.Machine
end

