-- ==== Sys2Proof/Machine/Strings.lean ====
section
/-! DEFINITION. Izyten string instructions (13 R385, R386, 12 R353): element after element, run to their end or to the element that
faults, or to the element after which an interrupt falls due (log entry 8). -/

namespace Sys2Proof.Machine

/-- The pointers and the count of a string instruction under way. -/
structure StrRegs where
  g1 : Word
  g2 : Word
  g3 : Nat
deriving DecidableEq, Repr

/-- How one element ends: done with new pointers, the condition met, or a fault with its cause and address. -/
inductive Elem where
  | next (r : StrRegs) (t : State)
  | met (t : State)
  | fault (cause : Nat) (a : Word) (t : State)

/-- How a run of elements ends: at a count of 0 or with the condition met, at a fault, or with elements still to be done. -/
inductive StrEnd where
  | done
  | fault (cause : Nat) (a : Word)
  | more

/-- At most `n` elements while the count lasts, and how many took their cycles; `par` is a parity error of the first element's read. -/
def runElems (f : Bool → StrRegs → State → Elem) : Nat → Bool → StrRegs → State → StrRegs × State × StrEnd × Nat
  | 0, _, r, s => (r, s, if r.g3 = 0 then .done else .more, 0)
  | n + 1, par, r, s =>
    if r.g3 = 0 then (r, s, .done, 0)
    else match f par r s with
      | .next r1 t =>
        let e := runElems f n false r1 t
        (e.1, e.2.1, e.2.2.1, e.2.2.2 + 1)
      | .met t => (r, t, .done, 1)
      | .fault cause a t => (r, t, .fault cause a, 0)

/-- A string instruction of `cyc` cycles an element that moves G1 (`u1`) and G2 (`u2`): they and G3 as the last whole element left them; a
fault names the instruction, and where no element was completed they stay as they are. After `upto` elements an interrupt falls due: with elements still to be done the core stays at the
instruction, which is then the return address and resumes (12 R353). -/
def stringOp (c : CoreId) (cyc : Nat) (u1 u2 : Bool) (f : Core → Bool → StrRegs → State → Elem) (parity : Bool) (upto : Option Nat)
    (s : State) : State :=
  let k := s.core c
  let r0 : StrRegs := { g1 := k.rd 1, g2 := k.rd 2, g3 := (k.rd 3).toNat }
  if r0.g3 = 0 then s.setCore c (k.settleLoad.advance 1)
  else
    let (r, t, bad, n) := runElems (f k) (min r0.g3 (upto.getD r0.g3)) parity r0 s
    let put (q : Core) : Core := if r.g3 = r0.g3 then q else
      let q1 := if u1 then q.wr 1 r.g1 else q
      (if u2 then q1.wr 2 r.g2 else q1).wr 3 (BitVec.ofNat 32 r.g3)
    match bad with
    | .fault cause a =>
      if n = 0 then faultAt c cause a t
      else faultAt c cause a (t.setCore c ((put (t.core c)).settleLoad.tick (cyc * n)))
    | .done => t.setCore c ((put (t.core c).settleLoad).advance (cyc * n))
    | .more => if n = 0 then t else t.setCore c ((put (t.core c)).settleLoad.tick (cyc * n))

/-- The pointer one element on. -/
def stepBy (g : Word) (stride : BitVec 4) (size : Nat) : Word := g + BitVec.ofInt 32 (stride.toInt * size)

/-- A read of one element: a fault, or its value. -/
def elemRead (c : CoreId) (a : Word) (size : Nat) (par : Bool) (s : State) : Except (Nat × State) (Nat × State) :=
  if a.toNat % size ≠ 0 then .error (0x03, s)
  else match coreRead c a.toNat size par (accessed c a.toNat s) with
    | .bus => .error (0x02, s)
    | .parity t => .error (0x07, t)
    | .ok v t => .ok (v, t)

/-- A write of one element. -/
def elemWrite (c : CoreId) (a : Word) (size v : Nat) (s : State) : Except (Nat × State) State :=
  if a.toNat % size ≠ 0 then .error (0x03, s)
  else match coreWrite c a.toNat size (v % 2 ^ (8 * size)) (accessed c a.toNat s) with
    | none => .error (0x02, s)
    | some t => .ok t

/-- One element of SCOPY (13 R385, R386). -/
def scopyElem (c : CoreId) (stride : BitVec 4) (z : Nat) (_k : Core) (par : Bool) (r : StrRegs) (s : State) : Elem :=
  match elemRead c r.g1 z par s with
  | .error e => .fault e.1 r.g1 e.2
  | .ok (v, t) =>
    match elemWrite c r.g2 z v t with
    | .error e => .fault e.1 r.g2 e.2
    | .ok u => .next { g1 := stepBy r.g1 stride z, g2 := stepBy r.g2 stride z, g3 := r.g3 - 1 } u

/-- One element of SFILL. -/
def sfillElem (c : CoreId) (ga : Reg) (stride : BitVec 4) (z : Nat) (k : Core) (_par : Bool) (r : StrRegs) (s : State) : Elem :=
  match elemWrite c r.g2 z (k.rd ga).toNat s with
  | .error e => .fault e.1 r.g2 e.2
  | .ok u => .next { r with g2 := stepBy r.g2 stride z, g3 := r.g3 - 1 } u

/-- One element of SMATCH. -/
def smatchElem (c : CoreId) (stride : BitVec 4) (cond : BitVec 2) (z : Nat) (_k : Core) (par : Bool) (r : StrRegs) (s : State) : Elem :=
  let w := oneOfTwo par s
  match elemRead c r.g1 z w.1 w.2.2 with
  | .error e => .fault e.1 r.g1 e.2
  | .ok (v, t) =>
    match elemRead c r.g2 z w.2.1 t with
    | .error e => .fault e.1 r.g2 e.2
    | .ok (p, u) =>
      if elemHolds cond v p then .met u
      else .next { g1 := stepBy r.g1 stride z, g2 := stepBy r.g2 stride z, g3 := r.g3 - 1 } u

/-- One element of SSEEK: the operand at the element's size. -/
def sseekElem (c : CoreId) (ga : Reg) (stride : BitVec 4) (cond : BitVec 2) (z : Nat) (k : Core) (par : Bool) (r : StrRegs)
    (s : State) : Elem :=
  match elemRead c r.g1 z par s with
  | .error e => .fault e.1 r.g1 e.2
  | .ok (v, t) =>
    if elemHolds cond v ((k.rd ga).toNat % 2 ^ (8 * z)) then .met t
    else .next { r with g1 := stepBy r.g1 stride z, g3 := r.g3 - 1 } t

/-- R385: SCOPY; in a delay slot of boot/recovery mode a string instruction is a reserved use (R389). -/
def execScopy (c : CoreId) (stride : BitVec 4) (size : BitVec 2) (parity : Bool) (upto : Option Nat) (s : State) : Answer :=
  instr c (stringOk stride size) (s.core c).brm (stringOp c 2 true true (scopyElem c stride (elemSize size)) parity upto) s

/-- R385: SFILL; Ga is not G2 or G3. -/
def execSfill (c : CoreId) (ga : Reg) (stride : BitVec 4) (size : BitVec 2) (upto : Option Nat) (s : State) : Answer :=
  instr c (stringOk stride size && ga != 2 && ga != 3) (s.core c).brm (stringOp c 1 false true (sfillElem c ga stride (elemSize size)) false upto) s

/-- R385: SMATCH. -/
def execSmatch (c : CoreId) (stride : BitVec 4) (cond size : BitVec 2) (parity : Bool) (upto : Option Nat) (s : State) : Answer :=
  instr c (stringOk stride size) (s.core c).brm (stringOp c 2 true true (smatchElem c stride cond (elemSize size)) parity upto) s

/-- R385: SSEEK; Ga is not G1 or G3. -/
def execSseek (c : CoreId) (ga : Reg) (stride : BitVec 4) (cond size : BitVec 2) (parity : Bool) (upto : Option Nat) (s : State) : Answer :=
  instr c (stringOk stride size && ga != 1 && ga != 3) (s.core c).brm (stringOp c 1 true false (sseekElem c ga stride cond (elemSize size)) parity upto) s

end Sys2Proof.Machine
end

