-- ==== Sys2Proof/Machine/Dispatch.lean ====
section
/-! DEFINITION. One arm per command: a direct call of its meaning. -/

namespace Sys2Proof.Machine

/-- The effect of a command on everything but the queue. -/
def exec (i : Instr) (s : State) : Host.Outcome State Fault Refusal :=
  match i with
  | .pornAssert => Sys2Proof.Machine.execPornAssert s
  | .pornRelease role maddr eeprom fails => Sys2Proof.Machine.execPornRelease role maddr eeprom fails s
  | .bringupRetry fails => Sys2Proof.Machine.execBringupRetry fails s
  | .aonCrystalSwitch => Sys2Proof.Machine.execAonCrystalSwitch s
  | .vdd33Undervoltage => Sys2Proof.Machine.execVdd33Undervoltage s
  | .vddserRemoval => Sys2Proof.Machine.execVddserRemoval s
  | .perstAssert => Sys2Proof.Machine.execPerstAssert s
  | .perstDeassert => Sys2Proof.Machine.execPerstDeassert s
  | .hotReset => Sys2Proof.Machine.execHotReset s
  | .dlDown => Sys2Proof.Machine.execDlDown s
  | .flr => Sys2Proof.Machine.execFlr s
  | .pcieDstateChange d => Sys2Proof.Machine.execPcieDstateChange d s
  | .busMasterEnableChange on c => Sys2Proof.Machine.execBusMasterEnableChange on c s
  | .linkPmChange l => Sys2Proof.Machine.execLinkPmChange l s
  | .pcieCompletionTimeout => Sys2Proof.Machine.execPcieCompletionTimeout s
  | .pllUnlock fails => Sys2Proof.Machine.execPllUnlock fails s
  | .coreBrownout => Sys2Proof.Machine.execCoreBrownout s
  | .registerWrite off size v => Sys2Proof.Machine.execRegisterWrite off size v s
  | .ringStart table => Sys2Proof.Machine.execRingStart table s
  | .ringStartDeferred table => Sys2Proof.Machine.execRingStartDeferred table s
  | .ringStop => Sys2Proof.Machine.execRingStop s
  | .ringDrainComplete => Sys2Proof.Machine.execRingDrainComplete s
  | .resetCtlCore key => Sys2Proof.Machine.execResetCtlCore key s
  | .resetCtlArray key => Sys2Proof.Machine.execResetCtlArray key s
  | .pointerLoWrite p v => Sys2Proof.Machine.execPointerLoWrite p v s
  | .pointerHiWrite p v => Sys2Proof.Machine.execPointerHiWrite p v s
  | .pollNow go => Sys2Proof.Machine.execPollNow go s
  | .msixModWrite v => Sys2Proof.Machine.execMsixModWrite v s
  | .pwrReqStateWrite st => Sys2Proof.Machine.execPwrReqStateWrite st s
  | .clrlimp => Sys2Proof.Machine.execClrlimp s
  | .diagSelWrite v => Sys2Proof.Machine.execDiagSelWrite v s
  | .diagFetchResult tile item v => Sys2Proof.Machine.execDiagFetchResult tile item v s
  | .doorbellPoll => Sys2Proof.Machine.execDoorbellPoll s
  | .fullRingPoll => Sys2Proof.Machine.execFullRingPoll s
  | .doorbellReadComplete cmdPi strPi cplCi rptCi evtCi => Sys2Proof.Machine.execDoorbellReadComplete cmdPi strPi cplCi rptCi evtCi s
  | .descriptorFetch data => Sys2Proof.Machine.execDescriptorFetch data s
  | .nop j => Sys2Proof.Machine.execNop j s
  | .fence j => Sys2Proof.Machine.execFence j s
  | .stageContext j piece => Sys2Proof.Machine.execStageContext j piece s
  | .commit j => Sys2Proof.Machine.execCommit j s
  | .switch j => Sys2Proof.Machine.execSwitch j s
  | .readContext j => Sys2Proof.Machine.execReadContext j s
  | .hop j => Sys2Proof.Machine.execHop j s
  | .lineTest j => Sys2Proof.Machine.execLineTest j s
  | .recalibrate j => Sys2Proof.Machine.execRecalibrate j s
  | .releaseContact j => Sys2Proof.Machine.execReleaseContact j s
  | .tokenLoad j img => Sys2Proof.Machine.execTokenLoad j img s
  | .capture j => Sys2Proof.Machine.execCapture j s
  | .appletLoad j img => Sys2Proof.Machine.execAppletLoad j img s
  | .mailboxSend j => Sys2Proof.Machine.execMailboxSend j s
  | .settingsWrite j img readBack1 readBack2 => Sys2Proof.Machine.execSettingsWrite j img readBack1 readBack2 s
  | .fwUpdateMember j img => Sys2Proof.Machine.execFwUpdateMember j img s
  | .resetMember j => Sys2Proof.Machine.execResetMember j s
  | .forwardTimeout j tile => Sys2Proof.Machine.execForwardTimeout j tile s
  | .completionPost j => Sys2Proof.Machine.execCompletionPost j s
  | .flushReadComplete j => Sys2Proof.Machine.execFlushReadComplete j s
  | .statusPageWrite => Sys2Proof.Machine.execStatusPageWrite s
  | .statusPageTimer => Sys2Proof.Machine.execStatusPageTimer s
  | .msixTimeLimit vec => Sys2Proof.Machine.execMsixTimeLimit vec s
  | .eventWrite => Sys2Proof.Machine.execEventWrite s
  | .reportPost postUs => Sys2Proof.Machine.execReportPost postUs s
  | .streamRecordWrite tile kind descs => Sys2Proof.Machine.execStreamRecordWrite tile kind descs s
  | .streamRecordDeadline tile kind descs => Sys2Proof.Machine.execStreamRecordDeadline tile kind descs s
  | .streamBufferRetire => Sys2Proof.Machine.execStreamBufferRetire s
  | .hdmaJobStart v => Sys2Proof.Machine.execHdmaJobStart v s
  | .hdmaJobDone e => Sys2Proof.Machine.execHdmaJobDone e s
  | .hdmaPost v => Sys2Proof.Machine.execHdmaPost v s
  | .hdmaPostDone ok => Sys2Proof.Machine.execHdmaPostDone ok s
  | .epochBoundary => Sys2Proof.Machine.execEpochBoundary s
  | .latchInstant => Sys2Proof.Machine.execLatchInstant s
  | .scanStep step x tpar => Sys2Proof.Machine.execScanStep step x tpar s
  | .guardSettleStart temp => Sys2Proof.Machine.execGuardSettleStart temp s
  | .tileNoise => Sys2Proof.Machine.execTileNoise s
  | .hopDecision => Sys2Proof.Machine.execHopDecision s
  | .driverTrip pin sourcing => Sys2Proof.Machine.execDriverTrip pin sourcing s
  | .shieldTrip sh => Sys2Proof.Machine.execShieldTrip sh s
  | .deltaFrameWritten par => Sys2Proof.Machine.execDeltaFrameWritten par s
  | .trackUpdate trkUs par => Sys2Proof.Machine.execTrackUpdate trkUs par s
  | .baselineUpdate => Sys2Proof.Machine.execBaselineUpdate s
  | .crookMerge => Sys2Proof.Machine.execCrookMerge s
  | .stitchDeadline => Sys2Proof.Machine.execStitchDeadline s
  | .streamFrameCode bad => Sys2Proof.Machine.execStreamFrameCode bad s
  | .lineTestPhaseEnd r => Sys2Proof.Machine.execLineTestPhaseEnd r s
  | .calInjectionResult pairs scales => Sys2Proof.Machine.execCalInjectionResult pairs scales s
  | .trimSearchMeasure => Sys2Proof.Machine.execTrimSearchMeasure s
  | .initialBaseline => Sys2Proof.Machine.execInitialBaseline s
  | .trimRestore par => Sys2Proof.Machine.execTrimRestore par s
  | .ltestStart v => Sys2Proof.Machine.execLtestStart v s
  | .calFullStart v => Sys2Proof.Machine.execCalFullStart v s
  | .calGroupStart v => Sys2Proof.Machine.execCalGroupStart v s
  | .hopForceWrite v => Sys2Proof.Machine.execHopForceWrite v s
  | .crilaFrameReceive port f blocks par => Sys2Proof.Machine.execCrilaFrameReceive port f blocks par s
  | .controlBlockReceive port block => Sys2Proof.Machine.execControlBlockReceive port block s
  | .frameTransmit port => Sys2Proof.Machine.execFrameTransmit port s
  | .retransmitTimeout port par => Sys2Proof.Machine.execRetransmitTimeout port par s
  | .portDown port => Sys2Proof.Machine.execPortDown port s
  | .portRetrain port => Sys2Proof.Machine.execPortRetrain port s
  | .trainingComplete port hopLat => Sys2Proof.Machine.execTrainingComplete port hopLat s
  | .mark port block residence err => Sys2Proof.Machine.execMark port block residence err s
  | .enum port => Sys2Proof.Machine.execEnum port s
  | .enumTimeout => Sys2Proof.Machine.execEnumTimeout s
  | .hello port retained tile gen => Sys2Proof.Machine.execHello port retained tile gen s
  | .assign tile lent rec => Sys2Proof.Machine.execAssign tile lent rec s
  | .ready tile level rec => Sys2Proof.Machine.execReady tile level rec s
  | .route dirs online seams map ring cut => Sys2Proof.Machine.execRoute dirs online seams map ring cut s
  | .breakReport tile port => Sys2Proof.Machine.execBreakReport tile port s
  | .breakDecision => Sys2Proof.Machine.execBreakDecision s
  | .epochMessage e => Sys2Proof.Machine.execEpochMessage e s
  | .fragset f parity => Sys2Proof.Machine.execFragset f parity s
  | .idReturn id => Sys2Proof.Machine.execIdReturn id s
  | .reportFrame tile epoch part data => Sys2Proof.Machine.execReportFrame tile epoch part data s
  | .reportImageDeadline tile epoch => Sys2Proof.Machine.execReportImageDeadline tile epoch s
  | .eventMessage tile code epoch d0 d1 => Sys2Proof.Machine.execEventMessage tile code epoch d0 d1 s
  | .cmdMessage num m => Sys2Proof.Machine.execCmdMessage num m s
  | .cplMessage tile num code r0 r1 => Sys2Proof.Machine.execCplMessage tile num code r0 r1 s
  | .prepareReply tile code off late => Sys2Proof.Machine.execPrepareReply tile code off late s
  | .prepareTimeout tile => Sys2Proof.Machine.execPrepareTimeout tile s
  | .applyMessage ea gen slot set => Sys2Proof.Machine.execApplyMessage ea gen slot set s
  | .armed tile image => Sys2Proof.Machine.execArmed tile image s
  | .streamMessage tile epoch kind raw blocks => Sys2Proof.Machine.execStreamMessage tile epoch kind raw blocks s
  | .fwData data crc level update => Sys2Proof.Machine.execFwData data crc level update s
  | .ctxData slot off data kind => Sys2Proof.Machine.execCtxData slot off data kind s
  | .captureMessage tile num data => Sys2Proof.Machine.execCaptureMessage tile num data s
  | .fwBroadcast => Sys2Proof.Machine.execFwBroadcast s
  | .powerMessage state epoch => Sys2Proof.Machine.execPowerMessage state epoch s
  | .wakeBeacon port => Sys2Proof.Machine.execWakeBeacon port s
  | .muteJobStart v => Sys2Proof.Machine.execMuteJobStart v s
  | .muteJobAbort => Sys2Proof.Machine.execMuteJobAbort s
  | .muteJobBlock parity hostFail => Sys2Proof.Machine.execMuteJobBlock parity hostFail s
  | .sourceArrival n => Sys2Proof.Machine.execSourceArrival n s
  | .coalesceTimeout n => Sys2Proof.Machine.execCoalesceTimeout n s
  | .interruptEntry core late parity => Sys2Proof.Machine.execInterruptEntry core late parity s
  | .waitWake core => Sys2Proof.Machine.execWaitWake core s
  | .icuPendWrite core x v => Sys2Proof.Machine.execIcuPendWrite core x v s
  | .icuPendRead core x => Sys2Proof.Machine.execIcuPendRead core x s
  | .icuDone core c src => Sys2Proof.Machine.execIcuDone core c src s
  | .icuDoneAll core c => Sys2Proof.Machine.execIcuDoneAll core c s
  | .icuSrcWrite core n v => Sys2Proof.Machine.execIcuSrcWrite core n v s
  | .timerControlWrite core n v => Sys2Proof.Machine.execTimerControlWrite core n v s
  | .timerRestart core n => Sys2Proof.Machine.execTimerRestart core n s
  | .timerExpiry n => Sys2Proof.Machine.execTimerExpiry n s
  | .watchdogStart v => Sys2Proof.Machine.execWatchdogStart v s
  | .watchdogKick v => Sys2Proof.Machine.execWatchdogKick v s
  | .watchdogExpiry => Sys2Proof.Machine.execWatchdogExpiry s
  | .core0RestartComplete fw => Sys2Proof.Machine.execCore0RestartComplete fw s
  | .scrubRead par => Sys2Proof.Machine.execScrubRead par s
  | .core1Run => Sys2Proof.Machine.execCore1Run s
  | .core1Stop => Sys2Proof.Machine.execCore1Stop s
  | .mbxSplitWrite v => Sys2Proof.Machine.execMbxSplitWrite v s
  | .mailboxPush core w1 => Sys2Proof.Machine.execMailboxPush core w1 s
  | .mailboxPop core => Sys2Proof.Machine.execMailboxPop core s
  | .idleTimeout => Sys2Proof.Machine.execIdleTimeout s
  | .droneTimeout => Sys2Proof.Machine.execDroneTimeout s
  | .powerEntry => Sys2Proof.Machine.execPowerEntry s
  | .entryAbort controller block => Sys2Proof.Machine.execEntryAbort controller block s
  | .entryRetry => Sys2Proof.Machine.execEntryRetry s
  | .droneBurst x => Sys2Proof.Machine.execDroneBurst x s
  | .wakeRecord code => Sys2Proof.Machine.execWakeRecord code s
  | .powerExit fails => Sys2Proof.Machine.execPowerExit fails s
  | .wakeStepTimeout step => Sys2Proof.Machine.execWakeStepTimeout step s
  | .gpioWakeEdge pin => Sys2Proof.Machine.execGpioWakeEdge pin s
  | .twmAddressMatch read => Sys2Proof.Machine.execTwmAddressMatch read s
  | .twmWriteByte b => Sys2Proof.Machine.execTwmWriteByte b s
  | .twmReadByte => Sys2Proof.Machine.execTwmReadByte s
  | .twmWake b => Sys2Proof.Machine.execTwmWake b s
  | .limpclr b => Sys2Proof.Machine.execLimpclr b s
  | .indata b => Sys2Proof.Machine.execIndata b s
  | .insend v => Sys2Proof.Machine.execInsend v s
  | .outdata => Sys2Proof.Machine.execOutdata s
  | .twmSclTimeout => Sys2Proof.Machine.execTwmSclTimeout s
  | .twmStretchTimeout => Sys2Proof.Machine.execTwmStretchTimeout s
  | .alertResponse lowest => Sys2Proof.Machine.execAlertResponse lowest s
  | .twmAlertSet v => Sys2Proof.Machine.execTwmAlertSet v s
  | .twmMboxWrite b => Sys2Proof.Machine.execTwmMboxWrite b s
  | .twmMboxRead => Sys2Proof.Machine.execTwmMboxRead s
  | .twcTransferStart v => Sys2Proof.Machine.execTwcTransferStart v s
  | .twcTransferDone e => Sys2Proof.Machine.execTwcTransferDone e s
  | .twcArbitrationLost finalNack => Sys2Proof.Machine.execTwcArbitrationLost finalNack s
  | .twcNackRetry acked expired => Sys2Proof.Machine.execTwcNackRetry acked expired s
  | .twcBusRecovery freed => Sys2Proof.Machine.execTwcBusRecovery freed s
  | .bootRomStart img => Sys2Proof.Machine.execBootRomStart img s
  | .loadBegin msg => Sys2Proof.Machine.execLoadBegin msg s
  | .loadData msg => Sys2Proof.Machine.execLoadData msg s
  | .loadEnd msg => Sys2Proof.Machine.execLoadEnd msg s
  | .firmwareStart rec applet refs => Sys2Proof.Machine.execFirmwareStart rec applet refs s
  | .add core gd ga gb => Sys2Proof.Machine.execAdd core gd ga gb s
  | .sub core gd ga gb => Sys2Proof.Machine.execSub core gd ga gb s
  | .and core gd ga gb => Sys2Proof.Machine.execAnd core gd ga gb s
  | .or core gd ga gb => Sys2Proof.Machine.execOr core gd ga gb s
  | .xor core gd ga gb => Sys2Proof.Machine.execXor core gd ga gb s
  | .cmplt core gd ga gb => Sys2Proof.Machine.execCmplt core gd ga gb s
  | .cmplo core gd ga gb => Sys2Proof.Machine.execCmplo core gd ga gb s
  | .min core gd ga gb => Sys2Proof.Machine.execMin core gd ga gb s
  | .max core gd ga gb => Sys2Proof.Machine.execMax core gd ga gb s
  | .minu core gd ga gb => Sys2Proof.Machine.execMinu core gd ga gb s
  | .maxu core gd ga gb => Sys2Proof.Machine.execMaxu core gd ga gb s
  | .shl core gd ga gb => Sys2Proof.Machine.execShl core gd ga gb s
  | .shru core gd ga gb => Sys2Proof.Machine.execShru core gd ga gb s
  | .shrs core gd ga gb => Sys2Proof.Machine.execShrs core gd ga gb s
  | .mul core gd ga gb => Sys2Proof.Machine.execMul core gd ga gb s
  | .mulhs core gd ga gb => Sys2Proof.Machine.execMulhs core gd ga gb s
  | .mulhu core gd ga gb => Sys2Proof.Machine.execMulhu core gd ga gb s
  | .addsat core gd ga gb => Sys2Proof.Machine.execAddsat core gd ga gb s
  | .subsat core gd ga gb => Sys2Proof.Machine.execSubsat core gd ga gb s
  | .sexb core gd ga => Sys2Proof.Machine.execSexb core gd ga s
  | .sexh core gd ga => Sys2Proof.Machine.execSexh core gd ga s
  | .clz core gd ga => Sys2Proof.Machine.execClz core gd ga s
  | .addK core gd ga imm => Sys2Proof.Machine.execAddK core gd ga imm s
  | .andK core gd ga imm => Sys2Proof.Machine.execAndK core gd ga imm s
  | .orK core gd ga imm => Sys2Proof.Machine.execOrK core gd ga imm s
  | .xorK core gd ga imm => Sys2Proof.Machine.execXorK core gd ga imm s
  | .cmpltK core gd ga imm => Sys2Proof.Machine.execCmpltK core gd ga imm s
  | .cmploK core gd ga imm => Sys2Proof.Machine.execCmploK core gd ga imm s
  | .shlK core gd ga sh => Sys2Proof.Machine.execShlK core gd ga sh s
  | .shruK core gd ga sh => Sys2Proof.Machine.execShruK core gd ga sh s
  | .shrsK core gd ga sh => Sys2Proof.Machine.execShrsK core gd ga sh s
  | .ldhi core gd imm => Sys2Proof.Machine.execLdhi core gd imm s
  | .mulq core gd ga gb => Sys2Proof.Machine.execMulq core gd ga gb s
  | .macq core gd ga gb => Sys2Proof.Machine.execMacq core gd ga gb s
  | .msuq core gd ga gb => Sys2Proof.Machine.execMsuq core gd ga gb s
  | .rndq core gd ga => Sys2Proof.Machine.execRndq core gd ga s
  | .addq core gd ga gb => Sys2Proof.Machine.execAddq core gd ga gb s
  | .subq core gd ga gb => Sys2Proof.Machine.execSubq core gd ga gb s
  | .ldb core gd gb mode parity => Sys2Proof.Machine.execLdb core gd gb mode parity s
  | .ldbu core gd gb mode parity => Sys2Proof.Machine.execLdbu core gd gb mode parity s
  | .ldh core gd gb mode parity => Sys2Proof.Machine.execLdh core gd gb mode parity s
  | .ldhu core gd gb mode parity => Sys2Proof.Machine.execLdhu core gd gb mode parity s
  | .ldw core gd gb mode parity => Sys2Proof.Machine.execLdw core gd gb mode parity s
  | .stb core gs gb mode => Sys2Proof.Machine.execStb core gs gb mode s
  | .sth core gs gb mode => Sys2Proof.Machine.execSth core gs gb mode s
  | .stw core gs gb mode => Sys2Proof.Machine.execStw core gs gb mode s
  | .xchg core gd gb d parity => Sys2Proof.Machine.execXchg core gd gb d parity s
  | .brEq core ga gb off => Sys2Proof.Machine.execBrEq core ga gb off s
  | .brNe core ga gb off => Sys2Proof.Machine.execBrNe core ga gb off s
  | .brLt core ga gb off => Sys2Proof.Machine.execBrLt core ga gb off s
  | .brGe core ga gb off => Sys2Proof.Machine.execBrGe core ga gb off s
  | .brLo core ga gb off => Sys2Proof.Machine.execBrLo core ga gb off s
  | .brHs core ga gb off => Sys2Proof.Machine.execBrHs core ga gb off s
  | .brz core ga cond off => Sys2Proof.Machine.execBrz core ga cond off s
  | .jmp core off => Sys2Proof.Machine.execJmp core off s
  | .call core off => Sys2Proof.Machine.execCall core off s
  | .scopy core stride size parity upto => Sys2Proof.Machine.execScopy core stride size parity upto s
  | .sfill core ga stride size upto => Sys2Proof.Machine.execSfill core ga stride size upto s
  | .smatch core stride cond size parity upto => Sys2Proof.Machine.execSmatch core stride cond size parity upto s
  | .sseek core ga stride cond size parity upto => Sys2Proof.Machine.execSseek core ga stride cond size parity upto s
  | .brk core => Sys2Proof.Machine.execBrk core s
  | .instrNop core => Sys2Proof.Machine.execInstrNop core s
  | .trap core imm => Sys2Proof.Machine.execTrap core imm s
  | .ret core parity => Sys2Proof.Machine.execRet core parity s
  | .reti core parity => Sys2Proof.Machine.execReti core parity s
  | .eret core => Sys2Proof.Machine.execEret core s
  | .wait core => Sys2Proof.Machine.execWait core s
  | .jr core ga => Sys2Proof.Machine.execJr core ga s
  | .callr core ga => Sys2Proof.Machine.execCallr core ga s
  | .mfs core gd n => Sys2Proof.Machine.execMfs core gd n s
  | .mts core ga n => Sys2Proof.Machine.execMts core ga n s
  | .di core gd => Sys2Proof.Machine.execDi core gd s
  | .ei core => Sys2Proof.Machine.execEi core s
  | .hostRegisterRead off size => Sys2Proof.Machine.execHostRegisterRead off size s
  | .pcieLinkUp gen width => Sys2Proof.Machine.execPcieLinkUp gen width s
  | .msixVectorUnmask vec => Sys2Proof.Machine.execMsixVectorUnmask vec s
  | .hostReadCompletion r => Sys2Proof.Machine.execHostReadCompletion r s
  | .l2l3Ready => Sys2Proof.Machine.execL2l3Ready s
  | .l2l3ReadyTimeout => Sys2Proof.Machine.execL2l3ReadyTimeout s

end Sys2Proof.Machine
end

