-- ==== Sys2Proof/Safety.lean ====
section
/-! DEFINITION. What counts as a safe step, and the terms claims are stated in: which commands complete, what a core instruction leaves
of the state, and which bytes of memory a store changes. -/

namespace Sys2Proof.Machine

/-- The step goes on. -/
def Safe (s : State) : Prop := ∃ t, step s = .next t

/-- The RAMs stand in canonical form. -/
def State.memOk (s : State) : Prop := s.mem.wf = true

/-- Command `i` answers a next state of which `P` holds. -/
def Completes (i : Instr) (s : State) (P : State → Prop) : Prop := ∃ t, exec i s = .next t ∧ P t

/-- Core `c` executes the command it is given: it runs, may fetch at its pc and fetches undamaged bytes, and the RAMs stand in canonical form. -/
def Runs (c : CoreId) (s : State) : Prop :=
  s.canRun c = true ∧ fetchOk s c (s.core c).pc = true ∧ s.fetchBad c = false ∧ s.memOk

/-- Where execution goes after an instruction that transfers nowhere: the address a delay slot leads to, else the next word. -/
def Core.nextPc (k : Core) : Word := k.slot.headD (k.pc + 4#32)

/-- Core `k` after an instruction of `n` cycles that transfers nowhere and changes no register. -/
def Core.done (k : Core) (n : Nat) : Core :=
  { k with pc := k.nextPc, slot := k.slot.tail, ld := none, cycle := (k.cycle + n) % 2 ^ 64 }

/-- Core `k` after a transfer of `n` cycles to `target`: in boot/recovery mode the next instruction runs first. -/
def Core.went (k : Core) (target : Word) (n : Nat) : Core :=
  if k.brm then { k with pc := k.pc + 4#32, slot := [target], ld := none, cycle := (k.cycle + 1) % 2 ^ 64 }
  else { k with pc := target, slot := [], ld := none, cycle := (k.cycle + n) % 2 ^ 64 }

/-- Core `k` after taking an exception outside a delay slot while EXC = 0. -/
def Core.trapped (k : Core) (cause : Nat) (epc eaddr : Word) : Core :=
  { k with estatus := k.status false, epc := epc, eaddr := eaddr, ecause := cause, exc := true, ie := false,
           pc := k.vbase + 0x600#32, ld := none, cycle := (k.cycle + 4) % 2 ^ 64 }

/-- The instruction's whole effect is one register result of one cycle in `gd`, of which `P` holds. -/
def OneResult (i : Instr) (c : CoreId) (gd : Reg) (s : State) (P : Word → Prop) : Prop :=
  ∃ v, exec i s = .next (s.setCore c { (s.core c).done 1 with g := (s.core c).g.set gd v }) ∧ P v

/-- The bytes from `a` on are the `n` least of `v`, least significant first, and every other byte of `m` is as it was in `m0`. -/
def Stored (m0 m : Memory) (a n v : Nat) : Prop :=
  m.wf = true ∧ (∀ i, i < n → m.byte (a + i) = BitVec.ofNat 8 (v / 256 ^ i)) ∧
    ∀ x, x < a ∨ a + n ≤ x → m.byte x = m0.byte x

/-- The state after `n` bytes were stored from `a` on, with memory `m`: those bytes are good again (18 R477). -/
def State.wrote (s : State) (m : Memory) (a n : Nat) : State :=
  { s with mem := m, parBad := s.parBad.filter (fun x => decide (x < a) || decide (a + n ≤ x)) }

/-- The bytes from `a` on hold no bad parity, and lie outside the AON region, whose accesses take a free time (12 R341). -/
def State.quick (s : State) (a n : Nat) : Prop := s.badAt a n = false ∧ aonAccess a = false

/-- The number that the `n` bytes from `a` on spell, least significant first. -/
def spelled (m : Memory) (a : Nat) : Nat → Nat
  | 0 => 0
  | n + 1 => (m.byte a).toNat + 256 * spelled m (a + 1) n

end Sys2Proof.Machine
end

