-- ==== Sys2Proof/Certificates/Slice0/Obligations.lean ====
section
/-! DEFINITION. The statements for the provers. -/

open Sys2Proof Sys2Proof.Machine

/-! ### The step -/

/-- A step runs the command at the front of the queue on the state with the queue's rest. With an empty queue the block idles (the model's
choice, log entry 1). -/
def Obligations.StepRunsTheFrontCommand : Prop :=
  (∀ (c : Instr) (cs : List Instr) (s : State), step { s with pending := c :: cs } = exec c { s with pending := cs }) ∧
  (∀ s : State, s.pending = [] → step s = .next s)

/-- Every step keeps the RAMs in canonical form, and takes exactly one command from the queue. -/
def Obligations.EveryStepKeepsMemoryCanonical : Prop :=
  ∀ s t : State, s.memOk → step s = .next t → t.memOk ∧ t.pending = s.pending.tail

/-- The RAMs stand in canonical form at reset, and the queue is empty. -/
def Obligations.ResetMemoryIsCanonical : Prop := State.reset.memOk ∧ State.reset.pending = []

/-- The Izyten commands whose fields are not a reserved encoding stop nowhere but in a delay slot, and every other command always goes
on: a step stops only for a reserved encoding or a reserved use (12 R349, R355, 13 R375, R389). -/
def Obligations.OnlyReservedInstructionsStop : Prop :=
  ∀ (i : Instr) (s : State),
    (∃ t, exec i s = .next t) ∨ (exec i s = .fault .reservedEncoding ∧ i.wf = false) ∨
      (exec i s = .fault .reservedUse ∧ (s.core0.slot ≠ [] ∨ s.core1.slot ≠ []))

/-- Bytes written read back, every other byte is as before, the canonical form is kept, and the canonical form of any store reads as that
store did. -/
def Obligations.MemoryReadsWhatWasWritten : Prop :=
  (∀ (m : Memory) (a : Nat) (bs : List Byte), m.wf = true →
    (m.write a bs).wf = true ∧ (∀ i, i < bs.length → (m.write a bs).byte (a + i) = bs.getD i 0) ∧
      ∀ x, x < a ∨ a + bs.length ≤ x → (m.write a bs).byte x = m.byte x) ∧
  (∀ (m : Memory) (a n : Nat), m.wf = true → (m.read a n).length = n ∧ ∀ i, i < n → (m.read a n).getD i 0 = m.byte (a + i)) ∧
  ∀ (m : Memory) (x : Nat), m.canon.wf = true ∧ m.canon.byte x = m.byte x

/-- The machine right after reset, where the manual states the value: nothing is powered and no ring runs, core 0 stands in boot/recovery
mode at 0 with VBASE 0x1000 and core 1 in reset at its code part, every slot is EMPTY and reads as the defaults image of its number, every
line reads 0xF, POLL_CTL.INTERVAL is 20, every ICU source has CCOUNT 1 and only source 1 goes to core 1, the watchdog's LOAD is 1,000,000,
BEL_RST_CAUSE is POR alone, and the policy and Drone registers hold their defaults (02 R54, 03 R92, 08 R235, R238, 09 R272 to R276, 12 R346,
R347, R367, 14 R407, R408, 15 R429, 16 R453). -/
def Obligations.ResetLeavesTheStatedValues : Prop :=
  let r := State.reset
  r.rings.en = false ∧ r.rings.act = false ∧ r.jrn = [] ∧ r.boot.ready = false ∧ r.boot.fwvalid = false ∧
  r.core0.brm = true ∧ r.core0.ie = false ∧ r.core0.exc = false ∧ r.core0.level = 0 ∧ r.core0.pc = 0#32 ∧ r.core0.vbase = 0x1000#32 ∧
  r.core1.brm = false ∧ r.core1.vbase = 0x10020000#32 ∧ r.mbx.run = false ∧ r.mbx.halted = false ∧ r.mbx.split = 8 ∧
  r.mbx.c1pc = 0x10020000#32 ∧
  (∀ n, n < 8 → r.ctx.slots.getD n .active = .empty ∧ ∀ o, o < 0x800 → r.mem.byte (ctxBase + 0x800 * n + o) = defaultsByte n o) ∧
  (∀ n, n < 320 → r.elec.code.getD n 0 = 0xF) ∧ r.chn.seg = 7 ∧ r.chn.step = 0xFF ∧
  r.host.interval = 20 ∧ r.host.rtbl = 0 ∧ r.host.dbpg = 0 ∧ r.host.stpg = 0 ∧ r.host.scratch = 0#32 ∧
  (∀ n, n < 48 → (r.srcAt n).ccount = 1 ∧ (r.srcAt n).prio = 0 ∧ (r.srcAt n).pend = false ∧ (r.srcAt n).act = false ∧
    ((r.srcAt n).target = true ↔ n = 1)) ∧
  r.tmr.wdEn = false ∧ r.tmr.wdLoad = 1000000 ∧ r.tmr.stage = 0 ∧
  r.clk.rstPor = true ∧ r.clk.rstPerst = false ∧ r.clk.rstCoreCtl = false ∧ r.clk.rstUnlock = false ∧ r.clk.rstCoreBo = false ∧
  r.clk.rstMember = false ∧ r.clk.rstWdog = false ∧
  r.pwr.state = .active ∧ r.pwr.idleT = 30 ∧ r.pwr.droneT = 60 ∧ r.pwr.gestureT = 20 ∧ r.pwr.rate = 2 ∧ r.pwr.persist = 2 ∧
  r.pwr.shift = 6 ∧ r.pwr.on = 96 ∧ r.pwr.noise = 4000 ∧ r.pwr.wakeEn = 0x3FFF ∧ r.pwr.wakeHost = 0x2FF0

/-! ### Izyten: register results (13 R377 to R379) -/

/-- The integer group, each result as a number; nothing else changes but the pc, the load delay and CYCLE. The immediate group. -/
def Obligations.IntegerAndImmediateResults : Prop :=
  (∀ (c : CoreId) (gd ga gb : Reg) (s : State), Runs c s →
    let a := (s.core c).rd ga
    let b := (s.core c).rd gb
    let sat (x : Int) : Int := max (-2147483648) (min 2147483647 x)
    OneResult (.add c gd ga gb) c gd s (fun v => v.toNat = (a.toNat + b.toNat) % 2 ^ 32) ∧
    OneResult (.sub c gd ga gb) c gd s (fun v => (v.toNat : Int) = ((a.toNat : Int) - b.toNat) % 2 ^ 32) ∧
    OneResult (.and c gd ga gb) c gd s (fun v => ∀ i, v.getLsbD i = (a.getLsbD i && b.getLsbD i)) ∧
    OneResult (.or c gd ga gb) c gd s (fun v => ∀ i, v.getLsbD i = (a.getLsbD i || b.getLsbD i)) ∧
    OneResult (.xor c gd ga gb) c gd s (fun v => ∀ i, v.getLsbD i = (a.getLsbD i ^^ b.getLsbD i)) ∧
    OneResult (.cmplt c gd ga gb) c gd s (fun v => v.toNat = if a.toInt < b.toInt then 1 else 0) ∧
    OneResult (.cmplo c gd ga gb) c gd s (fun v => v.toNat = if a.toNat < b.toNat then 1 else 0) ∧
    OneResult (.min c gd ga gb) c gd s (fun v => v.toInt = min a.toInt b.toInt) ∧
    OneResult (.max c gd ga gb) c gd s (fun v => v.toInt = max a.toInt b.toInt) ∧
    OneResult (.minu c gd ga gb) c gd s (fun v => v.toNat = min a.toNat b.toNat) ∧
    OneResult (.maxu c gd ga gb) c gd s (fun v => v.toNat = max a.toNat b.toNat) ∧
    OneResult (.shl c gd ga gb) c gd s (fun v => v.toNat = a.toNat * 2 ^ (b.toNat % 32) % 2 ^ 32) ∧
    OneResult (.shru c gd ga gb) c gd s (fun v => v.toNat = a.toNat / 2 ^ (b.toNat % 32)) ∧
    OneResult (.shrs c gd ga gb) c gd s (fun v => v.toInt = a.toInt / 2 ^ (b.toNat % 32)) ∧
    OneResult (.mul c gd ga gb) c gd s (fun v => v.toNat = a.toNat * b.toNat % 2 ^ 32) ∧
    OneResult (.mulhs c gd ga gb) c gd s (fun v => v.toInt = a.toInt * b.toInt / 2 ^ 32) ∧
    OneResult (.mulhu c gd ga gb) c gd s (fun v => v.toNat = a.toNat * b.toNat / 2 ^ 32) ∧
    OneResult (.addsat c gd ga gb) c gd s (fun v => v.toInt = sat (a.toInt + b.toInt)) ∧
    OneResult (.subsat c gd ga gb) c gd s (fun v => v.toInt = sat (a.toInt - b.toInt)) ∧
    OneResult (.sexb c gd ga) c gd s (fun v => v.toInt = (a.toNat % 256 : Nat) - (if a.toNat % 256 < 128 then 0 else 256)) ∧
    OneResult (.sexh c gd ga) c gd s (fun v => v.toInt = (a.toNat % 65536 : Nat) - (if a.toNat % 65536 < 32768 then 0 else 65536)) ∧
    OneResult (.clz c gd ga) c gd s (fun v => v.toNat ≤ 32 ∧ a.toNat < 2 ^ (32 - v.toNat) ∧
      (v.toNat < 32 → 2 ^ (31 - v.toNat) ≤ a.toNat))) ∧
  (∀ (c : CoreId) (gd ga : Reg) (imm : BitVec 18) (sh : BitVec 5) (s : State), Runs c s →
    let a := (s.core c).rd ga
    OneResult (.addK c gd ga imm) c gd s (fun v => (v.toNat : Int) = ((a.toNat : Int) + imm.toInt) % 2 ^ 32) ∧
    OneResult (.andK c gd ga imm) c gd s (fun v => v.toNat = a.toNat &&& imm.toNat) ∧
    OneResult (.orK c gd ga imm) c gd s (fun v => v.toNat = a.toNat ||| imm.toNat) ∧
    OneResult (.xorK c gd ga imm) c gd s (fun v => v.toNat = a.toNat ^^^ imm.toNat) ∧
    OneResult (.cmpltK c gd ga imm) c gd s (fun v => v.toNat = if a.toInt < imm.toInt then 1 else 0) ∧
    OneResult (.cmploK c gd ga imm) c gd s (fun v => v.toNat = if (a.toNat : Int) < imm.toInt % 2 ^ 32 then 1 else 0) ∧
    OneResult (.shlK c gd ga sh) c gd s (fun v => v.toNat = a.toNat * 2 ^ sh.toNat % 2 ^ 32) ∧
    OneResult (.shruK c gd ga sh) c gd s (fun v => v.toNat = a.toNat / 2 ^ sh.toNat) ∧
    OneResult (.shrsK c gd ga sh) c gd s (fun v => v.toInt = a.toInt / 2 ^ sh.toNat) ∧
    OneResult (.ldhi c gd imm) c gd s (fun v => v.toNat = imm.toNat * 2 ^ 14))

/-- The Q15 group: exact intermediate results, limited at the end; MACQ and MSUQ accumulate in Gd. -/
def Obligations.Q15GroupResults : Prop :=
  ∀ (c : CoreId) (gd ga gb : Reg) (s : State), Runs c s →
    let q (w : Word) : Int := (w.toNat % 65536 : Nat) - (if w.toNat % 65536 < 32768 then 0 else 65536)
    let a := q ((s.core c).rd ga)
    let b := q ((s.core c).rd gb)
    let acc := ((s.core c).rd gd).toInt
    let sat16 (x : Int) : Int := max (-32768) (min 32767 x)
    let sat32 (x : Int) : Int := max (-2147483648) (min 2147483647 x)
    OneResult (.mulq c gd ga gb) c gd s (fun v => v.toInt = sat16 ((a * b + 0x4000) / 2 ^ 15)) ∧
    OneResult (.macq c gd ga gb) c gd s (fun v => v.toInt = sat32 (acc + 2 * (a * b))) ∧
    OneResult (.msuq c gd ga gb) c gd s (fun v => v.toInt = sat32 (acc - 2 * (a * b))) ∧
    OneResult (.rndq c gd ga) c gd s (fun v => v.toInt = sat16 ((((s.core c).rd ga).toInt + 0x8000) / 2 ^ 16)) ∧
    OneResult (.addq c gd ga gb) c gd s (fun v => v.toInt = sat16 (a + b)) ∧
    OneResult (.subq c gd ga gb) c gd s (fun v => v.toInt = sat16 (a - b))

/-! ### Izyten: loads, stores and transfers -/

/-- Loads of undamaged bytes from the RAMs: the bytes at the effective address, extended to the register; the base updated by its mode; the
register just loaded still reads its old value in the next instruction, but for boot/recovery mode, which stalls a cycle instead (12 R348,
R351, R354, 13 R380). Stores to the RAMs: the low bytes of Gs, from before the base moves, stand at the effective address, every other byte
of memory and everything else is as before, but the base by its mode, the pc, and that the bytes written are good again (12 R348, 13 R380,
R381, 18 R477). How long an access of the AON region takes is a free value (12 R341; log entry 11): there CYCLE, and the count of free
values drawn, are left open. -/
def Obligations.LoadsAndStoresMoveTheirBytes : Prop :=
  (∀ (c : CoreId) (gd gb : Reg) (m : AMode) (s : State), Runs c s → loadOk gd gb m = true →
    let k := s.core c
    let loads (i : Instr) (n : Nat) (f : Nat → Int) : Prop :=
      let e := k.ea gb n m
      e.1.toNat % n = 0 → ramReadable s c e.1.toNat n = true → s.badAt e.1.toNat n = false →
        ∃ (v : Word) (cy fr : Nat), v.toNat = ((f (spelled s.mem e.1.toNat n)) % 2 ^ 32).toNat ∧
          (aonAccess e.1.toNat = false → cy = (k.cycle + if k.brm then 2 else 1) % 2 ^ 64 ∧ fr = s.fresh) ∧
          let g := if updatesBase m then k.g.set gb e.2 else k.g
          exec i s = .next ({ s with fresh := fr }.setCore c { k with
            g := g.set gd v, pc := k.nextPc, slot := k.slot.tail, ld := if k.brm then none else some (gd, g.get gd), cycle := cy })
    loads (.ldb c gd gb m false) 1 (fun x => if x < 128 then x else (x : Int) - 256) ∧
    loads (.ldbu c gd gb m false) 1 (fun x => x) ∧
    loads (.ldh c gd gb m false) 2 (fun x => if x < 32768 then x else (x : Int) - 65536) ∧
    loads (.ldhu c gd gb m false) 2 (fun x => x) ∧
    loads (.ldw c gd gb m false) 4 (fun x => x)) ∧
  (∀ (c : CoreId) (gs gb : Reg) (m : AMode) (s : State), Runs c s →
    let k := s.core c
    let stores (i : Instr) (n : Nat) : Prop :=
      let e := k.ea gb n m
      e.1.toNat % n = 0 → ramWritable s c e.1.toNat n = true → stackCheck k gb e.1 m = false →
        ∃ (mem : Memory) (cy fr : Nat), Stored s.mem mem e.1.toNat n (k.rd gs).toNat ∧
          (aonAccess e.1.toNat = false → cy = (k.done 1).cycle ∧ fr = s.fresh) ∧
          exec i s = .next (({ s with fresh := fr }.wrote mem e.1.toNat n).setCore c
            { k.done 1 with g := if updatesBase m then k.g.set gb e.2 else k.g, cycle := cy })
    stores (.stb c gs gb m) 1 ∧ stores (.sth c gs gb m) 2 ∧ stores (.stw c gs gb m) 4)

/-- A misaligned access raises ALIGN, an address no map row permits DATA_BUS, a pre-decrement store through G15 below SLIMIT STACK: the
instruction changes nothing, and EPC names it (12 R340, R342, R349, R352, R357, R358). A fetch the map forbids raises FETCH_BUS whatever
the instruction (12 R357). -/
def Obligations.BadAccessesRaiseTheirException : Prop :=
  (∀ (c : CoreId) (g gb : Reg) (m : AMode) (s : State), Runs c s → (s.core c).exc = false → (s.core c).slot = [] →
    let k := s.core c
    let raises (i : Instr) (cause : Nat) (ea : Word) : Prop := exec i s = .next (s.setCore c (k.trapped cause k.pc ea))
    let nowhere (a n : Nat) : Prop := 0x10000 < a + n ∧ ¬(0x40000000 ≤ a ∧ a < 0x400A0000)
    let ea (n : Nat) := (k.ea gb n m).1
    (loadOk g gb m = true →
      ((ea 2).toNat % 2 = 1 → raises (.ldh c g gb m false) 3 (ea 2) ∧ raises (.ldhu c g gb m false) 3 (ea 2)) ∧
      ((ea 4).toNat % 4 ≠ 0 → raises (.ldw c g gb m false) 3 (ea 4)) ∧
      ((ea 4).toNat % 4 = 0 → nowhere (ea 4).toNat 4 → ramReadable s c (ea 4).toNat 4 = false →
        raises (.ldw c g gb m false) 2 (ea 4))) ∧
    ((ea 2).toNat % 2 = 1 → raises (.sth c g gb m) 3 (ea 2)) ∧
    ((ea 4).toNat % 4 ≠ 0 → raises (.stw c g gb m) 3 (ea 4)) ∧
    ((ea 4).toNat % 4 = 0 → m = .preDec → gb = 15 → (ea 4).toNat < k.slimit.toNat → raises (.stw c g gb m) 4 (ea 4)) ∧
    ((ea 4).toNat % 4 = 0 → stackCheck k gb (ea 4) m = false → nowhere (ea 4).toNat 4 → ramWritable s c (ea 4).toNat 4 = false →
      raises (.stw c g gb m) 2 (ea 4))) ∧
  (∀ (c : CoreId) (s : State), s.canRun c = true → fetchOk s c (s.core c).pc = false → s.memOk → (s.core c).exc = false →
    (s.core c).slot = [] →
    let k := s.core c
    exec (.instrNop c) s = .next (s.setCore c (k.trapped 1 k.pc k.pc)))

/-- XCHG swaps Gd with the word of the shared RAM in one step, under the load delay; outside the shared RAM it raises DATA_BUS
(13 R382). -/
def Obligations.XchgSwapsInSharedRamOnly : Prop :=
  ∀ (c : CoreId) (gd gb : Reg) (d : BitVec 16) (s : State), Runs c s →
    let k := s.core c
    let ea := k.rd gb + d.signExtend 32
    ea.toNat % 4 = 0 →
    (0x2001C000 ≤ ea.toNat → ea.toNat < 0x20020000 → s.badAt ea.toNat 4 = false →
      ∃ mem : Memory, Stored s.mem mem ea.toNat 4 (k.rd gd).toNat ∧
        exec (.xchg c gd gb d false) s = .next (({ s with mem := mem }).setCore c { k with
          g := k.g.set gd (BitVec.ofNat 32 (spelled s.mem ea.toNat 4)), pc := k.nextPc, slot := k.slot.tail,
          ld := if k.brm then none else some (gd, k.g.get gd), cycle := (k.cycle + if k.brm then 3 else 2) % 2 ^ 64 })) ∧
    (k.exc = false → k.slot = [] → ¬(0x2001C000 ≤ ea.toNat ∧ ea.toNat < 0x20020000) →
      exec (.xchg c gd gb d false) s = .next (s.setCore c (k.trapped 2 k.pc ea)))

/-- The effective address and the base of every mode (12 R348); a modulo step that starts inside its buffer and is no longer than it
stays inside and moves by the step round the buffer (12 R350). -/
def Obligations.AddressModesAndBuffers : Prop :=
  (∀ (k : Core) (gb gi : Reg) (sc : Fin 4) (d : BitVec 16) (st : BitVec 8) (n : Nat), n = 1 ∨ n = 2 ∨ n = 4 →
    let b := k.rd gb
    (∃ e, k.ea gb n (.disp d) = (e, b) ∧ (e.toNat : Int) = ((b.toNat : Int) + d.toInt) % 2 ^ 32) ∧
    (∃ e, k.ea gb n (.index gi sc) = (e, b) ∧ e.toNat = (b.toNat + (k.rd gi).toNat * 2 ^ sc.val) % 2 ^ 32) ∧
    (∃ e, k.ea gb n (.postInc none st) = (b, e) ∧ (e.toNat : Int) = ((b.toNat : Int) + st.toInt * n) % 2 ^ 32) ∧
    (∃ e, k.ea gb n .preDec = (e, e) ∧ (e.toNat : Int) = ((b.toNat : Int) - n) % 2 ^ 32)) ∧
  ∀ (k : Core) (gb : Reg) (ag : Fin 4) (st : BitVec 8) (n : Nat), n = 1 ∨ n = 2 ∨ n = 4 →
    let b := (k.agBase.get ag).toNat
    let len := k.agLen.get ag
    let x := (k.rd gb).toNat
    k.agMode.get ag = 1 → 0 < len → b + len ≤ 2 ^ 32 → b ≤ x → x < b + len → (st.toInt * n).natAbs ≤ len →
      ∃ e, k.ea gb n (.postInc (some ag) st) = (k.rd gb, e) ∧ b ≤ e.toNat ∧ e.toNat < b + len ∧
        ((e.toNat : Int) - x - st.toInt * n) % len = 0

/-- Compare-and-branch: taken exactly when the comparison holds, to the instruction's own address plus four times the offset; in boot/recovery
mode the delay slot runs first (13 R383, 12 R354). JMP and JR transfer; CALL and CALLR push the return address first, at G15 - 4, and
change no other byte; a target that is not word-aligned raises ALIGN before any push, a push below SLIMIT raises STACK and writes nothing
(12 R352, 13 R384). RET pops the return address (12 R352); RETI pops the return address and STATUS when no source may take over (12 R365),
and changes nothing else, the popped bytes being undamaged and outside the AON region. How long a push into that region takes is a free
value (log entry 11). -/
def Obligations.BranchesJumpsCallsAndReturns : Prop :=
  (∀ (c : CoreId) (ga gb : Reg) (cond : BitVec 4) (off : BitVec 18) (s : State), Runs c s → (s.core c).slot = [] →
    (s.core c).pc.toNat % 4 = 0 →
    let k := s.core c
    let a := k.rd ga
    let b := k.rd gb
    ∃ target : Word, (target.toNat : Int) = ((k.pc.toNat : Int) + 4 * off.toInt) % 2 ^ 32 ∧
    let branches (i : Instr) (p : Prop) : Prop :=
      (p → exec i s = .next (s.setCore c (k.went target 3))) ∧ (¬p → exec i s = .next (s.setCore c (k.done 1)))
    branches (.brEq c ga gb off) (a = b) ∧ branches (.brNe c ga gb off) (a ≠ b) ∧
    branches (.brLt c ga gb off) (a.toInt < b.toInt) ∧ branches (.brGe c ga gb off) (b.toInt ≤ a.toInt) ∧
    branches (.brLo c ga gb off) (a.toNat < b.toNat) ∧ branches (.brHs c ga gb off) (b.toNat ≤ a.toNat) ∧
    (cond = 0#4 → branches (.brz c ga cond off) (a = 0#32)) ∧ (cond = 1#4 → branches (.brz c ga cond off) (a ≠ 0#32)) ∧
    (cond = 2#4 → branches (.brz c ga cond off) (a.toInt < 0)) ∧ (cond = 3#4 → branches (.brz c ga cond off) (0 ≤ a.toInt)) ∧
    (cond = 4#4 → branches (.brz c ga cond off) (0 < a.toInt)) ∧ (cond = 5#4 → branches (.brz c ga cond off) (a.toInt ≤ 0))) ∧
  (∀ (c : CoreId) (ga : Reg) (off : BitVec 26) (s : State), Runs c s → (s.core c).slot = [] → (s.core c).pc.toNat % 4 = 0 →
    let k := s.core c
    let sp := k.rd 15
    let goes (i : Instr) (target : Word) : Prop := exec i s = .next (s.setCore c (k.went target 3))
    let raises (i : Instr) (cause : Nat) (ea : Word) : Prop := exec i s = .next (s.setCore c (k.trapped cause k.pc ea))
    let calls (i : Instr) (target : Word) : Prop :=
      sp.toNat % 4 = 0 → k.slimit.toNat ≤ (sp - 4#32).toNat → ramWritable s c (sp - 4#32).toNat 4 = true →
        ∃ (mem : Memory) (cy fr : Nat), Stored s.mem mem (sp - 4#32).toNat 4 (k.pc + if k.brm then 8#32 else 4#32).toNat ∧
          (aonAccess (sp - 4#32).toNat = false → cy = (k.went target 3).cycle ∧ fr = s.fresh) ∧
          exec i s = .next (({ s with fresh := fr }.wrote mem (sp - 4#32).toNat 4).setCore c
            { k.went target 3 with g := k.g.set 15 (sp - 4#32), cycle := cy })
    (∃ target : Word, (target.toNat : Int) = ((k.pc.toNat : Int) + 4 * off.toInt) % 2 ^ 32 ∧
      goes (.jmp c off) target ∧ calls (.call c off) target) ∧
    ((k.rd ga).toNat % 4 = 0 → goes (.jr c ga) (k.rd ga) ∧ calls (.callr c ga) (k.rd ga)) ∧
    (k.exc = false → (k.rd ga).toNat % 4 ≠ 0 → raises (.jr c ga) 3 (k.rd ga) ∧ raises (.callr c ga) 3 (k.rd ga)) ∧
    (k.exc = false → sp.toNat % 4 = 0 → (sp - 4#32).toNat < k.slimit.toNat → raises (.call c off) 4 (sp - 4#32))) ∧
  (∀ (c : CoreId) (s : State), Runs c s → (s.core c).slot = [] →
    let k := s.core c
    let sp := k.rd 15
    let ra := BitVec.ofNat 32 (spelled s.mem sp.toNat 4)
    let st := spelled s.mem (sp.toNat + 4) 4
    sp.toNat % 4 = 0 → ra.toNat % 4 = 0 →
    (ramReadable s c sp.toNat 4 = true → s.quick sp.toNat 4 →
      exec (.ret c false) s = .next (s.setCore c { k.went ra 4 with g := k.g.set 15 (sp + 4#32) })) ∧
    (ramReadable s c sp.toNat 8 = true → s.quick sp.toNat 8 → s.chainSource c (st / 16 % 16) = none →
      exec (.reti c false) s = .next (s.setCore c { k.went ra 4 with
        g := k.g.set 15 (sp + 8#32), ie := decide (st % 2 = 1), level := st / 16 % 16 })))

/-! ### Izyten: the system group, exceptions, strings, interrupts -/

/-- NOP, DI, EI, MFS and MTS: the value read, the register written, its reserved and read-only fields, and nothing else
(12 R346, R347, 13 R387, R388). -/
def Obligations.SystemRegistersReadAndWrite : Prop :=
  ∀ (c : CoreId) (gd ga : Reg) (s : State), Runs c s →
    let k := s.core c
    let d := k.done 1
    let v := k.rd ga
    let status := BitVec.ofNat 32 ((if k.ie then 1 else 0) + (if k.brm then 2 else 0) + (if k.exc then 4 else 0) + 16 * (k.level % 16))
    let reads (n : Nat) (w : Word) : Prop := exec (.mfs c gd (BitVec.ofNat 10 n)) s = .next (s.setCore c { d with g := k.g.set gd w })
    let writes (n : Nat) (k1 : Core) : Prop := exec (.mts c ga (BitVec.ofNat 10 n)) s = .next (s.setCore c k1)
    exec (.instrNop c) s = .next (s.setCore c d) ∧
    exec (.di c gd) s = .next (s.setCore c { d with g := k.g.set gd status, ie := false }) ∧
    exec (.ei c) s = .next (s.setCore c { d with ie := true }) ∧
    reads 0 (if c = .c0 then 0#32 else 1#32) ∧ reads 1 status ∧ reads 2 k.vbase ∧ reads 3 k.epc ∧ reads 4 k.estatus ∧
    reads 5 (BitVec.ofNat 32 k.ecause) ∧ reads 6 k.eaddr ∧ reads 7 k.slimit ∧ reads 9 k.cycleh ∧ reads 10 k.etgt ∧
    exec (.mfs c gd 8#10) s = .next (s.setCore c { d with
      g := k.g.set gd (BitVec.ofNat 32 k.cycle), cycleh := BitVec.ofNat 32 (k.cycle / 2 ^ 32) }) ∧
    (∀ n : Fin 4, reads (16 + n) (k.agBase.get n) ∧ reads (20 + n) (BitVec.ofNat 32 (k.agLen.get n)) ∧
      reads (24 + n) (BitVec.ofNat 32 (k.agMode.get n))) ∧
    (∀ n, 11 ≤ n ∧ n < 16 ∨ 28 ≤ n ∧ n < 1024 → reads n 0#32 ∧ writes n d) ∧
    (k.slot = [] ∨ k.brm = false ∨ v.getLsbD 1 = true → writes 1 { d with ie := v.getLsbD 0, brm := k.brm && v.getLsbD 1 }) ∧
    writes 2 { d with vbase := v &&& 0xFFFFF800#32 } ∧ writes 3 { d with epc := v } ∧ writes 4 { d with estatus := v &&& 0xFF#32 } ∧
    writes 7 { d with slimit := v &&& 0xFFFFFFFC#32 } ∧ writes 10 { d with etgt := v } ∧
    writes 0 d ∧ writes 5 d ∧ writes 6 d ∧ writes 8 d ∧ writes 9 d ∧
    (∀ n : Fin 4, writes (16 + n) { d with agBase := k.agBase.set n v } ∧
      writes (20 + n) { d with agLen := k.agLen.set n (v.toNat % 2 ^ 17) } ∧
      (v.toNat % 4 ≠ 3 → writes (24 + n) { d with agMode := k.agMode.set n (v.toNat % 4) }) ∧
      (v.toNat % 4 = 3 → writes (24 + n) d))

/-- BRK and TRAP raise their exception with EPC at the next instruction: the status is saved, IE falls, EXC rises, and the core goes on at
VBASE + 0x600, writing no memory (12 R357, R358, 13 R387). ERET restores STATUS from ESTATUS, BRM only cleared, and goes on at EPC (12
R358); an EPC that is not word-aligned raises ALIGN. -/
def Obligations.ExceptionsAreTakenAndReturnedFrom : Prop :=
  (∀ (c : CoreId) (imm : BitVec 10) (s : State), Runs c s → (s.core c).slot = [] → (s.core c).exc = false →
    let k := s.core c
    exec (.brk c) s = .next (s.setCore c (k.trapped 5 (k.pc + 4#32) 0#32)) ∧
    exec (.trap c imm) s = .next (s.setCore c (k.trapped 6 (k.pc + 4#32) 0#32))) ∧
  (∀ (c : CoreId) (s : State), Runs c s → (s.core c).slot = [] →
    let k := s.core c
    let e := k.estatus.toNat
    (k.epc.toNat % 4 = 0 → e / 8 % 2 = 0 →
      exec (.eret c) s = .next (s.setCore c { k.went k.epc 4 with
        ie := decide (e % 2 = 1), brm := k.brm && decide (e / 2 % 2 = 1), exc := decide (e / 4 % 2 = 1), level := e / 16 % 16 })) ∧
    (k.exc = false → k.epc.toNat % 4 ≠ 0 → exec (.eret c) s = .next (s.setCore c (k.trapped 3 k.pc k.epc))))

/-- An exception raised by an instruction in a delay slot, outside boot/recovery mode, names the slot, sets ESTATUS.DS and keeps the
branch target in ETGT; ERET then runs the instruction at EPC and goes on at ETGT (12 R356), whose word alignment it asks (12 R357). -/
def Obligations.DelaySlotExceptionsResume : Prop :=
  ∀ (c : CoreId) (s : State) (target : Word), Runs c s → (s.core c).slot = [target] → (s.core c).exc = false →
    (s.core c).brm = false → (s.core c).pc.toNat % 4 = 0 →
    let k := s.core c
    ∃ k1, exec (.brk c) s = .next (s.setCore c k1) ∧ k1.epc = k.pc ∧ k1.etgt = target ∧ k1.estatus.getLsbD 3 = true ∧
      k1.pc = k.vbase + 0x600#32 ∧ k1.slot = [] ∧ k1.exc = true ∧ k1.g = k.g ∧
      (fetchOk s c k1.pc = true → s.badAt k1.pc.toNat 4 = false → target.toNat % 4 = 0 → ∃ k2, exec (.eret c) (s.setCore c k1) = .next (s.setCore c k2) ∧
        k2.pc = k.pc ∧ k2.slot = [target] ∧ k2.exc = false ∧ k2.ie = k.ie ∧ k2.brm = false ∧ k2.level = k.level % 16 ∧ k2.g = k.g)

/-- A second exception while EXC = 1: core 0 takes the recovery trap, which leaves EPC, ESTATUS, ECAUSE and EADDR as the second fault set
them, and core 1 halts with the cause (12 R360, R362, R370). -/
def Obligations.DoubleFaultsTrapOrHalt : Prop :=
  ∀ (s : State),
    (Runs .c0 s → s.core0.slot = [] → s.core0.exc = true → Completes (.brk .c0) s (fun t =>
      t.core0.brm = true ∧ t.core0.ie = false ∧ t.core0.exc = false ∧ t.core0.level = 0 ∧ t.core0.vbase = 0x1000#32 ∧
      t.core0.pc = 0x100#32 ∧ t.core0.epc = s.core0.pc + 4#32 ∧ t.core0.ecause = 5 ∧ t.core0.eaddr = 0#32 ∧
      t.core0.estatus = s.core0.status false ∧ t.core0.g = s.core0.g ∧ t.core1 = s.core1 ∧ t.mbx = s.mbx ∧ t.mem = s.mem)) ∧
    (Runs .c1 s → s.core1.slot = [] → s.core1.exc = true → Completes (.brk .c1) s (fun t =>
      t.mbx = { s.mbx with halted := true, cause := 5 } ∧ t.core0 = s.core0 ∧ t.core1.g = s.core1.g ∧
      t.core1.epc = s.core1.pc + 4#32 ∧ t.core1.ecause = 5 ∧ t.mem = s.mem))

/-- WAIT goes on at once when a source is deliverable and else stops the core; WAIT_WAKE lets it go on when one is (12 R366). How many cycles
passed meanwhile is a free value (log entry 11). -/
def Obligations.WaitSleepsUntilDeliverable : Prop :=
  ∀ (c : CoreId) (s : State),
    (Runs c s → (s.core c).slot = [] →
      exec (.wait c) s = .next (s.setCore c { (s.core c).done 1 with waiting := (s.deliverable c).isNone })) ∧
    (s.clk.core = true → s.memOk → (s.core c).waiting = true → (s.deliverable c).isSome = true →
      ∃ cy, exec (.waitWake c) s = .next ({ s with fresh := s.fresh + 1 }.setCore c { s.core c with waiting := false, cycle := cy }))

/-- SCOPY and SFILL do their elements strictly one after another, whatever the stride and the overlap; G1, G2 and G3 move with them and
nothing else changes (12 R353, 13 R385, R386). Where an interrupt falls due after m elements with more to do, the pc stays at the instruction
and G1, G2 and G3 hold what resumes it (12 R353). SMATCH and SSEEK stop at the first element that meets COND, G3 counting that element and
those after it, or at G3 = 0; they write no memory (13 R385). The elements lie in undamaged RAM outside the AON region. -/
def Obligations.StringsRunElementByElement : Prop :=
  (∀ (c : CoreId) (ga : Reg) (stride : BitVec 4) (size : BitVec 2) (s : State), Runs c s → (s.core c).slot = [] →
    stride ≠ 0#4 → size.toNat < 3 →
    let k := s.core c
    let z : Nat := 2 ^ size.toNat
    let n := (k.rd 3).toNat
    let at' (p : Word) (i : Nat) : Word := p + BitVec.ofInt 32 (stride.toInt * z * i)
    let readable (p : Word) : Prop := ∀ i, i < n →
      (at' p i).toNat % z = 0 ∧ ramReadable s c (at' p i).toNat z = true ∧ s.quick (at' p i).toNat z
    let writable (p : Word) : Prop := ∀ i, i < n →
      (at' p i).toNat % z = 0 ∧ ramWritable s c (at' p i).toNat z = true ∧ s.quick (at' p i).toNat z
    0 < n →
    let copied (m : Nat) : Memory := (List.range m).foldl (fun x i =>
      x.putLe (at' (k.rd 2) i).toNat z (x.le (at' (k.rd 1) i).toNat z)) s.mem
    let filled (m : Nat) : Memory := (List.range m).foldl (fun x i =>
      x.putLe (at' (k.rd 2) i).toNat z ((k.rd ga).toNat % 2 ^ (8 * z))) s.mem
    let stays (q : Core) (cycles : Nat) : Core := { q with ld := none, cycle := (k.cycle + cycles) % 2 ^ 64 }
    (readable (k.rd 1) → writable (k.rd 2) →
      exec (.scopy c stride size false none) s = .next ({ s with mem := copied n }.setCore c
        { k.done (2 * n) with g := ((k.g.set 1 (at' (k.rd 1) n)).set 2 (at' (k.rd 2) n)).set 3 0#32 }) ∧
      ∀ m, 0 < m → m < n → exec (.scopy c stride size false (some m)) s = .next ({ s with mem := copied m }.setCore c (stays
        { k with g := ((k.g.set 1 (at' (k.rd 1) m)).set 2 (at' (k.rd 2) m)).set 3 (BitVec.ofNat 32 (n - m)) } (2 * m)))) ∧
    (ga ≠ 2 → ga ≠ 3 → writable (k.rd 2) →
      exec (.sfill c ga stride size none) s = .next ({ s with mem := filled n }.setCore c
        { k.done n with g := (k.g.set 2 (at' (k.rd 2) n)).set 3 0#32 }) ∧
      ∀ m, 0 < m → m < n → exec (.sfill c ga stride size (some m)) s = .next ({ s with mem := filled m }.setCore c (stays
        { k with g := (k.g.set 2 (at' (k.rd 2) m)).set 3 (BitVec.ofNat 32 (n - m)) } m)))) ∧
  (∀ (c : CoreId) (ga : Reg) (stride : BitVec 4) (cond size : BitVec 2) (j : Nat) (s : State), Runs c s → (s.core c).slot = [] →
    stride ≠ 0#4 → size.toNat < 3 →
    let k := s.core c
    let z : Nat := 2 ^ size.toNat
    let n := (k.rd 3).toNat
    let at' (p : Word) (i : Nat) : Word := p + BitVec.ofInt 32 (stride.toInt * z * i)
    let readable (p : Word) : Prop := ∀ i, i < n →
      (at' p i).toNat % z = 0 ∧ ramReadable s c (at' p i).toNat z = true ∧ s.quick (at' p i).toNat z
    let val (p : Word) (i : Nat) : Nat := s.mem.le (at' p i).toNat z
    let meets (e p : Nat) : Prop :=
      (cond = 0#2 ∧ e = p) ∨ (cond = 1#2 ∧ e ≠ p) ∨ (cond = 2#2 ∧ e < p) ∨ (cond = 3#2 ∧ p ≤ e)
    0 < n → j ≤ n →
    (readable (k.rd 1) → readable (k.rd 2) → (∀ i, i < j → ¬meets (val (k.rd 1) i) (val (k.rd 2) i)) →
      (j < n → meets (val (k.rd 1) j) (val (k.rd 2) j)) → ∃ cycles,
      exec (.smatch c stride cond size false none) s = .next (s.setCore c { k.done cycles with
        g := if j = 0 then k.g else ((k.g.set 1 (at' (k.rd 1) j)).set 2 (at' (k.rd 2) j)).set 3 (BitVec.ofNat 32 (n - j)) })) ∧
    (ga ≠ 1 → ga ≠ 3 → readable (k.rd 1) → (∀ i, i < j → ¬meets (val (k.rd 1) i) ((k.rd ga).toNat % 2 ^ (8 * z))) →
      (j < n → meets (val (k.rd 1) j) ((k.rd ga).toNat % 2 ^ (8 * z))) → ∃ cycles,
      exec (.sseek c ga stride cond size false none) s = .next (s.setCore c { k.done cycles with
        g := if j = 0 then k.g else (k.g.set 1 (at' (k.rd 1) j)).set 3 (BitVec.ofNat 32 (n - j)) })))

/-- An interrupt entry pushes STATUS and the return address, marks the source in service with its arrivals moved to NARR, sets LEVEL to
its priority and goes on at its vector; IE stays, and no other byte of memory changes (12 R363, 14 R398). The stack lies outside the AON
region. -/
def Obligations.InterruptEntryPushesItsFrame : Prop :=
  ∀ (c : CoreId) (n : Nat) (s : State), s.takesInterrupt c = true → s.memOk → s.deliverable c = some n →
    let k := s.core c
    let sp := k.g.get 15
    sp.toNat % 4 = 0 → 8 ≤ sp.toNat → k.slimit.toNat ≤ (sp - 8#32).toNat → ramWritable s c (sp - 8#32).toNat 4 = true →
    ramWritable s c (sp - 4#32).toNat 4 = true → aonAccess (sp - 8#32).toNat = false → aonAccess (sp - 4#32).toNat = false →
    Completes (.interruptEntry c none false) s (fun t =>
      Stored s.mem t.mem (sp - 8#32).toNat 8 (k.pc.toNat + 2 ^ 32 * (k.status false).toNat) ∧
      t.core c = { k with g := k.g.set 15 (sp - 8#32), ld := none, level := (s.srcAt n).prio, pc := k.vbase + BitVec.ofNat 32 (32 * n),
                          cycle := (k.cycle + 7) % 2 ^ 64 } ∧
      t.srcAt n = { s.srcAt n with pend := false, act := true, own := c == .c1, arr := 0 } ∧
      (c = .c0 → t.icu.cur0 = { src := n, valid := true, narr := (s.srcAt n).arr } ∧ t.icu.cur1 = s.icu.cur1) ∧
      (c = .c1 → t.icu.cur1 = { src := n, valid := true, narr := (s.srcAt n).arr } ∧ t.icu.cur0 = s.icu.cur0) ∧
      ∀ m, m ≠ n → t.srcAt m = s.srcAt m)

/-- Reserved encodings and the uses that a delay slot reserves stop, whatever the state (12 R349, R355, 13 R375, R389). A word with a reserved
major opcode is no instruction, and six words of chapter 13 read as what they stand for (13 R374). -/
def Obligations.ReservedFormsStop : Prop :=
  (∀ (c : CoreId) (w : Word), w.toNat / 2 ^ 26 ∉ [0x00, 0x01, 0x02, 0x04, 0x05, 0x06, 0x07, 0x08, 0x09, 0x0A, 0x0B, 0x10, 0x11, 0x12, 0x13, 0x14, 0x16,
      0x18, 0x19, 0x1A, 0x20, 0x21, 0x22, 0x23, 0x24, 0x25, 0x26, 0x28, 0x29, 0x2C] → instrOfWord c w = none) ∧
  (∀ c : CoreId, instrOfWord c 0x49068001#32 = some (.ldh c 4 1 (.postInc (some 0) 1) false) ∧
    instrOfWord c 0x10CFFFFF#32 = some (.addK c 3 3 0x3FFFF#18) ∧ instrOfWord c 0x09914001#32 = some (.macq c 6 4 5) ∧
    instrOfWord c 0x98C7FFFC#32 = some (.brz c 3 1#4 0x3FFFC#18) ∧ instrOfWord c 0#32 = some (.brk c) ∧
    instrOfWord c 0xB0000101#32 = some (.scopy c 1#4 1#2 false none)) ∧
  (∀ (i : Instr) (c : CoreId) (gd gb ga : Reg) (m : AMode) (p : Bool) (cond stride : BitVec 4) (cmp size : BitVec 2) (off : BitVec 18)
      (upto : Option Nat) (s : State), s.canRun c = true → fetchOk s c (s.core c).pc = true → s.fetchBad c = false → i.wf = false →
      i ∈ [.ldb c gd gb m p, .ldbu c gd gb m p, .ldh c gd gb m p, .ldhu c gd gb m p, .ldw c gd gb m p, .brz c ga cond off,
        .scopy c stride size p upto, .sfill c ga stride size upto, .smatch c stride cmp size p upto, .sseek c ga stride cmp size p upto] →
      exec i s = .fault .reservedEncoding) ∧
  ∀ (i : Instr) (c : CoreId) (ga gb : Reg) (p : Bool) (cond stride : BitVec 4) (cmp size : BitVec 2) (off18 : BitVec 18) (off26 : BitVec 26) (imm : BitVec 10)
    (upto : Option Nat) (s : State), s.canRun c = true → fetchOk s c (s.core c).pc = true → s.fetchBad c = false → (s.core c).slot ≠ [] →
    (i ∈ [.brEq c ga gb off18, .brNe c ga gb off18, .brLt c ga gb off18, .brGe c ga gb off18, .brLo c ga gb off18, .brHs c ga gb off18,
        .jmp c off26, .jr c ga, .call c off26, .callr c ga, .ret c p, .reti c p, .eret c, .wait c] ∨
      (i.wf = true ∧ i = .brz c ga cond off18) ∨
      ((s.core c).brm = true ∧ (i ∈ [.brk c, .trap c imm] ∨ (i = .mts c ga 1#10 ∧ ((s.core c).rd ga).getLsbD 1 = false) ∨
        (i.wf = true ∧ i ∈ [.scopy c stride size p upto, .sfill c ga stride size upto, .smatch c stride cmp size p upto, .sseek c ga stride cmp size p upto])))) →
    exec i s = .fault .reservedUse

/-! ### Resets, bring-up and the PCI Express link (15, 09 R258 to R265, 19 R491, 20 R514) -/

/-- PORn and an undervoltage leave every register at its reset value, every slot byte at its default, the trim RAM lost (02 R44) and VALID of
the track mirror clear (06 R178), and keep every other RAM byte; that they keep it, and that lost trim bytes read 0, is the model's choice
(log entry 3). A bring-up whose steps become ready within 4 attempts starts core 0; a step that never does is
recorded and the domains stay in reset (15 R425, 19 R491, 20 R514). -/
def Obligations.BringUpStartsCore0OrFails : Prop :=
  (∀ (i : Instr) (s : State), i = .pornAssert ∨ i = .vdd33Undervoltage → Completes i s (fun t =>
    t.boot = State.reset.boot ∧ t.clk = { State.reset.clk with now := s.clk.now } ∧ t.pwr = State.reset.pwr ∧ t.drone = State.reset.drone ∧
    t.rings = State.reset.rings ∧ t.jrn = [] ∧ t.chn = State.reset.chn ∧ t.crl = State.reset.crl ∧ t.ctx = State.reset.ctx ∧
    t.core0 = State.reset.core0 ∧ t.core1 = State.reset.core1 ∧ t.icu = State.reset.icu ∧ t.tmr = State.reset.tmr ∧ t.epoch = 0 ∧
    ∀ a, t.mem.byte a = if (ctxBase ≤ a ∧ a < ctxBase + 0x4000) ∨ (trimRam ≤ a ∧ a < trimRam + 0x18000) ∨
        (mirrorBase + 4 ≤ a ∧ a < mirrorBase + 8) then Memory.background a else s.mem.byte a)) ∧
  (∀ (role : Role) (maddr : Nat) (eeprom : Bool) (f : StepFails) (s : State), s.boot.phase = .held → s.pwr.state ≠ .dormant →
    (f.xtal < 4 → f.ldo < 4 → f.pll < 4 → Completes (.pornRelease role maddr eeprom f) s (fun t =>
      t.boot.phase = .rom ∧ t.boot.role = role ∧ t.boot.maddr = maddr % 8 ∧ t.boot.eepromSel = eeprom ∧ t.clk.core = true ∧
      t.clk.afe = true ∧ t.clk.pllLock = true ∧ (t.clk.link = true ↔ role = .root ∨ role = .member) ∧
      (t.clk.host = true ↔ role = .root ∨ role = .standalone) ∧ t.pwr.state = .active ∧ t.pwr.limp = false ∧
      t.twm.alertRestart = true ∧ t.core0 = s.core0)) ∧
    (4 ≤ f.xtal → Completes (.pornRelease role maddr eeprom f) s (fun t =>
      t.boot.phase = .failed ∧ t.pwr.failStep = 2 ∧ t.pwr.failAttempts = 4 ∧ t.clk.core = s.clk.core ∧ t.twm.alertWake = true))) ∧
  (∀ (f : StepFails) (s : State), s.boot.phase = .failed → f.xtal < 4 → f.ldo < 4 → f.pll < 4 →
    Completes (.bringupRetry f) s (fun t => t.boot.phase = .rom ∧ t.clk.core = true ∧ t.boot.role = s.boot.role)) ∧
  ∀ s : State, s.memOk → exec .aonCrystalSwitch s = .next { s with clk.aonXtal := true }

/-- What a reset of the tile leaves in every case: core 0 at the boot ROM in boot/recovery mode, the epoch counter, journal, slots and
core 1 at their reset values, and the HOST register file kept. -/
def TileWasReset (s t : State) : Prop :=
  t.boot.phase = .rom ∧ t.boot.ready = false ∧ t.core0 = State.reset.core0 ∧ t.core1 = State.reset.core1 ∧ t.mbx.run = false ∧
  t.epoch = 0 ∧ t.jrn = [] ∧ t.rings.en = false ∧ t.rings.act = false ∧ t.ctx.slots = List.replicate 8 .empty ∧ t.clk.core = true ∧
  t.twm.alertRestart = true ∧ t.host.scratch = s.host.scratch ∧ t.host.rtbl = s.host.rtbl

/-- RESET_CTL with its key, loss of lock, the watchdog's third expiry and a brown-out in DRONE reset the domains and restart core 0; the
watchdog first raises its source, then takes the recovery trap; RESET_CTL without its key does nothing (09 R273, 14 R408, 15 R414, R425,
16 R446). -/
def Obligations.ResetCausesRestartTheTile : Prop :=
  (∀ (key : Nat) (s : State), s.hostReach = true →
    (key % 256 = 0xC5 → Completes (.resetCtlCore key) s (fun t =>
        TileWasReset s t ∧ t.clk.rstCoreCtl = true ∧ t.pwr.hold = false ∧ t.out.arrayResets = s.out.arrayResets) ∧
      Completes (.resetCtlArray key) s (fun t =>
        TileWasReset s t ∧ t.clk.rstCoreCtl = true ∧ t.out.arrayResets = s.out.arrayResets + if s.isRoot then 1 else 0)) ∧
    (key % 256 ≠ 0xC5 → s.memOk → exec (.resetCtlCore key) s = .next s ∧ exec (.resetCtlArray key) s = .next s)) ∧
  (∀ (f : StepFails) (s : State), s.clk.pllLock = true →
    (f.pll < 4 → Completes (.pllUnlock f) s (fun t =>
      TileWasReset s t ∧ t.clk.unlock = Nat.min (s.clk.unlock + 1) 255 ∧ t.clk.rstUnlock = true ∧ t.clk.pllLock = true ∧
      t.pwr.limp = false)) ∧
    (4 ≤ f.pll → Completes (.pllUnlock f) s (fun t =>
      t.pwr.limp = true ∧ t.pwr.hold = true ∧ t.pwr.failStep = 3 ∧ t.clk.link = false ∧ t.clk.limpClk = true ∧
      t.twm.alertWake = true))) ∧
  (∀ s : State, s.pwr.state = .drone → Completes .coreBrownout s (fun t =>
    TileWasReset s t ∧ t.clk.rstCoreBo = true ∧ (s.pwr.limp = false → t.pwr.state = .idleScan ∧ t.pwr.busy = false ∧ t.clk.afe = true) ∧
    (s.pwr.limp = true → t.pwr.state = .drone ∧ t.pwr.limp = true ∧ t.pwr.hold = s.pwr.hold))) ∧
  ∀ s : State, s.tmr.wdEn = true → s.clk.core = true →
    (s.tmr.stage = 0 → Completes .watchdogExpiry s (fun t =>
      t.tmr = { s.tmr with stage := 1, wdCnt := s.tmr.wdLoad } ∧ t.core0 = s.core0 ∧
      (s.icu.src.length = 48 → t.srcAt 46 = ((s.srcAt 46).arrival).1))) ∧
    (s.tmr.stage = 1 → Completes .watchdogExpiry s (fun t =>
      t.tmr = { s.tmr with stage := 2, wdCnt := s.tmr.wdLoad, traps := Nat.min (s.tmr.traps + 1) 15 } ∧ t.core0.pc = 0x100#32 ∧
      t.core0.brm = true ∧ t.core0.vbase = 0x1000#32 ∧ t.core0.epc = s.core0.epc ∧ t.core1 = s.core1)) ∧
    (2 ≤ s.tmr.stage → Completes .watchdogExpiry s (fun t => TileWasReset s t ∧ t.clk.rstWdog = true))

/-- Hot reset, link down and VDDSER removal keep the pointers, SCRATCH and the journal and count LINKRST; FLR clears the journal and SCRATCH;
PERST# clears the register file; each stops the rings and clears Bus Master Enable (09 R265, 15 R425, R428). PERST# high releases WAKE#
and, where HOST is on outside DORMANT, starts training and raises HOST_RESET; in DORMANT it is a wake source; the link then comes up at its speed and width; D-state, Bus Master Enable and link power changes take effect, and DMA
that resumes polls at once (09 R260, R261, R264, 10 R275); a read of the device that times out is counted, and a poll still owed follows it
(09 R258, R275). The configuration registers ride on the Bus Master Enable command (the model's choice, log entry 117), and when LTR goes out
is the model's choice (log entry 114). -/
def Obligations.LinkResetsAndStateChanges : Prop :=
  (∀ s : State, s.hostSide = true → s.clk.host = true →
    let stopped (t : State) : Prop := t.rings.en = false ∧ t.rings.act = false ∧ t.host.bme = false ∧ t.boot = s.boot
    let kept (t : State) : Prop := t.jrn.map (fun e => (e.cmd, e.d, e.stage)) = s.jrn.map (fun e => (e.cmd, e.d, e.stage)) ∧
      t.rings.cplPi = s.rings.cplPi ∧ t.host.scratch = s.host.scratch ∧ t.host.rtbl = s.host.rtbl ∧
      t.host.interval = s.host.interval ∧ t.host.cntLinkrst = Nat.min (s.host.cntLinkrst + 1) 255 ∧ t.ctx.slots = s.ctx.slots
    Completes .hotReset s (fun t => stopped t ∧ kept t ∧ t.host.link = s.host.link) ∧
    Completes .dlDown s (fun t => stopped t ∧ kept t ∧ t.host.link = .down) ∧
    Completes .vddserRemoval s (fun t => stopped t ∧ kept t ∧ t.host.link = .down ∧
      (s.clk.link = true → t.crl.up = { state := 1 } ∧ t.crl.dn = { state := 1 })) ∧
    Completes .flr s (fun t => stopped t ∧ t.jrn = [] ∧ t.host.scratch = 0#32 ∧ t.host.cntLinkrst = 0 ∧ t.host.rtbl = s.host.rtbl ∧
      t.rings.cmdCi = 0 ∧ t.rings.tableValid = false) ∧
    (s.pwr.awaitL2 = false → Completes .perstAssert s (fun t => stopped t ∧ t.jrn = [] ∧ t.host.scratch = 0#32 ∧ t.host.rtbl = 0 ∧
      t.host.perst = true ∧ t.host.link = .down ∧ t.clk.rstPerst = true))) ∧
  (∀ s : State, s.hostSide = true →
    (s.host.perst = true → Completes .perstDeassert s (fun t =>
      t.host.perst = false ∧ t.host.wakePin = false ∧ t.host.dstate = .d0 ∧ t.host.crs = true ∧ t.clk.host = s.clk.host ∧
      (s.pwr.state ≠ .dormant → s.clk.host = true → t.host.link = .training ∧ (s.clk.core = true → s.icu.src.length = 48 → t.srcAt 30 = ((s.srcAt 30).arrival).1)) ∧
      (s.pwr.state ≠ .dormant → s.clk.host = false → t.host.link = s.host.link) ∧
      (s.pwr.state = .dormant → t.host.link = s.host.link ∧ (s.pwr.wakeDue = [] → t.pwr.wakeDue = [0x02])))) ∧
    (s.clk.host = true → ∀ (gen width : Nat) (d : DState) (on : Bool) (cfg : CfgCtl) (l : LinkState),
      (s.memOk → s.host.perst = false → 1 ≤ gen → gen ≤ 3 → width = 1 ∨ width = 2 → s.host.link = .training →
        exec (.pcieLinkUp gen width) s = .next { s with
          host.link := .l0, host.gen := gen, host.width := width, host.crs := false
          out.ltrs := s.out.ltrs ++ [{ snoop := if s.pwr.state = .drone then 3000 else 100, noSnoop := false }] }) ∧
      (d ≠ s.host.dstate → Completes (.pcieDstateChange d) s (fun t => t.host = { s.host with dstate := d } ∧
        (s.rings.act = true → s.rings.draining = false → s.host.bme = true → s.host.link = .l0 → d = .d0 →
          .doorbell ∈ t.rings.reads))) ∧
      Completes (.busMasterEnableChange on cfg) s (fun t => ({ t.host with vecs := s.host.vecs } : HostPort) = { s.host with
          bme := on, relaxed := cfg.relaxed, cfg := { s.host.cfg with
            bar0 := cfg.bar0 / 65536 * 65536 % 2 ^ 64, maxPayload := cfg.maxPayload, maxRead := cfg.maxRead
            msixEn := cfg.msixEn, msixMask := cfg.msixMask } } ∧
        (s.rings.act = true → s.rings.draining = false → s.host.bme = false → on = true → s.host.link = .l0 → s.host.dstate = .d0 →
          .doorbell ∈ t.rings.reads)) ∧
      (s.host.link = .l0 → l = .l1 ∨ l = .l1_2 → Completes (.linkPmChange l) s (fun t => t.host = { s.host with link := l } ∧
        (s.clk.core = true → s.icu.src.length = 48 → t.srcAt 31 = ((s.srcAt 31).arrival).1)))) ∧
    (s.rings.reads = [.doorbell] → s.otherTags < 32 → Completes .pcieCompletionTimeout s (fun t =>
      (s.rings.pollAgain = false → t.rings.reads = []) ∧ (s.rings.pollAgain = true → s.ringsOk = true → t.rings.reads = [.doorbell]) ∧
      t.rings.pollAgain = false ∧ t.host.hostrd = true ∧ t.host.cntHostrd = Nat.min (s.host.cntHostrd + 1) 255 ∧ t.hdma.timeout = Nat.min (s.hdma.timeout + 1) 255)))

/-! ### The register file and the rings (09, 10) -/

/-- A host read returns the bytes of the registers it addresses, 0xFFFF_00nn while a register's home domain nn is off, and all ones when
the function cannot answer; it clears exactly the RC fields it returns a bit of (09 R268, R269, R271). -/
def Obligations.HostReadsReturnTheirRegisters : Prop :=
  ∀ (off size : Nat) (s : State), size ≤ 8 →
    (s.hostReach = true → Completes (.hostRegisterRead off size) s (fun t =>
      t.host.reply.length = size ∧
      (∀ i, i < size → off + i < 0x80 →
        let o := (off + i) / 4 * 4
        t.host.reply.getD i 0 = BitVec.ofNat 8
          ((if s.hostDomOn (regHome s o) then hostReg s o else 0xFFFF0000 + regHome s o) / 256 ^ ((off + i) % 4))) ∧
      (∀ i, i < size → 0x80 ≤ off + i → off + i < 0x8000 → t.host.reply.getD i 0 = 0#8) ∧
      t.host.cntLinkrst = (if off ≤ 0x46 ∧ 0x46 < off + size then 0 else s.host.cntLinkrst) ∧
      t.host.cntDropwr = (if off ≤ 0x47 ∧ 0x47 < off + size then 0 else s.host.cntDropwr) ∧
      t.host.scratch = s.host.scratch ∧ t.jrn = s.jrn ∧ t.rings = s.rings)) ∧
    (s.hostReach = false → Completes (.hostRegisterRead off size) s (fun t =>
      t.host = { s.host with reply := List.replicate size 0xFF#8 })) ∧
    (s.hostReach = true → s.clk.core = false → Completes (.hostRegisterRead 0x068 4) s (fun t =>
      t.host.reply = [0x02#8, 0x00#8, 0xFF#8, 0xFF#8]))

/-- A write takes effect only as an aligned one of 4 or 8 bytes; any other is dropped, flagged and counted; a write to an off domain is
counted with the domain; a pointer pair takes effect with its upper half, and only while the rings are disabled (08 R255, 09 R268, R269,
R273). MSIX_MOD sets one vector or every vector, COUNT 0 keeping each vector's own; the floor and CLRLIMP; the diagnostic window; a vector
unmasked with its message held sends it (09 R273, R276, R279, 10 R312, 16 R431, R449). -/
def Obligations.HostWritesObeyTheirRules : Prop :=
  (∀ (s : State) (v : Word) (p : PtrPair), s.hostReach = true → s.memOk →
    exec (.registerWrite 0x074 4 v.toNat) s = .next { s with host.scratch := v } ∧
    exec (.registerWrite 0x068 4 v.toNat) s = .next s ∧
    exec (.registerWrite 0x040 4 v.toNat) s = .next { s with
      host.hiwr := s.host.hiwr && !v.getLsbD 0, host.narrow := s.host.narrow && !v.getLsbD 1,
      host.rtblErr := s.host.rtblErr && !v.getLsbD 2, host.hostrd := s.host.hostrd && !v.getLsbD 3,
      host.parity := s.host.parity && !v.getLsbD 4, host.offacc := s.host.offacc && !v.getLsbD 5,
      host.wakeFail := s.host.wakeFail && !v.getLsbD 6, host.dualMis := s.host.dualMis && !v.getLsbD 7,
      host.memberLost := s.host.memberLost && !v.getLsbD 8 } ∧
    (∀ off size, off < 0x80 → ¬((size = 4 ∨ size = 8) ∧ off % 4 = 0) →
      exec (.registerWrite off size v.toNat) s = .next { s with
        host.narrow := true, host.cntDropwr := Nat.min (s.host.cntDropwr + 1) 255 }) ∧
    (s.clk.core = false → exec (.registerWrite 0x014 4 v.toNat) s = .next { s with
      host.offacc := true, host.offCount := Nat.min (s.host.offCount + 1) 65535, host.offDom := 2 }) ∧
    Completes (.pointerLoWrite p v) s (fun t => t.rings = s.rings ∧ t.host.rtbl = s.host.rtbl ∧ t.host.dbpg = s.host.dbpg ∧
      t.host.stpg = s.host.stpg ∧
      t.host.rtblLo = (if p = .rtbl then v.toNat / 256 * 256 else s.host.rtblLo) ∧
      t.host.dbpgLo = (if p = .dbpg then v.toNat / 4096 * 4096 else s.host.dbpgLo) ∧
      t.host.stpgLo = (if p = .stpg then v.toNat / 4096 * 4096 else s.host.stpgLo)) ∧
    (s.rings.en = false → s.rings.act = false →
      exec (.pointerHiWrite .rtbl v) s = .next { s with host.rtbl := v.toNat * 2 ^ 32 + s.host.rtblLo } ∧
      exec (.pointerHiWrite .dbpg v) s = .next { s with host.dbpg := v.toNat * 2 ^ 32 + s.host.dbpgLo } ∧
      exec (.pointerHiWrite .stpg v) s = .next { s with host.stpg := v.toNat * 2 ^ 32 + s.host.stpgLo } ∧
      ∀ w : Word, exec (.registerWrite 0x01C 8 (v.toNat + 2 ^ 32 * w.toNat)) s = .next { s with
        host.rtblLo := v.toNat / 256 * 256, host.rtbl := w.toNat * 2 ^ 32 + v.toNat / 256 * 256 }) ∧
    (s.rings.act = true → exec (.pointerHiWrite p v) s = .next { s with
      host.hiwr := true, host.cntDropwr := Nat.min (s.host.cntDropwr + 1) 255 })) ∧
  (∀ (s : State) (v : Word) (vec : Fin 16), s.hostReach = true →
    (s.host.vecs.length = 16 → Completes (.msixModWrite v) s (fun t => t.host.modVec = v.toNat / 2 ^ 16 % 16 ∧
      ∀ k : Fin 16, let x := s.host.vecs.getD k {}
        t.host.vecs.getD k {} = if v.getLsbD 20 ∨ k.val = v.toNat / 2 ^ 16 % 16 then
          { x with count := if v.toNat % 16 = 0 then x.count else v.toNat % 16, time := v.toNat / 16 % 1024, since := 0 } else x)) ∧
    (∀ st, st < 4 → (s.pwr.busy = false → Completes (.pwrReqStateWrite st) s (fun t => t.pwr.floor = st ∧ t.pwr.floorNext = s.pwr.floorNext ∧
        (s.pwr.wakeDue = [] → t.pwr.wakeDue = if st < s.shownState then [0x01] else []))) ∧
      (s.pwr.busy = true → Completes (.pwrReqStateWrite st) s (fun t => t.pwr.floor = s.pwr.floor ∧ t.pwr.floorNext = some st))) ∧
    (∀ st, 4 ≤ st → st < 8 → Completes (.pwrReqStateWrite st) s (fun t => t.pwr = s.pwr)) ∧
    Completes .clrlimp s (fun t => t.pwr.hold = false ∧
      (s.pwr.limp = true → s.pwr.floor < 2 → t.pwr.busy = true ∧ t.pwr.attempts = 0 ∧
        t.pwr.target = if s.pwr.floor = 0 then PState.active else PState.idleScan)) ∧
    (s.clk.core = true → s.pwr.limp = false →
      Completes (.diagSelWrite v) s (fun t => t.host.diagItem = v.toNat % 65536 ∧ t.host.diagTile = v.toNat / 65536 % 64 ∧
        (v.toNat / 65536 % 64 = 0 → t.host.diagBusy = false) ∧
        (v.toNat / 65536 % 64 ≠ 0 → s.isOnline (v.toNat / 65536 % 64) = false → t.host.diagBusy = false ∧ t.host.diagData = 0xFFFFFFFF#32) ∧
        (v.toNat / 65536 % 64 ≠ 0 → s.isOnline (v.toNat / 65536 % 64) = true → t.host.diagBusy = true))) ∧
    (∀ tile item, s.memOk → s.host.diagBusy = true → s.host.diagTile = tile → s.host.diagItem = item → s.crl.inbox = [] →
      exec (.diagFetchResult tile item v) s = .next { s with host.diagBusy := false, host.diagData := v }) ∧
    (s.host.vecs.length = 16 → s.dmaOk = true → s.host.cfg.msixEn = true → s.host.cfg.msixMask = false →
      Completes (.msixVectorUnmask vec) s (fun t =>
        (t.host.vecs.getD vec {}).masked = false ∧
        t.out.msix = s.out.msix ++ if (s.host.vecs.getD vec {}).pend then [vec.val] else [])))

/-- A good ring table starts the rings, a bad one is refused with RTBL; the start waits while DMA is off and is carried out later; RING_EN
written 0 drains them (09 R273, 10 R281, R525). -/
def Obligations.RingsStartAndStop : Prop :=
  ∀ (s : State) (b : List Byte), s.rings.tableValid = false →
    let started (t : State) : Prop := t.rings.en = true ∧ t.rings.act = true ∧ t.rings.tableValid = true ∧
      t.rings.cmd = ringOf b 0 ∧ t.rings.cpl = ringOf b 1 ∧ t.rings.rpt = ringOf b 2 ∧ t.rings.str = ringOf b 3 ∧
      t.rings.evt = ringOf b 4 ∧ t.jrn = s.jrn
    let refused (t : State) : Prop := t.rings.en = false ∧ t.rings.act = false ∧ t.host.rtblErr = true
    (s.hostReach = true → s.hostDomOn 2 = true → s.boot.ready = true → s.rings.en = false → s.rings.act = false →
      (s.dmaOk = true → tableOk s b = true → Completes (.ringStart (some (.ok b))) s started) ∧
      (s.dmaOk = true → tableOk s b = false → Completes (.ringStart (some (.ok b))) s refused) ∧
      (s.dmaOk = false → s.memOk → exec (.ringStart (some (.ok b))) s = .next { s with rings.en := true, rings.startPending := true })) ∧
    (s.rings.startPending = true → s.dmaOk = true → s.rings.en = true → tableOk s b = true →
      Completes (.ringStartDeferred (some (.ok b))) s started) ∧
    (s.rings.reads = [.ringTable] → s.otherTags < 32 → s.rings.en = true → tableOk s b = true → Completes (.hostReadCompletion (.ok b)) s started) ∧
    (s.hostReach = true → s.hostDomOn 2 = true → s.boot.ready = true → Completes .ringStop s (fun t =>
      t.rings.en = false ∧ t.rings.act = s.rings.act ∧ t.rings.draining = s.rings.act ∧ t.jrn = s.jrn)) ∧
    (s.rings.draining = true → s.memOk → exec .ringDrainComplete s = .next { s with rings.act := false, rings.draining := false })

/-- Polls send one doorbell read; a write of POLL_NOW during a poll gives exactly one more (09 R275); the read's indices are taken when
they pass the tests of 10 R286 and kept as they were when not; descriptors fetched enter the journal with consecutive CMD and CPL indices
(10 R285, R287, R300, R301). -/
def Obligations.PollsAndFetchesFillTheJournal : Prop :=
  ∀ s : State, s.ringsOk = true → s.memOk →
    let polled : State := { s with rings.reads := s.rings.reads ++ [.doorbell] }
    (ReadReq.doorbell ∉ s.rings.reads →
      (s.host.interval ≠ 0 → s.pwr.state = .active → exec .doorbellPoll s = .next polled) ∧
      (s.rpt.hold ≠ [] → exec .fullRingPoll s = .next polled) ∧
      (s.hostReach = true → exec (.pollNow true) s = .next polled)) ∧
    (ReadReq.doorbell ∈ s.rings.reads → s.hostReach = true →
      exec (.pollNow true) s = .next { s with rings.pollAgain := true }) ∧
    (∀ cmdPi strPi cplCi rptCi evtCi : Nat, s.rings.reads = [.doorbell] → s.rings.pollAgain = false → s.otherTags < 32 →
      cmdPi < 2 ^ 32 → strPi < 2 ^ 32 → cplCi < 2 ^ 32 → rptCi < 2 ^ 32 → evtCi < 2 ^ 32 →
      Completes (.doorbellReadComplete cmdPi strPi cplCi rptCi evtCi) s (fun t => t.rings.reads = [] ∧
        t.rings.cmdPi = (if diff32 cmdPi s.rings.cmdCi ≤ 2 ^ s.rings.cmd.log2n ∧
            diff32 s.rings.cmdPi s.rings.cmdCi ≤ diff32 cmdPi s.rings.cmdCi then cmdPi else s.rings.cmdPi) ∧
        t.rings.cplCi = (if diff32 cplCi s.rings.cplCi ≤ diff32 s.rings.cplPi s.rings.cplCi then cplCi else s.rings.cplCi) ∧
        t.rings.rptCi = (if diff32 rptCi s.rings.rptCi ≤ diff32 s.rings.rptPi s.rings.rptCi then rptCi else s.rings.rptCi) ∧
        t.rings.evtCi = (if diff32 evtCi s.rings.evtCi ≤ diff32 s.rings.evtPi s.rings.evtCi then evtCi else s.rings.evtCi))) ∧
    ∀ b : List Byte, 0 < s.fetchable → s.fetching = false → s.readOk = true → b.length = 32 * s.fetchable →
      Completes (.descriptorFetch (some (.ok b))) s (fun t => t.jrn.length = s.jrn.length + s.fetchable ∧
        (s.rings.fetch < 2 ^ 32 → t.rings.fetch = (s.rings.fetch + s.fetchable) % 2 ^ 32) ∧
        (s.rings.cplNext < 2 ^ 32 → t.rings.cplNext = (s.rings.cplNext + s.fetchable) % 2 ^ 32))

/-- The journal holds command `op` at CMD index `j` as entry `e`, ready to be carried out. -/
def Ready (op j : Nat) (e : JEntry) (s : State) : Prop :=
  s.entry j = some e ∧ e.stage = .issued ∧ e.wait = .start ∧ e.d.opcode = op ∧ s.fwRuns = true ∧ s.hostSide = true ∧
    s.mayStart e = true ∧ rejectCode s e.d = 0

/-- NOP and FENCE complete, a FENCE after a flush read when Relaxed Ordering is on; the completion is written once, to the slot reserved
for it, with its fields and phase; a forwarded command that goes unanswered is sent again once if repeating it is harmless and else ends
with TIMEOUT (10 R282, R291, R295, R297, R299, R300). -/
def Obligations.CommandsCompleteThroughTheJournal : Prop :=
  (∀ (j : Nat) (e : JEntry) (s : State), Ready 0x00 j e s → Completes (.nop j) s (fun t =>
    t.entry j = some { e with stage := .applied, wait := .start, code := 0, r0 := 0, r1 := 0, ctile := 0, tiles := [] })) ∧
  (∀ (j : Nat) (e : JEntry) (s : State), Ready 0x01 j e s → s.ringsOk = true → earlierPosted s j = true → s.flushOk = true →
    (s.host.relaxed = true → Completes (.fence j) s (fun t =>
      t.entry j = some { e with wait := .fence } ∧ t.out.flushes = s.out.flushes ++ [s.rings.cpl.base + 16 * (e.cpl % 2 ^ s.rings.cpl.log2n)])) ∧
    (s.host.relaxed = false → Completes (.fence j) s (fun t => (t.entry j).map (·.stage) = some .applied ∧
      t.out.flushes = s.out.flushes))) ∧
  (∀ (j : Nat) (e : JEntry) (s : State), s.entry j = some e → e.wait = .fence → e.stage = .issued →
    Completes (.flushReadComplete j) s (fun t => t.entry j = some { e with
      stage := .applied, wait := .start, code := 0, r0 := 0, r1 := 0, ctile := 0, tiles := [], flushed := true })) ∧
  (∀ (j : Nat) (e : JEntry) (s : State), s.entry j = some e → e.stage = .applied → e.wait = .start → s.ringsOk = true → s.fwRuns = true →
    later s.rings.cplCi e.cpl = false → (e.d.dfence = false ∨ s.host.relaxed = false ∨ e.flushed = true) → e.ctile < 64 →
    Completes (.completionPost j) s (fun t => t.entry j = some { e with stage := .posted, redo := false } ∧
      ∃ w : HostWrite, t.out.writes = s.out.writes ++ [w] ∧ w.addr = s.rings.cpl.base + 16 * (e.cpl % 2 ^ s.rings.cpl.log2n) ∧
        w.data.length = 16 ∧ leAt w.data 0 2 = e.d.tag % 2 ^ 16 ∧ leAt w.data 2 1 = e.d.opcode % 256 ∧ leAt w.data 3 1 = e.code % 256 ∧
        leAt w.data 4 4 = e.r0 % 2 ^ 32 ∧ leAt w.data 8 4 = e.r1 % 2 ^ 32 ∧ leAt w.data 12 2 = e.cmd % 2 ^ 16 ∧
        leAt w.data 14 1 = e.ctile ∧ leAt w.data 15 1 = (if e.cpl / 2 ^ s.rings.cpl.log2n % 2 = 0 then 128 else 0) ∧
        (w.ro = true ↔ s.host.relaxed = true ∧ e.d.dfence = false))) ∧
  ∀ (j tile : Nat) (e : JEntry) (s : State), s.entry j = some e → e.stage = .issued → tile ≠ 0 → e.tiles = [tile] →
    s.isOnline tile = true →
    (((opInfo e.d.opcode).map (·.idem)) = some true → tile ∉ e.resent →
      Completes (.forwardTimeout j tile) s (fun t => (t.entry j).map (fun x => (x.stage, x.tiles, x.resent)) =
        some (.issued, [tile], e.resent ++ [tile]))) ∧
    (((opInfo e.d.opcode).map (·.idem)) = some false ∨ tile ∈ e.resent → e.code = 0 →
      Completes (.forwardTimeout j tile) s (fun t => (t.entry j).map (fun x => (x.stage, x.code, x.ctile)) =
        some (.applied, 0x08, tile)))

/-- Status pages, events and reports leave as writes to their page or slot, an index advances with each record, a full ring keeps its records
back and polls at once, and a vector whose time expires sends its message (09 R276, 10 R287, R289, R305 to R308, R312). The host DMA engine moves its bytes
and ends with DONE; a post writes its record and advances its index (10 R313), an event while core 0's buffer has room (the model's
choice, log entry 131). -/
def Obligations.RecordsAndDmaLeaveInOrder : Prop :=
  (∀ s : State, s.ringsOk = true →
    (s.rings.dirty = true → Completes .statusPageWrite s (fun t => t.rings.dirty = false ∧ t.rings.heartbeat = s.rings.heartbeat ∧
      ∃ w : HostWrite, t.out.writes = s.out.writes ++ [w] ∧ w.addr = s.host.stpg ∧ w.data.length = 64 ∧ w.ro = false ∧
        leAt w.data 0 4 = s.rings.cmdCi % 2 ^ 32 ∧ leAt w.data 8 4 = s.rings.cplPi % 2 ^ 32 ∧ leAt w.data 16 4 = s.rings.evtPi % 2 ^ 32 ∧
        leAt w.data 20 4 = s.epoch % 2 ^ 32)) ∧
    (s.pwr.state = .drone → Completes .statusPageTimer s (fun t => t.rings.heartbeat = min (s.rings.heartbeat + 1) (2 ^ 32 - 1) ∧
      ∃ w : HostWrite, t.out.writes = s.out.writes ++ [w] ∧ w.addr = s.host.stpg ∧ leAt w.data 24 4 = min (s.rings.heartbeat + 1) (2 ^ 32 - 1))) ∧
    (∀ e : Ev, s.evt.buf[s.evt.written]? = some e → s.evt.seq < 65536 → s.fwRuns = true →
      (diff32 s.rings.evtPi s.rings.evtCi < 2 ^ s.rings.evt.log2n → Completes .eventWrite s (fun t =>
        t.evt.written = s.evt.written + 1 ∧ t.evt.buf = s.evt.buf ∧ t.rings.evtPi = (s.rings.evtPi + 1) % 2 ^ 32 ∧
        ∃ w : HostWrite, t.out.writes = s.out.writes ++ [w] ∧ w.addr = s.rings.evt.base + 16 * (s.rings.evtPi % 2 ^ s.rings.evt.log2n) ∧
          w.data.length = 16 ∧ leAt w.data 0 1 = e.code % 256 ∧ leAt w.data 2 2 = s.evt.seq ∧ leAt w.data 4 4 = e.epoch % 2 ^ 32 ∧
          leAt w.data 8 4 = e.d0 % 2 ^ 32)) ∧
      (s.memOk → 2 ^ s.rings.evt.log2n ≤ diff32 s.rings.evtPi s.rings.evtCi →
        (ReadReq.doorbell ∉ s.rings.reads → exec .eventWrite s = .next { s with rings.reads := s.rings.reads ++ [.doorbell] }) ∧
        (ReadReq.doorbell ∈ s.rings.reads → exec .eventWrite s = .next { s with rings.pollAgain := true }))) ∧
    (∀ (r : RptImg) (rest : List RptImg) (us : Nat), s.rpt.hold = [] → s.rpt.due = r :: rest →
      (diff32 s.rings.rptPi s.rings.rptCi < 2 ^ s.rings.rpt.log2n → Completes (.reportPost us) s (fun t =>
        t.rpt.due = rest ∧ t.rpt.hold = [] ∧ t.rings.rptPi = (s.rings.rptPi + 1) % 2 ^ 32 ∧
        ∃ w1 w2 : HostWrite, t.out.writes = s.out.writes ++ [w1, w2] ∧ w2.ro = false ∧
          w2.addr = s.rings.rpt.base + 2112 * (s.rings.rptPi % 2 ^ s.rings.rpt.log2n) ∧ w1.addr = w2.addr + 64)) ∧
      (2 ^ s.rings.rpt.log2n ≤ diff32 s.rings.rptPi s.rings.rptCi → s.isRoot = true → r.nrec ≤ 960 → Completes (.reportPost us) s (fun t =>
        t.rpt.due = rest ∧ t.rpt.hold = [r] ∧ t.out.writes = s.out.writes))) ∧
    ∀ vec : Fin 16, s.host.vecs.length = 16 → (s.host.vecs.getD vec {}).unsignalled ≠ 0 → (s.host.vecs.getD vec {}).limit ≠ 0 →
      s.rings.dirty = false → (s.host.vecs.getD vec {}).masked = false → s.host.cfg.msixEn = true → s.host.cfg.msixMask = false →
      Completes (.msixTimeLimit vec) s (fun t => t.out.msix = s.out.msix ++ [vec.val] ∧ (t.host.vecs.getD vec {}).unsignalled = 0)) ∧
  (∀ s : State, s.memOk →
    (∀ v : Word, s.clk.core = true → s.clk.host = true → s.hostSide = true → s.hdma.busy = false → v.getLsbD 0 = true → s.dmaOk = true → inSram s.hdma.laddr s.hdma.len = true →
      Completes (.hdmaJobStart v) s (fun t => t.hdma.busy = true ∧ t.hdma.dir = v.getLsbD 1 ∧ t.hdma.len = s.hdma.len)) ∧
    (∀ e : HdmaEnd, s.hdma.busy = true → s.dmaOk = true → e.result = 0 → Completes (.hdmaJobDone e) s (fun t =>
      t.hdma.busy = false ∧ t.hdma.done = true ∧ t.hdma.result = 0 ∧ t.hdma.xfer = s.hdma.len ∧
      (s.hdma.dir = true → t.mem = s.mem ∧ t.out.writes = s.out.writes ++ [{
        addr := s.hdma.haddrHi.toNat * 2 ^ 32 + s.hdma.haddrLo.toNat, data := s.mem.read s.hdma.laddr s.hdma.len,
        ro := s.hdma.ro && s.host.relaxed }]) ∧
      (s.hdma.dir = false → t.out.writes = s.out.writes ∧
        (∀ i, i < s.hdma.len → t.mem.byte (s.hdma.laddr + i) = e.data.getD i 0) ∧
        ∀ x, x < s.hdma.laddr ∨ s.hdma.laddr + s.hdma.len ≤ x → t.mem.byte x = s.mem.byte x))) ∧
    (∀ v : Word, s.clk.core = true → s.clk.host = true → s.hostSide = true → s.hdma.pbusy = false → v.getLsbD 3 = true → s.ringsOk = true → v.toNat % 8 = 4 →
      diff32 s.rings.evtPi s.rings.evtCi < 2 ^ s.rings.evt.log2n →
      Completes (.hdmaPost v) s (fun t => t.hdma.pbusy = true ∧ t.hdma.ring = 4 ∧ t.rings = s.rings)) ∧
    (s.hdma.pbusy = true → s.ringsOk = true → s.hdma.ring = 4 → s.evt.buf.length < 64 → Completes (.hdmaPostDone true) s (fun t =>
      t.hdma.pbusy = false ∧ t.hdma.presult = 0 ∧ t.rings.evtPi = (s.rings.evtPi + 1) % 2 ^ 32 ∧
      ∃ w : HostWrite, t.out.writes = s.out.writes ++ [w] ∧ w.addr = s.rings.evt.base + 16 * (s.rings.evtPi % 2 ^ s.rings.evt.log2n) ∧
        leAt w.data 0 4 = (s.hdma.recs.getD 0 0).toNat)))

/-! ### Interrupts, timers, the mailbox and parity (12, 14, 18) -/

/-- An arrival counts in ARR and passes the coalescing stage; a source no core can take is counted and raises source 47; while CLK_BUS is
stopped an edge is held, with one more for all that merge behind it, each of them counted (14 R392 to R396, 15 R419); sources 3 and 4 have no
edge of their own (14 R391). A completion clears ACT of a source its core owns and is counted
as bad else; ALL clears every ACT of the core; core 1 completes only for itself; a load of ICU_PEND clears the core's arrived bits and a
store cannot clear what arrived since; ICU_SRC takes its fields, of which core 1 writes only PRIO and the coalescing (14 R393, R399, R404,
R406). -/
def Obligations.ArrivalsAndInterruptRegisters : Prop :=
  (∀ (n : Fin 48) (s : State), s.memOk → s.icu.src.length = 48 →
    let r := s.srcAt n.val
    let arr := min (r.arr + 1) 15
    let sets (i : Instr) (f : Src → Src) : Prop := exec i s = .next (s.setSrc n.val f)
    (s.clk.core = true → n.val ≠ 3 → n.val ≠ 4 →
      (r.pend = true → sets (.sourceArrival n) (fun r => { r with arr := arr })) ∧
      (r.pend = false → r.c + 1 < r.ccount → sets (.sourceArrival n) (fun r => { r with arr := arr, c := r.c + 1 })) ∧
      (r.pend = false → r.ccount ≤ r.c + 1 → s.undeliverable n.val r = false →
        sets (.sourceArrival n) (fun r => { r with arr := arr, pend := true, c := 0, arrived0 := true, arrived1 := true })) ∧
      (r.pend = false → r.ccount ≤ r.c + 1 → r.target = true → r.fallback = false → r.mask = false → r.prio ≠ 0 →
        s.mbx.run = false ∨ s.mbx.halted = true → n.val ≠ 47 →
        Completes (.sourceArrival n) s (fun t => (t.srcAt n.val).pend = true ∧ t.icu.undCount = min (s.icu.undCount + 1) 255 ∧
          t.icu.undSrc = n.val ∧ (t.srcAt 47).arr = min ((s.srcAt 47).arr + 1) 15 ∧ ({ t with icu := s.icu } : State) = s)) ∧
      (r.pend = false → r.c ≠ 0 → r.ctime ≠ 0 → s.undeliverable n.val r = false →
        sets (.coalesceTimeout n) (fun r => { r with pend := true, c := 0, arrived0 := true, arrived1 := true })) ∧
      (r.pend = true → r.c ≠ 0 → r.ctime ≠ 0 → sets (.coalesceTimeout n) (fun r => { r with c := 0 }))) ∧
    (s.clk.core = false → s.coreInReset = false → n.val ≠ 3 → n.val ≠ 4 →
      let held := (s.icu.heldEdges.filter (fun m => m == n.val)).length
      (held = 0 → exec (.sourceArrival n) s = .next { s with icu.heldEdges := s.icu.heldEdges ++ [n.val] }) ∧
      (held = 1 → exec (.sourceArrival n) s = .next { s with
        icu.heldEdges := s.icu.heldEdges ++ [n.val], clk.mergeIcu := min (s.clk.mergeIcu + 1) 255 }) ∧
      (2 ≤ held → exec (.sourceArrival n) s = .next { s with clk.mergeIcu := min (s.clk.mergeIcu + 1) 255 })) ∧
    (n.val = 3 ∨ n.val = 4 → exec (.sourceArrival n) s = .next s)) ∧
  (∀ (core c : CoreId) (n : Fin 48) (x : Fin 2) (v : Word) (s : State), s.memOk → s.icu.src.length = 48 → s.canRun core = true →
    let r := s.srcAt n.val
    (core = .c0 ∨ c = .c1 →
      (r.act = true → r.own = (c == .c1) →
        exec (.icuDone core c n.val) s = .next (s.setSrc n.val (fun r => { r with act := false, own := false }))) ∧
      (r.act = false ∨ r.own ≠ (c == .c1) → exec (.icuDone core c n.val) s = .next
        { s with icu.badCount := min (s.icu.badCount + 1) 255, icu.badSrc := n.val, icu.badCore := core == .c1 }) ∧
      Completes (.icuDoneAll core c) s (fun t => ({ t with icu := { t.icu with src := s.icu.src } } : State) = s ∧
        ∀ m, m < 48 → t.srcAt m = if (s.srcAt m).act = true ∧ (s.srcAt m).own = (c == .c1)
          then { s.srcAt m with act := false, own := false } else s.srcAt m)) ∧
    (core = .c1 → c = .c0 → s.core1.exc = false → s.core1.slot = [] →
      exec (.icuDone core c n.val) s = .next (s.setCore .c1 (s.core1.trapped 2 s.core1.pc 0x40000030#32)) ∧
      exec (.icuDoneAll core c) s = .next (s.setCore .c1 (s.core1.trapped 2 s.core1.pc 0x40000030#32))) ∧
    Completes (.icuPendRead core x) s (fun t => ({ t with icu := { t.icu with src := s.icu.src } } : State) = s ∧
      ∀ m, m < 48 → t.srcAt m = if m / 32 = x.val then (match core with
        | .c0 => { s.srcAt m with arrived0 := false }
        | .c1 => { s.srcAt m with arrived1 := false }) else s.srcAt m) ∧
    Completes (.icuPendWrite core x v) s (fun t => ({ t with icu := s.icu } : State) = s ∧
      ∀ m, m < 47 → t.srcAt m = if m / 32 = x.val ∧ (core = .c0 ∨ (s.srcAt m).target = true)
        then { s.srcAt m with pend := v.getLsbD (m % 32) || ((s.srcAt m).pend && (match core with
          | .c0 => (s.srcAt m).arrived0
          | .c1 => (s.srcAt m).arrived1)) } else s.srcAt m) ∧
    (core = .c0 ∨ r.target = true → r.c = 0 → Completes (.icuSrcWrite core n v) s (fun t =>
      ({ t with icu := { t.icu with src := s.icu.src } } : State) = s ∧ t.srcAt n.val = { r with
        prio := v.toNat % 16, ccount := if v.toNat / 256 % 16 = 0 then r.ccount else v.toNat / 256 % 16,
        ctime := v.toNat / 65536 % 1024,
        target := if core = .c0 ∧ n.val ∉ [0, 1, 2, 47] then v.getLsbD 4 else r.target,
        fallback := if core = .c0 then v.getLsbD 5 else r.fallback })) ∧
    (core = .c1 → r.target = false → s.core1.exc = false → s.core1.slot = [] → exec (.icuSrcWrite core n v) s =
      .next (s.setCore .c1 (s.core1.trapped 2 s.core1.pc (BitVec.ofNat 32 (0x40000100 + 4 * n.val))))))

/-- The timers start, reload and expire to their source; the watchdog starts once and is kicked by its one value (14 R408). Pairs pass in
order through queues of eight, a full queue drops and counts; core 1 leaves reset at its pc, a start outside its code raising FETCH_BUS,
and goes back with its pairs and interrupts
discarded; the split moves only while it stands in reset (12 R367 to R372, 14 R396, R402). -/
def Obligations.TimersMailboxAndCore1Run : Prop :=
  (∀ (core : CoreId) (n : Fin 4) (v : Word) (s : State), s.memOk → s.tmr.t.length = 4 →
    let tm := s.tmr.t.getD n.val {}
    (s.canRun core = true →
      (core = .c0 ∨ 2 ≤ n.val →
        exec (.timerControlWrite core n v) s = .next (s.setTimer n.val (fun t => { t with
          en := v.getLsbD 0, periodic := v.getLsbD 1,
          cnt := if (v.getLsbD 0 = true ∧ t.en = false) ∨ v.getLsbD 2 = true then t.load else t.cnt })) ∧
        exec (.timerRestart core n) s = .next (s.setTimer n.val (fun t => { t with cnt := t.load }))) ∧
      (core = .c1 → n.val < 2 → s.core1.exc = false → s.core1.slot = [] →
        let e : Word := BitVec.ofNat 32 (0x40040000 + 0x10 * n.val)
        exec (.timerControlWrite core n v) s = .next (s.setCore .c1 (s.core1.trapped 2 s.core1.pc e)) ∧
        exec (.timerRestart core n) s = .next (s.setCore .c1 (s.core1.trapped 2 s.core1.pc e)))) ∧
    (s.clk.core = true →
      (tm.en = true → s.icu.src.length = 48 → Completes (.timerExpiry n) s (fun t =>
        t.tmr.t.getD n.val {} = (if tm.periodic then { tm with cnt := tm.load } else { tm with en := false, cnt := 0 }) ∧
        (t.srcAt (5 + n.val)).arr = min ((s.srcAt (5 + n.val)).arr + 1) 15 ∧ ({ t with icu := s.icu, tmr := s.tmr } : State) = s)) ∧
      (s.tmr.wdEn = false → v.getLsbD 0 = true →
        exec (.watchdogStart v) s = .next { s with tmr.wdEn := true, tmr.wdCnt := s.tmr.wdLoad }) ∧
      (s.tmr.wdEn = true → exec (.watchdogStart v) s = .next s) ∧
      (v.toNat % 65536 = 0x5A3C → exec (.watchdogKick v) s = .next { s with tmr.wdCnt := s.tmr.wdLoad, tmr.stage := 0 }) ∧
      (v.toNat % 65536 ≠ 0x5A3C → exec (.watchdogKick v) s = .next { s with tmr.badKick := min (s.tmr.badKick + 1) 255 }))) ∧
  (∀ (w : Word) (s : State), s.memOk → s.icu.src.length = 48 →
    (s.canRun .c0 = true →
      (s.mbx.q1.length < 8 → Completes (.mailboxPush .c0 w) s (fun t => t.mbx = { s.mbx with q1 := s.mbx.q1 ++ [(s.mbx.out0a, w)] } ∧
        (t.srcAt 1).arr = min ((s.srcAt 1).arr + 1) 15 ∧ ({ t with mbx := s.mbx, icu := s.icu } : State) = s)) ∧
      (8 ≤ s.mbx.q1.length → exec (.mailboxPush .c0 w) s = .next { s with mbx.drop0 := min (s.mbx.drop0 + 1) 255 }) ∧
      exec (.mailboxPop .c0) s = .next { s with mbx.q0 := s.mbx.q0.tail }) ∧
    (s.canRun .c1 = true →
      (s.mbx.q0.length < 8 → Completes (.mailboxPush .c1 w) s (fun t => t.mbx = { s.mbx with q0 := s.mbx.q0 ++ [(s.mbx.out0b, w)] } ∧
        (t.srcAt 0).arr = min ((s.srcAt 0).arr + 1) 15 ∧ t.core0 = s.core0 ∧ t.core1 = s.core1 ∧ t.mem = s.mem ∧
        (s.boot.phase = .running → s.isMember = false → s.evt.buf.length < 64 → t.evt.buf = s.evt.buf ++ [{
          code := 0x13, tile := 0, epoch := s.epoch, d0 := s.mbx.out0b.toNat, d1 := w.toNat % 2 ^ 31 }]))) ∧
      (8 ≤ s.mbx.q0.length → exec (.mailboxPush .c1 w) s = .next { s with mbx.drop1 := min (s.mbx.drop1 + 1) 255 }) ∧
      exec (.mailboxPop .c1) s = .next { s with mbx.q1 := s.mbx.q1.tail }) ∧
    (s.clk.core = true →
      (s.mbx.run = false → Completes .core1Run s (fun t => t.mbx.run = true ∧ t.core1.ie = false ∧
        (0x10000 ≤ s.mbx.c1pc.toNat → t.core1.pc = s.mbx.c1pc ∧ t.core1.exc = false) ∧
        (s.mbx.c1pc.toNat < 0x10000 → t.core1.exc = true ∧ t.core1.ecause = 1 ∧ t.core1.epc = s.mbx.c1pc) ∧
        t.core1.g.get 15 = 0x20020000#32 ∧ t.core1.vbase.toNat = (0x10000000 + 0x4000 * s.mbx.split) % 2 ^ 32 ∧
        ({ t with core1 := s.core1, mbx := { t.mbx with run := false } } : State) = s)) ∧
      (s.mbx.run = true → exec .core1Run s = .next s) ∧
      Completes .core1Stop s (fun t => t.mbx = { s.mbx with run := false, halted := false, q1 := [] } ∧ t.icu.thr1 = 0 ∧
        t.icu.cur1.valid = false ∧ (∀ m, m < 48 → (t.srcAt m).act = ((s.srcAt m).act && !(s.srcAt m).own)) ∧ t.pwr.taps = [] ∧
        ({ t with core1 := s.core1, mbx := s.mbx, icu := s.icu, pwr := { t.pwr with taps := s.pwr.taps, lifted := s.pwr.lifted } } : State) = s) ∧
      (s.mbx.run = false → w.toNat % 16 ≠ 0 → exec (.mbxSplitWrite w) s = .next { s with mbx.split := w.toNat % 16 }) ∧
      (s.mbx.run = true ∨ w.toNat % 16 = 0 → exec (.mbxSplitWrite w) s = .next s)))

/-! ### Parity, the two-wire ports and boot (17, 18, 19) -/

/-- The scrub goes on without a hit; a hit is captured once, counted and acted on as its store asks; a core 0 restart ends with the image in
code SRAM and the core at its start, or with the loader (18 R477, R482, R484, R486, 19 R503). -/
def Obligations.ParityHitsAndRestartTakeEffect : Prop :=
  ∀ (store index addr : Nat) (fw : Option (List Byte)) (b : List Byte) (s : State), s.memOk →
    let hit (P : State → Prop) : Prop := Completes (.scrubRead [{ store := store, index := index, addr := addr }]) s P
    (s.fwRuns = true → s.pwr.state = .active →
      exec (.scrubRead []) s = .next s ∧
      (s.icu.parValid = false → hit (fun t => t.icu.parValid = true ∧ t.icu.parStore = store ∧ t.icu.parAddr = addr ∧
        t.icu.parMulti = s.icu.parMulti ∧ t.icu.parCnt = min (s.icu.parCnt + 1) 65535)) ∧
      (s.icu.parValid = true → hit (fun t => t.icu.parStore = s.icu.parStore ∧ t.icu.parAddr = s.icu.parAddr ∧ t.icu.parMulti = true)) ∧
      (store = 0x01 ∨ store = 0x02 ∨ (store = 0x03 ∧ ¬(listenData ≤ addr ∧ addr < baseSelf)) → s.chn.prev.dcause = 0 →
        hit (fun t => t.chn.prev.dcause = 2)) ∧
      (store = 0x03 → listenData ≤ addr → addr < baseSelf → s.scans = true → s.chn.seg = 3 → s.chn.cur.dcause = 0 →
        hit (fun t => t.chn.cur.dcause = 2 ∧ t.chn.cur.listenBad = true)) ∧
      (store = 0x07 → hit (fun t => t.chn.prev.selfBad = true ∧ t.cal.selfFix = s.cal.selfFix ++ [index])) ∧
      (store = 0x09 → hit (fun t => t.trk.rebuild = true)) ∧
      (store = 0x0D → ((s.jrn[index]?).map (·.stage)) = some .retained → hit (fun t => t.jrn = s.jrn.eraseIdx index)) ∧
      (store = 0x0F → hit (fun t => t.boot.phase = .restart ∧ t.boot.ready = false ∧ t.boot.restartPar = true ∧
        t.core0.pc = 0x100#32 ∧ t.core0.brm = true ∧ t.core0.exc = false ∧ t.core0.ie = false)) ∧
      (store = 0x13 → hit (fun t => t.rpt.hold = s.rpt.hold.eraseIdx index ∧
        t.rpt.lost = (if index < s.rpt.hold.length then (s.rpt.lost + 1) % 2 ^ 32 else s.rpt.lost)))) ∧
    (s.boot.phase = .restart → s.isMember = false → s.clk.core = true →
      (s.boot.source = 0 → s.boot.parWait = [] → fw.bind (storedFirmware s.sets.header) = some b → Completes (.core0RestartComplete fw) s (fun t =>
        t.boot.phase = .running ∧ t.boot.ready = true ∧ t.core0.pc = 0x10000000#32 ∧ t.core0.brm = false ∧
        t.boot.fwLen = b.length ∧ t.boot.fwCrc = crc32 b ∧ ∀ i, i < b.length → t.mem.byte (0x10000000 + i) = b.getD i 0)) ∧
      (s.boot.source ≠ 0 → Completes (.core0RestartComplete fw) s (fun t => t.boot.phase = .loader ∧ t.boot.reload = true ∧
        t.boot.fwvalid = false)))

/-- The management port: the address is acknowledged as the power state allows, the first byte written is the pointer, which then moves on
with each byte but at the two data ports; reads return the register; the time-outs end a transaction (17 R454 to R460). The management
registers that act: WAKE, LIMPCLR, the mailbox both ways, the alert bits and their pin, and the alert response, which the lowest address
wins (16 R449, 17 R456, R461, R462, R476). -/
def Obligations.ManagementPortServesAndActs : Prop :=
  (∀ (read : Bool) (b : Byte) (s : State), s.memOk →
    let held : Bool := s.boot.phase == .held || s.boot.phase == .failed
    let serves : Prop := held = false ∧ s.clk.core = true ∧ s.twm.active = true ∧ s.twm.dead = false
    let onward (p : Nat) : Nat := if p = 0x11 ∨ p = 0x13 then p else (p + 1) % 64
    (held = true → s.pwr.state ≠ .dormant → exec (.twmAddressMatch read) s = .next { s with
      twm.active := false, twm.first := false, twm.dead := false, twm.stretch := false, twm.acked := false }) ∧
    (held = false → (s.pwr.limp = true ∧ s.pwr.state = .drone) ∨ s.pwr.state = .active ∨ s.pwr.state = .idleScan →
      exec (.twmAddressMatch read) s = .next { s with
        twm.active := true, twm.first := !read, twm.dead := false, twm.stretch := false, twm.acked := true }) ∧
    (held = false → s.pwr.limp = false → s.pwr.state = .drone → Completes (.twmAddressMatch read) s (fun t =>
      t.twm.active = s.pwr.wakeEn.testBit 6 ∧ t.twm.acked = s.pwr.wakeEn.testBit 6 ∧
      t.twm.stretch = (s.pwr.wakeEn.testBit 6 && !s.clk.core) ∧ (s.pwr.wakeEn.testBit 6 = true → 0x20 ∈ t.pwr.wakeDue))) ∧
    (s.pwr.state = .dormant → Completes (.twmAddressMatch read) s (fun t =>
      t.twm.acked = false ∧ (s.pwr.wakeEn.testBit 6 = true → 0x20 ∈ t.pwr.wakeDue))) ∧
    (serves →
      (s.twm.first = true → exec (.twmWriteByte b) s = .next { s with
        twm.first := false, twm.ptr := b.toNat % 64, twm.stretch := false, twm.acked := true }) ∧
      (s.twm.first = false →
        Completes (.twmWriteByte b) s (fun t => t.twm.ptr = onward s.twm.ptr ∧ t.twm.acked = true ∧
          (s.twm.ptr = 0x05 → t.twm.alertEn = b.toNat % 32) ∧ (s.twm.ptr = 0x18 → t.twm.slope = b.toNat % 4) ∧
          (s.twm.ptr = 0x13 → t.twm.inb = if s.twm.inb.length < 64 then s.twm.inb ++ [b] else s.twm.inb) ∧
          (s.twm.ptr ≠ 0x05 → t.twm.alertEn = s.twm.alertEn))) ∧
      Completes .twmReadByte s (fun t => t.twm.ptr = onward s.twm.ptr ∧
        (s.twm.ptr = 0x00 → t.twm.reply = 0x20#8) ∧ (s.twm.ptr = 0x01 → t.twm.reply = 0x64#8) ∧ (s.twm.ptr = 0x02 → t.twm.reply = 0xA1#8) ∧
        (s.twm.ptr = 0x0A → t.twm.reply = BitVec.ofNat 8 s.epoch ∧
          t.twm.epochB = [s.epoch / 2 ^ 8 % 256, s.epoch / 2 ^ 16 % 256, s.epoch / 2 ^ 24 % 256]) ∧
        (s.twm.ptr = 0x11 → t.twm.reply = s.twm.out.headD 0 ∧ t.twm.out = s.twm.out.tail) ∧
        (s.twm.ptr = 0x12 → s.twm.inb.length ≤ 64 → t.twm.reply.toNat = 64 - s.twm.inb.length) ∧
        (s.twm.ptr ≠ 0x11 → t.twm.out = s.twm.out))) ∧
    (s.twm.active = true → s.twm.dead = true →
      exec (.twmWriteByte b) s = .next { s with twm.acked := false } ∧ exec .twmReadByte s = .next { s with twm.reply := 0xFF#8 }) ∧
    (s.twm.active = true → Completes .twmSclTimeout s (fun t => t.twm.active = false ∧ t.twm.timeout = min (s.twm.timeout + 1) 255)) ∧
    (s.twm.stretch = true → s.clk.core = false → Completes .twmStretchTimeout s (fun t =>
      t.twm.dead = true ∧ t.twm.stretch = false ∧ t.twm.timeout = min (s.twm.timeout + 1) 255))) ∧
  (∀ (b v : Byte) (w : Word) (lowest : Nat) (s : State), s.memOk →
    (s.twmServes = true →
      Completes (.twmWake b) s (fun t => ({ t with icu := s.icu, pwr := s.pwr, clk := s.clk } : State) = s ∧
        (s.icu.src.length = 48 → t.srcAt 32 = ((s.srcAt 32).arrival).1) ∧ t.pwr = { s.pwr with wakeDue := t.pwr.wakeDue } ∧
        (b = 0xA5#8 → 0x21 ∉ s.pwr.wakeDue → t.pwr.wakeDue = s.pwr.wakeDue ++ [0x21] ∧ t.clk = s.clk) ∧
        (b ≠ 0xA5#8 → t.pwr.wakeDue = s.pwr.wakeDue ∧ t.clk = s.clk)) ∧
      Completes (.limpclr b) s (fun t => ({ t with icu := s.icu, pwr := s.pwr } : State) = s ∧
        (s.icu.src.length = 48 → t.srcAt 32 = ((s.srcAt 32).arrival).1) ∧
        (b = 0x5C#8 → s.pwr.limp = true → s.pwr.floor ≤ 1 → t.pwr = { s.pwr with
          hold := false, attempts := 0, attemptStep := 0, busy := true, target := if s.pwr.floor = 0 then .active else .idleScan }) ∧
        (b = 0x5C#8 → s.pwr.limp = true → 2 ≤ s.pwr.floor → t.pwr = { s.pwr with hold := false, attempts := 0 }) ∧
        (b = 0x5C#8 → s.pwr.limp = false → t.pwr = { s.pwr with hold := false }) ∧ (b ≠ 0x5C#8 → t.pwr = s.pwr)) ∧
      Completes (.indata b) s (fun t => t.twm.inb = (if s.twm.inb.length < 64 then s.twm.inb ++ [b] else s.twm.inb) ∧
        ({ t with twm := s.twm, icu := s.icu } : State) = s) ∧
      Completes (.insend v) s (fun t => t.twm.msg = (if v.getLsbD 0 then s.twm.inb else s.twm.msg) ∧
        t.twm.inb = (if v.getLsbD 0 then [] else s.twm.inb) ∧ ({ t with twm := s.twm, icu := s.icu } : State) = s) ∧
      exec .outdata s = .next { s with twm.reply := s.twm.out.headD 0, twm.out := s.twm.out.tail }) ∧
    (s.clk.core = true →
      Completes (.twmAlertSet w) s (fun t => t.twm.alertWake = (s.twm.alertWake || w.getLsbD 0) ∧
        t.twm.alertDual = (s.twm.alertDual || w.getLsbD 1) ∧ t.twm.alertMbox = (s.twm.alertMbox || w.getLsbD 2) ∧
        t.twm.alertSetdef = (s.twm.alertSetdef || w.getLsbD 3) ∧ t.twm.alertRestart = (s.twm.alertRestart || w.getLsbD 4) ∧
        (s.twm.alertMbox = false → s.twm.alertEn.testBit 2 = true → w.getLsbD 2 = true → t.twm.alertPin = true) ∧
        (s.twm.alertPin = true → t.twm.alertPin = true) ∧ ({ t with twm := s.twm } : State) = s) ∧
      (s.twm.out.length < 64 → Completes (.twmMboxWrite b) s (fun t => t.twm.out = s.twm.out ++ [b] ∧ t.twm.alertMbox = true ∧
        ({ t with twm := s.twm } : State) = s)) ∧
      exec .twmMboxRead s = .next { s with twm.msg := s.twm.msg.tail }) ∧
    (s.twm.alertPin = false → exec (.alertResponse lowest) s = .next { s with twm.acked := false }) ∧
    (s.twm.alertPin = true → s.boot.maddr < 8 → 0x28 + s.boot.maddr ≤ lowest → Completes (.alertResponse lowest) s (fun t =>
      t.twm.acked = true ∧ t.twm.reply.toNat = 2 * (0x28 + s.boot.maddr) ∧ t.twm.alertPin = false ∧ t.twm.ara = min (s.twm.ara + 1) 255)) ∧
    (s.twm.alertPin = true → lowest < 0x28 + s.boot.maddr → Completes (.alertResponse lowest) s (fun t =>
      t.twm.alertPin = true ∧ t.twm.ara = s.twm.ara)))

/-- The memory port: a transfer in range goes out to its target and word address and ends with its bytes in data SRAM, one out of range ends
at once with RESULT 3; losses, NACKs and recoveries are counted, the recovery before the first transfer among them, which the model counts
with that transfer's end (17 R463 to R468, R476; log entry 132). -/
def Obligations.MemoryPortTransfers : Prop :=
  ∀ (v : Word) (data : List Byte) (s : State), s.memOk → s.clk.core = true →
    let dir := v.getLsbD 1
    let size := if s.twm.hdrok then leAt s.sets.header 6 1 * 65536 else 262144
    let recovered (t : State) : Prop := (s.boot.eepromSel = true → t.twc.recovered = true) ∧
      t.twc.recov = (if s.boot.eepromSel = true ∧ s.twc.recovered = false then min (s.twc.recov + 1) 255 else s.twc.recov)
    let inRange : Prop := 1 ≤ s.twc.len ∧ s.twc.len ≤ 4096 ∧ s.twc.off + s.twc.len ≤ size ∧
      (dir = true → s.twc.off % 64 + s.twc.len ≤ 64)
    (s.twc.busy = false → v.getLsbD 0 = true → s.boot.eepromSel = true →
      (inRange → Completes (.twcTransferStart v) s (fun t => t.twc.busy = true ∧ t.twc.dir = dir ∧ t.twc.off = s.twc.off ∧
        t.twc.len = s.twc.len ∧ t.twc.buf = s.twc.buf ∧ ({ t with twc := s.twc, out := { t.out with bus := s.out.bus } } : State) = s ∧
        ∃ x : BusXfer, t.out.bus = s.out.bus ++ [x] ∧ x.dev = 0x50 + s.twc.off / 65536 ∧ x.word = s.twc.off % 65536 ∧ x.write = dir ∧
          x.len = s.twc.len ∧ (dir = true → x.data = s.mem.read s.twc.buf.toNat s.twc.len))) ∧
      (¬inRange → Completes (.twcTransferStart v) s (fun t => t.twc.busy = false ∧ t.twc.done = true ∧ t.twc.result = 3 ∧
        ({ t with twc := s.twc, icu := s.icu } : State) = s))) ∧
    (s.twc.busy = true →
      (s.twc.dir = false → data.length = s.twc.len → Completes (.twcTransferDone (.ok data)) s (fun t =>
        t.twc.busy = false ∧ t.twc.done = true ∧ t.twc.result = 0 ∧ recovered t ∧
        (∀ i, i < data.length → t.mem.byte (s.twc.buf.toNat + i) = data.getD i 0) ∧
        (∀ x, x < s.twc.buf.toNat ∨ s.twc.buf.toNat + data.length ≤ x → t.mem.byte x = s.mem.byte x) ∧
        ({ t with twc := s.twc, icu := s.icu, mem := s.mem, parBad := s.parBad } : State) = s)) ∧
      (s.twc.dir = true → Completes (.twcTransferDone (.ok data)) s (fun t => t.twc.busy = false ∧ t.twc.result = 0 ∧
        ({ t with twc := s.twc, icu := s.icu } : State) = s)) ∧
      Completes (.twcTransferDone .nack) s (fun t => t.twc.busy = false ∧ t.twc.result = 1 ∧ t.mem = s.mem) ∧
      Completes (.twcTransferDone .stuck) s (fun t => t.twc.busy = false ∧ t.twc.result = 2 ∧ t.mem = s.mem) ∧
      exec (.twcArbitrationLost true) s = .next s ∧
      Completes (.twcArbitrationLost false) s (fun t => t.twc.arblost = min (s.twc.arblost + 1) 255 ∧ t.twc.busy = true ∧ recovered t ∧
        t.mem = s.mem) ∧
      Completes (.twcNackRetry false true) s (fun t => t.twc.busy = false ∧ t.twc.done = true ∧ t.twc.result = 1 ∧
        t.twc.nack = min (s.twc.nack + 1) 255 ∧ recovered t ∧ t.mem = s.mem) ∧
      exec (.twcNackRetry true true) s = .next s ∧ exec (.twcNackRetry false false) s = .next s) ∧
    (s.twcActive = true →
      exec (.twcBusRecovery true) s = .next { s with twc.recov := min (s.twc.recov + 1) 255, twc.recovered := true } ∧
      Completes (.twcBusRecovery false) s (fun t => t.twc = { s.twc with
        recov := min (s.twc.recov + 1) 255, stuck := min (s.twc.stuck + 1) 255 })) ∧
    (s.twcActive = false → exec (.twcBusRecovery true) s = .next s ∧ exec (.twcBusRecovery false) s = .next s)

/-- Boot: the ROM starts a usable image of settings memory and else waits in the loader, a member for ENUM; the loader's three messages; the
start of firmware (19 R492 to R497). -/
def Obligations.BootStartsTheFirmware : Prop :=
  ∀ (img : EepromImage) (fw msg d rc applet : List Byte) (refs : List (List Byte)) (s : State), s.memOk →
    let runs (t : State) (b : List Byte) (level source : Nat) : Prop := t.boot.phase = .started ∧ t.boot.source = source ∧
      t.boot.level = level ∧ t.core0.brm = false ∧ t.core0.pc = 0x10000000#32 ∧ t.boot.fwLen = b.length ∧
      ∀ i, i < b.length → t.mem.byte (0x10000000 + i) = b.getD i 0
    let h := padTo 256 img.header
    (s.clk.core = true → s.boot.phase = .rom →
      (s.hostSide = true → s.boot.eepromSel = true → headerOk h = true → storedFirmware h img.fw = some fw →
        Completes (.bootRomStart img) s (fun t => runs t fw (leAt h 0x14 2) 0 ∧ t.twm.hdrok = true)) ∧
      (s.hostSide = true → s.boot.eepromSel = false ∨ headerOk h = false ∨ storedFirmware h img.fw = none →
        Completes (.bootRomStart img) s (fun t => t.boot.phase = .loader ∧ t.boot.ready = false)) ∧
      (s.isMember = true → s.boot.staged = none → Completes (.bootRomStart img) s (fun t => t.boot.phase = .waitEnum ∧
        t.crl.enrolled = false))) ∧
    (s.clk.core = true → s.boot.phase = .loader →
      (leAt msg 0 1 = 1 → msg.length = 11 → 0 < leAt msg 1 4 → leAt msg 1 4 % 4 = 0 → leAt msg 1 4 ≤ 0x20000 →
        Completes (.loadBegin msg) s (fun t => t.boot.load = some (leAt msg 1 4, leAt msg 5 4, leAt msg 9 2) ∧ t.mem = s.mem ∧
          (s.twm.out = [] → t.twm.out = [0xB0#8, 0#8, 0#8, 0#8]))) ∧
      (∀ l : Nat × Nat × Nat, leAt msg 0 1 = 2 → s.boot.load = some l → leAt msg 1 3 + (msg.drop 4).length ≤ l.1 → leAt msg 1 3 % 4 = 0 →
        (msg.drop 4).length % 4 = 0 → 4 ≤ (msg.drop 4).length → (msg.drop 4).length ≤ 60 →
        Completes (.loadData msg) s (fun t => t.boot.load = s.boot.load ∧
          ∀ i, i < (msg.drop 4).length → t.mem.byte (0x10000000 + leAt msg 1 3 + i) = (msg.drop 4).getD i 0)) ∧
      (leAt msg 0 1 = 3 → s.boot.reload = false → s.boot.load = some (d.length, crc32 d, leAt fw 0 2) → s.mem.read 0x10000000 d.length = d →
        Completes (.loadEnd msg) s (fun t => runs t d (leAt fw 0 2) 1 ∧ t.boot.load = none))) ∧
    (s.boot.phase = .started → s.hostSide = true → Completes (.firmwareStart rc applet refs) s (fun t =>
      t.boot.phase = .running ∧ t.boot.ready = true ∧ t.boot.fwvalid = true ∧ t.chn.timer = true))

/-! ### Power states (16) -/

/-- Quiet time orders the descents; an entry that nothing refuses reaches its state with its domains off and the retention items saved, one
that a block refuses changes no state and is counted; DORMANT waits for the link (16 R430 to R433, R440 to R443). Wake sources: a disabled
one leaves no record; an enabled one becomes LAST and begins the exit to its state, which it moves no further while HOLD stands; an exit
whose steps succeed ends with the domains clocked, four failed attempts end it in limp mode; a Drone boundary counts the epoch (16 R430,
R434 to R449). -/
def Obligations.LowPowerIsEnteredAndLeft : Prop :=
  (∀ (controller block : Nat) (st : PState) (s : State), s.memOk → s.pwr.counters.length = 32 → s.pwr.latched = none → s.pwr.floorNext = none →
    let orders (i : Instr) (st : PState) : Prop := Completes i s (fun t => t.pwr.entryDue = some st ∧
      t.pwr.entryEpoch = (s.epoch + if s.isRoot = true ∧ ∃ x ∈ s.crl.online, x ≠ 0 then 2 else 1) % 2 ^ 32 ∧ t.pwr.state = s.pwr.state)
    let count (t : State) (n : Nat) : Nat := (t.pwr.counters.getD n {}).count
    let deeper (n : Nat) (t : State) : Prop := count t n = min (count s n + 1) 65535
    (s.hostSide = true → s.fwRuns = true → s.pwr.busy = false → s.pwr.entryDue = none →
      (s.pwr.state = .active → s.pwr.idleT ≠ 0 → s.pwr.floor = 1 ∨ s.pwr.floor = 2 → 1000000 * s.pwr.idleT ≤ s.pwr.quietUs →
        orders .idleTimeout .idleScan) ∧
      (s.pwr.state = .idleScan → s.pwr.floor = 2 → s.pwr.byDrone = false → 1000000 * s.pwr.droneT ≤ s.pwr.idleUs →
        orders .droneTimeout .drone) ∧
      (s.pwr.state = .idleScan → s.pwr.floor = 2 → s.pwr.byDrone = true → 100000 * s.pwr.gestureT ≤ s.pwr.idleUs →
        orders .droneTimeout .drone)) ∧
    (s.pwr.refused = false →
      (s.entryNow = some .drone → refusals .drone s = [] → Completes .powerEntry s (fun t => t.pwr.state = .drone ∧ t.pwr.busy = false ∧
        t.pwr.entryDue = none ∧ t.clk.core = false ∧ t.clk.afe = false ∧ t.clk.link = false ∧ t.clk.host = s.clk.host ∧ deeper 1 t ∧
        t.epoch = s.epoch ∧ t.ctx.slots = s.ctx.slots ∧ t.core0 = s.core0 ∧ t.core1 = s.core1)) ∧
      (s.entryNow = some .dormant → refusals .dormant s = [] → s.hostSide = false ∨ s.host.perst = true ∨ s.host.link = .l2l3 →
        s.epoch < 2 ^ 32 → Completes .powerEntry s (fun t => t.pwr.state = .dormant ∧ t.pwr.busy = false ∧ t.clk.core = false ∧
          t.clk.afe = false ∧ t.clk.link = false ∧ t.clk.host = false ∧ deeper 2 t ∧ leNat (t.mem.read 0x500000E0 4) = s.epoch)) ∧
      (s.entryNow = some .dormant → refusals .dormant s = [] → s.hostSide = true → s.host.perst = false → s.host.link ≠ .l2l3 →
        exec .powerEntry s = .next { s with pwr.awaitL2 := true, pwr.busy := true, pwr.target := .dormant }) ∧
      (s.entryNow = some st → refusals st s ≠ [] → Completes .powerEntry s (fun t => t.pwr.refused = true ∧ t.pwr.state = s.pwr.state ∧
        t.clk.core = s.clk.core ∧ t.mem = s.mem ∧
        ∀ r ∈ refusals st s, count t (4 + r.1) = min (count s (4 + r.1) + 1) 65535 ∧ (t.pwr.counters.getD (4 + r.1) {}).lastId = r.2)) ∧
      (s.entryNow = some st → controller < 4 → Completes (.entryAbort controller block) s (fun t => t.pwr.entryDue = none ∧
        t.pwr.state = s.pwr.state ∧ deeper (8 + controller) t ∧ (t.pwr.counters.getD (8 + controller) {}).lastId = block % 256))) ∧
    (s.pwr.refused = true → s.hostSide = true → ({ s with pwr.refused := false } : State).entryNow = some st →
      (s.pwr.floor < st.code → exec .entryRetry s = .next { s with pwr.refused := false, pwr.entryDue := none }) ∧
      (st.code ≤ s.pwr.floor → refusals st s ≠ [] → Completes .entryRetry s (fun t => t.pwr.refused = true ∧ t.pwr.state = s.pwr.state)) ∧
      (st.code ≤ s.pwr.floor → st = .drone → refusals st s = [] → Completes .entryRetry s (fun t => t.pwr.state = .drone ∧
        t.pwr.refused = false))) ∧
    (s.hostSide = true → s.clk.host = true →
      (s.pwr.awaitL2 = false → exec .l2l3Ready s = .next { s with host.link := .l2l3 }) ∧
      (s.pwr.awaitL2 = true → refusals .dormant { s with host.link := .l2l3 } = [] → Completes .l2l3Ready s (fun t =>
        t.pwr.state = .dormant ∧ t.pwr.awaitL2 = false ∧ t.clk.host = false)) ∧
      (s.pwr.awaitL2 = true → refusals .dormant { s with host.link := .l2l3 } ≠ [] → Completes .l2l3Ready s (fun t =>
        t.pwr.state = s.pwr.state ∧ t.pwr.awaitL2 = false ∧ t.pwr.refused = true ∧ t.host.link = .l2l3))) ∧
    (s.pwr.awaitL2 = true → Completes .l2l3ReadyTimeout s (fun t => t.pwr.awaitL2 = false ∧ t.pwr.busy = false ∧ t.pwr.refused = true ∧
      t.pwr.state = s.pwr.state ∧ deeper 7 t))) ∧
  (∀ (code step : Nat) (port : Port) (pin : Fin 4) (x : List (List (List Int))) (w : WakeInfo) (state epoch : Nat) (s : State),
    s.memOk → s.pwr.counters.length = 32 →
    let fails (a b c : Nat) : StepFails := { ldo := a, xtal := b, pll := c }
    (code ∈ s.pwr.wakeDue → wakeInfo code = some w →
      (s.pwr.wakeEn.testBit w.bit = false → Completes (.wakeRecord code) s (fun t =>
        t.pwr.wakeDue = s.pwr.wakeDue.erase code ∧ t.pwr.last = s.pwr.last ∧ t.pwr.prev = s.pwr.prev ∧ t.pwr.busy = s.pwr.busy)) ∧
      (s.pwr.wakeEn.testBit w.bit = true → s.pwr.busy = false → w.arises s.pwr.state = true → Completes (.wakeRecord code) s (fun t =>
        t.pwr.last = code ∧ t.pwr.prev = s.pwr.last ∧ t.pwr.new = true ∧ (code < 256 → (t.mem.byte 0x50000104).toNat = code) ∧
        (t.pwr.counters.getD 20 {}).count = min ((s.pwr.counters.getD 20 {}).count + 1) 65535 ∧
        (s.pwr.hold = true → t.pwr.busy = false) ∧
        (s.pwr.hold = false → s.pwr.limp = false → s.pwr.state = .drone ∨ s.pwr.state = .dormant →
          (wakeTarget code s.pwr.state s.pwr.floor).code < s.pwr.state.code →
          t.pwr.busy = true ∧ t.pwr.target = wakeTarget code s.pwr.state s.pwr.floor) ∧
        (s.pwr.hold = false → s.pwr.limp = true → s.pwr.state = .drone → t.pwr.busy = true ∧
          t.pwr.target = if s.pwr.floor = 0 then PState.active else PState.idleScan)))) ∧
    (s.isMember = true ∨ s.isRoot = true → s.clk.link = false → Completes (.wakeBeacon port) s (fun t => 0x40 ∈ t.pwr.wakeDue ∧
      t.pwr.state = s.pwr.state ∧ t.pwr.last = s.pwr.last ∧
      (0x40 ∉ s.pwr.wakeDue → t.pwr.wakeDue = s.pwr.wakeDue ++ [0x40] ∧ t.pwr.beaconPort = some port))) ∧
    (s.isMember = true ∨ s.isRoot = true → 0x40 ∈ s.pwr.wakeDue → s.pwr.beaconPort = some port → s.pwr.wakeEn.testBit 12 = true →
      s.pwr.busy = false → s.pwr.hold = false → s.pwr.limp = false → s.pwr.state = .drone ∨ s.pwr.state = .dormant →
      Completes (.wakeRecord 0x40) s (fun t => t.pwr.last = 0x40 ∧ t.pwr.busy = true ∧
        t.pwr.target = (if s.pwr.state = .drone then .idleScan else .active) ∧ t.out.beacons = s.out.beacons ++ [portOther port])) ∧
    (s.pwr.gpio.length = 4 → s.pwr.gpioEdge.length = 4 → s.pwr.gpio.getD pin.val 0 = 1 → Completes (.gpioWakeEdge pin) s (fun t =>
      t.pwr.gpioEdge.getD pin.val false = true ∧ 0x30 + pin.val ∈ t.pwr.wakeDue)) ∧
    (s.pwr.busy = true → s.pwr.attempts = 0 → s.pwr.floorNext = none → s.pwr.during = [] →
      (s.pwr.state = .drone → s.pwr.target.code < 2 → Completes (.powerExit (fails 0 0 0)) s (fun t => t.pwr.state = s.pwr.target ∧
        t.pwr.busy = false ∧ t.clk.core = true ∧ t.clk.afe = true ∧ t.cal.guard = true ∧ t.trk.resync = true ∧ t.epoch = s.epoch)) ∧
      (s.pwr.state = .dormant → s.pwr.target.code < 3 → 0xE0 ∉ s.pwr.retBad → Completes (.powerExit (fails 0 0 0)) s (fun t =>
        t.pwr.state = .active ∧ t.pwr.busy = false ∧ t.clk.core = true ∧ t.boot.phase = .rom ∧ t.core0.pc = s.core0.pc ∧
        t.epoch = (leNat (s.mem.read 0x500000E0 4) + 1) % 2 ^ 32)) ∧
      (s.pwr.state = .drone → s.pwr.target.code < 2 → Completes (.powerExit (fails 4 0 0)) s (fun t => t.pwr.limp = true ∧
        t.pwr.hold = true ∧ t.pwr.state = .drone ∧ t.pwr.failStep = 1 ∧ t.pwr.failAttempts = 4 ∧ t.clk.limpClk = true ∧
        t.clk.link = false ∧ t.twm.alertWake = true)) ∧
      (step = 1 ∨ step = 3 → s.pwr.state = .drone → s.pwr.target.code < 2 → Completes (.wakeStepTimeout step) s (fun t =>
        t.pwr.attempts = 1 ∧ t.pwr.attemptStep = step ∧ t.pwr.state = .drone ∧ t.pwr.limp = s.pwr.limp ∧
        (t.pwr.counters.getD (13 + step) {}).count = min ((s.pwr.counters.getD (13 + step) {}).count + 1) 65535))) ∧
    (s.pwr.busy = true → s.pwr.state = .drone → s.pwr.target.code < 2 → s.pwr.attempts = 3 → s.pwr.attemptStep = 3 →
      Completes (.wakeStepTimeout 3) s (fun t => t.pwr.limp = true ∧ t.pwr.failStep = 3 ∧ t.pwr.hold = true)) ∧
    (s.pwr.state = .drone → s.pwr.busy = false → Completes (.droneBurst x) s (fun t => t.epoch = (s.epoch + 1) % 2 ^ 32 ∧
      t.pwr.state = .drone)) ∧
    (s.isMember = true → s.clk.link = true → state < 4 →
      (pstateOf state ≠ s.pwr.state → epoch < 2 ^ 32 → Completes (.powerMessage state epoch) s (fun t =>
        t.pwr.entryDue = some (pstateOf state) ∧ t.pwr.entryEpoch = epoch ∧ t.pwr.state = s.pwr.state)) ∧
      (pstateOf state = s.pwr.state → Completes (.powerMessage state epoch) s (fun t => t.pwr.entryDue = none))))

/-! ### Mute and the streams (10, 11) -/

/-- The coders of Mute: an FR block's samples come back no higher and less than 2^SHIFT lower (11 R321); LL-G and LL-R blocks come back
whole, whatever follows them (11 R323 to R327). -/
def Obligations.CodedBlocksComeBack : Prop :=
  ∀ (b rest : List Byte) (bidx kind elo : Nat), b.length = 128 → kind = 0 ∨ kind = 1 ∨ kind = 3 →
    (∃ xs, frDecode (frEncode bidx kind elo b) = .ok xs ∧ frShiftOf (frEncode bidx kind elo b) ≤ 9 ∧ xs.length = 64 ∧
      ∀ j, j < 64 → xs.getD j 0 ≤ (samplesOf b).getD j 0 ∧
        (samplesOf b).getD j 0 < xs.getD j 0 + 2 ^ frShiftOf (frEncode bidx kind elo b)) ∧
    llgDecode (llgEncode b ++ rest) = .ok ((llgEncode b).length, b) ∧ (llgEncode b).length ≤ 132 ∧
    llrDecode (llrEncode b ++ rest) = .ok ((llrEncode b).length, b) ∧ (llrEncode b).length ≤ 131

/-- Jobs: GO latches the registers and a job of no length stops at once; a block that fits is written whole and counted, one that does not
fit, fails its checks or is aborted stops the job with its RESULT (11 R332 to R338); a job of a member's core 0 never writes to the host
(01 R31), and that it stops as aborted is the model's choice (log entry 101). The stream channel codes the frame just processed
into the staging region and into its record; a member's blocks join theirs; a whole record goes into the buffer in hand, header first, and
a buffer whose FLUSH has run out is handed back (10 R309, 11 R329 to R331). -/
def Obligations.MuteJobsAndStreamsRun : Prop :=
  (∀ (v : Word) (s : State), s.memOk → s.clk.core = true →
    let r : MuteRegs := { s.mute.regs with cls := if v.toNat / 16 % 4 = 3 then s.mute.regs.cls else v.toNat / 16 % 4,
                                           dir := v.getLsbD 6, host := v.getLsbD 7 }
    let j := s.mute.job
    let a := j.src + s.mute.cons
    let inp := s.mem.read a (min 260 (j.ilen - s.mute.cons))
    let stops (i : Instr) (result : Nat) (P : State → Prop) : Prop := Completes i s (fun t => t.mute.busy = false ∧ t.mute.done = true ∧
      t.mute.result = result ∧ t.mute.cons = s.mute.cons ∧ t.mute.prod = s.mute.prod ∧ t.mem = s.mem ∧ P t)
    let block := Instr.muteJobBlock false false
    let go := Instr.muteJobBlock
    (s.mute.busy = false → v.getLsbD 0 = true →
      (r.ilen ≠ 0 → r.olen ≠ 0 → Completes (.muteJobStart v) s (fun t => t.mute.busy = true ∧ t.mute.job = r ∧ t.mute.cons = 0 ∧
        t.mute.prod = 0 ∧ t.mute.result = 0 ∧ ({ t with mute := s.mute } : State) = s)) ∧
      (r.ilen = 0 → Completes (.muteJobStart v) s (fun t => t.mute.busy = false ∧ t.mute.done = true ∧ t.mute.result = 1)) ∧
      (r.ilen ≠ 0 → r.olen = 0 → Completes (.muteJobStart v) s (fun t => t.mute.busy = false ∧ t.mute.done = true ∧ t.mute.result = 2))) ∧
    (s.mute.busy = true → exec .muteJobAbort s = .next { s with mute.abort := true }) ∧
    (s.mute.busy = true → s.mute.strBusy = false → s.mute.forCmd = none → s.cap.waiting = [] →
      (j.dir = false → j.host = false → s.mute.cons + 128 < j.ilen → s.mute.abort = false →
        let out := if j.cls = 0 then frEncode (j.bidx0 + s.mute.cons / 128) 3 j.elo (inp.take 128)
          else if j.cls = 1 then llgEncode (inp.take 128) else llrEncode (inp.take 128)
        (s.mute.prod + out.length ≤ j.olen → Completes block s (fun t => t.mute = { s.mute with
          cons := s.mute.cons + 128, prod := s.mute.prod + out.length } ∧
          (∀ i, i < out.length → t.mem.byte (j.dst + s.mute.prod + i) = out.getD i 0) ∧
          ({ t with mute := s.mute, mem := s.mem, parBad := s.parBad } : State) = s)) ∧
        (j.olen < s.mute.prod + out.length → stops block 2 (fun _ => True))) ∧
      (j.dir = false → j.host = true → s.isMember = true → stops block 6 (fun t => t.out = s.out)) ∧
      (j.dir = false → j.host = true → s.isMember = false → s.dmaOk = true → j.cls = 2 → s.mute.cons + 128 < j.ilen → s.mute.abort = false →
        s.mute.prod + (llrEncode (inp.take 128)).length ≤ j.olen → Completes block s (fun t => t.mem = s.mem ∧
          t.out.writes = s.out.writes ++ [{ addr := s.mute.haddr + j.dst + s.mute.prod, data := llrEncode (inp.take 128),
                                            ro := s.host.relaxed }])) ∧
      (j.dir = true → j.cls = 2 →
        (∀ n out, llrDecode inp = .ok (n, out) → s.mute.prod + 128 ≤ j.olen → s.mute.cons + n < j.ilen → s.mute.abort = false →
          Completes block s (fun t => t.mute = { s.mute with cons := s.mute.cons + n, prod := s.mute.prod + 128 } ∧
            ∀ i, i < 128 → t.mem.byte (j.dst + s.mute.prod + i) = out.getD i 0)) ∧
        (llrDecode inp = .error .crc → stops block 3 (fun t => t.mute.errCrc = min (s.mute.errCrc + 1) 255)) ∧
        (llrDecode inp = .error .format → stops block 4 (fun t => t.mute.errFormat = min (s.mute.errFormat + 1) 255))) ∧
      (j.dir = true ∨ j.host = false ∨ s.dmaOk = true →
        Completes (go true false) s (fun t => t.mute.busy = false ∧ t.mute.done = true ∧ t.mute.result = 5 ∧ t.mute.cons = s.mute.cons ∧
          t.mute.prod = s.mute.prod ∧ t.mute.errParity = min (s.mute.errParity + 1) 255)) ∧
      (j.dir = false → j.host = true → s.isMember = false → s.dmaOk = true → stops (go false true) 6 (fun t => t.host.hostrd = true)))) ∧
  (∀ (b : SBuf) (r : SRec) (descs : List (Nat × Nat × Nat)) (tile kind : Nat) (blocks : List (Nat × List Byte)) (s : State),
    let n := (s.epoch + 4294967295) % 4294967296
    let slot := s.slotOf n
    (s.clk.core = true → s.chn.prev.decoded = true → s.chn.prev.epoch = n → s.chn.prev.kind = .normal → s.chn.prev.dcause = 0 →
      s.activeSlot ≠ none → s.chn.discardReports = false → s.pwr.state = .active → s.hostSide = true →
      s.ctxField slot 0x360 1 = 2 → s.ctxField slot 0x361 1 = 0 → s.ctxField slot 0x362 1 = 1 → s.strm.recs = [] →
      Completes (.streamFrameCode []) s (fun t => t.mute.strNblk = 5 ∧ t.mute.strEpoch = n % 65536 ∧
        t.strm.recs.map (fun r => (r.epoch, r.tile, r.kind, r.raw, r.nblk)) = [(n, 0, 1, false, 5)] ∧
        ∀ k, k < 5 → assoc ((t.strm.recs.headD r).blocks) k = some (frEncode k 1 (n % 65536) (s.mem.read (0x3007FD00 + 128 * k) 128)) ∧
          t.mem.read (0x30087800 + 0x8000 * (n % 2) + 24576 + 64 * k) 64 = frEncode k 1 (n % 65536) (s.mem.read (0x3007FD00 + 128 * k) 128))) ∧
    (s.isRoot = true → s.clk.core = true → kind ≤ 2 → tile ≠ 0 → s.strm.recs = [r] → r.tile = tile → r.kind = kind → r.epoch = n →
      r.nblk ≠ 0 → r.blocks = [] → (blocks.map (·.1)).Nodup → Completes (.streamMessage tile n kind false blocks) s (fun t =>
        t.strm.recs = [{ r with blocks := blocks.filter (fun b => b.1 < r.nblk) }])) ∧
    (s.hostSide = true → s.clk.core = true → s.ringsOk = true → s.strm.recs = [r] → r.tile = tile → r.kind = kind → r.nblk ≠ 0 →
      s.strm.bufs = [b] →
      let pay := recordPayload r
      let o := (b.used + 63) / 64 * 64
      let wrote (t : State) : Prop := ∃ w1 w2 : HostWrite, t.out.writes = s.out.writes ++ [w1, w2] ∧ w1.addr = b.addr + o ∧
        w2.addr = b.addr + o + 32 ∧ w2.data = pay ∧ w1.data.length = 32 ∧ leAt w1.data 0 4 = r.epoch % 2 ^ 32 ∧
        leAt w1.data 8 4 = pay.length % 2 ^ 32 ∧ leAt w1.data 14 2 = recordDropped r % 65536 ∧
        t.strm.bufs = [{ b with used := o + 32 + pay.length, efirst := if b.nrec = 0 then r.epoch else b.efirst, elast := r.epoch,
                                nrec := min (b.nrec + 1) 65535 }]
      o + 32 + pay.length ≤ b.len →
        (recordWhole r = true → Completes (.streamRecordWrite tile kind descs) s wrote) ∧
        Completes (.streamRecordDeadline tile kind descs) s wrote) ∧
    (s.ringsOk = true → s.strm.bufs = [b] → b.flush ≠ 0 → b.nrec ≠ 0 → b.nrec < 65536 → b.flush ≤ diff32 s.epoch b.efirst →
      Completes .streamBufferRetire s (fun t => t.strm.bufs = [] ∧ t.rings.strCi = (b.idx + 1) % 2 ^ 32 ∧
        ∃ w : HostWrite, t.out.writes = s.out.writes ++ [w] ∧ w.addr = s.rings.str.base + 32 * (b.idx % 2 ^ s.rings.str.log2n) + 16 ∧
          w.data.length = 16 ∧ leAt w.data 0 4 = b.used % 2 ^ 32 ∧ leAt w.data 4 4 = b.efirst % 2 ^ 32 ∧
          leAt w.data 8 4 = b.elast % 2 ^ 32 ∧ leAt w.data 12 4 = b.nrec + if b.idx / 2 ^ s.rings.str.log2n % 2 = 0 then 2 ^ 31 else 0)))

/-! ### The scan (02, 03, 04) -/

/-- A boundary counts the epoch, passes the scanned frame on to processing, applies the context whose E_a has come and the hop latched for
it, and starts a frame with a header of its own; the host sees it in the status page (00 R13, 03 R55, R68, R82, 08 R252, 10 R289). -/
def Obligations.BoundariesStartTheNextFrame : Prop :=
  ∀ (n : Nat) (h : HopDue) (s : State), s.memOk → s.clk.core = true → s.clk.afe = true → s.chn.timer = true → s.pwr.limp = false →
    s.pwr.state = .active → s.boot.stagedAt = none → s.boot.bootCtxDue = false → s.arr.bootStage = none →
    s.ctx.restored = false → s.ctx.incoming = none →
    let e := if s.chn.counted then (s.epoch + 1) % 2 ^ 32 else s.epoch
    let bounds (P : State → Prop) : Prop := Completes .epochBoundary s P
    bounds (fun t => t.epoch = e ∧ t.chn.counted = true ∧ t.chn.latchPassed = false ∧ t.chn.cur.epoch = e ∧
      t.chn.prev.epoch = s.chn.cur.epoch ∧ t.clk.now = s.clk.now + s.chn.cur.us ∧ t.crook.waiting = [] ∧ t.evt.parThis = []) ∧
    (s.pendingSlot = none → s.chn.due = none → bounds (fun t => t.chn.pri = s.chn.pri ∧ t.chn.sec = s.chn.sec)) ∧
    (s.pendingSlot = none → s.chn.due = some h → bounds (fun t => t.chn.due = none ∧ t.chn.lastHop = some e ∧
      t.chn.pri = (if h.role = 0 then h.new else s.chn.pri) ∧ t.chn.sec = (if h.role = 0 then s.chn.sec else h.new) ∧
      t.chn.hopForced = if h.forced then min (s.chn.hopForced + 1) 255 else s.chn.hopForced)) ∧
    (s.ctx.slots.length = 8 → s.pendingSlot = some n → (∀ k, k < 8 → s.ctx.slots.getD k .empty = .pending → k = n) →
      s.drainingSlot = none → later s.ctx.pendEa e = false →
      bounds (fun t => t.ctx.slots.getD n .empty = .active ∧ (∀ k, s.activeSlot = some k →
        t.ctx.slots.getD k .empty = .draining) ∧ t.ctx.applied = min (s.ctx.applied + 1) 65535)) ∧
    (s.scans = true → s.pendingSlot = none → s.elec.ltLeft = 0 → s.elec.ltPending = false → s.elec.ltBoot = true → s.cal.kind = .none →
      s.cal.fullDue = none → s.cal.groupDue = none → s.cal.baseDue = false → s.chn.fresh = false → s.chn.lastGain = s.act 0x2C2 1 → s.host.dstate ≠ .d3cold →
      s.chn.due = none → s.pwr.entryDue = none → s.pwr.busy = false → s.isRoot = false → bounds (fun t =>
      t.chn.cur.kind = .normal ∧ t.chn.seg = 0 ∧ t.chn.step = 0 ∧ t.chn.cur.dcause = 0 ∧
      let hd := t.mem.read ((if e % 2 = 0 then 0x30000000 else 0x30024C00) + 150400) 128
      leAt hd 0 4 = e ∧ leAt hd 5 1 = s.chn.pri % 256 ∧ leAt hd 6 1 = s.chn.sec % 256 ∧ leAt hd 12 4 = 0))

/-- A step's windows of 14-bit samples are mixed, corrected and stored for both roles, and the listen segment stores magnitudes; the step
counter moves on, and the segment with it (02 R43, 03 R56, R65, R66, R74). The frame's other events are taken whenever it scans: a trip of
a driver that is on, an SH driver's trip, the tile noise and the guard interval (02 R47, 03 R55, R75, 04 R103). -/
def Obligations.ScanStepsAreMixedAndStored : Prop :=
  ∀ (step c k : Nat) (x : List (List Int)) (s : State), s.memOk → s.scans = true → s.chn.cur.kind = .normal → step < 160 →
    let p := s.params s.epoch
    let w := x.getD c []
    let sum (k ph : Nat) : Int := ((List.range 48).map (fun n => (max (-8192) (min 8191 (w.getD n 0)) * sine48 (k * n + ph) + 512) / 1024)).foldl (· + ·) 0
    let pair (k i : Nat) : Int := s.mem.leI (0x100040000 + 4 * (5 * c + k - 2) + 2 * i) 2
    let y (k : Nat) : Int := max (-8388608) (min 8388607 ((sum k 0 * pair k 0 - sum k 12 * pair k 1 + 8192) / 16384))
    let base := if s.epoch % 2 = 0 then 0x30000000 else 0x30024C00
    Completes (.scanStep step x []) s (fun t =>
      t.chn.step = (if step = 159 then 0xFF else step + 1) ∧
      t.chn.seg = (if step = 159 then 4 else if step + 1 < 128 then 0 else if step + 1 < 140 then 1 else if step + 1 < 152 then 2 else 3)) ∧
    (step < 128 → c < p.s → p.s ≤ 192 → Completes (.scanStep step x []) s (fun t =>
      t.mem.leI (base + 3 * (256 * c + step)) 3 = y p.kp ∧ t.mem.leI (base + 3 * (256 * c + 128 + step)) 3 = y p.ks)) ∧
    (152 ≤ step → c < p.s → p.s ≤ 192 → k < 5 → Completes (.scanStep step x []) s (fun t =>
      let a := (sum (k + 2) 0).natAbs
      let b := (sum (k + 2) 12).natAbs
      t.mem.le (0x30079800 + 3 * (40 * c + 8 * k + (step - 152))) 3 = min 16777215 (max a b + 3 * min a b / 8))) ∧
    (∀ (pin : Nat) (src : Bool), pin < 320 → s.driverOn pin = true → Completes (.driverTrip pin src) s (fun t =>
      t.elec.tripped = s.elec.tripped ++ [pin])) ∧
    (∀ sh : Fin 4, s.elec.shFault = false → sh.val ∉ s.elec.shTripped → Completes (.shieldTrip sh) s (fun t =>
      t.elec.shTripped = s.elec.shTripped ++ [sh.val])) ∧
    Completes .tileNoise s (fun t => t.chn.noise.length = 5) ∧
    ∀ temp : Int, s.clk.afe = true → s.clk.core = true → s.chn.timer = true → Completes (.guardSettleStart temp) s (fun t =>
      t.chn.seg = 4 ∧ t.chn.step = 0xFF ∧ t.elec.tripped = [])

/-- A trip of a driver that is on counts, and the third without a whole frame free of trips latches the line's code. It disturbs the frame
only where the line was driving its code: a drive line with code 0x0 or 0x6 in the mutual segment. A follower of a self pass has its self
value replaced, a quiet line's trip leaves the frame, and so does any trip from the listen segment on. An SH driver's trip makes the self data
invalid. The guard interval re-enables drivers and samples the temperature; the tile noise goes into the listen registers and the persistence
counts, which damaged listen data leave (02 R47, R48, R49, 03 R55, R75, R80, 04 R93, R103, 05 R142, 18 R482). -/
def Obligations.TripsGuardAndNoise : Prop :=
  ∀ (pin : Nat) (src : Bool) (sh : Fin 4) (temp : Int) (s : State), s.memOk →
    let role := mapRole (s.mapEntry (s.pinSlot.getD 0) pin)
    let code := s.elec.code.getD pin 15
    let good : Prop := code = 0 ∨ code = 6
    let quiet : Prop := code = 1 ∨ code = 5 ∨ code = 7
    let p := s.params s.epoch
    let reports (t : State) : Prop := t.chn.cur.selfRep = s.chn.cur.selfRep ++ [pin]
    (s.scans = true → pin < 320 → s.elec.code.length = 320 → s.chn.cur.kind ≠ .lineTest → s.elec.ltLeft = 0 → s.driverOn pin = true →
      Completes (.driverTrip pin src) s (fun t =>
        t.elec.tripped = s.elec.tripped ++ [pin] ∧ t.elec.tripCnt = min (s.elec.tripCnt + 1) 65535 ∧
        (s.chn.seg = 0 → role = 1 → good → s.chn.cur.dcause = 0 → t.chn.cur.dcause = 1) ∧
        (quiet → t.chn.cur = s.chn.cur) ∧
        (s.chn.seg = 1 → role = 1 → good → reports t) ∧ (s.chn.seg = 2 → role = 2 → good → reports t) ∧
        (3 ≤ s.chn.seg → t.chn.cur = { s.chn.cur with faults := t.chn.cur.faults }) ∧
        (s.elec.tripRun = [(pin, 2, src)] → (good → t.elec.code.getD pin 15 = if src then 2 else 3) ∧
          (quiet → t.elec.code.getD pin 15 = code)) ∧
        (s.elec.tripRun = [] → t.elec.code = s.elec.code ∧ t.elec.tripRun = [(pin, 1, src)]))) ∧
    (s.scans = true → s.elec.shFault = false → sh.val ∉ s.elec.shTripped → Completes (.shieldTrip sh) s (fun t =>
      t.elec.shTripped = s.elec.shTripped ++ [sh.val] ∧ t.elec.shTrips = min (s.elec.shTrips + 1) 65535 ∧
      (s.chn.seg ≤ 2 → t.chn.cur.selfBad = true) ∧ (3 ≤ s.chn.seg → t.chn.cur = s.chn.cur) ∧
      (s.elec.shRun = [(sh.val, 2)] → t.elec.shFault = true) ∧ (s.elec.shRun = [] → t.elec.shFault = false))) ∧
    (s.clk.afe = true → s.clk.core = true → s.chn.timer = true → -512 ≤ temp → temp ≤ 511 → s.cal.temps.length < 16 →
      Completes (.guardSettleStart temp) s (fun t => t.elec.tripped = [] ∧ t.chn.step = 0xFF ∧
        t.chn.seg = (if s.chn.cur.kind = .lineTest then 6 else if s.chn.cur.kind = .none then 7 else 4) ∧
        t.cal.temps = s.cal.temps ++ [temp] ∧ t.cal.tnow = (s.cal.temps ++ [temp]).sum / (s.cal.temps.length + 1) ∧
        (∃ v, t.host.tpeak = some v ∧ t.cal.tnow ≤ v ∧ ∀ w, s.host.tpeak = some w → w ≤ v) ∧
        (s.elec.shFault = false → t.elec.shTripped = []))) ∧
    (s.scans = true → s.chn.cur.kind = .normal → Completes .tileNoise s (fun t => t.chn.noise.length = 5 ∧
      (∀ c, c < p.s → p.s ≤ 192 → 2 ≤ p.kp → p.kp ≤ 6 → t.mem.le (0x30080800 + 16 * c) 4 =
        (((List.range 8).map (fun j => s.mem.le (0x30079800 + 3 * (40 * c + 8 * (p.kp - 2) + j)) 3)).sum + 4) / 8) ∧
      (s.chn.cur.listenBad = true → t.chn.perP = s.chn.perP ∧ t.chn.perS = s.chn.perS ∧ t.chn.cur.noiseOk = false) ∧
      (s.chn.cur.listenBad = false → (t.chn.perP = 0 ∨ t.chn.perP = min (s.chn.perP + 1) 15) ∧
        (t.chn.perS = 0 ∨ t.chn.perS = min (s.chn.perS + 1) 15))))

/-- An automatic hop goes to the least noisy free slot of the mask, decided as the guard interval ends, where a reduced rate's idle time begins
(that the decision marks it is the model's choice, log entry 95); the latch instant takes a valid forced request first, refuses an invalid
one, and takes the automatic hop else; a new request replaces the one pending (03 R58, R80 to R83). -/
def Obligations.HopsAreDecidedAndLatched : Prop :=
  ∀ (v : Word) (q : HopReq) (role f : Nat) (s : State), s.memOk → s.clk.core = true → s.clk.afe = true →
    let ctx := (s.params s.epoch).ctx
    let mask := s.act 0x2C7 1
    let other := if q.role = 0 then s.chn.sec else s.chn.pri
    let valid : Prop := 2 ≤ q.slot ∧ q.slot ≤ 6 ∧ mask.testBit (q.slot - 2) = true ∧ q.slot ≠ other
    let seg := if s.chn.seg = 4 ∧ s.chn.cur.us ≠ 2000 then 5 else s.chn.seg
    let hops (forced : Bool) (role new : Nat) (t : State) : Prop :=
      t.chn.due = some { forced := forced, role := role, old := if role = 0 then s.chn.pri else s.chn.sec, new := new } ∧
      t.chn.npri = (if role = 0 then new else s.chn.pri) ∧ t.chn.nsec = (if role = 0 then s.chn.sec else new)
    (s.scans = true → s.chn.cur.noiseOk = true → freeSlot s (s.ctxField ctx 0x2C7 1) = some f → s.ctxField ctx 0x2C6 1 % 2 = 1 →
      s.chn.lastHop = none → s.ctxField ctx 0x2CB 1 ≤ s.chn.perP → s.chn.perS < s.ctxField ctx 0x2CB 1 →
      exec .hopDecision s = .next { s with chn.auto := some (0, f), chn.seg := seg }) ∧
    (s.scans = true → s.chn.cur.noiseOk = true → s.chn.perP < s.ctxField ctx 0x2CB 1 → s.chn.perS < s.ctxField ctx 0x2CB 1 →
      exec .hopDecision s = .next { s with chn.seg := seg }) ∧
    (freeSlot s mask = some f → 2 ≤ f ∧ f ≤ 6 ∧ mask.testBit (f - 2) = true ∧ f ≠ s.chn.pri ∧ f ≠ s.chn.sec ∧
      ∀ k, k < 5 → mask.testBit k = true → k + 2 ≠ s.chn.pri → k + 2 ≠ s.chn.sec → s.chn.noise.getD (f - 2) 0 ≤ s.chn.noise.getD k 0) ∧
    (s.chn.timer = true → s.ctx.job = none → s.chn.decided = [] → s.chn.replaced = [] →
      (s.chn.req = none → s.chn.auto = some (role, f) → Completes .latchInstant s (fun t => hops false role f t ∧ t.chn.auto = none ∧
        t.chn.latchPassed = true)) ∧
      (s.chn.req = none → s.chn.auto = none → Completes .latchInstant s (fun t => t.chn.due = s.chn.due ∧ t.chn.npri = s.chn.pri ∧
        t.chn.nsec = s.chn.sec ∧ t.chn.latchPassed = true)) ∧
      (s.chn.req = some q → valid → Completes .latchInstant s (fun t => hops true q.role q.slot t ∧ t.chn.req = none ∧
        t.chn.decided = q.cmd.toList.map (fun j => { cmd := j, outcome := 0 }))) ∧
      (s.chn.req = some q → ¬valid → s.chn.auto = none → Completes .latchInstant s (fun t => t.chn.due = s.chn.due ∧ t.chn.req = none ∧
        t.chn.decided = q.cmd.toList.map (fun j => { cmd := j, outcome := 1 })))) ∧
    (v.getLsbD 8 = true → exec (.hopForceWrite v) s = .next { s with
      chn.replaced := s.chn.replaced ++ ((s.chn.req.bind (·.cmd)).toList)
      chn.req := some { slot := v.toNat % 8, role := v.toNat / 16 % 2, cmd := none } }) ∧
    (v.getLsbD 8 = false → exec (.hopForceWrite v) s = .next s)

/-! ### Decoding, tracking, baselines and calibration (02, 03, 05, 06) -/

/-- The transform is the Walsh-Hadamard matrix (03 R61, R70); a normal frame is decoded into the delta frame, each node of a good line from
its baseline and its combined raw value (03 R72), and a discarded one is not (03 R89): its overrange chains alone are counted (02 R47, R54). -/
def Obligations.FramesAreDecoded : Prop :=
  ∀ (z : List Int) (d c : Nat) (s : State),
    (z.length = 128 → d < 128 → (wht128 z).getD d 0 = ((List.range 128).map (fun t => walsh d t * z.getD t 0)).sum) ∧
    (s.memOk → s.clk.core = true → s.chn.prev.decoded = false → s.cal.gain = none →
      let f := s.chn.prev
      let p := s.params f.epoch
      let m := s.pinMap p.ctx
      let b : Int := s.mem.leI (0x30049800 + 4 * (192 * d + c)) 4
      let u := ((frameU s f.epoch).getD c []).getD d 0
      let base := if f.epoch % 2 = 0 then 0x30061800 else 0x3006D800
      (f.kind = .normal → f.dcause ≠ 0 → Completes (.deltaFrameWritten []) s (fun t =>
        ({ t with elec.ovrCnt := s.elec.ovrCnt } : State) = { s with chn.prev.decoded := true } ∧
        t.elec.ovrCnt = min (s.elec.ovrCnt +
          ((List.range m.sense.length).filter (fun c => !f.held (m.sense.getD c 0) && f.overrangeCol c)).length) 65535)) ∧
      (f.kind = .normal → f.dcause = 0 → f.faults = [] → f.undriven = [] → f.ovr = [] → f.recalCols = [] → d < p.d → c < p.s →
        p.d = m.drive.length → p.s = m.sense.length → p.d ≤ 128 → p.s ≤ 192 → Completes (.deltaFrameWritten []) s (fun t => t.chn.prev.decoded = true ∧
          t.mem.leI (base + 2 * (192 * d + c)) 2 = max (-32768) (min 32767 ((b - 256 * u + 16384) / 32768)) ∧
          t.mem.leI (0x30049800 + 4 * (192 * d + c)) 4 = b)))

/-- The tracker takes every decoded frame, and its report, with the frame's epoch, is then in the track mirror (06 R166, R178).
On a frame without contacts a finger's track coasts where it is, and lifts when its coast reaches TRK_LIFT; on one with a single node
above both thresholds and no track near, a track opens at that node with the next contact ID; a discarded frame's report carries the
records of the one before (06 R164, R167 to R173, R176). -/
def Obligations.TracksOpenCoastAndLift : Prop :=
  ∀ (d c v us i : Nat) (k : Track) (s : State), s.memOk → s.clk.core = true → s.chn.prev.tracked = false → s.chn.prev.decoded = true →
    s.chn.prev.kind = .normal → s.boot.role = .standalone →
    let f := s.chn.prev
    let p := s.params f.epoch
    let field (o n : Nat) : Nat := s.ctxField p.ctx o n
    let base := if f.epoch % 2 = 0 then 0x30061800 else 0x3006D800
    let zeroBut (a : Nat) : Prop := ∀ x, base ≤ x → x < base + 49152 → x ≠ a → x ≠ a + 1 → s.mem.byte x = 0#8
    (f.dcause ≠ 0 → Completes (.trackUpdate us []) s (fun t => t.chn.prev.tracked = true ∧ t.trk.report.discard = true ∧
      t.trk.report.epoch = f.epoch ∧ t.trk.report.dcause = f.dcause ∧
      t.trk.report.recs.map (·.id) = (s.trk.prevRecs.filter (fun x => x.status < 2 ∨ x.status = 6)).map (·.id) ∧
      ∀ x ∈ t.trk.report.recs, x.status = 1 ∧ x.vx = 0 ∧ x.vy = 0)) ∧
    (f.dcause = 0 → Completes (.trackUpdate us []) s (fun t => t.chn.prev.tracked = true ∧ t.chn.prev.merged = true ∧
      t.trk.report.epoch = f.epoch ∧ t.trk.report.discard = false ∧
      (f.epoch < 2 ^ 32 → t.mem.le 0x30081800 4 = f.epoch ∧ t.mem.le 0x30081804 4 = 1))) ∧
    (f.dcause = 0 → s.trk.rebuild = false → s.cal.releases = [] → s.tok.bad = true → field 0x2EB 1 = 0 → 0 < field 0x320 2 →
      field 0x2E2 1 = 0 → p.d ≤ 128 → p.s ≤ 192 →
      (zeroBut 0 → i < 64 → s.trk.tab = (List.replicate 64 none).set i (some k) → k.cls = 0 → k.status = 1 →
        Completes (.trackUpdate us []) s (fun t => t.chn.prev.tracked = true ∧
          (t.trk.tab.getD i none).map (fun x => (x.id, x.cls, x.coast, x.vx, x.vy, x.x, x.y)) = some (k.id, 0, k.coast + 1, 0, 0, k.x, k.y) ∧
          (t.trk.tab.getD i none).map (·.status) = some (if field 0x327 1 ≤ k.coast + 1 then 2 else 1))) ∧
      (zeroBut (base + 2 * (192 * d + c)) → d < p.d → c < p.s → s.mem.leI (base + 2 * (192 * d + c)) 2 = v → field 0x320 2 ≤ v →
        field 0x322 2 ≤ v → field 0x324 2 ≤ v → s.trk.tab = List.replicate 64 none → s.crl.lent = [] → s.trk.openCtr < 1024 → 2 ≤ field 0x32C 2 → 2 ≤ field 0x32A 1 → 255 ≤ field 0x32B 1 →
        Completes (.trackUpdate us []) s (fun t => (t.trk.tab.getD 0 none).map (fun x => (x.id, x.cls, x.x, x.y, x.status, x.coast)) =
            some (s.trk.openCtr, 0, (256 * c : Int), (256 * d : Int), 1, 0) ∧
          t.trk.openCtr = (s.trk.openCtr + 1) % 1024 ∧ ∀ j, j < 64 → j ≠ 0 → t.trk.tab.getD j none = none)))

/-- The baseline update of a frame: a free node follows its raw value by BL_SHIFT, is set afresh after BL_HOLD negative frames, and stays else
(05 R127); a discarded frame leaves every baseline and marks the nodes FROZEN (05 R126, R131); the initial baseline is sixteen times the
sums, and ends the calibration (05 R132, R147). -/
def Obligations.BaselinesFollowTheFrames : Prop :=
  ∀ (d c : Nat) (s : State), s.memOk →
    let f := s.chn.prev
    let p := s.params f.epoch
    let field (o n : Nat) : Nat := s.ctxField p.ctx o n
    let n := 192 * d + c
    let B (t : State) : Int := t.mem.leI (0x30049800 + 4 * n) 4
    let u := ((frameU s f.epoch).getD c []).getD d 0
    let delta : Int := s.mem.leI ((if f.epoch % 2 = 0 then 0x30061800 else 0x3006D800) + 2 * n) 2
    let neg := s.mem.le (0x100048000 + n) 1 / 4
    let negs := min (neg + 1) 63
    let state (t : State) : Nat := t.mem.le (0x100048000 + n) 1
    (d < p.d → c < p.s → p.d ≤ 128 → p.s ≤ 192 → s.clk.core = true → f.merged = true → f.updated = false → f.kind = .normal → u.natAbs < 2 ^ 23 →
      (f.dcause = 0 → s.trk.tab = List.replicate 64 none → s.trk.water = [] → s.cal.relNodes = [] → f.faults = [] → f.undriven = [] →
        f.ovr = [] → f.recalCols = [] → s.mem.le (0x100048000 + n) 1 % 4 = 0 → Completes .baselineUpdate s (fun t =>
          t.chn.prev.updated = true ∧
          B t = (if delta ≤ -(field 0x304 2 : Int) then (if field 0x306 1 ≤ negs then 256 * u else B s)
            else if delta.natAbs < field 0x302 2 then B s + (256 * u - B s + (2 ^ (field 0x300 1 - 1) : Nat)) / (2 ^ field 0x300 1 : Nat)
            else B s) ∧
          state t / 4 = (if delta ≤ -(field 0x304 2 : Int) ∧ negs < field 0x306 1 then negs else 0))) ∧
      (f.dcause ≠ 0 → Completes .baselineUpdate s (fun t => t.chn.prev.updated = true ∧ B t = B s ∧ state t / 2 % 2 = 1 ∧
        state t / 4 = neg))) ∧
    (d < p.d → c < p.s → p.d ≤ 128 → p.s ≤ 192 → s.cal.kind = .full → s.cal.phase = 5 → s.cal.done = 16 → f.decoded = true →
      f.kind = .baseline → field 0x30A 2 = 0 → field 0x30C 2 = 0 → s.cal.maskSus = [] → s.cal.baseOnly = false →
      (s.mem.leI (0x100050000 + 8 * n) 8).natAbs < 2 ^ 27 → Completes .initialBaseline s (fun t =>
        B t = 16 * s.mem.leI (0x100050000 + 8 * n) 8 ∧ state t = 0 ∧ t.cal.kind = .none ∧ t.cal.calDone = true ∧ t.cal.cmds = []))

/-- The start bits of the line test and of calibrations, ignored while BUSY; of what core 0 derives from an injection frame a pair within the
target on the stored sums (03 R67) is loaded, verified with its scales on the verify frame's, tried again and given up after its third failure
with the best kept; the trim search moves each code by its rounded step value; the shadow restores the trim RAM;
the line test's phases flag pins and its last one sets the codes (02 R50, R54, 05 R121 to R125, R149). -/
def Obligations.CalibrationsAndLineTestsRun : Prop :=
  ∀ (v : Word) (c k i pin : Nat) (a b : Int) (s : State), s.memOk →
    let r : PairResult := { chain := c, slot := k, pc := a, ps := b }
    let meets (e j : Nat) (x : Int × Int) : Prop := (pairError s e c j x).1 ≤ (pairError s e c j x).2
    let p := s.params s.chn.prev.epoch
    let pair (t : State) : Int × Int :=
      (t.mem.leI (0x100040000 + 4 * (5 * c + k - 2)) 2, t.mem.leI (0x100040000 + 4 * (5 * c + k - 2) + 2) 2)
    let code (t : State) : Int := t.mem.leI (0x100000000 + 2 * (256 * c + i)) 2
    (s.clk.core = true → s.clk.afe = true →
      (v.toNat % 8 = 1 → exec (.ltestStart v) s = .next { s with elec.ltPending := s.elec.ltPending || s.elec.ltLeft == 0 }) ∧
      (v.toNat % 8 = 4 → exec (.ltestStart v) s = .next { s with elec.ltDone := false }) ∧
      (v.toNat % 16 = 1 → s.cal.kind = .none → s.cal.fullDue = none → s.cal.groupDue = none →
        exec (.calFullStart v) s = .next { s with cal.fullDue := some false }) ∧
      (v.toNat % 16 = 1 → s.cal.kind ≠ .none ∨ s.cal.fullDue ≠ none ∨ s.cal.groupDue ≠ none → exec (.calFullStart v) s = .next s) ∧
      (v.toNat % 16 = 2 → s.cal.kind = .none → s.cal.fullDue = none → s.cal.groupDue = none →
        exec (.calGroupStart v) s = .next { s with cal.groupDue := some false }) ∧
      (v.toNat % 16 = 8 → exec (.calGroupStart v) s = .next { s with cal.calDone := false }) ∧
      Completes (.trimRestore []) s (fun t => (∀ x, x < 0x18000 → t.mem.byte (0x100000000 + x) = s.mem.byte (0x100020000 + x)) ∧
        ({ t with mem := s.mem } : State) = { s with cal.trimDue := false })) ∧
    (s.fwRuns = true → s.cal.kind = .full → s.cal.phase = 3 → c < 192 → 2 ≤ k → k ≤ 6 → -32768 ≤ a → a ≤ 32767 → -32768 ≤ b → b ≤ 32767 →
      (s.cal.measured = false → s.chn.prev.kind = .inject false [c] → s.chn.prev.dcause = 0 →
        Completes (.calInjectionResult [r] []) s (fun t => t.cal.measured = true ∧
          (meets s.chn.prev.epoch k (a, b) → pair t = (a, b) ∧ t.cal.tries = s.cal.tries) ∧
          (¬meets s.chn.prev.epoch k (a, b) → pair t = pair s))) ∧
      (s.cal.measured = true → s.chn.cur.kind = .inject true [c] → s.chn.cur.dcause = 0 → s.chn.seg ≠ 0 →
        s.cal.took.map (·.epoch) ≠ some s.chn.cur.epoch → (∀ j, j < 2 → scaleError [chargeSum s s.chn.cur.epoch c j 0, chargeSum s s.chn.cur.epoch c j 1]
          (s.mem.le (scaleRam + 2 * (2 * c + j)) 2) ≤ 2048) →
        let e := s.chn.cur.epoch
        let same (x y : State) : Prop := ({ x with cal.took := y.cal.took, cal.verifies := y.cal.verifies } : State) = y
        let miss := (pairError s e c k (s.pair c k)).1
        let others := ∀ j, 2 ≤ j → j ≤ 6 → j ≠ k → meets e j (s.pair c j)
        let asked : Instr := .calInjectionResult [r] []
        (s.cal.tries = [] → s.cal.verifies < 2 → Completes asked s (fun t => t.cal.verifies = s.cal.verifies + 1 ∧
          (others → meets e k (s.pair c k) → same t s) ∧
          (others → ¬meets e k (s.pair c k) → meets e k (a, b) → pair t = (a, b) ∧
            t.cal.tries = [{ chain := c, slot := k, attempts := 1, best := pair s, err := miss }] ∧ t.cal.calfail = s.cal.calfail))) ∧
        (∀ err, s.cal.tries = [{ chain := c, slot := k, attempts := 2, best := (a, b), err := err }] → Completes asked s (fun t =>
          (others → meets e k (s.pair c k) → same t { s with cal.tries := [] }) ∧
          (others → ¬meets e k (s.pair c k) → err ≤ miss → pair t = (a, b) ∧ t.cal.tries = [] ∧
            t.cal.calfail = min (s.cal.calfail + 1) 255))))) ∧
    (s.chn.prev.kind = .trimMeasure → s.chn.prev.dcause = 0 → s.cal.phase = 4 → c < p.s → p.s ≤ 192 → i < 128 → p.kp = 2 + k → k < 5 →
      Completes .trimSearchMeasure s (fun t =>
        code t = max (-512) (min 511 (code s + roundDiv
          (16 * s.mem.leI ((if s.chn.prev.epoch % 2 = 0 then 0x30000000 else 0x30024C00) + 3 * (256 * c + i)) 3)
          (s.mem.leI (0x100042000 + 4 * (5 * c + k)) 4))))) ∧
    (s.elec.ltLeft ≠ 0 →
      (s.elec.ltCodes = [] → Completes (.lineTestPhaseEnd (.leakage [pin] [])) s (fun t => t.elec.ltCodes = [(pin, 2)] ∧ t.elec.code = s.elec.code)) ∧
      (s.elec.ltCodes = [] → Completes (.lineTestPhaseEnd (.leakage [] [pin])) s (fun t => t.elec.ltCodes = [(pin, 3)])) ∧
      (s.elec.ltCodes = [(pin, 2)] → Completes (.lineTestPhaseEnd (.coupling [pin])) s (fun t => t.elec.ltCodes = [(pin, 4)])) ∧
      (s.elec.ltCodes = [(pin, i)] → pin < 320 → s.elec.code.length = 320 → Completes (.lineTestPhaseEnd (.self [])) s (fun t =>
        t.elec.ltDone = s.elec.ltDone ∧ t.elec.ltCodes = [] ∧ ∀ x, x < 320 → t.elec.code.getD x 15 =
          if s.elec.code.getD x 15 = 7 ∨ s.elec.code.getD x 15 = 15 then s.elec.code.getD x 15 else if x = pin then i else 0)))

/-! ### The Crila ports (07 R189 to R200, R224, R225) -/

/-- A frame whose blocks arrive whole and in order through the descramblers is taken and consumed, holding a receive buffer, or forwarded with
TTL one less; a damaged one is counted and NAKed, a repeated one dropped, a frame of a longer message not delivered again. An ACK frees the frames it covers and starts the
count of sendings of the rest afresh. A port sends half a link cycle of 19 blocks at a time: a queued frame leaves with the next SEQ and a
credit less, the lowest class first. A NAK or the timeout sends the held ones again as far as the credits go, and the eighth sending without
an ACK takes the port down, as a held frame that reads with bad parity does (07 R186 to R189, R191, R192, R194 to R196, R198 to R200,
18 R481). -/
def Obligations.FramesArriveInOrderOnce : Prop :=
  ∀ (p : Port) (f : CFrame) (bs : List LinkBlock) (k : BlockKind) (v : Nat) (rest : List CFrame) (s : State), s.onRing = true → s.memOk →
    (s.port p).state = 2 →
    let q := s.port p
    let out : Port := if f.dirn then .up else .dn
    let src : Nat := if f.cls = 2 then 23 else 22
    let mine := s.isRoot = true ∨ s.crl.enrolled = true
    let heard (x : PortSt) (t : State) : Prop := t = s.setPort p (fun _ =>
      { x with rxLane := (t.port p).rxLane, win := (t.port p).win, lane := (t.port p).lane, rscr := (t.port p).rscr, rxPos := (t.port p).rxPos })
    let whole : Prop := wireOk f (hearBlocks q bs).2 = true
    let half (t : State) : Prop := (t.port p).half = !q.half ∧ (t.port p).wire.length = 19 ∧ (t.port p).rxSeq = q.rxSeq ∧
      (q.mark = none → (t.port p).nakDue = false) ∧ ({ t with crl := s.crl } : State) = s
    let leaves (t : State) (n : Nat) : Prop := (t.port p).held = q.held ++ [({ f with seq := q.txSeq }, 1)] ∧
      (t.port p).txSeq = (q.txSeq + 1) % 4096 ∧ (t.port p).cred = q.cred.modify n (· - 1)
    let idle (t : State) : Prop := half t ∧ (t.port p).held = q.held ∧ (t.port p).txSeq = q.txSeq ∧ (t.port p).cred = q.cred ∧
      (t.port p).q0 = q.q0 ∧ (t.port p).q1 = q.q1 ∧ (t.port p).q2 = q.q2
    (whole →
      (f.seq = (q.rxSeq + 1) % 4096 → mine → forStranger f.msg = false → f.bcast = false →
        (f.dst = s.tile → f.parts ≤ 1 ∨ (f.src, 1024 * f.num + f.part) ∉ s.crl.accepted → s.clk.core = true →
          Completes (.crilaFrameReceive p f bs false) s (fun t => (t.port p).rxSeq = f.seq ∧ (t.port p).nakDue = false ∧
            (t.port p).bufs = q.bufs ++ [f] ∧ t.crl.inbox = s.crl.inbox ++ [f] ∧ t.crl.ttlDrop = s.crl.ttlDrop ∧
            (f.parts ≤ 1 → s.icu.src.length = 48 → t.srcAt src = ((s.srcAt src).arrival).1) ∧
            (1 < f.parts → s.crl.accepted = [] → t.icu = s.icu))) ∧
        (f.dst = s.tile → 1 < f.parts → (f.src, 1024 * f.num + f.part) ∈ s.crl.accepted →
          Completes (.crilaFrameReceive p f bs false) s (fun t => (t.port p).rxSeq = f.seq ∧ t.crl.inbox = s.crl.inbox ∧ t.icu = s.icu)) ∧
        (f.dst ≠ s.tile → 1 < f.ttl → (s.port out).state = 2 → f.cls = 0 →
          Completes (.crilaFrameReceive p f bs false) s (fun t => (t.port p).rxSeq = f.seq ∧ t.crl.inbox = s.crl.inbox ∧
            (t.port out).q0 = (s.port out).q0 ++ [{ f with ttl := f.ttl - 1 }])) ∧
        (f.dst ≠ s.tile → f.ttl ≤ 1 →
          Completes (.crilaFrameReceive p f bs false) s (fun t => (t.port p).rxSeq = f.seq ∧ t.crl.inbox = s.crl.inbox ∧
            t.crl.ttlDrop = min (s.crl.ttlDrop + 1) 65535 ∧ t.crl.up.q0 = s.crl.up.q0 ∧ t.crl.dn.q0 = s.crl.dn.q0))) ∧
      (f.seq = q.rxSeq % 4096 → q.rxSeq < 4096 → Completes (.crilaFrameReceive p f bs false) s (heard q))) ∧
    (¬whole → Completes (.crilaFrameReceive p f bs false) s (fun t => (t.port p).rxSeq = q.rxSeq ∧ t.crl.inbox = s.crl.inbox ∧
      ((t.port p).nakDue = true ↔ q.nakDue = true ∨ q.nakSent = false) ∧
      t.crl.crcUp + t.crl.crcDn = (match p with
        | .up => min (s.crl.crcUp + 1) 65535 + s.crl.crcDn
        | .dn => s.crl.crcUp + min (s.crl.crcDn + 1) 65535))) ∧
    (k = .cb0 ∨ k = .cb1 → v < 2 ^ 56 →
      let left := q.held.filter (fun h => 2048 ≤ (v % 4096 + 4096 - h.1.seq) % 4096)
      let left := if left.length < q.held.length then left.map (fun h => (h.1, 0)) else left
      let cred (i : Nat) : Nat := min (v / 2 ^ (16 + 5 * i) % 32) 16
      let block := lineBlock (endSlot q) (controlOf k v)
      (v.testBit 12 = false → Completes (.controlBlockReceive p block) s (heard { q with
        cred := [cred 0, cred 1, cred 2], held := left, again := min q.again left.length })) ∧
      (v.testBit 12 = true → left ≠ [] → (∀ i, i < 3 → left.length ≤ cred i) → (left.all (fun h => h.2 < 7)) = true →
        Completes (.controlBlockReceive p block) s (fun t => (t.port p).state = 2 ∧ (t.port p).again = 0 ∧
          (t.port p).held = left.map (fun h => (h.1, h.2 + 1))))) ∧
    (q.held ≠ [] →
      ((∀ i, i < 3 → q.held.length ≤ q.cred.getD i 0) →
        ((q.held.all (fun h => h.2 < 7)) = true → Completes (.retransmitTimeout p false) s (fun t =>
          (t.port p).held = q.held.map (fun h => (h.1, h.2 + 1)) ∧ (t.port p).state = 2 ∧
          (p = .up → t.crl.retryUp = min (s.crl.retryUp + q.held.length) 65535) ∧
          (p = .dn → t.crl.retryDn = min (s.crl.retryDn + q.held.length) 65535))) ∧
        ((q.held.any (fun h => 7 ≤ h.2)) = true → Completes (.retransmitTimeout p false) s (fun t => (t.port p).state = 0))) ∧
      Completes (.retransmitTimeout p true) s (fun t => (t.port p).state = 0 ∧ t.icu.parCnt = min (s.icu.parCnt + 1) 65535)) ∧
    (q.late = [] →
     (q.held.length < 64 → q.again = 0 →
       (q.q0 = f :: rest → 0 < q.cred.getD 0 0 → Completes (.frameTransmit p) s (fun t => half t ∧ leaves t 0 ∧ (t.port p).q0 = rest ∧
         (t.port p).q1 = q.q1 ∧ (t.port p).q2 = q.q2)) ∧
       (q.q0 = [] ∨ q.cred.getD 0 0 = 0 → q.q1 = f :: rest → 0 < q.cred.getD 1 0 → Completes (.frameTransmit p) s (fun t => half t ∧
         leaves t 1 ∧ (t.port p).q1 = rest ∧ (t.port p).q0 = q.q0 ∧ (t.port p).q2 = q.q2)) ∧
       (q.cred = [0, 0, 0] → Completes (.frameTransmit p) s idle)) ∧
     (64 ≤ q.held.length → q.again = 0 → Completes (.frameTransmit p) s idle))

/-- A port goes down once: what it held turns back out of the other port, wrapping starts and BREAK is sent; 1 ms later it trains; a
completed training brings it up with SEQ 0 unless its hop latency is above 1.0 µs, and an enrolled member says HELLO RETAINED
(07 R197, R200, R224, R225, 14 R391). -/
def Obligations.PortsGoDownAndTrainAgain : Prop :=
  ∀ (p : Port) (lat : Nat) (s : State), s.onRing = true → s.memOk →
    let q := s.port p
    let o : Port := match p with
      | .up => .dn
      | .dn => .up
    let sends (t : State) (m : Msg) : Prop := ((t.crl.up.q0 ++ t.crl.up.q1 ++ t.crl.dn.q0 ++ t.crl.dn.q1).any (fun g => g.msg == m)) = true
    (q.state = 2 → Completes (.portDown p) s (fun t => (t.port p).state = 0 ∧ t.crl.wrap = true ∧
      t.crl.upDown + t.crl.dnDown = (match p with
        | .up => min (s.crl.upDown + 1) 255 + s.crl.dnDown
        | .dn => s.crl.upDown + min (s.crl.dnDown + 1) 255) ∧
      (s.clk.core = true → s.icu.src.length = 48 → t.srcAt 24 = ((s.srcAt 24).arrival).1) ∧
      ((s.port o).state = 2 →
        ((q.held.map (·.1) ++ q.q0 ++ q.q1 ++ q.q2).all (fun f =>
          ((t.port o).q0 ++ (t.port o).q1 ++ (t.port o).q2).contains { f with dirn := !f.dirn, wrapped := true })) = true ∧
        (t.port p).q0 = [] ∧ (t.port p).q2 = [] ∧
        (s.isMember = true → s.crl.enrolled = true → sends t (.brk s.crl.tile p)) ∧
        (s.isRoot = true → 1 < s.crl.ntiles → (0, p) ∈ t.arr.breaks)) ∧
      ((s.port o).state ≠ 2 → s.isMember = true → t.chn.discardReports = true))) ∧
    (q.state ≠ 2 → exec (.portDown p) s = .next s) ∧
    (q.state = 0 → Completes (.portRetrain p) s (fun t => (t.port p).state = 1 ∧ (t.port o) = s.port o ∧
      (s.clk.core = true → s.icu.src.length = 48 → t.srcAt 24 = ((s.srcAt 24).arrival).1))) ∧
    (q.state = 1 →
      (lat ≤ 768 → Completes (.trainingComplete p lat) s (fun t => (t.port p).state = 2 ∧ (t.port p).lane = 3 ∧ (t.port p).hopLat = lat ∧
        (t.port p).txSeq = 0 ∧ (t.port p).rxSeq = 4095 ∧ (t.port p).held = [] ∧ t.crl.marks = 0 ∧
        (s.clk.core = true → s.icu.src.length = 48 → t.srcAt 24 = ((s.srcAt 24).arrival).1) ∧
        (s.isMember = true → s.crl.enrolled = true → s.arr.quiet = [] → sends t (.hello true s.crl.tile s.ctx.gen)))) ∧
      (768 < lat → lat < 65536 → exec (.trainingComplete p lat) s = .next (s.setPort p (fun x => { x with hopLat := lat }))))

/-! ### The array (07 R204 to R211, R226 to R230, 19 R498) -/

/-- ENUM and HELLO: a member that is not enrolled answers the probe; the root gives the next index, counts the tile and probes on; it turns
to UP-ward enrolment after 1 ms without an answer, and then ends with the ring open. ASSIGN makes the member enrolled with its record and
READY goes back; READY with firmware puts the tile online, with level 0 it waits for the broadcast, and a bad record keeps it out with
MAP_ERROR. The firmware goes out once (07 R185, R204 to R206, R229, 19 R497 to R499). -/
def Obligations.EnrolmentFormsTheArray : Prop :=
  ∀ (p : Port) (tile gen level : Nat) (lent : List Nat) (raw : List Byte) (s : State), s.clk.link = true → s.memOk →
    let rc := tileRecOf raw
    let onPort (t : State) (m : Msg) : Prop := ((t.port p).q1.any (fun g => g.msg == m)) = true
    let sent (t : State) (m : Msg) : Prop :=
      ((t.crl.up.q0 ++ t.crl.up.q1 ++ t.crl.up.q2 ++ t.crl.dn.q0 ++ t.crl.dn.q1 ++ t.crl.dn.q2).any (fun g => g.msg == m)) = true
    (s.isMember = true →
      (s.crl.enrolled = false → (s.port p).state = 2 → s.crl.inbox = [] →
        Completes (.enum p) s (fun t => onPort t (.hello false s.crl.tile 0) ∧ t.crl.enrolled = false)) ∧
      (s.crl.enrolled = true → s.crl.inbox = [] → exec (.enum p) s = .next s) ∧
      (s.arr.quiet = [] → Completes (.assign tile lent raw) s (fun t => t.crl.tile = tile % 64 ∧ t.crl.enrolled = true ∧
        t.crl.lent.map (·.1) = lent ∧ t.crl.own = (if s.boot.eepromSel then some rc else none) ∧ sent t (.ready s.boot.level) ∧
        (s.boot.eepromSel = true → t.out.bus = s.out.bus ++ [busRead (0x4100 + 128 * (tile % 64)) 128]) ∧
        (s.boot.phase = .waitEnum → t.boot.phase = .waitFw)))) ∧
    (s.isRoot = true →
      (s.crl.inbox = [] → s.arr.probe = some .dn → p = .up → Completes (.enum p) s (fun t => t.arr.probe = none ∧ t.crl.openRing = false)) ∧
      (s.arr.probe = some .dn → p = .up → Completes .enumTimeout s (fun t =>
        t.arr.probe = some .up ∧ t.arr.upward = true ∧ t.arr.upDist = 1 ∧ (s.crl.up.state = 2 → onPort t .enum))) ∧
      (s.arr.probe = some .up → Completes .enumTimeout s (fun t =>
        t.arr.probe = none ∧ (t.crl.openRing = true ↔ 1 < s.crl.ntiles) ∧
        (1 < s.crl.ntiles → s.crl.openRing = false → s.evt.buf.length < 64 → ∃ l : Nat, l < 64 ∧
          t.evt.buf = s.evt.buf ++ [{ code := 0x08, tile := 0, epoch := s.epoch, d0 := 256 + l, d1 := 0 }]) ∧
        (s.crl.openRing = true → t.evt = s.evt))) ∧
      (s.arr.probe = some p → s.arr.resetMember = none → s.arr.forming = true → s.arr.upward = false → s.crl.own ≠ none →
        0 < s.arr.nextPos → s.arr.nextPos < s.arr.nmap → (s.port p).state = 2 → Completes (.hello p false tile gen) s (fun t =>
          s.arr.nextPos ∈ t.arr.awaitReady ∧ t.arr.nextPos = s.arr.nextPos + 1 ∧
          (s.arr.map = [] → s.arr.awaitReady = [] → t.crl.ntiles = s.crl.ntiles + 1) ∧
          let others := s.crl.online.filter (fun k => k != 0 && k != s.arr.nextPos)
          (others = [] → ((t.port p).q1.any (fun g =>
              g.msg == .assign s.arr.nextPos (ridsOf s.arr.nextPos s).eraseDups none && g.dst == s.arr.nextPos)) = true ∧ onPort t .enum) ∧
          (others ≠ [] → t.arr.collect = some (s.arr.nextPos, p, others, ridsOf s.arr.nextPos s) ∧ sent t (.askRids s.arr.nextPos)))) ∧
      (rc.format = 1 → rc.tile = tile → rc.crcOk = true → rc.nbrs = [] → tile < s.arr.nmap → s.arr.fwUpdate = none → tile < 64 →
        (level ≠ 0 → s.arr.forming = true → tile ∉ s.crl.online → Completes (.ready tile level raw) s (fun t =>
          t.crl.online = s.crl.online ++ [tile] ∧ rc ∈ t.arr.map ∧ tile ∉ t.arr.awaitReady ∧ tile ∉ t.arr.quiet)) ∧
        (s.arr.fwSent = false → Completes (.ready tile 0 raw) s (fun t =>
          t.crl.online = s.crl.online ∧ rc ∈ t.arr.map ∧ tile ∈ t.arr.wantFw ∧ tile ∉ t.arr.awaitReady))) ∧
      (rc.format ≠ 1 → tile ∈ s.arr.awaitReady → s.evt.buf.length < 64 → tile < 64 → Completes (.ready tile level raw) s (fun t =>
        tile ∉ t.crl.online ∧ t.crl.ntiles = s.crl.ntiles - 1 ∧ (assoc t.crl.dirs tile) = none ∧ tile ∉ t.arr.awaitReady ∧ (t.arr.map.any (fun r => r.tile == tile)) = false ∧
        t.evt.buf = s.evt.buf ++ [{ code := 0x07, tile := 0, epoch := s.epoch, d0 := tile + 256, d1 := 0 }])) ∧
      (s.arr.forming = true → s.arr.fwSent = false → s.arr.probe = none → Completes .fwBroadcast s (fun t => t.arr.fwSent = true ∧
        (1 < s.crl.ntiles → sent t (.fwData (s.mem.read 0x10000000 s.boot.fwLen) s.boot.fwCrc s.boot.level false) ∧
          (s.boot.applet ≠ [] → sent t (.ctxData 0 0 s.boot.applet 4))))) ∧
      (s.arr.fwSent = true → exec .fwBroadcast s = .next s))

/-- MARK sets the timer's phase, then its frequency, then both by e/4 and e/64, and starts the timer of an enrolled member; eight good markers
lock, four bad ones unlock, and the change raises source 25; the marker goes on with its DELAY and HOPS. Of the two markers of a boundary the
better one is used: a member that is to get both waits for the second, which is the model's choice (log entry 70). EPOCH sets the number
(07 R208 to R211, 14 R391). -/
def Obligations.MarkersLockTheTimer : Prop :=
  ∀ (p : Port) (n delay hops res h1 : Nat) (err e1 : Int) (e : Nat) (s : State), s.isMember = true → s.clk.link = true → s.memOk →
    n < 2 ^ 16 → delay < 2 ^ 24 → hops < 64 → -32768 ≤ err → err ≤ 32767 → -32768 ≤ e1 → e1 ≤ 32767 →
    let block := lineBlock (endSlot (s.port p)) (controlOf .mark (markPayload (n, delay, hops)))
    let o : Port := match p with
      | .up => .dn
      | .dn => .up
    let goesOn (t : State) : Prop :=
      (s.port o).state = 2 → (t.port o).mark = some (n, (delay + (s.port p).hopLat + res) % 2 ^ 24, (hops + 1) % 64)
    let used (x : Int) (h : Nat) (q : Port) (t : State) : Prop :=
      t.crl.err = x ∧ t.crl.best = some (h, q) ∧ t.crl.marks = min 2 (s.crl.marks + 1) ∧
      (s.crl.marks = 0 → t.crl.phase = s.crl.phase + 4 * x ∧ t.crl.freq = s.crl.freq) ∧
      (s.crl.marks = 1 → t.crl.phase = s.crl.phase ∧ t.crl.freq = s.crl.freq + 64 * x) ∧
      (2 ≤ s.crl.marks → t.crl.phase = s.crl.phase + x ∧ t.crl.freq = s.crl.freq + x) ∧
      (s.crl.lock = false → (t.crl.lock = true ↔ 7 ≤ s.crl.good ∧ x.natAbs ≤ 50)) ∧
      (s.crl.lock = true → (t.crl.lock = false ↔ 3 ≤ s.crl.bad ∧ 100 < x.natAbs)) ∧
      (s.crl.enrolled = true → t.chn.timer = true) ∧
      (s.clk.core = true → s.icu.src.length = 48 →
        t.srcAt 25 = if t.crl.lock = s.crl.lock then s.srcAt 25 else ((s.srcAt 25).arrival).1)
    let unmoved (t : State) : Prop :=
      t.crl.phase = s.crl.phase ∧ t.crl.freq = s.crl.freq ∧ t.crl.lock = s.crl.lock ∧ t.crl.best = s.crl.best ∧ t.crl.marks = s.crl.marks
    ((s.port p).state = 2 → s.crl.best = none →
      (s.crl.first = none → s.chn.timer = false ∨ s.twoMarks = false → Completes (.mark p block res err) s (fun t =>
        used err hops p t ∧ goesOn t)) ∧
      (s.crl.first = none → s.chn.timer = true → s.twoMarks = true → Completes (.mark p block res err) s (fun t =>
        t.crl.first = some (hops, p, err) ∧ unmoved t ∧ goesOn t)) ∧
      (s.crl.first = some (h1, o, e1) → Completes (.mark p block res err) s (fun t => goesOn t ∧
        (hops < h1 ∨ (hops = h1 ∧ p = .up) → used err hops p t) ∧ (h1 < hops ∨ (hops = h1 ∧ p = .dn) → used e1 h1 o t)))) ∧
    (s.crl.best ≠ none → Completes (.mark p block res err) s unmoved) ∧
    (s.crl.inbox = [] → e < 2 ^ 32 →
      (e = s.epoch → exec (.epochMessage e) s = .next s) ∧
      (e ≠ s.epoch → Completes (.epochMessage e) s (fun t => t.epoch = e ∧ t.chn.cur.epoch = e ∧ t.ctx = s.ctx ∧ t.crl = s.crl)))

/-- ROUTE replaces a member's directions, online set and seams and ends wrapping; a BREAK from both ends of a link is a broken link, with
its event, and every tile stays; from one end only, the member at the silent end is lost: its event, a report with RESYNC and PARTIAL, and
the tile off the array; a retained HELLO brings the link back (07 R226 to R230, 10 R308). -/
def Obligations.LinkAndMemberLoss : Prop :=
  ∀ (dirs : List (Nat × Bool)) (online : List Nat) (seams : List (Nat × Nat)) (map : List TileRec) (ring : Nat) (cut : List Nat) (k : Nat) (p : Port)
    (s : State), s.clk.link = true → s.memOk → s.crl.inbox = [] →
    let n := if s.arr.ring = 0 then s.crl.ntiles else s.arr.ring
    (s.isMember = true → Completes (.route dirs online seams map ring cut) s (fun t =>
      t.crl.dirs = dirs ∧ t.crl.online = online ∧ t.crl.map = map ∧ t.crl.ring = ring ∧ t.crl.cut = cut ∧ t.crl.wrap = false ∧
      t.crl.wrapOff = true ∧ t.crl.routed = true ∧ t.crl.ntiles = dirs.length + 1 ∧
      (t.crl.lent.all (fun x => online.contains x.2 || x.2 == 64)) = true ∧
      (t.crl.enrolled = true ↔ s.crl.enrolled = true ∧ (dirs.any (fun d => d.1 == s.crl.tile)) = true) ∧
      (t.crl.enrolled = true → s.crl.tile ∈ online → s.chn.discardReports = true → t.chn.discardReports = false ∧ t.trk.resync = true) ∧
      (s.crl.tile ∉ online → t.chn.discardReports =
        (s.chn.discardReports || (t.crl.enrolled && s.crl.online.contains s.crl.tile))) ∧
      (seams = [(s.crl.tile, k)] → t.crl.seamsOff = [k]) ∧ (seams = [] → t.crl.seamsOff = []))) ∧
    (s.isRoot = true →
      Completes (.breakReport k p) s (fun t => (k, p) ∈ t.arr.breaks ∧ t.crl = s.crl ∧
        (t.arr.breaks.filter (· != (k, p))) = s.arr.breaks.filter (· != (k, p))) ∧
      (s.arr.breaks = [] → exec .breakDecision s = .next s) ∧
      (0 < k → k + 1 < n → n ≤ 64 → 1 < s.crl.ntiles → s.arr.cut = [] → (s.crl.online.all (· < n)) = true → s.evt.buf.length < 60 →
        s.arr.breaks = [(k, .dn), (k + 1, .up)] → Completes .breakDecision s (fun t =>
          t.arr.cut = [k] ∧ t.arr.breaks = [] ∧ t.crl.openRing = true ∧ t.crl.online = s.crl.online ∧
          t.evt.buf = s.evt.buf ++ [{ code := 0x08, tile := 0, epoch := s.epoch, d0 := k, d1 := 0 }] ∧ t.host.memberLost = s.host.memberLost)) ∧
      (0 < k → k + 1 < n → n ≤ 64 → 1 < s.crl.ntiles → s.arr.cut = [] → s.crl.online = [0, k + 1] → s.evt.buf.length < 60 → s.jrn = [] → s.ctx.job = none →
        s.ctx.doomed = [] →
        s.rpt.asm = [] → s.rings.tableValid = true → s.arr.breaks = [(k, .dn)] → Completes .breakDecision s (fun t =>
          k ∈ t.arr.cut ∧ k + 1 ∈ t.arr.cut ∧ t.crl.online = [0] ∧ t.host.memberLost = true ∧ k + 1 ∉ t.pwr.contactTiles ∧
          t.evt.buf = s.evt.buf ++ [{ code := 0x09, tile := 0, epoch := s.epoch, d0 := k + 1, d1 := 0 }] ∧
          t.rpt.due.length = s.rpt.due.length + 1 ∧
          (t.rpt.due.getLast?).map (fun r => (r.tile, r.epoch, r.nrec)) = some (k + 1, s.epoch, 0))) ∧
      (k < 64 → k ∈ s.crl.online → k ∉ s.arr.quiet → s.arr.cut = [k] → Completes (.hello p true k s.ctx.gen) s (fun t =>
        t.arr.cut = [] ∧ t.crl.openRing = false ∧ t.crl.online = s.crl.online ∧
        (s.arr.forming = true ∨ (((List.range s.arr.ring).drop 1).all (fun i => s.crl.online.contains i)) = true → t.arr.probe = none))))

/-- FRAGSETs are kept for their frame unless they come after the deadline; Crook merges once none is awaited, or at 480 µs without the
missing ones, with STITCHLATE and a count; a frame without a fragment keeps its records; a returned ID is no longer lent (07 R212, R214,
R221, R222, 14 R391). -/
def Obligations.CrookMergesAFrameOnce : Prop :=
  ∀ (f : FragSet) (id : Nat) (s : State), s.clk.core = true → s.memOk → s.crl.inbox = [] →
    let stands (t : State) (late : Bool) : Prop :=
      t.chn.prev.merged = true ∧ t.crook.waiting = [] ∧ t.crl.late = (if late then min (s.crl.late + 1) 255 else s.crl.late) ∧
      t.trk.report.stitchLate = late ∧ (s.icu.src.length = 48 → t.srcAt 26 = ((s.srcAt 26).arrival).1)
    (s.crookDue = true → s.trk.tab = List.replicate 64 none → s.trk.frags = [] → s.crook.sets = [] → s.boot.role = .standalone ∨ s.trk.report.recs = [] →
      s.pwr.state = .active →
      (s.crook.waiting = [] → Completes .crookMerge s (fun t => stands t false ∧ t.trk.report.recs.length =
        (s.trk.report.recs.filter (fun r => r.trk < 64)).length)) ∧
      (s.crook.waiting ≠ [] → s.crook.deadline = true → Completes .crookMerge s (fun t => stands t true)) ∧
      (s.crook.waiting ≠ [] → s.crook.deadline = false → exec .crookMerge s = .next s) ∧
      (s.chn.timer = true → Completes .stitchDeadline s (fun t => stands t (!s.crook.waiting.isEmpty) ∧ t.crook.deadline = true))) ∧
    (s.crookDue = false → exec .crookMerge s = .next s ∧
      (s.chn.timer = true → exec .stitchDeadline s = .next { s with crook.deadline := true })) ∧
    (s.onRing = true → (s.seams.any (·.1 == f.src)) = true →
      (add32 f.epoch 1 = s.epoch → s.epoch < 2 ^ 32 → f.epoch < 2 ^ 32 → s.crook.deadline = false →
        Completes (.fragset f false) s (fun t => { f with frags := f.frags.take 8 } ∈ t.crook.sets ∧ f.src ∉ t.crook.waiting ∧
          t.mem.read (fragBase f s) (128 * min 8 f.frags.length) = (f.frags.take 8).flatMap fragRecord ∧
          t.crl.lateArr = s.crl.lateArr) ∧
        Completes (.fragset f true) s (fun t => t.icu.parCnt = min (s.icu.parCnt + 1) 65535 ∧ t.crook.deadline = s.crook.deadline ∧
          t.crook.sets ⊆ s.crook.sets ∧ s.crook.waiting ⊆ t.crook.waiting ∧
          (s.crook.sets.all (fun g => g.epoch % 2 != f.epoch % 2) = true → t.crook = s.crook))) ∧
      (add32 f.epoch 1 = s.epoch → s.epoch < 2 ^ 32 → f.epoch < 2 ^ 32 → s.crook.deadline = true →
        exec (.fragset f false) s = .next { s with crl.lateArr := min (s.crl.lateArr + 1) 255 })) ∧
    (s.onRing = true → exec (.idReturn id) s = .next { s with crl.lent := s.crl.lent.filter (fun l => l.1 != id) })

/-! ### Messages between members and the root (07 R200, R227, R229, R231, 08 R244 to R250, 10 R295, 19 R497) -/

/-- At the root: the 17th REPORT frame completes an image, an image cut short is posted with PARTIAL, a member's event enters the buffer, a
CPL ends its tile's part and the last one the command, and an image read back goes to the host (07 R200, R227, 10 R292, R293, R295, 16 R433,
18 R486). -/
def Obligations.MembersReachTheRoot : Prop :=
  ∀ (tile epoch num code r0 r1 d0 d1 : Nat) (ps : List (List Byte)) (e : JEntry) (f : CFrame) (present : Bool) (s : State), s.isRoot = true →
    s.clk.core = true → s.memOk → 0 < tile → tile < 64 → tile ∈ s.crl.online → s.arr.resetMember = none →
    let whole := ps.map (·.length) = 120 :: List.replicate 15 128 ++ [72]
    (whole → s.rings.tableValid = true → s.crl.inbox = [f] → f.src = tile →
      f.msg = .report epoch 16 (ps.getD 16 []) present →
      s.rpt.asm = [{ tile := tile, epoch := epoch, parts := (List.zip (List.range 16) ps) }] →
      Completes (.reportFrame tile epoch 16 (ps.getD 16 [])) s (fun t => t.rpt.asm = [] ∧ t.crl.inbox = [] ∧
        (tile ∈ t.pwr.contactTiles ↔ present = true) ∧
        t.rpt.due = s.rpt.due ++ [{ tile := tile, epoch := epoch, nrec := leAt ps.flatten 5 1, image := ps.flatten }])) ∧
    (ps.length = 17 → s.rpt.asm = [] → s.crl.inbox = [] → r0 < 17 → Completes (.reportFrame tile epoch r0 (ps.getD r0 [])) s (fun t =>
      t.rpt.due = s.rpt.due ∧ t.rpt.asm.map (fun a => (a.tile, a.epoch, a.parts.map (·.1))) = [(tile, epoch, [r0])])) ∧
    (whole → s.rings.tableValid = true →
      s.rpt.asm = [{ tile := tile, epoch := epoch, parts := [(0, ps.getD 0 [])] }] →
      Completes (.reportImageDeadline tile epoch) s (fun t => t.rpt.asm = [] ∧ t.rpt.due.length = s.rpt.due.length + 1 ∧
        ∀ r, r < t.rpt.due.length → s.rpt.due.length ≤ r →
          (t.rpt.due[r]?).map (fun x => (x.tile, x.epoch, x.nrec, x.image.length, leAt x.image 5 1, leAt x.image 8 1 / 32 % 2, x.image.take 5)) =
            some (tile, epoch, min (leAt (ps.getD 0 []) 5 1) 1, 2112, min (leAt (ps.getD 0 []) 5 1) 1, 1, (ps.getD 0 []).take 5))) ∧
    (s.crl.inbox = [] → s.evt.buf.length < 64 → d0 < 2 ^ 32 → d1 < 2 ^ 31 → Completes (.eventMessage tile code epoch d0 d1) s (fun t =>
      t.evt.buf = s.evt.buf ++ [{ code := code, tile := tile, epoch := epoch, d0 := d0, d1 := d1 }] ∧
      (code = 0x0E → t.host.parity = true ∧ t.host.cntParity = min (s.host.cntParity + 1) 255) ∧
      (code ≠ 0x0E → t.host = s.host ∧ t.rings = s.rings))) ∧
    (s.crl.inbox = [] → s.evt.buf.length = 64 → s.evt.lost < 1000 → Completes (.eventMessage tile code epoch d0 d1) s (fun t =>
      t.evt.buf = s.evt.buf ∧ t.evt.lost = s.evt.lost + 1)) ∧
    (s.crl.inbox = [] → s.entry num = some e → e.stage = .issued → e.d.opcode = 0x20 ∨ e.d.opcode = 0x41 →
      (e.tiles = [tile] → e.code = 0 → code ≠ 0 ∨ e.d.tile ≠ 0xFF → Completes (.cplMessage tile num code r0 r1) s (fun t =>
        t.entry num = some { e with stage := .applied, wait := .start, code := code, r0 := r0, r1 := r1,
                                    ctile := if code = 0 then e.ctile else tile, tiles := [] })) ∧
      (e.tiles = [tile, tile + 1] → Completes (.cplMessage tile num code r0 r1) s (fun t =>
        (t.entry num).map (fun x => (x.stage, x.tiles)) = some (.issued, [tile + 1])))) ∧
    (s.crl.inbox = [] → s.entry num = some e → e.stage = .issued → e.d.opcode = 0x13 → e.tiles = [tile] → e.code = 0 → e.d.tile = tile →
      (s.dmaOk = false → exec (.captureMessage tile num (leBytes 1 r0 ++ ps.getD 0 [])) s = .next s) ∧
      (s.dmaOk = true → Completes (.captureMessage tile num (leBytes 1 r0 ++ ps.getD 0 [])) s (fun t =>
        (t.entry num).map (fun x => (x.stage, x.code, x.r0, x.r1)) = some (.applied, 0, r0 % 256, leAt (ps.getD 0 []) 0x00C 4) ∧
        ∃ w : HostWrite, t.out.writes = s.out.writes ++ [w] ∧ w.addr = e.d.addr ∧ w.data = ps.getD 0 [])))

/-- The members' check results: the last one decides; a failure or a silence of 2 ms ends the commit on every tile with its code, tile and
offset; a pass takes the next generation and the next boundary, or the one after it once the latch instant is near, and APPLY goes out. A
member in the set takes GEN, E_a and its IMAGE_CRC, becomes PENDING and answers ARMED, whose image the root keeps and files at E_a (08 R240, R244 to R250). -/
def Obligations.CommitsCrossTheArray : Prop :=
  ∀ (tile code off ea gen slot : Nat) (late : Bool) (set : List Nat) (image : List Byte) (e : JEntry) (g : CommitJob) (s : State), s.memOk →
    (s.isRoot = true → s.clk.link = true → s.ctx.job = some g → g.decided = false → g.waiting = [tile] → tile ≠ 0 → tile < 64 → g.set = [0, tile] → g.slot < 8 →
      g.replies = [(0, 0, 0)] → g.cmd = some slot → s.entry slot = some e → e.stage = .issued → s.ctx.slots.getD g.slot .empty = .checking →
      s.ctx.slots.length = 8 → s.ctx.gen < 2 ^ 32 - 1 →
      let failed (c o : Nat) (t : State) : Prop := t.ctx.job = none ∧ t.ctx.slots.getD g.slot .empty = g.before ∧ t.ctx.gen = s.ctx.gen ∧
        t.ctx.failCode = c ∧ t.ctx.failTile = tile ∧ t.ctx.failOff = o ∧ t.ctx.failed = min (s.ctx.failed + 1) 65535 ∧ t.mem = s.mem ∧
        (t.entry slot).map (fun x => (x.stage, x.code, x.r0, x.ctile)) = some (.applied, 0x05, c + 256 * tile + 65536 * o, tile)
      (0 < code → code < 256 → code ≠ 0x81 → off < 65536 → g.named = none → Completes (.prepareReply tile code off late) s (failed code off)) ∧
      (g.named = none → Completes (.prepareTimeout tile) s (failed 0x84 0xFFF)) ∧
      (g.named = none → s.ltCover = 0 → s.epoch < 2 ^ 32 - 2 → Completes (.prepareReply tile 0 0 late) s (fun t =>
        let at' := if s.chn.latchPassed = true ∨ late = true then s.epoch + 2 else s.epoch + 1
        t.ctx.gen = s.ctx.gen + 1 ∧ t.ctx.slots.getD g.slot .empty = .pending ∧ t.ctx.pendEa = at' ∧
        t.ctx.job = some { g with waiting := [], replies := [(0, 0, 0), (tile, 0, s.epoch)], decided := true, ea := at', gen := s.ctx.gen + 1,
                                  unarmed := [tile] } ∧
        leAt (t.image g.slot) 4 4 = s.ctx.gen + 1 ∧ leAt (t.image g.slot) 8 4 = at' ∧
        t.entry slot = some { e with wait := .boundary at', r0 := at', r1 := s.ctx.gen + 1 }))) ∧
    (s.isRoot = true → s.ctx.job = some g → g.decided = true → g.unarmed = [tile] → tile < 64 → image.length = 0x800 →
      Completes (.armed tile image) s (fun t => t.ctx.job = some { g with unarmed := [], images := file g.images tile image } ∧
        t.mem = s.mem ∧ t.arr = s.arr ∧ ∀ u : State, u.isRoot = true → u.memOk → g.set = [0, tile] →
          (journalImages { g with unarmed := [], images := file g.images tile image } u).mem.read (captureStaging + 0x800 * tile) 0x800 = image ∧
          (tile, g.gen) ∈ (journalImages { g with unarmed := [], images := file g.images tile image } u).arr.memberGen)) ∧
    (s.isMember = true → ea < 2 ^ 32 → gen < 2 ^ 32 → slot < 8 →
      let first := add32 s.epoch (if s.chn.latchPassed then 2 else 1)
      (s.crl.tile ∈ set → s.ctx.slots.getD slot .empty = .checking → s.ctx.slots.length = 8 → s.clk.link = true → s.arr.quiet = [] →
        Completes (.applyMessage ea gen slot set) s (fun t =>
          t.ctx.slots.getD slot .empty = .pending ∧ t.ctx.gen = gen ∧ t.ctx.pendEa = (if later first ea then first else ea) ∧ t.ctx.job = none ∧
          leAt (t.image slot) 4 4 = gen ∧ leAt (t.image slot) 8 4 = ea ∧ leAt (t.image slot) 0x00C 4 = crc32 ((s.image slot).drop 0x40) ∧
          (t.image slot).drop 0x40 = (s.image slot).drop 0x40 ∧ t.ctx.copy = t.image slot ∧
          ((t.crl.up.q1 ++ t.crl.dn.q1).any (fun x => x.msg == .armed t.ctx.copy)) = true)) ∧
      (s.crl.tile ∉ set → exec (.applyMessage ea gen slot set) s = .next { s with ctx.gen := gen }))

/-- At a member: a forwarded command is executed or refused and answered with CPL, a PREPARE answered with the check's result, firmware
checked and started or asked for once more, an update staged for its epoch, a context piece written, the root's context image made PENDING,
and a reference kept when its CRC passes (07 R229, R231, 08 R242, 10 R295, 12 R368, 17 R470, 19 R497). -/
def Obligations.MembersObeyTheRoot : Prop :=
  ∀ (num crc level off : Nat) (d : Desc) (data : List Byte) (s : State), s.isMember = true → s.clk.link = true → s.clk.core = true →
    s.memOk → s.arr.quiet = [] → s.crl.inbox = [] →
    let told (t : State) (m : Msg) : Prop := ((t.crl.up.q1 ++ t.crl.dn.q1).any (fun x => x.msg == m)) = true
    (s.fwRuns = true →
      (d.opcode = 0x41 → s.mbx.q1.length < 8 → Completes (.cmdMessage num (.cmd num d)) s (fun t =>
        t.mbx.q1 = s.mbx.q1 ++ [(BitVec.ofNat 32 d.p0, BitVec.ofNat 32 d.p1)] ∧ told t (.cpl num 0 0 0))) ∧
      (d.opcode = 0x21 → Completes (.cmdMessage num (.cmd num d)) s (fun t => t.elec.ltPending = true ∧
        t.elec.ltCmds = s.elec.ltCmds ++ [num])) ∧
      (d.opcode = 0x01 → Completes (.cmdMessage num (.cmd num d)) s (fun t => told t (.cpl num 1 0 0) ∧ t.ctx = s.ctx)) ∧
      (num < 8 → s.ctx.slots.getD num .empty = .empty → Completes (.cmdMessage num (.prepare num false none none)) s (fun t =>
        told t (.prepareReply (if leAt (s.image num) 0 1 ≠ 1 ∨ leAt (s.image num) 1 1 ≠ num then 1 else t.ctx.failCode) t.ctx.failOff) ∧
        t.ctx.failCode ≤ 2 ∧ 1 ≤ t.ctx.failCode ∧ t.ctx.failTile = s.crl.tile ∧ t.ctx.slots = s.ctx.slots ∧ t.ctx.job = s.ctx.job)) ∧
      (s.ctx.staging = [(num, d)] → d.opcode = 0x10 → d.p1 = data.length → d.p0 + d.p1 ≤ 2048 → d.a0 % 64 < 16 → s.ctx.slots.length = 8 →
        Completes (.ctxData (d.a0 % 8) d.p0 data 0) s (fun t => t.ctx.slots.getD (d.a0 % 8) .empty = .staging ∧ t.ctx.staging = [] ∧
          told t (.cpl num 0 1 0) ∧ t.image (d.a0 % 8) = (s.image (d.a0 % 8)).take d.p0 ++ data ++ (s.image (d.a0 % 8)).drop (d.p0 + d.p1))) ∧
      (data.length = 0x800 → s.ctx.slots.length = 8 → crc32 (data.drop 0x40) = leAt data 0x00C 4 → s.pendingSlot = none →
        let n := leAt data 1 1 % 8
        let first := add32 s.epoch (if s.chn.latchPassed then 2 else 1)
        (s.slot n = .draining ∨ s.slot n = .checking → Completes (.ctxData 0 0 data 1) s (fun t => t.ctx.incoming = some data ∧ t.mem = s.mem ∧
          t.ctx.slots = s.ctx.slots)) ∧
        (s.slot n = .empty ∨ s.slot n = .staging ∨ s.slot n = .ready → Completes (.ctxData 0 0 data 1) s (fun t => t.ctx.slots.getD (leAt data 1 1 % 8) .empty = .pending ∧ t.ctx.gen = leAt data 4 4 ∧
          t.ctx.pendEa = (if later first (leAt data 8 4) then first else leAt data 8 4) ∧ t.image (leAt data 1 1 % 8) = data))) ∧
      (leAt data 0 1 = 1 → leAt data 1 1 % 64 = s.crl.tile →
        (crc32 (data.take 0x3C ++ (data.drop 0x40).take 0x63C0) = leAt data 0x3C 4 →
          exec (.ctxData 0 off data 2) s = .next { s with elec.refRec := data }) ∧
        (crc32 (data.take 0x3C ++ (data.drop 0x40).take 0x63C0) ≠ leAt data 0x3C 4 → exec (.ctxData 0 off data 2) s = .next s)) ∧
      (s.ctx.staging = [(num, d)] → d.opcode = 0x51 → data.length ≤ 0x20000 →
        (crc32 data = crc → d.p2 = 1 → Completes (.fwData data crc level true) s (fun t => t.boot.staged = some (data.length, crc, level) ∧
          t.boot.stagedAt = some d.p1 ∧ told t (.cpl num 0 0 d.p1) ∧ t.mem.read captureStaging data.length = data ∧ t.ctx.staging = [])) ∧
        (crc32 data ≠ crc → Completes (.fwData data crc level true) s (fun t => t.boot = s.boot ∧ told t (.cpl num 0x0B 0 0))))) ∧
    (s.boot.phase = .waitFw → data.length ≤ 0x20000 →
      (crc32 data = crc → Completes (.fwData data crc level false) s (fun t => t.boot.phase = .running ∧ t.boot.ready = true ∧
        t.boot.fwvalid = true ∧ t.boot.level = level ∧ t.boot.source = 2 ∧ t.mem.read 0x10000000 data.length = data ∧ told t (.ready level))) ∧
      (crc32 data ≠ crc → s.boot.fwRetried = false → Completes (.fwData data crc level false) s (fun t =>
        t.boot = { s.boot with fwRetried := true } ∧ told t (.ready 0) ∧ t.mem = s.mem)) ∧
      (crc32 data ≠ crc → s.boot.fwRetried = true → exec (.fwData data crc level false) s = .next s))

/-! ### Commands of the journal (08, 10 R292, R295) -/

/-- STAGE_CONTEXT, COMMIT, SWITCH and READ_CONTEXT on the tile itself: the piece is written over the old, cleared or copied image and the
slot is STAGING, a held slot is DENIED; a good slot takes the next generation and becomes PENDING for the next boundary, a bad one ends
with its first failed check and stays; a copied image keeps the CTX_ID of the slot it comes from (00 R12, log entry 25); the image is read to
the host with its state and CRC (08 R236, R240, R242 to R249, 10 R292). -/
def Obligations.ContextCommandsActOnSlots : Prop :=
  ∀ (j : Nat) (e : JEntry) (data : List Byte) (s : State), s.memOk → e.d.tile = 0 → s.isMember = false →
    let n := e.d.a0 % 8
    let sw := decide (e.d.opcode = 0x12)
    let slot (t : State) : SlotState := t.ctx.slots.getD n .empty
    let ended (t : State) (code r0 r1 : Nat) : Prop :=
      (t.entry j).map (fun x => (x.stage, x.code, x.r0, x.r1, x.tiles)) = some (.applied, code, r0, r1, [])
    (Ready 0x10 j e s → s.readOk = true → s.ctx.slots.length = 8 → e.r0 = 0 →
      (slot s = .empty ∨ slot s = .staging ∨ slot s = .ready → (e.d.a0 / 16 = 2 → s.ctx.slots.getD (e.d.a1 % 8) .empty ≠ .empty) →
        data.length = e.d.p1 → Completes (.stageContext j (.ok data)) s (fun t =>
        let old := if e.d.a0 / 16 = 0 then s.image n else if e.d.a0 / 16 = 1 then State.reset.image n else s.image (e.d.a1 % 8)
        ended t 0 1 e.r1 ∧ slot t = .staging ∧ (e.d.a0 / 16 = 1 → n ∉ t.ctx.bad) ∧
        t.image n = old.take e.d.p0 ++ data ++ old.drop (e.d.p0 + e.d.p1) ∧
        (∀ m, m < 8 → m ≠ n → t.image m = s.image m ∧ t.ctx.slots.getD m .empty = s.ctx.slots.getD m .empty))) ∧
      (slot s = .pending ∨ slot s = .active ∨ slot s = .draining ∨ slot s = .checking → Completes (.stageContext j (.ok data)) s (fun t =>
        ended t 0x04 0 0 ∧ t.mem = s.mem ∧ t.ctx.slots = s.ctx.slots)) ∧
      (slot s = .empty → e.d.a0 / 16 ≠ 2 → Completes (.stageContext j .ur) s (fun t => ended t 0x06 0 0 ∧ t.mem = s.mem ∧ t.ctx.slots = s.ctx.slots))) ∧
    (Ready e.d.opcode j e s → e.d.opcode = 0x11 ∨ e.d.opcode = 0x12 → s.ctx.slots.length = 8 → s.ctx.job = none → s.ctx.doomed = [] →
      s.pendingSlot = none → e.d.p1 = 0 →
      let cmd : Instr := if e.d.opcode = 0x12 then .switch j else .commit j
      let rate := if s.isRoot then outsideRate [0] s else none
      (slot s = (if sw then .ready else .staging) → ownFails n sw none rate s = [] → s.epoch < 2 ^ 32 - 2 → s.ctx.gen < 2 ^ 32 - 1 →
        Completes cmd s (fun t =>
          let at' := if s.chn.latchPassed then s.epoch + 2 else s.epoch + 1
          slot t = .pending ∧ t.ctx.pendEa = at' ∧ t.ctx.gen = s.ctx.gen + 1 ∧ leAt (t.image n) 4 4 = s.ctx.gen + 1 ∧ leAt (t.image n) 8 4 = at' ∧
          leAt (t.image n) 0x00C 4 = crc32 ((s.image n).drop 0x40) ∧ (t.image n).drop 0x40 = (s.image n).drop 0x40 ∧ t.ctx.copy = t.image n ∧
          t.entry j = some { e with wait := .boundary at', r0 := at', r1 := s.ctx.gen + 1 })) ∧
      (slot s = .empty → leAt (s.image n) 0 1 = 1 → leAt (s.image n) 1 1 = n → (s.image n).take 0x40 = (s.image n).take 2 ++ List.replicate 62 0#8 →
        Completes cmd s (fun t => ended t 0x05 (2 + 65536 * 0xFFF) 0 ∧ t.ctx.slots = s.ctx.slots ∧ t.mem = s.mem ∧ t.ctx.gen = s.ctx.gen ∧
          t.ctx.failCode = 2 ∧ t.ctx.failTile = 0 ∧ t.ctx.failOff = 0xFFF ∧ t.ctx.failed = min (s.ctx.failed + 1) 65535))) ∧
    (Ready 0x13 j e s → s.dmaOk = false → exec (.readContext j) s = .next s) ∧
    (Ready 0x13 j e s → s.dmaOk = true → Completes (.readContext j) s (fun t => t.mem = s.mem ∧ t.ctx = s.ctx ∧
      ended t 0 (slot s).code (leAt (s.image n) 0x00C 4) ∧
      ∃ w : HostWrite, t.out.writes = s.out.writes ++ [w] ∧ w.addr = e.d.addr ∧ w.data = s.image n))

/-- HOP, LINE_TEST, RECALIBRATE, RELEASE_CONTACT and CAPTURE ask the scan for their work and wait for it; a contact that is not open is NOT
FOUND at once (02 R50, 03 R83, 05 R141, R524, 10 R310). -/
def Obligations.ScanCommandsAskTheScan : Prop :=
  ∀ (j : Nat) (e : JEntry) (k : Track) (s : State), s.memOk → e.d.tile = 0 → s.isMember = false →
    let waits (w : JWait) (t : State) : Prop :=
      t.entry j = some { e with tiles := [0], wait := w, code := 0, r0 := 0, r1 := 0, ctile := 0 }
    (Ready 0x20 j e s → Completes (.hop j) s (fun t => waits .latch t ∧
      t.chn.req = some { slot := e.d.a0 % 8, role := e.d.a0 / 16 % 2, cmd := some j } ∧
      t.chn.replaced = s.chn.replaced ++ (match s.chn.req with
        | some q => q.cmd.toList
        | none => []) ∧ t.chn.pri = s.chn.pri ∧ t.chn.sec = s.chn.sec)) ∧
    (Ready 0x21 j e s → Completes (.lineTest j) s (fun t => waits .lineTest t ∧ t.elec.ltPending = true ∧ t.elec.ltCmds = s.elec.ltCmds ++ [j] ∧
      t.elec.code = s.elec.code)) ∧
    (Ready 0x22 j e s →
      (e.d.a0 = 0 → s.cal.kind ≠ .full → s.cal.kind ≠ .group → s.cal.fullDue = none → j ∉ s.cal.groupCmds → Completes (.recalibrate j) s (fun t => waits .cal t ∧
        t.cal.fullDue = some true ∧ t.cal.groupDue = none ∧ t.cal.cmds = s.cal.cmds ++ [j])) ∧
      (e.d.a0 = 1 → s.cal.kind ≠ .full → s.cal.kind ≠ .group → s.cal.fullDue = none → s.cal.groupDue = none →
        Completes (.recalibrate j) s (fun t => waits .cal t ∧ t.cal.groupDue = some true ∧ t.cal.fullDue = none ∧ t.cal.groupCmds = s.cal.groupCmds ++ [j] ∧ t.cal.cmds = s.cal.cmds)) ∧
      (e.d.a0 = 1 → s.cal.kind = .group → s.cal.fullDue = none → Completes (.recalibrate j) s (fun t => waits .cal t ∧
        t.cal = { s.cal with groupCmds := s.cal.groupCmds ++ [j] })) ∧
      (s.cal.fullDue = some false → Completes (.recalibrate j) s (fun t => waits .cal t ∧
        t.cal = { s.cal with cmds := s.cal.cmds ++ [j] }))) ∧
    (Ready 0x23 j e s →
      (s.trk.tab.getD (e.d.a0 % 64) none = some k → k.rid = e.d.a1 → k.status = 1 → Completes (.releaseContact j) s (fun t => waits .release t ∧
        t.cal.releases = s.cal.releases ++ [{ cmd := j, trk := e.d.a0 % 64, id := e.d.a1 }] ∧ t.trk = s.trk)) ∧
      (s.trk.tab.getD (e.d.a0 % 64) none = none → Completes (.releaseContact j) s (fun t =>
        (t.entry j).map (fun x => (x.stage, x.code)) = some (.applied, 0x0D) ∧ t.cal = s.cal))) ∧
    (Ready 0x30 j e s →
      (e.d.p2 = 0 → Completes (.capture j) s (fun t => waits .snapshot t ∧ t.cap.waiting = s.cap.waiting ++ [(j, e.d)] ∧ t.mute.busy = s.mute.busy)) ∧
      (e.d.p2 ≠ 0 → s.mute.busy = false → s.isRoot = false → s.cap.held ≠ some (e.d.a0 % 4) → Completes (.capture j) s (fun t =>
        (t.entry j).map (fun x => (x.stage, x.code)) = some (.applied, 0x04))))

/-- TOKEN_LOAD, APPLET_LOAD and MAILBOX_SEND on the tile itself: a checked dictionary goes into a bank that no context uses, a bad one is
refused; a checked applet stands in core 1's code part and shared RAM and core 1 restarts in it; a pair enters core 1's queue or is dropped
and counted (06 R155, 12 R368, R369, R371, R372, 10 R292). -/
def Obligations.LoadCommandsChangeBanksAndCore1 : Prop :=
  ∀ (j : Nat) (e : JEntry) (data : List Byte) (s : State), s.memOk → e.d.tile = 0 → s.isMember = false →
    let ended (t : State) (code r0 : Nat) : Prop := (t.entry j).map (fun x => (x.stage, x.code, x.r0, x.tiles)) = some (.applied, code, r0, [])
    let word (o : Nat) : Nat := leAt data o 4
    let base := 0x10000000 + 0x4000 * s.mbx.split
    (Ready 0x24 j e s → s.readOk = true → data.length = 1024 → s.ctx.job = none →
      (tokenFault data e.d.p0 = none → s.tok.gen0 = 0 → s.tok.gen1 = 0 → Completes (.tokenLoad j (.ok data)) s (fun t =>
        ended t 0 0 ∧ t.tok.gen0 = e.d.a1 ∧ t.tok.gen1 = 0 ∧ t.tok.recent = 0 ∧ t.mem.read (dictBank 0) 1024 = storedBank data e.d.p0 ∧
        t.mem.read (dictBank 1) 1024 = s.mem.read (dictBank 1) 1024)) ∧
      (tokenFault data e.d.p0 ≠ none → Completes (.tokenLoad j (.ok data)) s (fun t => t.tok = s.tok ∧ t.mem = s.mem ∧
        (t.entry j).map (fun x => (x.stage, x.code)) = some (.applied, 0x0A))) ∧
      Completes (.tokenLoad j .timeout) s (fun t => t.tok = s.tok ∧ t.mem = s.mem ∧
        (t.entry j).map (fun x => (x.stage, x.code)) = some (.applied, 0x06))) ∧
    (Ready 0x40 j e s → s.readOk = true → data.length = e.d.p0 → e.d.p0 = 32 + word 4 + word 8 → leAt data 0 4 = 0x00014C41 → word 4 % 4 = 0 → word 16 % 4 = 0 →
      word 20 % 4 = 0 → word 20 + word 4 ≤ 0x40000 - 0x4000 * s.mbx.split → word 16 < word 4 → word 8 + word 12 ≤ 16384 →
      (crc32 (data.drop 0x20) = word 0x1C → Completes (.appletLoad j (.ok data)) s (fun t => ended t 0 (word 0x1C) ∧ t.mbx.run = true ∧
        t.mbx.halted = false ∧ t.mbx.q1 = [] ∧ t.mbx.q0 = s.mbx.q0 ∧ t.core1.pc.toNat = base + word 20 + word 16 ∧ t.core1.vbase.toNat = base ∧
        t.core1.g.get 15 = 0x20020000#32 ∧ t.pwr.dfltApplet = false ∧ t.mem.read (base + word 20) (word 4) = (data.drop 0x20).take (word 4) ∧
        t.mem.read 0x2001C000 (word 8 + word 12) = data.drop (0x20 + word 4) ++ List.replicate (word 12) 0#8 ∧ t.core0 = s.core0)) ∧
      (crc32 (data.drop 0x20) ≠ word 0x1C → Completes (.appletLoad j (.ok data)) s (fun t => ended t 0x0B 0 ∧ t.mbx = s.mbx ∧ t.core1 = s.core1 ∧
        t.mem = s.mem))) ∧
    (Ready 0x41 j e s →
      (s.mbx.q1.length < 8 → Completes (.mailboxSend j) s (fun t => ended t 0 0 ∧
        t.mbx = { s.mbx with q1 := s.mbx.q1 ++ [(BitVec.ofNat 32 e.d.p0, BitVec.ofNat 32 e.d.p1)] } ∧
        (s.icu.src.length = 48 → t.srcAt 1 = ((s.srcAt 1).arrival).1))) ∧
      (8 ≤ s.mbx.q1.length → Completes (.mailboxSend j) s (fun t => ended t 0 0 ∧
        t.mbx = { s.mbx with drop0 := min (s.mbx.drop0 + 1) 255 })))

/-- SETTINGS_WRITE writes the next copy, whole, with the next sequence number and its CRC, and uses it once it reads back; a mismatch twice
leaves the copy in use; with the copies in dispute only A0 = 1 or 2 resolves them. FW_UPDATE_MEMBER and RESET_MEMBER go to the member with
the image, one of them at a time. A command that names another tile goes to it as a CMD message and waits (07 R231, 10 R292, R295, 17 R473
to R475). -/
def Obligations.SettingsAndMemberCommands : Prop :=
  ∀ (j : Nat) (e : JEntry) (data back1 back2 : List Byte) (s : State), s.memOk → s.isMember = false →
    let ended (t : State) (code r0 : Nat) : Prop := (t.entry j).map (fun x => (x.stage, x.code, x.r0)) = some (.applied, code, r0)
    let sent (t : State) (m : Msg) : Prop := ((t.crl.up.q1 ++ t.crl.up.q2 ++ t.crl.dn.q1 ++ t.crl.dn.q2).any (fun x => x.msg == m)) = true
    let good := crc32 (List.replicate 4 0#8 ++ (data.take 0x1FFC).drop 4) = leAt data 0x1FFC 4
    let copy (c : List Byte) (seq : Nat) : Prop := c.length = 0x2000 ∧ leAt c 0 4 = seq ∧ (c.take 0x1FFC).drop 4 = (data.take 0x1FFC).drop 4 ∧
      leAt c 0x1FFC 4 = crc32 (c.take 0x1FFC)
    (Ready 0x50 j e s → s.readOk = true → s.boot.eepromSel = true → e.d.a0 = 0 → e.d.p0 = 8192 → data.length = 8192 →
      (good → s.sets.target = some 1 → s.sets.inUse = 0 → leAt s.sets.copyA 0 4 = 7 → copy back1 8 → Completes (.settingsWrite j (.ok data) back1 back2) s (fun t =>
        ended t 0 8 ∧ t.sets.copyB = back1 ∧ t.sets.copyA = s.sets.copyA ∧ t.sets.inUse = 1 ∧ t.sets.target = some 0 ∧ t.sets.mismatch = false ∧
        t.pwr.idleT = leAt data 0x10 1)) ∧
      (good → s.sets.target = some 1 → s.sets.inUse = 0 → leAt s.sets.copyA 0 4 = 7 → leAt back1 0 4 ≠ 8 → leAt back2 0 4 ≠ 8 →
        Completes (.settingsWrite j (.ok data) back1 back2) s (fun t => ended t 0x0B 0 ∧ t.sets.inUse = 0 ∧ t.sets.copyA = s.sets.copyA ∧ t.pwr = s.pwr)) ∧
      (good → s.sets.target = none → Completes (.settingsWrite j (.ok data) back1 back2) s (fun t => ended t 0x04 0 ∧ t.sets = s.sets)) ∧
      (¬good → Completes (.settingsWrite j (.ok data) back1 back2) s (fun t => ended t 0x0B 0 ∧ t.sets = s.sets))) ∧
    (Ready 0x50 j e s → s.boot.eepromSel = true → e.d.a0 = 1 → s.sets.mismatch = true → s.sets.copyA = data → data.length = 0x2000 →
      leAt data 0 4 = 7 → copy back1 8 → Completes (.settingsWrite j (.ok []) back1 back2) s (fun t => ended t 0 8 ∧ t.sets.copyB = back1 ∧
        t.sets.inUse = 1 ∧ t.sets.mismatch = false ∧ t.sets.target = some 0)) ∧
    (s.arr.fwUpdate = none → s.arr.resetMember = none → s.clk.link = true → s.arr.quiet = [] →
      (Ready 0x51 j e s → s.readOk = true → 0 < e.d.p0 → e.d.p0 % 4 = 0 → e.d.p0 ≤ 0x20000 → data.length = e.d.p0 → Completes (.fwUpdateMember j (.ok data)) s (fun t =>
        t.entry j = some { e with tiles := [e.d.tile], wait := .member } ∧ t.arr.fwUpdate = some (j, e.d.tile, none) ∧ sent t (.cmd j e.d) ∧
        ((t.crl.up.q2 ++ t.crl.dn.q2).any (fun x => match x.msg with
          | .fwData b c _ up => b == data && c == crc32 data && up && x.dst == e.d.tile
          | _ => false)) = true)) ∧
      (Ready 0x52 j e s → Completes (.resetMember j) s (fun t => t.entry j = some { e with tiles := [e.d.tile], wait := .member } ∧
        t.arr.resetMember = some (j, e.d.tile) ∧ sent t (.cmd j e.d)))) ∧
    (s.memberBusy = true → (Ready 0x52 j e s → Completes (.resetMember j) s (fun t => ended t 0x04 0 ∧ t.arr = s.arr)) ∧
      (Ready 0x51 j e s → Completes (.fwUpdateMember j (.ok data)) s (fun t => ended t 0x04 0 ∧ t.arr = s.arr))) ∧
    (Ready e.d.opcode j e s → e.d.tile ≠ 0 → e.d.tile < 64 → s.clk.link = true → s.arr.quiet = [] →
      let goes (i : Instr) : Prop := Completes i s (fun t => (t.entry j).map (fun x => (x.stage, x.tiles)) = some (.issued, [e.d.tile]) ∧
        sent t (.cmd j e.d) ∧ t.chn = s.chn ∧ t.elec = s.elec ∧ t.cal = s.cal ∧ t.mbx = s.mbx ∧ t.mem = s.mem ∧ t.out = s.out)
      (e.d.opcode = 0x13 → s.dmaOk = true → goes (.readContext j)) ∧ (e.d.opcode = 0x20 → goes (.hop j)) ∧ (e.d.opcode = 0x21 → goes (.lineTest j)) ∧
      (e.d.opcode = 0x22 → goes (.recalibrate j)) ∧ (e.d.opcode = 0x23 → goes (.releaseContact j)) ∧ (e.d.opcode = 0x30 → goes (.capture j)) ∧
      (e.d.opcode = 0x41 → goes (.mailboxSend j)) ∧
      (e.d.opcode = 0x24 → s.readOk = true → goes (.tokenLoad j (.ok data)) ∧ sent (match exec (.tokenLoad j (.ok data)) s with
        | .next t => t
        | _ => s) (.ctxData 0 j (padTo 1024 data) 3)) ∧
      (e.d.opcode = 0x10 → s.readOk = true → goes (.stageContext j (.ok data))))
end

