-- ==== Sys2Proof/Laws/Memory.lean ====
section
/-! SUPPORT. Memory: every operation keeps the canonical form, and equal bytes in that form are equal lists. -/

namespace Sys2Proof.Machine

/-- The canonical form as a proposition: addresses strictly rising, no cell equal to its background. -/
def Memory.Canon (m : Memory) : Prop :=
  m.Pairwise (fun c d => c.1 < d.1) ∧ ∀ c ∈ m, c.2 ≠ Memory.background c.1

theorem Memory.rising_iff (m : Memory) : Memory.rising m = true ↔ m.Pairwise (fun c d => c.1 < d.1) := by
  induction m with
  | nil => simp [Memory.rising]
  | cons c m ih =>
    cases m with
    | nil => simp [Memory.rising]
    | cons d m =>
      simp only [Memory.rising, Bool.and_eq_true, decide_eq_true_eq, ih, List.pairwise_cons, List.mem_cons]
      constructor
      · rintro ⟨h, hd, hm⟩
        exact ⟨by rintro e (rfl | he); exacts [h, lt_trans h (hd e he)], hd, hm⟩
      · rintro ⟨hc, hd, hm⟩
        exact ⟨hc d (Or.inl rfl), hd, hm⟩

theorem Memory.wf_iff (m : Memory) : m.wf = true ↔ m.Canon := by
  simp [Memory.wf, Memory.Canon, Memory.rising_iff, List.all_eq_true]

theorem Memory.cellsFrom_bounds (a : Nat) (bs : List Byte) :
    ∀ c ∈ Memory.cellsFrom a bs, a ≤ c.1 ∧ c.1 < a + bs.length ∧ c.2 ≠ Memory.background c.1 := by
  induction bs generalizing a with
  | nil => simp [Memory.cellsFrom]
  | cons b bs ih =>
    intro c hc
    have step : c ∈ Memory.cellsFrom (a + 1) bs → a ≤ c.1 ∧ c.1 < a + (b :: bs).length ∧ c.2 ≠ Memory.background c.1 := by
      intro h
      obtain ⟨h1, h2, h3⟩ := ih (a + 1) c h
      exact ⟨by omega, by simp only [List.length_cons]; omega, h3⟩
    simp only [Memory.cellsFrom] at hc
    split at hc
    · exact step hc
    · rename_i hb
      rcases List.mem_cons.1 hc with rfl | h
      · exact ⟨le_refl _, by simp, hb⟩
      · exact step h

theorem Memory.cellsFrom_rising (a : Nat) (bs : List Byte) :
    (Memory.cellsFrom a bs).Pairwise (fun c d => c.1 < d.1) := by
  induction bs generalizing a with
  | nil => simp [Memory.cellsFrom]
  | cons b bs ih =>
    simp only [Memory.cellsFrom]
    split
    · exact ih (a + 1)
    · exact List.pairwise_cons.2 ⟨fun d hd => (Memory.cellsFrom_bounds (a + 1) bs d hd).1, ih (a + 1)⟩

/-- A write keeps the canonical form. -/
theorem Memory.write_wf (m : Memory) (a : Nat) (bs : List Byte) (h : m.wf = true) : (m.write a bs).wf = true := by
  rw [Memory.wf_iff] at h ⊢
  obtain ⟨hr, hb⟩ := h
  refine ⟨?_, ?_⟩
  · refine List.pairwise_append.2 ⟨hr.filter _, List.pairwise_append.2 ⟨Memory.cellsFrom_rising a bs, hr.filter _, ?_⟩, ?_⟩
    · intro c hc d hd
      have h1 := (Memory.cellsFrom_bounds a bs c hc).2.1
      have h2 := (List.mem_filter.1 hd).2
      simp only [decide_eq_true_eq] at h2
      omega
    · intro c hc d hd
      have h1 := (List.mem_filter.1 hc).2
      simp only [decide_eq_true_eq] at h1
      rcases List.mem_append.1 hd with hd | hd
      · have h2 := (Memory.cellsFrom_bounds a bs d hd).1
        omega
      · have h2 := (List.mem_filter.1 hd).2
        simp only [decide_eq_true_eq] at h2
        omega
  · intro c hc
    rcases List.mem_append.1 hc with h | h
    · exact hb c (List.mem_filter.1 h).1
    · rcases List.mem_append.1 h with h | h
      · exact (Memory.cellsFrom_bounds a bs c h).2.2
      · exact hb c (List.mem_filter.1 h).1

theorem Memory.putLe_wf (m : Memory) (a n v : Nat) (h : m.wf = true) : (m.putLe a n v).wf = true := m.write_wf a _ h

theorem Memory.putLeI_wf (m : Memory) (a n : Nat) (x : Int) (h : m.wf = true) : (m.putLeI a n x).wf = true := m.write_wf a _ h

/-- Clearing a block keeps the canonical form. -/
theorem Memory.clear_wf (m : Memory) (a n : Nat) (h : m.wf = true) : (m.clear a n).wf = true := by
  rw [Memory.wf_iff] at h ⊢
  exact ⟨h.1.filter _, fun c hc => h.2 c (List.mem_filter.1 hc).1⟩

/-- A store in canonical form is its own canonical form. -/
@[simp] theorem Memory.canon_of_wf (m : Memory) (h : m.wf = true) : m.canon = m := by simp [Memory.canon, h]

/-- A list of cells written one by one into an empty store is in canonical form. -/
theorem Memory.rebuilt_wf (m : Memory) : Memory.wf (m.foldr (fun c a => Memory.write a c.1 [c.2]) []) = true := by
  induction m with
  | nil => rfl
  | cons c m ih => exact Memory.write_wf _ _ _ ih

/-- Every store has a canonical form. -/
theorem Memory.canon_wf (m : Memory) : m.canon.wf = true := by
  unfold Memory.canon
  split
  · assumption
  · exact Memory.rebuilt_wf m

end Sys2Proof.Machine
end

