-- ==== Sys2Proof/Laws/State.lean ====
section
/-! SUPPORT. What the named updates of State leave and what they set: one lemma per field per update, so that no proof unfolds a record
update. -/

namespace Sys2Proof.Machine

/-! ### Interrupt sources -/

@[simp] theorem State.setSrc_pending (s : State) (n : Nat) (f : Src → Src) : (s.setSrc n f).pending = s.pending := rfl
@[simp] theorem State.setSrc_fresh (s : State) (n : Nat) (f : Src → Src) : (s.setSrc n f).fresh = s.fresh := rfl
@[simp] theorem State.setSrc_epoch (s : State) (n : Nat) (f : Src → Src) : (s.setSrc n f).epoch = s.epoch := rfl
@[simp] theorem State.setSrc_mem (s : State) (n : Nat) (f : Src → Src) : (s.setSrc n f).mem = s.mem := rfl
@[simp] theorem State.setSrc_parBad (s : State) (n : Nat) (f : Src → Src) : (s.setSrc n f).parBad = s.parBad := rfl
@[simp] theorem State.setSrc_boot (s : State) (n : Nat) (f : Src → Src) : (s.setSrc n f).boot = s.boot := rfl
@[simp] theorem State.setSrc_clk (s : State) (n : Nat) (f : Src → Src) : (s.setSrc n f).clk = s.clk := rfl
@[simp] theorem State.setSrc_pwr (s : State) (n : Nat) (f : Src → Src) : (s.setSrc n f).pwr = s.pwr := rfl
@[simp] theorem State.setSrc_drone (s : State) (n : Nat) (f : Src → Src) : (s.setSrc n f).drone = s.drone := rfl
@[simp] theorem State.setSrc_host (s : State) (n : Nat) (f : Src → Src) : (s.setSrc n f).host = s.host := rfl
@[simp] theorem State.setSrc_rings (s : State) (n : Nat) (f : Src → Src) : (s.setSrc n f).rings = s.rings := rfl
@[simp] theorem State.setSrc_jrn (s : State) (n : Nat) (f : Src → Src) : (s.setSrc n f).jrn = s.jrn := rfl
@[simp] theorem State.setSrc_evt (s : State) (n : Nat) (f : Src → Src) : (s.setSrc n f).evt = s.evt := rfl
@[simp] theorem State.setSrc_rpt (s : State) (n : Nat) (f : Src → Src) : (s.setSrc n f).rpt = s.rpt := rfl
@[simp] theorem State.setSrc_strm (s : State) (n : Nat) (f : Src → Src) : (s.setSrc n f).strm = s.strm := rfl
@[simp] theorem State.setSrc_cap (s : State) (n : Nat) (f : Src → Src) : (s.setSrc n f).cap = s.cap := rfl
@[simp] theorem State.setSrc_hdma (s : State) (n : Nat) (f : Src → Src) : (s.setSrc n f).hdma = s.hdma := rfl
@[simp] theorem State.setSrc_chn (s : State) (n : Nat) (f : Src → Src) : (s.setSrc n f).chn = s.chn := rfl
@[simp] theorem State.setSrc_elec (s : State) (n : Nat) (f : Src → Src) : (s.setSrc n f).elec = s.elec := rfl
@[simp] theorem State.setSrc_cal (s : State) (n : Nat) (f : Src → Src) : (s.setSrc n f).cal = s.cal := rfl
@[simp] theorem State.setSrc_trk (s : State) (n : Nat) (f : Src → Src) : (s.setSrc n f).trk = s.trk := rfl
@[simp] theorem State.setSrc_tok (s : State) (n : Nat) (f : Src → Src) : (s.setSrc n f).tok = s.tok := rfl
@[simp] theorem State.setSrc_crl (s : State) (n : Nat) (f : Src → Src) : (s.setSrc n f).crl = s.crl := rfl
@[simp] theorem State.setSrc_arr (s : State) (n : Nat) (f : Src → Src) : (s.setSrc n f).arr = s.arr := rfl
@[simp] theorem State.setSrc_crook (s : State) (n : Nat) (f : Src → Src) : (s.setSrc n f).crook = s.crook := rfl
@[simp] theorem State.setSrc_ctx (s : State) (n : Nat) (f : Src → Src) : (s.setSrc n f).ctx = s.ctx := rfl
@[simp] theorem State.setSrc_mute (s : State) (n : Nat) (f : Src → Src) : (s.setSrc n f).mute = s.mute := rfl
@[simp] theorem State.setSrc_core0 (s : State) (n : Nat) (f : Src → Src) : (s.setSrc n f).core0 = s.core0 := rfl
@[simp] theorem State.setSrc_core1 (s : State) (n : Nat) (f : Src → Src) : (s.setSrc n f).core1 = s.core1 := rfl
@[simp] theorem State.setSrc_mbx (s : State) (n : Nat) (f : Src → Src) : (s.setSrc n f).mbx = s.mbx := rfl
@[simp] theorem State.setSrc_tmr (s : State) (n : Nat) (f : Src → Src) : (s.setSrc n f).tmr = s.tmr := rfl
@[simp] theorem State.setSrc_twm (s : State) (n : Nat) (f : Src → Src) : (s.setSrc n f).twm = s.twm := rfl
@[simp] theorem State.setSrc_twc (s : State) (n : Nat) (f : Src → Src) : (s.setSrc n f).twc = s.twc := rfl
@[simp] theorem State.setSrc_sets (s : State) (n : Nat) (f : Src → Src) : (s.setSrc n f).sets = s.sets := rfl
@[simp] theorem State.setSrc_out (s : State) (n : Nat) (f : Src → Src) : (s.setSrc n f).out = s.out := rfl
@[simp] theorem State.setSrc_length (s : State) (n : Nat) (f : Src → Src) : (s.setSrc n f).icu.src.length = s.icu.src.length := by
  simp [State.setSrc]

/-- A source reads what was set, every other source as before. -/
theorem State.srcAt_setSrc (s : State) (n : Nat) (f : Src → Src) (m : Nat) (h : n < s.icu.src.length) :
    (s.setSrc n f).srcAt m = if m = n then f (s.srcAt n) else s.srcAt m := by
  simp only [State.srcAt, State.setSrc, List.getD_eq_getElem?_getD, List.getElem?_modify]
  split
  · subst_vars
    simp [List.getElem?_eq_getElem h]
  · rename_i hh
    rw [if_neg (fun e => hh e.symm)]
    simp

/-! ### Cores -/

@[simp] theorem State.setCore_pending (s : State) (c : CoreId) (k : Core) : (s.setCore c k).pending = s.pending := by cases c <;> rfl
@[simp] theorem State.setCore_fresh (s : State) (c : CoreId) (k : Core) : (s.setCore c k).fresh = s.fresh := by cases c <;> rfl
@[simp] theorem State.setCore_epoch (s : State) (c : CoreId) (k : Core) : (s.setCore c k).epoch = s.epoch := by cases c <;> rfl
@[simp] theorem State.setCore_mem (s : State) (c : CoreId) (k : Core) : (s.setCore c k).mem = s.mem := by cases c <;> rfl
@[simp] theorem State.setCore_parBad (s : State) (c : CoreId) (k : Core) : (s.setCore c k).parBad = s.parBad := by cases c <;> rfl
@[simp] theorem State.setCore_boot (s : State) (c : CoreId) (k : Core) : (s.setCore c k).boot = s.boot := by cases c <;> rfl
@[simp] theorem State.setCore_clk (s : State) (c : CoreId) (k : Core) : (s.setCore c k).clk = s.clk := by cases c <;> rfl
@[simp] theorem State.setCore_pwr (s : State) (c : CoreId) (k : Core) : (s.setCore c k).pwr = s.pwr := by cases c <;> rfl
@[simp] theorem State.setCore_drone (s : State) (c : CoreId) (k : Core) : (s.setCore c k).drone = s.drone := by cases c <;> rfl
@[simp] theorem State.setCore_host (s : State) (c : CoreId) (k : Core) : (s.setCore c k).host = s.host := by cases c <;> rfl
@[simp] theorem State.setCore_rings (s : State) (c : CoreId) (k : Core) : (s.setCore c k).rings = s.rings := by cases c <;> rfl
@[simp] theorem State.setCore_jrn (s : State) (c : CoreId) (k : Core) : (s.setCore c k).jrn = s.jrn := by cases c <;> rfl
@[simp] theorem State.setCore_evt (s : State) (c : CoreId) (k : Core) : (s.setCore c k).evt = s.evt := by cases c <;> rfl
@[simp] theorem State.setCore_rpt (s : State) (c : CoreId) (k : Core) : (s.setCore c k).rpt = s.rpt := by cases c <;> rfl
@[simp] theorem State.setCore_strm (s : State) (c : CoreId) (k : Core) : (s.setCore c k).strm = s.strm := by cases c <;> rfl
@[simp] theorem State.setCore_cap (s : State) (c : CoreId) (k : Core) : (s.setCore c k).cap = s.cap := by cases c <;> rfl
@[simp] theorem State.setCore_hdma (s : State) (c : CoreId) (k : Core) : (s.setCore c k).hdma = s.hdma := by cases c <;> rfl
@[simp] theorem State.setCore_chn (s : State) (c : CoreId) (k : Core) : (s.setCore c k).chn = s.chn := by cases c <;> rfl
@[simp] theorem State.setCore_elec (s : State) (c : CoreId) (k : Core) : (s.setCore c k).elec = s.elec := by cases c <;> rfl
@[simp] theorem State.setCore_cal (s : State) (c : CoreId) (k : Core) : (s.setCore c k).cal = s.cal := by cases c <;> rfl
@[simp] theorem State.setCore_trk (s : State) (c : CoreId) (k : Core) : (s.setCore c k).trk = s.trk := by cases c <;> rfl
@[simp] theorem State.setCore_tok (s : State) (c : CoreId) (k : Core) : (s.setCore c k).tok = s.tok := by cases c <;> rfl
@[simp] theorem State.setCore_crl (s : State) (c : CoreId) (k : Core) : (s.setCore c k).crl = s.crl := by cases c <;> rfl
@[simp] theorem State.setCore_arr (s : State) (c : CoreId) (k : Core) : (s.setCore c k).arr = s.arr := by cases c <;> rfl
@[simp] theorem State.setCore_crook (s : State) (c : CoreId) (k : Core) : (s.setCore c k).crook = s.crook := by cases c <;> rfl
@[simp] theorem State.setCore_ctx (s : State) (c : CoreId) (k : Core) : (s.setCore c k).ctx = s.ctx := by cases c <;> rfl
@[simp] theorem State.setCore_mute (s : State) (c : CoreId) (k : Core) : (s.setCore c k).mute = s.mute := by cases c <;> rfl
@[simp] theorem State.setCore_mbx (s : State) (c : CoreId) (k : Core) : (s.setCore c k).mbx = s.mbx := by cases c <;> rfl
@[simp] theorem State.setCore_icu (s : State) (c : CoreId) (k : Core) : (s.setCore c k).icu = s.icu := by cases c <;> rfl
@[simp] theorem State.setCore_tmr (s : State) (c : CoreId) (k : Core) : (s.setCore c k).tmr = s.tmr := by cases c <;> rfl
@[simp] theorem State.setCore_twm (s : State) (c : CoreId) (k : Core) : (s.setCore c k).twm = s.twm := by cases c <;> rfl
@[simp] theorem State.setCore_twc (s : State) (c : CoreId) (k : Core) : (s.setCore c k).twc = s.twc := by cases c <;> rfl
@[simp] theorem State.setCore_sets (s : State) (c : CoreId) (k : Core) : (s.setCore c k).sets = s.sets := by cases c <;> rfl
@[simp] theorem State.setCore_out (s : State) (c : CoreId) (k : Core) : (s.setCore c k).out = s.out := by cases c <;> rfl
@[simp] theorem State.core_setCore (s : State) (c : CoreId) (k : Core) : (s.setCore c k).core c = k := by cases c <;> rfl
@[simp] theorem State.core1_setCore0 (s : State) (k : Core) : (s.setCore .c0 k).core1 = s.core1 := rfl
@[simp] theorem State.core0_setCore1 (s : State) (k : Core) : (s.setCore .c1 k).core0 = s.core0 := rfl
@[simp] theorem State.setCore_setCore (s : State) (c : CoreId) (k l : Core) : (s.setCore c k).setCore c l = s.setCore c l := by
  cases c <;> rfl
@[simp] theorem State.setCore_core (s : State) (c : CoreId) : s.setCore c (s.core c) = s := by cases c <;> rfl

/-! ### Ring ports -/

@[simp] theorem State.setPort_pending (s : State) (p : Port) (f : PortSt → PortSt) : (s.setPort p f).pending = s.pending := by cases p <;> rfl
@[simp] theorem State.setPort_fresh (s : State) (p : Port) (f : PortSt → PortSt) : (s.setPort p f).fresh = s.fresh := by cases p <;> rfl
@[simp] theorem State.setPort_epoch (s : State) (p : Port) (f : PortSt → PortSt) : (s.setPort p f).epoch = s.epoch := by cases p <;> rfl
@[simp] theorem State.setPort_mem (s : State) (p : Port) (f : PortSt → PortSt) : (s.setPort p f).mem = s.mem := by cases p <;> rfl
@[simp] theorem State.setPort_parBad (s : State) (p : Port) (f : PortSt → PortSt) : (s.setPort p f).parBad = s.parBad := by cases p <;> rfl
@[simp] theorem State.setPort_boot (s : State) (p : Port) (f : PortSt → PortSt) : (s.setPort p f).boot = s.boot := by cases p <;> rfl
@[simp] theorem State.setPort_clk (s : State) (p : Port) (f : PortSt → PortSt) : (s.setPort p f).clk = s.clk := by cases p <;> rfl
@[simp] theorem State.setPort_pwr (s : State) (p : Port) (f : PortSt → PortSt) : (s.setPort p f).pwr = s.pwr := by cases p <;> rfl
@[simp] theorem State.setPort_drone (s : State) (p : Port) (f : PortSt → PortSt) : (s.setPort p f).drone = s.drone := by cases p <;> rfl
@[simp] theorem State.setPort_host (s : State) (p : Port) (f : PortSt → PortSt) : (s.setPort p f).host = s.host := by cases p <;> rfl
@[simp] theorem State.setPort_rings (s : State) (p : Port) (f : PortSt → PortSt) : (s.setPort p f).rings = s.rings := by cases p <;> rfl
@[simp] theorem State.setPort_jrn (s : State) (p : Port) (f : PortSt → PortSt) : (s.setPort p f).jrn = s.jrn := by cases p <;> rfl
@[simp] theorem State.setPort_evt (s : State) (p : Port) (f : PortSt → PortSt) : (s.setPort p f).evt = s.evt := by cases p <;> rfl
@[simp] theorem State.setPort_rpt (s : State) (p : Port) (f : PortSt → PortSt) : (s.setPort p f).rpt = s.rpt := by cases p <;> rfl
@[simp] theorem State.setPort_strm (s : State) (p : Port) (f : PortSt → PortSt) : (s.setPort p f).strm = s.strm := by cases p <;> rfl
@[simp] theorem State.setPort_cap (s : State) (p : Port) (f : PortSt → PortSt) : (s.setPort p f).cap = s.cap := by cases p <;> rfl
@[simp] theorem State.setPort_hdma (s : State) (p : Port) (f : PortSt → PortSt) : (s.setPort p f).hdma = s.hdma := by cases p <;> rfl
@[simp] theorem State.setPort_chn (s : State) (p : Port) (f : PortSt → PortSt) : (s.setPort p f).chn = s.chn := by cases p <;> rfl
@[simp] theorem State.setPort_elec (s : State) (p : Port) (f : PortSt → PortSt) : (s.setPort p f).elec = s.elec := by cases p <;> rfl
@[simp] theorem State.setPort_cal (s : State) (p : Port) (f : PortSt → PortSt) : (s.setPort p f).cal = s.cal := by cases p <;> rfl
@[simp] theorem State.setPort_trk (s : State) (p : Port) (f : PortSt → PortSt) : (s.setPort p f).trk = s.trk := by cases p <;> rfl
@[simp] theorem State.setPort_tok (s : State) (p : Port) (f : PortSt → PortSt) : (s.setPort p f).tok = s.tok := by cases p <;> rfl
@[simp] theorem State.setPort_arr (s : State) (p : Port) (f : PortSt → PortSt) : (s.setPort p f).arr = s.arr := by cases p <;> rfl
@[simp] theorem State.setPort_crook (s : State) (p : Port) (f : PortSt → PortSt) : (s.setPort p f).crook = s.crook := by cases p <;> rfl
@[simp] theorem State.setPort_ctx (s : State) (p : Port) (f : PortSt → PortSt) : (s.setPort p f).ctx = s.ctx := by cases p <;> rfl
@[simp] theorem State.setPort_mute (s : State) (p : Port) (f : PortSt → PortSt) : (s.setPort p f).mute = s.mute := by cases p <;> rfl
@[simp] theorem State.setPort_core0 (s : State) (p : Port) (f : PortSt → PortSt) : (s.setPort p f).core0 = s.core0 := by cases p <;> rfl
@[simp] theorem State.setPort_core1 (s : State) (p : Port) (f : PortSt → PortSt) : (s.setPort p f).core1 = s.core1 := by cases p <;> rfl
@[simp] theorem State.setPort_mbx (s : State) (p : Port) (f : PortSt → PortSt) : (s.setPort p f).mbx = s.mbx := by cases p <;> rfl
@[simp] theorem State.setPort_icu (s : State) (p : Port) (f : PortSt → PortSt) : (s.setPort p f).icu = s.icu := by cases p <;> rfl
@[simp] theorem State.setPort_tmr (s : State) (p : Port) (f : PortSt → PortSt) : (s.setPort p f).tmr = s.tmr := by cases p <;> rfl
@[simp] theorem State.setPort_twm (s : State) (p : Port) (f : PortSt → PortSt) : (s.setPort p f).twm = s.twm := by cases p <;> rfl
@[simp] theorem State.setPort_twc (s : State) (p : Port) (f : PortSt → PortSt) : (s.setPort p f).twc = s.twc := by cases p <;> rfl
@[simp] theorem State.setPort_sets (s : State) (p : Port) (f : PortSt → PortSt) : (s.setPort p f).sets = s.sets := by cases p <;> rfl
@[simp] theorem State.setPort_out (s : State) (p : Port) (f : PortSt → PortSt) : (s.setPort p f).out = s.out := by cases p <;> rfl
@[simp] theorem State.port_setPort (s : State) (p : Port) (f : PortSt → PortSt) : (s.setPort p f).port p = f (s.port p) := by
  cases p <;> rfl
@[simp] theorem State.port_setPort_other (s : State) (p : Port) (f : PortSt → PortSt) :
    (s.setPort p f).port (portOther p) = s.port (portOther p) := by cases p <;> rfl

/-! ### Journal entries -/

@[simp] theorem State.setEntry_pending (s : State) (j : Nat) (f : JEntry → JEntry) : (s.setEntry j f).pending = s.pending := rfl
@[simp] theorem State.setEntry_fresh (s : State) (j : Nat) (f : JEntry → JEntry) : (s.setEntry j f).fresh = s.fresh := rfl
@[simp] theorem State.setEntry_epoch (s : State) (j : Nat) (f : JEntry → JEntry) : (s.setEntry j f).epoch = s.epoch := rfl
@[simp] theorem State.setEntry_mem (s : State) (j : Nat) (f : JEntry → JEntry) : (s.setEntry j f).mem = s.mem := rfl
@[simp] theorem State.setEntry_parBad (s : State) (j : Nat) (f : JEntry → JEntry) : (s.setEntry j f).parBad = s.parBad := rfl
@[simp] theorem State.setEntry_boot (s : State) (j : Nat) (f : JEntry → JEntry) : (s.setEntry j f).boot = s.boot := rfl
@[simp] theorem State.setEntry_clk (s : State) (j : Nat) (f : JEntry → JEntry) : (s.setEntry j f).clk = s.clk := rfl
@[simp] theorem State.setEntry_pwr (s : State) (j : Nat) (f : JEntry → JEntry) : (s.setEntry j f).pwr = s.pwr := rfl
@[simp] theorem State.setEntry_drone (s : State) (j : Nat) (f : JEntry → JEntry) : (s.setEntry j f).drone = s.drone := rfl
@[simp] theorem State.setEntry_host (s : State) (j : Nat) (f : JEntry → JEntry) : (s.setEntry j f).host = s.host := rfl
@[simp] theorem State.setEntry_rings (s : State) (j : Nat) (f : JEntry → JEntry) : (s.setEntry j f).rings = s.rings := rfl
@[simp] theorem State.setEntry_evt (s : State) (j : Nat) (f : JEntry → JEntry) : (s.setEntry j f).evt = s.evt := rfl
@[simp] theorem State.setEntry_rpt (s : State) (j : Nat) (f : JEntry → JEntry) : (s.setEntry j f).rpt = s.rpt := rfl
@[simp] theorem State.setEntry_strm (s : State) (j : Nat) (f : JEntry → JEntry) : (s.setEntry j f).strm = s.strm := rfl
@[simp] theorem State.setEntry_cap (s : State) (j : Nat) (f : JEntry → JEntry) : (s.setEntry j f).cap = s.cap := rfl
@[simp] theorem State.setEntry_hdma (s : State) (j : Nat) (f : JEntry → JEntry) : (s.setEntry j f).hdma = s.hdma := rfl
@[simp] theorem State.setEntry_chn (s : State) (j : Nat) (f : JEntry → JEntry) : (s.setEntry j f).chn = s.chn := rfl
@[simp] theorem State.setEntry_elec (s : State) (j : Nat) (f : JEntry → JEntry) : (s.setEntry j f).elec = s.elec := rfl
@[simp] theorem State.setEntry_cal (s : State) (j : Nat) (f : JEntry → JEntry) : (s.setEntry j f).cal = s.cal := rfl
@[simp] theorem State.setEntry_trk (s : State) (j : Nat) (f : JEntry → JEntry) : (s.setEntry j f).trk = s.trk := rfl
@[simp] theorem State.setEntry_tok (s : State) (j : Nat) (f : JEntry → JEntry) : (s.setEntry j f).tok = s.tok := rfl
@[simp] theorem State.setEntry_crl (s : State) (j : Nat) (f : JEntry → JEntry) : (s.setEntry j f).crl = s.crl := rfl
@[simp] theorem State.setEntry_arr (s : State) (j : Nat) (f : JEntry → JEntry) : (s.setEntry j f).arr = s.arr := rfl
@[simp] theorem State.setEntry_crook (s : State) (j : Nat) (f : JEntry → JEntry) : (s.setEntry j f).crook = s.crook := rfl
@[simp] theorem State.setEntry_ctx (s : State) (j : Nat) (f : JEntry → JEntry) : (s.setEntry j f).ctx = s.ctx := rfl
@[simp] theorem State.setEntry_mute (s : State) (j : Nat) (f : JEntry → JEntry) : (s.setEntry j f).mute = s.mute := rfl
@[simp] theorem State.setEntry_core0 (s : State) (j : Nat) (f : JEntry → JEntry) : (s.setEntry j f).core0 = s.core0 := rfl
@[simp] theorem State.setEntry_core1 (s : State) (j : Nat) (f : JEntry → JEntry) : (s.setEntry j f).core1 = s.core1 := rfl
@[simp] theorem State.setEntry_mbx (s : State) (j : Nat) (f : JEntry → JEntry) : (s.setEntry j f).mbx = s.mbx := rfl
@[simp] theorem State.setEntry_icu (s : State) (j : Nat) (f : JEntry → JEntry) : (s.setEntry j f).icu = s.icu := rfl
@[simp] theorem State.setEntry_tmr (s : State) (j : Nat) (f : JEntry → JEntry) : (s.setEntry j f).tmr = s.tmr := rfl
@[simp] theorem State.setEntry_twm (s : State) (j : Nat) (f : JEntry → JEntry) : (s.setEntry j f).twm = s.twm := rfl
@[simp] theorem State.setEntry_twc (s : State) (j : Nat) (f : JEntry → JEntry) : (s.setEntry j f).twc = s.twc := rfl
@[simp] theorem State.setEntry_sets (s : State) (j : Nat) (f : JEntry → JEntry) : (s.setEntry j f).sets = s.sets := rfl
@[simp] theorem State.setEntry_out (s : State) (j : Nat) (f : JEntry → JEntry) : (s.setEntry j f).out = s.out := rfl


/-! ### Context slots -/

@[simp] theorem setSlot_pending (s : State) (n : Nat) (st : SlotState) : (setSlot n st s).pending = s.pending := rfl
@[simp] theorem setSlot_fresh (s : State) (n : Nat) (st : SlotState) : (setSlot n st s).fresh = s.fresh := rfl
@[simp] theorem setSlot_epoch (s : State) (n : Nat) (st : SlotState) : (setSlot n st s).epoch = s.epoch := rfl
@[simp] theorem setSlot_mem (s : State) (n : Nat) (st : SlotState) : (setSlot n st s).mem = s.mem := rfl
@[simp] theorem setSlot_parBad (s : State) (n : Nat) (st : SlotState) : (setSlot n st s).parBad = s.parBad := rfl
@[simp] theorem setSlot_boot (s : State) (n : Nat) (st : SlotState) : (setSlot n st s).boot = s.boot := rfl
@[simp] theorem setSlot_clk (s : State) (n : Nat) (st : SlotState) : (setSlot n st s).clk = s.clk := rfl
@[simp] theorem setSlot_pwr (s : State) (n : Nat) (st : SlotState) : (setSlot n st s).pwr = s.pwr := rfl
@[simp] theorem setSlot_drone (s : State) (n : Nat) (st : SlotState) : (setSlot n st s).drone = s.drone := rfl
@[simp] theorem setSlot_host (s : State) (n : Nat) (st : SlotState) : (setSlot n st s).host = s.host := rfl
@[simp] theorem setSlot_rings (s : State) (n : Nat) (st : SlotState) : (setSlot n st s).rings = s.rings := rfl
@[simp] theorem setSlot_jrn (s : State) (n : Nat) (st : SlotState) : (setSlot n st s).jrn = s.jrn := rfl
@[simp] theorem setSlot_evt (s : State) (n : Nat) (st : SlotState) : (setSlot n st s).evt = s.evt := rfl
@[simp] theorem setSlot_rpt (s : State) (n : Nat) (st : SlotState) : (setSlot n st s).rpt = s.rpt := rfl
@[simp] theorem setSlot_strm (s : State) (n : Nat) (st : SlotState) : (setSlot n st s).strm = s.strm := rfl
@[simp] theorem setSlot_cap (s : State) (n : Nat) (st : SlotState) : (setSlot n st s).cap = s.cap := rfl
@[simp] theorem setSlot_hdma (s : State) (n : Nat) (st : SlotState) : (setSlot n st s).hdma = s.hdma := rfl
@[simp] theorem setSlot_chn (s : State) (n : Nat) (st : SlotState) : (setSlot n st s).chn = s.chn := rfl
@[simp] theorem setSlot_elec (s : State) (n : Nat) (st : SlotState) : (setSlot n st s).elec = s.elec := rfl
@[simp] theorem setSlot_cal (s : State) (n : Nat) (st : SlotState) : (setSlot n st s).cal = s.cal := rfl
@[simp] theorem setSlot_trk (s : State) (n : Nat) (st : SlotState) : (setSlot n st s).trk = s.trk := rfl
@[simp] theorem setSlot_tok (s : State) (n : Nat) (st : SlotState) : (setSlot n st s).tok = s.tok := rfl
@[simp] theorem setSlot_crl (s : State) (n : Nat) (st : SlotState) : (setSlot n st s).crl = s.crl := rfl
@[simp] theorem setSlot_arr (s : State) (n : Nat) (st : SlotState) : (setSlot n st s).arr = s.arr := rfl
@[simp] theorem setSlot_crook (s : State) (n : Nat) (st : SlotState) : (setSlot n st s).crook = s.crook := rfl
@[simp] theorem setSlot_mute (s : State) (n : Nat) (st : SlotState) : (setSlot n st s).mute = s.mute := rfl
@[simp] theorem setSlot_core0 (s : State) (n : Nat) (st : SlotState) : (setSlot n st s).core0 = s.core0 := rfl
@[simp] theorem setSlot_core1 (s : State) (n : Nat) (st : SlotState) : (setSlot n st s).core1 = s.core1 := rfl
@[simp] theorem setSlot_mbx (s : State) (n : Nat) (st : SlotState) : (setSlot n st s).mbx = s.mbx := rfl
@[simp] theorem setSlot_icu (s : State) (n : Nat) (st : SlotState) : (setSlot n st s).icu = s.icu := rfl
@[simp] theorem setSlot_tmr (s : State) (n : Nat) (st : SlotState) : (setSlot n st s).tmr = s.tmr := rfl
@[simp] theorem setSlot_twm (s : State) (n : Nat) (st : SlotState) : (setSlot n st s).twm = s.twm := rfl
@[simp] theorem setSlot_twc (s : State) (n : Nat) (st : SlotState) : (setSlot n st s).twc = s.twc := rfl
@[simp] theorem setSlot_sets (s : State) (n : Nat) (st : SlotState) : (setSlot n st s).sets = s.sets := rfl
@[simp] theorem setSlot_out (s : State) (n : Nat) (st : SlotState) : (setSlot n st s).out = s.out := rfl
/-- A slot reads the state it was set to, every other slot as before. -/
theorem slot_setSlot (s : State) (n : Nat) (st : SlotState) (m : Nat) (h : n < s.ctx.slots.length) :
    (setSlot n st s).slot m = if m = n then st else s.slot m := by
  simp only [State.slot, setSlot, List.getD_eq_getElem?_getD, List.getElem?_set]
  split
  · subst_vars
    simp
  · rename_i hh
    rw [if_neg (fun e => hh e.symm)]

/-! ### Timers -/

@[simp] theorem State.setTimer_pending (s : State) (n : Nat) (f : Timer → Timer) : (s.setTimer n f).pending = s.pending := rfl
@[simp] theorem State.setTimer_fresh (s : State) (n : Nat) (f : Timer → Timer) : (s.setTimer n f).fresh = s.fresh := rfl
@[simp] theorem State.setTimer_epoch (s : State) (n : Nat) (f : Timer → Timer) : (s.setTimer n f).epoch = s.epoch := rfl
@[simp] theorem State.setTimer_mem (s : State) (n : Nat) (f : Timer → Timer) : (s.setTimer n f).mem = s.mem := rfl
@[simp] theorem State.setTimer_parBad (s : State) (n : Nat) (f : Timer → Timer) : (s.setTimer n f).parBad = s.parBad := rfl
@[simp] theorem State.setTimer_boot (s : State) (n : Nat) (f : Timer → Timer) : (s.setTimer n f).boot = s.boot := rfl
@[simp] theorem State.setTimer_clk (s : State) (n : Nat) (f : Timer → Timer) : (s.setTimer n f).clk = s.clk := rfl
@[simp] theorem State.setTimer_pwr (s : State) (n : Nat) (f : Timer → Timer) : (s.setTimer n f).pwr = s.pwr := rfl
@[simp] theorem State.setTimer_drone (s : State) (n : Nat) (f : Timer → Timer) : (s.setTimer n f).drone = s.drone := rfl
@[simp] theorem State.setTimer_host (s : State) (n : Nat) (f : Timer → Timer) : (s.setTimer n f).host = s.host := rfl
@[simp] theorem State.setTimer_rings (s : State) (n : Nat) (f : Timer → Timer) : (s.setTimer n f).rings = s.rings := rfl
@[simp] theorem State.setTimer_jrn (s : State) (n : Nat) (f : Timer → Timer) : (s.setTimer n f).jrn = s.jrn := rfl
@[simp] theorem State.setTimer_evt (s : State) (n : Nat) (f : Timer → Timer) : (s.setTimer n f).evt = s.evt := rfl
@[simp] theorem State.setTimer_rpt (s : State) (n : Nat) (f : Timer → Timer) : (s.setTimer n f).rpt = s.rpt := rfl
@[simp] theorem State.setTimer_strm (s : State) (n : Nat) (f : Timer → Timer) : (s.setTimer n f).strm = s.strm := rfl
@[simp] theorem State.setTimer_cap (s : State) (n : Nat) (f : Timer → Timer) : (s.setTimer n f).cap = s.cap := rfl
@[simp] theorem State.setTimer_hdma (s : State) (n : Nat) (f : Timer → Timer) : (s.setTimer n f).hdma = s.hdma := rfl
@[simp] theorem State.setTimer_chn (s : State) (n : Nat) (f : Timer → Timer) : (s.setTimer n f).chn = s.chn := rfl
@[simp] theorem State.setTimer_elec (s : State) (n : Nat) (f : Timer → Timer) : (s.setTimer n f).elec = s.elec := rfl
@[simp] theorem State.setTimer_cal (s : State) (n : Nat) (f : Timer → Timer) : (s.setTimer n f).cal = s.cal := rfl
@[simp] theorem State.setTimer_trk (s : State) (n : Nat) (f : Timer → Timer) : (s.setTimer n f).trk = s.trk := rfl
@[simp] theorem State.setTimer_tok (s : State) (n : Nat) (f : Timer → Timer) : (s.setTimer n f).tok = s.tok := rfl
@[simp] theorem State.setTimer_crl (s : State) (n : Nat) (f : Timer → Timer) : (s.setTimer n f).crl = s.crl := rfl
@[simp] theorem State.setTimer_arr (s : State) (n : Nat) (f : Timer → Timer) : (s.setTimer n f).arr = s.arr := rfl
@[simp] theorem State.setTimer_crook (s : State) (n : Nat) (f : Timer → Timer) : (s.setTimer n f).crook = s.crook := rfl
@[simp] theorem State.setTimer_ctx (s : State) (n : Nat) (f : Timer → Timer) : (s.setTimer n f).ctx = s.ctx := rfl
@[simp] theorem State.setTimer_mute (s : State) (n : Nat) (f : Timer → Timer) : (s.setTimer n f).mute = s.mute := rfl
@[simp] theorem State.setTimer_core0 (s : State) (n : Nat) (f : Timer → Timer) : (s.setTimer n f).core0 = s.core0 := rfl
@[simp] theorem State.setTimer_core1 (s : State) (n : Nat) (f : Timer → Timer) : (s.setTimer n f).core1 = s.core1 := rfl
@[simp] theorem State.setTimer_mbx (s : State) (n : Nat) (f : Timer → Timer) : (s.setTimer n f).mbx = s.mbx := rfl
@[simp] theorem State.setTimer_icu (s : State) (n : Nat) (f : Timer → Timer) : (s.setTimer n f).icu = s.icu := rfl
@[simp] theorem State.setTimer_twm (s : State) (n : Nat) (f : Timer → Timer) : (s.setTimer n f).twm = s.twm := rfl
@[simp] theorem State.setTimer_twc (s : State) (n : Nat) (f : Timer → Timer) : (s.setTimer n f).twc = s.twc := rfl
@[simp] theorem State.setTimer_sets (s : State) (n : Nat) (f : Timer → Timer) : (s.setTimer n f).sets = s.sets := rfl
@[simp] theorem State.setTimer_out (s : State) (n : Nat) (f : Timer → Timer) : (s.setTimer n f).out = s.out := rfl


end Sys2Proof.Machine
end

