-- ==== Sys2Proof/Laws/Ops.lean ====
section
/-! SUPPORT. For each operation that commands share, once, everything it can do. -/

namespace Sys2Proof.Machine

/-! ### Ending a command -/

/-- A command always answers a next state through `answer`. -/
theorem answer_next (s t : State) : ∃ u, answer s t = .next u ∧ u.pending = s.pending ∧ u.mem = t.mem.canon ∧ u.memOk :=
  ⟨_, rfl, rfl, rfl, Memory.canon_wf _⟩

/-- Where the RAMs stand in canonical form and the queue is the old one, the answer is the state itself. -/
theorem answer_of_wf (s t : State) (hm : t.memOk) (hp : t.pending = s.pending) : answer s t = .next t := by
  have h : t.mem.wf = true := hm
  simp [answer, Memory.canon_of_wf _ h, ← hp]

/-- A command that leaves the RAMs and the queue alone answers the state it reached. -/
theorem answer_of_eq (s t : State) (hm : s.memOk) (h : t.mem = s.mem) (hp : t.pending = s.pending) : answer s t = .next t :=
  answer_of_wf s t (by rw [State.memOk, h]; exact hm) hp

/-- The step on a queue that is not empty. -/
theorem step_cons (c : Instr) (cs : List Instr) (s : State) : step { s with pending := c :: cs } = exec c { s with pending := cs } := rfl

/-! ### Interrupt arrivals -/

/-- An arrival counts in ARR and leaves every field that it does not concern. -/
theorem Src.arrival_frame (r : Src) : r.arrival.1.arr = cnt 4 r.arr 1 ∧ r.arrival.1.mask = r.mask ∧ r.arrival.1.act = r.act ∧
    r.arrival.1.own = r.own ∧ r.arrival.1.prio = r.prio ∧ r.arrival.1.target = r.target ∧ r.arrival.1.fallback = r.fallback ∧
    r.arrival.1.ccount = r.ccount ∧ r.arrival.1.ctime = r.ctime := by
  unfold Src.arrival
  dsimp only
  split
  · exact ⟨rfl, rfl, rfl, rfl, rfl, rfl, rfl, rfl, rfl⟩
  · split <;> exact ⟨rfl, rfl, rfl, rfl, rfl, rfl, rfl, rfl, rfl⟩

/-- The count of undeliverable sources changes the sources, `ICU_UNDEL` and nothing else. -/
theorem countUndeliverable_eq (n : Nat) (s : State) :
    ∃ src cnt' n', countUndeliverable n s = { s with icu.src := src, icu.undCount := cnt', icu.undSrc := n' } := by
  unfold countUndeliverable
  dsimp only
  split
  · exact ⟨_, _, _, rfl⟩
  · exact ⟨s.icu.src, s.icu.undCount, s.icu.undSrc, rfl⟩

/-- An arrival changes the sources, `ICU_UNDEL` and nothing else. -/
theorem arrive_eq (n : Nat) (s : State) :
    ∃ src cnt' n', arrive n s = { s with icu.src := src, icu.undCount := cnt', icu.undSrc := n' } := by
  unfold arrive
  dsimp only
  split
  · obtain ⟨a, b, c, h⟩ := countUndeliverable_eq n (s.setSrc n (fun _ => (s.srcAt n).arrival.1))
    exact ⟨a, b, c, by rw [h]; rfl⟩
  · exact ⟨_, s.icu.undCount, s.icu.undSrc, rfl⟩

/-- A raised line changes the interrupt unit's sources, counts and held edges, the count of merged edges, and nothing else. -/
theorem raise_eq (n : Nat) (s : State) : ∃ src cnt' n' held merge, raise n s =
    { s with icu.src := src, icu.undCount := cnt', icu.undSrc := n', icu.heldEdges := held, clk.mergeIcu := merge } := by
  unfold raise
  split
  · obtain ⟨a, b, c, h⟩ := arrive_eq n s
    exact ⟨a, b, c, s.icu.heldEdges, s.clk.mergeIcu, by rw [h]⟩
  · split
    · exact ⟨s.icu.src, s.icu.undCount, s.icu.undSrc, s.icu.heldEdges, s.clk.mergeIcu, rfl⟩
    · dsimp only
      split <;> split <;> exact ⟨s.icu.src, s.icu.undCount, s.icu.undSrc, _, _, rfl⟩

/-- A wake source set out changes the requests on their way and the count of merged ones, and nothing else. -/
theorem wakeSource_eq (code : Nat) (s : State) : ∃ due merge, wakeSource code s = { s with pwr.wakeDue := due, clk.mergeWake := merge } := by
  unfold wakeSource
  dsimp only
  split <;> split <;> exact ⟨_, _, rfl⟩

/-- A transfer on the memory port's bus changes its list only. -/
theorem State.onBus_eq (l : List BusXfer) (s : State) : ∃ b, s.onBus l = { s with out.bus := b } := by
  unfold State.onBus
  split <;> exact ⟨_, rfl⟩

/-- Bytes written change memory and the bytes known to be bad, and nothing else. -/
theorem State.put_eq (a : Nat) (bs : List Byte) (s : State) : ∃ m bad, s.put a bs = { s with mem := m, parBad := bad } := ⟨_, _, rfl⟩

/-! ### Messages and events -/

/-- A frame that joins an outgoing queue changes the ring state only. -/
theorem enqueueOn_eq (p : Port) (f : CFrame) (s : State) : ∃ c, enqueueOn p f s = { s with crl := c } := by
  unfold enqueueOn
  cases p <;> exact ⟨_, rfl⟩

/-- So does a frame sent out. -/
theorem sendFrame_eq (f : CFrame) (s : State) : ∃ c, sendFrame f s = { s with crl := c } := by
  unfold sendFrame
  generalize (if f.dirn = true then Port.up else Port.dn) = p
  dsimp only
  split
  · obtain ⟨c, h⟩ := enqueueOn_eq (portOther p) { f with dirn := !f.dirn, wrapped := true } { s with crl.wrap := true }
    exact ⟨c, by rw [h]⟩
  · exact enqueueOn_eq _ _ _

/-- A message changes the ring state and the frames held for a quiet member, and nothing else. -/
theorem sendMsgParts_eq (cls dst : Nat) (bcast : Bool) (msgs : List Msg) (s : State) :
    ∃ c q, sendMsgParts cls dst bcast msgs s = { s with crl := c, arr.queue := q } := by
  have go : ∀ (f : State → Nat × Msg → State), (∀ t m, ∃ c, f t m = { t with crl := c }) → ∀ (l : List (Nat × Msg)) (t : State),
      ∃ c, l.foldl f t = { t with crl := c } := by
    intro f hf l
    induction l with
    | nil => exact fun t => ⟨t.crl, rfl⟩
    | cons m l ih =>
      intro t
      obtain ⟨c, h⟩ := hf t m
      obtain ⟨d, k⟩ := ih (f t m)
      exact ⟨d, by rw [List.foldl_cons, k, h]⟩
  unfold sendMsgParts
  split
  · exact ⟨s.crl, s.arr.queue, rfl⟩
  · dsimp only
    split
    · exact ⟨_, _, rfl⟩
    · refine (go _ (fun t m => ?_) _ { s with crl.msgNum := (s.crl.msgNum + 1) % 65536 }).elim (fun c h => ⟨c, s.arr.queue, by rw [h]⟩)
      split
      · obtain ⟨c, h⟩ := sendFrame_eq _ t
        obtain ⟨d, k⟩ := sendFrame_eq _ (sendFrame _ t)
        exact ⟨d, by rw [k, h]⟩
      · exact sendFrame_eq _ t

/-- An event enters the buffer or is counted as lost. -/
theorem bufferEvent_eq (e : Ev) (s : State) : bufferEvent e s = { s with evt.buf := s.evt.buf ++ [e] } ∨
    bufferEvent e s = { s with evt.lost := add32 s.evt.lost 1, evt.lostDue := cnt 32 s.evt.lostDue 1 } := by
  unfold bufferEvent
  split
  · exact .inl rfl
  · exact .inr rfl

/-- An event posted changes the event buffer, or the ring state of a member, and nothing else. -/
theorem postEventAt_eq (epoch code d0 d1 : Nat) (s : State) :
    ∃ v c q, postEventAt epoch code d0 d1 s = { s with evt := v, crl := c, arr.queue := q } := by
  unfold postEventAt
  split
  · obtain ⟨c, q, h⟩ := sendMsgParts_eq 1 0 false [.event code epoch (d0 % 2 ^ 32) (d1 % 2 ^ 31)] s
    exact ⟨s.evt, c, q, by rw [sendMsg, h]⟩
  · rcases bufferEvent_eq { code := code, tile := s.tile, epoch := epoch, d0 := d0 % 2 ^ 32, d1 := d1 % 2 ^ 31 } s with h | h <;>
      exact ⟨_, s.crl, s.arr.queue, h⟩

/-! ### Exceptions -/

/-- An exception while EXC = 0 sets the core's registers and nothing else: status and cause saved, IE and the delay slot cleared, on at
VBASE + 0x600 (12 R358, R356). -/
theorem takeExc_eq (c : CoreId) (cause : Nat) (epc eaddr : Word) (s : State) (h : (s.core c).exc = false) :
    takeExc c cause epc eaddr s = s.setCore c { s.core c with
      estatus := (s.core c).status (!(s.core c).slot.isEmpty), epc := if (s.core c).slot = [] then epc else (s.core c).pc,
      eaddr := eaddr, ecause := cause, etgt := (s.core c).slot.headD (s.core c).etgt, ld := none, exc := true, ie := false,
      pc := (s.core c).vbase + 0x600#32, slot := [], cycle := ((s.core c).cycle + 4) % 2 ^ 64 } := by
  unfold takeExc
  dsimp only
  rw [h]
  cases (s.core c).slot <;> rfl

/-- A return from an exception sets the core's registers and nothing else. -/
theorem retExc_eq (c : CoreId) (s : State) : ∃ k, retExc c s = s.setCore c k ∧ k.g = (s.core c).g ∧ k.vbase = (s.core c).vbase ∧
    k.epc = (s.core c).epc ∧ k.ld = none := by
  unfold retExc
  dsimp only
  refine ⟨_, rfl, ?_⟩
  split <;> exact ⟨rfl, rfl, rfl, rfl⟩

/-- Core 0's recovery trap: boot/recovery mode at 0x0000_0100 with the exception registers as they were (12 R362). -/
theorem recoveryTrap_core0 (s : State) : (recoveryTrap s).core0 = { s.core0 with
    brm := true, ie := false, exc := false, level := 0, vbase := 0x1000#32, pc := 0x100#32, ld := none, slot := [], waiting := false } := by
  unfold recoveryTrap restartCore0
  dsimp only
  split
  · obtain ⟨c, q, h⟩ := sendMsgParts_eq 1 0 false [.ready 0] { s with
      boot.phase := .restart, boot.ready := false, boot.reload := false, boot.fwRetried := false
      core0 := { s.core0 with brm := true, ie := false, exc := false, level := 0, vbase := 0x1000#32, pc := 0x100#32, ld := none,
                              slot := [], waiting := false } }
    rw [sendMsg]
    exact (congrArg State.core0 h)
  · rfl

/-- The hold's bytes change memory only (10 R310). -/
theorem storeHold_eq (s : State) : ∃ m : Memory, storeHold s = { s with mem := m } := by
  unfold storeHold
  split <;> exact ⟨_, rfl⟩

/-- An instruction that transfers nowhere goes on at the next word or where its delay slot leads. -/
theorem Core.advance_eq (k : Core) (n : Nat) (h : k.ld = none) : k.advance n = k.done n := by
  unfold Core.advance Core.done Core.nextPc Core.tick
  cases hs : k.slot <;> simp [h]

/-- A taken transfer. -/
theorem Core.jump_eq (k : Core) (a : Word) (n : Nat) (h : k.ld = none) : k.jump a n = k.went a n := by
  unfold Core.jump Core.went Core.tick
  cases k.brm <;> simp [h]

end Sys2Proof.Machine
end

