-- ==== Sys2Proof/Tests/Slice0.lean ====
section
/-! SUPPORT. Tests: an ill-formed command for each well-formedness check, worked examples of the manual (each names its source), and for
every statement with hypotheses a theorem with concrete states and operands that meet them, clause by clause. -/

namespace Sys2Proof.Tests

set_option linter.unusedSimpArgs false
set_option Elab.async false

open Sys2Proof Sys2Proof.Machine

/-! ### Ill-formed commands are refused -/

theorem test_wf_ldb : Instr.wf (.ldb .c0 1 1 .preDec false) = false := by decide
theorem test_wf_ldbu : Instr.wf (.ldbu .c0 2 2 (.postInc none 1#8) false) = false := by decide
theorem test_wf_ldh : Instr.wf (.ldh .c0 1 1 .preDec false) = false := by decide
theorem test_wf_ldhu : Instr.wf (.ldhu .c0 3 3 (.postInc (some 0) 1#8) false) = false := by decide
theorem test_wf_ldw : Instr.wf (.ldw .c1 15 15 .preDec false) = false := by decide
theorem test_wf_brz_cond : Instr.wf (.brz .c0 1 6#4 0#18) = false := by decide
theorem test_wf_scopy_stride : Instr.wf (.scopy .c0 0#4 1#2 false none) = false := by decide
theorem test_wf_sfill_register : Instr.wf (.sfill .c0 3 1#4 1#2 none) = false := by decide
theorem test_wf_smatch_size : Instr.wf (.smatch .c0 1#4 0#2 3#2 false none) = false := by decide
theorem test_wf_sseek_register : Instr.wf (.sseek .c0 1 1#4 0#2 1#2 false none) = false := by decide

/-- An ill-formed command stops by name. -/
theorem test_ill_formed_stops : exec (.sfill .c0 3 1#4 1#2 none) { State.reset with clk.core := true, boot.phase := .running } =
    .fault .reservedEncoding := by rfl

/-- No row of the opcode table gives bits. -/
theorem test_no_word_decodes : decodeTableWord 32 0xFFFFFFFF = none := rfl

/-! ### Words of chapter 13, written out from their formats -/

/-- LDH G4, (G1)+, step 1 through modulo address register 0: OP 0x12, Gd 4, Gb 1, bit 15, mode fields, step. -/
theorem test_word_ldh : instrOfWord .c0 0x49068001#32 = some (.ldh .c0 4 1 (.postInc (some 0) 1) false) := by decide +kernel
theorem test_word_ldh_plain : instrOfWord .c0 0x494A0001#32 = some (.ldh .c0 5 2 (.postInc none 1) false) := by decide +kernel
/-- ADD.K G3, G3, -1: OP 0x04, 18-bit constant of all ones. -/
theorem test_word_addK : instrOfWord .c0 0x10CFFFFF#32 = some (.addK .c0 3 3 0x3FFFF#18) := by decide +kernel
theorem test_word_macq : instrOfWord .c0 0x09914001#32 = some (.macq .c0 6 4 5) := by decide +kernel
theorem test_word_brz : instrOfWord .c0 0x98C7FFFC#32 = some (.brz .c0 3 1#4 0x3FFFC#18) := by decide +kernel
theorem test_word_zero : instrOfWord .c0 0#32 = some (.brk .c0) := by decide +kernel
theorem test_word_scopy : instrOfWord .c0 0xB0000101#32 = some (.scopy .c0 1#4 1#2 false none) := by decide +kernel
theorem test_word_reserved : instrOfWord .c0 0xFC000000#32 = none := by decide +kernel

/-! ### A pair that meets the target of 03 R67, whatever the target is -/

/-- I′ is 2^22 and Q′ -2^14 in the eight calibration-charge steps of chain 1 and slot 2. -/
def chargedMem : Memory :=
  (Memory.write [] (stepStore 0 + 3 * 256) (List.replicate 8 [0#8, 0#8, 0x40#8]).flatten).write (stepStore 0 + 3 * 384)
    (List.replicate 8 [0#8, 0xC0#8, 0xFF#8]).flatten
def charged : State := { State.reset with mem := chargedMem }

theorem charged_steps : (List.range 8).map (fun i => (charged.mem.leI (stepStore 0 + 3 * (256 * 1 + (8 * (2 - 2) + i))) 3,
    charged.mem.leI (stepStore 0 + 3 * (256 * 1 + 128 + (8 * (2 - 2) + i))) 3)) = List.replicate 8 (4194304, -16384) := by decide +kernel

theorem charged_value (x : Int) (h1 : x < 8388608) (h2 : -8388608 ≤ x) : chargeValue charged 0 1 2 (x / 256, x % 256) = x := by
  have hs : stepValue (4194304, -16384) (x / 256, x % 256) = x := by
    unfold stepValue asr satI clampI
    simp only [] at *
    omega
  have h : (List.range 8).map (fun i => stepValue (charged.mem.leI (stepStore 0 + 3 * (256 * 1 + (8 * (2 - 2) + i))) 3,
      charged.mem.leI (stepStore 0 + 3 * (256 * 1 + 128 + (8 * (2 - 2) + i))) 3) (x / 256, x % 256)) = List.replicate 8 x := by
    have e := congrArg (List.map (fun iq => stepValue iq (x / 256, x % 256))) charged_steps
    rw [List.map_map] at e
    exact e.trans (by rw [List.map_replicate, hs])
  unfold chargeValue
  simp only []
  rw [h]
  simp only [List.replicate, List.foldl_cons, List.foldl_nil]
  omega

theorem test_pair_meets : ∃ a b : Int, -32768 ≤ a ∧ a ≤ 32767 ∧ -32768 ≤ b ∧ b ≤ 32767 ∧
    (pairError charged 0 1 2 (a, b)).1 ≤ (pairError charged 0 1 2 (a, b)).2 := by
  have h : ∀ g m : Nat, 0 ≤ idealValue g m ∧ idealValue g m < 8388608 := by
    intro g m
    unfold idealValue
    have := Nat.max_lt.mpr ⟨show 1 < 2 ^ 23 by decide, Nat.mod_lt (Config.calTarget g m).toNat (show 0 < 2 ^ 23 by decide)⟩
    change Nat.max 1 _ < _ at this
    omega
  obtain ⟨h1, h2⟩ := h (charged.params 0).gain (charged.params 0).amp
  refine ⟨idealValue (charged.params 0).gain (charged.params 0).amp / 256, idealValue (charged.params 0).gain (charged.params 0).amp % 256,
    by omega, by omega, by omega, by omega, ?_⟩
  unfold pairError
  simp only []
  rw [charged_value _ (by omega) (by omega)]
  simp

/-! ### Worked examples -/

/-- Core 0 running in code SRAM at `pc` with general registers `g`, its load delay empty. -/
def core (pc : Word) (g : Vector Word 16) : State := { State.reset with
  boot.phase := .running, clk.core := true, core0.brm := false, core0.pc := pc, core0.g := g }

/-- What a command leaves in core 0, if it goes on. -/
def core0After (i : Instr) (s : State) : Option Core := match exec i s with
  | .next t => some t.core0
  | _ => none

def regs : Vector Word 16 := Vector.replicate 16 0

/-- Example of chapter 13: 0x4000 times 0xA000 accumulates to 0xD000_0000. -/
theorem test_macq_example : (core0After (.macq .c0 6 4 5) (core 0x10000000#32 ((regs.set 4 0x4000#32).set 5 0xA000#32))).map
    (fun k => k.g.get 6) = some 0xD0000000#32 := by decide +kernel

/-- Example of chapter 13: RNDQ of 0xD000_0000 is 0xFFFF_D000. -/
theorem test_rndq_example : (core0After (.rndq .c0 7 6) (core 0x10000000#32 (regs.set 6 0xD0000000#32))).map
    (fun k => k.g.get 7) = some 0xFFFFD000#32 := by decide +kernel

/-- Example of chapter 13: the ring pointer wraps from 0x2001_C07E to 0x2001_C000. -/
theorem test_ldh_ring_wraps : (core0After (.ldh .c0 4 1 (.postInc (some 0) 1#8) false) { core 0x10000000#32 (regs.set 1 0x2001C07E#32) with
      core0.agBase := (Vector.replicate 4 0).set 0 0x2001C000#32, core0.agLen := (Vector.replicate 4 0).set 0 128,
      core0.agMode := (Vector.replicate 4 0).set 0 1 }).map (fun k => k.g.get 1) = some 0x2001C000#32 := by decide +kernel

/-- Example of chapter 13: offset 0x3_FFFC of a branch at 0x110 leads to 0x100 while G3 is not zero. -/
theorem test_brz_example : (core0After (.brz .c0 3 1#4 0x3FFFC#18) (core 0x10000110#32 (regs.set 3 63#32))).map (·.pc) =
    some 0x10000100#32 := by decide +kernel

/-- Example of chapter 13: the last branch of the loop is not taken. -/
theorem test_brz_falls_through : (core0After (.brz .c0 3 1#4 0x3FFFC#18) (core 0x10000110#32 regs)).map (·.pc) =
    some 0x10000114#32 := by decide +kernel

/-- 13 R377: addition is modulo 2^32, with the destination a source. -/
theorem test_add_wraps : (core0After (.add .c0 1 1 2) (core 0x10000000#32 ((regs.set 1 0xFFFFFFFF#32).set 2 2#32))).map
    (fun k => k.g.get 1) = some 1#32 := by decide +kernel

/-- 13 R379: -1 times -1 saturates to 0x7FFF. -/
theorem test_mulq_saturates : (core0After (.mulq .c0 3 1 1) (core 0x10000000#32 (regs.set 1 0x8000#32))).map
    (fun k => k.g.get 3) = some 0x7FFF#32 := by decide +kernel

/-- 13 R381: a store whose source is its base stores the value from before. -/
theorem test_stw_source_is_base : (match exec (.stw .c0 2 2 .preDec) (core 0x10000000#32 (regs.set 2 0x20000104#32)) with
    | .next t => some (t.mem.le 0x20000100 4, t.core0.g.get 2)
    | _ => none) = some (0x20000104, 0x20000100#32) := by decide +kernel

/-- Example of chapter 00: the epoch 3 lies five frames after 0xFFFF_FFFE. -/
theorem test_epoch_wrap : later 3 0xFFFFFFFE = true ∧ diff32 3 0xFFFFFFFE = 5 := by decide

/-- Example of chapter 03: the samples of chain 40 in step 0. -/
def fingerWindow : List Int := (List.replicate 6 [-290, 0, 290, 410, 290, 0, -290, -410]).flatten

/-- Example of chapter 03: I' = 111,348 and Q' = -111,348. -/
theorem test_mixer_example : mixIQ 6 fingerWindow = (111348, -111348) := by decide +kernel

/-- Example of chapter 03: the phase-corrected value is 157,467. -/
theorem test_step_value_example : stepValue (111348, -111348) (11585, 11585) = 157467 := by decide

/-- Example of chapter 03: the weight is 230, the combined value -157,450 and the delta 1,230. -/
theorem test_node_example : weight 1200 3600 8 = 230 ∧ combine 230 1200 3600 64 7 (-157467) (-157300) = (-157450, false) ∧
    deltaOf 0 (-157450) = 1230 := by decide

/-- Example of chapter 11: row 5 with a fingertip, lines 0 to 63. -/
def fingerRow : List Int := List.replicate 38 (-7) ++ [95, 702, 1230, 688, 88] ++ List.replicate 21 (-7)

/-- Example of chapter 11: the header of FR block 15 of frame 1,000, and the byte with residual 40. -/
theorem test_fr_example : (frEncode 15 0 1000 (bytesOf fingerRow)).take 6 = [0xF9#8, 0xFF#8, 0xF4#8, 0#8, 0xE8#8, 3#8] ∧
    (frEncode 15 0 1000 (bytesOf fingerRow)).getD 0x29 0 = 0xCD#8 := by decide +kernel

/-! ### Hypotheses that can be met -/

/-- A device that is up: firmware runs, the domains are on, the rings run and the link is in L0. -/
def up : State := { State.reset with
  boot.phase := .running, boot.role := .root, boot.ready := true, boot.fwvalid := true, clk.core := true, clk.afe := true, clk.link := true,
  clk.host := true, clk.pllLock := true, chn.timer := true, chn.counted := true, host.perst := false, host.link := .l0, host.bme := true,
  rings.en := true, rings.act := true, rings.tableValid := true, rings.cmd := { base := 4096, log2n := 4 },
  rings.cpl := { base := 8192, log2n := 4 }, rings.rpt := { base := 12288, log2n := 4 }, rings.evt := { base := 16384, log2n := 4 },
  core0.pc := 0x10000000#32, core0.brm := false, mbx.run := true, core1.pc := 0x10020000#32, pwr.floor := 0, host.dbpg := 0x200000, host.stpg := 0x201000 }

def de : Desc := { opcode := 0, ord := false, dfence := false, rsv := false, tag := 1, tile := 0, a0 := 0, a1 := 0, addr := 0, p0 := 0, p1 := 0, p2 := 0, p3 := 0 }
def je : JEntry := { cmd := 1, d := de, cpl := 1, tiles := [] }
def fr : CFrame := { seq := 0, cls := 0, dst := 0, src := 1, bcast := false, dirn := false, wrapped := false, ttl := 5, num := 1, part := 0, parts := 1, msg := .epoch 3 }
def gj : CommitJob := { cmd := some 1, slot := 1, isSwitch := false, set := [0, 1], named := none, before := .staging }
def rd0 : Rec := {}
def tk : Track := { id := 1, rid := 1, cls := 0, x := 0, y := 0, ax := 0, ay := 0, rcd := rd0 }
def rc0 : TileRec := { format := 1, tile := 1, codeSet := 0, ntiles := 2, ox := 0, oy := 0, dmap := 4, smap := 4, pitchS := 100, pitchD := 100, nbrs := [], gpio := [], crcOk := true }
def ev0 : Ev := { code := 1, tile := 0, epoch := 0, d0 := 0, d1 := 0 }
def fs0 : FragSet := { src := 5, epoch := 0, frags := [], conts := [] }
def ri0 : RptImg := { tile := 0, epoch := 0, nrec := 0, image := [] }
/-- A ring entry: base, size and nothing else. -/
def ringImg (base log2n : Nat) : List Byte := leBytes 8 base ++ [BitVec.ofNat 8 log2n] ++ List.replicate 23 0#8
/-- A ring table without a stream ring. -/
def tableImg : List Byte := [0x54#8, 0x52#8, 1#8] ++ List.replicate 29 0#8 ++ ringImg 4096 4 ++ ringImg 8192 4 ++ ringImg 0x100000 4 ++
  List.replicate 32 0#8 ++ ringImg 16384 4 ++ List.replicate 64 0#8
def fwImg : List Byte := [1#8, 2#8, 3#8, 4#8]
def fwCoded : List Byte := [0#8 ,3#8, 1#8, 2#8, 3#8, 4#8, 249#8, 0#8, 218#8, 6#8]
def hdrImg : List Byte := leBytes 4 0x4D534B54 ++ leBytes 2 1 ++ [1#8, 0#8] ++ leBytes 4 10 ++ leBytes 4 4 ++ leBytes 4 3057449933 ++
  List.replicate 232 0#8 ++ leBytes 4 273079375
def zeroCrc : List Byte := [1#8, 0#8, 35#8, 41#8, 27#8, 53#8]
/-- A context image of slot 1 whose piece under the CRC leaves the register at 0. -/
def ctxImg : List Byte := ([1#8, 1#8] ++ List.replicate 10 0#8 ++ List.replicate 4 0xFF#8 ++ List.replicate 48 0#8) ++
  ([0xFF#8, 0xFF#8, 0xFF#8, 0xFF#8] ++ List.replicate 1980 0#8)
def appImg : List Byte := leBytes 4 0x00014C41 ++ leBytes 4 4 ++ List.replicate 20 0#8 ++ leBytes 4 1401769321 ++ [5#8, 6#8, 7#8, 8#8]
def trackMem : Memory := Memory.write (Memory.write (Memory.write (Memory.write (Memory.write [] (hdrBase 0 + 8) [4#8, 4#8])
  (deltaFrame 0 + 386) [0x90#8, 1#8]) (ctxBase + 0x2E2) [0#8]) (ctxBase + 0x2EB) [0#8]) (ctxBase + 0x32B) [0xFF#8]

/-- The blocks of a frame with one payload block of zeros. -/
def frBlocks (f : CFrame) : List LinkBlock := [controlOf .sof (sofPayload f 1), dataOf [], controlOf .eof (frameCrc (sofPayload f 1) (List.replicate 8 0#8))]
def frLine (f : CFrame) : List LinkBlock := lineBlocks {} (frBlocks f)
def frA : CFrame := { fr with seq := 0 }
def frB : CFrame := { fr with seq := 0, parts := 2 }
def frC : CFrame := { fr with seq := 0, dst := 3 }
def frD : CFrame := { fr with seq := 0, dst := 3, ttl := 1 }
def frE : CFrame := { fr with seq := 4095 }
/-- A step store and scales of chain 1 whose charge reads 1,024 in both roles and passes. -/
def scaleMem : Memory := [0x30000000 + 3 * 344, 0x30000000 + 3 * 472].foldl (fun m a =>
  m.write a (List.replicate 40 [0xA3#8, 0x0B#8, 0#8]).flatten) (Memory.write [] (scaleRam + 4) [0#8, 0x80#8, 0#8, 0x80#8])
/-- The tile record of tile 1, in format 1, with nothing else in it. -/
def rawTile : List Byte := [1#8, 1#8, 0#8, 2#8] ++ List.replicate 120 0#8 ++ leBytes 4 3563914443
/-- The frames of a report image of zeros. -/
def parts : List (List Byte) := List.replicate 120 0#8 :: List.replicate 15 (List.replicate 128 0#8) ++ [List.replicate 72 0#8]

theorem crc_fixed (n : Nat) : (List.replicate n 0#8).foldl crc32Byte 0#32 = 0#32 := by
  induction n with
  | zero => rfl
  | succ n ih => rw [List.replicate_succ, List.foldl_cons, show crc32Byte 0#32 0#8 = 0#32 by decide]; exact ih

theorem ctxImg_crc : crc32 (ctxImg.drop 0x40) = leAt ctxImg 0x00C 4 := by
  have h : ctxImg.drop 0x40 = [0xFF#8, 0xFF#8, 0xFF#8, 0xFF#8] ++ List.replicate 1980 0#8 := List.drop_left' (by decide +kernel)
  have e : leAt ctxImg 0x00C 4 = 0xFFFFFFFF := by decide +kernel
  rw [h, e, crc32, List.foldl_append, show [0xFF#8, 0xFF#8, 0xFF#8, 0xFF#8].foldl crc32Byte 0xFFFFFFFF#32 = 0#32 by decide +kernel, crc_fixed]
  decide

theorem far_byte (m : Memory) (lo hi : Nat) (x : Nat) (hm : m.all (fun c => c.1 < lo || hi ≤ c.1 || c.2 == 0#8) = true)
    (h1 : lo ≤ x) (h2 : x < hi) (h3 : hi ≤ ctxBase) : m.byte x = 0#8 := by
  induction m with
  | nil => unfold Memory.byte Memory.background; rw [if_neg (by omega)]; rfl
  | cons c m ih =>
    rw [List.all_cons, Bool.and_eq_true] at hm
    unfold Memory.byte
    split
    · rename_i e
      have := hm.1
      simp only [Bool.or_eq_true, decide_eq_true_eq, beq_iff_eq] at this
      rcases this with (h | h) | h
      · omega
      · omega
      · exact h
    · exact ih hm.2

theorem quiet1 (x : Nat) (h1 : 0x30061800 ≤ x) (h2 : x < 0x30061800 + 49152) (_ : x ≠ 0) (_ : x ≠ 0 + 1) :
    Memory.byte [(ctxBase + 0x2E2, 0#8), (ctxBase + 0x2EB, 0#8)] x = 0#8 :=
  far_byte _ _ _ x (by decide +kernel) h1 h2 (by decide)

theorem quiet2 (x : Nat) (h1 : 0x30061800 ≤ x) (h2 : x < 0x30061800 + 49152) (h3 : x ≠ 0x30061800 + 386) (h4 : x ≠ 0x30061800 + 386 + 1) :
    trackMem.byte x = 0#8 := by
  rcases Nat.lt_or_ge x (0x30061800 + 386) with h | h
  · exact far_byte _ 0x30061800 (0x30061800 + 386) x (by decide +kernel) h1 h (by decide)
  · exact far_byte _ (0x30061800 + 388) (0x30061800 + 49152) x (by decide +kernel) (by omega) h2 (by decide)

/-- Everything of a settings copy but its number and its CRC. -/
def setsMid : List Byte := 1#8 :: List.replicate 8183 0#8
def setsSealed (a : List Byte) (v : Nat) : List Byte := a ++ setsMid ++ leBytes 4 v
def setsImg : List Byte := setsSealed [7#8, 0#8, 0#8, 0#8] (crc32 (List.replicate 4 0#8 ++ setsMid))
def badSetsImg : List Byte := setsSealed [7#8, 0#8, 0#8, 0#8] ((crc32 (List.replicate 4 0#8 ++ setsMid) + 1) % 2 ^ 32)
def copyImg : List Byte := setsSealed [8#8, 0#8, 0#8, 0#8] (crc32 ([8#8, 0#8, 0#8, 0#8] ++ setsMid))

theorem crc_lt (b : List Byte) : crc32 b < 2 ^ 32 := BitVec.isLt _

theorem leNat_leBytes4 (v : Nat) (h : v < 2 ^ 32) : leNat (leBytes 4 v) = v := by
  simp only [leBytes, leNat, BitVec.toNat_ofNat]; omega

theorem setsMid_length : setsMid.length = 8184 := by rw [setsMid, List.length_cons, List.length_replicate]

theorem sealed_length (a : List Byte) (v : Nat) (ha : a.length = 4) : (setsSealed a v).length = 8192 := by
  rw [setsSealed, List.length_append, List.length_append, setsMid_length, ha]; rfl

theorem sealed_take (a : List Byte) (v : Nat) (ha : a.length = 4) : (setsSealed a v).take 0x1FFC = a ++ setsMid :=
  List.take_left' (by rw [List.length_append, setsMid_length, ha])

theorem sealed_mid (a : List Byte) (v : Nat) (ha : a.length = 4) : ((setsSealed a v).take 0x1FFC).drop 4 = setsMid := by
  rw [sealed_take a v ha]; exact List.drop_left' ha

theorem sealed_crc (a : List Byte) (v : Nat) (ha : a.length = 4) (hv : v < 2 ^ 32) : leAt (setsSealed a v) 0x1FFC 4 = v := by
  have h : (setsSealed a v).drop 0x1FFC = leBytes 4 v := List.drop_left' (by rw [List.length_append, setsMid_length, ha])
  rw [leAt, h]; exact leNat_leBytes4 v hv

theorem setsImg_length : setsImg.length = 8192 := sealed_length _ _ rfl
theorem badSetsImg_length : badSetsImg.length = 8192 := sealed_length _ _ rfl

theorem setsImg_good : crc32 (List.replicate 4 0#8 ++ (setsImg.take 0x1FFC).drop 4) = leAt setsImg 0x1FFC 4 := by
  rw [setsImg, sealed_mid _ _ rfl, sealed_crc _ _ rfl (crc_lt _)]

theorem badSetsImg_bad : ¬ crc32 (List.replicate 4 0#8 ++ (badSetsImg.take 0x1FFC).drop 4) = leAt badSetsImg 0x1FFC 4 := by
  rw [badSetsImg, sealed_mid _ _ rfl, sealed_crc _ _ rfl (Nat.mod_lt _ (by decide))]
  have := crc_lt (List.replicate 4 0#8 ++ setsMid)
  omega

theorem copyImg_is : copyImg.length = 0x2000 ∧ leAt copyImg 0 4 = 8 ∧
    (copyImg.take 0x1FFC).drop 4 = (setsImg.take 0x1FFC).drop 4 ∧ leAt copyImg 0x1FFC 4 = crc32 (copyImg.take 0x1FFC) := by
  refine ⟨sealed_length _ _ rfl, by decide, ?_, ?_⟩
  · rw [copyImg, setsImg, sealed_mid _ _ rfl, sealed_mid _ _ rfl]
  · rw [copyImg, sealed_take _ _ rfl, sealed_crc _ _ rfl (crc_lt _)]

theorem hdr_crc : crc32 ((padTo 256 hdrImg).take 0xFC) = 273079375 := by
  have h : (padTo 256 hdrImg).take 0xFC = (leBytes 4 0x4D534B54 ++ leBytes 2 1 ++ [1#8, 0#8] ++ leBytes 4 10 ++ leBytes 4 4 ++ leBytes 4 3057449933) ++
      (List.replicate 8 (List.replicate 29 0#8)).flatten := by decide +kernel
  rw [h, crc32, List.foldl_append, show (leBytes 4 0x4D534B54 ++ leBytes 2 1 ++ [1#8, 0#8] ++ leBytes 4 10 ++ leBytes 4 4 ++ leBytes 4 3057449933).foldl
    crc32Byte 0xFFFFFFFF#32 = 2349569840#32 by decide +kernel]
  simp only [List.replicate_succ (n := 7) (a := List.replicate 29 0#8), List.replicate_succ (a := List.replicate 29 0#8), List.replicate_zero, List.flatten_cons, List.flatten_nil, List.foldl_append, List.foldl_nil,
    show (List.replicate 29 0#8).foldl crc32Byte 2349569840#32 = 3387864417#32 by decide +kernel,
    show (List.replicate 29 0#8).foldl crc32Byte 3387864417#32 = 3919973559#32 by decide +kernel,
    show (List.replicate 29 0#8).foldl crc32Byte 3919973559#32 = 1898722937#32 by decide +kernel,
    show (List.replicate 29 0#8).foldl crc32Byte 1898722937#32 = 3665038905#32 by decide +kernel,
    show (List.replicate 29 0#8).foldl crc32Byte 3665038905#32 = 3367093326#32 by decide +kernel,
    show (List.replicate 29 0#8).foldl crc32Byte 3367093326#32 = 692789781#32 by decide +kernel,
    show (List.replicate 29 0#8).foldl crc32Byte 692789781#32 = 1763771564#32 by decide +kernel,
    show (List.replicate 29 0#8).foldl crc32Byte 1763771564#32 = 4021887920#32 by decide +kernel]
  decide

theorem hdr_ok : headerOk (padTo 256 hdrImg) = true := by
  unfold headerOk
  simp only [hdr_crc]
  decide +kernel

theorem rawTile_crc : crc32 ((padTo 128 rawTile).take 0x7C) = 3563914443 := by
  have h : (padTo 128 rawTile).take 0x7C = [1#8, 1#8, 0#8, 2#8] ++ (List.replicate 4 (List.replicate 30 0#8)).flatten := by decide +kernel
  rw [h, crc32, List.foldl_append, show [1#8, 1#8, 0#8, 2#8].foldl crc32Byte 0xFFFFFFFF#32 = 2311802013#32 by decide +kernel]
  simp only [List.replicate_succ (n := 3) (a := List.replicate 30 0#8), List.replicate_succ (a := List.replicate 30 0#8), List.replicate_zero,
    List.flatten_cons, List.flatten_nil, List.foldl_append, List.foldl_nil,
    show (List.replicate 30 0#8).foldl crc32Byte 2311802013#32 = 2972812210#32 by decide +kernel,
    show (List.replicate 30 0#8).foldl crc32Byte 2972812210#32 = 2926461438#32 by decide +kernel,
    show (List.replicate 30 0#8).foldl crc32Byte 2926461438#32 = 321086165#32 by decide +kernel,
    show (List.replicate 30 0#8).foldl crc32Byte 321086165#32 = 731052852#32 by decide +kernel]
  decide

theorem rawTile_ok : (tileRecOf rawTile).crcOk = true := by
  unfold tileRecOf
  simp only [rawTile_crc]
  decide +kernel

theorem witness_StepRunsTheFrontCommand :
    ∃ (s : State), s.pending = [] :=
  ⟨{ up with pending := [] }, by decide +kernel⟩

theorem witness_EveryStepKeepsMemoryCanonical :
    ∃ (s : State) (t : State), s.memOk ∧ step s = .next t :=
  ⟨up, up, by exact ⟨rfl, rfl⟩⟩

theorem witness_MemoryReadsWhatWasWritten :
    (∃ (m : Memory) (bs : List Byte) (i : Nat), m.wf = true ∧ i < bs.length) ∧
    (∃ (m : Memory) (a : Nat) (bs : List Byte) (x : Nat), m.wf = true ∧ (x < a ∨ a + bs.length ≤ x)) ∧
    (∃ (m : Memory) (n : Nat) (i : Nat), m.wf = true ∧ i < n) :=
  ⟨⟨[], [0#8], 0, by decide +kernel⟩,
   ⟨[], 1, [], 1, by decide +kernel⟩,
   ⟨[], 1, 0, by decide +kernel⟩⟩

theorem witness_ResetLeavesTheStatedValues :
    (∃ (n : Nat) (o : Nat), n < 8 ∧ o < 0x800) ∧
    (∃ (n : Nat), n < 320) ∧
    (∃ (n : Nat), n < 48) :=
  ⟨⟨1, 1, by decide +kernel⟩,
   ⟨1, by decide +kernel⟩,
   ⟨1, by decide +kernel⟩⟩

theorem witness_IntegerAndImmediateResults :
    (∃ (c : CoreId) (s : State), Runs c s) ∧
    (∃ (c : CoreId) (s : State), Runs c s) :=
  ⟨⟨.c0, up, by simp only [Runs, State.memOk]; decide +kernel⟩,
   ⟨.c0, up, by simp only [Runs, State.memOk]; decide +kernel⟩⟩

theorem witness_Q15GroupResults :
    ∃ (c : CoreId) (s : State), Runs c s :=
  ⟨.c0, up, by simp only [Runs, State.memOk]; decide +kernel⟩

theorem witness_LoadsAndStoresMoveTheirBytes :
    (∃ (c : CoreId) (gd : Reg) (gb : Reg) (m : AMode) (s : State), Runs c s ∧ loadOk gd gb m = true) ∧
    (∃ (c : CoreId) (s : State), Runs c s) :=
  ⟨⟨.c0, 1, 1, .disp 0, up, by simp only [Runs, State.memOk]; decide +kernel⟩,
   ⟨.c0, up, by simp only [Runs, State.memOk]; decide +kernel⟩⟩

theorem witness_BadAccessesRaiseTheirException :
    (∃ (c : CoreId) (g : Reg) (gb : Reg) (m : AMode) (s : State), let k := s.core c; let ea (n : Nat) := (k.ea gb n m).1; Runs c s ∧ (s.core c).exc = false ∧ (s.core c).slot = [] ∧ loadOk g gb m = true ∧ (ea 2).toNat % 2 = 1) ∧
    (∃ (c : CoreId) (g : Reg) (gb : Reg) (m : AMode) (s : State), let k := s.core c; let ea (n : Nat) := (k.ea gb n m).1; Runs c s ∧ (s.core c).exc = false ∧ (s.core c).slot = [] ∧ loadOk g gb m = true ∧ (ea 4).toNat % 4 ≠ 0) ∧
    (∃ (c : CoreId) (g : Reg) (gb : Reg) (m : AMode) (s : State), let k := s.core c; let nowhere (a n : Nat) : Prop := 0x10000 < a + n ∧ ¬(0x40000000 ≤ a ∧ a < 0x400A0000); let ea (n : Nat) := (k.ea gb n m).1; Runs c s ∧ (s.core c).exc = false ∧ (s.core c).slot = [] ∧ loadOk g gb m = true ∧ (ea 4).toNat % 4 = 0 ∧ nowhere (ea 4).toNat 4 ∧ ramReadable s c (ea 4).toNat 4 = false) ∧
    (∃ (c : CoreId) (gb : Reg) (m : AMode) (s : State), let k := s.core c; let ea (n : Nat) := (k.ea gb n m).1; Runs c s ∧ (s.core c).exc = false ∧ (s.core c).slot = [] ∧ (ea 4).toNat % 4 = 0 ∧ m = .preDec ∧ gb = 15 ∧ (ea 4).toNat < k.slimit.toNat) ∧
    (∃ (c : CoreId) (gb : Reg) (m : AMode) (s : State), let k := s.core c; let nowhere (a n : Nat) : Prop := 0x10000 < a + n ∧ ¬(0x40000000 ≤ a ∧ a < 0x400A0000); let ea (n : Nat) := (k.ea gb n m).1; Runs c s ∧ (s.core c).exc = false ∧ (s.core c).slot = [] ∧ (ea 4).toNat % 4 = 0 ∧ stackCheck k gb (ea 4) m = false ∧ nowhere (ea 4).toNat 4 ∧ ramWritable s c (ea 4).toNat 4 = false) ∧
    (∃ (c : CoreId) (s : State), s.canRun c = true ∧ fetchOk s c (s.core c).pc = false ∧ s.memOk ∧ (s.core c).exc = false ∧ (s.core c).slot = []) :=
  ⟨⟨.c0, 1, 1, .disp 0, { up with core0.exc := false, core0.slot := [], core0.g := (Vector.replicate 16 0).set 1 0x20000001#32 }, by simp only [Runs, State.memOk]; decide +kernel⟩,
   ⟨.c0, 1, 1, .disp 0, { up with core0.exc := false, core0.slot := [], core0.g := (Vector.replicate 16 0).set 1 0x20000002#32 }, by simp only [Runs, State.memOk]; decide +kernel⟩,
   ⟨.c0, 1, 1, .disp 0, { up with core0.exc := false, core0.slot := [], core0.g := (Vector.replicate 16 0).set 1 0x60000000#32 }, by simp only [Runs, State.memOk]; decide +kernel⟩,
   ⟨.c0, 15, .preDec, { up with core0.exc := false, core0.slot := [], core0.g := (Vector.replicate 16 0).set 15 0x20000100#32, core0.slimit := 0x20000100#32 }, by simp only [Runs, State.memOk]; decide +kernel⟩,
   ⟨.c0, 1, .disp 0, { up with core0.exc := false, core0.slot := [], core0.g := (Vector.replicate 16 0).set 1 0x60000000#32 }, by simp only [Runs, State.memOk]; decide +kernel⟩,
   ⟨.c0, { up with core0.exc := false, core0.slot := [], core0.pc := 0x60000000#32 }, by simp only [State.memOk]; decide +kernel⟩⟩

theorem witness_XchgSwapsInSharedRamOnly :
    (∃ (c : CoreId) (gb : Reg) (d : BitVec 16) (s : State), let k := s.core c; let ea := k.rd gb + d.signExtend 32; Runs c s ∧ ea.toNat % 4 = 0 ∧ 0x2001C000 ≤ ea.toNat ∧ ea.toNat < 0x20020000 ∧ s.badAt ea.toNat 4 = false) ∧
    (∃ (c : CoreId) (gb : Reg) (d : BitVec 16) (s : State), let k := s.core c; let ea := k.rd gb + d.signExtend 32; Runs c s ∧ ea.toNat % 4 = 0 ∧ k.exc = false ∧ k.slot = [] ∧ (¬(0x2001C000 ≤ ea.toNat ∧ ea.toNat < 0x20020000))) :=
  ⟨⟨.c0, 1, 0#16, { up with core0.g := (Vector.replicate 16 0).set 1 0x2001C000#32 }, by simp only [Runs, State.memOk]; decide +kernel⟩,
   ⟨.c0, 1, 0#16, { up with core0.exc := false, core0.slot := [], core0.g := (Vector.replicate 16 0).set 1 0x20020000#32 }, by simp only [Runs, State.memOk]; decide +kernel⟩⟩

theorem witness_AddressModesAndBuffers :
    (∃ (n : Nat), (n = 1 ∨ n = 2 ∨ n = 4)) ∧
    (∃ (k : Core) (gb : Reg) (ag : Fin 4) (st : BitVec 8) (n : Nat), let b := (k.agBase.get ag).toNat; let len := k.agLen.get ag; let x := (k.rd gb).toNat; (n = 1 ∨ n = 2 ∨ n = 4) ∧ k.agMode.get ag = 1 ∧ 0 < len ∧ b + len ≤ 2 ^ 32 ∧ b ≤ x ∧ x < b + len ∧ (st.toInt * n).natAbs ≤ len) :=
  ⟨⟨1, by decide +kernel⟩,
   ⟨{ agMode := (Vector.replicate 4 0).set 0 1, agLen := (Vector.replicate 4 0).set 0 1 }, 1, 0, 1#8, 1, by decide +kernel⟩⟩

theorem witness_BranchesJumpsCallsAndReturns :
    (∃ (c : CoreId) (s : State), Runs c s ∧ (s.core c).slot = [] ∧ (s.core c).pc.toNat % 4 = 0) ∧
    (∃ (c : CoreId) (ga : Reg) (s : State), let k := s.core c; Runs c s ∧ (s.core c).slot = [] ∧ (s.core c).pc.toNat % 4 = 0 ∧ (k.rd ga).toNat % 4 = 0) ∧
    (∃ (c : CoreId) (ga : Reg) (s : State), let k := s.core c; Runs c s ∧ (s.core c).slot = [] ∧ (s.core c).pc.toNat % 4 = 0 ∧ k.exc = false ∧ (k.rd ga).toNat % 4 ≠ 0) ∧
    (∃ (c : CoreId) (s : State), let k := s.core c; let sp := k.rd 15; Runs c s ∧ (s.core c).slot = [] ∧ (s.core c).pc.toNat % 4 = 0 ∧ k.exc = false ∧ sp.toNat % 4 = 0 ∧ (sp - 4#32).toNat < k.slimit.toNat) ∧
    (∃ (c : CoreId) (s : State), let k := s.core c; let sp := k.rd 15; let ra := BitVec.ofNat 32 (spelled s.mem sp.toNat 4); Runs c s ∧ (s.core c).slot = [] ∧ sp.toNat % 4 = 0 ∧ ra.toNat % 4 = 0 ∧ ramReadable s c sp.toNat 4 = true ∧ s.quick sp.toNat 4) ∧
    (∃ (c : CoreId) (s : State), let k := s.core c; let sp := k.rd 15; let ra := BitVec.ofNat 32 (spelled s.mem sp.toNat 4); let st := spelled s.mem (sp.toNat + 4) 4; Runs c s ∧ (s.core c).slot = [] ∧ sp.toNat % 4 = 0 ∧ ra.toNat % 4 = 0 ∧ ramReadable s c sp.toNat 8 = true ∧ s.quick sp.toNat 8 ∧ s.chainSource c (st / 16 % 16) = none) :=
  ⟨⟨.c0, { up with core0.slot := [] }, by simp only [Runs, State.memOk]; decide +kernel⟩,
   ⟨.c0, 1, { up with core0.slot := [] }, by simp only [Runs, State.memOk]; decide +kernel⟩,
   ⟨.c0, 1, { up with core0.slot := [], core0.exc := false, core0.g := (Vector.replicate 16 0).set 1 2#32 }, by simp only [Runs, State.memOk]; decide +kernel⟩,
   ⟨.c0, { up with core0.slot := [], core0.exc := false, core0.g := (Vector.replicate 16 0).set 15 0x20000100#32, core0.slimit := 0x20000100#32 }, by simp only [Runs, State.memOk]; decide +kernel⟩,
   ⟨.c0, { up with core0.slot := [], core0.g := (Vector.replicate 16 0).set 15 0x20000100#32 }, by simp only [Runs, State.quick, State.memOk]; decide +kernel⟩,
   ⟨.c0, { up with core0.slot := [], core0.g := (Vector.replicate 16 0).set 15 0x20000100#32 }, by simp only [Runs, State.quick, State.memOk]; decide +kernel⟩⟩

theorem witness_SystemRegistersReadAndWrite :
    (∃ (c : CoreId) (s : State) (n : Nat), Runs c s ∧ (11 ≤ n ∧ n < 16 ∨ 28 ≤ n ∧ n < 1024)) ∧
    (∃ (c : CoreId) (ga : Reg) (s : State), let k := s.core c; let v := k.rd ga; Runs c s ∧ (k.slot = [] ∨ k.brm = false ∨ v.getLsbD 1 = true)) ∧
    (∃ (c : CoreId) (ga : Reg) (s : State), let k := s.core c; let v := k.rd ga; Runs c s ∧ v.toNat % 4 ≠ 3) ∧
    (∃ (c : CoreId) (ga : Reg) (s : State), let k := s.core c; let v := k.rd ga; Runs c s ∧ v.toNat % 4 = 3) :=
  ⟨⟨.c0, up, 11, by simp only [Runs, State.memOk]; decide +kernel⟩,
   ⟨.c0, 1, up, by simp only [Runs, State.memOk]; decide +kernel⟩,
   ⟨.c0, 1, up, by simp only [Runs, State.memOk]; decide +kernel⟩,
   ⟨.c0, 1, { up with core0.g := (Vector.replicate 16 0).set 1 3#32 }, by simp only [Runs, State.memOk]; decide +kernel⟩⟩

theorem witness_ExceptionsAreTakenAndReturnedFrom :
    (∃ (c : CoreId) (s : State), Runs c s ∧ (s.core c).slot = [] ∧ (s.core c).exc = false) ∧
    (∃ (c : CoreId) (s : State), let k := s.core c; let e := k.estatus.toNat; Runs c s ∧ (s.core c).slot = [] ∧ k.epc.toNat % 4 = 0 ∧ e / 8 % 2 = 0) ∧
    (∃ (c : CoreId) (s : State), let k := s.core c; Runs c s ∧ (s.core c).slot = [] ∧ k.exc = false ∧ k.epc.toNat % 4 ≠ 0) :=
  ⟨⟨.c0, { up with core0.slot := [], core0.exc := false }, by simp only [Runs, State.memOk]; decide +kernel⟩,
   ⟨.c0, { up with core0.slot := [] }, by simp only [Runs, State.memOk]; decide +kernel⟩,
   ⟨.c0, { up with core0.slot := [], core0.exc := false, core0.epc := 2#32 }, by simp only [Runs, State.memOk]; decide +kernel⟩⟩

theorem witness_DelaySlotExceptionsResume :
    ∃ (c : CoreId) (s : State) (target : Word), Runs c s ∧ (s.core c).slot = [target] ∧ (s.core c).exc = false ∧ (s.core c).brm = false ∧ (s.core c).pc.toNat % 4 = 0 :=
  ⟨.c0, { up with core0.slot := [0#32], core0.exc := false, core0.brm := false }, 0#32, by simp only [Runs, State.memOk]; decide +kernel⟩

theorem witness_DoubleFaultsTrapOrHalt :
    (∃ (s : State), Runs .c0 s ∧ s.core0.slot = [] ∧ s.core0.exc = true) ∧
    (∃ (s : State), Runs .c1 s ∧ s.core1.slot = [] ∧ s.core1.exc = true) :=
  ⟨⟨{ up with core0.slot := [], core0.exc := true }, by simp only [Runs, State.memOk]; decide +kernel⟩,
   ⟨{ up with core1.slot := [], core1.exc := true }, by simp only [Runs, State.memOk]; decide +kernel⟩⟩

theorem witness_WaitSleepsUntilDeliverable :
    (∃ (c : CoreId) (s : State), Runs c s ∧ (s.core c).slot = []) ∧
    (∃ (c : CoreId) (s : State), s.clk.core = true ∧ s.memOk ∧ (s.core c).waiting = true ∧ (s.deliverable c).isSome = true) :=
  ⟨⟨.c0, { up with core0.slot := [] }, by simp only [Runs, State.memOk]; decide +kernel⟩,
   ⟨.c0, { up with clk.core := true, core0.waiting := true, icu.src := State.reset.icu.src.set 2 { pend := true, prio := 1 } }, by simp only [State.memOk]; decide +kernel⟩⟩

theorem witness_StringsRunElementByElement :
    (∃ (c : CoreId) (stride : BitVec 4) (size : BitVec 2) (s : State) (m : Nat), let k := s.core c; let z : Nat := 2 ^ size.toNat; let n := (k.rd 3).toNat; let at' (p : Word) (i : Nat) : Word := p + BitVec.ofInt 32 (stride.toInt * z * i); let readable (p : Word) : Prop := ∀ i, i < n → (at' p i).toNat % z = 0 ∧ ramReadable s c (at' p i).toNat z = true ∧ s.quick (at' p i).toNat z; let writable (p : Word) : Prop := ∀ i, i < n → (at' p i).toNat % z = 0 ∧ ramWritable s c (at' p i).toNat z = true ∧ s.quick (at' p i).toNat z; Runs c s ∧ (s.core c).slot = [] ∧ stride ≠ 0#4 ∧ size.toNat < 3 ∧ 0 < n ∧ readable (k.rd 1) ∧ writable (k.rd 2) ∧ 0 < m ∧ m < n) ∧
    (∃ (c : CoreId) (ga : Reg) (stride : BitVec 4) (size : BitVec 2) (s : State) (m : Nat), let k := s.core c; let z : Nat := 2 ^ size.toNat; let n := (k.rd 3).toNat; let at' (p : Word) (i : Nat) : Word := p + BitVec.ofInt 32 (stride.toInt * z * i); let writable (p : Word) : Prop := ∀ i, i < n → (at' p i).toNat % z = 0 ∧ ramWritable s c (at' p i).toNat z = true ∧ s.quick (at' p i).toNat z; Runs c s ∧ (s.core c).slot = [] ∧ stride ≠ 0#4 ∧ size.toNat < 3 ∧ 0 < n ∧ ga ≠ 2 ∧ ga ≠ 3 ∧ writable (k.rd 2) ∧ 0 < m ∧ m < n) ∧
    (∃ (c : CoreId) (stride : BitVec 4) (cond : BitVec 2) (size : BitVec 2) (j : Nat) (s : State), let k := s.core c; let z : Nat := 2 ^ size.toNat; let n := (k.rd 3).toNat; let at' (p : Word) (i : Nat) : Word := p + BitVec.ofInt 32 (stride.toInt * z * i); let readable (p : Word) : Prop := ∀ i, i < n → (at' p i).toNat % z = 0 ∧ ramReadable s c (at' p i).toNat z = true ∧ s.quick (at' p i).toNat z; let val (p : Word) (i : Nat) : Nat := s.mem.le (at' p i).toNat z; let meets (e p : Nat) : Prop := (cond = 0#2 ∧ e = p) ∨ (cond = 1#2 ∧ e ≠ p) ∨ (cond = 2#2 ∧ e < p) ∨ (cond = 3#2 ∧ p ≤ e); Runs c s ∧ (s.core c).slot = [] ∧ stride ≠ 0#4 ∧ size.toNat < 3 ∧ 0 < n ∧ j ≤ n ∧ readable (k.rd 1) ∧ readable (k.rd 2) ∧ ((∀ i, i < j → ¬meets (val (k.rd 1) i) (val (k.rd 2) i))) ∧ ((j < n → meets (val (k.rd 1) j) (val (k.rd 2) j)))) ∧
    (∃ (c : CoreId) (ga : Reg) (stride : BitVec 4) (cond : BitVec 2) (size : BitVec 2) (j : Nat) (s : State), let k := s.core c; let z : Nat := 2 ^ size.toNat; let n := (k.rd 3).toNat; let at' (p : Word) (i : Nat) : Word := p + BitVec.ofInt 32 (stride.toInt * z * i); let readable (p : Word) : Prop := ∀ i, i < n → (at' p i).toNat % z = 0 ∧ ramReadable s c (at' p i).toNat z = true ∧ s.quick (at' p i).toNat z; let val (p : Word) (i : Nat) : Nat := s.mem.le (at' p i).toNat z; let meets (e p : Nat) : Prop := (cond = 0#2 ∧ e = p) ∨ (cond = 1#2 ∧ e ≠ p) ∨ (cond = 2#2 ∧ e < p) ∨ (cond = 3#2 ∧ p ≤ e); Runs c s ∧ (s.core c).slot = [] ∧ stride ≠ 0#4 ∧ size.toNat < 3 ∧ 0 < n ∧ j ≤ n ∧ ga ≠ 1 ∧ ga ≠ 3 ∧ readable (k.rd 1) ∧ ((∀ i, i < j → ¬meets (val (k.rd 1) i) ((k.rd ga).toNat % 2 ^ (8 * z)))) ∧ ((j < n → meets (val (k.rd 1) j) ((k.rd ga).toNat % 2 ^ (8 * z))))) :=
  ⟨⟨.c0, 1#4, 1#2, { up with core0.slot := [], core0.g := (((Vector.replicate 16 0).set 1 0x20000000#32).set 2 0x20000100#32).set 3 2#32 }, 1, by simp only [Runs, State.quick, State.memOk]; decide +kernel⟩,
   ⟨.c0, 4, 1#4, 1#2, { up with core0.slot := [], core0.g := (((Vector.replicate 16 0).set 1 0x20000000#32).set 2 0x20000100#32).set 3 2#32 }, 1, by simp only [Runs, State.quick, State.memOk]; decide +kernel⟩,
   ⟨.c0, 1#4, 1#2, 1#2, 1, { up with core0.slot := [], core0.g := (((Vector.replicate 16 0).set 1 0x20000000#32).set 2 0x20000100#32).set 3 1#32 }, by simp only [Runs, State.quick, State.memOk]; exact ⟨by decide +kernel, by decide +kernel, by decide, by decide, by decide +kernel, by decide +kernel, by decide +kernel, by decide +kernel, by decide +kernel, by decide +kernel⟩⟩,
   ⟨.c0, 4, 1#4, 1#2, 1#2, 1, { up with core0.slot := [], core0.g := (((Vector.replicate 16 0).set 1 0x20000000#32).set 2 0x20000100#32).set 3 1#32 }, by simp only [Runs, State.quick, State.memOk]; decide +kernel⟩⟩

theorem witness_InterruptEntryPushesItsFrame :
    ∃ (c : CoreId) (n : Nat) (s : State), let k := s.core c; let sp := k.g.get 15; s.takesInterrupt c = true ∧ s.memOk ∧ s.deliverable c = some n ∧ sp.toNat % 4 = 0 ∧ 8 ≤ sp.toNat ∧ k.slimit.toNat ≤ (sp - 8#32).toNat ∧ ramWritable s c (sp - 8#32).toNat 4 = true ∧ ramWritable s c (sp - 4#32).toNat 4 = true ∧ aonAccess (sp - 8#32).toNat = false ∧ aonAccess (sp - 4#32).toNat = false :=
  ⟨.c0, 2, { up with icu.src := State.reset.icu.src.set 2 { pend := true, prio := 1 }, core0.ie := true, core0.g := (Vector.replicate 16 0).set 15 0x20000100#32 }, by simp only [State.memOk]; decide +kernel⟩

theorem witness_ReservedFormsStop :
    (∃ (w : Word), w.toNat / 2 ^ 26 ∉ [0x00, 0x01, 0x02, 0x04, 0x05, 0x06, 0x07, 0x08, 0x09, 0x0A, 0x0B, 0x10, 0x11, 0x12, 0x13, 0x14, 0x16, 0x18, 0x19, 0x1A, 0x20, 0x21, 0x22, 0x23, 0x24, 0x25, 0x26, 0x28, 0x29, 0x2C]) ∧
    (∃ (i : Instr) (c : CoreId) (gd : Reg) (gb : Reg) (ga : Reg) (m : AMode) (p : Bool) (cond : BitVec 4) (stride : BitVec 4) (cmp : BitVec 2) (size : BitVec 2) (off : BitVec 18) (upto : Option Nat) (s : State), s.canRun c = true ∧ fetchOk s c (s.core c).pc = true ∧ s.fetchBad c = false ∧ i.wf = false ∧ i ∈ [.ldb c gd gb m p, .ldbu c gd gb m p, .ldh c gd gb m p, .ldhu c gd gb m p, .ldw c gd gb m p, .brz c ga cond off, .scopy c stride size p upto, .sfill c ga stride size upto, .smatch c stride cmp size p upto, .sseek c ga stride cmp size p upto]) ∧
    (∃ (i : Instr) (c : CoreId) (ga : Reg) (gb : Reg) (p : Bool) (cond : BitVec 4) (stride : BitVec 4) (cmp : BitVec 2) (size : BitVec 2) (off18 : BitVec 18) (off26 : BitVec 26) (imm : BitVec 10) (upto : Option Nat) (s : State), s.canRun c = true ∧ fetchOk s c (s.core c).pc = true ∧ s.fetchBad c = false ∧ (s.core c).slot ≠ [] ∧ ((i ∈ [.brEq c ga gb off18, .brNe c ga gb off18, .brLt c ga gb off18, .brGe c ga gb off18, .brLo c ga gb off18, .brHs c ga gb off18, .jmp c off26, .jr c ga, .call c off26, .callr c ga, .ret c p, .reti c p, .eret c, .wait c] ∨ (i.wf = true ∧ i = .brz c ga cond off18) ∨ ((s.core c).brm = true ∧ (i ∈ [.brk c, .trap c imm] ∨ (i = .mts c ga 1#10 ∧ ((s.core c).rd ga).getLsbD 1 = false) ∨ (i.wf = true ∧ i ∈ [.scopy c stride size p upto, .sfill c ga stride size upto, .smatch c stride cmp size p upto, .sseek c ga stride cmp size p upto])))))) :=
  ⟨⟨0x0C000000#32, by decide +kernel⟩,
   ⟨.sfill .c0 1 0#4 1#2 none, .c0, 1, 1, 1, .disp 0, true, 1#4, 0#4, 1#2, 1#2, 1#18, none, up, by decide +kernel⟩,
   ⟨.jmp .c0 1#26, .c0, 1, 1, true, 1#4, 1#4, 1#2, 1#2, 1#18, 1#26, 1#10, none, { up with core0.slot := [0#32] }, by decide +kernel⟩⟩

theorem witness_BringUpStartsCore0OrFails :
    (∃ (i : Instr), (i = .pornAssert ∨ i = .vdd33Undervoltage)) ∧
    (∃ (f : StepFails) (s : State), s.boot.phase = .held ∧ s.pwr.state ≠ .dormant ∧ f.xtal < 4 ∧ f.ldo < 4 ∧ f.pll < 4) ∧
    (∃ (f : StepFails) (s : State), s.boot.phase = .held ∧ s.pwr.state ≠ .dormant ∧ 4 ≤ f.xtal) ∧
    (∃ (f : StepFails) (s : State), s.boot.phase = .failed ∧ f.xtal < 4 ∧ f.ldo < 4 ∧ f.pll < 4) ∧
    (∃ (s : State), s.memOk) :=
  ⟨⟨.pornAssert, by decide +kernel⟩,
   ⟨⟨0, 0, 0⟩, { up with boot.phase := .held }, by decide +kernel⟩,
   ⟨⟨0, 4, 0⟩, { up with boot.phase := .held }, by decide +kernel⟩,
   ⟨⟨0, 0, 0⟩, { up with boot.phase := .failed }, by decide +kernel⟩,
   ⟨up, by simp only [State.memOk]; decide +kernel⟩⟩

theorem witness_ResetCausesRestartTheTile :
    (∃ (key : Nat) (s : State), s.hostReach = true ∧ key % 256 = 0xC5) ∧
    (∃ (key : Nat) (s : State), s.hostReach = true ∧ key % 256 ≠ 0xC5 ∧ s.memOk) ∧
    (∃ (f : StepFails) (s : State), s.clk.pllLock = true ∧ f.pll < 4) ∧
    (∃ (f : StepFails) (s : State), s.clk.pllLock = true ∧ 4 ≤ f.pll) ∧
    (∃ (s : State), s.pwr.state = .drone) ∧
    (∃ (s : State), s.tmr.wdEn = true ∧ s.clk.core = true ∧ s.tmr.stage = 0) ∧
    (∃ (s : State), s.tmr.wdEn = true ∧ s.clk.core = true ∧ s.tmr.stage = 1) ∧
    (∃ (s : State), s.tmr.wdEn = true ∧ s.clk.core = true ∧ 2 ≤ s.tmr.stage) :=
  ⟨⟨0xC5, up, by decide +kernel⟩,
   ⟨1, up, by simp only [State.memOk]; decide +kernel⟩,
   ⟨⟨0, 0, 0⟩, { up with clk.pllLock := true }, by decide +kernel⟩,
   ⟨⟨0, 0, 4⟩, { up with clk.pllLock := true }, by decide +kernel⟩,
   ⟨{ up with pwr.state := .drone }, by decide +kernel⟩,
   ⟨{ up with tmr.wdEn := true, clk.core := true, tmr.stage := 0 }, by decide +kernel⟩,
   ⟨{ up with tmr.wdEn := true, clk.core := true, tmr.stage := 1 }, by decide +kernel⟩,
   ⟨{ up with tmr.wdEn := true, clk.core := true, tmr.stage := 2 }, by decide +kernel⟩⟩

theorem witness_LinkResetsAndStateChanges :
    (∃ (s : State), s.hostSide = true ∧ s.clk.host = true ∧ s.pwr.awaitL2 = false) ∧
    (∃ (s : State), s.hostSide = true ∧ s.host.perst = true) ∧
    (∃ (s : State) (gen : Nat) (width : Nat), s.hostSide = true ∧ s.clk.host = true ∧ s.memOk ∧ s.host.perst = false ∧ 1 ≤ gen ∧ gen ≤ 3 ∧ (width = 1 ∨ width = 2) ∧ s.host.link = .training) ∧
    (∃ (s : State) (d : DState), s.hostSide = true ∧ s.clk.host = true ∧ d ≠ s.host.dstate) ∧
    (∃ (s : State) (l : LinkState), s.hostSide = true ∧ s.clk.host = true ∧ s.host.link = .l0 ∧ (l = .l1 ∨ l = .l1_2)) ∧
    (∃ (s : State), s.hostSide = true ∧ s.rings.reads = [.doorbell] ∧ s.otherTags < 32) :=
  ⟨⟨{ up with clk.host := true, pwr.awaitL2 := false }, by decide +kernel⟩,
   ⟨{ up with host.perst := true }, by decide +kernel⟩,
   ⟨{ up with clk.host := true, host.perst := false, host.link := .training }, 1, 1, by simp only [State.memOk]; decide +kernel⟩,
   ⟨{ up with clk.host := true }, .d3hot, by decide +kernel⟩,
   ⟨{ up with clk.host := true, host.link := .l0 }, .l1, by decide +kernel⟩,
   ⟨{ up with rings.reads := [.doorbell] }, by decide +kernel⟩⟩

theorem witness_HostReadsReturnTheirRegisters :
    (∃ (size : Nat) (s : State), size ≤ 8 ∧ s.hostReach = false) ∧
    (∃ (size : Nat) (s : State), size ≤ 8 ∧ s.hostReach = true ∧ s.clk.core = false) :=
  ⟨⟨1, { up with host.dstate := .d3hot }, by decide +kernel⟩,
   ⟨1, { up with clk.core := false }, by decide +kernel⟩⟩

theorem witness_HostWritesObeyTheirRules :
    (∃ (s : State) (off : Nat) (size : Nat), s.hostReach = true ∧ s.memOk ∧ off < 0x80 ∧ (¬((size = 4 ∨ size = 8) ∧ off % 4 = 0))) ∧
    (∃ (s : State), s.hostReach = true ∧ s.memOk ∧ s.clk.core = false) ∧
    (∃ (s : State), s.hostReach = true ∧ s.memOk ∧ s.rings.en = false ∧ s.rings.act = false) ∧
    (∃ (s : State), s.hostReach = true ∧ s.memOk ∧ s.rings.act = true) ∧
    (∃ (s : State) (st : Nat), s.hostReach = true ∧ st < 4 ∧ s.pwr.busy = false) ∧
    (∃ (s : State) (st : Nat), s.hostReach = true ∧ st < 4 ∧ s.pwr.busy = true) ∧
    (∃ (s : State) (st : Nat), s.hostReach = true ∧ 4 ≤ st ∧ st < 8) ∧
    (∃ (s : State), s.hostReach = true ∧ s.clk.core = true ∧ s.pwr.limp = false) ∧
    (∃ (s : State) (tile : Nat) (item : Nat), s.hostReach = true ∧ s.memOk ∧ s.host.diagBusy = true ∧ s.host.diagTile = tile ∧ s.host.diagItem = item ∧ s.crl.inbox = []) ∧
    (∃ (s : State), s.hostReach = true ∧ s.host.vecs.length = 16 ∧ s.dmaOk = true ∧ s.host.cfg.msixEn = true ∧ s.host.cfg.msixMask = false) :=
  ⟨⟨up, 1, 1, by simp only [State.memOk]; decide +kernel⟩,
   ⟨{ up with clk.core := false }, by simp only [State.memOk]; decide +kernel⟩,
   ⟨{ up with rings.en := false, rings.act := false }, by simp only [State.memOk]; decide +kernel⟩,
   ⟨{ up with rings.act := true }, by simp only [State.memOk]; decide +kernel⟩,
   ⟨{ up with pwr.busy := false }, 1, by decide +kernel⟩,
   ⟨{ up with pwr.busy := true }, 1, by decide +kernel⟩,
   ⟨up, 4, by decide +kernel⟩,
   ⟨{ up with clk.core := true, pwr.limp := false }, by decide +kernel⟩,
   ⟨{ up with host.diagBusy := true, host.diagTile := 1, host.diagItem := 1, crl.inbox := [] }, 1, 1, by simp only [State.memOk]; decide +kernel⟩,
   ⟨{ up with host.cfg.msixEn := true, host.cfg.msixMask := false }, by decide +kernel⟩⟩

theorem witness_RingsStartAndStop :
    (∃ (s : State) (b : List Byte), s.rings.tableValid = false ∧ s.hostReach = true ∧ s.hostDomOn 2 = true ∧ s.boot.ready = true ∧ s.rings.en = false ∧ s.rings.act = false ∧ s.dmaOk = true ∧ tableOk s b = true) ∧
    (∃ (s : State) (b : List Byte), s.rings.tableValid = false ∧ s.hostReach = true ∧ s.hostDomOn 2 = true ∧ s.boot.ready = true ∧ s.rings.en = false ∧ s.rings.act = false ∧ s.dmaOk = true ∧ tableOk s b = false) ∧
    (∃ (s : State), s.rings.tableValid = false ∧ s.hostReach = true ∧ s.hostDomOn 2 = true ∧ s.boot.ready = true ∧ s.rings.en = false ∧ s.rings.act = false ∧ s.dmaOk = false ∧ s.memOk) ∧
    (∃ (s : State) (b : List Byte), s.rings.tableValid = false ∧ s.rings.startPending = true ∧ s.dmaOk = true ∧ s.rings.en = true ∧ tableOk s b = true) ∧
    (∃ (s : State) (b : List Byte), s.rings.tableValid = false ∧ s.rings.reads = [.ringTable] ∧ s.otherTags < 32 ∧ s.rings.en = true ∧ tableOk s b = true) ∧
    (∃ (s : State), s.rings.tableValid = false ∧ s.rings.draining = true ∧ s.memOk) :=
  ⟨⟨{ up with rings.tableValid := false, boot.ready := true, rings.en := false, rings.act := false }, tableImg, by decide +kernel⟩,
   ⟨{ up with rings.tableValid := false, boot.ready := true, rings.en := false, rings.act := false }, [], by decide +kernel⟩,
   ⟨{ up with rings.tableValid := false, boot.ready := true, rings.en := false, rings.act := false, host.bme := false }, by simp only [State.memOk]; decide +kernel⟩,
   ⟨{ up with rings.tableValid := false, rings.startPending := true, rings.en := true }, tableImg, by decide +kernel⟩,
   ⟨{ up with rings.tableValid := false, rings.reads := [.ringTable], rings.en := true }, tableImg, by decide +kernel⟩,
   ⟨{ up with rings.tableValid := false, rings.draining := true }, by simp only [State.memOk]; decide +kernel⟩⟩

theorem witness_PollsAndFetchesFillTheJournal :
    (∃ (s : State), s.ringsOk = true ∧ s.memOk ∧ ReadReq.doorbell ∉ s.rings.reads ∧ s.host.interval ≠ 0 ∧ s.pwr.state = .active) ∧
    (∃ (s : State), s.ringsOk = true ∧ s.memOk ∧ ReadReq.doorbell ∉ s.rings.reads ∧ s.rpt.hold ≠ []) ∧
    (∃ (s : State), s.ringsOk = true ∧ s.memOk ∧ ReadReq.doorbell ∉ s.rings.reads ∧ s.hostReach = true) ∧
    (∃ (s : State), s.ringsOk = true ∧ s.memOk ∧ ReadReq.doorbell ∈ s.rings.reads ∧ s.hostReach = true) ∧
    (∃ (s : State) (cmdPi : Nat) (strPi : Nat) (cplCi : Nat) (rptCi : Nat) (evtCi : Nat), s.ringsOk = true ∧ s.memOk ∧ s.rings.reads = [.doorbell] ∧ s.rings.pollAgain = false ∧ s.otherTags < 32 ∧ cmdPi < 2 ^ 32 ∧ strPi < 2 ^ 32 ∧ cplCi < 2 ^ 32 ∧ rptCi < 2 ^ 32 ∧ evtCi < 2 ^ 32) ∧
    (∃ (s : State) (b : List Byte), s.ringsOk = true ∧ s.memOk ∧ 0 < s.fetchable ∧ s.fetching = false ∧ s.readOk = true ∧ b.length = 32 * s.fetchable) :=
  ⟨⟨{ up with pwr.state := .active }, by simp only [State.memOk]; decide +kernel⟩,
   ⟨{ up with rpt.hold := [ri0] }, by simp only [State.memOk]; decide +kernel⟩,
   ⟨up, by simp only [State.memOk]; decide +kernel⟩,
   ⟨{ up with rings.reads := [.doorbell] }, by simp only [State.memOk]; decide +kernel⟩,
   ⟨{ up with rings.reads := [.doorbell], rings.pollAgain := false }, 1, 1, 1, 1, 1, by simp only [State.memOk]; decide +kernel⟩,
   ⟨{ up with rings.cmdPi := 1 }, List.replicate 32 0#8, by simp only [State.memOk]; decide +kernel⟩⟩

theorem witness_CommandsCompleteThroughTheJournal :
    (∃ (j : Nat) (e : JEntry) (s : State), Ready 0x00 j e s) ∧
    (∃ (j : Nat) (e : JEntry) (s : State), Ready 0x01 j e s ∧ s.ringsOk = true ∧ earlierPosted s j = true ∧ s.flushOk = true ∧ s.host.relaxed = true) ∧
    (∃ (j : Nat) (e : JEntry) (s : State), Ready 0x01 j e s ∧ s.ringsOk = true ∧ earlierPosted s j = true ∧ s.flushOk = true ∧ s.host.relaxed = false) ∧
    (∃ (j : Nat) (e : JEntry) (s : State), s.entry j = some e ∧ e.wait = .fence ∧ e.stage = .issued) ∧
    (∃ (j : Nat) (e : JEntry) (s : State), s.entry j = some e ∧ e.stage = .applied ∧ e.wait = .start ∧ s.ringsOk = true ∧ s.fwRuns = true ∧ later s.rings.cplCi e.cpl = false ∧ ((e.d.dfence = false ∨ s.host.relaxed = false ∨ e.flushed = true)) ∧ e.ctile < 64) ∧
    (∃ (j : Nat) (tile : Nat) (e : JEntry) (s : State), s.entry j = some e ∧ e.stage = .issued ∧ tile ≠ 0 ∧ e.tiles = [tile] ∧ s.isOnline tile = true ∧ ((opInfo e.d.opcode).map (·.idem)) = some true ∧ tile ∉ e.resent) ∧
    (∃ (j : Nat) (tile : Nat) (e : JEntry) (s : State), s.entry j = some e ∧ e.stage = .issued ∧ tile ≠ 0 ∧ e.tiles = [tile] ∧ s.isOnline tile = true ∧ (((opInfo e.d.opcode).map (·.idem)) = some false ∨ tile ∈ e.resent) ∧ e.code = 0) :=
  ⟨⟨1, { je with cmd := 1, d.opcode := 0x00 }, { up with jrn := [{ je with cmd := 1, d.opcode := 0x00 }], crl.online := [1] }, by simp only [Ready]; decide +kernel⟩,
   ⟨1, { je with cmd := 1, d.opcode := 0x01 }, { up with jrn := [{ je with cmd := 1, d.opcode := 0x01 }], host.relaxed := true, crl.online := [1] }, by simp only [Ready]; decide +kernel⟩,
   ⟨1, { je with cmd := 1, d.opcode := 0x01 }, { up with jrn := [{ je with cmd := 1, d.opcode := 0x01 }], host.relaxed := false, crl.online := [1] }, by simp only [Ready]; decide +kernel⟩,
   ⟨1, { je with cmd := 1, wait := .fence, stage := .issued }, { up with jrn := [{ je with cmd := 1, wait := .fence, stage := .issued }], crl.online := [1] }, by decide +kernel⟩,
   ⟨1, { je with cmd := 1, stage := .applied, wait := .start }, { up with jrn := [{ je with cmd := 1, stage := .applied, wait := .start }], crl.online := [1] }, by simp only [Runs, State.memOk]; decide +kernel⟩,
   ⟨1, 1, { je with d.opcode := 0x13, tiles := [1] }, { up with jrn := [{ je with d.opcode := 0x13, tiles := [1] }], crl.online := [1] }, by decide +kernel⟩,
   ⟨1, 1, { je with d.opcode := 0x11, tiles := [1] }, { up with jrn := [{ je with d.opcode := 0x11, tiles := [1] }], crl.online := [1] }, by decide +kernel⟩⟩

theorem witness_RecordsAndDmaLeaveInOrder :
    (∃ (s : State), s.ringsOk = true ∧ s.rings.dirty = true) ∧
    (∃ (s : State), s.ringsOk = true ∧ s.pwr.state = .drone) ∧
    (∃ (s : State) (e : Ev), s.ringsOk = true ∧ s.evt.buf[s.evt.written]? = some e ∧ s.evt.seq < 65536 ∧ s.fwRuns = true ∧ diff32 s.rings.evtPi s.rings.evtCi < 2 ^ s.rings.evt.log2n) ∧
    (∃ (s : State) (e : Ev), s.ringsOk = true ∧ s.evt.buf[s.evt.written]? = some e ∧ s.evt.seq < 65536 ∧ s.fwRuns = true ∧ s.memOk ∧ 2 ^ s.rings.evt.log2n ≤ diff32 s.rings.evtPi s.rings.evtCi ∧ ReadReq.doorbell ∉ s.rings.reads) ∧
    (∃ (s : State) (e : Ev), s.ringsOk = true ∧ s.evt.buf[s.evt.written]? = some e ∧ s.evt.seq < 65536 ∧ s.fwRuns = true ∧ s.memOk ∧ 2 ^ s.rings.evt.log2n ≤ diff32 s.rings.evtPi s.rings.evtCi ∧ ReadReq.doorbell ∈ s.rings.reads) ∧
    (∃ (s : State) (r : RptImg) (rest : List RptImg), s.ringsOk = true ∧ s.rpt.hold = [] ∧ s.rpt.due = r :: rest ∧ diff32 s.rings.rptPi s.rings.rptCi < 2 ^ s.rings.rpt.log2n) ∧
    (∃ (s : State) (r : RptImg) (rest : List RptImg), s.ringsOk = true ∧ s.rpt.hold = [] ∧ s.rpt.due = r :: rest ∧ 2 ^ s.rings.rpt.log2n ≤ diff32 s.rings.rptPi s.rings.rptCi ∧ s.isRoot = true ∧ r.nrec ≤ 960) ∧
    (∃ (s : State) (vec : Fin 16), s.ringsOk = true ∧ s.host.vecs.length = 16 ∧ (s.host.vecs.getD vec {}).unsignalled ≠ 0 ∧ (s.host.vecs.getD vec {}).limit ≠ 0 ∧ s.rings.dirty = false ∧ (s.host.vecs.getD vec {}).masked = false ∧ s.host.cfg.msixEn = true ∧ s.host.cfg.msixMask = false) ∧
    (∃ (s : State) (v : Word), s.memOk ∧ s.clk.core = true ∧ s.clk.host = true ∧ s.hostSide = true ∧ s.hdma.busy = false ∧ v.getLsbD 0 = true ∧ s.dmaOk = true ∧ inSram s.hdma.laddr s.hdma.len = true) ∧
    (∃ (s : State) (e : HdmaEnd), s.memOk ∧ s.hdma.busy = true ∧ s.dmaOk = true ∧ e.result = 0) ∧
    (∃ (s : State) (v : Word), s.memOk ∧ s.clk.core = true ∧ s.clk.host = true ∧ s.hostSide = true ∧ s.hdma.pbusy = false ∧ v.getLsbD 3 = true ∧ s.ringsOk = true ∧ v.toNat % 8 = 4 ∧ diff32 s.rings.evtPi s.rings.evtCi < 2 ^ s.rings.evt.log2n) ∧
    (∃ (s : State), s.memOk ∧ s.hdma.pbusy = true ∧ s.ringsOk = true ∧ s.hdma.ring = 4 ∧ s.evt.buf.length < 64) :=
  ⟨⟨{ up with rings.dirty := true }, by decide +kernel⟩,
   ⟨{ up with pwr.state := .drone }, by decide +kernel⟩,
   ⟨{ up with evt.buf := [ev0] }, ev0, by simp only [Runs, State.memOk]; decide +kernel⟩,
   ⟨{ up with evt.buf := [ev0], rings.evtPi := 16 }, ev0, by simp only [Runs, State.memOk]; decide +kernel⟩,
   ⟨{ up with evt.buf := [ev0], rings.evtPi := 16, rings.reads := [.doorbell] }, ev0, by simp only [Runs, State.memOk]; decide +kernel⟩,
   ⟨{ up with rpt.hold := [], rpt.due := ri0 :: [] }, ri0, [], by decide +kernel⟩,
   ⟨{ up with rpt.hold := [], rpt.due := ri0 :: [], rings.rptPi := 16 }, ri0, [], by decide +kernel⟩,
   ⟨{ up with rings.dirty := false, host.cfg.msixEn := true, host.cfg.msixMask := false, host.vecs := State.reset.host.vecs.set 0 { unsignalled := 1, time := 5, limit := 5, masked := false } }, 0, by decide +kernel⟩,
   ⟨{ up with clk.core := true, clk.host := true, hdma.busy := false, hdma.laddr := 0x20000000, hdma.len := 4 }, 1#32, by simp only [State.memOk]; decide +kernel⟩,
   ⟨{ up with hdma.busy := true }, ⟨0, 0, []⟩, by simp only [State.memOk]; decide +kernel⟩,
   ⟨{ up with clk.core := true, clk.host := true, hdma.pbusy := false }, 12#32, by simp only [State.memOk]; decide +kernel⟩,
   ⟨{ up with hdma.pbusy := true, hdma.ring := 4 }, by simp only [State.memOk]; decide +kernel⟩⟩

theorem witness_ArrivalsAndInterruptRegisters :
    (∃ (n : Fin 48) (s : State), let r := s.srcAt n.val; s.memOk ∧ s.icu.src.length = 48 ∧ s.clk.core = true ∧ n.val ≠ 3 ∧ n.val ≠ 4 ∧ r.pend = false ∧ r.c + 1 < r.ccount) ∧
    (∃ (n : Fin 48) (s : State), let r := s.srcAt n.val; s.memOk ∧ s.icu.src.length = 48 ∧ s.clk.core = true ∧ n.val ≠ 3 ∧ n.val ≠ 4 ∧ r.pend = false ∧ r.ccount ≤ r.c + 1 ∧ s.undeliverable n.val r = false) ∧
    (∃ (n : Fin 48) (s : State), let r := s.srcAt n.val; s.memOk ∧ s.icu.src.length = 48 ∧ s.clk.core = true ∧ n.val ≠ 3 ∧ n.val ≠ 4 ∧ r.pend = false ∧ r.ccount ≤ r.c + 1 ∧ r.target = true ∧ r.fallback = false ∧ r.mask = false ∧ r.prio ≠ 0 ∧ (s.mbx.run = false ∨ s.mbx.halted = true) ∧ n.val ≠ 47) ∧
    (∃ (n : Fin 48) (s : State), let r := s.srcAt n.val; s.memOk ∧ s.icu.src.length = 48 ∧ s.clk.core = true ∧ n.val ≠ 3 ∧ n.val ≠ 4 ∧ r.pend = false ∧ r.c ≠ 0 ∧ r.ctime ≠ 0 ∧ s.undeliverable n.val r = false) ∧
    (∃ (n : Fin 48) (s : State), let r := s.srcAt n.val; s.memOk ∧ s.icu.src.length = 48 ∧ s.clk.core = true ∧ n.val ≠ 3 ∧ n.val ≠ 4 ∧ r.pend = true ∧ r.c ≠ 0 ∧ r.ctime ≠ 0) ∧
    (∃ (n : Fin 48) (s : State), let held := (s.icu.heldEdges.filter (fun m => m == n.val)).length; s.memOk ∧ s.icu.src.length = 48 ∧ s.clk.core = false ∧ s.coreInReset = false ∧ n.val ≠ 3 ∧ n.val ≠ 4 ∧ held = 0) ∧
    (∃ (n : Fin 48) (s : State), let held := (s.icu.heldEdges.filter (fun m => m == n.val)).length; s.memOk ∧ s.icu.src.length = 48 ∧ s.clk.core = false ∧ s.coreInReset = false ∧ n.val ≠ 3 ∧ n.val ≠ 4 ∧ held = 1) ∧
    (∃ (n : Fin 48) (s : State), let held := (s.icu.heldEdges.filter (fun m => m == n.val)).length; s.memOk ∧ s.icu.src.length = 48 ∧ s.clk.core = false ∧ s.coreInReset = false ∧ n.val ≠ 3 ∧ n.val ≠ 4 ∧ 2 ≤ held) ∧
    (∃ (n : Fin 48) (s : State), s.memOk ∧ s.icu.src.length = 48 ∧ (n.val = 3 ∨ n.val = 4)) ∧
    (∃ (core : CoreId) (c : CoreId) (n : Fin 48) (s : State), let r := s.srcAt n.val; s.memOk ∧ s.icu.src.length = 48 ∧ s.canRun core = true ∧ (core = .c0 ∨ c = .c1) ∧ r.act = true ∧ r.own = (c == .c1)) ∧
    (∃ (core : CoreId) (c : CoreId) (n : Fin 48) (s : State), let r := s.srcAt n.val; s.memOk ∧ s.icu.src.length = 48 ∧ s.canRun core = true ∧ (core = .c0 ∨ c = .c1) ∧ (r.act = false ∨ r.own ≠ (c == .c1))) ∧
    (∃ (core : CoreId) (c : CoreId) (s : State), s.memOk ∧ s.icu.src.length = 48 ∧ s.canRun core = true ∧ core = .c1 ∧ c = .c0 ∧ s.core1.exc = false ∧ s.core1.slot = []) ∧
    (∃ (core : CoreId) (n : Fin 48) (s : State), let r := s.srcAt n.val; s.memOk ∧ s.icu.src.length = 48 ∧ s.canRun core = true ∧ (core = .c0 ∨ r.target = true) ∧ r.c = 0) ∧
    (∃ (core : CoreId) (n : Fin 48) (s : State), let r := s.srcAt n.val; s.memOk ∧ s.icu.src.length = 48 ∧ s.canRun core = true ∧ core = .c1 ∧ r.target = false ∧ s.core1.exc = false ∧ s.core1.slot = []) :=
  ⟨⟨5, { up with clk.core := true, icu.src := State.reset.icu.src.set 5 { ccount := 3 } }, by simp only [State.memOk]; decide +kernel⟩,
   ⟨5, { up with clk.core := true }, by simp only [State.memOk]; decide +kernel⟩,
   ⟨5, { up with clk.core := true, icu.src := State.reset.icu.src.set 5 { target := true, prio := 1 }, mbx.run := false }, by simp only [State.memOk]; decide +kernel⟩,
   ⟨5, { up with clk.core := true, icu.src := State.reset.icu.src.set 5 { c := 1, ctime := 1, ccount := 3 } }, by simp only [State.memOk]; decide +kernel⟩,
   ⟨5, { up with clk.core := true, icu.src := State.reset.icu.src.set 5 { pend := true, c := 1, ctime := 1, ccount := 3 } }, by simp only [State.memOk]; decide +kernel⟩,
   ⟨5, { up with clk.core := false }, by simp only [State.memOk]; decide +kernel⟩,
   ⟨5, { up with clk.core := false, icu.heldEdges := [5] }, by simp only [State.memOk]; decide +kernel⟩,
   ⟨5, { up with clk.core := false, icu.heldEdges := [5, 5] }, by simp only [State.memOk]; decide +kernel⟩,
   ⟨3, up, by simp only [State.memOk]; decide +kernel⟩,
   ⟨.c0, .c0, 5, { up with icu.src := State.reset.icu.src.set 5 { act := true } }, by simp only [State.memOk]; decide +kernel⟩,
   ⟨.c0, .c0, 5, up, by simp only [State.memOk]; decide +kernel⟩,
   ⟨.c1, .c0, { up with core1.exc := false, core1.slot := [] }, by simp only [State.memOk]; decide +kernel⟩,
   ⟨.c0, 5, up, by simp only [State.memOk]; decide +kernel⟩,
   ⟨.c1, 0, { up with core1.exc := false, core1.slot := [] }, by simp only [State.memOk]; decide +kernel⟩⟩

theorem witness_TimersMailboxAndCore1Run :
    (∃ (core : CoreId) (n : Fin 4) (s : State), s.memOk ∧ s.tmr.t.length = 4 ∧ s.canRun core = true ∧ (core = .c0 ∨ 2 ≤ n.val)) ∧
    (∃ (core : CoreId) (n : Fin 4) (s : State), s.memOk ∧ s.tmr.t.length = 4 ∧ s.canRun core = true ∧ core = .c1 ∧ n.val < 2 ∧ s.core1.exc = false ∧ s.core1.slot = []) ∧
    (∃ (n : Fin 4) (s : State), let tm := s.tmr.t.getD n.val {}; s.memOk ∧ s.tmr.t.length = 4 ∧ s.clk.core = true ∧ tm.en = true ∧ s.icu.src.length = 48) ∧
    (∃ (v : Word) (s : State), s.memOk ∧ s.tmr.t.length = 4 ∧ s.clk.core = true ∧ s.tmr.wdEn = false ∧ v.getLsbD 0 = true) ∧
    (∃ (s : State), s.memOk ∧ s.tmr.t.length = 4 ∧ s.clk.core = true ∧ s.tmr.wdEn = true) ∧
    (∃ (v : Word) (s : State), s.memOk ∧ s.tmr.t.length = 4 ∧ s.clk.core = true ∧ v.toNat % 65536 = 0x5A3C) ∧
    (∃ (v : Word) (s : State), s.memOk ∧ s.tmr.t.length = 4 ∧ s.clk.core = true ∧ v.toNat % 65536 ≠ 0x5A3C) ∧
    (∃ (s : State), s.memOk ∧ s.icu.src.length = 48 ∧ s.canRun .c0 = true ∧ s.mbx.q1.length < 8) ∧
    (∃ (s : State), s.memOk ∧ s.icu.src.length = 48 ∧ s.canRun .c0 = true ∧ 8 ≤ s.mbx.q1.length) ∧
    (∃ (s : State), s.memOk ∧ s.icu.src.length = 48 ∧ s.canRun .c1 = true ∧ s.mbx.q0.length < 8) ∧
    (∃ (s : State), s.memOk ∧ s.icu.src.length = 48 ∧ s.canRun .c1 = true ∧ 8 ≤ s.mbx.q0.length) ∧
    (∃ (s : State), s.memOk ∧ s.icu.src.length = 48 ∧ s.clk.core = true ∧ s.mbx.run = true) ∧
    (∃ (w : Word) (s : State), s.memOk ∧ s.icu.src.length = 48 ∧ s.clk.core = true ∧ s.mbx.run = false ∧ w.toNat % 16 ≠ 0) ∧
    (∃ (w : Word) (s : State), s.memOk ∧ s.icu.src.length = 48 ∧ s.clk.core = true ∧ (s.mbx.run = true ∨ w.toNat % 16 = 0)) :=
  ⟨⟨.c0, 0, up, by simp only [State.memOk]; decide +kernel⟩,
   ⟨.c1, 0, { up with core1.exc := false, core1.slot := [] }, by simp only [State.memOk]; decide +kernel⟩,
   ⟨0, { up with clk.core := true, tmr.t := List.replicate 4 { en := true } }, by simp only [State.memOk]; decide +kernel⟩,
   ⟨1#32, { up with clk.core := true, tmr.wdEn := false }, by simp only [State.memOk]; decide +kernel⟩,
   ⟨{ up with clk.core := true, tmr.wdEn := true }, by simp only [State.memOk]; decide +kernel⟩,
   ⟨0x5A3C#32, { up with clk.core := true }, by simp only [State.memOk]; decide +kernel⟩,
   ⟨0#32, { up with clk.core := true }, by simp only [State.memOk]; decide +kernel⟩,
   ⟨up, by simp only [State.memOk]; decide +kernel⟩,
   ⟨{ up with mbx.q1 := List.replicate 8 (0, 0) }, by simp only [State.memOk]; decide +kernel⟩,
   ⟨up, by simp only [State.memOk]; decide +kernel⟩,
   ⟨{ up with mbx.q0 := List.replicate 8 (0, 0) }, by simp only [State.memOk]; decide +kernel⟩,
   ⟨{ up with clk.core := true, mbx.run := true }, by simp only [State.memOk]; decide +kernel⟩,
   ⟨1#32, { up with clk.core := true, mbx.run := false }, by simp only [State.memOk]; decide +kernel⟩,
   ⟨0#32, { up with clk.core := true }, by simp only [State.memOk]; decide +kernel⟩⟩

theorem witness_ParityHitsAndRestartTakeEffect :
    (∃ (s : State), s.memOk ∧ s.fwRuns = true ∧ s.pwr.state = .active ∧ s.icu.parValid = false) ∧
    (∃ (s : State), s.memOk ∧ s.fwRuns = true ∧ s.pwr.state = .active ∧ s.icu.parValid = true) ∧
    (∃ (store : Nat) (addr : Nat) (s : State), s.memOk ∧ s.fwRuns = true ∧ s.pwr.state = .active ∧ (store = 0x01 ∨ store = 0x02 ∨ (store = 0x03 ∧ ¬(listenData ≤ addr ∧ addr < baseSelf))) ∧ s.chn.prev.dcause = 0) ∧
    (∃ (store : Nat) (addr : Nat) (s : State), s.memOk ∧ s.fwRuns = true ∧ s.pwr.state = .active ∧ store = 0x03 ∧ listenData ≤ addr ∧ addr < baseSelf ∧ s.scans = true ∧ s.chn.seg = 3 ∧ s.chn.cur.dcause = 0) ∧
    (∃ (store : Nat) (s : State), s.memOk ∧ s.fwRuns = true ∧ s.pwr.state = .active ∧ store = 0x07) ∧
    (∃ (store : Nat) (s : State), s.memOk ∧ s.fwRuns = true ∧ s.pwr.state = .active ∧ store = 0x09) ∧
    (∃ (store : Nat) (index : Nat) (s : State), s.memOk ∧ s.fwRuns = true ∧ s.pwr.state = .active ∧ store = 0x0D ∧ ((s.jrn[index]?).map (·.stage)) = some .retained) ∧
    (∃ (store : Nat) (s : State), s.memOk ∧ s.fwRuns = true ∧ s.pwr.state = .active ∧ store = 0x0F) ∧
    (∃ (store : Nat) (s : State), s.memOk ∧ s.fwRuns = true ∧ s.pwr.state = .active ∧ store = 0x13) ∧
    (∃ (fw : Option (List Byte)) (b : List Byte) (s : State), s.memOk ∧ s.boot.phase = .restart ∧ s.isMember = false ∧ s.clk.core = true ∧ s.boot.source = 0 ∧ s.boot.parWait = [] ∧ fw.bind (storedFirmware s.sets.header) = some b) ∧
    (∃ (s : State), s.memOk ∧ s.boot.phase = .restart ∧ s.isMember = false ∧ s.clk.core = true ∧ s.boot.source ≠ 0) :=
  ⟨⟨{ up with pwr.state := .active, icu.parValid := false }, by simp only [Runs, State.memOk]; decide +kernel⟩,
   ⟨{ up with pwr.state := .active, icu.parValid := true }, by simp only [Runs, State.memOk]; decide +kernel⟩,
   ⟨1, 1, { up with pwr.state := .active, chn.prev.dcause := 0 }, by simp only [Runs, State.memOk]; decide +kernel⟩,
   ⟨3, listenData, { up with pwr.state := .active, chn.seg := 3, chn.cur.dcause := 0, ctx.slots := .active :: List.replicate 7 .empty }, by simp only [Runs, State.memOk]; decide +kernel⟩,
   ⟨7, { up with pwr.state := .active }, by simp only [Runs, State.memOk]; decide +kernel⟩,
   ⟨9, { up with pwr.state := .active }, by simp only [Runs, State.memOk]; decide +kernel⟩,
   ⟨0x0D, 0, { up with pwr.state := .active, jrn := [{ je with stage := .retained }] }, by simp only [Runs, State.memOk]; decide +kernel⟩,
   ⟨0x0F, { up with pwr.state := .active }, by simp only [Runs, State.memOk]; decide +kernel⟩,
   ⟨0x13, { up with pwr.state := .active }, by simp only [Runs, State.memOk]; decide +kernel⟩,
   ⟨some fwCoded, fwImg, { up with boot.phase := .restart, clk.core := true, boot.source := 0, boot.parWait := [], sets.header := hdrImg }, by simp only [State.memOk]; decide +kernel⟩,
   ⟨{ up with boot.phase := .restart, clk.core := true, boot.source := 1 }, by simp only [State.memOk]; decide +kernel⟩⟩

theorem witness_ManagementPortServesAndActs :
    (∃ (s : State), let held : Bool := s.boot.phase == .held || s.boot.phase == .failed; s.memOk ∧ held = true ∧ s.pwr.state ≠ .dormant) ∧
    (∃ (s : State), let held : Bool := s.boot.phase == .held || s.boot.phase == .failed; s.memOk ∧ held = false ∧ ((s.pwr.limp = true ∧ s.pwr.state = .drone) ∨ s.pwr.state = .active ∨ s.pwr.state = .idleScan)) ∧
    (∃ (s : State), let held : Bool := s.boot.phase == .held || s.boot.phase == .failed; s.memOk ∧ held = false ∧ s.pwr.limp = false ∧ s.pwr.state = .drone) ∧
    (∃ (s : State), s.memOk ∧ s.pwr.state = .dormant) ∧
    (∃ (s : State), let held : Bool := s.boot.phase == .held || s.boot.phase == .failed; let serves : Prop := held = false ∧ s.clk.core = true ∧ s.twm.active = true ∧ s.twm.dead = false; s.memOk ∧ serves ∧ s.twm.first = true) ∧
    (∃ (s : State), let held : Bool := s.boot.phase == .held || s.boot.phase == .failed; let serves : Prop := held = false ∧ s.clk.core = true ∧ s.twm.active = true ∧ s.twm.dead = false; s.memOk ∧ serves ∧ s.twm.first = false) ∧
    (∃ (s : State), s.memOk ∧ s.twm.active = true ∧ s.twm.dead = true) ∧
    (∃ (s : State), s.memOk ∧ s.twm.stretch = true ∧ s.clk.core = false) ∧
    (∃ (s : State), s.memOk ∧ s.twmServes = true) ∧
    (∃ (s : State), s.memOk ∧ s.clk.core = true ∧ s.twm.out.length < 64) ∧
    (∃ (s : State), s.memOk ∧ s.twm.alertPin = false) ∧
    (∃ (lowest : Nat) (s : State), s.memOk ∧ s.twm.alertPin = true ∧ s.boot.maddr < 8 ∧ 0x28 + s.boot.maddr ≤ lowest) ∧
    (∃ (lowest : Nat) (s : State), s.memOk ∧ s.twm.alertPin = true ∧ lowest < 0x28 + s.boot.maddr) :=
  ⟨⟨{ up with boot.phase := .held }, by simp only [State.memOk]; decide +kernel⟩,
   ⟨up, by simp only [State.memOk]; decide +kernel⟩,
   ⟨{ up with pwr.limp := false, pwr.state := .drone }, by simp only [State.memOk]; decide +kernel⟩,
   ⟨{ up with pwr.state := .dormant }, by simp only [State.memOk]; decide +kernel⟩,
   ⟨{ up with twm.first := true, twm.active := true }, by simp only [State.memOk]; decide +kernel⟩,
   ⟨{ up with twm.first := false, twm.active := true }, by simp only [State.memOk]; decide +kernel⟩,
   ⟨{ up with twm.active := true, twm.dead := true }, by simp only [State.memOk]; decide +kernel⟩,
   ⟨{ up with twm.stretch := true, clk.core := false }, by simp only [State.memOk]; decide +kernel⟩,
   ⟨up, by simp only [State.memOk]; decide +kernel⟩,
   ⟨{ up with clk.core := true }, by simp only [State.memOk]; decide +kernel⟩,
   ⟨{ up with twm.alertPin := false }, by simp only [State.memOk]; decide +kernel⟩,
   ⟨0x30, { up with twm.alertPin := true }, by simp only [State.memOk]; decide +kernel⟩,
   ⟨0x20, { up with twm.alertPin := true }, by simp only [State.memOk]; decide +kernel⟩⟩

theorem witness_MemoryPortTransfers :
    (∃ (v : Word) (s : State), let dir := v.getLsbD 1; let size := if s.twm.hdrok then leAt s.sets.header 6 1 * 65536 else 262144; let inRange : Prop := 1 ≤ s.twc.len ∧ s.twc.len ≤ 4096 ∧ s.twc.off + s.twc.len ≤ size ∧ (dir = true → s.twc.off % 64 + s.twc.len ≤ 64); s.memOk ∧ s.clk.core = true ∧ s.twc.busy = false ∧ v.getLsbD 0 = true ∧ s.boot.eepromSel = true ∧ inRange) ∧
    (∃ (v : Word) (s : State), let dir := v.getLsbD 1; let size := if s.twm.hdrok then leAt s.sets.header 6 1 * 65536 else 262144; let inRange : Prop := 1 ≤ s.twc.len ∧ s.twc.len ≤ 4096 ∧ s.twc.off + s.twc.len ≤ size ∧ (dir = true → s.twc.off % 64 + s.twc.len ≤ 64); s.memOk ∧ s.clk.core = true ∧ s.twc.busy = false ∧ v.getLsbD 0 = true ∧ s.boot.eepromSel = true ∧ ¬inRange) ∧
    (∃ (data : List Byte) (s : State), s.memOk ∧ s.clk.core = true ∧ s.twc.busy = true ∧ s.twc.dir = false ∧ data.length = s.twc.len) ∧
    (∃ (s : State), s.memOk ∧ s.clk.core = true ∧ s.twc.busy = true ∧ s.twc.dir = true) ∧
    (∃ (s : State), s.memOk ∧ s.clk.core = true ∧ s.twcActive = true) ∧
    (∃ (s : State), s.memOk ∧ s.clk.core = true ∧ s.twcActive = false) :=
  ⟨⟨1#32, { up with clk.core := true, twc.busy := false, boot.eepromSel := true, twc.len := 4096 }, by simp only [State.memOk]; decide +kernel⟩,
   ⟨1#32, { up with clk.core := true, twc.busy := false, boot.eepromSel := true }, by simp only [State.memOk]; decide +kernel⟩,
   ⟨[], { up with clk.core := true, twc.busy := true, twc.dir := false }, by simp only [State.memOk]; decide +kernel⟩,
   ⟨{ up with clk.core := true, twc.busy := true, twc.dir := true }, by simp only [State.memOk]; decide +kernel⟩,
   ⟨{ up with clk.core := true, twc.busy := true }, by simp only [State.memOk]; decide +kernel⟩,
   ⟨{ up with clk.core := true }, by simp only [State.memOk]; decide +kernel⟩⟩

theorem witness_BootStartsTheFirmware :
    (∃ (img : EepromImage) (fw : List Byte) (s : State), let h := padTo 256 img.header; s.memOk ∧ s.clk.core = true ∧ s.boot.phase = .rom ∧ s.hostSide = true ∧ s.boot.eepromSel = true ∧ headerOk h = true ∧ storedFirmware h img.fw = some fw) ∧
    (∃ (img : EepromImage) (s : State), let h := padTo 256 img.header; s.memOk ∧ s.clk.core = true ∧ s.boot.phase = .rom ∧ s.hostSide = true ∧ (s.boot.eepromSel = false ∨ headerOk h = false ∨ storedFirmware h img.fw = none)) ∧
    (∃ (s : State), s.memOk ∧ s.clk.core = true ∧ s.boot.phase = .rom ∧ s.isMember = true ∧ s.boot.staged = none) ∧
    (∃ (msg : List Byte) (s : State), s.memOk ∧ s.clk.core = true ∧ s.boot.phase = .loader ∧ leAt msg 0 1 = 1 ∧ msg.length = 11 ∧ 0 < leAt msg 1 4 ∧ leAt msg 1 4 % 4 = 0 ∧ leAt msg 1 4 ≤ 0x20000) ∧
    (∃ (msg : List Byte) (s : State) (l : Nat × Nat × Nat), s.memOk ∧ s.clk.core = true ∧ s.boot.phase = .loader ∧ leAt msg 0 1 = 2 ∧ s.boot.load = some l ∧ leAt msg 1 3 + (msg.drop 4).length ≤ l.1 ∧ leAt msg 1 3 % 4 = 0 ∧ (msg.drop 4).length % 4 = 0 ∧ 4 ≤ (msg.drop 4).length ∧ (msg.drop 4).length ≤ 60) ∧
    (∃ (fw : List Byte) (msg : List Byte) (d : List Byte) (s : State), s.memOk ∧ s.clk.core = true ∧ s.boot.phase = .loader ∧ leAt msg 0 1 = 3 ∧ s.boot.reload = false ∧ s.boot.load = some (d.length, crc32 d, leAt fw 0 2) ∧ s.mem.read 0x10000000 d.length = d) ∧
    (∃ (s : State), s.memOk ∧ s.boot.phase = .started ∧ s.hostSide = true) :=
  ⟨⟨{ header := hdrImg, fw := fwCoded, copyA := [], copyB := [] }, fwImg, { up with clk.core := true, boot.phase := .rom, boot.eepromSel := true }, by dsimp only; exact ⟨rfl, rfl, rfl, rfl, rfl, hdr_ok, by decide +kernel⟩⟩,
   ⟨⟨[], [], [], []⟩, { up with clk.core := true, boot.phase := .rom }, by simp only [State.memOk]; decide +kernel⟩,
   ⟨{ up with clk.core := true, boot.phase := .rom, boot.role := .member, boot.staged := none }, by simp only [State.memOk]; decide +kernel⟩,
   ⟨[1#8, 4#8, 0#8, 0#8, 0#8, 0#8, 0#8, 0#8, 0#8, 0#8, 0#8], { up with clk.core := true, boot.phase := .loader }, by simp only [State.memOk]; decide +kernel⟩,
   ⟨[2#8, 0#8, 0#8, 0#8, 1#8, 2#8, 3#8, 4#8], { up with clk.core := true, boot.phase := .loader, boot.load := some (4, 0, 0) }, (4, 0, 0), by simp only [State.memOk]; decide +kernel⟩,
   ⟨[], [3#8], fwImg, { up with clk.core := true, boot.phase := .loader, boot.reload := false, boot.load := some (4, crc32 fwImg, 0), mem := Memory.write [] 0x10000000 fwImg }, by simp only [State.memOk]; decide +kernel⟩,
   ⟨{ up with boot.phase := .started }, by simp only [State.memOk]; decide +kernel⟩⟩

theorem witness_LowPowerIsEnteredAndLeft :
    (∃ (s : State), s.memOk ∧ s.pwr.counters.length = 32 ∧ s.pwr.latched = none ∧ s.pwr.floorNext = none ∧ s.hostSide = true ∧ s.fwRuns = true ∧ s.pwr.busy = false ∧ s.pwr.entryDue = none ∧ s.pwr.state = .active ∧ s.pwr.idleT ≠ 0 ∧ (s.pwr.floor = 1 ∨ s.pwr.floor = 2) ∧ 1000000 * s.pwr.idleT ≤ s.pwr.quietUs) ∧
    (∃ (s : State), s.memOk ∧ s.pwr.counters.length = 32 ∧ s.pwr.latched = none ∧ s.pwr.floorNext = none ∧ s.hostSide = true ∧ s.fwRuns = true ∧ s.pwr.busy = false ∧ s.pwr.entryDue = none ∧ s.pwr.state = .idleScan ∧ s.pwr.floor = 2 ∧ s.pwr.byDrone = false ∧ 1000000 * s.pwr.droneT ≤ s.pwr.idleUs) ∧
    (∃ (s : State), s.memOk ∧ s.pwr.counters.length = 32 ∧ s.pwr.latched = none ∧ s.pwr.floorNext = none ∧ s.hostSide = true ∧ s.fwRuns = true ∧ s.pwr.busy = false ∧ s.pwr.entryDue = none ∧ s.pwr.state = .idleScan ∧ s.pwr.floor = 2 ∧ s.pwr.byDrone = true ∧ 100000 * s.pwr.gestureT ≤ s.pwr.idleUs) ∧
    (∃ (s : State), s.memOk ∧ s.pwr.counters.length = 32 ∧ s.pwr.latched = none ∧ s.pwr.floorNext = none ∧ s.pwr.refused = false ∧ s.entryNow = some .drone ∧ refusals .drone s = []) ∧
    (∃ (s : State), s.memOk ∧ s.pwr.counters.length = 32 ∧ s.pwr.latched = none ∧ s.pwr.floorNext = none ∧ s.pwr.refused = false ∧ s.entryNow = some .dormant ∧ refusals .dormant s = [] ∧ (s.hostSide = false ∨ s.host.perst = true ∨ s.host.link = .l2l3) ∧ s.epoch < 2 ^ 32) ∧
    (∃ (s : State), s.memOk ∧ s.pwr.counters.length = 32 ∧ s.pwr.latched = none ∧ s.pwr.floorNext = none ∧ s.pwr.refused = false ∧ s.entryNow = some .dormant ∧ refusals .dormant s = [] ∧ s.hostSide = true ∧ s.host.perst = false ∧ s.host.link ≠ .l2l3) ∧
    (∃ (st : PState) (s : State), s.memOk ∧ s.pwr.counters.length = 32 ∧ s.pwr.latched = none ∧ s.pwr.floorNext = none ∧ s.pwr.refused = false ∧ s.entryNow = some st ∧ refusals st s ≠ []) ∧
    (∃ (controller : Nat) (st : PState) (s : State), s.memOk ∧ s.pwr.counters.length = 32 ∧ s.pwr.latched = none ∧ s.pwr.floorNext = none ∧ s.pwr.refused = false ∧ s.entryNow = some st ∧ controller < 4) ∧
    (∃ (st : PState) (s : State), s.memOk ∧ s.pwr.counters.length = 32 ∧ s.pwr.latched = none ∧ s.pwr.floorNext = none ∧ s.pwr.refused = true ∧ s.hostSide = true ∧ ({ s with pwr.refused := false } : State).entryNow = some st ∧ s.pwr.floor < st.code) ∧
    (∃ (st : PState) (s : State), s.memOk ∧ s.pwr.counters.length = 32 ∧ s.pwr.latched = none ∧ s.pwr.floorNext = none ∧ s.pwr.refused = true ∧ s.hostSide = true ∧ ({ s with pwr.refused := false } : State).entryNow = some st ∧ st.code ≤ s.pwr.floor ∧ refusals st s ≠ []) ∧
    (∃ (st : PState) (s : State), s.memOk ∧ s.pwr.counters.length = 32 ∧ s.pwr.latched = none ∧ s.pwr.floorNext = none ∧ s.pwr.refused = true ∧ s.hostSide = true ∧ ({ s with pwr.refused := false } : State).entryNow = some st ∧ st.code ≤ s.pwr.floor ∧ st = .drone ∧ refusals st s = []) ∧
    (∃ (s : State), s.memOk ∧ s.pwr.counters.length = 32 ∧ s.pwr.latched = none ∧ s.pwr.floorNext = none ∧ s.hostSide = true ∧ s.clk.host = true ∧ s.pwr.awaitL2 = false) ∧
    (∃ (s : State), s.memOk ∧ s.pwr.counters.length = 32 ∧ s.pwr.latched = none ∧ s.pwr.floorNext = none ∧ s.hostSide = true ∧ s.clk.host = true ∧ s.pwr.awaitL2 = true ∧ refusals .dormant { s with host.link := .l2l3 } = []) ∧
    (∃ (s : State), s.memOk ∧ s.pwr.counters.length = 32 ∧ s.pwr.latched = none ∧ s.pwr.floorNext = none ∧ s.hostSide = true ∧ s.clk.host = true ∧ s.pwr.awaitL2 = true ∧ refusals .dormant { s with host.link := .l2l3 } ≠ []) ∧
    (∃ (code : Nat) (w : WakeInfo) (s : State), s.memOk ∧ s.pwr.counters.length = 32 ∧ code ∈ s.pwr.wakeDue ∧ wakeInfo code = some w ∧ s.pwr.wakeEn.testBit w.bit = false) ∧
    (∃ (code : Nat) (w : WakeInfo) (s : State), s.memOk ∧ s.pwr.counters.length = 32 ∧ code ∈ s.pwr.wakeDue ∧ wakeInfo code = some w ∧ s.pwr.wakeEn.testBit w.bit = true ∧ s.pwr.busy = false ∧ w.arises s.pwr.state = true) ∧
    (∃ (s : State), s.memOk ∧ s.pwr.counters.length = 32 ∧ (s.isMember = true ∨ s.isRoot = true) ∧ s.clk.link = false) ∧
    (∃ (port : Port) (s : State), s.memOk ∧ s.pwr.counters.length = 32 ∧ (s.isMember = true ∨ s.isRoot = true) ∧ 0x40 ∈ s.pwr.wakeDue ∧ s.pwr.beaconPort = some port ∧ s.pwr.wakeEn.testBit 12 = true ∧ s.pwr.busy = false ∧ s.pwr.hold = false ∧ s.pwr.limp = false ∧ (s.pwr.state = .drone ∨ s.pwr.state = .dormant)) ∧
    (∃ (pin : Fin 4) (s : State), s.memOk ∧ s.pwr.counters.length = 32 ∧ s.pwr.gpio.length = 4 ∧ s.pwr.gpioEdge.length = 4 ∧ s.pwr.gpio.getD pin.val 0 = 1) ∧
    (∃ (s : State), s.memOk ∧ s.pwr.counters.length = 32 ∧ s.pwr.busy = true ∧ s.pwr.attempts = 0 ∧ s.pwr.floorNext = none ∧ s.pwr.during = [] ∧ s.pwr.state = .dormant ∧ s.pwr.target.code < 3 ∧ 0xE0 ∉ s.pwr.retBad) ∧
    (∃ (step : Nat) (s : State), s.memOk ∧ s.pwr.counters.length = 32 ∧ s.pwr.busy = true ∧ s.pwr.attempts = 0 ∧ s.pwr.floorNext = none ∧ s.pwr.during = [] ∧ (step = 1 ∨ step = 3) ∧ s.pwr.state = .drone ∧ s.pwr.target.code < 2) ∧
    (∃ (s : State), s.memOk ∧ s.pwr.counters.length = 32 ∧ s.pwr.busy = true ∧ s.pwr.state = .drone ∧ s.pwr.target.code < 2 ∧ s.pwr.attempts = 3 ∧ s.pwr.attemptStep = 3) ∧
    (∃ (s : State), s.memOk ∧ s.pwr.counters.length = 32 ∧ s.pwr.state = .drone ∧ s.pwr.busy = false) ∧
    (∃ (state : Nat) (epoch : Nat) (s : State), s.memOk ∧ s.pwr.counters.length = 32 ∧ s.isMember = true ∧ s.clk.link = true ∧ state < 4 ∧ pstateOf state ≠ s.pwr.state ∧ epoch < 2 ^ 32) ∧
    (∃ (state : Nat) (s : State), s.memOk ∧ s.pwr.counters.length = 32 ∧ s.isMember = true ∧ s.clk.link = true ∧ state < 4 ∧ pstateOf state = s.pwr.state) :=
  ⟨⟨{ up with pwr.latched := none, pwr.floorNext := none, pwr.busy := false, pwr.entryDue := none, pwr.state := .active, pwr.floor := 1, pwr.quietUs := 30000000 }, by simp only [Runs, State.memOk]; decide +kernel⟩,
   ⟨{ up with pwr.latched := none, pwr.floorNext := none, pwr.busy := false, pwr.entryDue := none, pwr.state := .idleScan, pwr.floor := 2, pwr.byDrone := false, pwr.idleUs := 60000000 }, by simp only [Runs, State.memOk]; decide +kernel⟩,
   ⟨{ up with pwr.latched := none, pwr.floorNext := none, pwr.busy := false, pwr.entryDue := none, pwr.state := .idleScan, pwr.floor := 2, pwr.byDrone := true, pwr.idleUs := 2000000 }, by simp only [Runs, State.memOk]; decide +kernel⟩,
   ⟨{ up with pwr.latched := none, pwr.floorNext := none, pwr.refused := false, pwr.entryDue := some .drone }, by simp only [State.memOk]; decide +kernel⟩,
   ⟨{ up with pwr.latched := none, pwr.floorNext := none, pwr.refused := false, pwr.entryDue := some .dormant, host.perst := true }, by simp only [State.memOk]; decide +kernel⟩,
   ⟨{ up with pwr.latched := none, pwr.floorNext := none, pwr.refused := false, host.perst := false, pwr.entryDue := some .dormant }, by simp only [State.memOk]; decide +kernel⟩,
   ⟨.drone, { up with pwr.latched := none, pwr.floorNext := none, pwr.refused := false, pwr.entryDue := some .drone, twc.busy := true }, by simp only [State.memOk]; decide +kernel⟩,
   ⟨1, .drone, { up with pwr.latched := none, pwr.floorNext := none, pwr.refused := false, pwr.entryDue := some .drone }, by simp only [State.memOk]; decide +kernel⟩,
   ⟨.drone, { up with pwr.latched := none, pwr.floorNext := none, pwr.refused := true, pwr.entryDue := some .drone }, by simp only [State.memOk]; decide +kernel⟩,
   ⟨.drone, { up with pwr.latched := none, pwr.floorNext := none, pwr.refused := true, pwr.entryDue := some .drone, pwr.floor := 2, twc.busy := true }, by simp only [State.memOk]; decide +kernel⟩,
   ⟨.drone, { up with pwr.latched := none, pwr.floorNext := none, pwr.refused := true, pwr.entryDue := some .drone, pwr.floor := 2 }, by simp only [State.memOk]; decide +kernel⟩,
   ⟨{ up with pwr.latched := none, pwr.floorNext := none, clk.host := true, pwr.awaitL2 := false }, by simp only [State.memOk]; decide +kernel⟩,
   ⟨{ up with pwr.latched := none, pwr.floorNext := none, clk.host := true, pwr.awaitL2 := true }, by simp only [State.memOk]; decide +kernel⟩,
   ⟨{ up with pwr.latched := none, pwr.floorNext := none, clk.host := true, pwr.awaitL2 := true, twc.busy := true }, by simp only [State.memOk]; decide +kernel⟩,
   ⟨1, ⟨0, true, true, false⟩, { up with pwr.wakeDue := [1], pwr.wakeEn := 0 }, by simp only [State.memOk]; decide +kernel⟩,
   ⟨1, ⟨0, true, true, false⟩, { up with pwr.busy := false, pwr.wakeDue := [1], pwr.state := .idleScan }, by simp only [State.memOk]; decide +kernel⟩,
   ⟨{ up with clk.link := false, pwr.state := .drone }, by simp only [State.memOk]; decide +kernel⟩,
   ⟨.up, { up with pwr.beaconPort := some .up, pwr.busy := false, pwr.hold := false, pwr.limp := false, pwr.state := .drone, pwr.wakeEn := 4096, pwr.wakeDue := [0x40] }, by simp only [State.memOk]; decide +kernel⟩,
   ⟨0, { up with pwr.gpio := [1, 0, 0, 0] }, by simp only [State.memOk]; decide +kernel⟩,
   ⟨{ up with pwr.busy := true, pwr.attempts := 0, pwr.floorNext := none, pwr.during := [], pwr.state := .dormant }, by simp only [State.memOk]; decide +kernel⟩,
   ⟨1, { up with pwr.busy := true, pwr.attempts := 0, pwr.floorNext := none, pwr.during := [], pwr.state := .drone }, by simp only [State.memOk]; decide +kernel⟩,
   ⟨{ up with pwr.busy := true, pwr.state := .drone, pwr.attempts := 3, pwr.attemptStep := 3 }, by simp only [State.memOk]; decide +kernel⟩,
   ⟨{ up with pwr.state := .drone, pwr.busy := false }, by simp only [State.memOk]; decide +kernel⟩,
   ⟨1, 1, { up with boot.role := .member, clk.link := true }, by simp only [State.memOk]; decide +kernel⟩,
   ⟨0, { up with boot.role := .member, clk.link := true }, by simp only [State.memOk]; decide +kernel⟩⟩

theorem witness_CodedBlocksComeBack :
    ∃ (b : List Byte) (kind : Nat), b.length = 128 ∧ (kind = 0 ∨ kind = 1 ∨ kind = 3) :=
  ⟨List.replicate 128 0#8, 1, by decide +kernel⟩

theorem witness_MuteJobsAndStreamsRun :
    (∃ (v : Word) (s : State), let r : MuteRegs := { s.mute.regs with cls := if v.toNat / 16 % 4 = 3 then s.mute.regs.cls else v.toNat / 16 % 4, dir := v.getLsbD 6, host := v.getLsbD 7 }; s.memOk ∧ s.clk.core = true ∧ s.mute.busy = false ∧ v.getLsbD 0 = true ∧ r.ilen ≠ 0 ∧ r.olen ≠ 0) ∧
    (∃ (v : Word) (s : State), let r : MuteRegs := { s.mute.regs with cls := if v.toNat / 16 % 4 = 3 then s.mute.regs.cls else v.toNat / 16 % 4, dir := v.getLsbD 6, host := v.getLsbD 7 }; s.memOk ∧ s.clk.core = true ∧ s.mute.busy = false ∧ v.getLsbD 0 = true ∧ r.ilen = 0) ∧
    (∃ (v : Word) (s : State), let r : MuteRegs := { s.mute.regs with cls := if v.toNat / 16 % 4 = 3 then s.mute.regs.cls else v.toNat / 16 % 4, dir := v.getLsbD 6, host := v.getLsbD 7 }; s.memOk ∧ s.clk.core = true ∧ s.mute.busy = false ∧ v.getLsbD 0 = true ∧ r.ilen ≠ 0 ∧ r.olen = 0) ∧
    (∃ (s : State), let j := s.mute.job; let a := j.src + s.mute.cons; let inp := s.mem.read a (min 260 (j.ilen - s.mute.cons)); let out := if j.cls = 0 then frEncode (j.bidx0 + s.mute.cons / 128) 3 j.elo (inp.take 128) else if j.cls = 1 then llgEncode (inp.take 128) else llrEncode (inp.take 128); s.memOk ∧ s.clk.core = true ∧ s.mute.busy = true ∧ s.mute.strBusy = false ∧ s.mute.forCmd = none ∧ s.cap.waiting = [] ∧ j.dir = false ∧ j.host = false ∧ s.mute.cons + 128 < j.ilen ∧ s.mute.abort = false ∧ s.mute.prod + out.length ≤ j.olen) ∧
    (∃ (s : State), let j := s.mute.job; let a := j.src + s.mute.cons; let inp := s.mem.read a (min 260 (j.ilen - s.mute.cons)); let out := if j.cls = 0 then frEncode (j.bidx0 + s.mute.cons / 128) 3 j.elo (inp.take 128) else if j.cls = 1 then llgEncode (inp.take 128) else llrEncode (inp.take 128); s.memOk ∧ s.clk.core = true ∧ s.mute.busy = true ∧ s.mute.strBusy = false ∧ s.mute.forCmd = none ∧ s.cap.waiting = [] ∧ j.dir = false ∧ j.host = false ∧ s.mute.cons + 128 < j.ilen ∧ s.mute.abort = false ∧ j.olen < s.mute.prod + out.length) ∧
    (∃ (s : State), let j := s.mute.job; s.memOk ∧ s.clk.core = true ∧ s.mute.busy = true ∧ s.mute.strBusy = false ∧ s.mute.forCmd = none ∧ s.cap.waiting = [] ∧ j.dir = false ∧ j.host = true ∧ s.isMember = true) ∧
    (∃ (s : State), let j := s.mute.job; let a := j.src + s.mute.cons; let inp := s.mem.read a (min 260 (j.ilen - s.mute.cons)); s.memOk ∧ s.clk.core = true ∧ s.mute.busy = true ∧ s.mute.strBusy = false ∧ s.mute.forCmd = none ∧ s.cap.waiting = [] ∧ j.dir = false ∧ j.host = true ∧ s.isMember = false ∧ s.dmaOk = true ∧ j.cls = 2 ∧ s.mute.cons + 128 < j.ilen ∧ s.mute.abort = false ∧ s.mute.prod + (llrEncode (inp.take 128)).length ≤ j.olen) ∧
    (∃ (s : State) (n : Nat) (out : List Byte), let j := s.mute.job; let a := j.src + s.mute.cons; let inp := s.mem.read a (min 260 (j.ilen - s.mute.cons)); s.memOk ∧ s.clk.core = true ∧ s.mute.busy = true ∧ s.mute.strBusy = false ∧ s.mute.forCmd = none ∧ s.cap.waiting = [] ∧ j.dir = true ∧ j.cls = 2 ∧ llrDecode inp = .ok (n, out) ∧ s.mute.prod + 128 ≤ j.olen ∧ s.mute.cons + n < j.ilen ∧ s.mute.abort = false) ∧
    (∃ (s : State), let j := s.mute.job; let a := j.src + s.mute.cons; let inp := s.mem.read a (min 260 (j.ilen - s.mute.cons)); s.memOk ∧ s.clk.core = true ∧ s.mute.busy = true ∧ s.mute.strBusy = false ∧ s.mute.forCmd = none ∧ s.cap.waiting = [] ∧ j.dir = true ∧ j.cls = 2 ∧ llrDecode inp = .error .crc) ∧
    (∃ (s : State), let j := s.mute.job; let a := j.src + s.mute.cons; let inp := s.mem.read a (min 260 (j.ilen - s.mute.cons)); s.memOk ∧ s.clk.core = true ∧ s.mute.busy = true ∧ s.mute.strBusy = false ∧ s.mute.forCmd = none ∧ s.cap.waiting = [] ∧ j.dir = true ∧ j.cls = 2 ∧ llrDecode inp = .error .format) ∧
    (∃ (s : State), let j := s.mute.job; s.memOk ∧ s.clk.core = true ∧ s.mute.busy = true ∧ s.mute.strBusy = false ∧ s.mute.forCmd = none ∧ s.cap.waiting = [] ∧ (j.dir = true ∨ j.host = false ∨ s.dmaOk = true)) ∧
    (∃ (s : State), let n := (s.epoch + 4294967295) % 4294967296; let slot := s.slotOf n; s.clk.core = true ∧ s.chn.prev.decoded = true ∧ s.chn.prev.epoch = n ∧ s.chn.prev.kind = .normal ∧ s.chn.prev.dcause = 0 ∧ s.activeSlot ≠ none ∧ s.chn.discardReports = false ∧ s.pwr.state = .active ∧ s.hostSide = true ∧ s.ctxField slot 0x360 1 = 2 ∧ s.ctxField slot 0x361 1 = 0 ∧ s.ctxField slot 0x362 1 = 1 ∧ s.strm.recs = []) ∧
    (∃ (r : SRec) (tile : Nat) (kind : Nat) (blocks : List (Nat × List Byte)) (s : State), let n := (s.epoch + 4294967295) % 4294967296; s.isRoot = true ∧ s.clk.core = true ∧ kind ≤ 2 ∧ tile ≠ 0 ∧ s.strm.recs = [r] ∧ r.tile = tile ∧ r.kind = kind ∧ r.epoch = n ∧ r.nblk ≠ 0 ∧ r.blocks = [] ∧ (blocks.map (·.1)).Nodup) ∧
    (∃ (b : SBuf) (r : SRec) (tile : Nat) (kind : Nat) (s : State), let pay := recordPayload r; let o := (b.used + 63) / 64 * 64; s.hostSide = true ∧ s.clk.core = true ∧ s.ringsOk = true ∧ s.strm.recs = [r] ∧ r.tile = tile ∧ r.kind = kind ∧ r.nblk ≠ 0 ∧ s.strm.bufs = [b] ∧ o + 32 + pay.length ≤ b.len ∧ recordWhole r = true) ∧
    (∃ (b : SBuf) (s : State), s.ringsOk = true ∧ s.strm.bufs = [b] ∧ b.flush ≠ 0 ∧ b.nrec ≠ 0 ∧ b.nrec < 65536 ∧ b.flush ≤ diff32 s.epoch b.efirst) :=
  ⟨⟨1#32, { up with clk.core := true, mute.busy := false, mute.regs.ilen := 128, mute.regs.olen := 128 }, by simp only [State.memOk]; decide +kernel⟩,
   ⟨1#32, { up with clk.core := true, mute.busy := false }, by simp only [State.memOk]; decide +kernel⟩,
   ⟨1#32, { up with clk.core := true, mute.busy := false, mute.regs.ilen := 128 }, by simp only [State.memOk]; decide +kernel⟩,
   ⟨{ up with clk.core := true, mute.busy := true, mute.strBusy := false, mute.forCmd := none, cap.waiting := [], mute.job.dir := false, mute.job.host := false, mute.abort := false, mute.job.cls := 2, mute.job.ilen := 256, mute.job.olen := 1000 }, by simp only [State.memOk]; decide +kernel⟩,
   ⟨{ up with clk.core := true, mute.busy := true, mute.strBusy := false, mute.forCmd := none, cap.waiting := [], mute.job.dir := false, mute.job.host := false, mute.abort := false, mute.job.cls := 2, mute.job.ilen := 256 }, by simp only [State.memOk]; decide +kernel⟩,
   ⟨{ up with clk.core := true, mute.busy := true, mute.strBusy := false, mute.forCmd := none, cap.waiting := [], mute.job.dir := false, mute.job.host := true, boot.role := .member }, by simp only [State.memOk]; decide +kernel⟩,
   ⟨{ up with clk.core := true, mute.busy := true, mute.strBusy := false, mute.forCmd := none, cap.waiting := [], mute.job.dir := false, mute.job.host := true, mute.job.cls := 2, mute.abort := false, mute.job.ilen := 256, mute.job.olen := 1000 }, by simp only [State.memOk]; decide +kernel⟩,
   ⟨{ up with clk.core := true, mute.busy := true, mute.strBusy := false, mute.forCmd := none, cap.waiting := [], mute.job.dir := true, mute.job.cls := 2, mute.abort := false, mem := Memory.write [] 0x20000000 fwCoded, mute.job.src := 0x20000000, mute.job.ilen := 1000, mute.job.olen := 1000 }, 10, padTo 128 fwImg, by simp only [State.memOk]; decide +kernel⟩,
   ⟨{ up with clk.core := true, mute.busy := true, mute.strBusy := false, mute.forCmd := none, cap.waiting := [], mute.job.dir := true, mute.job.cls := 2, mem := Memory.write [] 0x20000000 (fwCoded.take 9), mute.job.src := 0x20000000, mute.job.ilen := 1000 }, by simp only [State.memOk]; decide +kernel⟩,
   ⟨{ up with clk.core := true, mute.busy := true, mute.strBusy := false, mute.forCmd := none, cap.waiting := [], mute.job.dir := true, mute.job.cls := 2, mute.job.src := 0x20000000, mute.job.ilen := 16 }, by simp only [State.memOk]; decide +kernel⟩,
   ⟨{ up with clk.core := true, mute.busy := true, mute.strBusy := false, mute.forCmd := none, cap.waiting := [] }, by simp only [State.memOk]; decide +kernel⟩,
   ⟨{ up with clk.core := true, chn.prev.decoded := true, chn.prev.kind := .normal, chn.prev.dcause := 0, chn.discardReports := false, pwr.state := .active, strm.recs := [], epoch := 1, chn.prev.epoch := 0, ctx.slots := .active :: List.replicate 7 .empty, mem := [(ctxBase + 0x360, 2#8)] }, by decide +kernel⟩,
   ⟨{ epoch := 0, tile := 1, kind := 1, raw := true, d := 1, s := 1, nblk := 1 }, 1, 1, [], { up with clk.core := true, strm.recs := [{ epoch := 0, tile := 1, kind := 1, raw := true, d := 1, s := 1, nblk := 1 }], epoch := 1 }, by decide +kernel⟩,
   ⟨{ idx := 0, addr := 4096, len := 4096, flush := 1 }, { epoch := 0, tile := 1, kind := 1, raw := true, d := 1, s := 1, nblk := 1, markers := [0] }, 1, 1, { up with clk.core := true, strm.recs := [{ epoch := 0, tile := 1, kind := 1, raw := true, d := 1, s := 1, nblk := 1, markers := [0] }], strm.bufs := [({ idx := 0, addr := 4096, len := 4096, flush := 1 })] }, by decide +kernel⟩,
   ⟨{ idx := 0, addr := 4096, len := 4096, flush := 1, nrec := 1 }, { up with strm.bufs := [{ idx := 0, addr := 4096, len := 4096, flush := 1, nrec := 1 }], epoch := 1 }, by decide +kernel⟩⟩

theorem witness_BoundariesStartTheNextFrame :
    (∃ (h : HopDue) (s : State), s.memOk ∧ s.clk.core = true ∧ s.clk.afe = true ∧ s.chn.timer = true ∧ s.pwr.limp = false ∧ s.pwr.state = .active ∧ s.boot.stagedAt = none ∧ s.boot.bootCtxDue = false ∧ s.arr.bootStage = none ∧ s.ctx.restored = false ∧ s.ctx.incoming = none ∧ s.pendingSlot = none ∧ s.chn.due = some h) ∧
    (∃ (n : Nat) (s : State), let e := if s.chn.counted then (s.epoch + 1) % 2 ^ 32 else s.epoch; s.memOk ∧ s.clk.core = true ∧ s.clk.afe = true ∧ s.chn.timer = true ∧ s.pwr.limp = false ∧ s.pwr.state = .active ∧ s.boot.stagedAt = none ∧ s.boot.bootCtxDue = false ∧ s.arr.bootStage = none ∧ s.ctx.restored = false ∧ s.ctx.incoming = none ∧ s.ctx.slots.length = 8 ∧ s.pendingSlot = some n ∧ ((∀ k, k < 8 → s.ctx.slots.getD k .empty = .pending → k = n)) ∧ s.drainingSlot = none ∧ later s.ctx.pendEa e = false) ∧
    (∃ (s : State), s.memOk ∧ s.clk.core = true ∧ s.clk.afe = true ∧ s.chn.timer = true ∧ s.pwr.limp = false ∧ s.pwr.state = .active ∧ s.boot.stagedAt = none ∧ s.boot.bootCtxDue = false ∧ s.arr.bootStage = none ∧ s.ctx.restored = false ∧ s.ctx.incoming = none ∧ s.scans = true ∧ s.pendingSlot = none ∧ s.elec.ltLeft = 0 ∧ s.elec.ltPending = false ∧ s.elec.ltBoot = true ∧ s.cal.kind = .none ∧ s.cal.fullDue = none ∧ s.cal.groupDue = none ∧ s.cal.baseDue = false ∧ s.chn.fresh = false ∧ s.chn.lastGain = s.act 0x2C2 1 ∧ s.host.dstate ≠ .d3cold ∧ s.chn.due = none ∧ s.pwr.entryDue = none ∧ s.pwr.busy = false ∧ s.isRoot = false) :=
  ⟨⟨⟨false, 0, 0, 1⟩, { up with clk.core := true, clk.afe := true, chn.timer := true, pwr.limp := false, pwr.state := .active, boot.stagedAt := none, boot.bootCtxDue := false, arr.bootStage := none, ctx.restored := false, ctx.incoming := none, chn.due := some (⟨false, 0, 0, 1⟩) }, by simp only [State.memOk]; decide +kernel⟩,
   ⟨1, { up with clk.core := true, clk.afe := true, chn.timer := true, pwr.limp := false, pwr.state := .active, boot.stagedAt := none, boot.bootCtxDue := false, arr.bootStage := none, ctx.restored := false, ctx.incoming := none, ctx.slots := (List.replicate 8 .empty).set 1 .pending }, by simp only [State.memOk]; decide +kernel⟩,
   ⟨{ up with clk.core := true, clk.afe := true, chn.timer := true, pwr.limp := false, pwr.state := .active, boot.stagedAt := none, boot.bootCtxDue := false, arr.bootStage := none, ctx.restored := false, ctx.incoming := none, elec.ltLeft := 0, elec.ltPending := false, elec.ltBoot := true, cal.kind := .none, cal.fullDue := none, cal.groupDue := none, cal.baseDue := false, chn.fresh := false, chn.due := none, pwr.entryDue := none, pwr.busy := false, ctx.slots := .active :: List.replicate 7 .empty, boot.role := .standalone, chn.lastGain := 1 }, by simp only [State.memOk]; decide +kernel⟩⟩

theorem witness_ScanStepsAreMixedAndStored :
    (∃ (step : Nat) (c : Nat) (s : State), let p := s.params s.epoch; s.memOk ∧ s.scans = true ∧ s.chn.cur.kind = .normal ∧ step < 160 ∧ step < 128 ∧ c < p.s ∧ p.s ≤ 192) ∧
    (∃ (step : Nat) (c : Nat) (k : Nat) (s : State), let p := s.params s.epoch; s.memOk ∧ s.scans = true ∧ s.chn.cur.kind = .normal ∧ step < 160 ∧ 152 ≤ step ∧ c < p.s ∧ p.s ≤ 192 ∧ k < 5) ∧
    (∃ (step : Nat) (s : State) (pin : Nat), s.memOk ∧ s.scans = true ∧ s.chn.cur.kind = .normal ∧ step < 160 ∧ pin < 320 ∧ s.driverOn pin = true) ∧
    (∃ (step : Nat) (s : State) (sh : Fin 4), s.memOk ∧ s.scans = true ∧ s.chn.cur.kind = .normal ∧ step < 160 ∧ s.elec.shFault = false ∧ sh.val ∉ s.elec.shTripped) ∧
    (∃ (step : Nat) (s : State), s.memOk ∧ s.scans = true ∧ s.chn.cur.kind = .normal ∧ step < 160 ∧ s.clk.afe = true ∧ s.clk.core = true ∧ s.chn.timer = true) :=
  ⟨⟨1, 1, { up with chn.cur.kind := .normal, ctx.slots := .active :: List.replicate 7 .empty, mem := Memory.write [] (hdrBase 0 + 8) [4#8, 4#8] }, by simp only [State.memOk]; decide +kernel⟩,
   ⟨152, 1, 1, { up with chn.cur.kind := .normal, ctx.slots := .active :: List.replicate 7 .empty, mem := Memory.write [] (hdrBase 0 + 8) [4#8, 4#8] }, by simp only [State.memOk]; decide +kernel⟩,
   ⟨1, { up with chn.cur.kind := .normal, ctx.slots := .active :: List.replicate 7 .empty, elec.code := (List.replicate 320 0xF).set 1 0, chn.seg := 0, mem := Memory.write [] (ctxBase + 0x42) [1#8, 0#8] }, 1, by simp only [State.memOk]; decide +kernel⟩,
   ⟨1, { up with chn.cur.kind := .normal, elec.shFault := false, ctx.slots := .active :: List.replicate 7 .empty, mem := Memory.write [] (hdrBase 0 + 8) [4#8, 4#8] }, 0, by simp only [State.memOk]; decide +kernel⟩,
   ⟨1, { up with chn.cur.kind := .normal, clk.afe := true, clk.core := true, chn.timer := true, ctx.slots := .active :: List.replicate 7 .empty, mem := Memory.write [] (hdrBase 0 + 8) [4#8, 4#8] }, by simp only [State.memOk]; decide +kernel⟩⟩

theorem witness_TripsGuardAndNoise :
    (∃ (pin : Nat) (s : State), s.memOk ∧ s.scans = true ∧ pin < 320 ∧ s.elec.code.length = 320 ∧ s.chn.cur.kind ≠ .lineTest ∧ s.elec.ltLeft = 0 ∧ s.driverOn pin = true) ∧
    (∃ (sh : Fin 4) (s : State), s.memOk ∧ s.scans = true ∧ s.elec.shFault = false ∧ sh.val ∉ s.elec.shTripped) ∧
    (∃ (temp : Int) (s : State), s.memOk ∧ s.clk.afe = true ∧ s.clk.core = true ∧ s.chn.timer = true ∧ -512 ≤ temp ∧ temp ≤ 511 ∧ s.cal.temps.length < 16) ∧
    (∃ (s : State), s.memOk ∧ s.scans = true ∧ s.chn.cur.kind = .normal) :=
  ⟨⟨1, { up with elec.ltLeft := 0, ctx.slots := .active :: List.replicate 7 .empty, elec.code := (List.replicate 320 0xF).set 1 0, chn.seg := 0, mem := Memory.write [] (ctxBase + 0x42) [1#8, 0#8] }, by simp only [State.memOk]; decide +kernel⟩,
   ⟨0, { up with elec.shFault := false, ctx.slots := .active :: List.replicate 7 .empty }, by simp only [State.memOk]; decide +kernel⟩,
   ⟨0, { up with clk.afe := true, clk.core := true, chn.timer := true, ctx.slots := .active :: List.replicate 7 .empty }, by simp only [State.memOk]; decide +kernel⟩,
   ⟨{ up with chn.cur.kind := .normal, ctx.slots := .active :: List.replicate 7 .empty }, by simp only [State.memOk]; decide +kernel⟩⟩

theorem witness_HopsAreDecidedAndLatched :
    (∃ (f : Nat) (s : State), let ctx := (s.params s.epoch).ctx; s.memOk ∧ s.clk.core = true ∧ s.clk.afe = true ∧ s.scans = true ∧ s.chn.cur.noiseOk = true ∧ freeSlot s (s.ctxField ctx 0x2C7 1) = some f ∧ s.ctxField ctx 0x2C6 1 % 2 = 1 ∧ s.chn.lastHop = none ∧ s.ctxField ctx 0x2CB 1 ≤ s.chn.perP ∧ s.chn.perS < s.ctxField ctx 0x2CB 1) ∧
    (∃ (s : State), let ctx := (s.params s.epoch).ctx; s.memOk ∧ s.clk.core = true ∧ s.clk.afe = true ∧ s.scans = true ∧ s.chn.cur.noiseOk = true ∧ s.chn.perP < s.ctxField ctx 0x2CB 1 ∧ s.chn.perS < s.ctxField ctx 0x2CB 1) ∧
    (∃ (f : Nat) (s : State) (k : Nat), let mask := s.act 0x2C7 1; s.memOk ∧ s.clk.core = true ∧ s.clk.afe = true ∧ freeSlot s mask = some f ∧ k < 5 ∧ mask.testBit k = true ∧ k + 2 ≠ s.chn.pri ∧ k + 2 ≠ s.chn.sec) ∧
    (∃ (role : Nat) (f : Nat) (s : State), s.memOk ∧ s.clk.core = true ∧ s.clk.afe = true ∧ s.chn.timer = true ∧ s.ctx.job = none ∧ s.chn.decided = [] ∧ s.chn.replaced = [] ∧ s.chn.req = none ∧ s.chn.auto = some (role, f)) ∧
    (∃ (s : State), s.memOk ∧ s.clk.core = true ∧ s.clk.afe = true ∧ s.chn.timer = true ∧ s.ctx.job = none ∧ s.chn.decided = [] ∧ s.chn.replaced = [] ∧ s.chn.req = none ∧ s.chn.auto = none) ∧
    (∃ (q : HopReq) (s : State), let mask := s.act 0x2C7 1; let other := if q.role = 0 then s.chn.sec else s.chn.pri; let valid : Prop := 2 ≤ q.slot ∧ q.slot ≤ 6 ∧ mask.testBit (q.slot - 2) = true ∧ q.slot ≠ other; s.memOk ∧ s.clk.core = true ∧ s.clk.afe = true ∧ s.chn.timer = true ∧ s.ctx.job = none ∧ s.chn.decided = [] ∧ s.chn.replaced = [] ∧ s.chn.req = some q ∧ valid) ∧
    (∃ (q : HopReq) (s : State), let mask := s.act 0x2C7 1; let other := if q.role = 0 then s.chn.sec else s.chn.pri; let valid : Prop := 2 ≤ q.slot ∧ q.slot ≤ 6 ∧ mask.testBit (q.slot - 2) = true ∧ q.slot ≠ other; s.memOk ∧ s.clk.core = true ∧ s.clk.afe = true ∧ s.chn.timer = true ∧ s.ctx.job = none ∧ s.chn.decided = [] ∧ s.chn.replaced = [] ∧ s.chn.req = some q ∧ ¬valid ∧ s.chn.auto = none) ∧
    (∃ (v : Word) (s : State), s.memOk ∧ s.clk.core = true ∧ s.clk.afe = true ∧ v.getLsbD 8 = true) ∧
    (∃ (v : Word) (s : State), s.memOk ∧ s.clk.core = true ∧ s.clk.afe = true ∧ v.getLsbD 8 = false) :=
  ⟨⟨2, { up with clk.core := true, clk.afe := true, chn.cur.noiseOk := true, chn.lastHop := none, ctx.slots := .active :: List.replicate 7 .empty, chn.perP := 3 }, by simp only [State.memOk]; decide +kernel⟩,
   ⟨{ up with clk.core := true, clk.afe := true, chn.cur.noiseOk := true, ctx.slots := .active :: List.replicate 7 .empty }, by simp only [State.memOk]; decide +kernel⟩,
   ⟨2, { up with clk.core := true, clk.afe := true, ctx.slots := .active :: List.replicate 7 .empty }, 1, by simp only [State.memOk]; decide +kernel⟩,
   ⟨1, 1, { up with clk.core := true, clk.afe := true, chn.timer := true, ctx.job := none, chn.decided := [], chn.replaced := [], chn.req := none, chn.auto := some (1, 1) }, by simp only [State.memOk]; decide +kernel⟩,
   ⟨{ up with clk.core := true, clk.afe := true, chn.timer := true, ctx.job := none, chn.decided := [], chn.replaced := [], chn.req := none, chn.auto := none }, by simp only [State.memOk]; decide +kernel⟩,
   ⟨⟨2, 0, none⟩, { up with clk.core := true, clk.afe := true, chn.timer := true, ctx.job := none, chn.decided := [], chn.replaced := [], chn.req := some ⟨2, 0, none⟩, ctx.slots := .active :: List.replicate 7 .empty }, by simp only [State.memOk]; decide +kernel⟩,
   ⟨⟨1, 0, none⟩, { up with clk.core := true, clk.afe := true, chn.timer := true, ctx.job := none, chn.decided := [], chn.replaced := [], chn.req := some (⟨1, 0, none⟩), chn.auto := none }, by simp only [State.memOk]; decide +kernel⟩,
   ⟨256#32, { up with clk.core := true, clk.afe := true }, by simp only [State.memOk]; decide +kernel⟩,
   ⟨0#32, { up with clk.core := true, clk.afe := true }, by simp only [State.memOk]; decide +kernel⟩⟩

theorem witness_FramesAreDecoded :
    (∃ (z : List Int) (d : Nat), z.length = 128 ∧ d < 128) ∧
    (∃ (s : State), let f := s.chn.prev; s.memOk ∧ s.clk.core = true ∧ s.chn.prev.decoded = false ∧ s.cal.gain = none ∧ f.kind = .normal ∧ f.dcause ≠ 0) ∧
    (∃ (d : Nat) (c : Nat) (s : State), let f := s.chn.prev; let p := s.params f.epoch; let m := s.pinMap p.ctx; s.memOk ∧ s.clk.core = true ∧ s.chn.prev.decoded = false ∧ s.cal.gain = none ∧ f.kind = .normal ∧ f.dcause = 0 ∧ f.faults = [] ∧ f.undriven = [] ∧ f.ovr = [] ∧ f.recalCols = [] ∧ d < p.d ∧ c < p.s ∧ p.d = m.drive.length ∧ p.s = m.sense.length ∧ p.d ≤ 128 ∧ p.s ≤ 192) :=
  ⟨⟨List.replicate 128 0, 127, by decide +kernel⟩,
   ⟨{ up with clk.core := true, chn.prev.decoded := false, cal.gain := none, chn.prev.kind := .normal, chn.prev.dcause := 1 }, by simp only [State.memOk]; decide +kernel⟩,
   ⟨1, 1, { up with clk.core := true, chn.prev.decoded := false, cal.gain := none, chn.prev.kind := .normal, chn.prev.dcause := 0, chn.prev.faults := [], chn.prev.undriven := [], chn.prev.ovr := [], chn.prev.recalCols := [], mem := Memory.write (Memory.write [] (hdrBase 0 + 8) [2#8, 2#8]) (ctxBase + 0x40) [1#8, 0#8, 5#8, 0#8, 2#8, 0#8, 6#8, 0#8] }, by simp only [State.memOk]; decide +kernel⟩⟩

theorem witness_TracksOpenCoastAndLift :
    (∃ (s : State), let f := s.chn.prev; s.memOk ∧ s.clk.core = true ∧ s.chn.prev.tracked = false ∧ s.chn.prev.decoded = true ∧ s.chn.prev.kind = .normal ∧ s.boot.role = .standalone ∧ f.dcause ≠ 0) ∧
    (∃ (i : Nat) (k : Track) (s : State), let f := s.chn.prev; let p := s.params f.epoch; let field (o n : Nat) : Nat := s.ctxField p.ctx o n; let base := if f.epoch % 2 = 0 then 0x30061800 else 0x3006D800; let zeroBut (a : Nat) : Prop := ∀ x, base ≤ x → x < base + 49152 → x ≠ a → x ≠ a + 1 → s.mem.byte x = 0#8; s.memOk ∧ s.clk.core = true ∧ s.chn.prev.tracked = false ∧ s.chn.prev.decoded = true ∧ s.chn.prev.kind = .normal ∧ s.boot.role = .standalone ∧ f.dcause = 0 ∧ s.trk.rebuild = false ∧ s.cal.releases = [] ∧ s.tok.bad = true ∧ field 0x2EB 1 = 0 ∧ 0 < field 0x320 2 ∧ field 0x2E2 1 = 0 ∧ p.d ≤ 128 ∧ p.s ≤ 192 ∧ zeroBut 0 ∧ i < 64 ∧ s.trk.tab = (List.replicate 64 none).set i (some k) ∧ k.cls = 0 ∧ k.status = 1) ∧
    (∃ (d : Nat) (c : Nat) (v : Nat) (s : State), let f := s.chn.prev; let p := s.params f.epoch; let field (o n : Nat) : Nat := s.ctxField p.ctx o n; let base := if f.epoch % 2 = 0 then 0x30061800 else 0x3006D800; let zeroBut (a : Nat) : Prop := ∀ x, base ≤ x → x < base + 49152 → x ≠ a → x ≠ a + 1 → s.mem.byte x = 0#8; s.memOk ∧ s.clk.core = true ∧ s.chn.prev.tracked = false ∧ s.chn.prev.decoded = true ∧ s.chn.prev.kind = .normal ∧ s.boot.role = .standalone ∧ f.dcause = 0 ∧ s.trk.rebuild = false ∧ s.cal.releases = [] ∧ s.tok.bad = true ∧ field 0x2EB 1 = 0 ∧ 0 < field 0x320 2 ∧ field 0x2E2 1 = 0 ∧ p.d ≤ 128 ∧ p.s ≤ 192 ∧ zeroBut (base + 2 * (192 * d + c)) ∧ d < p.d ∧ c < p.s ∧ s.mem.leI (base + 2 * (192 * d + c)) 2 = v ∧ field 0x320 2 ≤ v ∧ field 0x322 2 ≤ v ∧ field 0x324 2 ≤ v ∧ s.trk.tab = List.replicate 64 none ∧ s.crl.lent = [] ∧ s.trk.openCtr < 1024 ∧ 2 ≤ field 0x32C 2 ∧ 2 ≤ field 0x32A 1 ∧ 255 ≤ field 0x32B 1) :=
  ⟨⟨{ up with clk.core := true, chn.prev.tracked := false, chn.prev.decoded := true, chn.prev.kind := .normal, boot.role := .standalone, chn.prev.dcause := 1 }, by simp only [State.memOk]; decide +kernel⟩,
   ⟨1, { tk with cls := 0, status := 1 }, { up with clk.core := true, chn.prev.tracked := false, chn.prev.decoded := true, chn.prev.kind := .normal, boot.role := .standalone, chn.prev.dcause := 0, trk.rebuild := false, cal.releases := [], tok.bad := true, trk.tab := (List.replicate 64 none).set 1 (some ({ tk with cls := 0, status := 1 })), mem := [(ctxBase + 0x2E2, 0#8), (ctxBase + 0x2EB, 0#8)] }, by dsimp only [State.memOk]; and_intros <;> first | (intro x h1 h2 h3 h4; exact quiet1 x h1 h2 h3 h4) | decide +kernel⟩,
   ⟨1, 1, 400, { up with clk.core := true, chn.prev.tracked := false, chn.prev.decoded := true, chn.prev.kind := .normal, boot.role := .standalone, chn.prev.dcause := 0, trk.rebuild := false, cal.releases := [], tok.bad := true, trk.tab := List.replicate 64 none, crl.lent := [], mem := trackMem }, by dsimp only [State.memOk]; and_intros <;> first | (intro x h1 h2 h3 h4; exact quiet2 x h1 h2 h3 h4) | decide +kernel⟩⟩

theorem witness_BaselinesFollowTheFrames :
    (∃ (d : Nat) (c : Nat) (s : State), let f := s.chn.prev; let p := s.params f.epoch; let n := 192 * d + c; let u := ((frameU s f.epoch).getD c []).getD d 0; s.memOk ∧ d < p.d ∧ c < p.s ∧ p.d ≤ 128 ∧ p.s ≤ 192 ∧ s.clk.core = true ∧ f.merged = true ∧ f.updated = false ∧ f.kind = .normal ∧ u.natAbs < 2 ^ 23 ∧ f.dcause = 0 ∧ s.trk.tab = List.replicate 64 none ∧ s.trk.water = [] ∧ s.cal.relNodes = [] ∧ f.faults = [] ∧ f.undriven = [] ∧ f.ovr = [] ∧ f.recalCols = [] ∧ s.mem.le (0x100048000 + n) 1 % 4 = 0) ∧
    (∃ (d : Nat) (c : Nat) (s : State), let f := s.chn.prev; let p := s.params f.epoch; let u := ((frameU s f.epoch).getD c []).getD d 0; s.memOk ∧ d < p.d ∧ c < p.s ∧ p.d ≤ 128 ∧ p.s ≤ 192 ∧ s.clk.core = true ∧ f.merged = true ∧ f.updated = false ∧ f.kind = .normal ∧ u.natAbs < 2 ^ 23 ∧ f.dcause ≠ 0) ∧
    (∃ (d : Nat) (c : Nat) (s : State), let f := s.chn.prev; let p := s.params f.epoch; let field (o n : Nat) : Nat := s.ctxField p.ctx o n; let n := 192 * d + c; s.memOk ∧ d < p.d ∧ c < p.s ∧ p.d ≤ 128 ∧ p.s ≤ 192 ∧ s.cal.kind = .full ∧ s.cal.phase = 5 ∧ s.cal.done = 16 ∧ f.decoded = true ∧ f.kind = .baseline ∧ field 0x30A 2 = 0 ∧ field 0x30C 2 = 0 ∧ s.cal.maskSus = [] ∧ s.cal.baseOnly = false ∧ (s.mem.leI (0x100050000 + 8 * n) 8).natAbs < 2 ^ 27) :=
  ⟨⟨1, 1, { up with clk.core := true, chn.prev.merged := true, chn.prev.updated := false, chn.prev.kind := .normal, chn.prev.dcause := 0, trk.tab := List.replicate 64 none, trk.water := [], cal.relNodes := [], chn.prev.faults := [], chn.prev.undriven := [], chn.prev.ovr := [], chn.prev.recalCols := [], mem := Memory.write [] (hdrBase 0 + 8) [4#8, 4#8] }, by simp only [State.memOk]; decide +kernel⟩,
   ⟨1, 1, { up with clk.core := true, chn.prev.merged := true, chn.prev.updated := false, chn.prev.kind := .normal, mem := Memory.write [] (hdrBase 0 + 8) [4#8, 4#8], chn.prev.dcause := 1 }, by simp only [State.memOk]; decide +kernel⟩,
   ⟨1, 1, { up with cal.kind := .full, cal.phase := 5, cal.done := 16, chn.prev.decoded := true, chn.prev.kind := .baseline, cal.maskSus := [], cal.baseOnly := false, mem := Memory.write (Memory.write [] (hdrBase 0 + 8) [4#8, 4#8]) (ctxBase + 0x30A) [0#8, 0#8, 0#8, 0#8] }, by simp only [State.memOk]; decide +kernel⟩⟩

theorem witness_CalibrationsAndLineTestsRun :
    (∃ (v : Word) (s : State), s.memOk ∧ s.clk.core = true ∧ s.clk.afe = true ∧ v.toNat % 8 = 1) ∧
    (∃ (v : Word) (s : State), s.memOk ∧ s.clk.core = true ∧ s.clk.afe = true ∧ v.toNat % 8 = 4) ∧
    (∃ (v : Word) (s : State), s.memOk ∧ s.clk.core = true ∧ s.clk.afe = true ∧ v.toNat % 16 = 1 ∧ s.cal.kind = .none ∧ s.cal.fullDue = none ∧ s.cal.groupDue = none) ∧
    (∃ (v : Word) (s : State), s.memOk ∧ s.clk.core = true ∧ s.clk.afe = true ∧ v.toNat % 16 = 1 ∧ (s.cal.kind ≠ .none ∨ s.cal.fullDue ≠ none ∨ s.cal.groupDue ≠ none)) ∧
    (∃ (v : Word) (s : State), s.memOk ∧ s.clk.core = true ∧ s.clk.afe = true ∧ v.toNat % 16 = 2 ∧ s.cal.kind = .none ∧ s.cal.fullDue = none ∧ s.cal.groupDue = none) ∧
    (∃ (v : Word) (s : State), s.memOk ∧ s.clk.core = true ∧ s.clk.afe = true ∧ v.toNat % 16 = 8) ∧
    (∃ (c : Nat) (k : Nat) (a : Int) (b : Int) (s : State), s.memOk ∧ s.fwRuns = true ∧ s.cal.kind = .full ∧ s.cal.phase = 3 ∧ c < 192 ∧ 2 ≤ k ∧ k ≤ 6 ∧ -32768 ≤ a ∧ a ≤ 32767 ∧ -32768 ≤ b ∧ b ≤ 32767 ∧ s.cal.measured = false ∧ s.chn.prev.kind = .inject false [c] ∧ s.chn.prev.dcause = 0) ∧
    (∃ (c : Nat) (k : Nat) (a : Int) (b : Int) (s : State), s.memOk ∧ s.fwRuns = true ∧ s.cal.kind = .full ∧ s.cal.phase = 3 ∧ c < 192 ∧ 2 ≤ k ∧ k ≤ 6 ∧ -32768 ≤ a ∧ a ≤ 32767 ∧ -32768 ≤ b ∧ b ≤ 32767 ∧ s.cal.measured = true ∧ s.chn.cur.kind = .inject true [c] ∧ s.chn.cur.dcause = 0 ∧ s.chn.seg ≠ 0 ∧ s.cal.took.map (·.epoch) ≠ some s.chn.cur.epoch ∧ ((∀ j, j < 2 → scaleError [chargeSum s s.chn.cur.epoch c j 0, chargeSum s s.chn.cur.epoch c j 1] (s.mem.le (scaleRam + 2 * (2 * c + j)) 2) ≤ 2048)) ∧ s.cal.tries = [] ∧ s.cal.verifies < 2) ∧
    (∃ (c : Nat) (k : Nat) (a : Int) (b : Int) (s : State) (err : Nat), s.memOk ∧ s.fwRuns = true ∧ s.cal.kind = .full ∧ s.cal.phase = 3 ∧ c < 192 ∧ 2 ≤ k ∧ k ≤ 6 ∧ -32768 ≤ a ∧ a ≤ 32767 ∧ -32768 ≤ b ∧ b ≤ 32767 ∧ s.cal.measured = true ∧ s.chn.cur.kind = .inject true [c] ∧ s.chn.cur.dcause = 0 ∧ s.chn.seg ≠ 0 ∧ s.cal.took.map (·.epoch) ≠ some s.chn.cur.epoch ∧ ((∀ j, j < 2 → scaleError [chargeSum s s.chn.cur.epoch c j 0, chargeSum s s.chn.cur.epoch c j 1] (s.mem.le (scaleRam + 2 * (2 * c + j)) 2) ≤ 2048)) ∧ s.cal.tries = [{ chain := c, slot := k, attempts := 2, best := (a, b), err := err }]) ∧
    (∃ (c : Nat) (k : Nat) (i : Nat) (s : State), let p := s.params s.chn.prev.epoch; s.memOk ∧ s.chn.prev.kind = .trimMeasure ∧ s.chn.prev.dcause = 0 ∧ s.cal.phase = 4 ∧ c < p.s ∧ p.s ≤ 192 ∧ i < 128 ∧ p.kp = 2 + k ∧ k < 5) ∧
    (∃ (s : State), s.memOk ∧ s.elec.ltLeft ≠ 0 ∧ s.elec.ltCodes = []) ∧
    (∃ (pin : Nat) (s : State), s.memOk ∧ s.elec.ltLeft ≠ 0 ∧ s.elec.ltCodes = [(pin, 2)]) ∧
    (∃ (i : Nat) (pin : Nat) (s : State), s.memOk ∧ s.elec.ltLeft ≠ 0 ∧ s.elec.ltCodes = [(pin, i)] ∧ pin < 320 ∧ s.elec.code.length = 320) :=
  ⟨⟨1#32, { up with clk.core := true, clk.afe := true }, by simp only [State.memOk]; decide +kernel⟩,
   ⟨4#32, { up with clk.core := true, clk.afe := true }, by simp only [State.memOk]; decide +kernel⟩,
   ⟨1#32, { up with clk.core := true, clk.afe := true, cal.kind := .none, cal.fullDue := none, cal.groupDue := none }, by simp only [State.memOk]; decide +kernel⟩,
   ⟨1#32, { up with clk.core := true, clk.afe := true, cal.kind := .full }, by simp only [State.memOk]; decide +kernel⟩,
   ⟨2#32, { up with clk.core := true, clk.afe := true, cal.kind := .none, cal.fullDue := none, cal.groupDue := none }, by simp only [State.memOk]; decide +kernel⟩,
   ⟨8#32, { up with clk.core := true, clk.afe := true }, by simp only [State.memOk]; decide +kernel⟩,
   ⟨1, 2, 0, 0, { up with cal.kind := .full, cal.phase := 3, cal.measured := false, chn.prev.kind := .inject false [1], chn.prev.dcause := 0 }, by simp only [Runs, State.memOk]; decide +kernel⟩,
   ⟨1, 2, 0, 0, { up with cal.kind := .full, cal.phase := 3, cal.measured := true, chn.cur.kind := .inject true [1], chn.cur.dcause := 0, cal.tries := [], chn.seg := 1, cal.took := none, mem := scaleMem }, by simp only [Runs, State.memOk]; decide +kernel⟩,
   ⟨1, 2, 0, 0, { up with cal.kind := .full, cal.phase := 3, cal.measured := true, chn.cur.kind := .inject true [1], chn.cur.dcause := 0, chn.seg := 1, mem := scaleMem, cal.tries := [{ chain := 1, slot := 2, attempts := 2, best := (0, 0), err := 1 }] }, 1, by simp only [Runs, State.memOk]; decide +kernel⟩,
   ⟨1, 1, 1, { up with chn.prev.kind := .trimMeasure, chn.prev.dcause := 0, cal.phase := 4, mem := Memory.write [] (hdrBase 0 + 5) [3#8, 0#8, 0#8, 4#8, 4#8] }, by simp only [State.memOk]; decide +kernel⟩,
   ⟨{ up with elec.ltCodes := [], elec.ltLeft := 1 }, by simp only [State.memOk]; decide +kernel⟩,
   ⟨1, { up with elec.ltCodes := [(1, 2)], elec.ltLeft := 1 }, by simp only [State.memOk]; decide +kernel⟩,
   ⟨3, 319, { up with elec.ltCodes := [(319, 3)], elec.ltLeft := 1 }, by simp only [State.memOk]; decide +kernel⟩⟩

theorem witness_FramesArriveInOrderOnce :
    (∃ (p : Port) (f : CFrame) (bs : List LinkBlock) (s : State), let q := s.port p; let mine := s.isRoot = true ∨ s.crl.enrolled = true; let whole : Prop := wireOk f (hearBlocks q bs).2 = true; s.onRing = true ∧ s.memOk ∧ (s.port p).state = 2 ∧ whole ∧ f.seq = (q.rxSeq + 1) % 4096 ∧ mine ∧ forStranger f.msg = false ∧ f.bcast = false ∧ f.dst = s.tile ∧ (f.parts ≤ 1 ∨ (f.src, 1024 * f.num + f.part) ∉ s.crl.accepted) ∧ s.clk.core = true) ∧
    (∃ (p : Port) (f : CFrame) (bs : List LinkBlock) (s : State), let q := s.port p; let mine := s.isRoot = true ∨ s.crl.enrolled = true; let whole : Prop := wireOk f (hearBlocks q bs).2 = true; s.onRing = true ∧ s.memOk ∧ (s.port p).state = 2 ∧ whole ∧ f.seq = (q.rxSeq + 1) % 4096 ∧ mine ∧ forStranger f.msg = false ∧ f.bcast = false ∧ f.dst = s.tile ∧ 1 < f.parts ∧ (f.src, 1024 * f.num + f.part) ∈ s.crl.accepted) ∧
    (∃ (p : Port) (f : CFrame) (bs : List LinkBlock) (s : State), let q := s.port p; let out : Port := if f.dirn then .up else .dn; let mine := s.isRoot = true ∨ s.crl.enrolled = true; let whole : Prop := wireOk f (hearBlocks q bs).2 = true; s.onRing = true ∧ s.memOk ∧ (s.port p).state = 2 ∧ whole ∧ f.seq = (q.rxSeq + 1) % 4096 ∧ mine ∧ forStranger f.msg = false ∧ f.bcast = false ∧ f.dst ≠ s.tile ∧ 1 < f.ttl ∧ (s.port out).state = 2 ∧ f.cls = 0) ∧
    (∃ (p : Port) (f : CFrame) (bs : List LinkBlock) (s : State), let q := s.port p; let mine := s.isRoot = true ∨ s.crl.enrolled = true; let whole : Prop := wireOk f (hearBlocks q bs).2 = true; s.onRing = true ∧ s.memOk ∧ (s.port p).state = 2 ∧ whole ∧ f.seq = (q.rxSeq + 1) % 4096 ∧ mine ∧ forStranger f.msg = false ∧ f.bcast = false ∧ f.dst ≠ s.tile ∧ f.ttl ≤ 1) ∧
    (∃ (p : Port) (f : CFrame) (bs : List LinkBlock) (s : State), let q := s.port p; let whole : Prop := wireOk f (hearBlocks q bs).2 = true; s.onRing = true ∧ s.memOk ∧ (s.port p).state = 2 ∧ whole ∧ f.seq = q.rxSeq % 4096 ∧ q.rxSeq < 4096) ∧
    (∃ (p : Port) (f : CFrame) (bs : List LinkBlock) (s : State), let q := s.port p; let whole : Prop := wireOk f (hearBlocks q bs).2 = true; s.onRing = true ∧ s.memOk ∧ (s.port p).state = 2 ∧ ¬whole) ∧
    (∃ (p : Port) (k : BlockKind) (v : Nat) (s : State), s.onRing = true ∧ s.memOk ∧ (s.port p).state = 2 ∧ (k = .cb0 ∨ k = .cb1) ∧ v < 2 ^ 56 ∧ v.testBit 12 = false) ∧
    (∃ (p : Port) (k : BlockKind) (v : Nat) (s : State), let q := s.port p; let left := q.held.filter (fun h => 2048 ≤ (v % 4096 + 4096 - h.1.seq) % 4096); let left := if left.length < q.held.length then left.map (fun h => (h.1, 0)) else left; let cred (i : Nat) : Nat := min (v / 2 ^ (16 + 5 * i) % 32) 16; s.onRing = true ∧ s.memOk ∧ (s.port p).state = 2 ∧ (k = .cb0 ∨ k = .cb1) ∧ v < 2 ^ 56 ∧ v.testBit 12 = true ∧ left ≠ [] ∧ ((∀ i, i < 3 → left.length ≤ cred i)) ∧ (left.all (fun h => h.2 < 7)) = true) ∧
    (∃ (p : Port) (s : State), let q := s.port p; s.onRing = true ∧ s.memOk ∧ (s.port p).state = 2 ∧ q.held ≠ [] ∧ ((∀ i, i < 3 → q.held.length ≤ q.cred.getD i 0)) ∧ (q.held.all (fun h => h.2 < 7)) = true) ∧
    (∃ (p : Port) (s : State), let q := s.port p; s.onRing = true ∧ s.memOk ∧ (s.port p).state = 2 ∧ q.held ≠ [] ∧ ((∀ i, i < 3 → q.held.length ≤ q.cred.getD i 0)) ∧ (q.held.any (fun h => 7 ≤ h.2)) = true) ∧
    (∃ (p : Port) (f : CFrame) (rest : List CFrame) (s : State), let q := s.port p; s.onRing = true ∧ s.memOk ∧ (s.port p).state = 2 ∧ q.late = [] ∧ q.held.length < 64 ∧ q.again = 0 ∧ q.q0 = f :: rest ∧ 0 < q.cred.getD 0 0) ∧
    (∃ (p : Port) (f : CFrame) (rest : List CFrame) (s : State), let q := s.port p; s.onRing = true ∧ s.memOk ∧ (s.port p).state = 2 ∧ q.late = [] ∧ q.held.length < 64 ∧ q.again = 0 ∧ (q.q0 = [] ∨ q.cred.getD 0 0 = 0) ∧ q.q1 = f :: rest ∧ 0 < q.cred.getD 1 0) ∧
    (∃ (p : Port) (s : State), let q := s.port p; s.onRing = true ∧ s.memOk ∧ (s.port p).state = 2 ∧ q.late = [] ∧ q.held.length < 64 ∧ q.again = 0 ∧ q.cred = [0, 0, 0]) ∧
    (∃ (p : Port) (s : State), let q := s.port p; s.onRing = true ∧ s.memOk ∧ (s.port p).state = 2 ∧ q.late = [] ∧ 64 ≤ q.held.length ∧ q.again = 0) :=
  ⟨⟨.up, frA, frLine frA, { up with crl.up.state := 2, clk.core := true }, by simp only [State.memOk]; decide +kernel⟩,
   ⟨.up, frB, frLine frB, { up with crl.up.state := 2, crl.accepted := [(1, 1024)] }, by simp only [State.memOk]; decide +kernel⟩,
   ⟨.up, frC, frLine frC, { up with crl.up.state := 2, crl.dn.state := 2 }, by simp only [State.memOk]; decide +kernel⟩,
   ⟨.up, frD, frLine frD, { up with crl.up.state := 2 }, by simp only [State.memOk]; decide +kernel⟩,
   ⟨.up, frE, frLine frE, { up with crl.up.state := 2 }, by simp only [State.memOk]; decide +kernel⟩,
   ⟨.up, { fr with seq := 0 }, [], { up with crl.up.state := 2 }, by simp only [State.memOk]; decide +kernel⟩,
   ⟨.up, .cb0, 1, { up with crl.up.state := 2 }, by simp only [State.memOk]; decide +kernel⟩,
   ⟨.up, .cb0, 69275648, { up with crl.up.state := 2, crl.up.held := [({ fr with seq := 5 }, 1)] }, by simp only [State.memOk]; decide +kernel⟩,
   ⟨.up, { up with crl.up.state := 2, crl.up.held := [(fr, 0)], crl.up.cred := [1, 1, 1] }, by simp only [State.memOk]; decide +kernel⟩,
   ⟨.up, { up with crl.up.state := 2, crl.up.held := [(fr, 7)], crl.up.cred := [1, 1, 1] }, by simp only [State.memOk]; decide +kernel⟩,
   ⟨.up, fr, [], { up with crl.up.state := 2, crl.up.late := [], crl.up.again := 0, crl.up.q0 := [fr], crl.up.cred := [1, 1, 1] }, by simp only [State.memOk]; decide +kernel⟩,
   ⟨.up, fr, [], { up with crl.up.state := 2, crl.up.late := [], crl.up.again := 0, crl.up.q1 := [fr], crl.up.cred := [1, 1, 1] }, by simp only [State.memOk]; decide +kernel⟩,
   ⟨.up, { up with crl.up.state := 2, crl.up.late := [], crl.up.again := 0, crl.up.cred := [0, 0, 0] }, by simp only [State.memOk]; decide +kernel⟩,
   ⟨.up, { up with crl.up.state := 2, crl.up.late := [], crl.up.again := 0, crl.up.held := List.replicate 64 (fr, 0) }, by simp only [State.memOk]; decide +kernel⟩⟩

theorem witness_PortsGoDownAndTrainAgain :
    (∃ (p : Port) (s : State), let q := s.port p; s.onRing = true ∧ s.memOk ∧ q.state = 2) ∧
    (∃ (p : Port) (s : State), let q := s.port p; s.onRing = true ∧ s.memOk ∧ q.state ≠ 2) ∧
    (∃ (p : Port) (s : State), let q := s.port p; s.onRing = true ∧ s.memOk ∧ q.state = 0) ∧
    (∃ (p : Port) (lat : Nat) (s : State), let q := s.port p; s.onRing = true ∧ s.memOk ∧ q.state = 1 ∧ lat ≤ 768) ∧
    (∃ (p : Port) (lat : Nat) (s : State), let q := s.port p; s.onRing = true ∧ s.memOk ∧ q.state = 1 ∧ 768 < lat ∧ lat < 65536) :=
  ⟨⟨.up, { up with crl.up.state := 2 }, by simp only [State.memOk]; decide +kernel⟩,
   ⟨.up, up, by simp only [State.memOk]; decide +kernel⟩,
   ⟨.up, { up with crl.up.state := 0 }, by simp only [State.memOk]; decide +kernel⟩,
   ⟨.up, 1, { up with crl.up.state := 1 }, by simp only [State.memOk]; decide +kernel⟩,
   ⟨.up, 769, { up with crl.up.state := 1 }, by simp only [State.memOk]; decide +kernel⟩⟩

theorem witness_EnrolmentFormsTheArray :
    (∃ (p : Port) (s : State), s.clk.link = true ∧ s.memOk ∧ s.isMember = true ∧ s.crl.enrolled = false ∧ (s.port p).state = 2 ∧ s.crl.inbox = []) ∧
    (∃ (s : State), s.clk.link = true ∧ s.memOk ∧ s.isMember = true ∧ s.crl.enrolled = true ∧ s.crl.inbox = []) ∧
    (∃ (s : State), s.clk.link = true ∧ s.memOk ∧ s.isMember = true ∧ s.arr.quiet = []) ∧
    (∃ (p : Port) (s : State), s.clk.link = true ∧ s.memOk ∧ s.isRoot = true ∧ s.crl.inbox = [] ∧ s.arr.probe = some .dn ∧ p = .up) ∧
    (∃ (s : State), s.clk.link = true ∧ s.memOk ∧ s.isRoot = true ∧ s.arr.probe = some .up) ∧
    (∃ (p : Port) (s : State), s.clk.link = true ∧ s.memOk ∧ s.isRoot = true ∧ s.arr.probe = some p ∧ s.arr.resetMember = none ∧ s.arr.forming = true ∧ s.arr.upward = false ∧ s.crl.own ≠ none ∧ 0 < s.arr.nextPos ∧ s.arr.nextPos < s.arr.nmap ∧ (s.port p).state = 2) ∧
    (∃ (tile : Nat) (level : Nat) (raw : List Byte) (s : State), let rc := tileRecOf raw; s.clk.link = true ∧ s.memOk ∧ s.isRoot = true ∧ rc.format = 1 ∧ rc.tile = tile ∧ rc.crcOk = true ∧ rc.nbrs = [] ∧ tile < s.arr.nmap ∧ s.arr.fwUpdate = none ∧ tile < 64 ∧ level ≠ 0 ∧ s.arr.forming = true ∧ tile ∉ s.crl.online) ∧
    (∃ (tile : Nat) (raw : List Byte) (s : State), let rc := tileRecOf raw; s.clk.link = true ∧ s.memOk ∧ s.isRoot = true ∧ rc.format = 1 ∧ rc.tile = tile ∧ rc.crcOk = true ∧ rc.nbrs = [] ∧ tile < s.arr.nmap ∧ s.arr.fwUpdate = none ∧ tile < 64 ∧ s.arr.fwSent = false) ∧
    (∃ (tile : Nat) (raw : List Byte) (s : State), let rc := tileRecOf raw; s.clk.link = true ∧ s.memOk ∧ s.isRoot = true ∧ rc.format ≠ 1 ∧ tile ∈ s.arr.awaitReady ∧ s.evt.buf.length < 64 ∧ tile < 64) ∧
    (∃ (s : State), s.clk.link = true ∧ s.memOk ∧ s.isRoot = true ∧ s.arr.forming = true ∧ s.arr.fwSent = false ∧ s.arr.probe = none) ∧
    (∃ (s : State), s.clk.link = true ∧ s.memOk ∧ s.isRoot = true ∧ s.arr.fwSent = true) :=
  ⟨⟨.up, { up with clk.link := true, boot.role := .member, crl.enrolled := false, crl.up.state := 2, crl.inbox := [] }, by simp only [State.memOk]; decide +kernel⟩,
   ⟨{ up with clk.link := true, boot.role := .member, crl.enrolled := true, crl.inbox := [] }, by simp only [State.memOk]; decide +kernel⟩,
   ⟨{ up with clk.link := true, boot.role := .member, arr.quiet := [] }, by simp only [State.memOk]; decide +kernel⟩,
   ⟨.up, { up with clk.link := true, crl.inbox := [], arr.probe := some .dn }, by simp only [State.memOk]; decide +kernel⟩,
   ⟨{ up with clk.link := true, arr.probe := some .up }, by simp only [State.memOk]; decide +kernel⟩,
   ⟨.up, { up with clk.link := true, arr.probe := some .up, arr.resetMember := none, arr.forming := true, arr.upward := false, crl.up.state := 2, crl.own := some rc0, arr.nmap := 3, arr.nextPos := 1 }, by simp only [State.memOk]; decide +kernel⟩,
   ⟨1, 1, rawTile, { up with clk.link := true, arr.fwUpdate := none, arr.forming := true, arr.nmap := 3 }, by dsimp only; exact ⟨rfl, by simp only [State.memOk]; decide +kernel, rfl, by decide +kernel, by decide +kernel, rawTile_ok, by decide +kernel, by decide, rfl, by decide, by decide, rfl, by decide⟩⟩,
   ⟨1, rawTile, { up with clk.link := true, arr.fwUpdate := none, arr.fwSent := false, arr.nmap := 3 }, by dsimp only; exact ⟨rfl, by simp only [State.memOk]; decide +kernel, rfl, by decide +kernel, by decide +kernel, rawTile_ok, by decide +kernel, by decide, rfl, by decide, rfl⟩⟩,
   ⟨1, [2#8], { up with clk.link := true, arr.awaitReady := [1] }, by simp only [Ready, State.memOk]; decide +kernel⟩,
   ⟨{ up with clk.link := true, arr.forming := true, arr.fwSent := false, arr.probe := none }, by simp only [State.memOk]; decide +kernel⟩,
   ⟨{ up with clk.link := true, arr.fwSent := true }, by simp only [State.memOk]; decide +kernel⟩⟩

theorem witness_MarkersLockTheTimer :
    (∃ (p : Port) (n : Nat) (delay : Nat) (hops : Nat) (err : Int) (e1 : Int) (s : State), s.isMember = true ∧ s.clk.link = true ∧ s.memOk ∧ n < 2 ^ 16 ∧ delay < 2 ^ 24 ∧ hops < 64 ∧ -32768 ≤ err ∧ err ≤ 32767 ∧ -32768 ≤ e1 ∧ e1 ≤ 32767 ∧ (s.port p).state = 2 ∧ s.crl.best = none ∧ s.crl.first = none ∧ (s.chn.timer = false ∨ s.twoMarks = false)) ∧
    (∃ (p : Port) (n : Nat) (delay : Nat) (hops : Nat) (err : Int) (e1 : Int) (s : State), s.isMember = true ∧ s.clk.link = true ∧ s.memOk ∧ n < 2 ^ 16 ∧ delay < 2 ^ 24 ∧ hops < 64 ∧ -32768 ≤ err ∧ err ≤ 32767 ∧ -32768 ≤ e1 ∧ e1 ≤ 32767 ∧ (s.port p).state = 2 ∧ s.crl.best = none ∧ s.crl.first = none ∧ s.chn.timer = true ∧ s.twoMarks = true) ∧
    (∃ (p : Port) (n : Nat) (delay : Nat) (hops : Nat) (h1 : Nat) (err : Int) (e1 : Int) (s : State), let o : Port := match p with | .up => .dn | .dn => .up; s.isMember = true ∧ s.clk.link = true ∧ s.memOk ∧ n < 2 ^ 16 ∧ delay < 2 ^ 24 ∧ hops < 64 ∧ -32768 ≤ err ∧ err ≤ 32767 ∧ -32768 ≤ e1 ∧ e1 ≤ 32767 ∧ (s.port p).state = 2 ∧ s.crl.best = none ∧ s.crl.first = some (h1, o, e1)) ∧
    (∃ (n : Nat) (delay : Nat) (hops : Nat) (err : Int) (e1 : Int) (s : State), s.isMember = true ∧ s.clk.link = true ∧ s.memOk ∧ n < 2 ^ 16 ∧ delay < 2 ^ 24 ∧ hops < 64 ∧ -32768 ≤ err ∧ err ≤ 32767 ∧ -32768 ≤ e1 ∧ e1 ≤ 32767 ∧ s.crl.best ≠ none) ∧
    (∃ (n : Nat) (delay : Nat) (hops : Nat) (err : Int) (e1 : Int) (e : Nat) (s : State), s.isMember = true ∧ s.clk.link = true ∧ s.memOk ∧ n < 2 ^ 16 ∧ delay < 2 ^ 24 ∧ hops < 64 ∧ -32768 ≤ err ∧ err ≤ 32767 ∧ -32768 ≤ e1 ∧ e1 ≤ 32767 ∧ s.crl.inbox = [] ∧ e < 2 ^ 32 ∧ e = s.epoch) ∧
    (∃ (n : Nat) (delay : Nat) (hops : Nat) (err : Int) (e1 : Int) (e : Nat) (s : State), s.isMember = true ∧ s.clk.link = true ∧ s.memOk ∧ n < 2 ^ 16 ∧ delay < 2 ^ 24 ∧ hops < 64 ∧ -32768 ≤ err ∧ err ≤ 32767 ∧ -32768 ≤ e1 ∧ e1 ≤ 32767 ∧ s.crl.inbox = [] ∧ e < 2 ^ 32 ∧ e ≠ s.epoch) :=
  ⟨⟨.up, 1, 1, 1, 0, 0, { up with boot.role := .member, clk.link := true, crl.up.state := 2, crl.best := none, crl.first := none }, by simp only [State.memOk]; decide +kernel⟩,
   ⟨.up, 1, 1, 1, 0, 0, { up with boot.role := .member, clk.link := true, crl.up.state := 2, crl.best := none, crl.first := none, chn.timer := true, crl.dn.state := 2 }, by simp only [State.memOk]; decide +kernel⟩,
   ⟨.up, 1, 1, 1, 3, 0, 5, { up with boot.role := .member, clk.link := true, crl.up.state := 2, crl.best := none, crl.first := some (3, .dn, 5) }, by simp only [State.memOk]; decide +kernel⟩,
   ⟨1, 1, 1, 0, 0, { up with boot.role := .member, clk.link := true, crl.best := some (1, .up) }, by simp only [State.memOk]; decide +kernel⟩,
   ⟨1, 1, 1, 0, 0, 0, { up with boot.role := .member, clk.link := true, crl.inbox := [] }, by simp only [State.memOk]; decide +kernel⟩,
   ⟨1, 1, 1, 0, 0, 7, { up with boot.role := .member, clk.link := true, crl.inbox := [] }, by simp only [State.memOk]; decide +kernel⟩⟩

theorem witness_LinkAndMemberLoss :
    (∃ (s : State), s.clk.link = true ∧ s.memOk ∧ s.crl.inbox = [] ∧ s.isMember = true) ∧
    (∃ (s : State), s.clk.link = true ∧ s.memOk ∧ s.crl.inbox = [] ∧ s.isRoot = true ∧ s.arr.breaks = []) ∧
    (∃ (k : Nat) (s : State), let n := if s.arr.ring = 0 then s.crl.ntiles else s.arr.ring; s.clk.link = true ∧ s.memOk ∧ s.crl.inbox = [] ∧ s.isRoot = true ∧ 0 < k ∧ k + 1 < n ∧ n ≤ 64 ∧ 1 < s.crl.ntiles ∧ s.arr.cut = [] ∧ (s.crl.online.all (· < n)) = true ∧ s.evt.buf.length < 60 ∧ s.arr.breaks = [(k, .dn), (k + 1, .up)]) ∧
    (∃ (k : Nat) (s : State), let n := if s.arr.ring = 0 then s.crl.ntiles else s.arr.ring; s.clk.link = true ∧ s.memOk ∧ s.crl.inbox = [] ∧ s.isRoot = true ∧ 0 < k ∧ k + 1 < n ∧ n ≤ 64 ∧ 1 < s.crl.ntiles ∧ s.arr.cut = [] ∧ s.crl.online = [0, k + 1] ∧ s.evt.buf.length < 60 ∧ s.jrn = [] ∧ s.ctx.job = none ∧ s.ctx.doomed = [] ∧ s.rpt.asm = [] ∧ s.rings.tableValid = true ∧ s.arr.breaks = [(k, .dn)]) ∧
    (∃ (k : Nat) (s : State), s.clk.link = true ∧ s.memOk ∧ s.crl.inbox = [] ∧ s.isRoot = true ∧ k < 64 ∧ k ∈ s.crl.online ∧ k ∉ s.arr.quiet ∧ s.arr.cut = [k]) :=
  ⟨⟨{ up with clk.link := true, crl.inbox := [], boot.role := .member }, by simp only [State.memOk]; decide +kernel⟩,
   ⟨{ up with clk.link := true, crl.inbox := [], arr.breaks := [] }, by simp only [State.memOk]; decide +kernel⟩,
   ⟨1, { up with clk.link := true, crl.inbox := [], arr.cut := [], arr.breaks := [(1, .dn), (1 + 1, .up)], crl.ntiles := 4 }, by simp only [State.memOk]; decide +kernel⟩,
   ⟨1, { up with clk.link := true, crl.inbox := [], arr.cut := [], crl.online := [0, 1 + 1], jrn := [], ctx.job := none, ctx.doomed := [], rpt.asm := [], rings.tableValid := true, arr.breaks := [(1, .dn)], crl.ntiles := 4 }, by simp only [State.memOk]; decide +kernel⟩,
   ⟨1, { up with clk.link := true, crl.inbox := [], arr.cut := [1], crl.online := [0, 1] }, by simp only [State.memOk]; decide +kernel⟩⟩

theorem witness_CrookMergesAFrameOnce :
    (∃ (s : State), s.clk.core = true ∧ s.memOk ∧ s.crl.inbox = [] ∧ s.crookDue = true ∧ s.trk.tab = List.replicate 64 none ∧ s.trk.frags = [] ∧ s.crook.sets = [] ∧ (s.boot.role = .standalone ∨ s.trk.report.recs = []) ∧ s.pwr.state = .active ∧ s.crook.waiting = []) ∧
    (∃ (s : State), s.clk.core = true ∧ s.memOk ∧ s.crl.inbox = [] ∧ s.crookDue = true ∧ s.trk.tab = List.replicate 64 none ∧ s.trk.frags = [] ∧ s.crook.sets = [] ∧ (s.boot.role = .standalone ∨ s.trk.report.recs = []) ∧ s.pwr.state = .active ∧ s.crook.waiting ≠ [] ∧ s.crook.deadline = true) ∧
    (∃ (s : State), s.clk.core = true ∧ s.memOk ∧ s.crl.inbox = [] ∧ s.crookDue = true ∧ s.trk.tab = List.replicate 64 none ∧ s.trk.frags = [] ∧ s.crook.sets = [] ∧ (s.boot.role = .standalone ∨ s.trk.report.recs = []) ∧ s.pwr.state = .active ∧ s.crook.waiting ≠ [] ∧ s.crook.deadline = false) ∧
    (∃ (s : State), s.clk.core = true ∧ s.memOk ∧ s.crl.inbox = [] ∧ s.crookDue = true ∧ s.trk.tab = List.replicate 64 none ∧ s.trk.frags = [] ∧ s.crook.sets = [] ∧ (s.boot.role = .standalone ∨ s.trk.report.recs = []) ∧ s.pwr.state = .active ∧ s.chn.timer = true) ∧
    (∃ (s : State), s.clk.core = true ∧ s.memOk ∧ s.crl.inbox = [] ∧ s.crookDue = false ∧ s.chn.timer = true) ∧
    (∃ (f : FragSet) (s : State), s.clk.core = true ∧ s.memOk ∧ s.crl.inbox = [] ∧ s.onRing = true ∧ (s.seams.any (·.1 == f.src)) = true ∧ add32 f.epoch 1 = s.epoch ∧ s.epoch < 2 ^ 32 ∧ f.epoch < 2 ^ 32 ∧ s.crook.deadline = false) ∧
    (∃ (f : FragSet) (s : State), s.clk.core = true ∧ s.memOk ∧ s.crl.inbox = [] ∧ s.onRing = true ∧ (s.seams.any (·.1 == f.src)) = true ∧ add32 f.epoch 1 = s.epoch ∧ s.epoch < 2 ^ 32 ∧ f.epoch < 2 ^ 32 ∧ s.crook.deadline = true) :=
  ⟨⟨{ up with clk.core := true, crl.inbox := [], trk.tab := List.replicate 64 none, trk.frags := [], crook.sets := [], boot.role := .standalone, pwr.state := .active, crook.waiting := [], chn.prev.kind := .normal, chn.prev.tracked := true }, by simp only [State.memOk]; decide +kernel⟩,
   ⟨{ up with clk.core := true, crl.inbox := [], trk.tab := List.replicate 64 none, trk.frags := [], crook.sets := [], boot.role := .standalone, pwr.state := .active, crook.deadline := true, chn.prev.kind := .normal, chn.prev.tracked := true, crook.waiting := [1] }, by simp only [State.memOk]; decide +kernel⟩,
   ⟨{ up with clk.core := true, crl.inbox := [], trk.tab := List.replicate 64 none, trk.frags := [], crook.sets := [], boot.role := .standalone, pwr.state := .active, crook.deadline := false, chn.prev.kind := .normal, chn.prev.tracked := true, crook.waiting := [1] }, by simp only [State.memOk]; decide +kernel⟩,
   ⟨{ up with clk.core := true, crl.inbox := [], trk.tab := List.replicate 64 none, trk.frags := [], crook.sets := [], boot.role := .standalone, pwr.state := .active, chn.timer := true, chn.prev.kind := .normal, chn.prev.tracked := true }, by simp only [State.memOk]; decide +kernel⟩,
   ⟨{ up with clk.core := true, crl.inbox := [], chn.timer := true }, by simp only [State.memOk]; decide +kernel⟩,
   ⟨fs0, { up with clk.core := true, crl.inbox := [], crook.deadline := false, epoch := 1, crl.own := some { rc0 with nbrs := [(5, 0)] }, crl.online := [0, 5] }, by simp only [State.memOk]; decide +kernel⟩,
   ⟨fs0, { up with clk.core := true, crl.inbox := [], crook.deadline := true, epoch := 1, crl.own := some { rc0 with nbrs := [(5, 0)] }, crl.online := [0, 5] }, by simp only [State.memOk]; decide +kernel⟩⟩

theorem witness_MembersReachTheRoot :
    (∃ (tile : Nat) (epoch : Nat) (ps : List (List Byte)) (f : CFrame) (present : Bool) (s : State), let whole := ps.map (·.length) = 120 :: List.replicate 15 128 ++ [72]; s.isRoot = true ∧ s.clk.core = true ∧ s.memOk ∧ 0 < tile ∧ tile < 64 ∧ tile ∈ s.crl.online ∧ s.arr.resetMember = none ∧ whole ∧ s.rings.tableValid = true ∧ s.crl.inbox = [f] ∧ f.src = tile ∧ f.msg = .report epoch 16 (ps.getD 16 []) present ∧ s.rpt.asm = [{ tile := tile, epoch := epoch, parts := (List.zip (List.range 16) ps) }]) ∧
    (∃ (tile : Nat) (r0 : Nat) (ps : List (List Byte)) (s : State), s.isRoot = true ∧ s.clk.core = true ∧ s.memOk ∧ 0 < tile ∧ tile < 64 ∧ tile ∈ s.crl.online ∧ s.arr.resetMember = none ∧ ps.length = 17 ∧ s.rpt.asm = [] ∧ s.crl.inbox = [] ∧ r0 < 17) ∧
    (∃ (tile : Nat) (epoch : Nat) (ps : List (List Byte)) (s : State), let whole := ps.map (·.length) = 120 :: List.replicate 15 128 ++ [72]; s.isRoot = true ∧ s.clk.core = true ∧ s.memOk ∧ 0 < tile ∧ tile < 64 ∧ tile ∈ s.crl.online ∧ s.arr.resetMember = none ∧ whole ∧ s.rings.tableValid = true ∧ s.rpt.asm = [{ tile := tile, epoch := epoch, parts := [(0, ps.getD 0 [])] }]) ∧
    (∃ (tile : Nat) (d0 : Nat) (d1 : Nat) (s : State), s.isRoot = true ∧ s.clk.core = true ∧ s.memOk ∧ 0 < tile ∧ tile < 64 ∧ tile ∈ s.crl.online ∧ s.arr.resetMember = none ∧ s.crl.inbox = [] ∧ s.evt.buf.length < 64 ∧ d0 < 2 ^ 32 ∧ d1 < 2 ^ 31) ∧
    (∃ (tile : Nat) (s : State), s.isRoot = true ∧ s.clk.core = true ∧ s.memOk ∧ 0 < tile ∧ tile < 64 ∧ tile ∈ s.crl.online ∧ s.arr.resetMember = none ∧ s.crl.inbox = [] ∧ s.evt.buf.length = 64 ∧ s.evt.lost < 1000) ∧
    (∃ (tile : Nat) (num : Nat) (code : Nat) (e : JEntry) (s : State), s.isRoot = true ∧ s.clk.core = true ∧ s.memOk ∧ 0 < tile ∧ tile < 64 ∧ tile ∈ s.crl.online ∧ s.arr.resetMember = none ∧ s.crl.inbox = [] ∧ s.entry num = some e ∧ e.stage = .issued ∧ (e.d.opcode = 0x20 ∨ e.d.opcode = 0x41) ∧ e.tiles = [tile] ∧ e.code = 0 ∧ (code ≠ 0 ∨ e.d.tile ≠ 0xFF)) ∧
    (∃ (tile : Nat) (num : Nat) (e : JEntry) (s : State), s.isRoot = true ∧ s.clk.core = true ∧ s.memOk ∧ 0 < tile ∧ tile < 64 ∧ tile ∈ s.crl.online ∧ s.arr.resetMember = none ∧ s.crl.inbox = [] ∧ s.entry num = some e ∧ e.stage = .issued ∧ (e.d.opcode = 0x20 ∨ e.d.opcode = 0x41) ∧ e.tiles = [tile, tile + 1]) ∧
    (∃ (tile : Nat) (num : Nat) (e : JEntry) (s : State), s.isRoot = true ∧ s.clk.core = true ∧ s.memOk ∧ 0 < tile ∧ tile < 64 ∧ tile ∈ s.crl.online ∧ s.arr.resetMember = none ∧ s.crl.inbox = [] ∧ s.entry num = some e ∧ e.stage = .issued ∧ e.d.opcode = 0x13 ∧ e.tiles = [tile] ∧ e.code = 0 ∧ e.d.tile = tile ∧ s.dmaOk = false) ∧
    (∃ (tile : Nat) (num : Nat) (e : JEntry) (s : State), s.isRoot = true ∧ s.clk.core = true ∧ s.memOk ∧ 0 < tile ∧ tile < 64 ∧ tile ∈ s.crl.online ∧ s.arr.resetMember = none ∧ s.crl.inbox = [] ∧ s.entry num = some e ∧ e.stage = .issued ∧ e.d.opcode = 0x13 ∧ e.tiles = [tile] ∧ e.code = 0 ∧ e.d.tile = tile ∧ s.dmaOk = true) :=
  ⟨⟨1, 1, parts, { fr with src := 1, msg := .report 1 16 (List.replicate 72 0#8) true }, true, { up with clk.core := true, arr.resetMember := none, rings.tableValid := true, crl.inbox := [{ fr with src := 1, msg := .report 1 16 (List.replicate 72 0#8) true }], crl.online := [0, 1], rpt.asm := [{ tile := 1, epoch := 1, parts := List.zip (List.range 16) parts }] }, by simp only [State.memOk]; decide +kernel⟩,
   ⟨1, 1, parts, { up with clk.core := true, arr.resetMember := none, rpt.asm := [], crl.inbox := [], crl.online := [0, 1] }, by simp only [State.memOk]; decide +kernel⟩,
   ⟨1, 1, parts, { up with clk.core := true, arr.resetMember := none, rings.tableValid := true, crl.online := [0, 1], rpt.asm := [{ tile := 1, epoch := 1, parts := [(0, List.replicate 120 0#8)] }] }, by simp only [State.memOk]; decide +kernel⟩,
   ⟨1, 1, 1, { up with clk.core := true, arr.resetMember := none, crl.inbox := [], crl.online := [0, 1] }, by simp only [State.memOk]; decide +kernel⟩,
   ⟨1, { up with clk.core := true, arr.resetMember := none, crl.inbox := [], crl.online := [0, 1], evt.buf := List.replicate 64 ev0 }, by simp only [State.memOk]; decide +kernel⟩,
   ⟨1, 1, 1, { je with tiles := [1], d.opcode := 0x20 }, { up with clk.core := true, arr.resetMember := none, crl.inbox := [], jrn := [{ je with tiles := [1], d.opcode := 0x20 }], crl.online := [0, 1] }, by simp only [State.memOk]; decide +kernel⟩,
   ⟨1, 1, { je with tiles := [1, 2], d.opcode := 0x20 }, { up with clk.core := true, arr.resetMember := none, crl.inbox := [], jrn := [{ je with tiles := [1, 2], d.opcode := 0x20 }], crl.online := [0, 1] }, by simp only [State.memOk]; decide +kernel⟩,
   ⟨1, 1, { je with tiles := [1], d.opcode := 0x13, d.tile := 1 }, { up with clk.core := true, arr.resetMember := none, crl.inbox := [], jrn := [{ je with tiles := [1], d.opcode := 0x13, d.tile := 1 }], host.bme := false, crl.online := [0, 1] }, by simp only [State.memOk]; decide +kernel⟩,
   ⟨1, 1, { je with tiles := [1], d.opcode := 0x13, d.tile := 1 }, { up with clk.core := true, arr.resetMember := none, crl.inbox := [], jrn := [{ je with tiles := [1], d.opcode := 0x13, d.tile := 1 }], crl.online := [0, 1] }, by simp only [State.memOk]; decide +kernel⟩⟩

theorem witness_CommitsCrossTheArray :
    (∃ (tile : Nat) (code : Nat) (off : Nat) (slot : Nat) (e : JEntry) (g : CommitJob) (s : State), s.memOk ∧ s.isRoot = true ∧ s.clk.link = true ∧ s.ctx.job = some g ∧ g.decided = false ∧ g.waiting = [tile] ∧ tile ≠ 0 ∧ tile < 64 ∧ g.set = [0, tile] ∧ g.slot < 8 ∧ g.replies = [(0, 0, 0)] ∧ g.cmd = some slot ∧ s.entry slot = some e ∧ e.stage = .issued ∧ s.ctx.slots.getD g.slot .empty = .checking ∧ s.ctx.slots.length = 8 ∧ s.ctx.gen < 2 ^ 32 - 1 ∧ 0 < code ∧ code < 256 ∧ code ≠ 0x81 ∧ off < 65536 ∧ g.named = none) ∧
    (∃ (tile : Nat) (slot : Nat) (e : JEntry) (g : CommitJob) (s : State), s.memOk ∧ s.isRoot = true ∧ s.clk.link = true ∧ s.ctx.job = some g ∧ g.decided = false ∧ g.waiting = [tile] ∧ tile ≠ 0 ∧ tile < 64 ∧ g.set = [0, tile] ∧ g.slot < 8 ∧ g.replies = [(0, 0, 0)] ∧ g.cmd = some slot ∧ s.entry slot = some e ∧ e.stage = .issued ∧ s.ctx.slots.getD g.slot .empty = .checking ∧ s.ctx.slots.length = 8 ∧ s.ctx.gen < 2 ^ 32 - 1 ∧ g.named = none ∧ s.ltCover = 0 ∧ s.epoch < 2 ^ 32 - 2) ∧
    (∃ (tile : Nat) (image : List Byte) (g : CommitJob) (s : State), s.memOk ∧ s.isRoot = true ∧ s.ctx.job = some g ∧ g.decided = true ∧ g.unarmed = [tile] ∧ tile < 64 ∧ image.length = 0x800) ∧
    (∃ (ea : Nat) (gen : Nat) (slot : Nat) (set : List Nat) (s : State), s.memOk ∧ s.isMember = true ∧ ea < 2 ^ 32 ∧ gen < 2 ^ 32 ∧ slot < 8 ∧ s.crl.tile ∈ set ∧ s.ctx.slots.getD slot .empty = .checking ∧ s.ctx.slots.length = 8 ∧ s.clk.link = true ∧ s.arr.quiet = []) ∧
    (∃ (ea : Nat) (gen : Nat) (slot : Nat) (set : List Nat) (s : State), s.memOk ∧ s.isMember = true ∧ ea < 2 ^ 32 ∧ gen < 2 ^ 32 ∧ slot < 8 ∧ s.crl.tile ∉ set) :=
  ⟨⟨1, 1, 1, 1, { je with cmd := 1, stage := .issued }, { gj with decided := false, waiting := [1], set := [0, 1], replies := [(0, 0, 0)], cmd := some 1, named := none }, { up with clk.link := true, ctx.job := some ({ gj with decided := false, waiting := [1], set := [0, 1], replies := [(0, 0, 0)], cmd := some 1, named := none }), jrn := [{ je with cmd := 1, stage := .issued }], ctx.slots := (List.replicate 8 .empty).set 1 .checking }, by simp only [State.memOk]; decide +kernel⟩,
   ⟨1, 1, { je with cmd := 1, stage := .issued }, { gj with decided := false, waiting := [1], set := [0, 1], replies := [(0, 0, 0)], cmd := some 1, named := none }, { up with clk.link := true, ctx.job := some ({ gj with decided := false, waiting := [1], set := [0, 1], replies := [(0, 0, 0)], cmd := some 1, named := none }), jrn := [{ je with cmd := 1, stage := .issued }], ctx.slots := (List.replicate 8 .empty).set 1 .checking }, by simp only [State.memOk]; decide +kernel⟩,
   ⟨1, List.replicate 0x800 0#8, { gj with decided := true, unarmed := [1] }, { up with ctx.job := some ({ gj with decided := true, unarmed := [1] }), ctx.slots := (List.replicate 8 .empty).set 1 .checking }, by simp only [State.memOk]; decide +kernel⟩,
   ⟨1, 1, 1, [0], { up with boot.role := .member, clk.link := true, arr.quiet := [], ctx.slots := (List.replicate 8 .empty).set 1 .checking }, by simp only [State.memOk]; decide +kernel⟩,
   ⟨1, 1, 1, [1], { up with boot.role := .member, ctx.slots := (List.replicate 8 .empty).set 1 .checking }, by simp only [State.memOk]; decide +kernel⟩⟩

theorem witness_MembersObeyTheRoot :
    (∃ (d : Desc) (s : State), s.isMember = true ∧ s.clk.link = true ∧ s.clk.core = true ∧ s.memOk ∧ s.arr.quiet = [] ∧ s.crl.inbox = [] ∧ s.fwRuns = true ∧ d.opcode = 0x41 ∧ s.mbx.q1.length < 8) ∧
    (∃ (d : Desc) (s : State), s.isMember = true ∧ s.clk.link = true ∧ s.clk.core = true ∧ s.memOk ∧ s.arr.quiet = [] ∧ s.crl.inbox = [] ∧ s.fwRuns = true ∧ d.opcode = 0x21) ∧
    (∃ (d : Desc) (s : State), s.isMember = true ∧ s.clk.link = true ∧ s.clk.core = true ∧ s.memOk ∧ s.arr.quiet = [] ∧ s.crl.inbox = [] ∧ s.fwRuns = true ∧ d.opcode = 0x01) ∧
    (∃ (num : Nat) (s : State), s.isMember = true ∧ s.clk.link = true ∧ s.clk.core = true ∧ s.memOk ∧ s.arr.quiet = [] ∧ s.crl.inbox = [] ∧ s.fwRuns = true ∧ num < 8 ∧ s.ctx.slots.getD num .empty = .empty) ∧
    (∃ (num : Nat) (d : Desc) (data : List Byte) (s : State), s.isMember = true ∧ s.clk.link = true ∧ s.clk.core = true ∧ s.memOk ∧ s.arr.quiet = [] ∧ s.crl.inbox = [] ∧ s.fwRuns = true ∧ s.ctx.staging = [(num, d)] ∧ d.opcode = 0x10 ∧ d.p1 = data.length ∧ d.p0 + d.p1 ≤ 2048 ∧ d.a0 % 64 < 16 ∧ s.ctx.slots.length = 8) ∧
    (∃ (data : List Byte) (s : State), let n := leAt data 1 1 % 8; s.isMember = true ∧ s.clk.link = true ∧ s.clk.core = true ∧ s.memOk ∧ s.arr.quiet = [] ∧ s.crl.inbox = [] ∧ s.fwRuns = true ∧ data.length = 0x800 ∧ s.ctx.slots.length = 8 ∧ crc32 (data.drop 0x40) = leAt data 0x00C 4 ∧ s.pendingSlot = none ∧ (s.slot n = .draining ∨ s.slot n = .checking)) ∧
    (∃ (data : List Byte) (s : State), let n := leAt data 1 1 % 8; s.isMember = true ∧ s.clk.link = true ∧ s.clk.core = true ∧ s.memOk ∧ s.arr.quiet = [] ∧ s.crl.inbox = [] ∧ s.fwRuns = true ∧ data.length = 0x800 ∧ s.ctx.slots.length = 8 ∧ crc32 (data.drop 0x40) = leAt data 0x00C 4 ∧ s.pendingSlot = none ∧ (s.slot n = .empty ∨ s.slot n = .staging ∨ s.slot n = .ready)) ∧
    (∃ (data : List Byte) (s : State), s.isMember = true ∧ s.clk.link = true ∧ s.clk.core = true ∧ s.memOk ∧ s.arr.quiet = [] ∧ s.crl.inbox = [] ∧ s.fwRuns = true ∧ leAt data 0 1 = 1 ∧ leAt data 1 1 % 64 = s.crl.tile ∧ crc32 (data.take 0x3C ++ (data.drop 0x40).take 0x63C0) = leAt data 0x3C 4) ∧
    (∃ (data : List Byte) (s : State), s.isMember = true ∧ s.clk.link = true ∧ s.clk.core = true ∧ s.memOk ∧ s.arr.quiet = [] ∧ s.crl.inbox = [] ∧ s.fwRuns = true ∧ leAt data 0 1 = 1 ∧ leAt data 1 1 % 64 = s.crl.tile ∧ crc32 (data.take 0x3C ++ (data.drop 0x40).take 0x63C0) ≠ leAt data 0x3C 4) ∧
    (∃ (num : Nat) (crc : Nat) (d : Desc) (data : List Byte) (s : State), s.isMember = true ∧ s.clk.link = true ∧ s.clk.core = true ∧ s.memOk ∧ s.arr.quiet = [] ∧ s.crl.inbox = [] ∧ s.fwRuns = true ∧ s.ctx.staging = [(num, d)] ∧ d.opcode = 0x51 ∧ data.length ≤ 0x20000 ∧ crc32 data = crc ∧ d.p2 = 1) ∧
    (∃ (num : Nat) (crc : Nat) (d : Desc) (data : List Byte) (s : State), s.isMember = true ∧ s.clk.link = true ∧ s.clk.core = true ∧ s.memOk ∧ s.arr.quiet = [] ∧ s.crl.inbox = [] ∧ s.fwRuns = true ∧ s.ctx.staging = [(num, d)] ∧ d.opcode = 0x51 ∧ data.length ≤ 0x20000 ∧ crc32 data ≠ crc) ∧
    (∃ (crc : Nat) (data : List Byte) (s : State), s.isMember = true ∧ s.clk.link = true ∧ s.clk.core = true ∧ s.memOk ∧ s.arr.quiet = [] ∧ s.crl.inbox = [] ∧ s.boot.phase = .waitFw ∧ data.length ≤ 0x20000 ∧ crc32 data = crc) ∧
    (∃ (crc : Nat) (data : List Byte) (s : State), s.isMember = true ∧ s.clk.link = true ∧ s.clk.core = true ∧ s.memOk ∧ s.arr.quiet = [] ∧ s.crl.inbox = [] ∧ s.boot.phase = .waitFw ∧ data.length ≤ 0x20000 ∧ crc32 data ≠ crc ∧ s.boot.fwRetried = false) ∧
    (∃ (crc : Nat) (data : List Byte) (s : State), s.isMember = true ∧ s.clk.link = true ∧ s.clk.core = true ∧ s.memOk ∧ s.arr.quiet = [] ∧ s.crl.inbox = [] ∧ s.boot.phase = .waitFw ∧ data.length ≤ 0x20000 ∧ crc32 data ≠ crc ∧ s.boot.fwRetried = true) :=
  ⟨⟨{ de with opcode := 0x41 }, { up with boot.role := .member, clk.link := true, clk.core := true, arr.quiet := [], crl.inbox := [] }, by simp only [Runs, State.memOk]; decide +kernel⟩,
   ⟨{ de with opcode := 0x21 }, { up with boot.role := .member, clk.link := true, clk.core := true, arr.quiet := [], crl.inbox := [] }, by simp only [Runs, State.memOk]; decide +kernel⟩,
   ⟨{ de with opcode := 0x01 }, { up with boot.role := .member, clk.link := true, clk.core := true, arr.quiet := [], crl.inbox := [] }, by simp only [Runs, State.memOk]; decide +kernel⟩,
   ⟨1, { up with boot.role := .member, clk.link := true, clk.core := true, arr.quiet := [], crl.inbox := [] }, by simp only [Runs, State.memOk]; decide +kernel⟩,
   ⟨1, { de with opcode := 0x10, p1 := 64 }, List.replicate 64 0#8, { up with boot.role := .member, clk.link := true, clk.core := true, arr.quiet := [], crl.inbox := [], ctx.staging := [(1, { de with opcode := 0x10, p1 := 64 })] }, by simp only [Runs, State.memOk]; decide +kernel⟩,
   ⟨ctxImg, { up with boot.role := .member, clk.link := true, clk.core := true, arr.quiet := [], crl.inbox := [], ctx.slots := (List.replicate 8 .empty).set 1 .draining }, by dsimp only; refine ⟨rfl, rfl, rfl, rfl, rfl, rfl, rfl, by decide +kernel, rfl, ctxImg_crc, rfl, by decide +kernel⟩⟩,
   ⟨ctxImg, { up with boot.role := .member, clk.link := true, clk.core := true, arr.quiet := [], crl.inbox := [] }, by dsimp only; refine ⟨rfl, rfl, rfl, rfl, rfl, rfl, rfl, by decide +kernel, rfl, ctxImg_crc, rfl, by decide +kernel⟩⟩,
   ⟨zeroCrc, { up with boot.role := .member, clk.link := true, clk.core := true, arr.quiet := [], crl.inbox := [] }, by simp only [Runs, State.memOk]; decide +kernel⟩,
   ⟨[1#8, 0#8, 5#8], { up with boot.role := .member, clk.link := true, clk.core := true, arr.quiet := [], crl.inbox := [] }, by simp only [Runs, State.memOk]; decide +kernel⟩,
   ⟨1, crc32 fwImg, { de with opcode := 0x51, p2 := 1 }, fwImg, { up with boot.role := .member, clk.link := true, clk.core := true, arr.quiet := [], crl.inbox := [], ctx.staging := [(1, ({ de with opcode := 0x51, p2 := 1 }))] }, by simp only [Runs, State.memOk]; decide +kernel⟩,
   ⟨1, 1, { de with opcode := 0x51 }, [], { up with boot.role := .member, clk.link := true, clk.core := true, arr.quiet := [], crl.inbox := [], ctx.staging := [(1, ({ de with opcode := 0x51 }))] }, by simp only [Runs, State.memOk]; decide +kernel⟩,
   ⟨crc32 fwImg, fwImg, { up with boot.role := .member, clk.link := true, clk.core := true, arr.quiet := [], crl.inbox := [], boot.phase := .waitFw }, by simp only [State.memOk]; decide +kernel⟩,
   ⟨1, [], { up with boot.role := .member, clk.link := true, clk.core := true, arr.quiet := [], crl.inbox := [], boot.phase := .waitFw, boot.fwRetried := false }, by simp only [State.memOk]; decide +kernel⟩,
   ⟨1, [], { up with boot.role := .member, clk.link := true, clk.core := true, arr.quiet := [], crl.inbox := [], boot.phase := .waitFw, boot.fwRetried := true }, by simp only [State.memOk]; decide +kernel⟩⟩

theorem witness_ContextCommandsActOnSlots :
    (∃ (j : Nat) (e : JEntry) (data : List Byte) (s : State), let n := e.d.a0 % 8; let slot (t : State) : SlotState := t.ctx.slots.getD n .empty; s.memOk ∧ e.d.tile = 0 ∧ s.isMember = false ∧ Ready 0x10 j e s ∧ s.readOk = true ∧ s.ctx.slots.length = 8 ∧ e.r0 = 0 ∧ (slot s = .empty ∨ slot s = .staging ∨ slot s = .ready) ∧ ((e.d.a0 / 16 = 2 → s.ctx.slots.getD (e.d.a1 % 8) .empty ≠ .empty)) ∧ data.length = e.d.p1) ∧
    (∃ (j : Nat) (e : JEntry) (s : State), let n := e.d.a0 % 8; let slot (t : State) : SlotState := t.ctx.slots.getD n .empty; s.memOk ∧ e.d.tile = 0 ∧ s.isMember = false ∧ Ready 0x10 j e s ∧ s.readOk = true ∧ s.ctx.slots.length = 8 ∧ e.r0 = 0 ∧ (slot s = .pending ∨ slot s = .active ∨ slot s = .draining ∨ slot s = .checking)) ∧
    (∃ (j : Nat) (e : JEntry) (s : State), let n := e.d.a0 % 8; let slot (t : State) : SlotState := t.ctx.slots.getD n .empty; s.memOk ∧ e.d.tile = 0 ∧ s.isMember = false ∧ Ready 0x10 j e s ∧ s.readOk = true ∧ s.ctx.slots.length = 8 ∧ e.r0 = 0 ∧ slot s = .empty ∧ e.d.a0 / 16 ≠ 2) ∧
    (∃ (j : Nat) (e : JEntry) (s : State), let n := e.d.a0 % 8; let sw := decide (e.d.opcode = 0x12); let slot (t : State) : SlotState := t.ctx.slots.getD n .empty; let rate := if s.isRoot then outsideRate [0] s else none; s.memOk ∧ e.d.tile = 0 ∧ s.isMember = false ∧ Ready e.d.opcode j e s ∧ (e.d.opcode = 0x11 ∨ e.d.opcode = 0x12) ∧ s.ctx.slots.length = 8 ∧ s.ctx.job = none ∧ s.ctx.doomed = [] ∧ s.pendingSlot = none ∧ e.d.p1 = 0 ∧ slot s = (if sw then .ready else .staging) ∧ ownFails n sw none rate s = [] ∧ s.epoch < 2 ^ 32 - 2 ∧ s.ctx.gen < 2 ^ 32 - 1) ∧
    (∃ (j : Nat) (e : JEntry) (s : State), let n := e.d.a0 % 8; let slot (t : State) : SlotState := t.ctx.slots.getD n .empty; s.memOk ∧ e.d.tile = 0 ∧ s.isMember = false ∧ Ready e.d.opcode j e s ∧ (e.d.opcode = 0x11 ∨ e.d.opcode = 0x12) ∧ s.ctx.slots.length = 8 ∧ s.ctx.job = none ∧ s.ctx.doomed = [] ∧ s.pendingSlot = none ∧ e.d.p1 = 0 ∧ slot s = .empty ∧ leAt (s.image n) 0 1 = 1 ∧ leAt (s.image n) 1 1 = n ∧ (s.image n).take 0x40 = (s.image n).take 2 ++ List.replicate 62 0#8) ∧
    (∃ (j : Nat) (e : JEntry) (s : State), s.memOk ∧ e.d.tile = 0 ∧ s.isMember = false ∧ Ready 0x13 j e s ∧ s.dmaOk = false) ∧
    (∃ (j : Nat) (e : JEntry) (s : State), s.memOk ∧ e.d.tile = 0 ∧ s.isMember = false ∧ Ready 0x13 j e s ∧ s.dmaOk = true) :=
  ⟨⟨1, { je with d.opcode := 0x10, d.p1 := 64 }, List.replicate 64 0#8, { up with jrn := [{ je with d.opcode := 0x10, d.p1 := 64 }] }, by simp only [Ready, State.memOk]; decide +kernel⟩,
   ⟨1, { je with d.opcode := 0x10, d.p1 := 64 }, { up with jrn := [{ je with d.opcode := 0x10, d.p1 := 64 }], ctx.slots := List.replicate 8 .active }, by simp only [Ready, State.memOk]; decide +kernel⟩,
   ⟨1, { je with d.opcode := 0x10, d.p1 := 64 }, { up with jrn := [{ je with d.opcode := 0x10, d.p1 := 64 }] }, by simp only [Ready, State.memOk]; decide +kernel⟩,
   ⟨1, { je with cmd := 1, d.opcode := 0x12, d.p1 := 0 }, { up with jrn := [{ je with cmd := 1, d.opcode := 0x12, d.p1 := 0 }], ctx.job := none, ctx.doomed := [], ctx.slots := List.replicate 8 .ready }, by simp only [Ready, State.memOk]; decide +kernel⟩,
   ⟨1, { je with cmd := 1, d.opcode := 0x11, d.p1 := 0 }, { up with jrn := [{ je with cmd := 1, d.opcode := 0x11, d.p1 := 0 }], ctx.job := none, ctx.doomed := [] }, by simp only [Ready, State.memOk]; decide +kernel⟩,
   ⟨1, { je with cmd := 1, d.opcode := 0x13 }, { up with jrn := [{ je with cmd := 1, d.opcode := 0x13 }], host.bme := false }, by simp only [Ready, State.memOk]; decide +kernel⟩,
   ⟨1, { je with cmd := 1, d.opcode := 0x13 }, { up with jrn := [{ je with cmd := 1, d.opcode := 0x13 }] }, by simp only [Ready, State.memOk]; decide +kernel⟩⟩

theorem witness_ScanCommandsAskTheScan :
    (∃ (j : Nat) (e : JEntry) (s : State), s.memOk ∧ e.d.tile = 0 ∧ s.isMember = false ∧ Ready 0x20 j e s) ∧
    (∃ (j : Nat) (e : JEntry) (s : State), s.memOk ∧ e.d.tile = 0 ∧ s.isMember = false ∧ Ready 0x21 j e s) ∧
    (∃ (j : Nat) (e : JEntry) (s : State), s.memOk ∧ e.d.tile = 0 ∧ s.isMember = false ∧ Ready 0x22 j e s ∧ e.d.a0 = 0 ∧ s.cal.kind ≠ .full ∧ s.cal.kind ≠ .group ∧ s.cal.fullDue = none ∧ j ∉ s.cal.groupCmds) ∧
    (∃ (j : Nat) (e : JEntry) (s : State), s.memOk ∧ e.d.tile = 0 ∧ s.isMember = false ∧ Ready 0x22 j e s ∧ e.d.a0 = 1 ∧ s.cal.kind ≠ .full ∧ s.cal.kind ≠ .group ∧ s.cal.fullDue = none ∧ s.cal.groupDue = none) ∧
    (∃ (j : Nat) (e : JEntry) (s : State), s.memOk ∧ e.d.tile = 0 ∧ s.isMember = false ∧ Ready 0x22 j e s ∧ e.d.a0 = 1 ∧ s.cal.kind = .group ∧ s.cal.fullDue = none) ∧
    (∃ (j : Nat) (e : JEntry) (s : State), s.memOk ∧ e.d.tile = 0 ∧ s.isMember = false ∧ Ready 0x22 j e s ∧ s.cal.fullDue = some false) ∧
    (∃ (j : Nat) (e : JEntry) (k : Track) (s : State), s.memOk ∧ e.d.tile = 0 ∧ s.isMember = false ∧ Ready 0x23 j e s ∧ s.trk.tab.getD (e.d.a0 % 64) none = some k ∧ k.rid = e.d.a1 ∧ k.status = 1) ∧
    (∃ (j : Nat) (e : JEntry) (s : State), s.memOk ∧ e.d.tile = 0 ∧ s.isMember = false ∧ Ready 0x23 j e s ∧ s.trk.tab.getD (e.d.a0 % 64) none = none) ∧
    (∃ (j : Nat) (e : JEntry) (s : State), s.memOk ∧ e.d.tile = 0 ∧ s.isMember = false ∧ Ready 0x30 j e s ∧ e.d.p2 = 0) ∧
    (∃ (j : Nat) (e : JEntry) (s : State), s.memOk ∧ e.d.tile = 0 ∧ s.isMember = false ∧ Ready 0x30 j e s ∧ e.d.p2 ≠ 0 ∧ s.mute.busy = false ∧ s.isRoot = false ∧ s.cap.held ≠ some (e.d.a0 % 4)) :=
  ⟨⟨1, { je with d.opcode := 0x20, d.a0 := 2 }, { up with jrn := [{ je with d.opcode := 0x20, d.a0 := 2 }] }, by simp only [Ready, State.memOk]; decide +kernel⟩,
   ⟨1, { je with cmd := 1, d.opcode := 0x21 }, { up with jrn := [{ je with cmd := 1, d.opcode := 0x21 }] }, by simp only [Ready, State.memOk]; decide +kernel⟩,
   ⟨1, { je with cmd := 1, d.opcode := 0x22, d.a0 := 0 }, { up with jrn := [{ je with cmd := 1, d.opcode := 0x22, d.a0 := 0 }], cal.fullDue := none }, by simp only [Ready, State.memOk]; decide +kernel⟩,
   ⟨1, { je with cmd := 1, d.opcode := 0x22, d.a0 := 1 }, { up with jrn := [{ je with cmd := 1, d.opcode := 0x22, d.a0 := 1 }], cal.fullDue := none, cal.groupDue := none }, by simp only [Ready, State.memOk]; decide +kernel⟩,
   ⟨1, { je with cmd := 1, d.opcode := 0x22, d.a0 := 1 }, { up with jrn := [{ je with cmd := 1, d.opcode := 0x22, d.a0 := 1 }], cal.kind := .group, cal.fullDue := none }, by simp only [Ready, State.memOk]; decide +kernel⟩,
   ⟨1, { je with cmd := 1, d.opcode := 0x22 }, { up with jrn := [{ je with cmd := 1, d.opcode := 0x22 }], cal.fullDue := some false }, by simp only [Ready, State.memOk]; decide +kernel⟩,
   ⟨1, { je with d.opcode := 0x23, d.a1 := 1 }, { tk with rid := 1 }, { up with jrn := [{ je with d.opcode := 0x23, d.a1 := 1 }], trk.tab := (List.replicate 64 none).set 0 (some { tk with rid := 1 }) }, by simp only [Ready, State.memOk]; decide +kernel⟩,
   ⟨1, { je with cmd := 1, d.opcode := 0x23 }, { up with jrn := [{ je with cmd := 1, d.opcode := 0x23 }] }, by simp only [Ready, State.memOk]; decide +kernel⟩,
   ⟨1, { je with cmd := 1, d.opcode := 0x30, d.p2 := 0 }, { up with jrn := [{ je with cmd := 1, d.opcode := 0x30, d.p2 := 0 }] }, by simp only [Ready, State.memOk]; decide +kernel⟩,
   ⟨1, { je with d.opcode := 0x30, d.p2 := 4096 }, { up with jrn := [{ je with d.opcode := 0x30, d.p2 := 4096 }], mute.busy := false, boot.role := .standalone }, by simp only [Ready, State.memOk]; decide +kernel⟩⟩

theorem witness_LoadCommandsChangeBanksAndCore1 :
    (∃ (j : Nat) (e : JEntry) (data : List Byte) (s : State), s.memOk ∧ e.d.tile = 0 ∧ s.isMember = false ∧ Ready 0x24 j e s ∧ s.readOk = true ∧ data.length = 1024 ∧ s.ctx.job = none ∧ tokenFault data e.d.p0 = none ∧ s.tok.gen0 = 0 ∧ s.tok.gen1 = 0) ∧
    (∃ (j : Nat) (e : JEntry) (data : List Byte) (s : State), s.memOk ∧ e.d.tile = 0 ∧ s.isMember = false ∧ Ready 0x24 j e s ∧ s.readOk = true ∧ data.length = 1024 ∧ s.ctx.job = none ∧ tokenFault data e.d.p0 ≠ none) ∧
    (∃ (j : Nat) (e : JEntry) (data : List Byte) (s : State), let word (o : Nat) : Nat := leAt data o 4; s.memOk ∧ e.d.tile = 0 ∧ s.isMember = false ∧ Ready 0x40 j e s ∧ s.readOk = true ∧ data.length = e.d.p0 ∧ e.d.p0 = 32 + word 4 + word 8 ∧ leAt data 0 4 = 0x00014C41 ∧ word 4 % 4 = 0 ∧ word 16 % 4 = 0 ∧ word 20 % 4 = 0 ∧ word 20 + word 4 ≤ 0x40000 - 0x4000 * s.mbx.split ∧ word 16 < word 4 ∧ word 8 + word 12 ≤ 16384 ∧ crc32 (data.drop 0x20) = word 0x1C) ∧
    (∃ (j : Nat) (e : JEntry) (data : List Byte) (s : State), let word (o : Nat) : Nat := leAt data o 4; s.memOk ∧ e.d.tile = 0 ∧ s.isMember = false ∧ Ready 0x40 j e s ∧ s.readOk = true ∧ data.length = e.d.p0 ∧ e.d.p0 = 32 + word 4 + word 8 ∧ leAt data 0 4 = 0x00014C41 ∧ word 4 % 4 = 0 ∧ word 16 % 4 = 0 ∧ word 20 % 4 = 0 ∧ word 20 + word 4 ≤ 0x40000 - 0x4000 * s.mbx.split ∧ word 16 < word 4 ∧ word 8 + word 12 ≤ 16384 ∧ crc32 (data.drop 0x20) ≠ word 0x1C) ∧
    (∃ (j : Nat) (e : JEntry) (s : State), s.memOk ∧ e.d.tile = 0 ∧ s.isMember = false ∧ Ready 0x41 j e s ∧ s.mbx.q1.length < 8) ∧
    (∃ (j : Nat) (e : JEntry) (s : State), s.memOk ∧ e.d.tile = 0 ∧ s.isMember = false ∧ Ready 0x41 j e s ∧ 8 ≤ s.mbx.q1.length) :=
  ⟨⟨1, { je with d.opcode := 0x24, d.a1 := 1 }, List.replicate 1024 0#8, { up with jrn := [{ je with d.opcode := 0x24, d.a1 := 1 }], ctx.job := none, tok.gen0 := 0, tok.gen1 := 0 }, by simp only [Ready, State.memOk]; decide +kernel⟩,
   ⟨1, { je with d.opcode := 0x24, d.a1 := 1, d.p0 := 1 }, List.replicate 1024 0#8, { up with jrn := [{ je with d.opcode := 0x24, d.a1 := 1, d.p0 := 1 }], ctx.job := none }, by simp only [Ready, State.memOk]; decide +kernel⟩,
   ⟨1, { je with d.opcode := 0x40, d.p0 := 36 }, appImg, { up with jrn := [{ je with d.opcode := 0x40, d.p0 := 36 }] }, by simp only [Ready, State.memOk]; decide +kernel⟩,
   ⟨1, { je with d.opcode := 0x40, d.p0 := 36 }, appImg.take 35 ++ [7#8], { up with jrn := [{ je with d.opcode := 0x40, d.p0 := 36 }] }, by simp only [Ready, State.memOk]; decide +kernel⟩,
   ⟨1, { je with cmd := 1, d.opcode := 0x41 }, { up with jrn := [{ je with cmd := 1, d.opcode := 0x41 }] }, by simp only [Ready, State.memOk]; decide +kernel⟩,
   ⟨1, { je with cmd := 1, d.opcode := 0x41 }, { up with jrn := [{ je with cmd := 1, d.opcode := 0x41 }], mbx.q1 := List.replicate 8 (0, 0) }, by simp only [Ready, State.memOk]; decide +kernel⟩⟩

theorem witness_SettingsAndMemberCommands :
    (∃ (j : Nat) (e : JEntry) (data : List Byte) (back1 : List Byte) (s : State), let good := crc32 (List.replicate 4 0#8 ++ (data.take 0x1FFC).drop 4) = leAt data 0x1FFC 4; let copy (c : List Byte) (seq : Nat) : Prop := c.length = 0x2000 ∧ leAt c 0 4 = seq ∧ (c.take 0x1FFC).drop 4 = (data.take 0x1FFC).drop 4 ∧ leAt c 0x1FFC 4 = crc32 (c.take 0x1FFC); s.memOk ∧ s.isMember = false ∧ Ready 0x50 j e s ∧ s.readOk = true ∧ s.boot.eepromSel = true ∧ e.d.a0 = 0 ∧ e.d.p0 = 8192 ∧ data.length = 8192 ∧ good ∧ s.sets.target = some 1 ∧ s.sets.inUse = 0 ∧ leAt s.sets.copyA 0 4 = 7 ∧ copy back1 8) ∧
    (∃ (j : Nat) (e : JEntry) (data : List Byte) (back1 : List Byte) (back2 : List Byte) (s : State), let good := crc32 (List.replicate 4 0#8 ++ (data.take 0x1FFC).drop 4) = leAt data 0x1FFC 4; s.memOk ∧ s.isMember = false ∧ Ready 0x50 j e s ∧ s.readOk = true ∧ s.boot.eepromSel = true ∧ e.d.a0 = 0 ∧ e.d.p0 = 8192 ∧ data.length = 8192 ∧ good ∧ s.sets.target = some 1 ∧ s.sets.inUse = 0 ∧ leAt s.sets.copyA 0 4 = 7 ∧ leAt back1 0 4 ≠ 8 ∧ leAt back2 0 4 ≠ 8) ∧
    (∃ (j : Nat) (e : JEntry) (data : List Byte) (s : State), let good := crc32 (List.replicate 4 0#8 ++ (data.take 0x1FFC).drop 4) = leAt data 0x1FFC 4; s.memOk ∧ s.isMember = false ∧ Ready 0x50 j e s ∧ s.readOk = true ∧ s.boot.eepromSel = true ∧ e.d.a0 = 0 ∧ e.d.p0 = 8192 ∧ data.length = 8192 ∧ good ∧ s.sets.target = none) ∧
    (∃ (j : Nat) (e : JEntry) (data : List Byte) (s : State), let good := crc32 (List.replicate 4 0#8 ++ (data.take 0x1FFC).drop 4) = leAt data 0x1FFC 4; s.memOk ∧ s.isMember = false ∧ Ready 0x50 j e s ∧ s.readOk = true ∧ s.boot.eepromSel = true ∧ e.d.a0 = 0 ∧ e.d.p0 = 8192 ∧ data.length = 8192 ∧ ¬good) ∧
    (∃ (j : Nat) (e : JEntry) (data : List Byte) (back1 : List Byte) (s : State), let copy (c : List Byte) (seq : Nat) : Prop := c.length = 0x2000 ∧ leAt c 0 4 = seq ∧ (c.take 0x1FFC).drop 4 = (data.take 0x1FFC).drop 4 ∧ leAt c 0x1FFC 4 = crc32 (c.take 0x1FFC); s.memOk ∧ s.isMember = false ∧ Ready 0x50 j e s ∧ s.boot.eepromSel = true ∧ e.d.a0 = 1 ∧ s.sets.mismatch = true ∧ s.sets.copyA = data ∧ data.length = 0x2000 ∧ leAt data 0 4 = 7 ∧ copy back1 8) ∧
    (∃ (j : Nat) (e : JEntry) (data : List Byte) (s : State), s.memOk ∧ s.isMember = false ∧ s.arr.fwUpdate = none ∧ s.arr.resetMember = none ∧ s.clk.link = true ∧ s.arr.quiet = [] ∧ Ready 0x51 j e s ∧ s.readOk = true ∧ 0 < e.d.p0 ∧ e.d.p0 % 4 = 0 ∧ e.d.p0 ≤ 0x20000 ∧ data.length = e.d.p0) ∧
    (∃ (j : Nat) (e : JEntry) (s : State), s.memOk ∧ s.isMember = false ∧ s.arr.fwUpdate = none ∧ s.arr.resetMember = none ∧ s.clk.link = true ∧ s.arr.quiet = [] ∧ Ready 0x52 j e s) ∧
    (∃ (j : Nat) (e : JEntry) (s : State), s.memOk ∧ s.isMember = false ∧ s.memberBusy = true ∧ Ready 0x52 j e s) ∧
    (∃ (j : Nat) (e : JEntry) (s : State), s.memOk ∧ s.isMember = false ∧ s.memberBusy = true ∧ Ready 0x51 j e s) ∧
    (∃ (j : Nat) (e : JEntry) (s : State), s.memOk ∧ s.isMember = false ∧ Ready e.d.opcode j e s ∧ e.d.tile ≠ 0 ∧ e.d.tile < 64 ∧ s.clk.link = true ∧ s.arr.quiet = [] ∧ e.d.opcode = 0x13 ∧ s.dmaOk = true) ∧
    (∃ (j : Nat) (e : JEntry) (s : State), s.memOk ∧ s.isMember = false ∧ Ready e.d.opcode j e s ∧ e.d.tile ≠ 0 ∧ e.d.tile < 64 ∧ s.clk.link = true ∧ s.arr.quiet = [] ∧ e.d.opcode = 0x20) ∧
    (∃ (j : Nat) (e : JEntry) (s : State), s.memOk ∧ s.isMember = false ∧ Ready e.d.opcode j e s ∧ e.d.tile ≠ 0 ∧ e.d.tile < 64 ∧ s.clk.link = true ∧ s.arr.quiet = [] ∧ e.d.opcode = 0x21) ∧
    (∃ (j : Nat) (e : JEntry) (s : State), s.memOk ∧ s.isMember = false ∧ Ready e.d.opcode j e s ∧ e.d.tile ≠ 0 ∧ e.d.tile < 64 ∧ s.clk.link = true ∧ s.arr.quiet = [] ∧ e.d.opcode = 0x22) ∧
    (∃ (j : Nat) (e : JEntry) (s : State), s.memOk ∧ s.isMember = false ∧ Ready e.d.opcode j e s ∧ e.d.tile ≠ 0 ∧ e.d.tile < 64 ∧ s.clk.link = true ∧ s.arr.quiet = [] ∧ e.d.opcode = 0x23) ∧
    (∃ (j : Nat) (e : JEntry) (s : State), s.memOk ∧ s.isMember = false ∧ Ready e.d.opcode j e s ∧ e.d.tile ≠ 0 ∧ e.d.tile < 64 ∧ s.clk.link = true ∧ s.arr.quiet = [] ∧ e.d.opcode = 0x30) ∧
    (∃ (j : Nat) (e : JEntry) (s : State), s.memOk ∧ s.isMember = false ∧ Ready e.d.opcode j e s ∧ e.d.tile ≠ 0 ∧ e.d.tile < 64 ∧ s.clk.link = true ∧ s.arr.quiet = [] ∧ e.d.opcode = 0x41) ∧
    (∃ (j : Nat) (e : JEntry) (s : State), s.memOk ∧ s.isMember = false ∧ Ready e.d.opcode j e s ∧ e.d.tile ≠ 0 ∧ e.d.tile < 64 ∧ s.clk.link = true ∧ s.arr.quiet = [] ∧ e.d.opcode = 0x24 ∧ s.readOk = true) ∧
    (∃ (j : Nat) (e : JEntry) (s : State), s.memOk ∧ s.isMember = false ∧ Ready e.d.opcode j e s ∧ e.d.tile ≠ 0 ∧ e.d.tile < 64 ∧ s.clk.link = true ∧ s.arr.quiet = [] ∧ e.d.opcode = 0x10 ∧ s.readOk = true) :=
  ⟨⟨1, { je with cmd := 1, d.opcode := 0x50, d.a0 := 0, d.p0 := 8192 }, setsImg, copyImg, { up with jrn := [{ je with cmd := 1, d.opcode := 0x50, d.a0 := 0, d.p0 := 8192 }], boot.eepromSel := true, sets.target := some 1, sets.inUse := 0, sets.copyA := [7#8] }, by dsimp only; exact ⟨rfl, rfl, by (simp only [Ready]; decide +kernel), by decide +kernel, rfl, rfl, rfl, setsImg_length, setsImg_good, rfl, rfl, by decide, copyImg_is⟩⟩,
   ⟨1, { je with cmd := 1, d.opcode := 0x50, d.a0 := 0, d.p0 := 8192 }, setsImg, [], [], { up with jrn := [{ je with cmd := 1, d.opcode := 0x50, d.a0 := 0, d.p0 := 8192 }], boot.eepromSel := true, sets.target := some 1, sets.inUse := 0, sets.copyA := [7#8] }, by dsimp only; exact ⟨rfl, rfl, by (simp only [Ready]; decide +kernel), by decide +kernel, rfl, rfl, rfl, setsImg_length, setsImg_good, rfl, rfl, by decide, by decide, by decide⟩⟩,
   ⟨1, { je with cmd := 1, d.opcode := 0x50, d.a0 := 0, d.p0 := 8192 }, setsImg, { up with jrn := [{ je with cmd := 1, d.opcode := 0x50, d.a0 := 0, d.p0 := 8192 }], boot.eepromSel := true, sets.target := none }, by dsimp only; exact ⟨rfl, rfl, by (simp only [Ready]; decide +kernel), by decide +kernel, rfl, rfl, rfl, setsImg_length, setsImg_good, rfl⟩⟩,
   ⟨1, { je with cmd := 1, d.opcode := 0x50, d.a0 := 0, d.p0 := 8192 }, badSetsImg, { up with jrn := [{ je with cmd := 1, d.opcode := 0x50, d.a0 := 0, d.p0 := 8192 }], boot.eepromSel := true }, by dsimp only; exact ⟨rfl, rfl, by (simp only [Ready]; decide +kernel), by decide +kernel, rfl, rfl, rfl, badSetsImg_length, badSetsImg_bad⟩⟩,
   ⟨1, { je with cmd := 1, d.opcode := 0x50, d.a0 := 1 }, setsImg, copyImg, { up with jrn := [{ je with cmd := 1, d.opcode := 0x50, d.a0 := 1 }], boot.eepromSel := true, sets.mismatch := true, sets.copyA := setsImg }, by dsimp only; exact ⟨rfl, rfl, by (simp only [Ready]; decide +kernel), rfl, rfl, rfl, rfl, setsImg_length, by decide, copyImg_is⟩⟩,
   ⟨1, { je with d.opcode := 0x51, d.tile := 1, d.p0 := 4 }, fwImg, { up with arr.fwUpdate := none, arr.resetMember := none, clk.link := true, arr.quiet := [], jrn := [{ je with d.opcode := 0x51, d.tile := 1, d.p0 := 4 }], crl.online := [0, 1] }, by simp only [Ready, State.memOk]; decide +kernel⟩,
   ⟨1, { je with d.opcode := 0x52, d.tile := 1 }, { up with arr.fwUpdate := none, arr.resetMember := none, clk.link := true, arr.quiet := [], jrn := [{ je with d.opcode := 0x52, d.tile := 1 }], crl.online := [0, 1] }, by simp only [Ready, State.memOk]; decide +kernel⟩,
   ⟨1, { je with d.opcode := 0x52, d.tile := 1 }, { up with jrn := [{ je with d.opcode := 0x52, d.tile := 1 }], arr.resetMember := some (1, 1), crl.online := [0, 1] }, by simp only [Ready, State.memOk]; decide +kernel⟩,
   ⟨1, { je with d.opcode := 0x51, d.tile := 1, d.p0 := 4 }, { up with jrn := [{ je with d.opcode := 0x51, d.tile := 1, d.p0 := 4 }], arr.resetMember := some (1, 1), crl.online := [0, 1] }, by simp only [Ready, State.memOk]; decide +kernel⟩,
   ⟨1, { je with d.opcode := 0x13, d.tile := 1 }, { up with jrn := [{ je with d.opcode := 0x13, d.tile := 1 }], clk.link := true, arr.quiet := [], crl.online := [0, 1] }, by simp only [Ready, State.memOk]; decide +kernel⟩,
   ⟨1, { je with d.opcode := 0x20, d.tile := 1, d.a0 := 2 }, { up with jrn := [{ je with d.opcode := 0x20, d.tile := 1, d.a0 := 2 }], clk.link := true, arr.quiet := [], crl.online := [0, 1] }, by simp only [Ready, State.memOk]; decide +kernel⟩,
   ⟨1, { je with d.opcode := 0x21, d.tile := 1 }, { up with jrn := [{ je with d.opcode := 0x21, d.tile := 1 }], clk.link := true, arr.quiet := [], crl.online := [0, 1] }, by simp only [Ready, State.memOk]; decide +kernel⟩,
   ⟨1, { je with d.opcode := 0x22, d.tile := 1 }, { up with jrn := [{ je with d.opcode := 0x22, d.tile := 1 }], clk.link := true, arr.quiet := [], crl.online := [0, 1] }, by simp only [Ready, State.memOk]; decide +kernel⟩,
   ⟨1, { je with d.opcode := 0x23, d.tile := 1 }, { up with jrn := [{ je with d.opcode := 0x23, d.tile := 1 }], clk.link := true, arr.quiet := [], crl.online := [0, 1] }, by simp only [Ready, State.memOk]; decide +kernel⟩,
   ⟨1, { je with d.opcode := 0x30, d.tile := 1, d.p2 := 4096 }, { up with jrn := [{ je with d.opcode := 0x30, d.tile := 1, d.p2 := 4096 }], clk.link := true, arr.quiet := [], crl.online := [0, 1] }, by simp only [Ready, State.memOk]; decide +kernel⟩,
   ⟨1, { je with d.opcode := 0x41, d.tile := 1 }, { up with jrn := [{ je with d.opcode := 0x41, d.tile := 1 }], clk.link := true, arr.quiet := [], crl.online := [0, 1] }, by simp only [Ready, State.memOk]; decide +kernel⟩,
   ⟨1, { je with d.opcode := 0x24, d.tile := 1, d.a1 := 1 }, { up with jrn := [{ je with d.opcode := 0x24, d.tile := 1, d.a1 := 1 }], clk.link := true, arr.quiet := [], crl.online := [0, 1] }, by simp only [Ready, State.memOk]; decide +kernel⟩,
   ⟨1, { je with d.opcode := 0x10, d.tile := 1, d.p1 := 64 }, { up with jrn := [{ je with d.opcode := 0x10, d.tile := 1, d.p1 := 64 }], clk.link := true, arr.quiet := [], crl.online := [0, 1] }, by simp only [Ready, State.memOk]; decide +kernel⟩⟩

end Sys2Proof.Tests
end

section
/-! Reserved encodings and reserved uses of a delay slot (12 R349, R355, 13 R374, R375, R389): which major opcodes the decoder knows, and
that the frame which every Izyten instruction shares stops on both kinds. -/

namespace Sys2Proof.Machine

/-! ### Major opcodes -/

/-- The assigned major opcodes (13 R374). -/
def majorOpcodes : List Nat :=
  [0x00, 0x01, 0x02, 0x04, 0x05, 0x06, 0x07, 0x08, 0x09, 0x0A, 0x0B, 0x10, 0x11, 0x12, 0x13, 0x14, 0x16,
    0x18, 0x19, 0x1A, 0x20, 0x21, 0x22, 0x23, 0x24, 0x25, 0x26, 0x28, 0x29, 0x2C]

/-- The decoder's major opcode is the quotient that leaves the 26 low bits out. -/
theorem wordField_op_toNat (w : Word) : (wordField w 26 6).toNat = w.toNat / 2 ^ 26 := by
  have hw := w.isLt
  rw [wordField, BitVec.extractLsb'_toNat, Nat.shiftRight_eq_div_pow]
  exact Nat.mod_eq_of_lt (by omega)

/-- Format M has no row for an opcode that is not assigned. -/
theorem memoryOf_eq_none {op : Nat} (h : op ∉ majorOpcodes) (c : CoreId) (r gb : Reg) (m : AMode) : memoryOf c op r gb m = none := by
  unfold memoryOf
  split
  case h_10 => rfl
  all_goals exact absurd (by decide) h

/-- A word whose major opcode is not assigned has no format: every named row is that of an assigned opcode, and the remaining words are
read by format M. -/
theorem formatOf_eq_none {w : Word} (h : (wordField w 26 6).toNat ∉ majorOpcodes) (c : CoreId) : formatOf c w = none := by
  unfold formatOf
  dsimp only
  split
  case h_22 => simp [memoryOf_eq_none h]
  all_goals
    rename_i hop
    rw [hop] at h
    exact absurd (by decide) h

theorem instrOfWord_eq_none {w : Word} (h : w.toNat / 2 ^ 26 ∉ majorOpcodes) (c : CoreId) : instrOfWord c w = none := by
  rw [instrOfWord, formatOf_eq_none (by rwa [wordField_op_toNat]) c, Option.filter_none]

/-- Six words of chapter 13 and what they stand for (13 R374): the decoder evaluates on each, whichever core reads it. -/
theorem instrOfWord_examples (c : CoreId) :
    instrOfWord c 0x49068001#32 = some (.ldh c 4 1 (.postInc (some 0) 1) false) ∧
    instrOfWord c 0x10CFFFFF#32 = some (.addK c 3 3 0x3FFFF#18) ∧ instrOfWord c 0x09914001#32 = some (.macq c 6 4 5) ∧
    instrOfWord c 0x98C7FFFC#32 = some (.brz c 3 1#4 0x3FFFC#18) ∧ instrOfWord c 0#32 = some (.brk c) ∧
    instrOfWord c 0xB0000101#32 = some (.scopy c 1#4 1#2 false none) :=
  ⟨rfl, rfl, rfl, rfl, rfl, rfl⟩

/-! ### The frame of an instruction -/

/-- Core `c` runs and fetches an undamaged word where it may: the frame of an instruction goes on to look at the instruction itself. -/
def Fetches (c : CoreId) (s : State) : Prop := s.canRun c = true ∧ fetchOk s c (s.core c).pc = true ∧ s.fetchBad c = false

/-- With the word fetched, a reserved encoding stops, then a reserved use of a pending delay slot, and else the body runs. -/
theorem instr_of_fetches {c : CoreId} {s : State} (h : Fetches c s) (ok ban : Bool) (body : State → State) :
    instr c ok ban body s =
      if ok = false then .fault .reservedEncoding
      else if ban = true ∧ (s.core c).slot ≠ [] then .fault .reservedUse
      else answer s (body s) := by
  obtain ⟨hrun, hfetch, hword⟩ := h
  simp [instr, hrun, hfetch, hword]

theorem instr_reservedEncoding {c : CoreId} {s : State} (h : Fetches c s) (ban : Bool) (body : State → State) :
    instr c false ban body s = .fault .reservedEncoding := by
  rw [instr_of_fetches h, if_pos rfl]

theorem instr_reservedUse {c : CoreId} {s : State} (h : Fetches c s) (hslot : (s.core c).slot ≠ []) (body : State → State) :
    instr c true true body s = .fault .reservedUse := by
  rw [instr_of_fetches h, if_neg (by decide), if_pos ⟨rfl, hslot⟩]

/-! ### What each instruction hands to its frame -/

/-- Command `i` is an instruction of core `c` whose frame takes `ok` and `ban` in state `s`. -/
def Framed (i : Instr) (c : CoreId) (ok ban : Bool) (s : State) : Prop := ∃ body, exec i s = instr c ok ban body s

theorem Framed.reservedEncoding {i : Instr} {c : CoreId} {ban : Bool} {s : State} (hi : Framed i c false ban s) (h : Fetches c s) :
    exec i s = .fault .reservedEncoding := by
  obtain ⟨body, hexec⟩ := hi
  rw [hexec, instr_reservedEncoding h]

theorem Framed.reservedUse {i : Instr} {c : CoreId} {s : State} (hi : Framed i c true true s) (h : Fetches c s)
    (hslot : (s.core c).slot ≠ []) : exec i s = .fault .reservedUse := by
  obtain ⟨body, hexec⟩ := hi
  rw [hexec, instr_reservedUse h hslot]

section Groups

variable (c : CoreId) (gd gb ga : Reg) (m : AMode) (p : Bool) (cond stride : BitVec 4) (cmp size : BitVec 2) (off18 : BitVec 18)
  (off26 : BitVec 26) (imm : BitVec 10) (upto : Option Nat) (s : State)

/-- A load stops on its reserved encodings only; no delay slot forbids it (13 R380). -/
theorem framed_of_load {i : Instr} (hi : i ∈ [Instr.ldb c gd gb m p, .ldbu c gd gb m p, .ldh c gd gb m p, .ldhu c gd gb m p, .ldw c gd gb m p]) :
    Framed i c i.wf false s := by
  simp only [List.mem_cons, List.not_mem_nil, or_false] at hi
  rcases hi with rfl | rfl | rfl | rfl | rfl <;> exact ⟨_, rfl⟩

/-- BRZ has reserved values of COND and is a branch (13 R383, 12 R355). -/
theorem framed_brz : Framed (.brz c ga cond off18) c (Instr.brz c ga cond off18).wf true s := ⟨_, rfl⟩

/-- A string instruction has reserved fields, and no place in a delay slot of boot/recovery mode (13 R385, R389). -/
theorem framed_of_string {i : Instr} (hi : i ∈ [Instr.scopy c stride size p upto, .sfill c ga stride size upto,
      .smatch c stride cmp size p upto, .sseek c ga stride cmp size p upto]) : Framed i c i.wf (s.core c).brm s := by
  simp only [List.mem_cons, List.not_mem_nil, or_false] at hi
  rcases hi with rfl | rfl | rfl | rfl <;> exact ⟨_, rfl⟩

/-- A compare-and-branch, jump, call, return or WAIT has no reserved encoding and no place in any delay slot (12 R355). -/
theorem framed_of_transfer {i : Instr} (hi : i ∈ [Instr.brEq c ga gb off18, .brNe c ga gb off18, .brLt c ga gb off18, .brGe c ga gb off18,
      .brLo c ga gb off18, .brHs c ga gb off18, .jmp c off26, .jr c ga, .call c off26, .callr c ga, .ret c p, .reti c p, .eret c, .wait c]) :
    Framed i c true true s := by
  simp only [List.mem_cons, List.not_mem_nil, or_false] at hi
  rcases hi with rfl | rfl | rfl | rfl | rfl | rfl | rfl | rfl | rfl | rfl | rfl | rfl | rfl | rfl
  all_goals
    simp only [Framed, exec, execBrEq, execBrNe, execBrLt, execBrGe, execBrLo, execBrHs, execJmp, execJr, execCall, execCallr, execRet,
      execReti, execEret, execWait]
    exact ⟨_, rfl⟩

/-- BRK and TRAP have no place in a delay slot of boot/recovery mode (13 R389). -/
theorem framed_of_trap {i : Instr} (hi : i ∈ [Instr.brk c, .trap c imm]) : Framed i c true (s.core c).brm s := by
  simp only [List.mem_cons, List.not_mem_nil, or_false] at hi
  rcases hi with rfl | rfl <;> exact ⟨_, rfl⟩

/-- A move to STATUS that clears BRM is a reserved use (12 R355). -/
theorem framed_mts_clearing_brm (hbrm : (s.core c).brm = true) (hbit : ((s.core c).rd ga).getLsbD 1 = false) :
    Framed (.mts c ga 1#10) c true true s := by
  simp only [Framed, exec, execMts, hbrm, hbit]
  exact ⟨_, rfl⟩

end Groups

/-! ### The two kinds of stop -/

theorem illFormed_stops {i : Instr} {c : CoreId} {gd gb ga : Reg} {m : AMode} {p : Bool} {cond stride : BitVec 4} {cmp size : BitVec 2}
    {off : BitVec 18} {upto : Option Nat} {s : State} (h : Fetches c s) (hwf : i.wf = false)
    (hi : i ∈ [Instr.ldb c gd gb m p, .ldbu c gd gb m p, .ldh c gd gb m p, .ldhu c gd gb m p, .ldw c gd gb m p, .brz c ga cond off,
        .scopy c stride size p upto, .sfill c ga stride size upto, .smatch c stride cmp size p upto, .sseek c ga stride cmp size p upto]) :
    exec i s = .fault .reservedEncoding := by
  obtain ⟨ban, hframe⟩ : ∃ ban, Framed i c i.wf ban s := by
    rcases List.mem_append (s := [_, _, _, _, _]).1 hi with hload | hrest
    · exact ⟨_, framed_of_load c gd gb m p s hload⟩
    · rcases List.mem_cons.1 hrest with rfl | hstr
      · exact ⟨_, framed_brz c ga cond off s⟩
      · exact ⟨_, framed_of_string c ga p stride cmp size upto s hstr⟩
  rw [hwf] at hframe
  exact hframe.reservedEncoding h

end Sys2Proof.Machine

open Sys2Proof Sys2Proof.Machine

/-- Settles O21: every instruction named runs in the shared frame, which stops a reserved encoding and, with a delay slot pending, a
reserved use before the body can run. -/
theorem reservedFormsStop : Obligations.ReservedFormsStop := by
  refine ⟨fun c w h => instrOfWord_eq_none h c, instrOfWord_examples, ?_, ?_⟩
  · intro i c gd gb ga m p cond stride cmp size off upto s hrun hfetch hword hwf hi
    exact illFormed_stops ⟨hrun, hfetch, hword⟩ hwf hi
  · intro i c ga gb p cond stride cmp size off18 off26 imm upto s hrun hfetch hword hslot hi
    have hframe : Framed i c true true s := by
      rcases hi with htransfer | ⟨hwf, rfl⟩ | ⟨hbrm, htrap | ⟨rfl, hbit⟩ | ⟨hwf, hstr⟩⟩
      · exact framed_of_transfer c gb ga p off18 off26 s htransfer
      · simpa only [hwf] using framed_brz c ga cond off18 s
      · simpa only [hbrm] using framed_of_trap c imm s htrap
      · exact framed_mts_clearing_brm c ga s hbrm hbit
      · simpa only [hwf, hbrm] using framed_of_string c ga p stride cmp size upto s hstr
    exact hframe.reservedUse ⟨hrun, hfetch, hword⟩ hslot
end

section
/-! Instructions whose whole effect is one register result (13 R377 to R379): what the frame and the register write come to, and the value
of each row as a number. -/

namespace Sys2Proof.Machine

/-! ### The frame of a running instruction -/

theorem Runs.fetches {c : CoreId} {s : State} (h : Runs c s) : Fetches c s := by
  obtain ⟨hrun, hfetch, hword, -⟩ := h
  exact ⟨hrun, hfetch, hword⟩

theorem Runs.memOk {c : CoreId} {s : State} (h : Runs c s) : s.memOk := by
  obtain ⟨-, -, -, hmem⟩ := h
  exact hmem

/-- An instruction with no reserved form, on a running core, is its body. -/
theorem Runs.instr_eq {c : CoreId} {s : State} (h : Runs c s) (body : State → State) :
    instr c true false body s = answer s (body s) := by
  simp [instr_of_fetches h.fetches]

theorem setReg_eq (c : CoreId) (gd : Reg) (f : Core → Word) (s : State) :
    setReg c gd f s = s.setCore c { (s.core c).done 1 with g := (s.core c).g.set gd (f (s.core c)) } := by
  rw [setReg, Core.advance_eq _ _ rfl]
  rfl

/-- An `alu` instruction of a running core has one register result: the word its function computes. -/
theorem Runs.oneResult {c : CoreId} {s : State} (h : Runs c s) {i : Instr} {gd : Reg} {f : Core → Word} {P : Word → Prop}
    (hexec : exec i s = alu c gd f s) (hP : P (f (s.core c))) : OneResult i c gd s P := by
  refine ⟨f (s.core c), ?_, hP⟩
  rw [hexec, alu, h.instr_eq, setReg_eq]
  exact answer_of_eq s _ h.memOk (State.setCore_mem ..) (State.setCore_pending ..)

/-! ### Words read as numbers -/

theorem toInt_ofInt_of_range {x : Int} (hlo : -2147483648 ≤ x) (hhi : x < 2147483648) : (BitVec.ofInt 32 x).toInt = x :=
  BitVec.toInt_ofInt_eq_self (by decide) hlo hhi

/-- An immediate, zero-extended. -/
theorem toNat_setWidth_imm (imm : BitVec 18) : (imm.setWidth 32).toNat = imm.toNat := by
  rw [BitVec.toNat_setWidth]
  exact Nat.mod_eq_of_lt (by omega)

/-- An immediate, sign-extended, as an unsigned number. -/
theorem toNat_signExtend_imm (imm : BitVec 18) : ((imm.signExtend 32).toNat : Int) = imm.toInt % 2 ^ 32 := by
  rw [BitVec.signExtend, BitVec.toNat_ofInt]
  exact Int.toNat_of_nonneg (Int.emod_nonneg _ (by decide))

theorem toInt_signExtend_imm (imm : BitVec 18) : (imm.signExtend 32).toInt = imm.toInt := BitVec.toInt_signExtend_of_le (by decide)

/-- The low `w` bits of a word as a signed number, with `half` the weight of their top bit. -/
theorem toInt_setWidth_eq (a : Word) {w half : Nat} (hw : 2 ^ w = 2 * half) :
    (a.setWidth w).toInt = (a.toNat % (2 * half) : Nat) - (if a.toNat % (2 * half) < half then 0 else (2 * half : Nat) : Int) := by
  rw [BitVec.toInt_eq_toNat_cond, BitVec.toNat_setWidth, hw]
  split <;> split <;> omega

theorem toInt_lowByte (a : Word) :
    (a.setWidth 8).toInt = (a.toNat % 256 : Nat) - (if a.toNat % 256 < 128 then 0 else 256) :=
  toInt_setWidth_eq a (half := 128) rfl

theorem toInt_lowHalfword (a : Word) :
    (a.setWidth 16).toInt = (a.toNat % 65536 : Nat) - (if a.toNat % 65536 < 32768 then 0 else 65536) :=
  toInt_setWidth_eq a (half := 32768) rfl

/-! ### Sums, comparisons and the smaller or larger word -/

theorem toNat_sub_word (a b : Word) : ((a - b).toNat : Int) = ((a.toNat : Int) - b.toNat) % 2 ^ 32 := by
  have hb := b.isLt
  rw [BitVec.toNat_sub]
  omega

theorem toNat_add_imm (a : Word) (imm : BitVec 18) :
    ((a + imm.signExtend 32).toNat : Int) = ((a.toNat : Int) + imm.toInt) % 2 ^ 32 := by
  have himm := toNat_signExtend_imm imm
  rw [BitVec.toNat_add]
  omega

theorem toNat_asWord (b : Bool) : (asWord b).toNat = if b then 1 else 0 := by cases b <;> rfl

theorem toNat_asWord_slt (a b : Word) : (asWord (a.slt b)).toNat = if a.toInt < b.toInt then 1 else 0 := by
  simp only [toNat_asWord, BitVec.slt_iff_toInt_lt]

theorem toNat_asWord_ult (a b : Word) : (asWord (a.ult b)).toNat = if a.toNat < b.toNat then 1 else 0 := by
  simp only [toNat_asWord, BitVec.ult_iff_lt, BitVec.lt_def]

theorem toNat_asWord_slt_imm (a : Word) (imm : BitVec 18) :
    (asWord (a.slt (imm.signExtend 32))).toNat = if a.toInt < imm.toInt then 1 else 0 := by
  rw [toNat_asWord_slt, toInt_signExtend_imm]

theorem toNat_asWord_ult_imm (a : Word) (imm : BitVec 18) :
    (asWord (a.ult (imm.signExtend 32))).toNat = if (a.toNat : Int) < imm.toInt % 2 ^ 32 then 1 else 0 := by
  rw [toNat_asWord_ult, ← toNat_signExtend_imm]
  simp only [Int.ofNat_lt]

theorem toInt_smaller (a b : Word) : (if b.slt a then b else a).toInt = min a.toInt b.toInt := by
  rw [BitVec.slt_eq_decide, apply_ite BitVec.toInt]
  simp only [decide_eq_true_eq]
  split <;> omega

theorem toInt_larger (a b : Word) : (if a.slt b then b else a).toInt = max a.toInt b.toInt := by
  rw [BitVec.slt_eq_decide, apply_ite BitVec.toInt]
  simp only [decide_eq_true_eq]
  split <;> omega

theorem toNat_smaller (a b : Word) : (if b.ult a then b else a).toNat = min a.toNat b.toNat := by
  rw [BitVec.ult, apply_ite BitVec.toNat]
  simp only [decide_eq_true_eq]
  split <;> omega

theorem toNat_larger (a b : Word) : (if a.ult b then b else a).toNat = max a.toNat b.toNat := by
  rw [BitVec.ult, apply_ite BitVec.toNat]
  simp only [decide_eq_true_eq]
  split <;> omega

/-! ### Shifts and products -/

theorem toNat_shl (a : Word) (n : Nat) : (a <<< n).toNat = a.toNat * 2 ^ n % 2 ^ 32 := by
  rw [BitVec.toNat_shiftLeft, Nat.shiftLeft_eq]

theorem toNat_shru (a : Word) (n : Nat) : (a >>> n).toNat = a.toNat / 2 ^ n := by
  rw [BitVec.toNat_ushiftRight, Nat.shiftRight_eq_div_pow]

theorem toInt_shrs (a : Word) (n : Nat) : (a.sshiftRight n).toInt = a.toInt / 2 ^ n := by
  rw [BitVec.toInt_sshiftRight, Int.shiftRight_eq_div_pow, Nat.cast_pow]
  rfl

theorem toNat_ldhi (imm : BitVec 18) : (imm.setWidth 32 <<< 14).toNat = imm.toNat * 2 ^ 14 := by
  rw [toNat_shl, toNat_setWidth_imm]
  exact Nat.mod_eq_of_lt (by omega)

/-- The high half of the signed product fits a word, as the product lies between -2^62 and 2^62. -/
theorem toInt_mulhs (a b : Word) : (BitVec.ofInt 32 (a.toInt * b.toInt / 2 ^ 32)).toInt = a.toInt * b.toInt / 2 ^ 32 := by
  have hlo : -4611686018427387904 ≤ a.toInt * b.toInt := BitVec.le_toInt_mul_toInt
  have hhi : a.toInt * b.toInt ≤ 4611686018427387904 := BitVec.toInt_mul_toInt_le
  exact toInt_ofInt_of_range (by omega) (by omega)

theorem toNat_mulhu (a b : Word) : (BitVec.ofNat 32 (a.toNat * b.toNat / 2 ^ 32)).toNat = a.toNat * b.toNat / 2 ^ 32 := by
  have hprod : a.toNat * b.toNat < 2 ^ 32 * 2 ^ 32 := Nat.mul_lt_mul'' a.isLt b.isLt
  rw [BitVec.toNat_ofNat]
  exact Nat.mod_eq_of_lt (Nat.div_lt_of_lt_mul hprod)

/-! ### Saturation -/

theorem clampI_eq {lo hi : Int} (h : lo ≤ hi) (x : Int) : clampI lo hi x = max lo (min hi x) := by
  unfold clampI
  split
  · omega
  · split <;> omega

theorem toInt_sat32 (x : Int) : (sat32 x).toInt = max (-2147483648) (min 2147483647 x) := by
  have hclamp : satI 32 x = max (-2147483648) (min 2147483647 x) := clampI_eq (by decide) x
  rw [sat32, hclamp]
  exact toInt_ofInt_of_range (by omega) (by omega)

theorem toInt_sat16 (x : Int) : (sat16 x).toInt = max (-32768) (min 32767 x) := by
  have hclamp : satI 16 x = max (-32768) (min 32767 x) := clampI_eq (by decide) x
  rw [sat16, hclamp]
  exact toInt_ofInt_of_range (by omega) (by omega)

/-! ### Leading zeros -/

/-- A count that starts again at each hit, from the right, is the place of the first hit. -/
theorem foldr_count_eq_findIdx (p : Nat → Bool) (l : List Nat) : l.foldr (fun i n => if p i then 0 else n + 1) 0 = l.findIdx p := by
  induction l with
  | nil => rfl
  | cons i l ih => rw [List.foldr_cons, ih, List.findIdx_cons]; cases p i <;> rfl

/-- CLZ is the place of the first set bit from the top. -/
theorem clzWord_eq_findIdx (a : Word) : clzWord a = (List.range 32).findIdx (fun i => a.getLsbD (31 - i)) :=
  foldr_count_eq_findIdx (fun i => a.getLsbD (31 - i)) _

theorem clzWord_le (a : Word) : clzWord a ≤ 32 := by
  rw [clzWord_eq_findIdx]
  exact List.findIdx_le_length

theorem getLsbD_above_clzWord (a : Word) {i : Nat} (h : i < clzWord a) : a.getLsbD (31 - i) = false := by
  rw [clzWord_eq_findIdx] at h
  simpa using List.not_of_lt_findIdx h

theorem getLsbD_at_clzWord (a : Word) (h : clzWord a < 32) : a.getLsbD (31 - clzWord a) = true := by
  rw [clzWord_eq_findIdx] at h ⊢
  have hlen := h.trans_eq List.length_range.symm
  simpa using List.findIdx_getElem (w := hlen)

/-- Every bit from 32 less CLZ on is clear. -/
theorem toNat_lt_of_clzWord (a : Word) : a.toNat < 2 ^ (32 - clzWord a) := by
  refine Nat.lt_pow_two_of_testBit _ fun j hj => ?_
  rcases Nat.lt_or_ge j 32 with hin | hout
  · have hclear := getLsbD_above_clzWord a (i := 31 - j) (by omega)
    rwa [show 31 - (31 - j) = j by omega] at hclear
  · exact BitVec.getLsbD_of_ge a j hout

theorem le_toNat_of_clzWord (a : Word) (h : clzWord a < 32) : 2 ^ (31 - clzWord a) ≤ a.toNat :=
  Nat.ge_two_pow_of_testBit (getLsbD_at_clzWord a h)

theorem toNat_clz (a : Word) : (BitVec.ofNat 32 (clzWord a)).toNat = clzWord a := by
  have hle := clzWord_le a
  rw [BitVec.toNat_ofNat]
  exact Nat.mod_eq_of_lt (by omega)

end Sys2Proof.Machine

open Sys2Proof Sys2Proof.Machine

/-- Settles O7: every row is an `alu` instruction, and its word is the number the row names. -/
theorem integerAndImmediateResults : Obligations.IntegerAndImmediateResults := by
  refine ⟨?_, ?_⟩
  · intro c gd ga gb s h a b sat
    exact ⟨
      h.oneResult rfl (BitVec.toNat_add a b),
      h.oneResult rfl (toNat_sub_word a b),
      h.oneResult rfl (fun _ => BitVec.getLsbD_and),
      h.oneResult rfl (fun _ => BitVec.getLsbD_or),
      h.oneResult rfl (fun _ => BitVec.getLsbD_xor),
      h.oneResult rfl (toNat_asWord_slt a b),
      h.oneResult rfl (toNat_asWord_ult a b),
      h.oneResult rfl (toInt_smaller a b),
      h.oneResult rfl (toInt_larger a b),
      h.oneResult rfl (toNat_smaller a b),
      h.oneResult rfl (toNat_larger a b),
      h.oneResult rfl (toNat_shl a (b.toNat % 32)),
      h.oneResult rfl (toNat_shru a (b.toNat % 32)),
      h.oneResult rfl (toInt_shrs a (b.toNat % 32)),
      h.oneResult rfl (BitVec.toNat_mul a b),
      h.oneResult rfl (toInt_mulhs a b),
      h.oneResult rfl (toNat_mulhu a b),
      h.oneResult rfl (toInt_sat32 (a.toInt + b.toInt)),
      h.oneResult rfl (toInt_sat32 (a.toInt - b.toInt)),
      h.oneResult rfl ((BitVec.toInt_signExtend_of_le (by decide)).trans (toInt_lowByte a)),
      h.oneResult rfl ((BitVec.toInt_signExtend_of_le (by decide)).trans (toInt_lowHalfword a)),
      h.oneResult rfl (by
        rw [toNat_clz]
        exact ⟨clzWord_le a, toNat_lt_of_clzWord a, le_toNat_of_clzWord a⟩)⟩
  · intro c gd ga imm sh s h a
    exact ⟨
      h.oneResult rfl (toNat_add_imm a imm),
      h.oneResult rfl (by rw [BitVec.toNat_and, toNat_setWidth_imm]),
      h.oneResult rfl (by rw [BitVec.toNat_or, toNat_setWidth_imm]),
      h.oneResult rfl (by rw [BitVec.toNat_xor, toNat_setWidth_imm]),
      h.oneResult rfl (toNat_asWord_slt_imm a imm),
      h.oneResult rfl (toNat_asWord_ult_imm a imm),
      h.oneResult rfl (toNat_shl a sh.toNat),
      h.oneResult rfl (toNat_shru a sh.toNat),
      h.oneResult rfl (toInt_shrs a sh.toNat),
      h.oneResult rfl (toNat_ldhi imm)⟩

/-- Settles O8: every row is an `alu` instruction that saturates its exact result; the low halfword is the operand's Q15 value. -/
theorem q15GroupResults : Obligations.Q15GroupResults := by
  intro c gd ga gb s h q a b acc limit16 limit32
  have hq (w : Word) : q15 w = q w := toInt_lowHalfword w
  refine ⟨h.oneResult rfl ?_, h.oneResult rfl ?_, h.oneResult rfl ?_, h.oneResult rfl ?_, h.oneResult rfl ?_, h.oneResult rfl ?_⟩
  · rw [toInt_sat16, hq, hq]; rfl
  · rw [toInt_sat32, hq, hq]
  · rw [toInt_sat32, hq, hq]
  · exact toInt_sat16 _
  · rw [toInt_sat16, hq, hq]
  · rw [toInt_sat16, hq, hq]
end

section
/-! XCHG (13 R382): how a block of bytes written and read back lies in the RAMs, what a load's result and a fault make of the core, and
the swap. -/

namespace Sys2Proof.Machine

/-! ### Bytes of a store -/

/-- A store with no cell at `x` reads as its background there, so a store put before another leaves what the other reads. -/
theorem Memory.byte_append_left {m : Memory} {x : Nat} (h : ∀ d ∈ m, d.1 ≠ x) (n : Memory) : Memory.byte (m ++ n) x = n.byte x := by
  induction m with
  | nil => rfl
  | cons d m ih =>
    rw [List.cons_append, Memory.byte, if_neg (h d List.mem_cons_self)]
    exact ih fun e he => h e (List.mem_cons_of_mem _ he)

theorem Memory.byte_of_not_mem {m : Memory} {x : Nat} (h : ∀ d ∈ m, d.1 ≠ x) : m.byte x = Memory.background x := by
  have hnil := Memory.byte_append_left h []
  rwa [List.append_nil] at hnil

theorem Memory.byte_append_right (m : Memory) {n : Memory} {x : Nat} (h : ∀ d ∈ n, d.1 ≠ x) : Memory.byte (m ++ n) x = m.byte x := by
  induction m with
  | nil => exact Memory.byte_of_not_mem h
  | cons d m ih => rw [List.cons_append, Memory.byte, Memory.byte, ih]

/-- Cells taken out elsewhere do not change what stands at `x`. -/
theorem Memory.byte_filter {p : Host.Cell → Bool} {x : Nat} (h : ∀ d : Host.Cell, d.1 = x → p d = true) (m : Memory) :
    Memory.byte (m.filter p) x = m.byte x := by
  induction m with
  | nil => rfl
  | cons d m ih =>
    rw [List.filter_cons]
    split
    · rw [Memory.byte, Memory.byte, ih]
    · next hp =>
      have hd : d.1 ≠ x := fun e => hp (h d e)
      rw [ih, Memory.byte, if_neg hd]

theorem Memory.byte_cellsFrom (bs : List Byte) (a : Nat) {i : Nat} (h : i < bs.length) : (Memory.cellsFrom a bs).byte (a + i) = bs.getD i 0 := by
  induction bs generalizing a i with
  | nil => exact absurd h (Nat.not_lt_zero i)
  | cons b bs ih =>
    have hrest (j : Nat) (hj : j < bs.length) : (Memory.cellsFrom (a + 1) bs).byte (a + (j + 1)) = bs.getD j 0 := by
      rw [← ih (a + 1) hj, Nat.add_right_comm, Nat.add_assoc]
    have hfirst : (Memory.cellsFrom (a + 1) bs).byte a = Memory.background a :=
      Memory.byte_of_not_mem fun d hd => by
        obtain ⟨hlo, -, -⟩ := Memory.cellsFrom_bounds (a + 1) bs d hd
        omega
    rw [Memory.cellsFrom]
    cases i with
    | zero =>
      split
      · next hb => exact hfirst.trans hb.symm
      · exact if_pos rfl
    | succ j =>
      have hj := Nat.lt_of_succ_lt_succ h
      split
      · exact hrest j hj
      · rw [Memory.byte, if_neg (by omega)]
        exact hrest j hj

/-- A byte written reads back. -/
theorem Memory.byte_write_inside (m : Memory) (a : Nat) (bs : List Byte) {i : Nat} (h : i < bs.length) :
    (m.write a bs).byte (a + i) = bs.getD i 0 := by
  rw [Memory.write, Memory.byte_append_left, Memory.byte_append_right, Memory.byte_cellsFrom bs a h]
  · intro d hd
    have hhigh := of_decide_eq_true (List.mem_filter.1 hd).2
    omega
  · intro d hd
    have hlow := of_decide_eq_true (List.mem_filter.1 hd).2
    omega

/-- A byte outside the block written is as before. -/
theorem Memory.byte_write_outside (m : Memory) {a : Nat} {bs : List Byte} {x : Nat} (h : x < a ∨ a + bs.length ≤ x) :
    (m.write a bs).byte x = m.byte x := by
  have hcells : ∀ d ∈ Memory.cellsFrom a bs, d.1 ≠ x := fun d hd => by
    obtain ⟨hlo, hhi, -⟩ := Memory.cellsFrom_bounds a bs d hd
    omega
  rw [Memory.write]
  rcases h with hbelow | habove
  · rw [Memory.byte_append_right, Memory.byte_filter]
    · intro d hd
      exact decide_eq_true (by omega)
    · intro d hd
      rcases List.mem_append.1 hd with hd | hd
      · exact hcells d hd
      · have hhigh := of_decide_eq_true (List.mem_filter.1 hd).2
        omega
  · rw [Memory.byte_append_left, Memory.byte_append_left hcells, Memory.byte_filter]
    · intro d hd
      exact decide_eq_true (by omega)
    · intro d hd
      have hlow := of_decide_eq_true (List.mem_filter.1 hd).2
      omega

/-! ### Numbers in bytes -/

theorem length_leBytes (n v : Nat) : (leBytes n v).length = n := by
  induction n generalizing v with
  | zero => rfl
  | succ n ih => rw [leBytes, List.length_cons, ih]

theorem getD_leBytes {n i : Nat} (h : i < n) (v : Nat) : (leBytes n v).getD i 0 = BitVec.ofNat 8 (v / 256 ^ i) := by
  induction n generalizing i v with
  | zero => exact absurd h (Nat.not_lt_zero i)
  | succ n ih =>
    cases i with
    | zero => rw [leBytes, List.getD_cons_zero, Nat.pow_zero, Nat.div_one]
    | succ i => rw [leBytes, List.getD_cons_succ, ih (Nat.lt_of_succ_lt_succ h), Nat.div_div_eq_div_mul, Nat.pow_succ']

/-- A number written as `n` bytes stands in memory as `Stored` says. -/
theorem Memory.stored_putLe {m : Memory} (hm : m.wf = true) (a n v : Nat) : Stored m (m.putLe a n v) a n v := by
  refine ⟨m.putLe_wf a n v hm, fun i hi => ?_, fun x hx => ?_⟩
  · rw [Memory.putLe, Memory.byte_write_inside _ _ _ (by rwa [length_leBytes]), getD_leBytes hi]
  · exact Memory.byte_write_outside m (by rwa [length_leBytes])

/-- Cells that rise from `a` on, walked, give the bytes from `a` on. -/
theorem Memory.walk_eq_map_byte (n : Nat) {m : Memory} {a : Nat} (hrise : m.Pairwise (fun c d => c.1 < d.1)) (hlo : ∀ d ∈ m, a ≤ d.1) :
    m.walk a n = (List.range' a n).map m.byte := by
  induction n generalizing m a with
  | zero => cases m <;> rfl
  | succ n ih =>
    rw [List.range'_succ, List.map_cons]
    cases m with
    | nil => rw [Memory.walk, ih .nil (fun _ h => absurd h List.not_mem_nil), Memory.byte]
    | cons c m =>
      obtain ⟨habove, hrest⟩ := List.pairwise_cons.1 hrise
      have hc := hlo c List.mem_cons_self
      rw [Memory.walk]
      split
      · next hat =>
        have hskip : (List.range' (a + 1) n).map (Memory.byte (c :: m)) = (List.range' (a + 1) n).map (Memory.byte m) :=
          List.map_congr_left fun x hx => by
            have hx := (List.mem_range'_1.1 hx).1
            rw [Memory.byte, if_neg (by omega)]
        rw [ih hrest (fun d hd => by have := habove d hd; omega), hskip, Memory.byte, if_pos hat]
      · next hat =>
        have hall : ∀ d ∈ c :: m, a + 1 ≤ d.1 := fun d hd => by
          rcases List.mem_cons.1 hd with rfl | hd
          · omega
          · have := habove d hd
            omega
        rw [ih hrise hall, Memory.byte_of_not_mem fun d hd => by have := hall d hd; omega]

theorem Memory.read_eq_map_byte {m : Memory} (hm : m.wf = true) (a n : Nat) : m.read a n = (List.range' a n).map m.byte := by
  obtain ⟨hrise, -⟩ := (Memory.wf_iff m).1 hm
  rw [Memory.read, Memory.walk_eq_map_byte n (hrise.filter _)]
  · refine List.map_congr_left fun x hx => Memory.byte_filter (fun d hd => ?_) m
    obtain ⟨hlo, hhi⟩ := List.mem_range'_1.1 hx
    simp only [hd, Bool.and_eq_true, decide_eq_true_eq]
    exact ⟨hlo, hhi⟩
  · intro d hd
    have hin := (List.mem_filter.1 hd).2
    simp only [Bool.and_eq_true, decide_eq_true_eq] at hin
    exact hin.1

theorem leNat_map_byte (m : Memory) (a n : Nat) : leNat ((List.range' a n).map m.byte) = spelled m a n := by
  induction n generalizing a with
  | zero => rfl
  | succ n ih => rw [List.range'_succ, List.map_cons, leNat, ih, spelled]

theorem Memory.le_eq_spelled {m : Memory} (hm : m.wf = true) (a n : Nat) : m.le a n = spelled m a n := by
  rw [Memory.le, Memory.read_eq_map_byte hm, leNat_map_byte]

/-! ### The core after a load's result or a fault -/

/-- Where no byte of the block was bad, a write changes memory only. -/
theorem State.put_of_good {s : State} {a : Nat} {bs : List Byte} (h : s.badAt a bs.length = false) :
    s.put a bs = { s with mem := s.mem.write a bs } := by
  have hkeep : s.parBad.filter (fun x => decide (x < a) || decide (a + bs.length ≤ x)) = s.parBad := by
    refine List.filter_eq_self.2 fun x hx => ?_
    have hout := List.any_eq_false.1 h x hx
    simp only [decide_eq_true_eq] at hout
    simp only [Bool.or_eq_true, decide_eq_true_eq]
    omega
  rw [State.put, hkeep]

@[simp] theorem State.core_with_mem (s : State) (m : Memory) (c : CoreId) : State.core { s with mem := m } c = s.core c := by cases c <;> rfl

/-- An instruction's end leaves the load delay to its body. -/
theorem Core.advance_eq_done_with_ld (k : Core) (n : Nat) : k.advance n = { k.done n with ld := k.ld } := by
  unfold Core.advance Core.done Core.nextPc Core.tick
  cases k.slot <;> rfl

/-- A load's result of `n` cycles: the next instruction still reads the old value, and boot/recovery mode waits one more cycle instead
(12 R351, R354). -/
theorem Core.advance_wrLoad (k : Core) (gd : Reg) (v : Word) (n : Nat) :
    (k.settleLoad.wrLoad gd v).advance n = { k with
      g := k.g.set gd v, pc := k.nextPc, slot := k.slot.tail, ld := if k.brm then none else some (gd, k.g.get gd),
      cycle := (k.cycle + if k.brm then n + 1 else n) % 2 ^ 64 } := by
  rw [Core.advance_eq_done_with_ld, Core.wrLoad, Core.settleLoad]
  cases k.brm
  · rfl
  · have hcycle : ((k.cycle + 1) % 2 ^ 64 + n) % 2 ^ 64 = (k.cycle + (n + 1)) % 2 ^ 64 := by omega
    simp only [Core.done, Core.tick, Core.wr, Core.nextPc, if_true, hcycle]

/-- A fault outside a delay slot, while EXC = 0, names its instruction (12 R357, R358). -/
theorem faultAt_eq_trapped {c : CoreId} {s : State} (hexc : (s.core c).exc = false) (hslot : (s.core c).slot = []) (cause : Nat) (ea : Word) :
    faultAt c cause ea s = s.setCore c ((s.core c).trapped cause (s.core c).pc ea) := by
  rw [faultAt, takeExc_eq c cause _ ea s hexc, Core.trapped]
  simp [hslot]

/-! ### XCHG -/

theorem inShared_iff {a : Nat} (halign : a % 4 = 0) : inShared a = true ↔ 0x2001C000 ≤ a ∧ a < 0x20020000 := by
  rw [inShared, decide_eq_true_iff, sharedBase]
  omega

theorem exec_xchg (c : CoreId) (gd gb : Reg) (d : BitVec 16) (parity : Bool) (s : State) :
    exec (.xchg c gd gb d parity) s = execXchg c gd gb d parity s := rfl

section Exchange

variable {c : CoreId} {gd gb : Reg} {d : BitVec 16} {s : State} {ea : Word} (h : Runs c s)
  (hea : (s.core c).rd gb + d.signExtend 32 = ea) (halign : ea.toNat % 4 = 0)
include h hea halign

/-- Outside the shared RAM, XCHG is a DATA_BUS fault. -/
theorem exec_xchg_outside (hout : ¬(0x2001C000 ≤ ea.toNat ∧ ea.toNat < 0x20020000)) :
    exec (.xchg c gd gb d false) s = answer s (faultAt c 0x02 ea s) := by
  have hshared : inShared ea.toNat = false := Bool.eq_false_iff.2 fun hin => hout ((inShared_iff halign).1 hin)
  rw [exec_xchg, execXchg, h.instr_eq]
  simp [hea, halign, hshared]

/-- In the shared RAM, with the word undamaged, XCHG stores the old Gd and loads the word. -/
theorem exec_xchg_inside (hin : 0x2001C000 ≤ ea.toNat ∧ ea.toNat < 0x20020000) (hgood : s.badAt ea.toNat 4 = false) :
    exec (.xchg c gd gb d false) s = answer s (({ s with mem := s.mem.putLe ea.toNat 4 ((s.core c).rd gd).toNat }).setCore c
      (((s.core c).settleLoad.wrLoad gd (BitVec.ofNat 32 (s.mem.le ea.toNat 4))).advance 2)) := by
  have hshared : inShared ea.toNat = true := (inShared_iff halign).2 hin
  have hput := State.put_of_good (s := s) (bs := leBytes 4 ((s.core c).rd gd).toNat) (by rwa [length_leBytes])
  rw [exec_xchg, execXchg, h.instr_eq]
  simp [hea, halign, hshared, hgood, hput, Memory.putLe]

end Exchange

end Sys2Proof.Machine

open Sys2Proof Sys2Proof.Machine

/-- Settles O11: inside the shared RAM the word read and the word written are the same four bytes, and nothing comes between; outside it the
fault precedes every access. -/
theorem xchgSwapsInSharedRamOnly : Obligations.XchgSwapsInSharedRamOnly := by
  intro c gd gb d s h k ea halign
  refine ⟨fun hlo hhi hgood => ?_, fun hexc hslot hout => ?_⟩
  · have hstored := Memory.stored_putLe h.memOk ea.toNat 4 (k.rd gd).toNat
    refine ⟨_, hstored, ?_⟩
    rw [exec_xchg_inside h rfl halign ⟨hlo, hhi⟩ hgood, Core.advance_wrLoad, Memory.le_eq_spelled h.memOk]
    obtain ⟨hwf, -, -⟩ := hstored
    exact answer_of_wf s _ (by rwa [State.memOk, State.setCore_mem]) (State.setCore_pending ..)
  · rw [exec_xchg_outside h rfl halign hout, faultAt_eq_trapped hexc hslot]
    exact answer_of_eq s _ h.memOk (State.setCore_mem ..) (State.setCore_pending ..)
end

section
/-! What every command can come to: a next state through `answer`, or one of the two stops of an instruction's frame. -/

namespace Sys2Proof.Machine

/-- Command `i` goes on in state `s`. -/
def Answers (i : Instr) (s : State) : Prop := ∃ t, exec i s = answer s t

theorem coreStore_answers (c : CoreId) (may : Bool) (ea : Nat) (f : State → State) (s : State) :
    ∃ t, coreStore c may ea f s = answer s t := by
  unfold coreStore
  split
  · exact ⟨_, rfl⟩
  · split <;> exact ⟨_, rfl⟩

theorem runCommand_answers (op j : Nat) (body : JEntry → State → State) (s : State) : ∃ t, runCommand op j body s = answer s t := by
  unfold runCommand
  split
  · exact ⟨_, rfl⟩
  · split <;> exact ⟨_, rfl⟩

/-- A command is an instruction, framed with its own well-formedness, or it goes on. -/
theorem answers_or_framed (i : Instr) (s : State) : Answers i s ∨ ∃ c ban, Framed i c i.wf ban s := by
  cases i
  case icuPendWrite | icuPendRead | icuDone | icuDoneAll | icuSrcWrite | timerControlWrite | timerRestart | mailboxPush | mailboxPop =>
    exact .inl (coreStore_answers ..)
  case nop | fence | stageContext | commit | switch | readContext | hop | lineTest | recalibrate | releaseContact | tokenLoad | capture |
      appletLoad | mailboxSend | settingsWrite | fwUpdateMember | resetMember =>
    simp only [Answers, exec, execNop, execFence, execStageContext, execCommit, execSwitch, execReadContext, execHop, execLineTest,
      execRecalibrate, execReleaseContact, execTokenLoad, execCapture, execAppletLoad, execMailboxSend, execSettingsWrite,
      execFwUpdateMember, execResetMember]
    exact .inl (runCommand_answers ..)
  case add | sub | and | or | xor | cmplt | cmplo | min | max | minu | maxu | shl | shru | shrs | mul | mulhs | mulhu | addsat | subsat |
      sexb | sexh | clz | addK | andK | orK | xorK | cmpltK | cmploK | shlK | shruK | shrsK | ldhi | mulq | macq | msuq | rndq | addq | subq |
      ldb | ldbu | ldh | ldhu | ldw | stb | sth | stw | brEq | brNe | brLt | brGe | brLo | brHs | brz | jmp | jr | call | callr |
      scopy | sfill | smatch | sseek | brk | trap | instrNop =>
    exact .inr ⟨_, _, _, rfl⟩
  case xchg | ret | reti | eret | wait | mfs | mts | di | ei =>
    simp only [Framed, exec, execXchg, execRet, execReti, execEret, execWait, execMfs, execMts, execDi, execEi]
    exact .inr ⟨_, _, _, rfl⟩
  all_goals exact .inl ⟨_, rfl⟩

/-- The shared frame goes on, stops on a reserved encoding, or stops on a reserved use while a delay slot is pending. -/
theorem instr_cases (c : CoreId) (ok ban : Bool) (body : State → State) (s : State) :
    (∃ t, instr c ok ban body s = answer s t) ∨ (instr c ok ban body s = .fault .reservedEncoding ∧ ok = false) ∨
      (instr c ok ban body s = .fault .reservedUse ∧ (s.core c).slot ≠ []) := by
  by_cases h : Fetches c s
  · rw [instr_of_fetches h]
    split
    next hok => exact .inr (.inl ⟨rfl, hok⟩)
    next =>
      split
      next hslot => exact .inr (.inr ⟨rfl, hslot.2⟩)
      next => exact .inl ⟨_, rfl⟩
  · refine .inl ?_
    unfold instr
    split
    · exact ⟨_, rfl⟩
    next hrun =>
      split
      · exact ⟨_, rfl⟩
      next hfetch =>
        rw [if_pos (Bool.not_eq_false _ ▸ fun hbad => h ⟨by simpa using hrun, by simpa using hfetch, hbad⟩)]
        exact ⟨_, rfl⟩

/-- Everything a command can come to. -/
theorem exec_cases (i : Instr) (s : State) :
    Answers i s ∨ (exec i s = .fault .reservedEncoding ∧ i.wf = false) ∨ ∃ c, exec i s = .fault .reservedUse ∧ (s.core c).slot ≠ [] := by
  rcases answers_or_framed i s with h | ⟨c, ban, body, hi⟩
  · exact .inl h
  · rw [Answers, hi]
    rcases instr_cases c i.wf ban body s with h | h | h
    · exact .inl h
    · exact .inr (.inl h)
    · exact .inr (.inr ⟨c, h⟩)

/-- A command that goes on leaves memory in canonical form and the queue as it was. -/
theorem exec_next {i : Instr} {s t : State} (h : exec i s = .next t) : t.memOk ∧ t.pending = s.pending := by
  rcases exec_cases i s with ⟨u, hu⟩ | ⟨hfault, -⟩ | ⟨-, hfault, -⟩
  · obtain ⟨v, hv, hpending, -, hmem⟩ := answer_next s u
    obtain rfl : v = t := by rw [hu, hv] at h; exact Host.Outcome.next.inj h
    exact ⟨hmem, hpending⟩
  · rw [hfault] at h; cases h
  · rw [hfault] at h; cases h

end Sys2Proof.Machine

open Sys2Proof Sys2Proof.Machine

/-- Settles O1: `step` takes the queue's front by definition. -/
theorem stepRunsTheFrontCommand : Obligations.StepRunsTheFrontCommand :=
  ⟨step_cons, fun s h => by rw [step, h]⟩

/-- Settles O2: every command that goes on ends in `answer`, which puts the RAMs into canonical form and keeps the queue it was given. -/
theorem everyStepKeepsMemoryCanonical : Obligations.EveryStepKeepsMemoryCanonical := by
  intro s t hmem h
  unfold step at h
  cases hq : s.pending with
  | nil =>
    simp only [hq] at h
    cases h
    exact ⟨hmem, by rw [hq, List.tail_nil]⟩
  | cons c cs =>
    simp only [hq] at h
    exact exec_next h

/-- Settles O4: of all commands only the instructions have a frame that stops, on an ill-formed encoding or in a delay slot. -/
theorem onlyReservedInstructionsStop : Obligations.OnlyReservedInstructionsStop := by
  intro i s
  rcases exec_cases i s with ⟨u, hu⟩ | hill | ⟨c, hfault, hslot⟩
  · exact .inl ⟨_, hu⟩
  · exact .inr (.inl hill)
  · refine .inr (.inr ⟨hfault, ?_⟩)
    cases c with
    | c0 => exact .inl hslot
    | c1 => exact .inr hslot
end

section
/-! The store of bytes (12 R342, 01 R26), and the machine right after reset. -/

namespace Sys2Proof.Machine

/-- Putting every listed byte into an empty store again, from the last to the first, gives the first cell of each address its say. -/
theorem Memory.byte_rebuilt (m : Memory) (x : Nat) : Memory.byte (m.foldr (fun c a => Memory.write a c.1 [c.2]) []) x = m.byte x := by
  induction m with
  | nil => rfl
  | cons c m ih =>
    rw [List.foldr_cons, Memory.byte]
    split
    next hx =>
      have hhit := Memory.byte_write_inside (m.foldr (fun c a => Memory.write a c.1 [c.2]) []) c.1 [c.2] (i := 0) Nat.one_pos
      rw [Nat.add_zero, hx] at hhit
      rw [hx]
      exact hhit
    next hx =>
      rw [Memory.byte_write_outside _ (by rw [List.length_singleton]; omega), ih]

@[simp] theorem Memory.byte_canon (m : Memory) (x : Nat) : m.canon.byte x = m.byte x := by
  rw [Memory.canon]
  split
  · rfl
  · exact m.byte_rebuilt x

theorem Memory.length_read {m : Memory} (hm : m.wf = true) (a n : Nat) : (m.read a n).length = n := by
  rw [Memory.read_eq_map_byte hm, List.length_map, List.length_range']

theorem Memory.getD_read {m : Memory} (hm : m.wf = true) (a : Nat) {n i : Nat} (hi : i < n) : (m.read a n).getD i 0 = m.byte (a + i) := by
  rw [Memory.read_eq_map_byte hm, List.getD_eq_getElem?_getD, List.getElem?_map, List.getElem?_range' hi, Nat.one_mul]
  rfl

/-- Nothing is written at reset, so a context slot's byte is that of its defaults image (08 R238). -/
theorem Memory.background_slot {n o : Nat} (hn : n < 8) (ho : o < 0x800) : Memory.background (ctxBase + 0x800 * n + o) = defaultsByte n o := by
  rw [Memory.background, if_pos (by omega)]
  have hslot : (ctxBase + 0x800 * n + o - ctxBase) / 0x800 = n := by omega
  have hoff : (ctxBase + 0x800 * n + o - ctxBase) % 0x800 = o := by omega
  rw [hslot, hoff]

end Sys2Proof.Machine

open Sys2Proof Sys2Proof.Machine

/-- Settles O3: no cell is listed at reset. -/
theorem resetMemoryIsCanonical : Obligations.ResetMemoryIsCanonical := ⟨rfl, rfl⟩

/-- Settles O5: a block written replaces the cells of its range, and canonical form decides how the cells are listed, not what they read. -/
theorem memoryReadsWhatWasWritten : Obligations.MemoryReadsWhatWasWritten :=
  ⟨fun m a bs hm => ⟨m.write_wf a bs hm, fun _ hi => m.byte_write_inside a bs hi, fun _ hx => m.byte_write_outside hx⟩,
    fun _ a n hm => ⟨Memory.length_read hm a n, fun _ hi => Memory.getD_read hm a hi⟩, fun m x => ⟨m.canon_wf, m.byte_canon x⟩⟩

/-- Settles O6: the values of `State.reset`, evaluated; the slots, lines and sources each by their index. -/
theorem resetLeavesTheStatedValues : Obligations.ResetLeavesTheStatedValues := by
  have hslots : ∀ n, n < 8 → State.reset.ctx.slots.getD n .active = .empty := by decide
  have hlines : ∀ n, n < 320 → State.reset.elec.code.getD n 0 = 0xF := fun n hn => by
    change (List.replicate 320 0xF).getD n 0 = 0xF
    rw [List.getD_eq_getElem?_getD, List.getElem?_replicate, if_pos hn, Option.getD_some]
  have hsources : ∀ n, n < 48 → (State.reset.srcAt n).ccount = 1 ∧ (State.reset.srcAt n).prio = 0 ∧ (State.reset.srcAt n).pend = false ∧
      (State.reset.srcAt n).act = false ∧ ((State.reset.srcAt n).target = true ↔ n = 1) := by decide
  refine ⟨rfl, rfl, rfl, rfl, rfl, rfl, rfl, rfl, rfl, rfl, rfl, rfl, rfl, rfl, rfl, rfl, rfl, ?_, ?_, ?_⟩
  · exact fun n hn => ⟨hslots n hn, fun o ho => Memory.background_slot hn ho⟩
  · exact hlines
  · refine ⟨rfl, rfl, rfl, rfl, rfl, rfl, rfl, hsources, ?_⟩
    exact ⟨rfl, rfl, rfl, rfl, rfl, rfl, rfl, rfl, rfl, rfl, rfl, rfl, rfl, rfl, rfl, rfl, rfl, rfl, rfl, rfl, rfl⟩
end

section
/-! The system group (12 R346, R347, 13 R387, R388), exceptions and their return (12 R356 to R358) and WAIT (12 R366). -/

namespace Sys2Proof.Machine

/-! ### The frame of a running instruction -/

/-- An instruction that no delay slot forbids here, on a running core, is its body. -/
theorem Runs.instr_eq_of_slot {c : CoreId} {s : State} (h : Runs c s) (ban : Bool) (hban : ban = true → (s.core c).slot = [])
    (body : State → State) : instr c true ban body s = answer s (body s) := by
  rw [instr_of_fetches h.fetches, if_neg (by decide), if_neg fun hslot => hslot.2 (hban hslot.1)]

/-- A body that changes the core alone is the whole answer. -/
theorem answer_setCore {s : State} (hm : s.memOk) (c : CoreId) (k : Core) : answer s (s.setCore c k) = .next (s.setCore c k) :=
  answer_of_eq s _ hm (State.setCore_mem ..) (State.setCore_pending ..)

/-- A running instruction that no delay slot forbids here, with a body that changes the core alone. -/
theorem Runs.instr_setCore {c : CoreId} {s : State} (h : Runs c s) {ban : Bool} (hban : ban = true → (s.core c).slot = [])
    {body : State → State} {k : Core} (hbody : body s = s.setCore c k) : instr c true ban body s = .next (s.setCore c k) := by
  rw [h.instr_eq_of_slot ban hban, hbody, answer_setCore h.memOk]

/-- The same of an instruction that no delay slot forbids. -/
theorem Runs.instr_setCore_free {c : CoreId} {s : State} (h : Runs c s) {body : State → State} {k : Core} (hbody : body s = s.setCore c k) :
    instr c true false body s = .next (s.setCore c k) :=
  h.instr_setCore (fun hban => absurd hban (by decide)) hbody

/-! ### System registers -/

theorem Core.status_false_eq (k : Core) : k.status false =
    BitVec.ofNat 32 ((if k.ie then 1 else 0) + (if k.brm then 2 else 0) + (if k.exc then 4 else 0) + 16 * (k.level % 16)) := by
  unfold Core.status b2n
  cases k.ie <;> cases k.brm <;> cases k.exc <;> rfl

theorem exec_mfs {c : CoreId} {s : State} (h : Runs c s) (gd : Reg) (n : Nat) (hn : n < 1024) (hcycle : n ≠ 8) :
    exec (.mfs c gd (BitVec.ofNat 10 n)) s =
      .next (s.setCore c { (s.core c).done 1 with g := (s.core c).g.set gd (sysRead c (s.core c) n) }) := by
  have hnum : (BitVec.ofNat 10 n).toNat = n := Nat.mod_eq_of_lt hn
  change execMfs c gd (BitVec.ofNat 10 n) s = _
  refine h.instr_setCore_free ?_
  dsimp only
  rw [hnum, if_neg hcycle, Core.advance_eq _ _ rfl]
  rfl

theorem exec_mts {c : CoreId} {s : State} (h : Runs c s) (ga : Reg) (n : Nat) (hn : n < 1024)
    (hslot : n = 1 → (s.core c).slot = [] ∨ (s.core c).brm = false ∨ ((s.core c).rd ga).getLsbD 1 = true) :
    exec (.mts c ga (BitVec.ofNat 10 n)) s =
      .next (s.setCore c ((sysWrite (s.core c) n ((s.core c).rd ga)).settleLoad.advance 1)) := by
  have hnum : (BitVec.ofNat 10 n).toNat = n := Nat.mod_eq_of_lt hn
  change execMts c ga (BitVec.ofNat 10 n) s = _
  rw [execMts, hnum]
  refine h.instr_setCore (fun hb => ?_) rfl
  simp only [Bool.and_eq_true, beq_iff_eq, Bool.not_eq_true'] at hb
  obtain ⟨⟨hone, hbrm⟩, hbit⟩ := hb
  rcases hslot hone with hs | hb | hb
  · exact hs
  · rw [hb] at hbrm; cases hbrm
  · rw [hb] at hbit; cases hbit

/-- 12 R346 lists no register of these numbers. -/
theorem sysRead_unlisted {n : Nat} (hn : 11 ≤ n ∧ n < 16 ∨ 28 ≤ n) (c : CoreId) (k : Core) : sysRead c k n = 0#32 := by
  unfold sysRead
  split
  case h_24 => rfl
  all_goals rcases hn with h | h <;> omega

theorem sysWrite_unlisted {n : Nat} (hn : 11 ≤ n ∧ n < 16 ∨ 28 ≤ n) (k : Core) (v : Word) : sysWrite k n v = k := by
  unfold sysWrite
  split
  case h_19 => rfl
  all_goals rcases hn with h | h <;> omega

/-- The address generators' registers are read by their index. -/
theorem sysRead_ag (c : CoreId) (k : Core) (n : Fin 4) : sysRead c k (16 + n) = k.agBase.get n ∧
    sysRead c k (20 + n) = BitVec.ofNat 32 (k.agLen.get n) ∧ sysRead c k (24 + n) = BitVec.ofNat 32 (k.agMode.get n) := by
  match n with
  | 0 | 1 | 2 | 3 => exact ⟨rfl, rfl, rfl⟩

theorem sysWrite_ag (k : Core) (v : Word) (n : Fin 4) : sysWrite k (16 + n) v = { k with agBase := k.agBase.set n v } ∧
    sysWrite k (20 + n) v = { k with agLen := k.agLen.set n (v.toNat % 2 ^ 17) } ∧ sysWrite k (24 + n) v = k.setAgMode n v := by
  match n with
  | 0 | 1 | 2 | 3 => exact ⟨rfl, rfl, rfl⟩

/-- An instruction's end after the load delay is over. -/
theorem Core.settleLoad_advance (k : Core) (n : Nat) : k.settleLoad.advance n = k.done n := by
  rw [Core.advance_eq _ _ rfl]
  rfl

/-! ### Exceptions -/

/-- Outside a delay slot and while EXC = 0, an exception is what the statements call trapped. -/
theorem takeExc_eq_trapped {c : CoreId} {s : State} (hexc : (s.core c).exc = false) (hslot : (s.core c).slot = []) (cause : Nat) (epc ea : Word) :
    takeExc c cause epc ea s = s.setCore c ((s.core c).trapped cause epc ea) := by
  rw [takeExc_eq c cause epc ea s hexc, Core.trapped]
  simp [hslot]

/-- What the core runs on depends on it only by WAIT. -/
theorem State.canRun_setCore (s : State) (c : CoreId) {k : Core} (h : k.waiting = (s.core c).waiting) :
    (s.setCore c k).canRun c = s.canRun c := by
  cases c <;> simp only [State.canRun, State.core_setCore, h] <;> rfl

@[simp] theorem fetchOk_setCore (s : State) (c : CoreId) (k : Core) (pc : Word) : fetchOk (s.setCore c k) c pc = fetchOk s c pc := by
  cases c <;> rfl

/-- A core that runs goes on running at another place it may fetch from. -/
theorem Runs.setCore {c : CoreId} {s : State} (h : Runs c s) {k : Core} (hwait : k.waiting = (s.core c).waiting)
    (hfetch : fetchOk s c k.pc = true) (hgood : s.badAt k.pc.toNat 4 = false) : Runs c (s.setCore c k) := by
  obtain ⟨hrun, -, -, hmem⟩ := h
  refine ⟨by rwa [State.canRun_setCore s c hwait], by rwa [State.core_setCore, fetchOk_setCore], ?_, by rwa [State.memOk, State.setCore_mem]⟩
  rw [State.fetchBad, State.core_setCore]
  cases c <;> exact hgood

theorem exec_eret {c : CoreId} {s : State} (h : Runs c s) (hslot : (s.core c).slot = []) : exec (.eret c) s = answer s
    (if (s.core c).epc.toNat % 4 != 0 then faultAt c 0x03 (s.core c).epc s
    else if (s.core c).estatus.getLsbD 3 && (s.core c).etgt.toNat % 4 != 0 then faultAt c 0x03 (s.core c).etgt s
    else retExc c s) := by
  change execEret c s = _
  rw [execEret, h.instr_eq_of_slot true fun _ => hslot]

theorem bit_eq_getLsbD (w : Word) (i : Nat) : bit w.toNat i = w.getLsbD i := by
  rw [bit, BitVec.getLsbD, Nat.testBit_eq_decide_div_mod_eq]
  rfl

/-- STATUS as an exception saves it, field by field (12 R347). -/
theorem Core.status_toNat (k : Core) (ds : Bool) :
    (k.status ds).toNat = b2n k.ie + 2 * b2n k.brm + 4 * b2n k.exc + 8 * b2n ds + 16 * (k.level % 16) := by
  have hb (b : Bool) : b2n b ≤ 1 := by cases b <;> decide
  have h1 := hb k.ie
  have h2 := hb k.brm
  have h3 := hb k.exc
  have h4 := hb ds
  rw [Core.status, BitVec.toNat_ofNat]
  exact Nat.mod_eq_of_lt (by omega)

theorem Core.status_fields (k : Core) (ds : Bool) : bit (k.status ds).toNat 0 = k.ie ∧ bit (k.status ds).toNat 1 = k.brm ∧
    bit (k.status ds).toNat 2 = k.exc ∧ bit (k.status ds).toNat 3 = ds ∧ fld (k.status ds).toNat 4 4 = k.level % 16 := by
  have hlevel : k.level % 16 < 16 := Nat.mod_lt _ (by decide)
  rw [Core.status_toNat]
  generalize k.level % 16 = l at hlevel ⊢
  refine ⟨?_, ?_, ?_, ?_, ?_⟩ <;> cases k.ie <;> cases k.brm <;> cases k.exc <;> cases ds <;>
    simp only [bit, fld, b2n, if_true, if_false, Bool.false_eq_true, beq_iff_eq, beq_eq_false_iff_ne, ne_eq] <;> omega

/-- Core `k` after an exception in a delay slot that leads to `target`, while EXC = 0. -/
def Core.slotTrapped (k : Core) (cause : Nat) (target eaddr : Word) : Core :=
  { k with
    estatus := k.status true, epc := k.pc, eaddr := eaddr, ecause := cause, etgt := target, ld := none, exc := true, ie := false
    pc := k.vbase + 0x600#32, slot := [], cycle := (k.cycle + 4) % 2 ^ 64 }

theorem Core.slotTrapped_g (k : Core) (cause : Nat) (target ea : Word) : (k.slotTrapped cause target ea).g = k.g := by rw [Core.slotTrapped]

theorem Core.slotTrapped_waiting (k : Core) (cause : Nat) (target ea : Word) : (k.slotTrapped cause target ea).waiting = k.waiting := by
  rw [Core.slotTrapped]

theorem takeExc_eq_slotTrapped {c : CoreId} {s : State} {target : Word} (hexc : (s.core c).exc = false) (hslot : (s.core c).slot = [target])
    (cause : Nat) (epc ea : Word) : takeExc c cause epc ea s = s.setCore c ((s.core c).slotTrapped cause target ea) := by
  rw [takeExc_eq c cause epc ea s hexc, Core.slotTrapped]
  simp [hslot]

theorem exec_brk {c : CoreId} {s : State} (h : Runs c s) (hslot : (s.core c).slot = []) :
    exec (.brk c) s = answer s (takeExc c 0x05 ((s.core c).pc + 4#32) 0#32 s) := by
  change execBrk c s = _
  rw [execBrk, h.instr_eq_of_slot _ fun _ => hslot]

/-- While EXC = 1, core 0 takes the recovery trap with the exception registers set (12 R360). -/
theorem takeExc_double_c0 {s : State} (hexc : s.core0.exc = true) (hslot : s.core0.slot = []) (cause : Nat) (epc ea : Word) :
    takeExc .c0 cause epc ea s = recoveryTrap { s with core0 := { s.core0 with
      estatus := s.core0.status false, epc := epc, eaddr := ea, ecause := cause, ld := none } } := by
  unfold takeExc
  simp only [State.core, hexc, hslot, if_true, List.isEmpty_nil, Bool.not_true, Bool.false_eq_true, if_false, List.headD_nil]

/-- While EXC = 1, core 1 halts with them set (12 R360, R370). -/
theorem takeExc_double_c1 {s : State} (hexc : s.core1.exc = true) (hslot : s.core1.slot = []) (cause : Nat) (epc ea : Word) :
    takeExc .c1 cause epc ea s = haltCore1 cause { s with core1 := { s.core1 with
      estatus := s.core1.status false, epc := epc, eaddr := ea, ecause := cause, ld := none } } := by
  unfold takeExc
  simp only [State.core, hexc, hslot, if_true, List.isEmpty_nil, Bool.not_true, Bool.false_eq_true, if_false, List.headD_nil]

/-- The recovery trap changes core 0, the boot phase and what goes out on the ring (12 R362, 18 R484). -/
theorem recoveryTrap_eq (s : State) : ∃ k b c q, recoveryTrap s = { s with core0 := k, boot := b, crl := c, arr.queue := q } := by
  unfold recoveryTrap restartCore0
  dsimp only
  split
  · obtain ⟨c, q, h⟩ := sendMsgParts_eq 1 0 false [.ready 0] { s with
      boot.phase := .restart, boot.ready := false, boot.reload := false, boot.fwRetried := false
      core0 := { s.core0 with brm := true, ie := false, exc := false, level := 0, vbase := 0x1000#32, pc := 0x100#32, ld := none,
                              slot := [], waiting := false } }
    exact ⟨_, _, c, q, h⟩
  · exact ⟨_, _, _, _, rfl⟩

/-- A fold of steps that each change the interrupt unit alone changes it alone. -/
theorem foldl_icu {α : Type} {f : State → α → State} (hf : ∀ t a, ∃ i, f t a = { t with icu := i }) (l : List α) (s : State) :
    ∃ i, l.foldl f s = { s with icu := i } := by
  induction l generalizing s with
  | nil => exact ⟨s.icu, rfl⟩
  | cons a l ih =>
    obtain ⟨i, hi⟩ := hf s a
    obtain ⟨j, hj⟩ := ih (f s a)
    exact ⟨j, by rw [List.foldl_cons, hj, hi]⟩

theorem countUndeliverable_icu (n : Nat) (s : State) : ∃ i, countUndeliverable n s = { s with icu := i } := by
  obtain ⟨src, count, last, h⟩ := countUndeliverable_eq n s
  exact ⟨_, h⟩

/-- A halt of core 1 sets HALTED and CAUSE, and beside them changes the interrupt unit, its merged edges and the event it posts. -/
theorem haltCore1_eq (cause : Nat) (s : State) : ∃ i m v c q,
    haltCore1 cause s =
      { s with mbx := { s.mbx with halted := true, cause := cause }, icu := i, clk.mergeIcu := m, evt := v, crl := c, arr.queue := q } := by
  have hcount : ∃ i, (if s.core1Gone then { s with mbx.halted := true, mbx.cause := cause } else
      (List.range 48).foldl (fun u n => if (u.srcAt n).pend then countUndeliverable n u else u)
        { s with mbx.halted := true, mbx.cause := cause }) = { s with mbx.halted := true, mbx.cause := cause, icu := i } := by
    split
    · exact ⟨s.icu, rfl⟩
    · refine (foldl_icu (fun t n => ?_) _ _).imp fun i h => h
      split
      · exact countUndeliverable_icu n t
      · exact ⟨t.icu, rfl⟩
  obtain ⟨i, hi⟩ := hcount
  unfold haltCore1
  dsimp only
  rw [hi]
  obtain ⟨src, n, last, held, merge, hraise⟩ := raise_eq 2 { s with mbx.halted := true, mbx.cause := cause, icu := i }
  rw [hraise]
  generalize hu : ({ s with mbx.halted := true, mbx.cause := cause, icu := i } : State) = u
  subst hu
  obtain ⟨v, c, q, hpost⟩ := postEventAt_eq s.epoch 0x13 (0xFFFF0000 + cause) (s.core1.epc.toNat % 2 ^ 31)
    { s with mbx := { s.mbx with halted := true, cause := cause }, clk.mergeIcu := merge
             icu := { i with src := src, undCount := n, undSrc := last, heldEdges := held } }
  exact ⟨_, _, v, c, q, hpost⟩

/-- ERET from such an exception resumes the slot, and then its target. -/
theorem exec_eret_slotTrapped {c : CoreId} {s : State} {k : Core} {target ea : Word} (cause : Nat)
    (h : Runs c (s.setCore c (k.slotTrapped cause target ea))) (hexc : k.exc = false) (hbrm : k.brm = false) (hpc : k.pc.toNat % 4 = 0)
    (htarget : target.toNat % 4 = 0) : exec (.eret c) (s.setCore c (k.slotTrapped cause target ea)) = .next (s.setCore c
      { k.slotTrapped cause target ea with
        ie := k.ie, exc := false, level := k.level % 16, pc := k.pc, slot := [target], cycle := (k.cycle + 8) % 2 ^ 64 }) := by
  obtain ⟨hie, -, hsexc, hds, hlevel⟩ := k.status_fields true
  have hto : ¬((k.slotTrapped cause target ea).epc.toNat % 4 != 0) = true := by simp [Core.slotTrapped, hpc]
  have hthen : ¬((k.slotTrapped cause target ea).estatus.getLsbD 3 && (k.slotTrapped cause target ea).etgt.toNat % 4 != 0) = true := by
    simp [Core.slotTrapped, htarget]
  have hcycle : ((k.cycle + 4) % 2 ^ 64 + 4) % 2 ^ 64 = (k.cycle + 8) % 2 ^ 64 := by omega
  rw [exec_eret h (by rw [State.core_setCore]; rfl), State.core_setCore, if_neg hto, if_neg hthen, retExc, State.core_setCore,
    answer_setCore h.memOk, State.setCore_setCore]
  simp only [Core.slotTrapped, Core.tick, hds, hie, hsexc, hlevel, hexc, hbrm, hcycle, Bool.false_and, if_true, Bool.false_eq_true, if_false,
    List.headD_cons, List.tail_cons]

end Sys2Proof.Machine

open Sys2Proof Sys2Proof.Machine

/-- Settles O14: every instruction of the group changes the core alone; what it reads and writes stands in `sysRead` and `sysWrite`. -/
theorem systemRegistersReadAndWrite : Obligations.SystemRegistersReadAndWrite := by
  intro c gd ga s h k d v status reads writes
  have hread (n : Nat) (hn : n < 1024) (h8 : n ≠ 8) : reads n (sysRead c k n) := exec_mfs h gd n hn h8
  have hwriteTo {n : Nat} {k1 : Core} (hn : n < 1024) (h1 : n ≠ 1) (hk1 : sysWrite k n v = k1) : writes n (k1.done 1) := by
    have hexec := exec_mts h ga n hn fun hone => absurd hone h1
    rwa [Core.settleLoad_advance, hk1] at hexec
  have hwrite (n : Nat) (hn : n < 1024) (h1 : n ≠ 1) : writes n ((sysWrite k n v).done 1) := hwriteTo hn h1 rfl
  have hstatus : k.status false = status := k.status_false_eq
  refine ⟨?_, ?_, ?_, ?_, ?_, hread 2 (by decide) (by decide), hread 3 (by decide) (by decide), hread 4 (by decide) (by decide),
    hread 5 (by decide) (by decide), hread 6 (by decide) (by decide), hread 7 (by decide) (by decide), hread 9 (by decide) (by decide),
    hread 10 (by decide) (by decide), ?_, ?_, ?_, ?_, hwrite 2 (by decide) (by decide), hwrite 3 (by decide) (by decide),
    hwrite 4 (by decide) (by decide), hwrite 7 (by decide) (by decide), hwrite 10 (by decide) (by decide),
    hwrite 0 (by decide) (by decide), hwrite 5 (by decide) (by decide), hwrite 6 (by decide) (by decide),
    hwrite 8 (by decide) (by decide), hwrite 9 (by decide) (by decide), ?_⟩
  · exact h.instr_setCore_free (congrArg (s.setCore c) (Core.settleLoad_advance ..))
  · change execDi c gd s = _
    refine h.instr_setCore_free ?_
    dsimp only
    rw [Core.settleLoad_advance, hstatus]
    rfl
  · change execEi c s = _
    exact h.instr_setCore_free (congrArg (s.setCore c) (Core.settleLoad_advance ..))
  · have hnum := hread 0 (by decide) (by decide)
    cases c <;> exact hnum
  · exact hstatus ▸ hread 1 (by decide) (by decide)
  · change execMfs c gd 8#10 s = _
    exact h.instr_setCore_free (congrArg (s.setCore c) (Core.settleLoad_advance ..))
  · intro n
    obtain ⟨hbase, hlen, hmode⟩ := sysRead_ag c k n
    exact ⟨hbase ▸ hread _ (by omega) (by omega), hlen ▸ hread _ (by omega) (by omega), hmode ▸ hread _ (by omega) (by omega)⟩
  · intro n hn
    have hout : 11 ≤ n ∧ n < 16 ∨ 28 ≤ n := by omega
    exact ⟨sysRead_unlisted hout c k ▸ hread n (by omega) (by omega), hwriteTo (by omega) (by omega) (sysWrite_unlisted hout k v)⟩
  · intro hslot
    exact (exec_mts h ga 1 (by decide) fun _ => hslot).trans (by rw [Core.settleLoad_advance]; rfl)
  · intro n
    obtain ⟨hbase, hlen, hmode⟩ := sysWrite_ag k v n
    exact ⟨hwriteTo (by omega) (by omega) hbase, hwriteTo (by omega) (by omega) hlen,
      fun hv => hwriteTo (by omega) (by omega) (hmode.trans (if_neg hv)), fun hv => hwriteTo (by omega) (by omega) (hmode.trans (if_pos hv))⟩

/-- Settles O15: both raise through `takeExc`; the return is `retExc` where the addresses it goes to are aligned. -/
theorem exceptionsAreTakenAndReturnedFrom : Obligations.ExceptionsAreTakenAndReturnedFrom := by
  refine ⟨fun c imm s h hslot hexc => ⟨?_, ?_⟩, fun c s h hslot => ⟨fun halign hds => ?_, fun hexc halign => ?_⟩⟩
  · exact h.instr_setCore (fun _ => hslot) (takeExc_eq_trapped hexc hslot ..)
  · exact h.instr_setCore (fun _ => hslot) (takeExc_eq_trapped hexc hslot ..)
  · have hnoslot : (s.core c).estatus.getLsbD 3 = false := by
      rw [← bit_eq_getLsbD, bit, beq_eq_false_iff_ne]
      omega
    rw [exec_eret h hslot, if_neg (by simpa using halign), hnoslot, Bool.false_and, if_neg (by decide)]
    refine (answer_setCore h.memOk c _).trans ?_
    rw [bit_eq_getLsbD _ 3, hnoslot, Core.went]
    cases hb : (s.core c).brm <;> simp [bit, fld, Core.tick] <;> rfl
  · rw [exec_eret h hslot, if_pos (by simpa using halign), faultAt_eq_trapped hexc hslot, answer_setCore h.memOk]

/-- Settles O16: the exception leaves the core alone to say, and the core it leaves runs ERET, whose slot is the kept target. -/
theorem delaySlotExceptionsResume : Obligations.DelaySlotExceptionsResume := by
  intro c s target h hslot hexc hbrm hpc k
  obtain ⟨-, -, -, hds, -⟩ := k.status_fields true
  refine ⟨k.slotTrapped 5 target 0#32, ?_, rfl, rfl, ?_, rfl, rfl, rfl, Core.slotTrapped_g .., fun hfetch hgood htarget => ?_⟩
  · exact h.instr_setCore (fun hb => absurd (hbrm.symm.trans hb) (by decide)) (takeExc_eq_slotTrapped hexc hslot ..)
  · rw [← bit_eq_getLsbD]
    exact hds
  · have hrun : Runs c (s.setCore c (k.slotTrapped 5 target 0#32)) := h.setCore (Core.slotTrapped_waiting ..) hfetch hgood
    refine ⟨_, exec_eret_slotTrapped 5 hrun hexc hbrm hpc htarget, ?_⟩
    simpa [Core.slotTrapped] using hbrm

/-- Settles O17: BRK raises through `takeExc`, which with EXC = 1 is core 0's recovery trap or core 1's halt. -/
theorem doubleFaultsTrapOrHalt : Obligations.DoubleFaultsTrapOrHalt := by
  refine fun s => ⟨fun h hslot hexc => ?_, fun h hslot hexc => ?_⟩
  · have hexec : exec (.brk .c0) s = answer s (takeExc .c0 5 (s.core0.pc + 4#32) 0#32 s) := exec_brk h hslot
    rw [takeExc_double_c0 hexc hslot] at hexec
    generalize hs : ({ s with core0 := _ } : State) = u at hexec
    have hcore := recoveryTrap_core0 u
    obtain ⟨k, b, c, q, htrap⟩ := recoveryTrap_eq u
    rw [htrap] at hcore hexec
    have hk : k = _ := hcore
    subst hs hk
    refine ⟨_, hexec.trans (answer_of_eq s _ h.memOk rfl rfl), ?_⟩
    simp only [and_self]
  · have hexec : exec (.brk .c1) s = answer s (takeExc .c1 5 (s.core1.pc + 4#32) 0#32 s) := exec_brk h hslot
    obtain ⟨i, m, v, c, q, hhalt⟩ := haltCore1_eq 5 { s with core1 := { s.core1 with
      estatus := s.core1.status false, epc := s.core1.pc + 4#32, eaddr := 0#32, ecause := 5, ld := none } }
    rw [takeExc_double_c1 hexc hslot, hhalt] at hexec
    exact ⟨_, hexec.trans (answer_of_eq s _ h.memOk rfl rfl), rfl, rfl, rfl, rfl, rfl, rfl⟩

/-- Settles O18: WAIT's body and the wake each change the core alone. -/
theorem waitSleepsUntilDeliverable : Obligations.WaitSleepsUntilDeliverable := by
  refine fun c s => ⟨fun h hslot => ?_, fun hclk hm hwait hdel => ?_⟩
  · change execWait c s = _
    rw [execWait]
    refine h.instr_setCore (fun _ => hslot) ?_
    rw [Core.settleLoad_advance]
  · refine ⟨((s.core c).cycle + (Config.freeValue s.fresh).toNat) % 2 ^ 64, ?_⟩
    rw [exec, execWaitWake, if_pos (by simp [hclk, hwait, hdel])]
    cases c <;> exact answer_of_eq s _ hm rfl rfl
end

section
/-! Loads, stores and transfers (12 R341 to R352, 13 R380 to R384): what an access of a RAM costs and does, the addressing modes, pushes and
pops. -/

namespace Sys2Proof.Machine

/-! ### Where a RAM access lies -/

/-- No RAM that a core reads lies in the boot ROM or among the peripheral registers. -/
theorem ramReadable_place {s : State} {c : CoreId} {a n : Nat} (hn : 0 < n) (h : ramReadable s c a n = true) :
    0x10000000 ≤ a ∧ (a < 0x40010000 ∨ 0x40020000 ≤ a) := by
  cases c <;> simp only [ramReadable, Bool.or_eq_true, Bool.and_eq_true, decide_eq_true_eq] at h <;>
    simp only [codeBase, dataBase, frameBase, retBase, ctxBase, sharedBase, State.c1Base] at h <;> omega

theorem ramWritable_place {s : State} {c : CoreId} {a n : Nat} (hn : 0 < n) (h : ramWritable s c a n = true) :
    0x10000000 ≤ a ∧ (a < 0x40010000 ∨ 0x40020000 ≤ a) := by
  cases c <;> simp only [ramWritable, Bool.or_eq_true, Bool.and_eq_true, decide_eq_true_eq] at h <;>
    simp only [codeBase, dataBase, frameBase, retBase, ctxBase, sharedBase] at h <;> omega

/-- The two words of a readable doubleword are readable. -/
theorem ramReadable_halves {s : State} {c : CoreId} {a : Nat} (h : ramReadable s c a 8 = true) :
    ramReadable s c a 4 = true ∧ ramReadable s c (a + 4) 4 = true := by
  cases hclk : s.clk.core <;> cases c <;>
    simp only [ramReadable, hclk, Bool.or_eq_true, Bool.and_eq_true, decide_eq_true_eq, Bool.false_eq_true, true_and, false_and,
      or_false] at h ⊢ <;>
    omega

/-- Of a readable doubleword that starts outside the AON region, no part lies in it. -/
theorem aonAccess_upper {s : State} {c : CoreId} {a : Nat} (h : ramReadable s c a 8 = true) (hout : aonAccess a = false) :
    aonAccess (a + 4) = false := by
  rw [aonAccess, Bool.or_eq_false_iff, decide_eq_false_iff_not, decide_eq_false_iff_not] at hout ⊢
  cases c <;> simp only [ramReadable, Bool.or_eq_true, Bool.and_eq_true, decide_eq_true_eq] at h <;>
    simp only [codeBase, dataBase, frameBase, retBase, ctxBase, sharedBase, State.c1Base] at h hout ⊢ <;> omega

/-! ### The stall of an access -/

/-- Core `c` with another count of cycles, and another count of free values drawn. -/
def State.stalled (s : State) (c : CoreId) (cy fr : Nat) : State := { s with fresh := fr }.setCore c { s.core c with cycle := cy }

theorem State.stalled_self (s : State) (c : CoreId) : s.stalled c (s.core c).cycle s.fresh = s := by cases c <;> rfl

/-- An access outside the AON region costs nothing beside its own cycles; one within it costs free cycles. Neither changes anything else
but for the register of the crossings. -/
theorem accessed_eq_stalled (c : CoreId) {a : Nat} (h : a < 0x40010000 ∨ 0x40020000 ≤ a) (s : State) :
    ∃ cy fr, accessed c a s = s.stalled c cy fr ∧ (aonAccess a = false → cy = (s.core c).cycle ∧ fr = s.fresh) := by
  unfold accessed
  cases haon : aonAccess a with
  | false => exact ⟨_, _, (State.stalled_self s c).symm, fun _ => ⟨rfl, rfl⟩⟩
  | true =>
    have hcross : ¬a / 4 = 0x40010304 / 4 := by omega
    simp only [Bool.not_true, Bool.false_eq_true, if_false, hcross]
    refine ⟨((s.core c).cycle + if s.pwr.limp then 975 + (draw s).1.toNat % 497 else 11711 + (draw s).1.toNat % 5953) % 2 ^ 64, s.fresh + 1,
      ?_, fun hoff => by cases hoff⟩
    cases c <;> rfl

theorem accessed_quick (c : CoreId) {a : Nat} (h : aonAccess a = false) (s : State) : accessed c a s = s := by
  rw [accessed, h]
  rfl

section Stalled

variable (s : State) (c : CoreId) (cy fr : Nat)

@[simp] theorem State.stalled_core : (s.stalled c cy fr).core c = { s.core c with cycle := cy } := by
  rw [State.stalled, State.core_setCore]

@[simp] theorem State.stalled_mem : (s.stalled c cy fr).mem = s.mem := by cases c <;> rfl

@[simp] theorem State.stalled_pending : (s.stalled c cy fr).pending = s.pending := by cases c <;> rfl

@[simp] theorem State.stalled_parBad : (s.stalled c cy fr).parBad = s.parBad := by cases c <;> rfl

@[simp] theorem State.stalled_setCore (k : Core) : (s.stalled c cy fr).setCore c k = { s with fresh := fr }.setCore c k := by
  rw [State.stalled, State.setCore_setCore]

@[simp] theorem ramReadable_stalled (a n : Nat) : ramReadable (s.stalled c cy fr) c a n = ramReadable s c a n := by cases c <;> rfl

@[simp] theorem ramWritable_stalled (a n : Nat) : ramWritable (s.stalled c cy fr) c a n = ramWritable s c a n := by cases c <;> rfl

@[simp] theorem State.badAt_stalled (a n : Nat) : (s.stalled c cy fr).badAt a n = s.badAt a n := by cases c <;> rfl

/-- What was stored after a stall is stored beside it. -/
theorem State.wrote_stalled (m : Memory) (a n : Nat) (k : Core) :
    ((s.stalled c cy fr).wrote m a n).setCore c k = ({ s with fresh := fr }.wrote m a n).setCore c k := by cases c <;> rfl

end Stalled

/-! ### Reads and writes of a RAM -/

theorem coreRead_ram {s : State} {c : CoreId} {a n : Nat} (hn : 0 < n) (hread : ramReadable s c a n = true) (hgood : s.badAt a n = false) :
    coreRead c a n false s = .ok (s.mem.le a n) s := by
  obtain ⟨hlo, -⟩ := ramReadable_place hn hread
  have hrom : ¬a + n ≤ 0x10000 := by omega
  simp only [coreRead, hrom, hread, hgood, if_false, if_true, Bool.or_self, Bool.false_eq_true]

theorem coreWrite_ram {s : State} {c : CoreId} {a n : Nat} (hwrite : ramWritable s c a n = true) (v : Nat) :
    coreWrite c a n v s = some (s.put a (leBytes n v)) := by rw [coreWrite, if_pos hwrite]

/-- An address outside the RAMs, the boot ROM and the peripheral registers. -/
def Unmapped (a n : Nat) : Prop := 0x10000 < a + n ∧ ¬(0x40000000 ≤ a ∧ a < 0x400A0000)

theorem coreRead_unmapped {s : State} {c : CoreId} {a n : Nat} (h : Unmapped a n) (hread : ramReadable s c a n = false) (par : Bool) :
    coreRead c a n par s = .bus := by
  obtain ⟨hrom, hperiph⟩ := h
  have hrom : ¬a + n ≤ 0x10000 := by omega
  simp only [coreRead, hrom, hread, hperiph, if_false, Bool.false_eq_true]

theorem coreWrite_unmapped {s : State} {c : CoreId} {a n : Nat} (h : Unmapped a n) (hwrite : ramWritable s c a n = false) (v : Nat) :
    coreWrite c a n v s = none := by
  obtain ⟨-, hperiph⟩ := h
  have hblock : ¬(0x40000000 ≤ a ∧ (decide (a < 0x400A0000) && !decide (ctxBase ≤ a ∧ a < ctxBase + 0x4000)) = true) := by
    simp only [Bool.and_eq_true, decide_eq_true_eq]
    exact fun hin => hperiph ⟨hin.1, hin.2.1⟩
  simp only [coreWrite, hwrite, hblock, if_false, Bool.false_eq_true]

theorem Unmapped.accessed {a n : Nat} (h : Unmapped a n) (c : CoreId) (s : State) : ∃ cy fr, accessed c a s = s.stalled c cy fr := by
  obtain ⟨-, hperiph⟩ := h
  obtain ⟨cy, fr, heq, -⟩ := accessed_eq_stalled c (a := a) (by omega) s
  exact ⟨cy, fr, heq⟩

/-- A number's low bytes are those of its remainder. -/
theorem leBytes_mod (n v : Nat) : leBytes n (v % 2 ^ (8 * n)) = leBytes n v := by
  refine List.ext_getElem (by rw [length_leBytes, length_leBytes]) fun i hi _ => ?_
  rw [length_leBytes] at hi
  have hbyte : BitVec.ofNat 8 (v % 2 ^ (8 * n) / 256 ^ i) = BitVec.ofNat 8 (v / 256 ^ i) := by
    refine BitVec.eq_of_toNat_eq ?_
    obtain ⟨j, rfl⟩ := Nat.exists_eq_add_of_lt hi
    rw [BitVec.toNat_ofNat, BitVec.toNat_ofNat, Nat.pow_mul, show 2 ^ 8 = 256 from rfl, Nat.pow_add, Nat.pow_add, Nat.pow_one,
      Nat.mul_assoc, Nat.mod_mul_right_div_self, Nat.mul_comm, Nat.mod_mul_right_mod]
  have h1 := getD_leBytes hi (v % 2 ^ (8 * n))
  have h2 := getD_leBytes hi v
  rw [List.getD_eq_getElem _ _ (by rwa [length_leBytes])] at h1 h2
  rw [h1, h2, hbyte]

/-- A write of a RAM stands as `Stored` says. -/
theorem State.put_eq_wrote (s : State) (a n v : Nat) : s.put a (leBytes n v) = s.wrote (s.mem.putLe a n v) a n := by
  rw [State.put, State.wrote, length_leBytes]
  rfl

/-! ### Addressing modes (12 R348, R350) -/

theorem toNat_signExtend_disp (d : BitVec 16) : ((d.signExtend 32).toNat : Int) = d.toInt % 2 ^ 32 := by
  rw [BitVec.signExtend, BitVec.toNat_ofInt]
  exact Int.toNat_of_nonneg (Int.emod_nonneg _ (by decide))

/-- A word plus a signed distance, as an unsigned number. -/
theorem toNat_add_ofInt (b : Word) (x : Int) : ((b + BitVec.ofInt 32 x).toNat : Int) = ((b.toNat : Int) + x) % 2 ^ 32 := by
  have hx : ((BitVec.ofInt 32 x).toNat : Int) = x % 2 ^ 32 := by
    rw [BitVec.toNat_ofInt]
    exact Int.toNat_of_nonneg (Int.emod_nonneg _ (by decide))
  rw [BitVec.toNat_add]
  omega

theorem toNat_sub_size (b : Word) {n : Nat} (hn : n ≤ 4) : ((b - BitVec.ofNat 32 n).toNat : Int) = ((b.toNat : Int) - n) % 2 ^ 32 := by
  have hsize : (BitVec.ofNat 32 n).toNat = n := Nat.mod_eq_of_lt (by omega)
  rw [toNat_sub_word, hsize]

/-- Where a step of `st` bytes from `x` leads in a modulo buffer (12 R350). -/
def moduloStep (base len x : Nat) (st : Int) : Int :=
  if 0 ≤ st then (if (base + len : Nat) ≤ (x : Int) + st then (x : Int) + st - (len : Nat) else x + st)
  else (if (x : Int) + st < (base : Nat) then (x : Int) + st + (len : Nat) else x + st)

theorem agUpdate_modulo {k : Core} {ag : Fin 4} (hmode : k.agMode.get ag = 1) (hlen : k.agLen.get ag ≠ 0) (g : Word) (st : Int) (size : Nat) :
    agUpdate k ag g st size = BitVec.ofInt 32 (moduloStep (k.agBase.get ag).toNat (k.agLen.get ag) g.toNat st) := by
  rw [agUpdate, if_neg hlen, if_pos hmode, moduloStep]

/-- A step from inside the buffer, no longer than it, lands inside it, a whole number of buffers off. -/
theorem moduloStep_inside {base len x : Nat} {st : Int} (hlo : base ≤ x) (hhi : x < base + len) (hst : st.natAbs ≤ len) :
    (base : Int) ≤ moduloStep base len x st ∧ moduloStep base len x st < base + len ∧
      (moduloStep base len x st - x - st) % len = 0 := by
  have hrange : moduloStep base len x st - x - st = 0 ∨ moduloStep base len x st - x - st = len ∨
      moduloStep base len x st - x - st = -(len : Int) := by
    unfold moduloStep
    split <;> split <;> omega
  refine ⟨?_, ?_, ?_⟩
  · unfold moduloStep
    split <;> split <;> omega
  · unfold moduloStep
    split <;> split <;> omega
  · rcases hrange with h | h | h <;> rw [h] <;> simp

end Sys2Proof.Machine

open Sys2Proof Sys2Proof.Machine

/-- Settles O12: each mode's sum as a number, and the modulo step inside its buffer. -/
theorem addressModesAndBuffers : Obligations.AddressModesAndBuffers := by
  refine ⟨fun k gb gi sc d st n hn => ⟨⟨_, rfl, ?_⟩, ⟨_, rfl, ?_⟩, ⟨_, rfl, toNat_add_ofInt ..⟩, ⟨_, rfl, toNat_sub_size _ (by omega)⟩⟩, ?_⟩
  · have hd := toNat_signExtend_disp d
    rw [BitVec.toNat_add]
    omega
  · rw [BitVec.toNat_add, toNat_shl, Nat.add_mod_mod]
  · intro k gb ag st n hn b len x hmode hlen hfit hlo hhi hst
    obtain ⟨hin, hout, hmod⟩ := moduloStep_inside hlo hhi hst
    have hto : ((BitVec.ofInt 32 (moduloStep b len x (st.toInt * n))).toNat : Int) = moduloStep b len x (st.toInt * n) := by
      rw [BitVec.toNat_ofInt]
      omega
    refine ⟨_, congrArg _ (agUpdate_modulo hmode (Nat.ne_of_gt hlen) ..), ?_⟩
    change b ≤ (BitVec.ofInt 32 (moduloStep b len x (st.toInt * n))).toNat ∧ (BitVec.ofInt 32 (moduloStep b len x (st.toInt * n))).toNat < b + len ∧ _
    rw [hto]
    exact ⟨by omega, by omega, hmod⟩
end

section
/-! Loads, stores, branches, jumps, calls and returns (12 R348 to R355, 13 R380 to R384, R387): the instructions over the accesses. -/

namespace Sys2Proof.Machine

/-! ### Values of a load -/

/-- A value of `n` bytes, sign-extended from its `8 n` bits. -/
theorem toNat_ofInt_word (x : Int) : (BitVec.ofInt 32 x).toNat = (x % 2 ^ 32).toNat := by
  rw [BitVec.toNat_ofInt]
  rfl

theorem toNat_ofNat_word (x : Nat) : (BitVec.ofNat 32 x).toNat = ((x : Int) % 2 ^ 32).toNat := by
  rw [BitVec.toNat_ofNat]
  omega

theorem spelled_lt (m : Memory) (a n : Nat) : spelled m a n < 256 ^ n := by
  induction n generalizing a with
  | zero => exact Nat.one_pos
  | succ n ih =>
    have hb := (m.byte a).isLt
    have hrest := ih (a + 1)
    rw [spelled, Nat.pow_succ]
    omega

theorem sext_of_lt {w v : Nat} (h : v < 2 ^ w) : sext w v = if v < 2 ^ (w - 1) then (v : Int) else (v : Int) - (2 ^ w : Nat) := by
  rw [sext, Nat.mod_eq_of_lt h]

/-! ### Loads and stores -/

/-- A load of a readable, undamaged RAM block. -/
theorem loadBody_ram {c : CoreId} {s : State} (gd gb : Reg) (m : AMode) {n : Nat} (hn : 0 < n) (f : Nat → Word) {ea nb : Word}
    (hea : (s.core c).ea gb n m = (ea, nb)) (halign : ea.toNat % n = 0) (hread : ramReadable s c ea.toNat n = true)
    (hgood : s.badAt ea.toNat n = false) : ∃ cy fr, (aonAccess ea.toNat = false → cy = (s.core c).cycle ∧ fr = s.fresh) ∧
      loadBody c gd gb m n f false s = { s with fresh := fr }.setCore c
        (((({ s.core c with cycle := cy } : Core).settleLoad.base gb nb m).wrLoad gd (f (s.mem.le ea.toNat n))).advance 1) := by
  obtain ⟨-, hplace⟩ := ramReadable_place hn hread
  obtain ⟨cy, fr, hacc, hcost⟩ := accessed_eq_stalled c hplace s
  refine ⟨cy, fr, hcost, ?_⟩
  have hread' : coreRead c ea.toNat n false (s.stalled c cy fr) = .ok (s.mem.le ea.toNat n) (s.stalled c cy fr) := by
    rw [coreRead_ram hn (by rwa [ramReadable_stalled]) (by rwa [State.badAt_stalled]), State.stalled_mem]
  simp only [loadBody, hea, halign, hacc, hread', ne_eq, not_true_eq_false, if_false, State.stalled_core, State.stalled_setCore]

/-- The core after a load, field by field (12 R351, R354). -/
theorem Core.base_wrLoad_advance (k : Core) (gd gb : Reg) (m : AMode) (nb v : Word) (cy : Nat) :
    ((({ k with cycle := cy } : Core).settleLoad.base gb nb m).wrLoad gd v).advance 1 = { k with
      g := (if updatesBase m then k.g.set gb nb else k.g).set gd v, pc := k.nextPc, slot := k.slot.tail
      ld := if k.brm then none else some (gd, (if updatesBase m then k.g.set gb nb else k.g).get gd)
      cycle := (cy + if k.brm then 2 else 1) % 2 ^ 64 } := by
  have hbase : ({ k with cycle := cy } : Core).settleLoad.base gb nb m =
      ({ k with g := if updatesBase m then k.g.set gb nb else k.g, cycle := cy } : Core).settleLoad := by
    rw [Core.base]
    cases updatesBase m <;> rfl
  rw [hbase, Core.advance_wrLoad]
  rfl

theorem exec_load {i : Instr} {c : CoreId} {s : State} (h : Runs c s) {gd gb : Reg} {m : AMode} {n : Nat} (hn : 0 < n) {f : Nat → Word}
    (hi : exec i s = load c gd gb m n f false s) (hok : loadOk gd gb m = true) {ea nb : Word} (hea : (s.core c).ea gb n m = (ea, nb))
    (halign : ea.toNat % n = 0) (hread : ramReadable s c ea.toNat n = true) (hgood : s.badAt ea.toNat n = false) :
    ∃ cy fr, (aonAccess ea.toNat = false → cy = ((s.core c).cycle + if (s.core c).brm then 2 else 1) % 2 ^ 64 ∧ fr = s.fresh) ∧
      exec i s = .next ({ s with fresh := fr }.setCore c { s.core c with
        g := (if updatesBase m then (s.core c).g.set gb nb else (s.core c).g).set gd (f (spelled s.mem ea.toNat n))
        pc := (s.core c).nextPc, slot := (s.core c).slot.tail
        ld := if (s.core c).brm then none else some (gd, (if updatesBase m then (s.core c).g.set gb nb else (s.core c).g).get gd)
        cycle := cy }) := by
  obtain ⟨cy, fr, hcost, hbody⟩ := loadBody_ram gd gb m hn f hea halign hread hgood
  refine ⟨(cy + if (s.core c).brm then 2 else 1) % 2 ^ 64, fr, fun hquick => ?_, ?_⟩
  rotate_left
  · rw [hi, load, hok, h.instr_eq, hbody, Core.base_wrLoad_advance, Memory.le_eq_spelled h.memOk]
    exact answer_of_eq s _ h.memOk (State.setCore_mem ..) (State.setCore_pending ..)
  · obtain ⟨rfl, hfr⟩ := hcost hquick
    exact ⟨rfl, hfr⟩

/-- The same with the loaded value as a number. -/
theorem exec_load_number {i : Instr} {c : CoreId} {s : State} (h : Runs c s) {gd gb : Reg} {m : AMode} {n : Nat} (hn : 0 < n) {f : Nat → Word}
    {g : Nat → Int} (hi : exec i s = load c gd gb m n f false s) (hfg : ∀ x, x < 256 ^ n → (f x).toNat = (g x % 2 ^ 32).toNat)
    (hok : loadOk gd gb m = true) {ea nb : Word} (hea : (s.core c).ea gb n m = (ea, nb))
    (halign : ea.toNat % n = 0) (hread : ramReadable s c ea.toNat n = true) (hgood : s.badAt ea.toNat n = false) :
    ∃ (v : Word) (cy fr : Nat), v.toNat = (g (spelled s.mem ea.toNat n) % 2 ^ 32).toNat ∧
      (aonAccess ea.toNat = false → cy = ((s.core c).cycle + if (s.core c).brm then 2 else 1) % 2 ^ 64 ∧ fr = s.fresh) ∧
      exec i s = .next ({ s with fresh := fr }.setCore c { s.core c with
        g := (if updatesBase m then (s.core c).g.set gb nb else (s.core c).g).set gd v
        pc := (s.core c).nextPc, slot := (s.core c).slot.tail
        ld := if (s.core c).brm then none else some (gd, (if updatesBase m then (s.core c).g.set gb nb else (s.core c).g).get gd)
        cycle := cy }) := by
  obtain ⟨cy, fr, hcost, hexec⟩ := exec_load h hn hi hok hea halign hread hgood
  exact ⟨_, cy, fr, hfg _ (spelled_lt ..), hcost, hexec⟩

/-- A store to a writable RAM block. -/
theorem exec_store {i : Instr} {c : CoreId} {s : State} (h : Runs c s) {gs gb : Reg} {m : AMode} {n : Nat} (hn : 0 < n)
    (hi : exec i s = instr c true false (storeBody c gs gb m n) s) {ea nb : Word} (hea : (s.core c).ea gb n m = (ea, nb))
    (halign : ea.toNat % n = 0) (hwrite : ramWritable s c ea.toNat n = true) (hstack : stackCheck (s.core c) gb ea m = false) :
    ∃ (mem : Memory) (cy fr : Nat), Stored s.mem mem ea.toNat n ((s.core c).rd gs).toNat ∧
      (aonAccess ea.toNat = false → cy = ((s.core c).done 1).cycle ∧ fr = s.fresh) ∧
      exec i s = .next (({ s with fresh := fr }.wrote mem ea.toNat n).setCore c
        { (s.core c).done 1 with g := if updatesBase m then (s.core c).g.set gb nb else (s.core c).g, cycle := cy }) := by
  obtain ⟨-, hplace⟩ := ramWritable_place hn hwrite
  obtain ⟨cy, fr, hacc, hcost⟩ := accessed_eq_stalled c hplace s
  have hstored := Memory.stored_putLe h.memOk ea.toNat n ((s.core c).rd gs).toNat
  refine ⟨_, (cy + 1) % 2 ^ 64, fr, hstored, fun hquick => ?_, ?_⟩
  · obtain ⟨rfl, hfr⟩ := hcost hquick
    exact ⟨rfl, hfr⟩
  have hput : coreWrite c ea.toNat n (((s.core c).rd gs).toNat % 2 ^ (8 * n)) (s.stalled c cy fr) =
      some ((s.stalled c cy fr).wrote (s.mem.putLe ea.toNat n ((s.core c).rd gs).toNat) ea.toNat n) := by
    rw [coreWrite_ram (by rwa [ramWritable_stalled]), leBytes_mod, State.put_eq_wrote, State.stalled_mem]
  have hcore : ((s.stalled c cy fr).wrote (s.mem.putLe ea.toNat n ((s.core c).rd gs).toNat) ea.toNat n).core c =
      { s.core c with cycle := cy } := by cases c <;> rfl
  have hk : (({ s.core c with cycle := cy } : Core).settleLoad.base gb nb m).advance 1 =
      { (s.core c).done 1 with g := if updatesBase m then (s.core c).g.set gb nb else (s.core c).g, cycle := (cy + 1) % 2 ^ 64 } := by
    rw [Core.advance_eq _ _ (by rw [Core.base]; cases updatesBase m <;> rfl), Core.base]
    cases updatesBase m <;> rfl
  have hbody : storeBody c gs gb m n s = ({ s with fresh := fr }.wrote (s.mem.putLe ea.toNat n ((s.core c).rd gs).toNat) ea.toNat n).setCore c
      { (s.core c).done 1 with g := if updatesBase m then (s.core c).g.set gb nb else (s.core c).g, cycle := (cy + 1) % 2 ^ 64 } := by
    simp only [storeBody, hea, halign, hstack, hacc, hput, ne_eq, not_true_eq_false, if_false, Bool.false_eq_true, hcore, hk]
    exact State.wrote_stalled ..
  obtain ⟨hwf, -, -⟩ := hstored
  rw [hi, h.instr_eq, hbody]
  exact answer_of_wf s _ (by rwa [State.memOk, State.setCore_mem]) (State.setCore_pending ..)

/-! ### Faults -/

theorem exec_fault {i : Instr} {c : CoreId} {s : State} (h : Runs c s) (hexc : (s.core c).exc = false) (hslot : (s.core c).slot = [])
    {body : State → State} {ok ban : Bool} (hi : exec i s = instr c ok ban body s) (hok : ok = true) {cause : Nat} {ea : Word}
    (hbody : body s = faultAt c cause ea s) : exec i s = .next (s.setCore c ((s.core c).trapped cause (s.core c).pc ea)) := by
  subst hok
  rw [hi]
  exact h.instr_setCore (fun _ => hslot) (hbody.trans (faultAt_eq_trapped hexc hslot ..))

section Faults

variable {c : CoreId} {s : State} {gd gb : Reg} {m : AMode} {n : Nat} {ea nb : Word} (hea : (s.core c).ea gb n m = (ea, nb))
include hea

theorem loadBody_misaligned (f : Nat → Word) (par : Bool) (halign : ea.toNat % n ≠ 0) :
    loadBody c gd gb m n f par s = faultAt c 3 ea s := by
  simp only [loadBody, hea, halign, ne_eq, not_false_eq_true, if_true]

theorem loadBody_unmapped (f : Nat → Word) (par : Bool) (halign : ea.toNat % n = 0) (hout : Unmapped ea.toNat n)
    (hread : ramReadable s c ea.toNat n = false) : loadBody c gd gb m n f par s = faultAt c 2 ea s := by
  obtain ⟨cy, fr, hacc⟩ := hout.accessed c s
  have hbus : coreRead c ea.toNat n par (s.stalled c cy fr) = .bus := coreRead_unmapped hout (by rwa [ramReadable_stalled]) par
  simp only [loadBody, hea, halign, hacc, hbus, ne_eq, not_true_eq_false, if_false]

theorem storeBody_misaligned (halign : ea.toNat % n ≠ 0) : storeBody c gd gb m n s = faultAt c 3 ea s := by
  simp only [storeBody, hea, halign, ne_eq, not_false_eq_true, if_true]

theorem storeBody_overflow (halign : ea.toNat % n = 0) (hstack : stackCheck (s.core c) gb ea m = true) :
    storeBody c gd gb m n s = faultAt c 4 ea s := by
  simp only [storeBody, hea, halign, hstack, ne_eq, not_true_eq_false, if_false, if_true]

theorem storeBody_unmapped (halign : ea.toNat % n = 0) (hstack : stackCheck (s.core c) gb ea m = false) (hout : Unmapped ea.toNat n)
    (hwrite : ramWritable s c ea.toNat n = false) : storeBody c gd gb m n s = faultAt c 2 ea s := by
  obtain ⟨cy, fr, hacc⟩ := hout.accessed c s
  have hbus (v : Nat) : coreWrite c ea.toNat n v (s.stalled c cy fr) = none := coreWrite_unmapped hout (by rwa [ramWritable_stalled]) v
  simp only [storeBody, hea, halign, hstack, hacc, hbus, ne_eq, not_true_eq_false, if_false, Bool.false_eq_true]

end Faults

end Sys2Proof.Machine

open Sys2Proof Sys2Proof.Machine

/-- Settles O9: every load and store is an access of its RAM with its stall, then the core's update. -/
theorem loadsAndStoresMoveTheirBytes : Obligations.LoadsAndStoresMoveTheirBytes := by
  refine ⟨fun c gd gb m s h hok => ?_, fun c gs gb m s h => ?_⟩
  · have hea (n : Nat) : (s.core c).ea gb n m = (((s.core c).ea gb n m).1, ((s.core c).ea gb n m).2) := rfl
    refine ⟨exec_load_number (g := fun x => if x < 128 then x else (x : Int) - 256) h Nat.one_pos rfl (fun x hx => ?_) hok (hea 1),
      exec_load_number h Nat.one_pos rfl (fun x _ => toNat_ofNat_word x) hok (hea 1),
      exec_load_number (g := fun x => if x < 32768 then x else (x : Int) - 65536) h Nat.two_pos rfl (fun x hx => ?_) hok (hea 2),
      exec_load_number h Nat.two_pos rfl (fun x _ => toNat_ofNat_word x) hok (hea 2),
      exec_load_number h (by decide) rfl (fun x _ => toNat_ofNat_word x) hok (hea 4)⟩
    · rw [toNat_ofInt_word, sext_of_lt hx]
      rfl
    · rw [toNat_ofInt_word, sext_of_lt hx]
      rfl
  · have hea (n : Nat) : (s.core c).ea gb n m = (((s.core c).ea gb n m).1, ((s.core c).ea gb n m).2) := rfl
    exact ⟨exec_store h Nat.one_pos rfl (hea 1), exec_store h Nat.two_pos rfl (hea 2), exec_store h (by decide) rfl (hea 4)⟩

/-- Settles O10: alignment, the stack limit and the map are asked in this order, and each refusal is `faultAt` on the state as it was. -/
theorem badAccessesRaiseTheirException : Obligations.BadAccessesRaiseTheirException := by
  constructor
  · intro c g gb m s h hexc hslot k raises nowhere ea
    have hea (n : Nat) : (s.core c).ea gb n m = (ea n, ((s.core c).ea gb n m).2) := rfl
    refine ⟨fun hok => ⟨fun halign => ⟨?_, ?_⟩, fun halign => ?_, fun halign hout hread => ?_⟩, fun halign => ?_, fun halign => ?_,
      fun halign hm hgb hlimit => ?_, fun halign hstack hout hwrite => ?_⟩
    · exact exec_fault h hexc hslot rfl hok (loadBody_misaligned (hea 2) _ _ (by omega))
    · exact exec_fault h hexc hslot rfl hok (loadBody_misaligned (hea 2) _ _ (by omega))
    · exact exec_fault h hexc hslot rfl hok (loadBody_misaligned (hea 4) _ _ halign)
    · exact exec_fault h hexc hslot rfl hok (loadBody_unmapped (hea 4) _ _ halign hout hread)
    · exact exec_fault h hexc hslot rfl rfl (storeBody_misaligned (hea 2) (by omega))
    · exact exec_fault h hexc hslot rfl rfl (storeBody_misaligned (hea 4) halign)
    · have hstack : stackCheck (s.core c) gb (ea 4) m = true := by
        rw [hm, hgb]
        exact decide_eq_true hlimit
      exact exec_fault h hexc hslot rfl rfl (storeBody_overflow (hea 4) halign hstack)
    · exact exec_fault h hexc hslot rfl rfl (storeBody_unmapped (hea 4) halign hstack hout hwrite)
  · intro c s hrun hfetch hm hexc hslot k
    change execInstrNop c s = _
    rw [execInstrNop, instr, hrun, hfetch]
    refine Eq.trans ?_ (answer_setCore hm c _)
    rw [← takeExc_eq_trapped hexc hslot]
    rfl
end

section
/-! Branches, jumps, calls and returns (12 R352, R354, R355, R365, 13 R383, R384, R387). -/

namespace Sys2Proof.Machine

/-! ### Targets -/

/-- A word plus four times a signed offset, as a number. -/
theorem toNat_add_shl_two (pc : Word) {w : Nat} (off : BitVec w) :
    ((pc + (off.signExtend 32 <<< 2)).toNat : Int) = ((pc.toNat : Int) + 4 * off.toInt) % 2 ^ 32 := by
  have hoff : ((off.signExtend 32).toNat : Int) = off.toInt % 2 ^ 32 := by
    rw [BitVec.signExtend, BitVec.toNat_ofInt]
    exact Int.toNat_of_nonneg (Int.emod_nonneg _ (by decide))
  rw [BitVec.toNat_add, toNat_shl]
  omega

theorem target_aligned {pc target : Word} (hpc : pc.toNat % 4 = 0) {x : Int} (h : (target.toNat : Int) = ((pc.toNat : Int) + 4 * x) % 2 ^ 32) :
    target.toNat % 4 = 0 := by omega

theorem jumpTo_aligned {c : CoreId} {target : Word} (h : target.toNat % 4 = 0) (n : Nat) (s : State) :
    jumpTo c target n s = s.setCore c ((s.core c).went target n) := by
  have hal : ¬(target.toNat % 4 != 0) = true := by simp [h]
  rw [jumpTo, if_neg hal, Core.jump_eq _ _ _ rfl]
  rfl

theorem jumpTo_misaligned {c : CoreId} {target : Word} (h : target.toNat % 4 ≠ 0) (n : Nat) (s : State) :
    jumpTo c target n s = faultAt c 3 target s := by
  rw [jumpTo, if_pos (by simpa using h)]

/-- A compare-and-branch whose comparison says `p`. -/
theorem exec_branch {i : Instr} {c : CoreId} {s : State} (h : Runs c s) (hslot : (s.core c).slot = []) {ok : Bool} {taken : Core → Bool}
    {off : BitVec 18} (hi : exec i s = instr c ok true (branchIf c taken off) s) (hok : ok = true) {p : Prop}
    (hp : taken (s.core c) = true ↔ p) (halign : ((s.core c).pc + (off.signExtend 32 <<< 2)).toNat % 4 = 0) :
    (p → exec i s = .next (s.setCore c ((s.core c).went ((s.core c).pc + (off.signExtend 32 <<< 2)) 3))) ∧
      (¬p → exec i s = .next (s.setCore c ((s.core c).done 1))) := by
  subst hok
  rw [hi]
  refine ⟨fun hyes => h.instr_setCore (fun _ => hslot) ?_, fun hno => h.instr_setCore (fun _ => hslot) ?_⟩
  · rw [branchIf, if_pos (hp.2 hyes), jumpTo_aligned halign]
  · rw [branchIf, if_neg fun htaken => hno (hp.1 htaken), Core.settleLoad_advance]

/-! ### Comparisons -/

theorem holds_ge_iff (a b : Word) : Cmp.holds .ge a b = true ↔ b.toInt ≤ a.toInt := by
  rw [Cmp.holds, Bool.not_eq_true', ← Bool.not_eq_true, BitVec.slt_iff_toInt_lt, not_lt]

theorem holds_hs_iff (a b : Word) : Cmp.holds .hs a b = true ↔ b.toNat ≤ a.toNat := by
  rw [Cmp.holds, Bool.not_eq_true', ← Bool.not_eq_true, BitVec.ult_iff_lt, BitVec.lt_def, not_lt]

theorem holds_lo_iff (a b : Word) : Cmp.holds .lo a b = true ↔ a.toNat < b.toNat := by rw [Cmp.holds, BitVec.ult_iff_lt, BitVec.lt_def]

/-! ### Calls -/

/-- A push of a word into a writable RAM above the stack limit. -/
theorem pushWord_ram {c : CoreId} {sp : Word} (v : Word) {s : State} (halign : sp.toNat % 4 = 0)
    (hlimit : (s.core c).slimit.toNat ≤ (sp - 4#32).toNat) (hwrite : ramWritable s c (sp - 4#32).toNat 4 = true) :
    ∃ cy fr, (aonAccess (sp - 4#32).toNat = false → cy = (s.core c).cycle ∧ fr = s.fresh) ∧
      pushWord c sp v s = .ok ((s.stalled c cy fr).wrote (s.mem.putLe (sp - 4#32).toNat 4 v.toNat) (sp - 4#32).toNat 4) := by
  obtain ⟨-, hplace⟩ := ramWritable_place (by decide) hwrite
  obtain ⟨cy, fr, hacc, hcost⟩ := accessed_eq_stalled c hplace s
  refine ⟨cy, fr, hcost, ?_⟩
  have hput : coreWrite c (sp - 4#32).toNat 4 v.toNat (s.stalled c cy fr) =
      some ((s.stalled c cy fr).wrote (s.mem.putLe (sp - 4#32).toNat 4 v.toNat) (sp - 4#32).toNat 4) := by
    rw [coreWrite_ram (by rwa [ramWritable_stalled]), State.put_eq_wrote, State.stalled_mem]
  have hlow : ¬(sp - 4#32).toNat < (s.core c).slimit.toNat := Nat.not_lt.2 hlimit
  simp only [pushWord, halign, hacc, hput, ne_eq, not_true_eq_false, if_false, if_neg hlow]

theorem Core.returnAddr_eq (k : Core) : k.returnAddr = k.pc + if k.brm then 8#32 else 4#32 := by
  rw [Core.returnAddr]
  cases k.brm <;> rfl

/-- A transfer after G15 moved, whatever stall came before. -/
theorem Core.wr_jump (k : Core) (cy : Nat) (v target : Word) (n : Nat) :
    (({ k with cycle := cy } : Core).wr 15 v).settleLoad.jump target n =
      { k.went target n with g := k.g.set 15 v, cycle := ({ k with cycle := cy }.went target n).cycle } := by
  rw [Core.jump_eq _ _ _ rfl]
  cases hb : k.brm <;> simp [Core.went, Core.wr, Core.settleLoad, hb]

theorem exec_call {i : Instr} {c : CoreId} {s : State} (h : Runs c s) (hslot : (s.core c).slot = []) {target : Word}
    (hi : exec i s = answer s (callTo c target s)) (htarget : target.toNat % 4 = 0) (halign : ((s.core c).rd 15).toNat % 4 = 0)
    (hlimit : (s.core c).slimit.toNat ≤ ((s.core c).rd 15 - 4#32).toNat) (hwrite : ramWritable s c ((s.core c).rd 15 - 4#32).toNat 4 = true) :
    ∃ (mem : Memory) (cy fr : Nat),
      Stored s.mem mem ((s.core c).rd 15 - 4#32).toNat 4 ((s.core c).pc + if (s.core c).brm then 8#32 else 4#32).toNat ∧
      (aonAccess ((s.core c).rd 15 - 4#32).toNat = false → cy = ((s.core c).went target 3).cycle ∧ fr = s.fresh) ∧
      exec i s = .next (({ s with fresh := fr }.wrote mem ((s.core c).rd 15 - 4#32).toNat 4).setCore c
        { (s.core c).went target 3 with g := (s.core c).g.set 15 ((s.core c).rd 15 - 4#32), cycle := cy }) := by
  obtain ⟨cy, fr, hcost, hpush⟩ := pushWord_ram (s.core c).returnAddr halign hlimit hwrite
  rw [Core.returnAddr_eq] at hpush
  generalize hra : ((s.core c).pc + if (s.core c).brm then 8#32 else 4#32) = ra at hpush ⊢
  generalize hsp : (s.core c).rd 15 - 4#32 = sp at hcost hpush hlimit hwrite ⊢
  have hstored := Memory.stored_putLe h.memOk sp.toNat 4 ra.toNat
  refine ⟨_, ({ s.core c with cycle := cy }.went target 3).cycle, fr, hstored, fun hquick => ?_, ?_⟩
  · obtain ⟨rfl, hfr⟩ := hcost hquick
    exact ⟨rfl, hfr⟩
  have hcore : ((s.stalled c cy fr).wrote (s.mem.putLe sp.toNat 4 ra.toNat) sp.toNat 4).core c = { s.core c with cycle := cy } := by
    cases c <;> rfl
  have hbody : callTo c target s = ({ s with fresh := fr }.wrote (s.mem.putLe sp.toNat 4 ra.toNat) sp.toNat 4).setCore c
      { (s.core c).went target 3 with g := (s.core c).g.set 15 sp, cycle := ({ s.core c with cycle := cy }.went target 3).cycle } := by
    simp only [callTo, htarget, ne_eq, not_true_eq_false, if_false, Core.returnAddr_eq, hra, hsp, hpush, hcore, Core.wr_jump]
    exact State.wrote_stalled ..
  obtain ⟨hwf, -, -⟩ := hstored
  rw [hi, hbody]
  exact answer_of_wf s _ (by rwa [State.memOk, State.setCore_mem]) (State.setCore_pending ..)

/-- A jump or call of a running core outside a delay slot is its body. -/
theorem exec_transfers {c : CoreId} {s : State} (h : Runs c s) (hslot : (s.core c).slot = []) (ga : Reg) (off : BitVec 26) :
    exec (.jmp c off) s = answer s (jumpTo c ((s.core c).pc + (off.signExtend 32 <<< 2)) 3 s) ∧
    exec (.call c off) s = answer s (callTo c ((s.core c).pc + (off.signExtend 32 <<< 2)) s) ∧
    exec (.jr c ga) s = answer s (jumpTo c ((s.core c).rd ga) 3 s) ∧ exec (.callr c ga) s = answer s (callTo c ((s.core c).rd ga) s) := by
  have hbody := h.instr_eq_of_slot true fun _ => hslot
  exact ⟨hbody (fun u => jumpTo c ((u.core c).pc + (off.signExtend 32 <<< 2)) 3 u),
    hbody (fun u => callTo c ((u.core c).pc + (off.signExtend 32 <<< 2)) u), hbody (fun u => jumpTo c ((u.core c).rd ga) 3 u),
    hbody (fun u => callTo c ((u.core c).rd ga) u)⟩

theorem callTo_misaligned {c : CoreId} {target : Word} (h : target.toNat % 4 ≠ 0) (s : State) : callTo c target s = faultAt c 3 target s := by
  simp only [callTo, h, ne_eq, not_false_eq_true, if_true]

theorem callTo_overflow {c : CoreId} {target : Word} (h : target.toNat % 4 = 0) {s : State} (halign : ((s.core c).rd 15).toNat % 4 = 0)
    (hlimit : ((s.core c).rd 15 - 4#32).toNat < (s.core c).slimit.toNat) :
    callTo c target s = faultAt c 4 ((s.core c).rd 15 - 4#32) s := by
  simp only [callTo, pushWord, h, halign, ne_eq, not_true_eq_false, if_false, if_pos hlimit]

/-- A body that faults outside a delay slot while EXC = 0. -/
theorem answer_faultAt {c : CoreId} {s : State} (h : Runs c s) (hexc : (s.core c).exc = false) (hslot : (s.core c).slot = []) (cause : Nat)
    (ea : Word) : answer s (faultAt c cause ea s) = .next (s.setCore c ((s.core c).trapped cause (s.core c).pc ea)) := by
  rw [faultAt_eq_trapped hexc hslot, answer_setCore h.memOk]

/-! ### Returns -/

/-- An undamaged word of a RAM outside the AON region is read at once. -/
theorem coreRead_quick {s : State} (hm : s.memOk) {c : CoreId} {a : Nat} (hread : ramReadable s c a 4 = true) (hquick : s.quick a 4) :
    coreRead c a 4 false (accessed c a s) = .ok (spelled s.mem a 4) s := by
  obtain ⟨hgood, haon⟩ := hquick
  rw [accessed_quick c haon, coreRead_ram (by decide) hread hgood, Memory.le_eq_spelled hm]

theorem State.badAt_mono {s : State} {a n b m : Nat} (h : s.badAt a n = false) (hlo : a ≤ b) (hhi : b + m ≤ a + n) : s.badAt b m = false := by
  refine List.any_eq_false.2 fun x hx => ?_
  have hout := List.any_eq_false.1 h x hx
  simp only [decide_eq_true_eq] at hout ⊢
  omega

section Returns

variable {c : CoreId} {s : State} (h : Runs c s) (hslot : (s.core c).slot = []) (halign : ((s.core c).rd 15).toNat % 4 = 0)
include h hslot halign

theorem exec_ret (hra : (BitVec.ofNat 32 (spelled s.mem ((s.core c).rd 15).toNat 4)).toNat % 4 = 0)
    (hread : ramReadable s c ((s.core c).rd 15).toNat 4 = true) (hquick : s.quick ((s.core c).rd 15).toNat 4) :
    exec (.ret c false) s = .next (s.setCore c
      { (s.core c).went (BitVec.ofNat 32 (spelled s.mem ((s.core c).rd 15).toNat 4)) 4 with g := (s.core c).g.set 15 ((s.core c).rd 15 + 4#32) }) := by
  have hlt := spelled_lt s.mem ((s.core c).rd 15).toNat 4
  have hra' : ¬spelled s.mem ((s.core c).rd 15).toNat 4 % 4 ≠ 0 := by
    rw [BitVec.toNat_ofNat] at hra
    omega
  change execRet c false s = _
  rw [execRet]
  refine h.instr_setCore (fun _ => hslot) ?_
  simp only [coreRead_quick h.memOk hread hquick, halign, hra', ne_eq, not_true_eq_false, if_false]
  exact congrArg _ (Core.wr_jump (s.core c) (s.core c).cycle _ _ 4)

theorem exec_reti (hra : (BitVec.ofNat 32 (spelled s.mem ((s.core c).rd 15).toNat 4)).toNat % 4 = 0)
    (hread : ramReadable s c ((s.core c).rd 15).toNat 8 = true) (hquick : s.quick ((s.core c).rd 15).toNat 8)
    (hchain : s.chainSource c (spelled s.mem (((s.core c).rd 15).toNat + 4) 4 / 16 % 16) = none) :
    exec (.reti c false) s = .next (s.setCore c
      { (s.core c).went (BitVec.ofNat 32 (spelled s.mem ((s.core c).rd 15).toNat 4)) 4 with
        g := (s.core c).g.set 15 ((s.core c).rd 15 + 8#32)
        ie := decide (spelled s.mem (((s.core c).rd 15).toNat + 4) 4 % 2 = 1)
        level := spelled s.mem (((s.core c).rd 15).toNat + 4) 4 / 16 % 16 }) := by
  have hlt := spelled_lt s.mem ((s.core c).rd 15).toNat 4
  have hra' : ¬spelled s.mem ((s.core c).rd 15).toNat 4 % 4 ≠ 0 := by
    rw [BitVec.toNat_ofNat] at hra
    omega
  obtain ⟨hread1, hread2⟩ := ramReadable_halves hread
  obtain ⟨hgood, haon⟩ := hquick
  have hlower : s.quick ((s.core c).rd 15).toNat 4 := ⟨State.badAt_mono hgood (by omega) (by omega), haon⟩
  have hupper : s.quick (((s.core c).rd 15).toNat + 4) 4 := ⟨State.badAt_mono hgood (by omega) (by omega), aonAccess_upper hread haon⟩
  change execReti c false s = _
  rw [execReti]
  refine h.instr_setCore (fun _ => hslot) ?_
  have hfld (x : Nat) : fld x 4 4 = x / 16 % 16 := rfl
  simp only [oneOfTwo, Bool.false_eq_true, coreRead_quick h.memOk hread1 hlower, coreRead_quick h.memOk hread2 hupper, halign, hra', ne_eq,
    not_true_eq_false, if_false, hfld, hchain]
  rw [Core.jump_eq _ _ _ rfl]
  refine congrArg _ ?_
  cases hb : (s.core c).brm <;> simp [Core.went, Core.wr, Core.settleLoad, hb, bit, beq_eq_decide]

end Returns

end Sys2Proof.Machine

open Sys2Proof Sys2Proof.Machine

/-- Settles O13: the transfers are `branchIf`, `jumpTo` and `callTo`; the returns read their words from the RAM and change the core. -/
theorem branchesJumpsCallsAndReturns : Obligations.BranchesJumpsCallsAndReturns := by
  refine ⟨fun c ga gb cond off s h hslot hpc => ?_, fun c ga off s h hslot hpc => ?_, fun c s h hslot => ?_⟩
  · have htarget := toNat_add_shl_two (s.core c).pc off
    have halign := target_aligned hpc htarget
    refine ⟨_, htarget, exec_branch h hslot rfl rfl beq_iff_eq halign, exec_branch h hslot rfl rfl bne_iff_ne halign,
      exec_branch h hslot rfl rfl BitVec.slt_iff_toInt_lt halign, exec_branch h hslot rfl rfl (holds_ge_iff ..) halign,
      exec_branch h hslot rfl rfl (holds_lo_iff ..) halign, exec_branch h hslot rfl rfl (holds_hs_iff ..) halign, ?_, ?_, ?_, ?_, ?_, ?_⟩
    all_goals intro hcond; subst hcond
    · exact exec_branch h hslot rfl rfl beq_iff_eq halign
    · exact exec_branch h hslot rfl rfl bne_iff_ne halign
    · exact exec_branch h hslot rfl rfl decide_eq_true_iff halign
    · exact exec_branch h hslot rfl rfl decide_eq_true_iff halign
    · exact exec_branch h hslot rfl rfl decide_eq_true_iff halign
    · exact exec_branch h hslot rfl rfl decide_eq_true_iff halign
  · have htarget := toNat_add_shl_two (s.core c).pc off
    have htalign := target_aligned hpc htarget
    obtain ⟨hjmp, hcall, hjr, hcallr⟩ := exec_transfers h hslot ga off
    refine ⟨⟨_, htarget, ?_, exec_call h hslot hcall htalign⟩, fun hga => ⟨?_, exec_call h hslot hcallr hga⟩, fun hexc hga => ⟨?_, ?_⟩,
      fun hexc halign hlimit => ?_⟩
    · exact hjmp.trans (by rw [jumpTo_aligned htalign, answer_setCore h.memOk])
    · exact hjr.trans (by rw [jumpTo_aligned hga, answer_setCore h.memOk])
    · exact hjr.trans (by rw [jumpTo_misaligned hga, answer_faultAt h hexc hslot])
    · exact hcallr.trans (by rw [callTo_misaligned hga, answer_faultAt h hexc hslot])
    · exact hcall.trans (by rw [callTo_overflow htalign halign hlimit, answer_faultAt h hexc hslot])
  · refine fun halign hra => ⟨fun hread hquick => exec_ret h hslot halign hra hread hquick,
      fun hread hquick hchain => exec_reti h hslot halign hra hread hquick hchain⟩
end

section
/-! Interrupt entry (12 R361, R363, 14 R398): the two pushes as one block of eight bytes, and the delivery at the jump. -/

namespace Sys2Proof.Machine

/-! ### The frame on the stack -/

/-- Two words stored one above the other are a doubleword. -/
theorem Stored.append {m0 m1 m2 : Memory} {a lo hi : Nat} (hupper : Stored m0 m1 (a + 4) 4 hi) (hlower : Stored m1 m2 a 4 lo)
    (hlo : lo < 2 ^ 32) : Stored m0 m2 a 8 (lo + 2 ^ 32 * hi) := by
  obtain ⟨-, hbytes1, hrest1⟩ := hupper
  obtain ⟨hwf, hbytes2, hrest2⟩ := hlower
  refine ⟨hwf, fun i hi8 => ?_, fun x hx => by rw [hrest2 x (by omega), hrest1 x (by omega)]⟩
  refine BitVec.eq_of_toNat_eq ?_
  rcases Nat.lt_or_ge i 4 with hi4 | hi4
  · rw [hbytes2 i hi4, BitVec.toNat_ofNat, BitVec.toNat_ofNat]
    interval_cases i <;> norm_num <;> omega
  · obtain ⟨j, rfl⟩ := Nat.exists_eq_add_of_le hi4
    rw [hrest2 _ (by omega), ← Nat.add_assoc, hbytes1 j (by omega), BitVec.toNat_ofNat, BitVec.toNat_ofNat]
    have hj : j < 4 := by omega
    interval_cases j <;> norm_num <;> omega

theorem pushWord_quick {c : CoreId} {sp : Word} (v : Word) {s : State} (halign : sp.toNat % 4 = 0)
    (hlimit : (s.core c).slimit.toNat ≤ (sp - 4#32).toNat) (hwrite : ramWritable s c (sp - 4#32).toNat 4 = true)
    (haon : aonAccess (sp - 4#32).toNat = false) :
    pushWord c sp v s = .ok (s.wrote (s.mem.putLe (sp - 4#32).toNat 4 v.toNat) (sp - 4#32).toNat 4) := by
  obtain ⟨cy, fr, hcost, hpush⟩ := pushWord_ram v halign hlimit hwrite
  obtain ⟨rfl, rfl⟩ := hcost haon
  rwa [State.stalled_self] at hpush

/-! ### Delivery -/

theorem State.candidate_eligible {s : State} {c : CoreId} {n : Nat} (h : s.candidate c = some n) : s.eligible c n = true := by
  unfold State.candidate at h
  revert h
  refine List.foldlRecOn (motive := fun best => best = some n → s.eligible c n = true) (List.range 48) _ (fun h => by cases h) ?_
  intro best ih m _ h
  split at h
  next helig =>
    split at h
    next => cases h; exact helig
    next =>
      split at h
      next => cases h; exact helig
      next => exact ih h
  next => exact ih h

theorem State.deliverable_pend {s : State} {c : CoreId} {n : Nat} (h : s.deliverable c = some n) : (s.srcAt n).pend = true := by
  obtain ⟨hcand, -⟩ := Option.filter_eq_some_iff.1 h
  have helig := State.candidate_eligible hcand
  simp only [State.eligible, Bool.and_eq_true] at helig
  obtain ⟨⟨⟨⟨hpend, -⟩, -⟩, -⟩, -⟩ := helig
  exact hpend

/-- A source beyond the list is at its reset value, and not pending. -/
theorem State.lt_of_pend {s : State} {n : Nat} (h : (s.srcAt n).pend = true) : n < s.icu.src.length := by
  by_contra hout
  rw [State.srcAt, List.getD_eq_default _ _ (by omega)] at h
  cases h

/-- The two pushes of an entry, outside the AON region, change memory and the bytes known to be bad. -/
theorem pushWords_quick {c : CoreId} {sp : Word} (upper lower : Word) {s : State} (hm : s.memOk) (halign : sp.toNat % 4 = 0) (hroom : 8 ≤ sp.toNat)
    (hlimit : (s.core c).slimit.toNat ≤ (sp - 8#32).toNat) (hwrite8 : ramWritable s c (sp - 8#32).toNat 4 = true)
    (hwrite4 : ramWritable s c (sp - 4#32).toNat 4 = true) (haon8 : aonAccess (sp - 8#32).toNat = false)
    (haon4 : aonAccess (sp - 4#32).toNat = false) : ∃ t m p, pushWord c sp upper s = .ok t ∧
      pushWord c (sp - 4#32) lower t = .ok { s with mem := m, parBad := p } ∧
      Stored s.mem m (sp - 8#32).toNat 8 (lower.toNat + 2 ^ 32 * upper.toNat) := by
  have hsub4 : (sp - 4#32).toNat = sp.toNat - 4 := BitVec.toNat_sub_of_le (Nat.le_trans (by decide) hroom)
  have hsub8 : (sp - 8#32).toNat = sp.toNat - 8 := BitVec.toNat_sub_of_le hroom
  have hsub : sp - 4#32 - 4#32 = sp - 8#32 := by
    rw [BitVec.sub_sub]
    rfl
  have hstored := Memory.stored_putLe hm (sp - 4#32).toNat 4 upper.toNat
  generalize hm1 : s.mem.putLe (sp - 4#32).toNat 4 upper.toNat = m1 at hstored
  have hpush1 := pushWord_quick upper halign (by omega) hwrite4 haon4
  rw [hm1] at hpush1
  have hcore : (s.wrote m1 (sp - 4#32).toNat 4).core c = s.core c := by cases c <;> rfl
  have hwrite : ramWritable (s.wrote m1 (sp - 4#32).toNat 4) c (sp - 4#32 - 4#32).toNat 4 = true := by
    rw [hsub]
    cases c <;> exact hwrite8
  have hpush2 := pushWord_quick (c := c) (sp := sp - 4#32) lower (s := s.wrote m1 (sp - 4#32).toNat 4) (by omega)
    (by rw [hsub, hcore]; exact hlimit) hwrite (by rwa [hsub])
  rw [hsub] at hpush2
  obtain ⟨hwf, -, -⟩ := id hstored
  have hplace : (sp - 4#32).toNat = (sp - 8#32).toNat + 4 := by omega
  refine ⟨_, _, _, hpush1, hpush2, ?_⟩
  rw [hplace] at hstored
  exact hstored.append (Memory.stored_putLe hwf _ 4 lower.toNat) lower.isLt

/-- An entry with both words pushed and no later arrival: the source delivered, the core at its vector. -/
theorem interruptEntry_eq {c : CoreId} {n : Nat} {s t : State} {m : Memory} {p : List Nat} (hdel : s.deliverable c = some n)
    (hpush1 : pushWord c ((s.core c).g.get 15) ((s.core c).status false) s = .ok t)
    (hpush2 : pushWord c ((s.core c).g.get 15 - 4#32) (s.core c).pc t = .ok { s with mem := m, parBad := p }) :
    interruptEntry c n none false s = (commitDelivery c n { s with mem := m, parBad := p }).setCore c { s.core c with
      g := (s.core c).g.set 15 ((s.core c).g.get 15 - 8#32), ld := none, level := (s.srcAt n).prio
      pc := (s.core c).vbase + BitVec.ofNat 32 (32 * n), cycle := ((s.core c).cycle + 7) % 2 ^ 64 } := by
  have hdel' : ({ s with mem := m, parBad := p } : State).deliverable c = some n := by cases c <;> exact hdel
  simp only [interruptEntry, hpush1, hpush2, hdel', Nat.lt_irrefl, if_false, Bool.false_eq_true]
  cases c <;> rfl

/-- What the delivery of a pending source leaves (14 R398). -/
theorem commitDelivery_srcAt {c : CoreId} {n : Nat} {s : State} (hpend : (s.srcAt n).pend = true) (m : Nat) :
    (commitDelivery c n s).srcAt m =
      if m = n then { s.srcAt n with pend := false, act := true, own := c == .c1, arr := 0 } else s.srcAt m := by
  refine Eq.trans ?_ (State.srcAt_setSrc s n (fun r => { r with pend := false, act := true, own := c == .c1, arr := 0 }) m
    (State.lt_of_pend hpend))
  cases c <;> rfl

end Sys2Proof.Machine

open Sys2Proof Sys2Proof.Machine

/-- Settles O20: both pushes succeed, no later source wins, and the delivery is committed with the jump. -/
theorem interruptEntryPushesItsFrame : Obligations.InterruptEntryPushesItsFrame := by
  intro c n s htakes hm hdel k sp halign hroom hlimit hwrite8 hwrite4 haon8 haon4
  obtain ⟨t, m, p, hpush1, hpush2, hstored⟩ := pushWords_quick (k.status false) k.pc hm halign hroom hlimit hwrite8 hwrite4 haon8 haon4
  have hsrc (x : Nat) := commitDelivery_srcAt (c := c) (s := { s with mem := m, parBad := p }) (State.deliverable_pend hdel) x
  obtain ⟨hwf, -, -⟩ := id hstored
  refine ⟨(commitDelivery c n { s with mem := m, parBad := p }).setCore c { s.core c with
      g := (s.core c).g.set 15 ((s.core c).g.get 15 - 8#32), ld := none, level := (s.srcAt n).prio
      pc := (s.core c).vbase + BitVec.ofNat 32 (32 * n), cycle := ((s.core c).cycle + 7) % 2 ^ 64 }, ?_, ?_, ?_, ?_, ?_, ?_, ?_⟩
  · have hexec : exec (.interruptEntry c none false) s = answer s (interruptEntry c n none false s) := by
      change execInterruptEntry c none false s = _
      simp only [execInterruptEntry, htakes, hdel, Bool.not_true, Bool.false_eq_true, if_false]
    rw [hexec, interruptEntry_eq hdel hpush1 hpush2]
    cases c <;> exact answer_of_wf s _ hwf rfl
  · cases c <;> exact hstored
  · rw [State.core_setCore]
  · have hn := hsrc n
    rw [if_pos rfl] at hn
    cases c <;> exact hn
  · rintro rfl
    exact ⟨rfl, rfl⟩
  · rintro rfl
    exact ⟨rfl, rfl⟩
  · intro x hx
    have hother := hsrc x
    rw [if_neg hx] at hother
    cases c <;> exact hother
end

section
/-! The string instructions (12 R353, 13 R385, R386): a run of elements as a sequence of registers and states, and the four instructions. -/

namespace Sys2Proof.Machine

/-! ### Runs of elements -/

section Runs

variable {f : Bool → StrRegs → State → Elem} {R : Nat → StrRegs} {S : Nat → State}

/-- From the `b`-th element on, `m` elements are done one after another. -/
def ElemsDone (f : Bool → StrRegs → State → Elem) (R : Nat → StrRegs) (S : Nat → State) (b m : Nat) : Prop :=
  ∀ i, i < m → (R (b + i)).g3 ≠ 0 ∧ f false (R (b + i)) (S (b + i)) = .next (R (b + i + 1)) (S (b + i + 1))

theorem ElemsDone.head {b m : Nat} (h : ElemsDone f R S b (m + 1)) :
    (R b).g3 ≠ 0 ∧ f false (R b) (S b) = .next (R (b + 1)) (S (b + 1)) := h 0 (Nat.succ_pos m)

theorem ElemsDone.tail {b m : Nat} (h : ElemsDone f R S b (m + 1)) : ElemsDone f R S (b + 1) m := by
  intro i hi
  have hnext := h (i + 1) (Nat.succ_lt_succ hi)
  rwa [show b + (i + 1) = b + 1 + i by omega] at hnext

theorem runElems_succ {b n : Nat} (hcount : (R b).g3 ≠ 0) (hnext : f false (R b) (S b) = .next (R (b + 1)) (S (b + 1))) :
    runElems f (n + 1) false (R b) (S b) =
      let e := runElems f n false (R (b + 1)) (S (b + 1))
      (e.1, e.2.1, e.2.2.1, e.2.2.2 + 1) := by
  rw [runElems, if_neg hcount, hnext]

/-- As many elements as were asked for. -/
theorem runElems_next {b m : Nat} (h : ElemsDone f R S b m) :
    runElems f m false (R b) (S b) = (R (b + m), S (b + m), if (R (b + m)).g3 = 0 then .done else .more, m) := by
  induction m generalizing b with
  | zero => rfl
  | succ m ih =>
    obtain ⟨hcount, hnext⟩ := h.head
    rw [runElems_succ hcount hnext, ih h.tail, show b + 1 + m = b + (m + 1) by omega]

/-- After `m` elements the condition is met. -/
theorem runElems_met {b m : Nat} (h : ElemsDone f R S b m) {t : State} (hcount : (R (b + m)).g3 ≠ 0)
    (hmet : f false (R (b + m)) (S (b + m)) = .met t) (n : Nat) :
    runElems f (m + (n + 1)) false (R b) (S b) = (R (b + m), t, .done, m + 1) := by
  induction m generalizing b with
  | zero =>
    rw [Nat.add_zero] at hcount hmet ⊢
    rw [Nat.zero_add, runElems, if_neg hcount, hmet]
    rfl
  | succ m ih =>
    obtain ⟨hfirst, hnext⟩ := h.head
    have hplace : b + 1 + m = b + (m + 1) := by omega
    rw [show m + 1 + (n + 1) = m + (n + 1) + 1 by omega, runElems_succ hfirst hnext, ih h.tail (by rwa [hplace]) (by rwa [hplace]), hplace]

end Runs

/-! ### The instruction around a run -/

/-- The registers after a run that moves G1 (`u1`) and G2 (`u2`). -/
def strG (g : Vector Word 16) (u1 u2 : Bool) (r : StrRegs) : Vector Word 16 :=
  let g1 := if u1 then g.set 1 r.g1 else g
  (if u2 then g1.set 2 r.g2 else g1).set 3 (BitVec.ofNat 32 r.g3)

section Around

variable {c : CoreId} {cyc n q : Nat} {u1 u2 : Bool} {f : Core → Bool → StrRegs → State → Elem} {par : Bool} {upto : Option Nat} {s : State}
  {m : Memory} {r : StrRegs} (hn : ((s.core c).rd 3).toNat = n) (hpos : 0 < n)
include hn hpos

theorem stringOp_done (hrun : runElems (f (s.core c)) (min n (upto.getD n)) par { g1 := (s.core c).rd 1, g2 := (s.core c).rd 2, g3 := n } s =
      (r, { s with mem := m }, .done, q)) :
    stringOp c cyc u1 u2 f par upto s = { s with mem := m }.setCore c { (s.core c).done (cyc * q) with
      g := if r.g3 = n then (s.core c).g else strG (s.core c).g u1 u2 r } := by
  have hcore : ({ s with mem := m } : State).core c = s.core c := by cases c <;> rfl
  simp only [stringOp, hn, Nat.ne_of_gt hpos, if_false, hrun, hcore]
  refine congrArg _ ?_
  rw [Core.advance_eq]
  · split
    · rfl
    · cases u1 <;> cases u2 <;> rfl
  · split
    · rfl
    · cases u1 <;> cases u2 <;> rfl

theorem stringOp_more (hrun : runElems (f (s.core c)) (min n (upto.getD n)) par { g1 := (s.core c).rd 1, g2 := (s.core c).rd 2, g3 := n } s =
      (r, { s with mem := m }, .more, q)) (hq : q ≠ 0) (hmoved : r.g3 ≠ n) :
    stringOp c cyc u1 u2 f par upto s = { s with mem := m }.setCore c { s.core c with
      g := strG (s.core c).g u1 u2 r, ld := none, cycle := ((s.core c).cycle + cyc * q) % 2 ^ 64 } := by
  have hcore : ({ s with mem := m } : State).core c = s.core c := by cases c <;> rfl
  simp only [stringOp, hn, Nat.ne_of_gt hpos, if_false, hrun, hcore, hq, hmoved]
  cases u1 <;> cases u2 <;> rfl

end Around

/-! ### One element -/

/-- Place of element `i` of a string that starts at `p`. -/
def elemAt (p : Word) (stride : BitVec 4) (z i : Nat) : Word := p + BitVec.ofInt 32 (stride.toInt * z * i)

theorem elemAt_zero (p : Word) (stride : BitVec 4) (z : Nat) : elemAt p stride z 0 = p := by
  rw [elemAt, Nat.cast_zero, Int.mul_zero]
  exact BitVec.add_zero p

theorem stepBy_elemAt (p : Word) (stride : BitVec 4) (z i : Nat) : stepBy (elemAt p stride z i) stride z = elemAt p stride z (i + 1) := by
  rw [stepBy, elemAt, elemAt, BitVec.add_assoc, ← BitVec.ofInt_add, Nat.cast_succ, Int.mul_add, Int.mul_one]

/-- The elements of a string can be read at once. -/
def StrReadable (s : State) (c : CoreId) (p : Word) (stride : BitVec 4) (z n : Nat) : Prop :=
  ∀ i, i < n → (elemAt p stride z i).toNat % z = 0 ∧ ramReadable s c (elemAt p stride z i).toNat z = true ∧
    s.quick (elemAt p stride z i).toNat z

/-- The elements of a string can be written at once. -/
def StrWritable (s : State) (c : CoreId) (p : Word) (stride : BitVec 4) (z n : Nat) : Prop :=
  ∀ i, i < n → (elemAt p stride z i).toNat % z = 0 ∧ ramWritable s c (elemAt p stride z i).toNat z = true ∧
    s.quick (elemAt p stride z i).toNat z

section Elements

variable {c : CoreId} {a : Word} {z : Nat} {s : State} (halign : a.toNat % z = 0) (hquick : s.quick a.toNat z) (m : Memory)
include halign hquick

theorem elemRead_quick (hz : 0 < z) (hread : ramReadable s c a.toNat z = true) :
    elemRead c a z false { s with mem := m } = .ok (m.le a.toNat z, { s with mem := m }) := by
  obtain ⟨hgood, haon⟩ := hquick
  have hread' : ramReadable { s with mem := m } c a.toNat z = true := by cases c <;> exact hread
  simp only [elemRead, halign, ne_eq, not_true_eq_false, if_false, accessed_quick c haon,
    coreRead_ram (s := { s with mem := m }) hz hread' hgood]

theorem elemWrite_quick (hwrite : ramWritable s c a.toNat z = true) (v : Nat) :
    elemWrite c a z v { s with mem := m } = .ok { s with mem := m.putLe a.toNat z (v % 2 ^ (8 * z)) } := by
  obtain ⟨hgood, haon⟩ := hquick
  have hwrite' : ramWritable { s with mem := m } c a.toNat z = true := by cases c <;> exact hwrite
  have hput := State.put_of_good (s := { s with mem := m }) (bs := leBytes z (v % 2 ^ (8 * z))) (a := a.toNat) (by rwa [length_leBytes])
  simp only [elemWrite, halign, ne_eq, not_true_eq_false, if_false, accessed_quick c haon, coreWrite_ram hwrite', hput]
  rfl

end Elements

/-! ### The four instructions -/

/-- The registers before element `i` of `n`. -/
def strRegs (u1 u2 : Bool) (p1 p2 : Word) (stride : BitVec 4) (z n i : Nat) : StrRegs :=
  { g1 := if u1 then elemAt p1 stride z i else p1, g2 := if u2 then elemAt p2 stride z i else p2, g3 := n - i }

theorem strRegs_g3 (u1 u2 : Bool) (p1 p2 : Word) (stride : BitVec 4) (z n i : Nat) : (strRegs u1 u2 p1 p2 stride z n i).g3 = n - i := rfl

theorem strRegs_zero (u1 u2 : Bool) (p1 p2 : Word) (stride : BitVec 4) (z n : Nat) :
    strRegs u1 u2 p1 p2 stride z n 0 = { g1 := p1, g2 := p2, g3 := n } := by
  rw [strRegs, elemAt_zero, elemAt_zero, ite_self, ite_self]
  rfl

/-- Memory after the first `m` elements of a copy. -/
def strCopied (m0 : Memory) (p1 p2 : Word) (stride : BitVec 4) (z m : Nat) : Memory :=
  (List.range m).foldl (fun x i => x.putLe (elemAt p2 stride z i).toNat z (x.le (elemAt p1 stride z i).toNat z)) m0

/-- Memory after the first `m` elements of a fill with `v`. -/
def strFilled (m0 : Memory) (p2 : Word) (stride : BitVec 4) (z v m : Nat) : Memory :=
  (List.range m).foldl (fun x i => x.putLe (elemAt p2 stride z i).toNat z (v % 2 ^ (8 * z))) m0

theorem foldl_putLe_wf {m0 : Memory} (hm : m0.wf = true) (a : Nat → Nat) (z : Nat) (v : Memory → Nat → Nat) (l : List Nat) :
    (l.foldl (fun x i => x.putLe (a i) z (v x i)) m0).wf = true :=
  List.foldlRecOn (motive := fun m => Memory.wf m = true) l _ hm fun m hwf _ _ => m.putLe_wf _ _ _ hwf

section Instructions

variable {c : CoreId} {s : State} {ga : Reg} {stride : BitVec 4} {z n : Nat} {p1 p2 : Word} (hz : 0 < z)

include hz in
theorem scopy_elemsDone (hread : StrReadable s c p1 stride z n) (hwrite : StrWritable s c p2 stride z n) {m : Nat} (hm : m ≤ n) :
    ElemsDone (scopyElem c stride z (s.core c)) (strRegs true true p1 p2 stride z n)
      (fun i => { s with mem := strCopied s.mem p1 p2 stride z i }) 0 m := by
  intro i hi
  rw [Nat.zero_add]
  obtain ⟨halign1, hread1, hquick1⟩ := hread i (by omega)
  obtain ⟨halign2, hwrite2, hquick2⟩ := hwrite i (by omega)
  refine ⟨Nat.sub_ne_zero_of_lt (by omega), ?_⟩
  simp only [scopyElem, strRegs, if_true, elemRead_quick halign1 hquick1 _ hz hread1, elemWrite_quick halign2 hquick2 _ hwrite2, stepBy_elemAt,
    Nat.sub_sub, strCopied, List.range_succ, List.foldl_append, List.foldl_cons, List.foldl_nil, Memory.putLe, leBytes_mod]

theorem sfill_elemsDone (hwrite : StrWritable s c p2 stride z n) {m : Nat} (hm : m ≤ n) :
    ElemsDone (sfillElem c ga stride z (s.core c)) (strRegs false true p1 p2 stride z n)
      (fun i => { s with mem := strFilled s.mem p2 stride z ((s.core c).rd ga).toNat i }) 0 m := by
  intro i hi
  rw [Nat.zero_add]
  obtain ⟨halign2, hwrite2, hquick2⟩ := hwrite i (by omega)
  refine ⟨Nat.sub_ne_zero_of_lt (by omega), ?_⟩
  simp only [sfillElem, strRegs, if_true, Bool.false_eq_true, if_false, elemWrite_quick halign2 hquick2 _ hwrite2, stepBy_elemAt, Nat.sub_sub, strFilled, List.range_succ,
    List.foldl_append, List.foldl_cons, List.foldl_nil]

include hz in
theorem smatchElem_eq (hread1 : StrReadable s c p1 stride z n) (hread2 : StrReadable s c p2 stride z n) (cond : BitVec 2) {i : Nat} (hi : i < n) :
    smatchElem c stride cond z (s.core c) false (strRegs true true p1 p2 stride z n i) s =
      if elemHolds cond (s.mem.le (elemAt p1 stride z i).toNat z) (s.mem.le (elemAt p2 stride z i).toNat z) then .met s
      else .next (strRegs true true p1 p2 stride z n (i + 1)) s := by
  obtain ⟨halign1, hr1, hquick1⟩ := hread1 i hi
  obtain ⟨halign2, hr2, hquick2⟩ := hread2 i hi
  have he1 := elemRead_quick halign1 hquick1 s.mem hz hr1
  have he2 := elemRead_quick halign2 hquick2 s.mem hz hr2
  simp only [smatchElem, strRegs, if_true, oneOfTwo, Bool.false_eq_true, if_false, he1, he2, stepBy_elemAt, Nat.sub_sub]

include hz in
theorem sseekElem_eq (hread1 : StrReadable s c p1 stride z n) (cond : BitVec 2) {i : Nat} (hi : i < n) :
    sseekElem c ga stride cond z (s.core c) false (strRegs true false p1 p2 stride z n i) s =
      if elemHolds cond (s.mem.le (elemAt p1 stride z i).toNat z) (((s.core c).rd ga).toNat % 2 ^ (8 * z)) then .met s
      else .next (strRegs true false p1 p2 stride z n (i + 1)) s := by
  obtain ⟨halign1, hr1, hquick1⟩ := hread1 i hi
  have he1 := elemRead_quick halign1 hquick1 s.mem hz hr1
  simp only [sseekElem, strRegs, if_true, Bool.false_eq_true, if_false, he1, stepBy_elemAt, Nat.sub_sub]

end Instructions

/-- A search over `n` elements that ends before element `j`, or at the count: nothing but the registers moves. -/
theorem runElems_search {f : Bool → StrRegs → State → Elem} {u1 u2 : Bool} {p1 p2 : Word} {stride : BitVec 4} {z n j : Nat} {s : State}
    {p : Nat → Prop} [DecidablePred p] (helem : ∀ i, i < n → f false (strRegs u1 u2 p1 p2 stride z n i) s =
      if p i then .met s else .next (strRegs u1 u2 p1 p2 stride z n (i + 1)) s)
    (hj : j ≤ n) (hbefore : ∀ i, i < j → ¬p i) (hat : j < n → p j) :
    ∃ q, runElems f n false { g1 := p1, g2 := p2, g3 := n } s = (strRegs u1 u2 p1 p2 stride z n j, s, .done, q) := by
  have hdone : ElemsDone f (strRegs u1 u2 p1 p2 stride z n) (fun _ => s) 0 j := fun i hi => by
    rw [Nat.zero_add, helem i (by omega), if_neg (hbefore i hi)]
    exact ⟨Nat.sub_ne_zero_of_lt (by omega), rfl⟩
  rw [← strRegs_zero u1 u2 p1 p2 stride z n]
  rcases Nat.lt_or_ge j n with hlt | hge
  · obtain ⟨d, rfl⟩ := Nat.exists_eq_add_of_lt hlt
    have hmet := runElems_met hdone (t := s) (by rw [Nat.zero_add]; exact Nat.sub_ne_zero_of_lt hlt)
      (by rw [Nat.zero_add, helem j hlt, if_pos (hat hlt)]) d
    rw [Nat.zero_add] at hmet
    exact ⟨_, hmet⟩
  · obtain rfl := Nat.le_antisymm hj hge
    have hnext := runElems_next hdone
    rw [Nat.zero_add, if_pos (show (strRegs u1 u2 p1 p2 stride z j j).g3 = 0 from Nat.sub_self j)] at hnext
    exact ⟨_, hnext⟩

theorem elemHolds_iff (cond : BitVec 2) (e p : Nat) : elemHolds cond e p = true ↔
    (cond = 0#2 ∧ e = p) ∨ (cond = 1#2 ∧ e ≠ p) ∨ (cond = 2#2 ∧ e < p) ∨ (cond = 3#2 ∧ p ≤ e) := by
  have hcond : cond = 0#2 ∨ cond = 1#2 ∨ cond = 2#2 ∨ cond = 3#2 := by
    revert cond
    decide
  rcases hcond with rfl | rfl | rfl | rfl <;> simp [elemHolds]

theorem stringOk_of {stride : BitVec 4} {size : BitVec 2} (hstride : stride ≠ 0#4) (hsize : size.toNat < 3) : stringOk stride size = true := by
  have hne : size ≠ 3#2 := fun h => by rw [h] at hsize; exact absurd hsize (by decide)
  simp [stringOk, hstride, hne]

/-- A string instruction with proper fields outside a delay slot. -/
theorem exec_string {i : Instr} {c : CoreId} {s : State} (h : Runs c s) (hslot : (s.core c).slot = []) {ok : Bool} {body : State → State}
    (hi : exec i s = instr c ok (s.core c).brm body s) (hok : ok = true) {t : State} (hbody : body s = t) (hm : t.memOk)
    (hp : t.pending = s.pending) : exec i s = .next t := by
  subst hok hbody
  rw [hi, h.instr_eq_of_slot _ fun _ => hslot, answer_of_wf s _ hm hp]

/-- A run that ends at the count, and one that stops after `m` elements. -/
theorem exec_strings {c : CoreId} {s : State} (h : Runs c s) (hslot : (s.core c).slot = []) {i : Option Nat → Instr} {ok : Bool} {cyc n z : Nat}
    {u1 u2 : Bool} {f : Core → Bool → StrRegs → State → Elem} {p1 p2 : Word} {stride : BitVec 4} {M : Nat → Memory}
    (hi : ∀ upto, exec (i upto) s = instr c ok (s.core c).brm (stringOp c cyc u1 u2 f false upto) s) (hok : ok = true)
    (hp1 : (s.core c).rd 1 = p1) (hp2 : (s.core c).rd 2 = p2) (hn : ((s.core c).rd 3).toNat = n) (hpos : 0 < n) (hM : ∀ m, (M m).wf = true)
    (hM0 : M 0 = s.mem) (hdone : ∀ m, m ≤ n → ElemsDone (f (s.core c)) (strRegs u1 u2 p1 p2 stride z n) (fun i => { s with mem := M i }) 0 m) :
    exec (i none) s = .next ({ s with mem := M n }.setCore c { (s.core c).done (cyc * n) with
      g := strG (s.core c).g u1 u2 (strRegs u1 u2 p1 p2 stride z n n) }) ∧
    ∀ m, 0 < m → m < n → exec (i (some m)) s = .next ({ s with mem := M m }.setCore c { s.core c with
      g := strG (s.core c).g u1 u2 (strRegs u1 u2 p1 p2 stride z n m), ld := none, cycle := ((s.core c).cycle + cyc * m) % 2 ^ 64 }) := by
  have hs : ({ s with mem := M 0 } : State) = s := by rw [hM0]
  have hrun (m : Nat) (hm : m ≤ n) := runElems_next (hdone m hm)
  simp only [Nat.zero_add, hs, strRegs_zero] at hrun
  subst hp1 hp2
  refine ⟨?_, fun m hm hmn => ?_⟩
  · have hend := hrun n (Nat.le_refl n)
    rw [if_pos (show (strRegs u1 u2 _ _ stride z n n).g3 = 0 from Nat.sub_self n)] at hend
    refine exec_string h hslot (hi none) hok (stringOp_done hn hpos (by rwa [Option.getD_none, Nat.min_self])) ?_ ?_ |>.trans ?_
    · rw [State.memOk, State.setCore_mem]; exact hM n
    · rw [State.setCore_pending]
    · rw [if_neg (show (strRegs u1 u2 _ _ stride z n n).g3 ≠ n from by rw [strRegs_g3]; omega)]
  · have hstop := hrun m (Nat.le_of_lt hmn)
    rw [if_neg (show (strRegs u1 u2 _ _ stride z n m).g3 ≠ 0 from Nat.sub_ne_zero_of_lt hmn)] at hstop
    refine exec_string h hslot (hi (some m)) hok (stringOp_more hn hpos (by rwa [Option.getD_some, Nat.min_eq_right (Nat.le_of_lt hmn)])
      (Nat.ne_of_gt hm) (show n - m ≠ n by omega)) ?_ ?_
    · rw [State.memOk, State.setCore_mem]; exact hM m
    · rw [State.setCore_pending]

/-- A search that ends before element `j`. -/
theorem exec_search {c : CoreId} {s : State} (h : Runs c s) (hslot : (s.core c).slot = []) {i : Instr} {ok : Bool} {cyc n z j : Nat}
    {u1 u2 : Bool} {f : Core → Bool → StrRegs → State → Elem} {p1 p2 : Word} {stride : BitVec 4} {p : Nat → Prop} [DecidablePred p]
    (hi : exec i s = instr c ok (s.core c).brm (stringOp c cyc u1 u2 f false none) s) (hok : ok = true) (hp1 : (s.core c).rd 1 = p1)
    (hp2 : (s.core c).rd 2 = p2) (hn : ((s.core c).rd 3).toNat = n) (hpos : 0 < n) (hj : j ≤ n)
    (helem : ∀ i, i < n → f (s.core c) false (strRegs u1 u2 p1 p2 stride z n i) s =
      if p i then .met s else .next (strRegs u1 u2 p1 p2 stride z n (i + 1)) s) (hbefore : ∀ i, i < j → ¬p i) (hat : j < n → p j) :
    ∃ cycles, exec i s = .next (s.setCore c { (s.core c).done cycles with
      g := if j = 0 then (s.core c).g else strG (s.core c).g u1 u2 (strRegs u1 u2 p1 p2 stride z n j) }) := by
  obtain ⟨q, hrun⟩ := runElems_search helem hj hbefore hat
  subst hp1 hp2
  refine ⟨cyc * q, exec_string h hslot hi hok (stringOp_done (m := s.mem) hn hpos (by rwa [Option.getD_none, Nat.min_self])) ?_ ?_ |>.trans ?_⟩
  · rw [State.memOk, State.setCore_mem]; exact h.memOk
  · rw [State.setCore_pending]
  · have hiff : (strRegs u1 u2 ((s.core c).rd 1) ((s.core c).rd 2) stride z n j).g3 = n ↔ j = 0 := by
      rw [strRegs_g3]
      omega
    simp only [hiff]

end Sys2Proof.Machine

open Sys2Proof Sys2Proof.Machine

/-- Settles O19: SCOPY and SFILL do each element on what the elements before it left; SMATCH and SSEEK are searches. -/
theorem stringsRunElementByElement : Obligations.StringsRunElementByElement := by
  refine ⟨fun c ga stride size s h hslot hstride hsize => ?_, fun c ga stride cond size j s h hslot hstride hsize => ?_⟩
  · intro k z n at' readable writable hpos copied filled stays
    have hz : 0 < z := Nat.two_pow_pos _
    have hok := stringOk_of hstride hsize
    refine ⟨fun hread hwrite => ?_, fun h2 h3 hwrite => ?_⟩
    · obtain ⟨hall, hpart⟩ := exec_strings h hslot (i := fun u => .scopy c stride size false u) (M := strCopied s.mem (k.rd 1) (k.rd 2) stride z)
        (fun _ => rfl) hok rfl rfl rfl hpos (fun m => foldl_putLe_wf h.memOk _ z _ _) rfl fun m hm => scopy_elemsDone hz hread hwrite hm
      refine ⟨hall.trans ?_, hpart⟩
      rw [strG, strRegs, Nat.sub_self]
      rfl
    · obtain ⟨hall, hpart⟩ := exec_strings h hslot (i := fun u => .sfill c ga stride size u) (p1 := k.rd 1)
        (M := strFilled s.mem (k.rd 2) stride z (k.rd ga).toNat) (fun _ => rfl) (by simp [hok, h2, h3]) rfl rfl rfl hpos
        (fun m => foldl_putLe_wf h.memOk _ z _ _) rfl fun m hm => sfill_elemsDone hwrite hm
      rw [Nat.one_mul, strG, strRegs, Nat.sub_self] at hall
      refine ⟨hall, fun m hm hmn => ?_⟩
      have hm := hpart m hm hmn
      rwa [Nat.one_mul] at hm
  · intro k z n at' readable val meets hpos hj
    have hz : 0 < z := Nat.two_pow_pos _
    have hok := stringOk_of hstride hsize
    refine ⟨fun hread1 hread2 hbefore hat => ?_, fun h1 h3 hread hbefore hat => ?_⟩
    · exact exec_search h hslot (i := .smatch c stride cond size false none) rfl hok rfl rfl rfl hpos hj
        (fun i hi => smatchElem_eq hz hread1 hread2 cond hi) (fun i hi => (elemHolds_iff ..).not.2 (hbefore i hi))
        fun hlt => (elemHolds_iff ..).2 (hat hlt)
    · exact exec_search h hslot (i := .sseek c ga stride cond size false none) rfl (by simp [hok, h1, h3]) rfl rfl rfl hpos hj
        (fun i hi => sseekElem_eq hz hread cond hi) (fun i hi => (elemHolds_iff ..).not.2 (hbefore i hi))
        fun hlt => (elemHolds_iff ..).2 (hat hlt)
end

section
/-! Resets and bring-up (15 R409 to R428, 09 R265, 19 R491): what each step of a reset changes, and what the resets of the tile leave. -/

namespace Sys2Proof.Machine

/-! ### How a command completes -/

/-- A command that ends in `t` completes with `t` in canonical form. -/
theorem completes_answer {i : Instr} {s t : State} (hexec : exec i s = answer s t) {P : State → Prop}
    (hP : P { t with pending := s.pending, mem := t.mem.canon }) : Completes i s P := ⟨_, hexec, hP⟩

/-- A relation of states that every step of a fold stands in, and that chains, holds between its ends. -/
theorem foldl_chains {α : Type} {r : State → State → Prop} (hrefl : ∀ s, r s s) (htrans : ∀ s t u, r s t → r t u → r s u)
    {f : State → α → State} (hf : ∀ t a, r t (f t a)) (l : List α) (s : State) : r s (l.foldl f s) := by
  induction l generalizing s with
  | nil => exact hrefl s
  | cons a l ih => exact htrans _ _ _ (hf s a) (ih _)

/-! ### Steps of a reset -/

theorem sendMsg_eq (cls dst : Nat) (m : Msg) (s : State) : ∃ c q, sendMsg cls dst m s = { s with crl := c, arr.queue := q } :=
  sendMsgParts_eq cls dst false [m] s

theorem setAlert_eq (b : Nat) (s : State) : ∃ w, setAlert b s = { s with twm := w } := by
  unfold setAlert
  dsimp only
  split <;> split <;> exact ⟨_, rfl⟩

theorem setAlert_restart (s : State) : (setAlert 4 s).twm.alertRestart = true := by
  unfold setAlert
  dsimp only
  split <;> rfl

theorem setAlert_wake (s : State) : (setAlert 0 s).twm.alertWake = true := by
  unfold setAlert
  dsimp only
  split <;> rfl

theorem setFloor_eq (st : Nat) (s : State) : ∃ f fn due m,
    setFloor st s = { s with pwr.floor := f, pwr.floorNext := fn, pwr.wakeDue := due, clk.mergeWake := m } := by
  unfold setFloor
  split
  · exact ⟨s.pwr.floor, s.pwr.floorNext, s.pwr.wakeDue, s.clk.mergeWake, rfl⟩
  · split
    · exact ⟨s.pwr.floor, _, s.pwr.wakeDue, s.clk.mergeWake, rfl⟩
    · dsimp only
      split
      · obtain ⟨due, m, h⟩ := wakeSource_eq 0x01 { s with pwr.floor := st }
        exact ⟨st, s.pwr.floorNext, due, m, by rw [h]⟩
      · exact ⟨st, s.pwr.floorNext, s.pwr.wakeDue, s.clk.mergeWake, rfl⟩

theorem latchedFloor_eq (s : State) : ∃ f fn due m,
    latchedFloor s = { s with pwr.floor := f, pwr.floorNext := fn, pwr.wakeDue := due, clk.mergeWake := m } := by
  unfold latchedFloor
  split
  next f _ =>
    obtain ⟨f', fn, due, m, h⟩ := setFloor_eq f { s with pwr.floorNext := none }
    exact ⟨f', fn, due, m, by rw [h]⟩
  next => exact ⟨s.pwr.floor, s.pwr.floorNext, s.pwr.wakeDue, s.clk.mergeWake, rfl⟩

theorem countAttempts_eq (n fails : Nat) (s : State) : ∃ l, countAttempts n fails s = { s with pwr.counters := l } := by
  unfold countAttempts
  refine foldl_chains (r := fun s t => ∃ l, t = { s with pwr.counters := l }) (fun s => ⟨s.pwr.counters, rfl⟩) ?_ (fun t _ => ⟨_, rfl⟩) _ s
  rintro s t u ⟨l, rfl⟩ ⟨l', rfl⟩
  exact ⟨l', rfl⟩

theorem sendLtr_eq (s : State) : ∃ l, sendLtr s = { s with out.ltrs := l } := by
  unfold sendLtr
  split
  · exact ⟨_, rfl⟩
  · exact ⟨s.out.ltrs, rfl⟩

theorem dropCapture_eq (s : State) : ∃ m i k, dropCapture s = { s with mute := m, icu := i, clk.mergeIcu := k } := by
  unfold dropCapture
  split
  · obtain ⟨src, n, last, held, k, h⟩ := raise_eq 21 { s with
      mute.busy := false, mute.done := true, mute.abort := false, mute.result := 6, mute.forCmd := none }
    exact ⟨_, _, k, h⟩
  · exact ⟨s.mute, s.icu, s.clk.mergeIcu, rfl⟩

/-- Messages sent one after another change the ring state and the frames held for a quiet member. -/
theorem foldl_sends {α : Type} {f : State → α → State} (hf : ∀ t a, ∃ c q, f t a = { t with crl := c, arr.queue := q }) (l : List α)
    (s : State) : ∃ c q, l.foldl f s = { s with crl := c, arr.queue := q } := by
  refine foldl_chains (r := fun s t => ∃ c q, t = { s with crl := c, arr.queue := q }) (fun s => ⟨s.crl, s.arr.queue, rfl⟩) ?_ hf l s
  rintro s t u ⟨c, q, rfl⟩ ⟨c', q', rfl⟩
  exact ⟨c', q', rfl⟩

theorem dropCheck_eq (g : CommitJob) (s : State) : ∃ x c q, dropCheck g s = { s with ctx := x, crl := c, arr.queue := q } := by
  have huncheck : ∃ x, uncheck g s = { s with ctx := x } := by
    unfold uncheck
    split
    · exact ⟨_, rfl⟩
    · exact ⟨s.ctx, rfl⟩
  obtain ⟨x, hx⟩ := huncheck
  obtain ⟨c, q, h⟩ := foldl_sends (f := fun u k => sendMsg 1 k (.abandon g.slot) u) (fun t k => sendMsg_eq ..) (g.set.filter (mayCheck g))
    (uncheck g s)
  exact ⟨x, c, q, by rw [dropCheck, h, hx]⟩

theorem dropChecks_eq (s : State) : ∃ x c q, dropChecks s = { s with ctx := x, crl := c, arr.queue := q } := by
  unfold dropChecks
  dsimp only
  generalize hu : ({ s with ctx.job := _, ctx.doomed := _ } : State) = u
  have hfold : ∀ (l : List CommitJob) (u : State), ∃ x c q, l.foldl (fun u g => dropCheck g u) u = { u with ctx := x, crl := c, arr.queue := q } := by
    refine foldl_chains (r := fun s t => ∃ x c q, t = { s with ctx := x, crl := c, arr.queue := q }) (fun s => ⟨s.ctx, s.crl, s.arr.queue, rfl⟩) ?_
      (fun t g => dropCheck_eq g t)
    rintro s t u ⟨x, c, q, rfl⟩ ⟨x', c', q', rfl⟩
    exact ⟨x', c', q', rfl⟩
  obtain ⟨x, c, q, h⟩ := hfold _ u
  subst hu
  exact ⟨x, c, q, h⟩

/-- A cleared journal is empty; core 0's checks, captures and messages of it are dropped. -/
theorem clearJournal_eq (s : State) : ∃ x c a m i k cap st ev el ca ch, clearJournal s = { s with
    jrn := [], ctx := x, crl := c, arr := a, mute := m, icu := i, clk.mergeIcu := k, cap := cap, strm := st, evt := ev, elec := el, cal := ca, chn := ch
    rings := { s.rings with
      tableValid := false, cmdCi := 0, strCi := 0, cplPi := 0, rptPi := 0, evtPi := 0, cmdPi := 0, strPi := 0, cplCi := 0, rptCi := 0
      evtCi := 0, fetch := 0, cplNext := 0, cplWritten := [], replay := false, replayDue := false, waitReads := [] } } := by
  obtain ⟨x, c, q, hchecks⟩ := dropChecks_eq s
  obtain ⟨m, i, k, hcap⟩ := dropCapture_eq (dropChecks s)
  unfold clearJournal
  dsimp only
  rw [hcap, hchecks]
  exact ⟨_, _, _, _, _, _, _, _, _, _, _, _, rfl⟩

theorem State.srcAt_setSrc_ne (s : State) {n m : Nat} (h : m ≠ n) (f : Src → Src) : (s.setSrc n f).srcAt m = s.srcAt m := by
  simp only [State.srcAt, State.setSrc, List.getD_eq_getElem?_getD, List.getElem?_modify, if_neg (Ne.symm h)]
  cases s.icu.src[m]? <;> rfl

/-- An arrival while CLK_BUS runs passes its source's coalescing stage; source 47 may count beside it (14 R392, R396). -/
theorem raise_srcAt {n : Nat} {s : State} (hclk : s.clk.core = true) (hn : n < s.icu.src.length) (hne : n ≠ 47) :
    (raise n s).srcAt n = ((s.srcAt n).arrival).1 := by
  have hset := State.srcAt_setSrc s n (fun _ => (s.srcAt n).arrival.1) n hn
  rw [if_pos rfl] at hset
  rw [raise, if_pos hclk, arrive]
  dsimp only
  split
  · unfold countUndeliverable
    dsimp only
    split
    · rw [arriveUndeliv, State.srcAt_setSrc_ne _ hne]
      exact hset
    · exact hset
  · exact hset

/-- What a reset of the CORE domain leaves of `s`, as far as the statements ask. -/
structure CoreReset (s t : State) : Prop where
  boot : t.boot = { role := s.boot.role, maddr := s.boot.maddr, eepromSel := s.boot.eepromSel, source := s.boot.source, phase := .held }
  epoch : t.epoch = 0
  jrn : t.jrn = []
  en : t.rings.en = false
  act : t.rings.act = false
  ctx : t.ctx = {}
  core0 : t.core0 = State.reset.core0
  core1 : t.core1 = State.reset.core1
  mbx : t.mbx = {}
  icu : t.icu = {}
  clk : t.clk = { s.clk with mergeIcu := t.clk.mergeIcu, abandon := t.clk.abandon }
  pwr : t.pwr = { s.pwr with
    taps := [], lifted := [], dfltApplet := false, contactTiles := [], quietUs := 0, wakeDue := t.pwr.wakeDue, gpioOut := t.pwr.gpioOut }
  host : t.host = { s.host with diagItem := 0, diagTile := 0, diagBusy := false, jrnPeak := 0 }
  out : t.out = s.out

theorem coreDomainReset_spec (s : State) : CoreReset s (coreDomainReset s) := by
  obtain ⟨x, c, a, m, i, k, cap, st, ev, el, ca, ch, h⟩ := clearJournal_eq (ringsOff s)
  unfold coreDomainReset
  dsimp only
  rw [h]
  constructor <;> rfl

theorem leaveCoreReset_eq (s : State) : ∃ w : Twm, leaveCoreReset s = { s with boot.phase := .rom, clk.core := true, twm := w } ∧
    w.alertRestart = true := by
  have hset := setAlert_restart { s with boot.phase := .rom, clk.core := true }
  obtain ⟨w, h⟩ := setAlert_eq 4 { s with boot.phase := .rom, clk.core := true }
  rw [h] at hset
  exact ⟨w, h, hset⟩

theorem clocksUp_eq (s : State) : ∃ f fn due m, clocksUp s = { s with
    clk.core := true, clk.afe := true, clk.link := !(s.boot.role == .standalone) && !(s.boot.role == .test), clk.pllLock := true
    clk.xtalOk := true, clk.limpClk := false, clk.mergeWake := m
    pwr.state := .active, pwr.busy := false, pwr.target := .active, pwr.limp := false, pwr.hold := false, pwr.entryDue := none
    pwr.entryEpoch := 0, pwr.during := [], pwr.tellRoot := none, pwr.beaconPort := none, pwr.quietUs := 0
    pwr.awaitL2 := false, pwr.latched := none, pwr.attempts := 0, pwr.idleUs := 0, pwr.byDrone := false
    pwr.floor := f, pwr.floorNext := fn, pwr.wakeDue := due
    drone.slot := 0, drone.pcnt := 0, drone.base := false } := by
  unfold clocksUp
  generalize hu : ({ s with clk.core := true, clk.afe := _, clk.link := _, clk.pllLock := _, clk.xtalOk := _, clk.limpClk := _, pwr.state := _
                            pwr.busy := _, pwr.target := _, pwr.limp := _, pwr.hold := _, pwr.entryDue := _, pwr.entryEpoch := _, pwr.during := _
                            pwr.tellRoot := _, pwr.beaconPort := _, pwr.quietUs := _, pwr.awaitL2 := _, pwr.latched := _, pwr.attempts := _
                            pwr.idleUs := _, pwr.byDrone := _, drone.slot := _, drone.pcnt := _, drone.base := _ } : State) = u
  obtain ⟨f, fn, due, m, h⟩ := latchedFloor_eq u
  subst hu
  exact ⟨f, fn, due, m, h⟩

/-- A tile that went through its domains' reset from state `u`, whose clocks `u` says. -/
theorem tileWasReset_of {s u v : State} (hcore : CoreReset u v) (hscratch : u.host.scratch = s.host.scratch) (hrtbl : u.host.rtbl = s.host.rtbl) {t : State}
    (hboot : t.boot = { v.boot with phase := .rom }) (hepoch : t.epoch = v.epoch) (hjrn : t.jrn = v.jrn) (hrings : t.rings = v.rings)
    (hctx : t.ctx = v.ctx) (hcore0 : t.core0 = v.core0) (hcore1 : t.core1 = v.core1) (hmbx : t.mbx = v.mbx) (hclk : t.clk.core = true)
    (halert : t.twm.alertRestart = true) (hhost : t.host.scratch = v.host.scratch ∧ t.host.rtbl = v.host.rtbl) : TileWasReset s t := by
  obtain ⟨hs, hr⟩ := hhost
  refine ⟨by rw [hboot], by rw [hboot, hcore.boot], by rw [hcore0, hcore.core0], by rw [hcore1, hcore.core1], by rw [hmbx, hcore.mbx],
    by rw [hepoch, hcore.epoch], by rw [hjrn, hcore.jrn], by rw [hrings, hcore.en], by rw [hrings, hcore.act], by rw [hctx, hcore.ctx],
    hclk, halert, by rw [hs, hcore.host, hscratch], by rw [hr, hcore.host, hrtbl]⟩

/-- The reset of the tile's domains (15 R425). -/
theorem tileReset_spec (s : State) : TileWasReset s (tileReset s) ∧ (∃ m i a, (tileReset s).clk = { s.clk with
    core := true, afe := true, link := !(s.boot.role == .standalone) && !(s.boot.role == .test), pllLock := true, xtalOk := true
    limpClk := false, mergeWake := m, mergeIcu := i, abandon := a }) ∧
    (tileReset s).pwr.state = .active ∧ (tileReset s).pwr.limp = false ∧ (tileReset s).pwr.hold = false ∧
    (tileReset s).out.arrayResets = s.out.arrayResets ∧ (tileReset s).boot.role = s.boot.role := by
  obtain ⟨f, fn, due, m, hup⟩ := clocksUp_eq s
  have hreset := coreDomainReset_spec (clocksUp s)
  generalize hv : coreDomainReset (clocksUp s) = v at hreset
  obtain ⟨w, hleave, hrestart⟩ := leaveCoreReset_eq (linkDomainReset (afeDomainReset v))
  have htile : ∃ l, tileReset s = { leaveCoreReset (linkDomainReset (afeDomainReset v)) with out.ltrs := l } := by
    unfold tileReset
    dsimp only
    rw [hv]
    split
    · exact sendLtr_eq _
    · exact ⟨_, rfl⟩
  obtain ⟨l, htile⟩ := htile
  rw [hleave] at htile
  have hclk := hreset.clk
  have hpwr := hreset.pwr
  have hout := hreset.out
  have hboot := hreset.boot
  rw [hup] at hclk hpwr hout hboot
  rw [htile]
  refine ⟨tileWasReset_of hreset (by rw [hup]) (by rw [hup]) rfl rfl rfl rfl rfl rfl rfl rfl rfl hrestart ⟨rfl, rfl⟩, ⟨m, v.clk.mergeIcu, v.clk.abandon, ?_⟩,
    ?_, ?_, ?_, ?_, ?_⟩
  · simp only [linkDomainReset, afeDomainReset]
    rw [hclk]
  · simp only [linkDomainReset, afeDomainReset]
    rw [hpwr]
  · simp only [linkDomainReset, afeDomainReset]
    rw [hpwr]
  · simp only [linkDomainReset, afeDomainReset]
    rw [hpwr]
  · simp only [linkDomainReset, afeDomainReset]
    rw [hout]
  · simp only [linkDomainReset, afeDomainReset]
    rw [hboot]

/-! ### Memory of a reset device -/

theorem Memory.byte_clear (m : Memory) (a n x : Nat) :
    (m.clear a n).byte x = if a ≤ x ∧ x < a + n then Memory.background x else m.byte x := by
  rw [Memory.clear]
  split
  next hin =>
    refine Memory.byte_of_not_mem fun d hd => ?_
    have hkeep := (List.mem_filter.1 hd).2
    simp only [Bool.or_eq_true, decide_eq_true_eq] at hkeep
    omega
  next hout =>
    refine Memory.byte_filter (fun d hd => ?_) m
    simp only [Bool.or_eq_true, decide_eq_true_eq, hd]
    omega

/-- The three regions that `PORn` clears, and the rest (02 R44, 06 R178, 08 R238). -/
theorem porn_byte (s : State) (a : Nat) : (porn s).mem.byte a =
    if (ctxBase ≤ a ∧ a < ctxBase + 0x4000) ∨ (trimRam ≤ a ∧ a < trimRam + 0x18000) ∨ (mirrorBase + 4 ≤ a ∧ a < mirrorBase + 8)
      then Memory.background a else s.mem.byte a := by
  have hmem : (porn s).mem = ((s.mem.clear ctxBase 0x4000).clear trimRam 0x18000).clear (mirrorBase + 4) 4 := rfl
  rw [hmem, Memory.byte_clear, Memory.byte_clear, Memory.byte_clear]
  by_cases hmirror : mirrorBase + 4 ≤ a ∧ a < mirrorBase + 8
  · simp [hmirror]
  · by_cases htrim : trimRam ≤ a ∧ a < trimRam + 0x18000
    · simp [hmirror, htrim]
    · simp [hmirror, htrim]

/-! ### Bring-up (19 R491) -/

/-- A bring-up whose steps become ready starts core 0. -/
theorem bringUp_ready {f : StepFails} (hx : f.xtal < 4) (hl : f.ldo < 4) (hp : f.pll < 4) (s : State) :
    let t := bringUp f s
    t.boot = { s.boot with phase := .rom } ∧ t.clk.core = true ∧ t.clk.afe = true ∧ t.clk.pllLock = true ∧
      t.clk.link = (!(s.boot.role == .standalone) && !(s.boot.role == .test)) ∧ t.clk.host = s.clk.host ∧ t.pwr.state = .active ∧
      t.pwr.limp = false ∧ t.twm.alertRestart = true ∧ t.core0 = s.core0 := by
  intro t
  obtain ⟨l1, h1⟩ := countAttempts_eq 15 f.xtal s
  obtain ⟨l2, h2⟩ := countAttempts_eq 14 f.ldo { s with pwr.counters := l1, clk.xtalOk := true }
  obtain ⟨l3, h3⟩ := countAttempts_eq 16 f.pll { s with pwr.counters := l2, clk.xtalOk := true }
  obtain ⟨fl, fn, due, m, hup⟩ := clocksUp_eq { s with pwr.counters := l3, clk.xtalOk := true, twm.alertRestart := false }
  obtain ⟨w, hleave, hrestart⟩ := leaveCoreReset_eq (linkDomainReset (clocksUp { s with
    pwr.counters := l3, clk.xtalOk := true, twm.alertRestart := false }))
  have ht : t = leaveCoreReset (linkDomainReset (clocksUp { s with pwr.counters := l3, clk.xtalOk := true, twm.alertRestart := false })) := by
    simp only [t, bringUp, h1, Nat.not_le.2 hx, if_false, h2, Nat.not_le.2 hl, h3, Nat.not_le.2 hp]
  rw [ht, hleave, hup]
  exact ⟨rfl, rfl, rfl, rfl, rfl, rfl, rfl, rfl, hrestart, rfl⟩

/-- A crystal that never becomes ready is recorded, and the domains stay in reset. -/
theorem bringUp_crystalFails {f : StepFails} (hx : 4 ≤ f.xtal) (s : State) :
    let t := bringUp f s
    t.boot.phase = .failed ∧ t.pwr.failStep = 2 ∧ t.pwr.failAttempts = 4 ∧ t.clk.core = s.clk.core ∧ t.twm.alertWake = true := by
  intro t
  obtain ⟨l, h⟩ := countAttempts_eq 15 f.xtal s
  have hwake := setAlert_wake { s with pwr.counters := l, boot.phase := .failed, pwr.failStep := 2, pwr.failAttempts := 4 }
  obtain ⟨w, hset⟩ := setAlert_eq 0 { s with pwr.counters := l, boot.phase := .failed, pwr.failStep := 2, pwr.failAttempts := 4 }
  have ht : t = setAlert 0 { s with pwr.counters := l, boot.phase := .failed, pwr.failStep := 2, pwr.failAttempts := 4 } := by
    simp only [t, bringUp, h, hx, if_true]
  rw [hset] at hwake ht
  rw [ht]
  exact ⟨rfl, rfl, rfl, rfl, hwake⟩

/-! ### A wake source taken (16 R439, R441, R443) -/

theorem recordWake_eq (code : Nat) (s : State) : ∃ m i k l, recordWake code s = { s with
    pwr.prev := s.pwr.last, pwr.last := code, pwr.new := true, pwr.counters := l, mem := m, icu := i, clk.mergeIcu := k } := by
  unfold recordWake belCount
  obtain ⟨src, n, last, held, k, h⟩ := raise_eq 36 { s with
    pwr.prev := s.pwr.last, pwr.last := code, pwr.new := true, mem := s.mem.putLe (retBase + 0x104) 4 (code + 256 * s.pwr.last)
    pwr.counters := s.pwr.counters.modify 20 (fun c => { count := cnt 16 c.count 1, lastId := 0 }) }
  exact ⟨_, _, k, _, h⟩

theorem notifyHost_eq (code : Nat) (s : State) : ∃ w v c q pm pin, notifyHost code s = { s with
    pwr.wakeEvts := w, evt := v, crl := c, arr.queue := q, host.pmPme := pm, host.wakePin := pin } := by
  unfold notifyHost
  split
  · exact ⟨s.pwr.wakeEvts, s.evt, s.crl, s.arr.queue, s.host.pmPme, s.host.wakePin, rfl⟩
  · split
    · split
      · obtain ⟨v, c, q, h⟩ := postEventAt_eq s.epoch 0x10 code 0 s
        exact ⟨s.pwr.wakeEvts, v, c, q, s.host.pmPme, s.host.wakePin, h⟩
      · exact ⟨_, s.evt, s.crl, s.arr.queue, s.host.pmPme, s.host.wakePin, rfl⟩
    · exact ⟨s.pwr.wakeEvts, s.evt, s.crl, s.arr.queue, _, s.host.wakePin, rfl⟩
    · exact ⟨s.pwr.wakeEvts, s.evt, s.crl, s.arr.queue, s.host.pmPme, _, rfl⟩

theorem sendBeacons_eq (ps : List Port) (s : State) : ∃ b, sendBeacons ps s = { s with out.beacons := b } := by
  unfold sendBeacons
  split
  · exact ⟨s.out.beacons, rfl⟩
  · exact ⟨_, rfl⟩

theorem wakeOthers_eq (code : Nat) (tgt : PState) (s : State) : ∃ bp tr b, wakeOthers code tgt s = { s with
    pwr.beaconPort := bp, pwr.tellRoot := tr, out.beacons := b } := by
  unfold wakeOthers
  split
  · obtain ⟨b, h⟩ := sendBeacons_eq (s.pwr.beaconPort.map portOther).toList { s with pwr.beaconPort := none }
    exact ⟨none, s.pwr.tellRoot, b, h⟩
  · split
    · obtain ⟨b, h⟩ := sendBeacons_eq [.up, .dn] { s with pwr.tellRoot := some code }
      exact ⟨s.pwr.beaconPort, some code, b, h⟩
    · obtain ⟨b, h⟩ := sendBeacons_eq [.up, .dn] s
      exact ⟨s.pwr.beaconPort, s.pwr.tellRoot, b, h⟩

/-- What acting on a wake can change; the state it is in, limp mode and HOLD are not among it. -/
theorem actOnWake_eq (code : Nat) (s : State) : ∃ p c q b, actOnWake code s = { s with pwr := p, crl := c, arr.queue := q, out.beacons := b } ∧
    p.state = s.pwr.state ∧ p.limp = s.pwr.limp ∧ p.hold = s.pwr.hold ∧ p.last = s.pwr.last ∧ p.prev = s.pwr.prev := by
  have hsame : ∃ p c q b, s = { s with pwr := p, crl := c, arr.queue := q, out.beacons := b } ∧
    p.state = s.pwr.state ∧ p.limp = s.pwr.limp ∧ p.hold = s.pwr.hold ∧ p.last = s.pwr.last ∧ p.prev = s.pwr.prev :=
    ⟨s.pwr, s.crl, s.arr.queue, s.out.beacons, rfl, rfl, rfl, rfl, rfl, rfl⟩
  unfold actOnWake
  split
  · exact hsame
  · split
    · exact ⟨_, s.crl, s.arr.queue, s.out.beacons, rfl, rfl, rfl, rfl, rfl, rfl⟩
    · dsimp only
      split
      · exact hsame
      · split
        · split
          · exact hsame
          · exact ⟨_, s.crl, s.arr.queue, s.out.beacons, rfl, rfl, rfl, rfl, rfl, rfl⟩
        · generalize (if s.pwr.state = .dormant then 0 else s.pwr.floor) = fl
          split
          · split
            · obtain ⟨c, q, h⟩ := sendMsg_eq 1 0 (.wake code) { s with pwr.floor := fl }
              exact ⟨_, c, q, s.out.beacons, h, rfl, rfl, rfl, rfl, rfl⟩
            · exact ⟨_, s.crl, s.arr.queue, s.out.beacons, rfl, rfl, rfl, rfl, rfl, rfl⟩
          · obtain ⟨bp, tr, b, h⟩ := wakeOthers_eq code (wakeRise code s) { s with
              pwr.floor := fl, pwr.busy := true, pwr.target := wakeRise code s, pwr.byDrone := code == 0x10, pwr.wakeSinceDrone := code != 0x10 }
            exact ⟨_, s.crl, s.arr.queue, b, h, rfl, rfl, rfl, rfl, rfl⟩

theorem takeWake_eq (code : Nat) (s : State) : ∃ p m i k v c q pm pin b, takeWake code s = { s with
    pwr := p, mem := m, icu := i, clk.mergeIcu := k, evt := v, crl := c, arr.queue := q, host.pmPme := pm, host.wakePin := pin, out.beacons := b } ∧
    p.state = s.pwr.state ∧ p.limp = s.pwr.limp ∧ p.hold = s.pwr.hold := by
  unfold takeWake
  generalize hgpio : (if 0x30 ≤ code ∧ code < 0x34 then s.pwr.gpioEdge.set (code - 0x30) false else s.pwr.gpioEdge) = g
  have hsame : ∃ p m i k v c q pm pin b, ({ s with pwr.wakeDue := s.pwr.wakeDue.erase code, pwr.gpioEdge := g } : State) = { s with
      pwr := p, mem := m, icu := i, clk.mergeIcu := k, evt := v, crl := c, arr.queue := q, host.pmPme := pm, host.wakePin := pin
      out.beacons := b } ∧ p.state = s.pwr.state ∧ p.limp = s.pwr.limp ∧ p.hold = s.pwr.hold :=
    ⟨_, s.mem, s.icu, s.clk.mergeIcu, s.evt, s.crl, s.arr.queue, s.host.pmPme, s.host.wakePin, s.out.beacons, rfl, rfl, rfl, rfl⟩
  split
  · exact hsame
  next w _ =>
    dsimp only
    split
    · exact hsame
    · split
      · exact hsame
      · obtain ⟨m, i, k, l, hrec⟩ := recordWake_eq code { s with pwr.wakeDue := s.pwr.wakeDue.erase code, pwr.gpioEdge := g }
        rw [hrec]
        split
        · obtain ⟨w', v, c, q, pm, pin, hnot⟩ := notifyHost_eq code { s with
            pwr.wakeDue := s.pwr.wakeDue.erase code, pwr.gpioEdge := g, pwr.prev := s.pwr.last, pwr.last := code, pwr.new := true
            pwr.counters := l, mem := m, icu := i, clk.mergeIcu := k }
          rw [hnot]
          obtain ⟨p, c', q', b, hact, hstate, hlimp, hhold, -, -⟩ := actOnWake_eq code { s with
            pwr.wakeDue := s.pwr.wakeDue.erase code, pwr.gpioEdge := g, pwr.prev := s.pwr.last, pwr.last := code, pwr.new := true
            pwr.counters := l, mem := m, icu := i, clk.mergeIcu := k
            pwr.wakeEvts := w', evt := v, crl := c, arr.queue := q, host.pmPme := pm, host.wakePin := pin }
          exact ⟨p, m, i, k, v, c', q', pm, pin, b, hact, hstate, hlimp, hhold⟩
        · obtain ⟨p, c, q, b, hact, hstate, hlimp, hhold, -, -⟩ := actOnWake_eq code { s with
            pwr.wakeDue := s.pwr.wakeDue.erase code, pwr.gpioEdge := g, pwr.prev := s.pwr.last, pwr.last := code, pwr.new := true
            pwr.counters := l, mem := m, icu := i, clk.mergeIcu := k }
          exact ⟨p, m, i, k, s.evt, c, q, s.host.pmPme, s.host.wakePin, b, hact, hstate, hlimp, hhold⟩

/-! ### Limp mode and the brown-out (16 R446, R448) -/

theorem startDrone_eq (s : State) : ∃ d fr, startDrone s = { s with drone := d, fresh := fr } := by
  unfold startDrone
  cases s.activeSlot <;> exact ⟨_, _, rfl⟩

/-- Whatever the device did before, limp mode stands recorded and its clocks are those of 16 R448. -/
theorem enterLimp_spec (step attempts : Nat) (s : State) :
    let t := enterLimp step attempts s
    t.pwr.limp = true ∧ t.pwr.hold = true ∧ t.pwr.failStep = step ∧ t.clk.link = false ∧ t.clk.limpClk = true ∧ t.twm.alertWake = true := by
  unfold enterLimp
  dsimp only
  generalize (if (if s.clk.link then saveLink s else s).clk.afe then (if s.clk.link then saveLink s else s)
    else restoreAfe false (if s.clk.link then saveLink s else s)) = u
  have hdrone (v : State) : ∃ d fr, (if v.drone.slot == 0 then startDrone v else v) = { v with drone := d, fresh := fr } := by
    split
    · exact startDrone_eq v
    · exact ⟨v.drone, v.fresh, rfl⟩
  obtain ⟨d, fr, hd⟩ := hdrone { linkOff u with
    clk.limpClk := true, clk.pllLock := false, clk.core := true, clk.afe := true
    pwr.limp := true, pwr.hold := true, pwr.state := .drone, pwr.busy := false, pwr.target := .drone, pwr.latched := none, pwr.during := []
    pwr.tellRoot := none, pwr.beaconPort := none, pwr.failStep := step, pwr.failAttempts := attempts, pwr.failReport := true, pwr.attempts := 0 }
  rw [hd]
  generalize hv : State.mk _ _ _ _ _ _ _ _ _ _ _ _ _ _ _ _ _ _ _ _ _ _ _ _ _ _ _ _ _ _ _ _ _ _ _ _ = v
  obtain ⟨f, fn, due, m, hfloor⟩ := latchedFloor_eq v
  have hwake := setAlert_wake (belCount 17 0 (latchedFloor v))
  obtain ⟨w, hset⟩ := setAlert_eq 0 (belCount 17 0 (latchedFloor v))
  rw [hset] at hwake ⊢
  rw [hfloor]
  subst hv
  exact ⟨rfl, rfl, rfl, rfl, rfl, hwake⟩

theorem restoreAfe_eq (timer : Bool) (s : State) : ∃ ch el ca tr tp, restoreAfe timer s = { s with
    chn := ch, elec := el, cal := ca, trk := tr, host.tpeak := tp } := by
  unfold restoreAfe
  dsimp only
  split <;> split <;> exact ⟨_, _, _, _, _, rfl⟩

theorem linkItems_eq (s : State) : ∃ c, linkItems s = { s with crl := c } := by
  unfold linkItems
  dsimp only
  split
  · exact ⟨s.crl, rfl⟩
  · exact ⟨_, rfl⟩

/-- A brown-out of CORE in DRONE out of limp mode: the wake of 16 R446, the reset, and IDLE-SCAN with AFE and LINK back. -/
theorem execCoreBrownout_rises {s : State} (hdrone : s.pwr.state = .drone) (hlimp : s.pwr.limp = false) : ∃ t,
    exec .coreBrownout s = answer s t ∧ TileWasReset s t ∧ t.clk.rstCoreBo = true ∧ t.pwr.state = .idleScan ∧ t.pwr.busy = false ∧
      t.clk.afe = true := by
  obtain ⟨p, m, i, k, v, c, q, pm, pin, b, hwake, hstate, hplimp, -⟩ := takeWake_eq 0x50 (belCount 13 0 { s with clk.rstCoreBo := true })
  generalize hu : takeWake 0x50 (belCount 13 0 { s with clk.rstCoreBo := true }) = u at hwake
  have hulimp : u.pwr.limp = false := by
    rw [hwake]
    exact hplimp.trans hlimp
  have hreset := coreDomainReset_spec u
  generalize hx : coreDomainReset u = x at hreset
  obtain ⟨ch, el, ca, tr, tp, hafe⟩ := restoreAfe_eq false x
  generalize hz : restoreAfe false x = z at hafe
  generalize hy : ({ z with
        pwr.busy := false, pwr.state := .idleScan, pwr.target := .idleScan, pwr.latched := none, pwr.awaitL2 := false, pwr.during := []
        pwr.tellRoot := none, pwr.beaconPort := none, pwr.entryDue := none, pwr.entryEpoch := 0, pwr.refused := false, pwr.idleUs := 0, pwr.quietUs := 0
        pwr.attempts := 0, pwr.byDrone := false, drone.slot := 0, drone.pcnt := 0, drone.base := false
        clk.pllLock := true, clk.afe := true, clk.link := !(z.boot.role == .standalone) && !(z.boot.role == .test) } : State) = y
  obtain ⟨f, fn, due, mw, hfloor⟩ := latchedFloor_eq y
  obtain ⟨l, hltr⟩ := sendLtr_eq (latchedFloor y)
  obtain ⟨cr, hlink⟩ := linkItems_eq (linkDomainReset (belCount 0 0 (sendLtr (latchedFloor y))))
  obtain ⟨w, hleave, hrestart⟩ := leaveCoreReset_eq (linkItems (linkDomainReset (belCount 0 0 (sendLtr (latchedFloor y)))))
  refine ⟨leaveCoreReset (linkItems (linkDomainReset (belCount 0 0 (sendLtr (latchedFloor y))))), ?_, ?_⟩
  · change execCoreBrownout s = _
    have hne : ¬s.pwr.state ≠ .drone := fun h => h hdrone
    simp only [execCoreBrownout, if_neg hne, hu, hulimp, Bool.false_eq_true, if_false, hx, hz, hy]
  · rw [hleave, hlink, hltr, hfloor]
    subst hy hafe
    have hscratch : u.host.scratch = s.host.scratch := by rw [hwake]; rfl
    have hrtbl : u.host.rtbl = s.host.rtbl := by rw [hwake]; rfl
    refine ⟨tileWasReset_of hreset hscratch hrtbl rfl rfl rfl rfl rfl rfl rfl rfl rfl hrestart ⟨rfl, rfl⟩, ?_, rfl, rfl, rfl⟩
    have hclk := hreset.clk
    have hbo : u.clk.rstCoreBo = true := by rw [hwake]; rfl
    simp only [linkDomainReset, belCount]
    rw [hclk, hbo]

/-- In limp mode the state and HOLD stay. -/
theorem execCoreBrownout_limp {s : State} (hdrone : s.pwr.state = .drone) (hlimp : s.pwr.limp = true) : ∃ t,
    exec .coreBrownout s = answer s t ∧ TileWasReset s t ∧ t.clk.rstCoreBo = true ∧ t.pwr.state = .drone ∧ t.pwr.limp = true ∧
      t.pwr.hold = s.pwr.hold := by
  obtain ⟨p, m, i, k, v, c, q, pm, pin, b, hwake, hstate, hplimp, hphold⟩ := takeWake_eq 0x50 (belCount 13 0 { s with clk.rstCoreBo := true })
  generalize hu : takeWake 0x50 (belCount 13 0 { s with clk.rstCoreBo := true }) = u at hwake
  have hpwr : u.pwr = p := by rw [hwake]
  have hulimp : u.pwr.limp = true := by rw [hpwr, hplimp]; exact hlimp
  have hreset := coreDomainReset_spec u
  generalize hx : coreDomainReset u = x at hreset
  obtain ⟨w, hleave, hrestart⟩ := leaveCoreReset_eq x
  have hxpwr := hreset.pwr
  rw [hpwr] at hxpwr
  refine ⟨leaveCoreReset x, ?_, ?_⟩
  · change execCoreBrownout s = _
    have hne : ¬s.pwr.state ≠ .drone := fun h => h hdrone
    simp only [execCoreBrownout, if_neg hne, hu, hulimp, if_true, hx]
  · rw [hleave]
    have hscratch : u.host.scratch = s.host.scratch := by rw [hwake]; rfl
    have hrtbl : u.host.rtbl = s.host.rtbl := by rw [hwake]; rfl
    have hclk := hreset.clk
    have hbo : u.clk.rstCoreBo = true := by rw [hwake]; rfl
    refine ⟨tileWasReset_of hreset hscratch hrtbl rfl rfl rfl rfl rfl rfl rfl rfl rfl hrestart ⟨rfl, rfl⟩, ?_, ?_, ?_, ?_⟩
    · dsimp only
      rw [hclk, hbo]
    · exact (congrArg Power.state hxpwr).trans (hstate.trans hdrone)
    · exact (congrArg Power.limp hxpwr).trans (hplimp.trans hlimp)
    · exact (congrArg Power.hold hxpwr).trans hphold

theorem exec_watchdogExpiry {s : State} (hen : s.tmr.wdEn = true) (hclk : s.clk.core = true) : exec .watchdogExpiry s = answer s
    (if s.tmr.stage = 0 then raise 46 { s with tmr.stage := 1, tmr.wdCnt := s.tmr.wdLoad }
    else if s.tmr.stage = 1 then recoveryTrap { s with tmr.stage := 2, tmr.traps := cnt 4 s.tmr.traps 1, tmr.wdCnt := s.tmr.wdLoad }
    else tileReset { s with clk.rstWdog := true }) := by
  change execWatchdogExpiry s = _
  have hruns : ¬(!s.tmr.wdEn || !s.clk.core) = true := by simp [hen, hclk]
  rw [execWatchdogExpiry, if_neg hruns]

theorem exec_pllUnlock {s : State} (hlock : s.clk.pllLock = true) (f : StepFails) : ∃ l, exec (.pllUnlock f) s = answer s
    (let u := tileReset { s with clk.unlock := cnt 8 s.clk.unlock 1, clk.rstUnlock := true, pwr.counters := l }
     if 4 ≤ f.pll then enterLimp 3 4 u else u) := by
  obtain ⟨l, hcount⟩ := countAttempts_eq 16 f.pll { s with clk.unlock := cnt 8 s.clk.unlock 1, clk.rstUnlock := true }
  have hlocked : ¬(!s.clk.pllLock) = true := by simp [hlock]
  refine ⟨l, ?_⟩
  change execPllUnlock f s = _
  rw [execPllUnlock, if_neg hlocked, hcount]

end Sys2Proof.Machine

open Sys2Proof Sys2Proof.Machine

/-- Settles O22: `porn` starts from the reset state; a release and a retry are one bring-up each. -/
theorem bringUpStartsCore0OrFails : Obligations.BringUpStartsCore0OrFails := by
  refine ⟨?_, ?_, ?_, fun s hm => answer_of_eq s _ hm rfl rfl⟩
  · intro i s hi
    have hexec : exec i s = answer s (porn s) := by rcases hi with rfl | rfl <;> rfl
    refine completes_answer hexec ⟨rfl, rfl, rfl, rfl, rfl, rfl, rfl, rfl, rfl, rfl, rfl, rfl, rfl, rfl, fun a => ?_⟩
    rw [Memory.byte_canon, porn_byte]
  · intro role maddr eeprom f s hheld hdormant
    have hexec : exec (.pornRelease role maddr eeprom f) s = answer s (bringUp f { s with
        boot.role := role, boot.maddr := maddr % 8, boot.eepromSel := eeprom, clk.host := role == .standalone || role == .root }) := by
      change execPornRelease role maddr eeprom f s = _
      rw [execPornRelease, if_neg (by simp [hheld, hdormant])]
    refine ⟨fun hx hl hp => ?_, fun hx => ?_⟩
    · obtain ⟨hboot, hcore, hafe, hpll, hlink, hhost, hstate, hlimp, hrestart, hcore0⟩ := bringUp_ready hx hl hp { s with
        boot.role := role, boot.maddr := maddr % 8, boot.eepromSel := eeprom, clk.host := role == .standalone || role == .root }
      refine completes_answer hexec ⟨by rw [hboot], by rw [hboot], by rw [hboot], by rw [hboot], hcore, hafe, hpll, ?_, ?_, hstate, hlimp,
        hrestart, hcore0⟩
      · rw [hlink]
        cases role <;> simp
      · rw [hhost]
        cases role <;> simp
    · exact completes_answer hexec (bringUp_crystalFails hx _)
  · intro f s hfailed hx hl hp
    have hexec : exec (.bringupRetry f) s = answer s (bringUp f s) := by
      change execBringupRetry f s = _
      rw [execBringupRetry, if_pos hfailed]
    obtain ⟨hboot, hcore, -⟩ := bringUp_ready hx hl hp s
    exact completes_answer hexec ⟨by rw [hboot], hcore, by rw [hboot]⟩

/-- Settles O23: each cause comes to `tileReset`, to the recovery trap, or through the brown-out's wake to the reset of CORE. -/
theorem resetCausesRestartTheTile : Obligations.ResetCausesRestartTheTile := by
  refine ⟨fun key s hreach => ⟨fun hkey => ⟨?_, ?_⟩, fun hkey hm => ⟨?_, ?_⟩⟩, fun f s hlock => ⟨fun hpll => ?_, fun hpll => ?_⟩, fun s hdrone => ?_,
    fun s hen hclk => ⟨fun h0 => ?_, fun h1 => ?_, fun h2 => ?_⟩⟩
  · obtain ⟨hreset, ⟨m, i, a, hc⟩, -, -, hhold, hout, -⟩ := tileReset_spec { s with clk.rstCoreCtl := true }
    have hexec : exec (.resetCtlCore key) s = answer s (tileReset { s with clk.rstCoreCtl := true }) := by
      change execResetCtlCore key s = _
      rw [execResetCtlCore, if_pos hreach, resetCtl, if_neg (by simpa using hkey)]
      rfl
    exact completes_answer hexec ⟨hreset, by rw [hc], hhold, hout⟩
  · obtain ⟨n, hn⟩ : ∃ n, (if s.isRoot then 1 else 0) = n := ⟨_, rfl⟩
    obtain ⟨hreset, ⟨m, i, a, hc⟩, -, -, -, hout, -⟩ := tileReset_spec { s with clk.rstCoreCtl := true, out.arrayResets := s.out.arrayResets + n }
    have hexec : exec (.resetCtlArray key) s = answer s (tileReset { s with clk.rstCoreCtl := true, out.arrayResets := s.out.arrayResets + n }) := by
      change execResetCtlArray key s = _
      rw [execResetCtlArray, if_pos hreach, resetCtl, if_neg (by simpa using hkey), ← hn]
      cases hroot : s.isRoot
      · have hroot' : ({ s with clk.rstCoreCtl := true } : State).isRoot = false := hroot
        simp only [hroot', Bool.true_and, Bool.false_eq_true, if_false, Nat.add_zero]
      · have hroot' : ({ s with clk.rstCoreCtl := true } : State).isRoot = true := hroot
        simp only [hroot', Bool.true_and, if_true]
    exact completes_answer hexec ⟨hreset, by rw [hc], hout.trans (by rw [hn])⟩
  · change execResetCtlCore key s = _
    rw [execResetCtlCore, if_pos hreach, resetCtl, if_pos hkey]
    exact answer_of_eq s s hm rfl rfl
  · change execResetCtlArray key s = _
    rw [execResetCtlArray, if_pos hreach, resetCtl, if_pos hkey]
    exact answer_of_eq s s hm rfl rfl
  · obtain ⟨l, hexec⟩ := exec_pllUnlock hlock f
    obtain ⟨hreset, ⟨m, i, a, hc⟩, -, hlimp, -⟩ := tileReset_spec { s with
      clk.unlock := cnt 8 s.clk.unlock 1, clk.rstUnlock := true, pwr.counters := l }
    dsimp only at hexec
    rw [if_neg (Nat.not_le.2 hpll)] at hexec
    exact completes_answer hexec ⟨hreset, by rw [hc]; rfl, by rw [hc], by rw [hc], hlimp⟩
  · obtain ⟨l, hexec⟩ := exec_pllUnlock hlock f
    dsimp only at hexec
    rw [if_pos hpll] at hexec
    exact completes_answer hexec (enterLimp_spec 3 4 _)
  · cases hlimp : s.pwr.limp with
    | false =>
      obtain ⟨t, hexec, hreset, hbo, hstate, hbusy, hafe⟩ := execCoreBrownout_rises hdrone hlimp
      exact completes_answer hexec ⟨hreset, hbo, fun _ => ⟨hstate, hbusy, hafe⟩, fun h => absurd h (by decide)⟩
    | true =>
      obtain ⟨t, hexec, hreset, hbo, hstate, hlimp', hhold⟩ := execCoreBrownout_limp hdrone hlimp
      exact completes_answer hexec ⟨hreset, hbo, fun h => absurd h (by decide), fun _ => ⟨hstate, hlimp', hhold⟩⟩
  · have hexec := exec_watchdogExpiry hen hclk
    rw [if_pos h0] at hexec
    obtain ⟨src, n, last, held, k, hraise⟩ := raise_eq 46 { s with tmr.stage := 1, tmr.wdCnt := s.tmr.wdLoad }
    refine completes_answer hexec ⟨by rw [hraise], by rw [hraise], fun hlen => ?_⟩
    exact raise_srcAt (s := { s with tmr.stage := 1, tmr.wdCnt := s.tmr.wdLoad }) hclk (by rw [hlen]; decide) (by decide)
  · have hexec := exec_watchdogExpiry hen hclk
    rw [if_neg (by omega), if_pos h1] at hexec
    have hcore := recoveryTrap_core0 { s with tmr.stage := 2, tmr.traps := cnt 4 s.tmr.traps 1, tmr.wdCnt := s.tmr.wdLoad }
    obtain ⟨k, b, c, q, htrap⟩ := recoveryTrap_eq { s with tmr.stage := 2, tmr.traps := cnt 4 s.tmr.traps 1, tmr.wdCnt := s.tmr.wdLoad }
    refine completes_answer hexec ⟨by rw [htrap]; rfl, by rw [hcore], by rw [hcore], by rw [hcore], by rw [hcore], by rw [htrap]⟩
  · have hexec := exec_watchdogExpiry hen hclk
    rw [if_neg (by omega), if_neg (by omega)] at hexec
    obtain ⟨hreset, ⟨m, i, a, hc⟩, -⟩ := tileReset_spec { s with clk.rstWdog := true }
    exact completes_answer hexec ⟨hreset, by rw [hc]⟩
end

section
/-! The host function's resets and link events (09 R258 to R265): what each leaves of the register file, the rings and the journal. -/

namespace Sys2Proof.Machine

/-! ### What the resets of the function are made of -/

/-- An aborted job and post change the engine, memory, free values, writes to the host and an interrupt. -/
theorem abortHdma_eq (s : State) : ∃ h m pb fr w i k, abortHdma s = { s with
    hdma := h, mem := m, parBad := pb, fresh := fr, out.writes := w, icu := i, clk.mergeIcu := k } := by
  have hdraw : ∀ n (u : State), ∃ fr, (drawBytes n u).2 = { u with fresh := fr } := by
    intro n
    induction n with
    | zero => exact fun u => ⟨u.fresh, rfl⟩
    | succ n ih =>
      intro u
      obtain ⟨fr, h⟩ := ih (draw u).2
      exact ⟨fr, h⟩
  have hjob : ∃ h m pb fr w i k, (if s.hdma.busy then
        let (w, u) := draw s
        let n := w.toNat % (u.hdma.len + 1)
        let v := if u.hdma.dir then hostWrite (u.hdma.haddrHi.toNat * 2 ^ 32 + u.hdma.haddrLo.toNat) (u.mem.read u.hdma.laddr n) u.hdma.ro u
          else
            let (bs, x) := drawBytes n u
            x.put u.hdma.laddr bs
        raise 28 { v with hdma.busy := false, hdma.done := true, hdma.result := 5, hdma.xfer := n }
      else s) = { s with hdma := h, mem := m, parBad := pb, fresh := fr, out.writes := w, icu := i, clk.mergeIcu := k } := by
    split
    · dsimp only [draw]
      split
      · obtain ⟨src, n, last, held, k, h⟩ := raise_eq 28 { hostWrite (s.hdma.haddrHi.toNat * 2 ^ 32 + s.hdma.haddrLo.toNat)
          (s.mem.read s.hdma.laddr ((Config.freeValue s.fresh).toNat % (s.hdma.len + 1))) s.hdma.ro { s with fresh := s.fresh + 1 } with
            hdma.busy := false, hdma.done := true, hdma.result := 5
            hdma.xfer := (Config.freeValue s.fresh).toNat % (s.hdma.len + 1) }
        exact ⟨_, s.mem, s.parBad, s.fresh + 1, _, _, k, h⟩
      · obtain ⟨fr, hfr⟩ := hdraw ((Config.freeValue s.fresh).toNat % (s.hdma.len + 1)) { s with fresh := s.fresh + 1 }
        generalize drawBytes ((Config.freeValue s.fresh).toNat % (s.hdma.len + 1)) { s with fresh := s.fresh + 1 } = d at hfr
        obtain ⟨bs, x⟩ := d
        dsimp only at hfr ⊢
        subst hfr
        obtain ⟨src, n, last, held, k, h⟩ := raise_eq 28 { ({ s with fresh := fr } : State).put s.hdma.laddr bs with
            hdma.busy := false, hdma.done := true, hdma.result := 5
            hdma.xfer := (Config.freeValue s.fresh).toNat % (s.hdma.len + 1) }
        exact ⟨_, _, _, fr, s.out.writes, _, k, h⟩
    · exact ⟨s.hdma, s.mem, s.parBad, s.fresh, s.out.writes, s.icu, s.clk.mergeIcu, rfl⟩
  obtain ⟨h, m, pb, fr, w, i, k, hj⟩ := hjob
  unfold abortHdma
  rw [hj]
  dsimp only
  split
  · exact ⟨_, m, pb, fr, w, i, k, rfl⟩
  · exact ⟨h, m, pb, fr, w, i, k, rfl⟩

/-- Rings that stop keep what the journal holds, but for a flush that starts again. -/
theorem ringsOff_jrn (s : State) : (ringsOff s).jrn.map (fun e => (e.cmd, e.d, e.stage)) = s.jrn.map (fun e => (e.cmd, e.d, e.stage)) := by
  rw [ringsOff, List.map_map]
  refine List.map_congr_left fun e _ => ?_
  dsimp only [Function.comp]
  split <;> rfl

/-- What every reset of the function leaves (09 R265); `counts` tells SCRATCH and the counts apart. -/
theorem functionReset_spec (counts : Bool) (s : State) :
    let t := functionReset counts s
    (t.rings.en = false ∧ t.rings.act = false ∧ t.host.bme = false ∧ t.boot = s.boot) ∧
    t.jrn.map (fun e => (e.cmd, e.d, e.stage)) = s.jrn.map (fun e => (e.cmd, e.d, e.stage)) ∧ t.rings.cplPi = s.rings.cplPi ∧
    t.host.rtbl = s.host.rtbl ∧ t.host.interval = s.host.interval ∧ t.host.link = s.host.link ∧ t.ctx = s.ctx ∧ t.crl = s.crl ∧
    t.host.scratch = (if counts then s.host.scratch else 0#32) ∧ t.host.cntLinkrst = (if counts then s.host.cntLinkrst else 0) := by
  obtain ⟨h, m, pb, fr, w, i, k, habort⟩ := abortHdma_eq s
  have hjrn := ringsOff_jrn (abortHdma s)
  unfold functionReset
  dsimp only
  generalize hu : ringsOff (abortHdma s) = u at hjrn
  rw [habort] at hu hjrn
  obtain ⟨src, n, last, held, k', hraise⟩ := raise_eq 30 { u with host := if counts then _ else _ }
  rw [hraise]
  refine ⟨⟨?_, ?_, ?_, ?_⟩, hjrn, ?_, ?_, ?_, ?_, ?_, ?_, ?_, ?_⟩
  · rw [← hu]; rfl
  · rw [← hu]; rfl
  · cases counts <;> rfl
  · rw [← hu]; rfl
  · rw [← hu]; rfl
  · cases counts <;> rfl
  · cases counts <;> rfl
  · cases counts <;> rfl
  · rw [← hu]; rfl
  · rw [← hu]; rfl
  · cases counts <;> rfl
  · cases counts <;> rfl

/-- The HOST domain's reset (15 R425). -/
theorem hostDomainReset_spec (s : State) :
    let t := hostDomainReset s
    t.rings.en = false ∧ t.rings.act = false ∧ t.host.bme = false ∧ t.boot = s.boot ∧ t.jrn = [] ∧ t.host.scratch = 0#32 ∧
      t.host.rtbl = 0 ∧ t.host.link = .down ∧ t.clk.rstPerst = s.clk.rstPerst ∧ t.pwr.awaitL2 = s.pwr.awaitL2 := by
  obtain ⟨h, m, pb, fr, w, i, k, habort⟩ := abortHdma_eq s
  obtain ⟨x, c, a, mu, i', k', cap, st, ev, el, ca, ch, hclear⟩ := clearJournal_eq (ringsOff (abortHdma s))
  rw [habort] at hclear
  unfold hostDomainReset
  dsimp only
  rw [habort, hclear]
  exact ⟨rfl, rfl, rfl, rfl, rfl, rfl, rfl, rfl, rfl, rfl⟩

/-- A cleared journal leaves the host function and the boot phase, and the rings but for their state. -/
theorem clearJournal_spec (s : State) :
    let t := clearJournal s
    t.jrn = [] ∧ t.rings.en = s.rings.en ∧ t.rings.act = s.rings.act ∧ t.rings.cmdCi = 0 ∧ t.rings.tableValid = false ∧ t.host = s.host ∧
      t.boot = s.boot := by
  obtain ⟨x, c, a, mu, i, k, cap, st, ev, el, ca, ch, hclear⟩ := clearJournal_eq s
  dsimp only
  rw [hclear]
  exact ⟨rfl, rfl, rfl, rfl, rfl, rfl, rfl⟩

/-! ### Polls (10 R275) -/

/-- A poll that may go out is asked for; only the rings change. -/
theorem pollDoorbell_eq (s : State) : ∃ r b, pollDoorbell s = { s with rings.reads := r, rings.pollAgain := b } ∧
    (s.ringsOk = true → .doorbell ∈ r) := by
  unfold pollDoorbell
  split
  next hoff => exact ⟨s.rings.reads, s.rings.pollAgain, rfl, fun hon => by simp [hon] at hoff⟩
  next =>
    split
    next hin => exact ⟨s.rings.reads, true, rfl, fun _ => by simpa using hin⟩
    next => exact ⟨_, s.rings.pollAgain, rfl, fun _ => by simp⟩

/-- With no read under way a poll that may go out is the one read. -/
theorem pollDoorbell_first {s : State} (hreads : s.rings.reads = []) :
    ∃ r, pollDoorbell s = { s with rings.reads := r } ∧ (s.ringsOk = true → r = [.doorbell]) := by
  rw [pollDoorbell, hreads]
  split
  next hoff => exact ⟨s.rings.reads, rfl, fun hon => by simp [hon] at hoff⟩
  next => exact ⟨[.doorbell], rfl, fun _ => rfl⟩

/-- DMA that can go on polls at once where it could not before. -/
theorem resumeDma_eq (was : Bool) (s : State) : ∃ r b w, resumeDma was s = { s with rings.reads := r, rings.pollAgain := b, rings.waitReads := w } ∧
    (was = false → s.ringsOk = true → .doorbell ∈ r) := by
  unfold resumeDma
  split
  next hoff => exact ⟨s.rings.reads, s.rings.pollAgain, s.rings.waitReads, rfl, fun hwas hon => by simp [hwas, hon] at hoff⟩
  next =>
    obtain ⟨r, b, h, hin⟩ := pollDoorbell_eq { s with rings.reads := s.rings.reads ++ s.rings.waitReads, rings.waitReads := [] }
    exact ⟨r, b, [], h, fun _ hon => hin hon⟩

/-- A vector's message goes out, or the vector remembers it; no other part of the host function changes. -/
theorem sendVector_eq (v : Nat) (s : State) : ∃ vs l, sendVector v s = { s with host.vecs := vs, out.msix := l } := by
  unfold sendVector
  dsimp only
  split
  · exact ⟨_, s.out.msix, rfl⟩
  · split
    · exact ⟨_, s.out.msix, rfl⟩
    · exact ⟨_, _, rfl⟩

theorem sendUnmasked_eq (s : State) : ∃ vs l, sendUnmasked s = { s with host.vecs := vs, out.msix := l } := by
  unfold sendUnmasked
  refine foldl_chains (r := fun s t => ∃ vs l, t = { s with host.vecs := vs, out.msix := l }) (fun s => ⟨s.host.vecs, s.out.msix, rfl⟩) ?_
    (fun t v => ?_) _ s
  · rintro s t u ⟨vs, l, rfl⟩ ⟨vs', l', rfl⟩
    exact ⟨vs', l', rfl⟩
  · dsimp only
    split
    · exact sendVector_eq v t
    · exact ⟨t.host.vecs, t.out.msix, rfl⟩

/-! ### The link's events -/

/-- VDDSER's removal stops the ring and takes the PCIe link down (15 R425). -/
theorem execVddserRemoval_link {s : State} (hside : s.hostSide = true) (hclk : s.clk.host = true) :
    execVddserRemoval s = answer s (functionReset true { (if s.clk.link then linkDomainReset s else s) with
      host.link := .down, host.gen := 0, host.width := 0, host.cntLinkrst := cnt 8 s.host.cntLinkrst 1 }) := by
  unfold execVddserRemoval
  dsimp only
  split
  · rw [if_pos (show ((linkDomainReset s).hostSide && (linkDomainReset s).clk.host) = true from
      Bool.and_eq_true_iff.mpr ⟨hside, hclk⟩)]
    rfl
  · rw [if_pos (show (s.hostSide && s.clk.host) = true from Bool.and_eq_true_iff.mpr ⟨hside, hclk⟩)]

/-- PERST# low resets the HOST domain and stays seen; no entry to DORMANT waits for it. -/
theorem execPerstAssert_ends {s : State} (hside : s.hostSide = true) (hl2 : s.pwr.awaitL2 = false) :
    execPerstAssert s = answer s { hostDomainReset { s with host.perst := true, clk.rstPerst := true } with host.perst := true } := by
  have hawait := (hostDomainReset_spec { s with host.perst := true, clk.rstPerst := true }).2.2.2.2.2.2.2.2.2
  rw [execPerstAssert, if_neg (by simp [hside])]
  dsimp only
  rw [if_neg (by rw [hawait]; simp [hl2])]

/-- PERST# high in DORMANT is wake source 2 and no more (09 R264). -/
theorem perstDeassert_dormant {s : State} (hdorm : s.pwr.state = .dormant) :
    let t := if s.pwr.state == .dormant then wakeSource 0x02 s else hostReleased s
    t.host = s.host ∧ t.clk.host = s.clk.host ∧ (s.pwr.wakeDue = [] → t.pwr.wakeDue = [0x02]) := by
  obtain ⟨due, merge, h⟩ := wakeSource_eq 0x02 s
  dsimp only
  rw [if_pos (by simp [hdorm])]
  refine ⟨by rw [h], by rw [h], fun hdue => ?_⟩
  rw [wakeSource]
  simp [hdue]

/-- A host function that is clocked trains and raises HOST_RESET once PERST# is high. -/
theorem hostReleased_trains {s : State} (hclk : s.clk.host = true) (hperst : s.host.perst = false) :
    (hostReleased s).host = { s.host with link := .training, crs := true } ∧ (hostReleased s).clk.host = s.clk.host ∧
      (s.clk.core = true → s.icu.src.length = 48 → (hostReleased s).srcAt 30 = ((s.srcAt 30).arrival).1) := by
  obtain ⟨src, n, last, held, k, h⟩ := raise_eq 30 { s with host.link := .training, host.crs := true }
  rw [hostReleased, if_pos (by simp [hclk, hperst])]
  exact ⟨by rw [h], by rw [h], fun hcore hlen => raise_srcAt hcore (by change 30 < s.icu.src.length; omega) (by decide)⟩

theorem hostReleased_unclocked {s : State} (hclk : s.clk.host = false) : hostReleased s = s := by
  rw [hostReleased, if_neg (by simp [hclk])]

/-- LTR goes out on a link that is up, with the latency of the power state (09 R261). -/
theorem sendLtr_sends {s : State} (hside : s.hostSide = true) (hclk : s.clk.host = true) (hlink : s.host.link = .l0) :
    sendLtr s = { s with out.ltrs := s.out.ltrs ++ [{ snoop := if s.pwr.state = .drone then 3000 else 100, noSnoop := false }] } := by
  rw [sendLtr, if_pos (by simp [hside, hclk, hlink])]
  simp only [beq_iff_eq]

/-- Rings that run and are not stopping can poll while DMA can go on. -/
theorem State.ringsOk_of {s : State} (hact : s.rings.act = true) (hdrain : s.rings.draining = false) (hdma : s.dmaOk = true) :
    s.ringsOk = true := by
  simp [State.ringsOk, hact, hdrain, hdma]

/-- A failed read of the host is flagged and counted; the host function and the engine alone hold the counts. -/
theorem countFailedRead_timeout (s : State) : ∃ i k c, countFailedRead .timeout s = { s with
    host.hostrd := true, host.cntHostrd := cnt 8 s.host.cntHostrd 1, host.cfg := c, hdma.timeout := cnt 8 s.hdma.timeout 1
    icu := i, clk.mergeIcu := k } := by
  unfold countFailedRead setHostrd
  dsimp only
  split
  · exact ⟨s.icu, s.clk.mergeIcu, _, rfl⟩
  · obtain ⟨src, n, last, held, k, h⟩ := raise_eq 29 { s with host.cntHostrd := cnt 8 s.host.cntHostrd 1, host.hostrd := true }
    rw [h]
    exact ⟨_, k, _, rfl⟩

end Sys2Proof.Machine

open Sys2Proof Sys2Proof.Machine

/-- Settles O24: each event is a reset of the function or of its domain, or a change of the link that DMA follows. -/
theorem linkResetsAndStateChanges : Obligations.LinkResetsAndStateChanges := by
  refine ⟨fun s hside hclk => ?_, fun s hside => ?_⟩
  · intro stopped kept
    have hnot : ¬(!s.hostSide || !s.clk.host) = true := by simp [hside, hclk]
    refine ⟨?_, ?_, ?_, ?_, fun hl2 => ?_⟩
    · obtain ⟨hstop, hjrn, hcpl, hrtbl, hint, hlink, hctx, -, hscr, hcnt⟩ := functionReset_spec true { s with
        host.cntLinkrst := cnt 8 s.host.cntLinkrst 1 }
      refine completes_answer (t := functionReset true { s with host.cntLinkrst := cnt 8 s.host.cntLinkrst 1 }) ?_
        ⟨hstop, ⟨hjrn, hcpl, hscr, hrtbl, hint, hcnt, congrArg Contexts.slots hctx⟩, hlink⟩
      change execHotReset s = _
      rw [execHotReset, if_neg hnot]
    · obtain ⟨hstop, hjrn, hcpl, hrtbl, hint, hlink, hctx, -, hscr, hcnt⟩ := functionReset_spec true { s with
        host.link := .down, host.gen := 0, host.width := 0, host.cntLinkrst := cnt 8 s.host.cntLinkrst 1 }
      refine completes_answer (t := functionReset true { s with
        host.link := .down, host.gen := 0, host.width := 0, host.cntLinkrst := cnt 8 s.host.cntLinkrst 1 }) ?_
        ⟨hstop, ⟨hjrn, hcpl, hscr, hrtbl, hint, hcnt, congrArg Contexts.slots hctx⟩, hlink⟩
      change execDlDown s = _
      rw [execDlDown, if_neg hnot]
    · generalize hu : (if s.clk.link then linkDomainReset s else s) = u
      have hjrn' : u.jrn = s.jrn ∧ u.rings.cplPi = s.rings.cplPi ∧ u.host = s.host ∧ u.ctx = s.ctx ∧ u.boot = s.boot ∧
          (s.clk.link = true → u.crl.up = { state := 1 } ∧ u.crl.dn = { state := 1 }) := by
        rw [← hu]
        split
        next hlink => exact ⟨rfl, rfl, rfl, rfl, rfl, fun _ => by simp [linkDomainReset, hlink]⟩
        next hlink => exact ⟨rfl, rfl, rfl, rfl, rfl, fun h => absurd h hlink⟩
      obtain ⟨hj, hc, hh, hx, hb, hports⟩ := hjrn'
      obtain ⟨⟨hen, hact, hbme, hboot⟩, hjrn, hcpl, hrtbl, hint, hlink, hctx, hcrl, hscr, hcnt⟩ := functionReset_spec true { u with
        host.link := .down, host.gen := 0, host.width := 0, host.cntLinkrst := cnt 8 s.host.cntLinkrst 1 }
      refine completes_answer (t := functionReset true { u with
        host.link := .down, host.gen := 0, host.width := 0, host.cntLinkrst := cnt 8 s.host.cntLinkrst 1 }) ?_
        ⟨⟨hen, hact, hbme, hboot.trans hb⟩, ⟨hjrn.trans (by dsimp only; rw [hj]), hcpl.trans hc, hscr.trans (by dsimp only; rw [hh]; rfl),
          hrtbl.trans (by dsimp only; rw [hh]), hint.trans (by dsimp only; rw [hh]), hcnt, congrArg Contexts.slots (hctx.trans hx)⟩, hlink, ?_⟩
      · change execVddserRemoval s = _
        rw [execVddserRemoval_link hside hclk, hu]
      · dsimp only
        rw [hcrl]
        exact hports
    · obtain ⟨⟨hen, hact, hbme, hboot⟩, -, -, hrtbl, -, -, -, -, hscr, hcnt⟩ := functionReset_spec false s
      obtain ⟨hjrn, hen', hact', hci, htab, hhost, hboot'⟩ := clearJournal_spec (functionReset false s)
      refine completes_answer (t := clearJournal (functionReset false s)) ?_ ⟨⟨hen'.trans hen, hact'.trans hact, ?_, hboot'.trans hboot⟩, hjrn, ?_, ?_, ?_, hci, htab⟩
      · change execFlr s = _
        rw [execFlr, if_neg hnot]
      all_goals dsimp only; rw [hhost]; assumption
    · obtain ⟨hen, hact, hbme, hboot, hjrn, hscr, hrtbl, hlink, hperst, hawait⟩ := hostDomainReset_spec { s with host.perst := true, clk.rstPerst := true }
      refine completes_answer (t := { hostDomainReset { s with host.perst := true, clk.rstPerst := true } with host.perst := true }) ?_
        ⟨⟨hen, hact, hbme, hboot⟩, hjrn, hscr, hrtbl, rfl, hlink, hperst⟩
      change execPerstAssert s = _
      rw [execPerstAssert_ends hside hl2]
  · refine ⟨fun hperst => ?_, fun hclk gen width d on cfg l => ⟨?_, fun hd => ?_, ?_, fun hl0 hl => ?_⟩, fun hreads htags => ?_⟩
    · let u : State := { s with host.perst := false, host.wakePin := false, host.dstate := .d0, host.crs := true }
      refine completes_answer (t := if u.pwr.state == .dormant then wakeSource 0x02 u else hostReleased u) ?_ ?_
      · change execPerstDeassert s = _
        rw [execPerstDeassert, if_neg (by simp [hside, hperst])]
      by_cases hdorm : s.pwr.state = .dormant
      · obtain ⟨hhost, hclk, hdue⟩ := perstDeassert_dormant (s := u) hdorm
        generalize (if u.pwr.state == .dormant then wakeSource 0x02 u else hostReleased u) = v at hhost hclk hdue
        dsimp only
        rw [hhost, hclk]
        exact ⟨rfl, rfl, rfl, rfl, rfl, fun h => absurd hdorm h, fun h => absurd hdorm h, fun _ => ⟨rfl, hdue⟩⟩
      · rw [if_neg (by simpa using hdorm)]
        by_cases hclk : s.clk.host = true
        · obtain ⟨hhost, hclk', hsrc⟩ := hostReleased_trains (s := u) hclk rfl
          generalize hostReleased u = v at hhost hclk' hsrc
          dsimp only
          rw [hhost, hclk']
          exact ⟨rfl, rfl, rfl, rfl, rfl, fun _ _ => ⟨rfl, hsrc⟩, fun _ h => by simp [hclk] at h, fun h => absurd h hdorm⟩
        · rw [hostReleased_unclocked (by simpa using hclk)]
          exact ⟨rfl, rfl, rfl, rfl, rfl, fun _ h => absurd h hclk, fun _ _ => rfl, fun h => absurd h hdorm⟩
    · intro hm hperst hgen1 hgen3 hwidth hlink
      have hw : 1 ≤ width ∧ width ≤ 2 := by omega
      change execPcieLinkUp gen width s = _
      rw [execPcieLinkUp, if_pos (by simp [hside, hclk, hperst, hgen1, hgen3, hw, hlink, linkUp]), sendLtr_sends (s := { s with
        host.link := .l0, host.gen := gen, host.width := width, host.crs := false }) hside hclk rfl]
      exact answer_of_eq s _ hm rfl rfl
    · obtain ⟨h, m, pb, fr, w, i, k, habort⟩ := abortHdma_eq s
      have hu : ∃ h m pb fr w i k, raise 31 { (if d = .d0 then s else abortHdma s) with host.dstate := d } = { s with
          host.dstate := d, hdma := h, mem := m, parBad := pb, fresh := fr, out.writes := w, icu := i, clk.mergeIcu := k } := by
        obtain ⟨src, n, last, held, k', hraise⟩ := raise_eq 31 { (if d = .d0 then s else abortHdma s) with host.dstate := d }
        rw [hraise]
        split
        · exact ⟨s.hdma, s.mem, s.parBad, s.fresh, s.out.writes, _, k', rfl⟩
        · rw [habort]
          exact ⟨h, m, pb, fr, w, _, k', rfl⟩
      obtain ⟨h, m, pb, fr, w, i, k, hu⟩ := hu
      obtain ⟨r, b, wr, hresume, hpoll⟩ := resumeDma_eq s.dmaOk (raise 31 { (if d = .d0 then s else abortHdma s) with host.dstate := d })
      refine completes_answer (t := resumeDma s.dmaOk (raise 31 { (if d = .d0 then s else abortHdma s) with host.dstate := d })) ?_ ?_
      · change execPcieDstateChange d s = _
        rw [execPcieDstateChange, if_neg (by simp [hside, hclk, Ne.symm hd])]
      rw [hresume]
      rw [hu] at hpoll ⊢
      refine ⟨rfl, fun hact hdrain hbme hlink hd0 => hpoll ?_ (State.ringsOk_of hact hdrain ?_)⟩
      · subst hd0
        have : s.host.dstate ≠ .d0 := Ne.symm hd
        simp [State.dmaOk, this]
      · simp [State.dmaOk, hclk, hbme, hlink, hd0]
    · obtain ⟨h, m, pb, fr, w, i, k, habort⟩ := abortHdma_eq s
      have hu : ∃ h m pb fr w i k, (if on then s else abortHdma s) = { s with
          hdma := h, mem := m, parBad := pb, fresh := fr, out.writes := w, icu := i, clk.mergeIcu := k } := by
        split
        · exact ⟨s.hdma, s.mem, s.parBad, s.fresh, s.out.writes, s.icu, s.clk.mergeIcu, rfl⟩
        · exact ⟨h, m, pb, fr, w, i, k, habort⟩
      obtain ⟨h, m, pb, fr, w, i, k, hu⟩ := hu
      let t : State := { s with
        hdma := h, mem := m, parBad := pb, fresh := fr, out.writes := w, icu := i, clk.mergeIcu := k
        host.bme := on, host.relaxed := cfg.relaxed, host.cfg := { s.host.cfg with
          bar0 := cfg.bar0 / 65536 * 65536 % 2 ^ 64, maxPayload := cfg.maxPayload, maxRead := cfg.maxRead
          msixEn := cfg.msixEn, msixMask := cfg.msixMask } }
      obtain ⟨vs, ms, hsend⟩ := sendUnmasked_eq t
      obtain ⟨r, b, wr, hresume, hpoll⟩ := resumeDma_eq s.dmaOk (sendUnmasked t)
      refine completes_answer (t := resumeDma s.dmaOk (sendUnmasked t)) ?_ ?_
      · change execBusMasterEnableChange on cfg s = _
        rw [execBusMasterEnableChange, if_neg (by simp [hside, hclk])]
        dsimp only
        rw [hu]
      rw [hresume]
      rw [hsend] at hpoll ⊢
      refine ⟨rfl, fun hact hdrain hbme hon hlink hd0 => hpoll ?_ (State.ringsOk_of hact hdrain ?_)⟩
      · simp [State.dmaOk, hbme]
      · simp [State.dmaOk, t, hclk, hon, hlink, hd0]
    · obtain ⟨src, n, last, held, k', hraise⟩ := raise_eq 31 { s with
        host.link := l, host.recov := if l = .l0 then cnt 8 s.host.recov 1 else s.host.recov }
      refine completes_answer (t := raise 31 { s with
        host.link := l, host.recov := if l = .l0 then cnt 8 s.host.recov 1 else s.host.recov }) ?_ ⟨?_, fun hcore hlen => ?_⟩
      · change execLinkPmChange l s = _
        rw [execLinkPmChange, if_pos]
        obtain rfl | rfl := hl <;> simp [hside, hclk, hl0, linkUp]
      · rw [hraise]
        obtain rfl | rfl := hl <;> rfl
      · exact raise_srcAt (s := { s with host.link := l, host.recov := if l = .l0 then cnt 8 s.host.recov 1 else s.host.recov }) hcore
          (by change 31 < s.icu.src.length; omega) (by decide)
    · have hout : s.outReads = [.doorbell] := by
        rw [State.outReads, hreads]
        exact List.take_of_length_le (by change 1 ≤ 32 - s.otherTags; omega)
      refine completes_answer (t := failDoorbell .timeout s) ?_ ?_
      · change execPcieCompletionTimeout s = _
        rw [execPcieCompletionTimeout, hout]
      obtain ⟨i, k, c, hfail⟩ := countFailedRead_timeout { s with
        rings.reads := s.rings.reads.filter (· != .doorbell), rings.pollAgain := false }
      have hnone : s.rings.reads.filter (· != .doorbell) = [] := by rw [hreads]; decide
      unfold failDoorbell
      dsimp only
      rw [hfail, hnone]
      split
      next hagain =>
        obtain ⟨r, hpoll, hr⟩ := pollDoorbell_first (s := { s with
          rings.reads := [], rings.pollAgain := false
          host.hostrd := true, host.cntHostrd := cnt 8 s.host.cntHostrd 1, host.cfg := c, hdma.timeout := cnt 8 s.hdma.timeout 1
          icu := i, clk.mergeIcu := k }) rfl
        rw [hpoll]
        exact ⟨fun h => absurd hagain (by simp [h]), fun _ hok => hr hok, rfl, rfl, rfl, rfl⟩
      next hagain =>
        exact ⟨fun _ => rfl, fun h => absurd h hagain, rfl, rfl, rfl, rfl⟩
end

section
/-! A host read (09 R267 to R271): what it returns and what it clears. -/

namespace Sys2Proof.Machine

/-- Reading one byte clears counts of the host function only, LINKRST and DROPWR exactly by their own byte (09 R268). -/
theorem clearReadByte_eq {s : State} (hclk : s.clk.host = true) (a : Nat) : ∃ p r o tp jp, clearReadByte s a = { s with
    host.cntParity := p, host.cntHostrd := r, host.offCount := o, host.tpeak := tp, host.jrnPeak := jp
    host.cntLinkrst := if a = 0x46 then 0 else s.host.cntLinkrst
    host.cntDropwr := if a = 0x47 then 0 else s.host.cntDropwr } := by
  have hkeep : ∀ a, a ≠ 0x46 → a ≠ 0x47 → ∃ p r o tp jp, s = { s with
      host.cntParity := p, host.cntHostrd := r, host.offCount := o, host.tpeak := tp, host.jrnPeak := jp
      host.cntLinkrst := if a = 0x46 then 0 else s.host.cntLinkrst
      host.cntDropwr := if a = 0x47 then 0 else s.host.cntDropwr } := fun a h h' => by
    rw [if_neg h, if_neg h']
    exact ⟨_, _, _, _, _, rfl⟩
  have hon : s.hostDomOn 5 = true := by simp [State.hostDomOn, State.domOn, hclk]
  unfold clearReadByte
  split
  next hoff =>
    refine hkeep a ?_ ?_ <;> rintro rfl <;> simp [regHome, hon] at hoff
  next =>
    split
    · exact ⟨_, _, _, _, _, rfl⟩
    · exact ⟨_, _, _, _, _, rfl⟩
    · exact ⟨_, _, _, _, _, rfl⟩
    · exact ⟨_, _, _, _, _, rfl⟩
    · exact ⟨_, _, _, _, _, rfl⟩
    · exact ⟨_, _, _, _, _, rfl⟩
    · exact ⟨_, _, _, _, _, rfl⟩
    · exact ⟨_, _, _, _, _, rfl⟩
    · exact ⟨_, _, _, _, _, rfl⟩
    · exact ⟨_, _, _, _, _, rfl⟩
    · refine hkeep a ?_ ?_ <;> assumption

/-- Reading bytes clears the counts whose byte is among them. -/
theorem foldl_clearReadByte (as : List Nat) {s : State} (hclk : s.clk.host = true) :
    ∃ p r o tp jp, as.foldl clearReadByte s = { s with
      host.cntParity := p, host.cntHostrd := r, host.offCount := o, host.tpeak := tp, host.jrnPeak := jp
      host.cntLinkrst := if 0x46 ∈ as then 0 else s.host.cntLinkrst
      host.cntDropwr := if 0x47 ∈ as then 0 else s.host.cntDropwr } := by
  induction as generalizing s with
  | nil => exact ⟨_, _, _, _, _, rfl⟩
  | cons a as ih =>
    obtain ⟨p, r, o, tp, jp, hfirst⟩ := clearReadByte_eq hclk a
    rw [List.foldl_cons, hfirst]
    obtain ⟨p, r, o, tp, jp, hrest⟩ := ih (s := { s with
      host.cntParity := p, host.cntHostrd := r, host.offCount := o, host.tpeak := tp, host.jrnPeak := jp
      host.cntLinkrst := if a = 0x46 then 0 else s.host.cntLinkrst
      host.cntDropwr := if a = 0x47 then 0 else s.host.cntDropwr }) hclk
    rw [hrest]
    refine ⟨p, r, o, tp, jp, ?_⟩
    have hmem : ∀ c n : Nat, (if c ∈ as then 0 else if a = c then 0 else n) = if c ∈ a :: as then 0 else n := fun c n => by
      by_cases hc : c ∈ as <;> by_cases ha : a = c <;> simp [hc, ha, eq_comm]
    dsimp only
    rw [hmem, hmem]

/-- The bytes a read of `size` from `off` addresses are those between. -/
theorem mem_addresses (off size c : Nat) : c ∈ (List.range size).map (off + ·) ↔ off ≤ c ∧ c < off + size := by
  simp only [List.mem_map, List.mem_range]
  constructor
  · rintro ⟨i, hi, rfl⟩
    omega
  · rintro ⟨hlo, hhi⟩
    exact ⟨c - off, by omega, by omega⟩

/-- A read of a function that answers. -/
theorem hostRead_reach {s : State} (hreach : s.hostReach = true) (off size : Nat) :
    ∃ p r o tp jp, hostRead off size s = { s with
      host.reply := (List.range size).map (fun i => barByte s (off + i))
      host.cntParity := p, host.cntHostrd := r, host.offCount := o, host.tpeak := tp, host.jrnPeak := jp
      host.cntLinkrst := if off ≤ 0x46 ∧ 0x46 < off + size then 0 else s.host.cntLinkrst
      host.cntDropwr := if off ≤ 0x47 ∧ 0x47 < off + size then 0 else s.host.cntDropwr } := by
  have hclk : s.clk.host = true := by
    simp only [State.hostReach, Bool.and_eq_true] at hreach
    exact hreach.1.1.2
  obtain ⟨p, r, o, tp, jp, h⟩ := foldl_clearReadByte ((List.range size).map (off + ·)) (s := { s with
    host.reply := (List.range size).map (fun i => barByte s (off + i)) }) hclk
  refine ⟨p, r, o, tp, jp, ?_⟩
  rw [hostRead, if_neg (by simp [hreach])]
  dsimp only
  rw [List.map_map]
  refine Eq.trans h ?_
  simp only [mem_addresses]

/-- A byte of a register of the file, as the register reads. -/
theorem barByte_reg (s : State) {a : Nat} (ha : a < 0x80) :
    barByte s a = BitVec.ofNat 8 (regRead s (a / 4 * 4) / 256 ^ (a % 4)) := by
  rw [barByte, if_pos ha]
  rw [pow_mul]
  norm_num

/-- Between the register file and the MSI-X table every byte reads 0. -/
theorem barByte_gap (s : State) {a : Nat} (hlo : 0x80 ≤ a) (hhi : a < 0x8000) : barByte s a = 0#8 := by
  rw [barByte, if_neg (by omega), if_neg (by omega), if_neg (by omega)]
  simp

end Sys2Proof.Machine

open Sys2Proof Sys2Proof.Machine

/-- Settles O25: a read is the map of its bytes, then the fold that clears the RC fields among them. -/
theorem hostReadsReturnTheirRegisters : Obligations.HostReadsReturnTheirRegisters := by
  intro off size s hsize
  refine ⟨fun hreach => ?_, fun hreach => ?_, fun hreach hcore => ?_⟩
  · obtain ⟨p, r, o, tp, jp, hread⟩ := hostRead_reach hreach off size
    refine completes_answer (t := hostRead off size s) rfl ?_
    rw [hread]
    have hget : ∀ i, i < size → ((List.range size).map (fun i => barByte s (off + i))).getD i 0 = barByte s (off + i) := fun i hi => by
      simp [List.getD_eq_getElem?_getD, hi]
    refine ⟨by simp, fun i hi ho => ?_, fun i hi hlo hhi => (hget i hi).trans (barByte_gap s hlo hhi), rfl, rfl, rfl, rfl, rfl⟩
    exact (hget i hi).trans ((barByte_reg s ho).trans (by rw [regRead]))
  · refine completes_answer (t := hostRead off size s) rfl ?_
    rw [hostRead, if_pos (by simp [hreach])]
  · obtain ⟨p, r, o, tp, jp, hread⟩ := hostRead_reach hreach 0x068 4
    refine completes_answer (t := hostRead 0x068 4 s) rfl ?_
    rw [hread]
    have hoff : s.hostDomOn 2 = false := by simp [State.hostDomOn, State.domOn, hcore]
    have hreg : regRead s 0x068 = 0xFFFF0002 := by rw [regRead, regHome, hoff]; rfl
    have hbyte : ∀ i, i < 4 → barByte s (0x068 + i) = BitVec.ofNat 8 (0xFFFF0002 / 256 ^ i) := fun i hi => by
      rw [barByte_reg s (by omega), show (0x068 + i) / 4 * 4 = 0x068 by omega, show (0x068 + i) % 4 = i by omega, hreg]
    have hlist : (List.range 4).map (fun i => barByte s (0x068 + i)) = (List.range 4).map (fun i => BitVec.ofNat 8 (0xFFFF0002 / 256 ^ i)) :=
      List.map_congr_left fun i hi => hbyte i (List.mem_range.mp hi)
    exact hlist
end

section
/-! Host writes (08 R255, 09 R268 to R279): when one takes effect, and what it leaves. -/

namespace Sys2Proof.Machine

/-- An aligned write of 4 bytes reaches its register. -/
theorem hostRegWrite_word {s : State} (hreach : s.hostReach = true) {off v : Nat} (halign : off % 4 = 0) (hv : v < 2 ^ 32) :
    hostRegWrite off 4 v s = hostWrite4 off v s := by
  rw [hostRegWrite, if_neg (by simp [hreach]), if_pos ⟨.inl rfl, halign⟩]
  dsimp only
  rw [if_neg (by decide), Nat.mod_eq_of_lt hv]

/-- A write that is neither of 4 nor of 8 bytes, or not aligned, is dropped and counted (09 R268). -/
theorem hostRegWrite_dropped {s : State} (hreach : s.hostReach = true) {off size : Nat} (hoff : off < 0x80)
    (hbad : ¬((size = 4 ∨ size = 8) ∧ off % 4 = 0)) (v : Nat) :
    hostRegWrite off size v s = { s with host.narrow := true, host.cntDropwr := cnt 8 s.host.cntDropwr 1 } := by
  rw [hostRegWrite, if_neg (by simp [hreach]), if_neg hbad, if_pos hoff]

/-- A command of the register file that reaches the function. -/
theorem hostCmd_reach {s : State} (hreach : s.hostReach = true) (f : State → State) : hostCmd f s = answer s (f s) := by
  rw [hostCmd, if_pos hreach]

/-- What such a command completes with. -/
theorem completes_hostCmd {i : Instr} {s : State} {f : State → State} (hexec : exec i s = hostCmd f s) (hreach : s.hostReach = true)
    {P : State → Prop} (hP : P { f s with pending := s.pending, mem := (f s).mem.canon }) : Completes i s P :=
  completes_answer (hexec.trans (hostCmd_reach hreach f)) hP

/-- Registers of a pair take effect while the rings are disabled (08 R255). -/
theorem pointerHi_disabled {s : State} (hen : s.rings.en = false) (hact : s.rings.act = false) (v : Nat) :
    pointerHi .rtbl v s = { s with host.rtbl := v * 2 ^ 32 + s.host.rtblLo } ∧
    pointerHi .dbpg v s = { s with host.dbpg := v * 2 ^ 32 + s.host.dbpgLo } ∧
    pointerHi .stpg v s = { s with host.stpg := v * 2 ^ 32 + s.host.stpgLo } := by
  have hon : ¬(!s.ringsDisabled) = true := by simp [State.ringsDisabled, hen, hact]
  exact ⟨if_neg hon, if_neg hon, if_neg hon⟩

/-- A floor that nothing delays: it moves, and a request for a higher state wakes (16 R431). -/
theorem setFloor_idle {s : State} (hbusy : s.pwr.busy = false) {st : Nat} (hst : st < 4) :
    (setFloor st s).pwr.floor = st ∧ (setFloor st s).pwr.floorNext = s.pwr.floorNext ∧
      (s.pwr.wakeDue = [] → (setFloor st s).pwr.wakeDue = if st < s.shownState then [0x01] else []) := by
  rw [setFloor, if_neg (by omega), if_neg (by simp [hbusy])]
  dsimp only
  split
  next hlt =>
    obtain ⟨due, m, h⟩ := wakeSource_eq 0x01 { s with pwr.floor := st }
    refine ⟨by rw [h], by rw [h], fun hdue => ?_⟩
    rw [if_pos (show st < s.shownState from hlt), wakeSource]
    simp [hdue]
  next hge => exact ⟨rfl, rfl, fun hdue => by rw [if_neg (show ¬st < s.shownState from hge)]; exact hdue⟩

/-- A floor written during a transition is latched. -/
theorem setFloor_busy {s : State} (hbusy : s.pwr.busy = true) {st : Nat} (hst : st < 4) :
    setFloor st s = { s with pwr.floorNext := some st } := by
  rw [setFloor, if_neg (by omega), if_pos hbusy]

theorem getD_modify_of_lt {α : Type} (l : List α) {k : Nat} (hk : k < l.length) (i : Nat) (f : α → α) (d : α) :
    (l.modify i f).getD k d = if i = k then f (l.getD k d) else l.getD k d := by
  simp only [List.getD_eq_getElem?_getD, List.getElem?_modify, List.getElem?_eq_getElem hk]
  split <;> rfl

/-- `MSIX_MOD` selects a vector and sets it or every vector (09 R276). -/
theorem msixMod_vecs (s : State) (v : Word) (hlen : s.host.vecs.length = 16) :
    (msixMod v.toNat s).host.modVec = v.toNat / 2 ^ 16 % 16 ∧ ∀ k : Fin 16, let x := s.host.vecs.getD k {}
      (msixMod v.toNat s).host.vecs.getD k {} = if v.getLsbD 20 ∨ k.val = v.toNat / 2 ^ 16 % 16 then
        { x with count := if v.toNat % 16 = 0 then x.count else v.toNat % 16, time := v.toNat / 16 % 1024, since := 0 } else x := by
  unfold msixMod
  dsimp only
  rw [bit_eq_getLsbD]
  split
  next hall => 
    refine ⟨rfl, fun k => ?_⟩
    have hk : k.val < s.host.vecs.length := by omega
    simp [fld, hall, List.getD_eq_getElem?_getD, hk]
  next hone =>
    refine ⟨rfl, fun k => ?_⟩
    have hk : k.val < s.host.vecs.length := by omega
    dsimp only
    rw [getD_modify_of_lt _ hk]
    refine ite_congr (propext ⟨fun h => .inr h.symm, fun h => (h.resolve_left hone).symm⟩) (fun _ => ?_) fun _ => rfl
    simp [fld]

/-- CLRLIMP ends the hold, and in limp mode begins a full exit (16 R449). -/
theorem clearLimp_spec (s : State) : (clearLimp s).pwr.hold = false ∧ (s.pwr.limp = true → s.pwr.floor < 2 →
    (clearLimp s).pwr.busy = true ∧ (clearLimp s).pwr.attempts = 0 ∧
      (clearLimp s).pwr.target = if s.pwr.floor = 0 then PState.active else PState.idleScan) := by
  unfold clearLimp
  split
  next hno => exact ⟨rfl, fun hlimp => by simp [hlimp] at hno⟩
  next =>
    dsimp only
    split
    next hfloor =>
      refine ⟨rfl, fun _ _ => ⟨rfl, rfl, ?_⟩⟩
      obtain h | h : s.pwr.floor = 0 ∨ s.pwr.floor = 1 := by omega
      · simp [h, pstateOf]
      · simp [h, pstateOf]
    next hfloor => exact ⟨rfl, fun _ h => absurd h hfloor⟩

/-- `DIAG_SEL` takes its item and tile; only a member that is online is asked (09 R279). -/
theorem diagSel_spec (v : Nat) (s : State) :
    (diagSel v s).host.diagItem = v % 65536 ∧ (diagSel v s).host.diagTile = v / 65536 % 64 ∧
      (v / 65536 % 64 = 0 → (diagSel v s).host.diagBusy = false) ∧
      (v / 65536 % 64 ≠ 0 → s.isOnline (v / 65536 % 64) = false →
        (diagSel v s).host.diagBusy = false ∧ (diagSel v s).host.diagData = 0xFFFFFFFF#32) ∧
      (v / 65536 % 64 ≠ 0 → s.isOnline (v / 65536 % 64) = true → (diagSel v s).host.diagBusy = true) := by
  have hitem : fld v 0 16 = v % 65536 := by simp [fld]
  have htile : fld v 16 6 = v / 65536 % 64 := rfl
  unfold diagSel
  dsimp only
  rw [hitem, htile]
  split
  next h0 => exact ⟨rfl, rfl, fun _ => rfl, fun h => absurd h0 h, fun h => absurd h0 h⟩
  next h0 =>
    split
    next hoff =>
      have hoff' : s.isOnline (v / 65536 % 64) = false := Bool.not_eq_true' _ |>.mp hoff
      exact ⟨rfl, rfl, fun h => absurd h h0, fun _ _ => ⟨rfl, rfl⟩, fun _ h => by simp [hoff'] at h⟩
    next hon =>
      have hon' : s.isOnline (v / 65536 % 64) = true := by
        cases h : s.isOnline (v / 65536 % 64) with
        | true => rfl
        | false => exact absurd (congrArg (!·) h) hon
      obtain ⟨c, q, h⟩ := sendMsg_eq 1 (v / 65536 % 64) (.diag (v % 65536)) { s with
        host.diagData := BitVec.ofNat 32 (regRead s 0x07C), host.diagItem := v % 65536, host.diagTile := v / 65536 % 64
        host.diagBusy := true }
      rw [h]
      exact ⟨rfl, rfl, fun h => absurd h h0, fun _ h => by simp [hon'] at h, fun _ _ => rfl⟩

/-- A vector that nothing masks sends its message, and its counts begin again (10 R312). -/
theorem sendVector_sends {s : State} (hdma : s.dmaOk = true) (hen : s.host.cfg.msixEn = true) (hmask : s.host.cfg.msixMask = false)
    {v : Nat} (hv : (s.host.vecs.getD v {}).masked = false) :
    sendVector v s = { s with
      out.msix := s.out.msix ++ [v]
      host.vecs := s.host.vecs.modify v (fun x => { x with unsignalled := 0, since := 0, limit := 0, due := false, pend := false }) } := by
  unfold sendVector
  dsimp only
  rw [if_neg (by simp [hdma, hen]), if_neg (by rw [hv]; simp [hmask])]

/-- A vector unmasked goes out if it was pending (10 R312). -/
theorem maskVector_clear {s : State} (hlen : s.host.vecs.length = 16) (hdma : s.dmaOk = true) (hen : s.host.cfg.msixEn = true)
    (hmask : s.host.cfg.msixMask = false) (vec : Fin 16) :
    ((maskVector vec.val false s).host.vecs.getD vec {}).masked = false ∧
      (maskVector vec.val false s).out.msix = s.out.msix ++ if (s.host.vecs.getD vec {}).pend then [vec.val] else [] := by
  have hk : vec.val < s.host.vecs.length := by omega
  have hget : (s.host.vecs.modify vec.val fun x => { x with masked := false }).getD vec.val {} =
      { s.host.vecs.getD vec.val {} with masked := false } := by
    rw [getD_modify_of_lt _ hk, if_pos rfl]
  unfold maskVector
  dsimp only
  rw [hget]
  by_cases hpend : (s.host.vecs.getD vec.val {}).pend = true
  · rw [if_pos (by simpa using hpend)]
    rw [sendVector_sends (s := { s with host.vecs := s.host.vecs.modify vec.val fun x => { x with masked := false } }) hdma hen hmask
      (by rw [hget])]
    dsimp only
    rw [getD_modify_of_lt _ (by simpa using hk), if_pos rfl, hget, if_pos hpend]
    exact ⟨rfl, rfl⟩
  · rw [if_neg (by simpa using hpend), if_neg hpend]
    exact ⟨by rw [hget], (List.append_nil _).symm⟩

end Sys2Proof.Machine

open Sys2Proof Sys2Proof.Machine

/-- Settles O26: each write is the one register's, the drop's or the off domain's case of the write rules. -/
theorem hostWritesObeyTheirRules : Obligations.HostWritesObeyTheirRules := by
  refine ⟨fun s v p hreach hm => ?_, fun s v vec hreach => ?_⟩
  · have hv : v.toNat < 2 ^ 32 := v.isLt
    have hword : ∀ {off : Nat} {t : State}, off % 4 = 0 → hostWrite4 off v.toNat s = t → t.mem = s.mem → t.pending = s.pending →
        exec (.registerWrite off 4 v.toNat) s = .next t := fun {off t} halign h hmem hpend => by
      change answer s (hostRegWrite off 4 v.toNat s) = _
      rw [hostRegWrite_word hreach halign hv, h]
      exact answer_of_eq s t hm hmem hpend
    have hhi : ∀ (p : PtrPair) {t : State}, pointerHi p v.toNat s = t → t.mem = s.mem → t.pending = s.pending →
        exec (.pointerHiWrite p v) s = .next t := fun p {t} h hmem hpend => by
      change hostCmd (pointerHi p v.toNat) s = _
      rw [hostCmd_reach hreach, h]
      exact answer_of_eq s t hm hmem hpend
    refine ⟨hword (by decide) ?_ rfl rfl, hword (by decide) rfl rfl rfl, hword (by decide) ?_ rfl rfl, fun off size hoff hbad => ?_,
      fun hcore => hword (by decide) ?_ rfl rfl, ?_, fun hen hact => ?_, fun hact => ?_⟩
    · change { s with host.scratch := BitVec.ofNat 32 v.toNat } = _
      rw [BitVec.ofNat_toNat, BitVec.setWidth_eq]
    · change errClear v.toNat s = _
      unfold errClear
      simp only [bit_eq_getLsbD]
    · change answer s (hostRegWrite off size v.toNat s) = _
      rw [hostRegWrite_dropped hreach hoff hbad]
      exact answer_of_eq s _ hm rfl rfl
    · change (if !s.hostDomOn 2 then offAccess 2 s else if bit v.toNat 0 then ringStart none s else ringStop s) = _
      rw [if_pos (by simp [State.hostDomOn, State.domOn, hcore])]
      rfl
    · refine completes_hostCmd (f := pointerLo p v.toNat) rfl hreach ?_
      cases p <;> exact ⟨rfl, rfl, rfl, rfl, rfl, rfl, rfl⟩
    · obtain ⟨hrtbl, hdbpg, hstpg⟩ := pointerHi_disabled hen hact v.toNat
      refine ⟨hhi .rtbl hrtbl rfl rfl, hhi .dbpg hdbpg rfl rfl, hhi .stpg hstpg rfl rfl, fun w => ?_⟩
      change answer s (hostRegWrite 0x01C 8 (v.toNat + 2 ^ 32 * w.toNat) s) = _
      have hw : w.toNat < 2 ^ 32 := w.isLt
      rw [hostRegWrite, if_neg (by simp [hreach]), if_pos ⟨.inr rfl, by decide⟩]
      dsimp only
      rw [if_pos rfl, show (v.toNat + 2 ^ 32 * w.toNat) % 2 ^ 32 = v.toNat by omega,
        show (v.toNat + 2 ^ 32 * w.toNat) / 2 ^ 32 % 2 ^ 32 = w.toNat by omega]
      change answer s (pointerHi .rtbl w.toNat { s with host.rtblLo := v.toNat / 256 * 256 }) = _
      refine Eq.trans (congrArg (answer s) (pointerHi_disabled (s := { s with host.rtblLo := v.toNat / 256 * 256 }) hen hact w.toNat).1) ?_
      exact answer_of_eq s _ hm rfl rfl
    · change hostCmd (pointerHi p v.toNat) s = _
      rw [hostCmd_reach hreach]
      refine Eq.trans (congrArg (answer s) (if_pos ?_)) (answer_of_eq s _ hm rfl rfl)
      simp [State.ringsDisabled, hact]
  · obtain ⟨src, n, last, held, k, hraise⟩ := raise_eq 37 s
    refine ⟨fun hlen => ?_, fun st hst => ⟨fun hbusy => ?_, fun hbusy => ?_⟩, fun st hlo hhi => ?_, ?_, fun hcore hlimp => ?_,
      fun tile item hm hbusy htile hitem hinbox => ?_, fun hlen hdma hen hmask => ?_⟩
    · refine completes_hostCmd (f := msixMod v.toNat) rfl hreach ?_
      exact msixMod_vecs s v hlen
    · refine completes_hostCmd (f := fun u => setFloor (st % 8) (raise 37 u)) rfl hreach ?_
      rw [hraise, Nat.mod_eq_of_lt (by omega)]
      exact setFloor_idle (s := { s with
        icu.src := src, icu.undCount := n, icu.undSrc := last, icu.heldEdges := held, clk.mergeIcu := k }) hbusy hst
    · refine completes_hostCmd (f := fun u => setFloor (st % 8) (raise 37 u)) rfl hreach ?_
      dsimp only
      rw [hraise, Nat.mod_eq_of_lt (by omega), setFloor_busy (s := { s with
        icu.src := src, icu.undCount := n, icu.undSrc := last, icu.heldEdges := held, clk.mergeIcu := k }) hbusy hst]
      exact ⟨rfl, rfl⟩
    · refine completes_hostCmd (f := fun u => setFloor (st % 8) (raise 37 u)) rfl hreach ?_
      rw [hraise, Nat.mod_eq_of_lt (by omega), setFloor, if_pos hlo]
    · refine completes_hostCmd (f := fun u => clearLimp (raise 37 u)) rfl hreach ?_
      dsimp only
      rw [hraise]
      exact clearLimp_spec { s with icu.src := src, icu.undCount := n, icu.undSrc := last, icu.heldEdges := held, clk.mergeIcu := k }
    · have hon : s.hostDomOn 2 = true := by simp [State.hostDomOn, State.domOn, hcore, hlimp]
      refine completes_hostCmd (f := fun u => if u.hostDomOn 2 then diagSel v.toNat u else offAccess 2 u) rfl hreach ?_
      dsimp only
      rw [if_pos hon]
      exact diagSel_spec v.toNat s
    · change execDiagFetchResult tile item v s = _
      rw [execDiagFetchResult, consume, hinbox]
      dsimp only
      refine Eq.trans (congrArg (answer s) (if_pos ?_)) (answer_of_eq s _ hm rfl rfl)
      simp [hbusy, htile, hitem]
    · refine completes_hostCmd (f := maskVector vec.val false) rfl hreach ?_
      exact maskVector_clear hlen hdma hen hmask vec
end

section
/-! The journal (10 R291 to R300): rules of its entries, of the bytes of its records, and the commands that complete in it. -/

namespace Sys2Proof.Machine

/-! ### Entries of the journal -/

theorem State.cmd_of_entry {s : State} {j : Nat} {e : JEntry} (h : s.entry j = some e) : e.cmd = j ∧ e.stage ≠ .retained := by
  simpa using List.find?_some h

/-- An entry after a change of it that keeps its number and does not retire it. -/
theorem State.entry_setEntry (s : State) (j : Nat) {f : JEntry → JEntry}
    (hf : ∀ e, e.cmd = j → e.stage ≠ .retained → (f e).cmd = j ∧ (f e).stage ≠ .retained) :
    (s.setEntry j f).entry j = (s.entry j).map f := by
  simp only [State.entry, State.setEntry, List.find?_map]
  have hsame : ((fun e : JEntry => e.cmd == j && e.stage != .retained) ∘ fun e => if e.cmd == j && e.stage != .retained then f e else e) =
      fun e => e.cmd == j && e.stage != .retained := by
    funext e
    dsimp only [Function.comp]
    split
    next he =>
      have he' : e.cmd = j ∧ e.stage ≠ .retained := by simpa using he
      obtain ⟨hcmd, hstage⟩ := hf e he'.1 he'.2
      rw [hcmd, he'.1, bne_iff_ne.mpr hstage, bne_iff_ne.mpr he'.2]
    next he => rfl
  rw [hsame]
  cases hfind : s.jrn.find? fun e => e.cmd == j && e.stage != .retained with
  | none => rfl
  | some e =>
    have he := List.find?_some hfind
    simp only [Option.map_some]
    rw [if_pos he]

/-- What a known entry becomes. -/
theorem State.entry_setEntry_some {s : State} {j : Nat} {e : JEntry} (h : s.entry j = some e) {f : JEntry → JEntry}
    (hf : ∀ e, e.cmd = j → e.stage ≠ .retained → (f e).cmd = j ∧ (f e).stage ≠ .retained) :
    (s.setEntry j f).entry j = some (f e) := by
  rw [s.entry_setEntry j hf, h, Option.map_some]

/-- States with one journal have the same entries. -/
theorem State.entry_of_jrn {s t : State} (h : t.jrn = s.jrn) (j : Nat) : t.entry j = s.entry j := by
  rw [State.entry, State.entry, h]

/-- An issued entry that is finished. -/
theorem finish_entry {s : State} {j : Nat} {e : JEntry} (h : s.entry j = some e) (hstage : e.stage = .issued) (code r0 r1 ctile : Nat) :
    (finish j code r0 r1 ctile s).entry j = some { e with
      stage := .applied, wait := .start, code := code, r0 := r0, r1 := r1, ctile := ctile, tiles := [] } := by
  refine (State.entry_setEntry_some h fun x hx hs => ?_).trans (by rw [if_pos hstage])
  split
  · exact ⟨hx, by simp⟩
  · exact ⟨hx, hs⟩

/-- A command that is ready is carried out. -/
theorem runCommand_ready {op j : Nat} {e : JEntry} {s : State} (h : Ready op j e s) (body : JEntry → State → State) :
    runCommand op j body s = answer s (body e s) := by
  obtain ⟨hentry, hstage, hwait, hop, hfw, hside, hmay, hcode⟩ := h
  rw [runCommand, hentry]
  dsimp only
  rw [if_neg (by simp [hstage, hwait, hop, hfw, hside, hmay]), hcode, if_neg (by simp)]

theorem completes_ready {i : Instr} {op j : Nat} {body : JEntry → State → State} {e : JEntry} {s : State}
    (hexec : exec i s = runCommand op j body s) (h : Ready op j e s) {P : State → Prop}
    (hP : P { body e s with pending := s.pending, mem := (body e s).mem.canon }) : Completes i s P :=
  completes_answer (hexec.trans (runCommand_ready h body)) hP

theorem exec_fence (j : Nat) (s : State) : exec (.fence j) s = runCommand 0x01 j (fun e u =>
    if !earlierPosted u j || !u.ringsOk || !u.flushOk then u
    else if u.host.relaxed then setWait j .fence (flushRead (u.rings.cpl.slot 16 e.cpl) u)
    else finish j 0 0 0 0 u) s := rfl

/-- Replay's end changes the rings only. -/
theorem endReplay_eq (s : State) : ∃ r d, endReplay s = { s with rings.replay := r, rings.dirty := d } := by
  unfold endReplay
  split
  · exact ⟨_, _, rfl⟩
  · exact ⟨s.rings.replay, s.rings.dirty, rfl⟩

/-- The count of a ring's record changes its vectors only. -/
theorem countRecord_eq (r : RingCfg) (s : State) : ∃ vs, countRecord r s = { s with host.vecs := vs } := by
  unfold countRecord
  split
  · exact ⟨s.host.vecs, rfl⟩
  · exact ⟨_, rfl⟩

theorem advanceCplPi_eq (n : Nat) (s : State) : ∃ w p d, advanceCplPi n s = { s with rings.cplWritten := w, rings.cplPi := p, rings.dirty := d } := by
  induction n generalizing s with
  | zero => exact ⟨s.rings.cplWritten, s.rings.cplPi, s.rings.dirty, rfl⟩
  | succ n ih =>
    rw [advanceCplPi]
    split
    · obtain ⟨w, p, d, h⟩ := ih { s with
        rings.cplWritten := s.rings.cplWritten.filter (· != s.rings.cplPi), rings.cplPi := add32 s.rings.cplPi 1, rings.dirty := true }
      exact ⟨w, p, d, h⟩
    · exact ⟨s.rings.cplWritten, s.rings.cplPi, s.rings.dirty, rfl⟩

/-- A completion that the host has not passed: one write, and the entry is POSTED (10 R300). -/
theorem writeCompletion_eq {s : State} {e : JEntry} (hci : later s.rings.cplCi e.cpl = false) :
    ∃ vs w p d, writeCompletion e s = { (hostWrite (s.rings.cpl.slot 16 e.cpl) (completionBytes s.rings.cpl e) (!e.d.dfence) s).setEntry e.cmd
      (fun x => { x with stage := .posted, redo := false }) with
        host.vecs := vs, rings.cplWritten := w, rings.cplPi := p, rings.dirty := d } := by
  unfold writeCompletion
  dsimp only
  obtain ⟨vs, h⟩ := countRecord_eq (hostWrite (s.rings.cpl.slot 16 e.cpl) (completionBytes s.rings.cpl e) (!e.d.dfence) s).rings.cpl
    (hostWrite (s.rings.cpl.slot 16 e.cpl) (completionBytes s.rings.cpl e) (!e.d.dfence) s)
  rw [h]
  split
  next hpassed => exact absurd (show later s.rings.cplCi e.cpl = true from hpassed) (by simp [hci])
  split
  · exact ⟨vs, s.rings.cplWritten, s.rings.cplPi, s.rings.dirty, rfl⟩
  · obtain ⟨w, p, d, h⟩ := advanceCplPi_eq 512 { (hostWrite (s.rings.cpl.slot 16 e.cpl) (completionBytes s.rings.cpl e) (!e.d.dfence) s).setEntry e.cmd
      (fun x => { x with stage := .posted, redo := false }) with host.vecs := vs, rings.cplWritten := s.rings.cplWritten ++ [e.cpl] }
    exact ⟨vs, w, p, d, h⟩

/-- A part sent again leaves as messages; of the journal only what the command still has to put out starts afresh. -/
theorem resend_eq (e : JEntry) (tile : Nat) (s : State) : ∃ c q x, resend e tile s =
    { s.setEntry e.cmd (fun x => { x with r1 := if x.d.opcode = 0x30 then 0 else x.r1 }) with crl := c, arr.queue := q, ctx := x } := by
  obtain ⟨c, q, hfwd⟩ := sendMsg_eq 1 tile (.cmd e.cmd e.d)
    (s.setEntry e.cmd (fun x => { x with r1 := if x.d.opcode = 0x30 then 0 else x.r1 }))
  unfold resend resendImage forward
  rw [hfwd]
  split
  · exact ⟨c, q, s.ctx, rfl⟩
  · split
    · split
      · obtain ⟨c', q', h⟩ := sendMsg_eq 2 tile _ _
        exact ⟨c', q', s.ctx, h⟩
      · exact ⟨c, q, s.ctx, rfl⟩
    · obtain ⟨c', q', h⟩ := sendMsg_eq 2 tile _ _
      exact ⟨c', q', s.ctx, h⟩

/-- The last part that fails ends the command with its code, if none failed before (10 R293). -/
theorem tilePart_last {s : State} {j tile code : Nat} {e : JEntry} (he : s.entry j = some e) (hstage : e.stage = .issued)
    (htiles : e.tiles = [tile]) (hcode : code ≠ 0) (hfirst : e.code = 0) :
    (tilePart j tile code 0 0 s).entry j = some { e with
      stage := .applied, wait := .start, code := code, r0 := if summed e.d.opcode then e.r0 else 0
      r1 := if summed e.d.opcode then e.r1 else 0, ctile := tile, tiles := [] } := by
  have hlower : (decide (code ≠ 0) && (decide (e.code = 0) || decide (tile < e.ctile))) = true := by simp [hcode, hfirst]
  have hnone : e.tiles.filter (· != tile) = [] := by simp [htiles]
  unfold tilePart
  rw [he]
  dsimp only
  rw [if_neg (by simp [hstage, htiles]), hnone, if_pos (by rfl), if_pos hlower, if_pos hlower]
  refine (finish_entry (State.entry_setEntry_some he fun x _ _ => ?_) ?_ _ _ _ _).trans ?_
  · obtain ⟨hcmd, hlive⟩ := State.cmd_of_entry he
    exact ⟨hcmd, hlive⟩
  · exact hstage
  · rw [hlower]
    simp only [Bool.true_or, if_true, Nat.add_zero]

/-- The fields of a completion (10 R291). -/
theorem completionBytes_fields (r : RingCfg) (e : JEntry) (htile : e.ctile < 64) :
    (completionBytes r e).length = 16 ∧ leAt (completionBytes r e) 0 2 = e.d.tag % 2 ^ 16 ∧
      leAt (completionBytes r e) 2 1 = e.d.opcode % 256 ∧ leAt (completionBytes r e) 3 1 = e.code % 256 ∧
      leAt (completionBytes r e) 4 4 = e.r0 % 2 ^ 32 ∧ leAt (completionBytes r e) 8 4 = e.r1 % 2 ^ 32 ∧
      leAt (completionBytes r e) 12 2 = e.cmd % 2 ^ 16 ∧ leAt (completionBytes r e) 14 1 = e.ctile ∧
      leAt (completionBytes r e) 15 1 = (if e.cpl / 2 ^ r.log2n % 2 = 0 then 128 else 0) := by
  have hlast : pack [(e.cmd % 65536, 0), (e.ctile, 16), (phaseOf r.log2n e.cpl, 31)] =
      e.cmd % 65536 + 65536 * e.ctile + 2 ^ 31 * phaseOf r.log2n e.cpl := by
    simp only [pack]
    omega
  have hphase : phaseOf r.log2n e.cpl = if e.cpl / 2 ^ r.log2n % 2 = 0 then 1 else 0 := by
    unfold phaseOf
    split <;> omega
  unfold completionBytes
  rw [hlast, hphase]
  split <;> refine ⟨rfl, ?_, ?_, ?_, ?_, ?_, ?_, ?_, ?_⟩ <;>
    simp only [leAt, leBytes, List.cons_append, List.nil_append, List.drop_succ_cons, List.drop_zero, List.take_succ_cons, List.take_zero,
      leNat, BitVec.toNat_ofNat] <;>
    omega

end Sys2Proof.Machine

open Sys2Proof Sys2Proof.Machine

/-- Settles O29: each command is ready, so it runs; what it leaves is read off the rules of the journal's entries. -/
theorem commandsCompleteThroughTheJournal : Obligations.CommandsCompleteThroughTheJournal := by
  refine ⟨fun j e s hready => ?_, fun j e s hready hring hearlier hflush => ⟨fun hro => ?_, fun hro => ?_⟩, fun j e s he hwait hstage => ?_,
    fun j e s he hstage hwait hring hfw hci hfence htile => ?_, fun j tile e s he hstage htile htiles hon => ⟨fun hidem hre => ?_, fun hidem hcode => ?_⟩⟩
  · exact completes_ready (i := .nop j) rfl hready (finish_entry hready.1 hready.2.1 0 0 0 0)
  · refine completes_ready (i := .fence j) (exec_fence j s) hready ?_
    dsimp only
    rw [if_neg (by simp [hearlier, hring, hflush]), if_pos hro]
    exact ⟨State.entry_setEntry_some (s := flushRead (s.rings.cpl.slot 16 e.cpl) s) (f := fun x => { x with wait := .fence }) hready.1
      fun x hx hs => ⟨hx, hs⟩, rfl⟩
  · refine completes_ready (i := .fence j) (exec_fence j s) hready ?_
    dsimp only
    rw [if_neg (by simp [hearlier, hring, hflush]), if_neg (by simp [hro])]
    exact ⟨congrArg (Option.map (·.stage)) (finish_entry hready.1 hready.2.1 0 0 0 0), rfl⟩
  · refine completes_answer (t := flushDone e s) ?_ ?_
    · change execFlushReadComplete j s = _
      rw [execFlushReadComplete, he]
      dsimp only
      rw [if_neg (by simp [hwait])]
    · obtain ⟨src, n, last, held, k, hraise⟩ := raise_eq 28 s
      obtain ⟨rfl, hlive⟩ := State.cmd_of_entry he
      rw [flushDone, hraise]
      dsimp only
      rw [if_pos hstage]
      exact finish_entry (State.entry_setEntry_some (s := { s with
        icu.src := src, icu.undCount := n, icu.undSrc := last, icu.heldEdges := held, clk.mergeIcu := k })
        (f := fun x => { x with flushed := true }) he fun x hx hs => ⟨hx, hs⟩) hstage 0 0 0 0
  · refine completes_answer (t := endReplay (writeCompletion e s)) ?_ ?_
    · change execCompletionPost j s = _
      rw [execCompletionPost, he]
      dsimp only
      rw [if_neg (by simp [hstage, hwait, hring, hfw]), if_neg]
      obtain h | h | h := hfence <;> simp [h]
    · obtain ⟨vs, w, p, d, hwrite⟩ := writeCompletion_eq (s := s) hci
      obtain ⟨r, d', hend⟩ := endReplay_eq (writeCompletion e s)
      obtain ⟨rfl, hlive⟩ := State.cmd_of_entry he
      rw [hend, hwrite]
      refine ⟨State.entry_setEntry_some (s := hostWrite (s.rings.cpl.slot 16 e.cpl) (completionBytes s.rings.cpl e) (!e.d.dfence) s)
        (f := fun x => { x with stage := .posted, redo := false }) he fun x hx _ => ⟨hx, by simp⟩, _, rfl, rfl, ?_⟩
      obtain ⟨hlen, htag, hop, hcode, hr0, hr1, hcmd, htile, hphase⟩ := completionBytes_fields s.rings.cpl e htile
      exact ⟨hlen, htag, hop, hcode, hr0, hr1, hcmd, htile, hphase, by simp [and_comm]⟩
  · have hpart : ∀ u : State, u.jrn = (s.setEntry j fun x => { x with resent := x.resent ++ [tile] }).jrn →
        ((resend e tile u).entry j).map (fun x => (x.stage, x.tiles, x.resent)) = some (.issued, [tile], e.resent ++ [tile]) := fun u hu => by
      obtain ⟨c, q, x, hresend⟩ := resend_eq e tile u
      obtain ⟨rfl, hlive⟩ := State.cmd_of_entry he
      rw [hresend]
      have hset := State.entry_setEntry_some (s := u) (f := fun x => { x with r1 := if x.d.opcode = 0x30 then 0 else x.r1 })
        ((State.entry_of_jrn hu e.cmd).trans (State.entry_setEntry_some (f := fun x => { x with resent := x.resent ++ [tile] }) he
          fun x hx hs => ⟨hx, hs⟩)) fun x hx hs => ⟨hx, hs⟩
      exact (congrArg (Option.map _) hset).trans (by rw [Option.map_some, hstage, htiles])
    refine completes_answer (t := resend e tile (s.setEntry j fun x => { x with resent := x.resent ++ [tile] })) ?_ (hpart _ rfl)
    change execForwardTimeout j tile s = _
    rw [execForwardTimeout, he]
    dsimp only
    rw [if_neg (by simp [hstage, htile, htiles, hon]), if_pos (by simp [hidem, hre])]
  · refine completes_answer (t := endMember j (tilePart j tile 0x08 0 0 s)) ?_ ?_
    · change execForwardTimeout j tile s = _
      rw [execForwardTimeout, he]
      dsimp only
      rw [if_neg (by simp [hstage, htile, htiles, hon]), if_neg]
      obtain h | h := hidem <;> simp [h]
    · refine (congrArg (Option.map _) (tilePart_last he hstage htiles (by decide) hcode)).trans ?_
      rfl
end

section
/-! Records and the host DMA engine (10 R289, R305 to R313): what each write to the host carries, and what is kept back. -/

namespace Sys2Proof.Machine

/-! ### The bytes of the records -/

theorem leNat_leBytes (n v : Nat) : leNat (leBytes n v) = v % 256 ^ n := by
  induction n generalizing v with
  | zero => simp [leBytes, leNat, Nat.mod_one]
  | succ n ih =>
    rw [leBytes, leNat, ih, pow_succ', Nat.mod_mul, BitVec.toNat_ofNat]

/-- The first of words laid one after another. -/
theorem leAt_word_first (v : Nat) (rest : List Byte) : leAt (leBytes 4 v ++ rest) 0 4 = v % 2 ^ 32 := by
  rw [leAt, List.drop_zero, List.take_append_of_le_length (by rw [length_leBytes]), List.take_of_length_le (by rw [length_leBytes]),
    leNat_leBytes]
  norm_num

/-- A field behind the first word. -/
theorem leAt_word_append (v o n : Nat) (rest : List Byte) : leAt (leBytes 4 v ++ rest) (o + 4) n = leAt rest o n := by
  rw [leAt, leAt, List.drop_append, List.drop_eq_nil_of_le (by rw [length_leBytes]; omega), List.nil_append, length_leBytes, Nat.add_sub_cancel]

/-- The fields of the status page (10 R289). -/
theorem statusBytes_fields (s : State) :
    (statusBytes s).length = 64 ∧ leAt (statusBytes s) 0 4 = s.rings.cmdCi % 2 ^ 32 ∧ leAt (statusBytes s) 8 4 = s.rings.cplPi % 2 ^ 32 ∧
      leAt (statusBytes s) 16 4 = s.rings.evtPi % 2 ^ 32 ∧ leAt (statusBytes s) 20 4 = s.epoch % 2 ^ 32 ∧
      leAt (statusBytes s) 24 4 = s.rings.heartbeat % 2 ^ 32 := by
  simp only [statusBytes, List.append_assoc]
  refine ⟨by simp [length_leBytes, zeros], leAt_word_first _ _, ?_, ?_, ?_, ?_⟩
  · rw [leAt_word_append _ 4, leAt_word_append _ 0, leAt_word_first]
  · rw [leAt_word_append _ 12, leAt_word_append _ 8, leAt_word_append _ 4, leAt_word_append _ 0, leAt_word_first]
  · rw [leAt_word_append _ 16, leAt_word_append _ 12, leAt_word_append _ 8, leAt_word_append _ 4, leAt_word_append _ 0, leAt_word_first]
  · rw [leAt_word_append _ 20, leAt_word_append _ 16, leAt_word_append _ 12, leAt_word_append _ 8, leAt_word_append _ 4,
      leAt_word_append _ 0, leAt_word_first]

/-- The fields of an event (10 R308). -/
theorem eventBytes_fields (r : RingCfg) {seq : Nat} (hseq : seq < 65536) (idx : Nat) (e : Ev) :
    (eventBytes r seq idx e).length = 16 ∧ leAt (eventBytes r seq idx e) 0 1 = e.code % 256 ∧ leAt (eventBytes r seq idx e) 2 2 = seq ∧
      leAt (eventBytes r seq idx e) 4 4 = e.epoch % 2 ^ 32 ∧ leAt (eventBytes r seq idx e) 8 4 = e.d0 % 2 ^ 32 := by
  unfold eventBytes
  refine ⟨rfl, ?_, ?_, ?_, ?_⟩ <;>
    simp only [leAt, leBytes, List.cons_append, List.nil_append, List.drop_succ_cons, List.drop_zero, List.take_succ_cons, List.take_zero,
      leNat, BitVec.toNat_ofNat] <;>
    omega

/-- The first word of a record that core 0 posts. -/
theorem postBytes_first (s : State) (log2n i : Nat) : leAt (postBytes s log2n i) 0 4 = (s.hdma.recs.getD 0 0).toNat := by
  have hlt := (s.hdma.recs.getD 0 0).isLt
  unfold postBytes
  simp only [leAt, leBytes, List.cons_append, List.drop_zero, List.take_succ_cons, List.take_zero, leNat, BitVec.toNat_ofNat]
  omega

/-! ### Status page and vectors -/

theorem sendDueVectors_eq (s : State) : ∃ vs l, sendDueVectors s = { s with host.vecs := vs, out.msix := l } := by
  unfold sendDueVectors
  refine foldl_chains (r := fun s t => ∃ vs l, t = { s with host.vecs := vs, out.msix := l }) (fun s => ⟨s.host.vecs, s.out.msix, rfl⟩) ?_
    (fun t v => ?_) _ s
  · rintro s t u ⟨vs, l, rfl⟩ ⟨vs', l', rfl⟩
    exact ⟨vs', l', rfl⟩
  · dsimp only
    split
    · exact sendVector_eq v t
    · exact ⟨t.host.vecs, t.out.msix, rfl⟩

/-- A status page that may go out is one write, and the vectors due follow it (10 R289, R312). -/
theorem writeStatusPage_eq {s : State} (hring : s.ringsOk = true) : ∃ vs l, writeStatusPage false s =
    { hostWrite s.host.stpg (statusBytes s) false s with rings.dirty := false, host.vecs := vs, out.msix := l } := by
  obtain ⟨vs, l, h⟩ := sendDueVectors_eq { hostWrite s.host.stpg (statusBytes s) false s with rings.dirty := false }
  exact ⟨vs, l, by rw [writeStatusPage, if_neg (by simp [hring])]; exact h⟩

/-- The page of DRONE counts its beat first. -/
theorem writeStatusPage_beat {s : State} (hring : s.ringsOk = true) :
    writeStatusPage true s = writeStatusPage false { s with rings.heartbeat := cnt 32 s.rings.heartbeat 1 } := by
  rw [writeStatusPage, if_neg (by simp [hring]), writeStatusPage]
  exact (if_neg (show ¬(!s.ringsOk) = true by simp [hring])).symm

/-! ### Reports -/

/-- A report written is two writes, its records first (10 R305). -/
theorem writeReport_eq (postUs : Nat) (r : RptImg) (s : State) : ∃ (vs : List Vec) (ovr : List Nat) (b1 b2 : List Byte), writeReport postUs r s = { s with
    rings.rptPi := add32 s.rings.rptPi 1, rings.dirty := true, rpt.overrun := ovr, host.vecs := vs
    out.writes := s.out.writes ++ [{ addr := s.rings.rpt.slot 2112 s.rings.rptPi + 64, data := b1, ro := true && s.host.relaxed },
      { addr := s.rings.rpt.slot 2112 s.rings.rptPi, data := b2, ro := false && s.host.relaxed }] } := by
  unfold writeReport
  dsimp only
  generalize patch _ 0x3C _ = img
  generalize hu : hostWrite (s.rings.rpt.slot 2112 s.rings.rptPi) (img.take 64) false
    (hostWrite (s.rings.rpt.slot 2112 s.rings.rptPi + 64) (img.drop 64) true s) = u
  obtain ⟨vs, h⟩ := countRecord_eq s.rings.rpt { u with
    rings.rptPi := add32 s.rings.rptPi 1, rings.dirty := true, rpt.overrun := u.rpt.overrun.filter (· != r.tile) }
  refine ⟨vs, u.rpt.overrun.filter (· != r.tile), img.drop 64, img.take 64, h.trans ?_⟩
  rw [← hu]
  simp only [hostWrite, List.append_assoc, List.cons_append, List.nil_append]

/-- A report that finds the hold empty is held (10 R306). -/
theorem holdReport_empty {r : RptImg} {s : State} (hhold : s.rpt.hold = []) (hroot : s.isRoot = true) (hrec : r.nrec ≤ 960) :
    ∃ m : Memory, holdReport r s = { s with rpt.hold := [r], mem := m } := by
  obtain ⟨m, h⟩ := storeHold_eq { s with rpt.hold := [r] }
  refine ⟨m, ?_⟩
  unfold holdReport
  dsimp only
  rw [hhold, if_pos (by rfl), trimHold, if_pos]
  · rw [hhold]
    exact h
  · rw [hhold, holdFits]
    exact (if_pos hroot).trans (by simp [hrec])

/-! ### The engine -/

/-- GO starts a job within the SRAMs while DMA is permitted (10 R313). -/
theorem hdmaCtl_starts {s : State} {v : Word} (hbusy : s.hdma.busy = false) (hgo : v.getLsbD 0 = true) (hdma : s.dmaOk = true)
    (hram : inSram s.hdma.laddr s.hdma.len = true) :
    hdmaCtl v.toNat s = { s with
      hdma.dir := bit v.toNat 1, hdma.flush := bit v.toNat 2, hdma.ro := bit v.toNat 3
      hdma.done := s.hdma.done && !bit v.toNat 5, hdma.busy := true } := by
  unfold hdmaCtl
  rw [if_neg (by simp [bit_eq_getLsbD, hgo, hbusy])]
  exact if_neg (show ¬(!inSram s.hdma.laddr s.hdma.len || !s.dmaOk) = true by simp [hram, hdma])

/-- What a job leaves when it ends. -/
theorem endJob_eq (result moved : Nat) (s : State) : ∃ i k, endJob result moved s = { s with
    hdma.busy := false, hdma.done := true, hdma.result := result, hdma.xfer := moved, icu := i, clk.mergeIcu := k } := by
  obtain ⟨src, n, last, held, k, h⟩ := raise_eq 28 { s with
    hdma.busy := false, hdma.done := true, hdma.result := result, hdma.xfer := moved }
  exact ⟨_, k, h⟩

/-- A job to the host that nothing stops has written its bytes; a flush may follow. -/
theorem execHdmaJobDone_write {e : HdmaEnd} {s : State} (hbusy : s.hdma.busy = true) (hdma : s.dmaOk = true) (hres : e.result = 0)
    (hdir : s.hdma.dir = true) : ∃ fl, execHdmaJobDone e s = answer s (endJob 0 s.hdma.len
      { hostWrite (s.hdma.haddrHi.toNat * 2 ^ 32 + s.hdma.haddrLo.toNat) (s.mem.read s.hdma.laddr s.hdma.len) s.hdma.ro s with
        out.flushes := fl }) := by
  unfold execHdmaJobDone
  rw [if_neg (by simp [hbusy, hres])]
  dsimp only
  rw [hdma, hdir, hres]
  simp only [if_true]
  split
  · exact ⟨_, rfl⟩
  · exact ⟨s.out.flushes, rfl⟩

/-- A job from the host that nothing stops has moved its bytes into memory. -/
theorem execHdmaJobDone_read {e : HdmaEnd} {s : State} (hbusy : s.hdma.busy = true) (hdma : s.dmaOk = true) (hres : e.result = 0)
    (hdir : s.hdma.dir = false) :
    execHdmaJobDone e s = answer s (endJob 0 s.hdma.len (s.put s.hdma.laddr (padTo s.hdma.len e.data))) := by
  unfold execHdmaJobDone
  rw [if_neg (by simp [hbusy, hres])]
  dsimp only
  rw [hdma, hdir, hres]
  rfl

theorem length_padTo (n : Nat) (bs : List Byte) : (padTo n bs).length = n := by simp [padTo, zeros]

theorem getD_padTo {n i : Nat} (h : i < n) (bs : List Byte) : (padTo n bs).getD i 0 = bs.getD i 0 := by
  simp only [padTo, zeros, List.getD_eq_getElem?_getD, List.getElem?_take_of_lt h, List.getElem?_append]
  split
  next => rfl
  next hout =>
    rw [List.getElem?_eq_none (Nat.not_lt.mp hout), List.getElem?_replicate, if_pos (by omega)]
    rfl

/-- A post to the EVT ring that finds room begins (10 R313). -/
theorem hdmaPost_starts {s : State} {v : Word} (hbusy : s.hdma.pbusy = false) (hgo : v.getLsbD 3 = true) (hring : s.ringsOk = true)
    (hev : v.toNat % 8 = 4) (hroom : s.evtRoom = true) : ∃ fl, hdmaPost v.toNat s = { s with
      hdma.ring := 4, hdma.afterFlush := bit v.toNat 5, hdma.index := fld v.toNat 16 16, hdma.pbusy := true, out.flushes := fl } := by
  have hring4 : fld v.toNat 0 3 = 4 := by simpa [fld] using hev
  unfold hdmaPost
  rw [if_neg (by simp [hbusy]), hring4, if_pos (show (4 = 1 ∨ 4 = 4) from .inr rfl)]
  dsimp only
  rw [if_neg (by simp [bit_eq_getLsbD, hgo])]
  split
  next hoff => exact absurd (show (!s.ringsOk) = true from hoff) (by simp [hring])
  split
  next hfull =>
    exact absurd (show (decide (4 = 4) && !s.evtRoom) = true from hfull) (by simp [hroom])
  split
  · exact ⟨_, rfl⟩
  · exact ⟨s.out.flushes, rfl⟩

/-- A posted event is one write, and joins core 0's buffer (10 R313, log entry 131). -/
theorem postRecord_event {s : State} (hring : s.hdma.ring = 4) (hbuf : s.evt.buf.length < 64) : ∃ ev vs, postRecord s = { s with
    out.writes := s.out.writes ++ [{ addr := s.rings.evt.slot 16 s.rings.evtPi, data := postBytes s s.rings.evt.log2n s.rings.evtPi
                                     ro := false && s.host.relaxed }]
    rings.evtPi := add32 s.rings.evtPi 1, rings.dirty := true, evt := ev, host.vecs := vs } := by
  have hindex : postIndex s = s.rings.evtPi := by rw [postIndex, if_pos hring]
  unfold postRecord
  dsimp only
  rw [hindex, if_pos hring, if_neg (by omega)]
  exact ⟨_, countRecord_eq _ _ |>.choose, countRecord_eq _ _ |>.choose_spec⟩

end Sys2Proof.Machine

open Sys2Proof Sys2Proof.Machine

/-- Settles O30: each record is the write its rule names, and what the vectors and counts then do leaves the writes. -/
theorem recordsAndDmaLeaveInOrder : Obligations.RecordsAndDmaLeaveInOrder := by
  refine ⟨fun s hring => ⟨fun hdirty => ?_, fun hdrone => ?_, fun e he hseq hfw => ⟨fun hroom => ?_, fun hm hfull => ?_⟩,
    fun r rest us hhold hdue => ⟨fun hroom => ?_, fun hfull hroot hrec => ?_⟩, fun vec hlen huns hlim hdirty hmasked hen hmask => ?_⟩,
    fun s hm => ⟨fun v hcore hclk hside hbusy hgo hdma hram => ?_, fun e hbusy hdma hres => ?_,
      fun v hcore hclk hside hbusy hgo hring hev hroom => ?_, fun hbusy hring hev hbuf => ?_⟩⟩
  · obtain ⟨vs, l, hpage⟩ := writeStatusPage_eq hring
    obtain ⟨hlen, hcmd, hcpl, hevt, hepoch, -⟩ := statusBytes_fields s
    refine completes_answer (t := writeStatusPage false s) ?_ ?_
    · change execStatusPageWrite s = _
      rw [execStatusPageWrite, if_pos (by simp [hdirty])]
    rw [hpage]
    exact ⟨rfl, rfl, _, rfl, rfl, hlen, rfl, hcmd, hcpl, hevt, hepoch⟩
  · let u : State := { s with rings.heartbeat := cnt 32 s.rings.heartbeat 1 }
    obtain ⟨vs, l, hpage⟩ := writeStatusPage_eq (s := u) hring
    obtain ⟨-, -, -, -, -, hbeat⟩ := statusBytes_fields u
    refine completes_answer (t := writeStatusPage true s) ?_ ?_
    · change execStatusPageTimer s = _
      rw [execStatusPageTimer, if_pos hdrone]
    rw [writeStatusPage_beat hring, hpage]
    refine ⟨rfl, _, rfl, rfl, hbeat.trans (Nat.mod_eq_of_lt ?_)⟩
    exact Nat.lt_of_le_of_lt (Nat.min_le_right _ _) (by decide)
  · have hroom' : s.evtRoom = true := decide_eq_true hroom
    obtain ⟨hlen, hcode, hseq', hepoch, hd0⟩ := eventBytes_fields s.rings.evt hseq s.rings.evtPi e
    let w := hostWrite (s.rings.evt.slot 16 s.rings.evtPi) (eventBytes s.rings.evt s.evt.seq s.rings.evtPi e) false s
    obtain ⟨vs, hcount⟩ := countRecord_eq s.rings.evt { w with
      evt.written := w.evt.written + 1, evt.seq := (w.evt.seq + 1) % 65536, rings.evtPi := add32 w.rings.evtPi 1, rings.dirty := true }
    refine completes_answer (t := countRecord s.rings.evt { w with
      evt.written := w.evt.written + 1, evt.seq := (w.evt.seq + 1) % 65536, rings.evtPi := add32 w.rings.evtPi 1, rings.dirty := true }) ?_ ?_
    · change execEventWrite s = _
      rw [execEventWrite, if_neg (by simp [hring, hfw]), he]
      dsimp only
      rw [if_neg (by simp [hroom'])]
    rw [hcount]
    exact ⟨rfl, rfl, rfl, _, rfl, rfl, hlen, hcode, hseq', hepoch, hd0⟩
  · have hfull' : s.evtRoom = false := decide_eq_false (Nat.not_lt.mpr hfull)
    have hexec : exec .eventWrite s = answer s (pollDoorbell s) := by
      change execEventWrite s = _
      rw [execEventWrite, if_neg (by simp [hring, hfw]), he]
      dsimp only
      rw [if_pos (by simp [hfull'])]
    refine ⟨fun hnot => ?_, fun hin => ?_⟩
    · rw [hexec, pollDoorbell, if_neg (by simp [hring]), if_neg (by simpa using hnot)]
      exact answer_of_eq s _ hm rfl rfl
    · rw [hexec, pollDoorbell, if_neg (by simp [hring]), if_pos (by simpa using hin)]
      exact answer_of_eq s _ hm rfl rfl
  · have hroom' : s.rptRoom = true := decide_eq_true hroom
    obtain ⟨vs, ovr, b1, b2, hwrite⟩ := writeReport_eq us r { s with rpt.due := rest }
    refine completes_answer (t := writeReport us r { s with rpt.due := rest }) ?_ ?_
    · change execReportPost us s = _
      rw [execReportPost, if_pos (by simp [hring, hroom']), hhold, hdue]
      rfl
    rw [hwrite]
    exact ⟨rfl, hhold, rfl, _, _, rfl, rfl, rfl, rfl⟩
  · have hfull' : s.rptRoom = false := decide_eq_false (Nat.not_lt.mpr hfull)
    obtain ⟨m, hhold⟩ := holdReport_empty (r := r) (s := { s with rpt.due := rest }) hhold hroot hrec
    obtain ⟨reads, b, hpoll, -⟩ := pollDoorbell_eq { s with rpt.due := rest, rpt.hold := [r], mem := m }
    refine completes_answer (t := pollDoorbell { s with rpt.due := rest, rpt.hold := [r], mem := m }) ?_ ?_
    · change execReportPost us s = _
      rw [execReportPost, if_neg (by simp [hfull']), hdue]
      dsimp only
      rw [hhold]
      exact congrArg (answer s) (if_pos hring)
    rw [hpoll]
    exact ⟨rfl, rfl, rfl⟩
  · refine completes_answer (t := sendVector vec.val { s with host.vecs := s.host.vecs.modify vec.val fun x => { x with due := true } }) ?_ ?_
    · change execMsixTimeLimit vec s = _
      unfold execMsixTimeLimit
      dsimp only
      rw [if_neg (by simpa using ⟨huns, hlim⟩), if_neg (by simp [hdirty])]
    · have hk : vec.val < s.host.vecs.length := by omega
      have hdma : s.dmaOk = true := by
        simp only [State.ringsOk, Bool.and_eq_true] at hring
        exact hring.2
      rw [sendVector_sends (s := { s with host.vecs := s.host.vecs.modify vec.val fun x => { x with due := true } }) hdma hen hmask
        (by dsimp only; rw [getD_modify_of_lt _ hk, if_pos rfl]; exact hmasked)]
      refine ⟨rfl, ?_⟩
      dsimp only
      rw [getD_modify_of_lt _ (by simpa using hk), if_pos rfl]
  · refine completes_answer (t := hdmaCtl v.toNat s) ?_ ?_
    · change execHdmaJobStart v s = _
      rw [execHdmaJobStart, offStore, if_pos (by simp [hcore, hclk, hside])]
    rw [hdmaCtl_starts hbusy hgo hdma hram]
    exact ⟨rfl, bit_eq_getLsbD v 1, rfl⟩
  · cases hdir : s.hdma.dir with
    | true =>
      obtain ⟨fl, hexec⟩ := execHdmaJobDone_write hbusy hdma hres hdir
      obtain ⟨i, k, hend⟩ := endJob_eq 0 s.hdma.len { hostWrite (s.hdma.haddrHi.toNat * 2 ^ 32 + s.hdma.haddrLo.toNat)
        (s.mem.read s.hdma.laddr s.hdma.len) s.hdma.ro s with out.flushes := fl }
      refine completes_answer (i := .hdmaJobDone e) hexec ?_
      rw [hend]
      exact ⟨rfl, rfl, rfl, rfl, fun _ => ⟨Memory.canon_of_wf _ hm, rfl⟩, fun h => absurd h (by decide)⟩
    | false =>
      obtain ⟨i, k, hend⟩ := endJob_eq 0 s.hdma.len (s.put s.hdma.laddr (padTo s.hdma.len e.data))
      refine completes_answer (i := .hdmaJobDone e) (execHdmaJobDone_read hbusy hdma hres hdir) ?_
      rw [hend]
      refine ⟨rfl, rfl, rfl, rfl, fun h => absurd h (by decide), fun _ => ⟨rfl, fun i hi => ?_, fun x hx => ?_⟩⟩
      · refine (Memory.byte_canon _ _).trans ((Memory.byte_write_inside s.mem _ _ ?_).trans (getD_padTo hi e.data))
        rw [length_padTo]
        exact hi
      · refine (Memory.byte_canon _ _).trans (Memory.byte_write_outside s.mem ?_)
        rw [length_padTo]
        exact hx
  · obtain ⟨fl, hpost⟩ := hdmaPost_starts hbusy hgo hring hev (decide_eq_true hroom)
    refine completes_answer (t := hdmaPost v.toNat s) ?_ ?_
    · change execHdmaPost v s = _
      rw [execHdmaPost, offStore, if_pos (by simp [hcore, hclk, hside])]
    rw [hpost]
    exact ⟨rfl, rfl, rfl⟩
  · refine completes_answer (t := { postRecord { s with hdma.presult := 0 } with hdma.pbusy := false }) ?_ ?_
    · change execHdmaPostDone true s = _
      rw [execHdmaPostDone, if_neg (by simp [hbusy]), if_pos (by simp [hring])]
    obtain ⟨ev, vs, hpost⟩ := postRecord_event (s := { s with hdma.presult := 0 }) hev hbuf
    rw [hpost]
    exact ⟨rfl, rfl, rfl, _, rfl, rfl, postBytes_first _ _ _⟩
end

section
/-! The interrupt unit (14 R392 to R407): arrivals, completions and the registers, source by source. -/

namespace Sys2Proof.Machine

/-! ### Sources -/

/-- A change of one source is what it makes of that source. -/
theorem State.setSrc_congr {s : State} {n : Nat} (hn : n < s.icu.src.length) {f g : Src → Src} (h : f (s.srcAt n) = g (s.srcAt n)) :
    s.setSrc n f = s.setSrc n g := by
  have hlist : s.icu.src.modify n f = s.icu.src.modify n g := by
    have hat : s.srcAt n = s.icu.src[n] := by simp [State.srcAt, List.getD_eq_getElem?_getD, hn]
    refine List.ext_getElem? fun i => ?_
    simp only [List.getElem?_modify]
    by_cases hi : n = i
    · subst hi
      rw [List.getElem?_eq_getElem hn, ← hat]
      simp [h]
    · simp [hi]
  rw [State.setSrc, hlist]
  rfl

theorem State.setSrc_const {s : State} {n : Nat} (hn : n < s.icu.src.length) {x : Src} {g : Src → Src} (h : x = g (s.srcAt n)) :
    s.setSrc n (fun _ => x) = s.setSrc n g := State.setSrc_congr hn h

/-- An arrival of a source that a core can take is its coalescing stage and no more. -/
theorem arrive_deliverable {s : State} {n : Nat} (hn : n < s.icu.src.length) (h : s.undeliverable n (s.srcAt n) = false) :
    arrive n s = s.setSrc n (fun _ => ((s.srcAt n).arrival).1) := by
  obtain ⟨-, -, -, -, -, htarget, hfallback, -⟩ := (s.srcAt n).arrival_frame
  have hsrc := State.srcAt_setSrc s n (fun _ => ((s.srcAt n).arrival).1) n hn
  rw [if_pos rfl] at hsrc
  unfold arrive
  dsimp only
  split
  · unfold countUndeliverable
    dsimp only
    rw [hsrc]
    refine if_neg ?_
    have : (s.setSrc n (fun _ => ((s.srcAt n).arrival).1)).undeliverable n ((s.srcAt n).arrival).1 = s.undeliverable n (s.srcAt n) := by
      unfold State.undeliverable
      rw [htarget, hfallback]
      rfl
    rw [this, h]
    simp
  · rfl

/-- Folding a change over the sources of a register half changes those sources, each once. -/
theorem foldl_srcAt {g : State → Nat → State} {F : Nat → Src → Src} {base bound : Nat}
    (hg : ∀ t i, t.icu.src.length = 48 → (g t i).icu.src.length = 48 ∧
      ∀ m, m < bound → (g t i).srcAt m = if m = base + i then F i (t.srcAt m) else t.srcAt m)
    (k : Nat) {s : State} (hlen : s.icu.src.length = 48) :
    ((List.range k).foldl g s).icu.src.length = 48 ∧
      ∀ m, m < bound → ((List.range k).foldl g s).srcAt m = if base ≤ m ∧ m < base + k then F (m - base) (s.srcAt m) else s.srcAt m := by
  induction k with
  | zero => exact ⟨hlen, fun m _ => by rw [if_neg (by omega)]; rfl⟩
  | succ k ih =>
    obtain ⟨hlen', hsrc⟩ := ih
    rw [List.range_succ, List.foldl_append, List.foldl_cons, List.foldl_nil]
    obtain ⟨hlen'', hstep⟩ := hg _ k hlen'
    refine ⟨hlen'', fun m hm => ?_⟩
    rw [hstep m hm, hsrc m hm]
    by_cases heq : m = base + k
    · subst heq
      rw [if_pos rfl, if_neg (by omega), if_pos (by omega), Nat.add_sub_cancel_left]
    · rw [if_neg heq]
      refine ite_congr (propext (by omega)) (fun _ => rfl) fun _ => rfl

/-- An arrival that does not make its source pending. -/
theorem arrive_quiet {s : State} {n : Nat} (h : (s.srcAt n).arrival.2 = false) : arrive n s = s.setSrc n (fun _ => ((s.srcAt n).arrival).1) := by
  unfold arrive
  dsimp only
  rw [h]
  rfl

theorem Src.arrival_pending {r : Src} (h : r.pend = true) : r.arrival = ({ r with arr := cnt 4 r.arr 1 }, false) := by
  unfold Src.arrival
  dsimp only
  rw [if_pos h]

theorem Src.arrival_counts {r : Src} (h : r.pend = false) (hc : r.c + 1 < r.ccount) :
    r.arrival = ({ r with arr := cnt 4 r.arr 1, c := r.c + 1 }, false) := by
  unfold Src.arrival
  dsimp only
  rw [if_neg (by simp [h]), if_neg (by omega)]

theorem Src.arrival_full {r : Src} (h : r.pend = false) (hc : r.ccount ≤ r.c + 1) :
    r.arrival = ({ r with arr := cnt 4 r.arr 1, pend := true, c := 0, arrived0 := true, arrived1 := true }, true) := by
  unfold Src.arrival
  dsimp only
  rw [if_neg (by simp [h]), if_pos hc]

/-- A source that becomes pending and that no core can take is counted, and raises source 47 (14 R396). -/
theorem countUndeliverable_counts {s : State} {n : Nat} (h : s.undeliverable n (s.srcAt n) = true) (hmask : (s.srcAt n).mask = false)
    (hprio : (s.srcAt n).prio ≠ 0) :
    countUndeliverable n s = arriveUndeliv { s with icu.undCount := cnt 8 s.icu.undCount 1, icu.undSrc := n } := by
  unfold countUndeliverable
  dsimp only
  rw [if_pos (by simp [h, hmask, hprio])]

theorem countUndeliverable_deliverable {s : State} {n : Nat} (h : s.undeliverable n (s.srcAt n) = false) : countUndeliverable n s = s := by
  unfold countUndeliverable
  dsimp only
  rw [if_neg (by simp [h])]

/-- Core 1's part in deliverability is not the sources'. -/
theorem State.undeliverable_setSrc (s : State) (k n : Nat) (f : Src → Src) (r : Src) :
    (s.setSrc k f).undeliverable n r = s.undeliverable n r := rfl

/-- An arrival that no core can take. -/
theorem arrive_undeliverable {s : State} {n : Nat} (hn : n < s.icu.src.length) (hp : (s.srcAt n).pend = false)
    (hc : (s.srcAt n).ccount ≤ (s.srcAt n).c + 1) (hund : s.undeliverable n (s.srcAt n) = true) (hmask : (s.srcAt n).mask = false)
    (hprio : (s.srcAt n).prio ≠ 0) :
    arrive n s = arriveUndeliv { s.setSrc n (fun r => { r with
      arr := cnt 4 r.arr 1, pend := true, c := 0, arrived0 := true, arrived1 := true }) with
        icu.undCount := cnt 8 s.icu.undCount 1, icu.undSrc := n } := by
  have hsrc := State.srcAt_setSrc s n (fun r => { r with
    arr := cnt 4 r.arr 1, pend := true, c := 0, arrived0 := true, arrived1 := true }) n hn
  rw [if_pos rfl] at hsrc
  unfold arrive
  rw [Src.arrival_full hp hc]
  dsimp only
  rw [if_pos rfl, State.setSrc_const hn (g := fun r => { r with
    arr := cnt 4 r.arr 1, pend := true, c := 0, arrived0 := true, arrived1 := true }) rfl, countUndeliverable_counts]
  · rfl
  · rw [hsrc]
    exact hund
  · rw [hsrc]
    exact hmask
  · rw [hsrc]
    exact hprio

/-- While CLK_BUS is stopped the crossing holds one request, and one more for those that merge behind it (15 R419). -/
theorem raise_held {s : State} {n : Nat} (hclk : s.clk.core = false) (hreset : s.coreInReset = false) :
    let held := (s.icu.heldEdges.filter (fun m => m == n)).length
    (held = 0 → raise n s = { s with icu.heldEdges := s.icu.heldEdges ++ [n] }) ∧
    (held = 1 → raise n s = { s with icu.heldEdges := s.icu.heldEdges ++ [n], clk.mergeIcu := cnt 8 s.clk.mergeIcu 1 }) ∧
    (2 ≤ held → raise n s = { s with clk.mergeIcu := cnt 8 s.clk.mergeIcu 1 }) := by
  rw [raise, if_neg (by simp [hclk]), if_neg (by simp [hreset])]
  refine ⟨fun h => ?_, fun h => ?_, fun h => ?_⟩
  · rw [if_neg (by omega), if_pos h]
  · rw [if_neg (by omega), if_neg (by omega)]
  · rw [if_pos h, if_neg (by omega)]

/-- An edge of an event line is an arrival while CLK_BUS runs. -/
theorem exec_sourceArrival {n : Fin 48} {s : State} (h3 : n.val ≠ 3) (h4 : n.val ≠ 4) :
    exec (.sourceArrival n) s = answer s (raise n.val s) := by
  change execSourceArrival n s = _
  rw [execSourceArrival, if_neg (by omega)]

/-- What the interrupt unit alone has changed is a next state. -/
theorem answer_setSrc {s : State} (hm : s.memOk) (n : Nat) (f : Src → Src) : answer s (s.setSrc n f) = .next (s.setSrc n f) :=
  answer_of_eq s _ hm rfl rfl

/-- A count that has run out acts once. -/
theorem exec_coalesceTimeout {n : Fin 48} {s : State} (hclk : s.clk.core = true) (hc : (s.srcAt n.val).c ≠ 0) (ht : (s.srcAt n.val).ctime ≠ 0) :
    exec (.coalesceTimeout n) s = answer s (coalesced n.val s) := by
  change execCoalesceTimeout n s = _
  unfold execCoalesceTimeout
  dsimp only
  rw [if_pos (by simp [hclk, hc, ht])]

/-! ### Completions -/

/-- A store that its register grants. -/
theorem coreStore_may {c : CoreId} {s : State} (hrun : s.canRun c = true) {may : Bool} (hmay : may = true) (ea : Nat) (f : State → State) :
    coreStore c may ea f s = answer s (f s) := by
  rw [coreStore, if_neg (by simp [hrun]), if_pos hmay]

/-- A store that its register does not grant (12 R343). -/
theorem coreStore_refused {c : CoreId} {s : State} (hrun : s.canRun c = true) {may : Bool} (hmay : may = false) (ea : Nat) (f : State → State) :
    coreStore c may ea f s = answer s (faultAt c 0x02 (BitVec.ofNat 32 ea) s) := by
  rw [coreStore, if_neg (by simp [hrun]), if_neg (by simp [hmay])]

/-- Core 1 completes for itself only. -/
theorem coreId_grant {core c : CoreId} (h : core = .c0 ∨ c = .c1) : (core == .c0 || c == .c1) = true := by
  obtain rfl | rfl := h
  · rfl
  · cases core <;> rfl

theorem exec_icuDone {core c : CoreId} {n : Fin 48} {s : State} (hrun : s.canRun core = true) (hmay : core = .c0 ∨ c = .c1) :
    exec (.icuDone core c n.val) s = answer s (complete core c n.val s) := by
  change coreStore core _ _ (complete core c (n.val % 64)) s = _
  rw [coreStore_may hrun (coreId_grant hmay), Nat.mod_eq_of_lt (by omega)]

theorem complete_owned {w c : CoreId} {n : Nat} {s : State} (hn : n < 48) (hact : (s.srcAt n).act = true) (hown : (s.srcAt n).own = (c == .c1)) :
    complete w c n s = s.setSrc n (fun r => { r with act := false, own := false }) := by
  unfold complete
  dsimp only
  rw [if_pos (by simp [hn, hact, hown])]

theorem complete_bad {w c : CoreId} {n : Nat} {s : State} (h : (s.srcAt n).act = false ∨ (s.srcAt n).own ≠ (c == .c1)) :
    complete w c n s = { s with icu.badCount := cnt 8 s.icu.badCount 1, icu.badSrc := n, icu.badCore := w == .c1 } := by
  unfold complete
  dsimp only
  rw [if_neg]
  obtain h | h := h <;> simp [h]

theorem completeAll_srcAt (c : CoreId) {s : State} {m : Nat} (hm : m < s.icu.src.length) :
    (completeAll c s).srcAt m = if (s.srcAt m).act = true ∧ (s.srcAt m).own = (c == .c1)
      then { s.srcAt m with act := false, own := false } else s.srcAt m := by
  simp only [completeAll, State.srcAt, List.getD_eq_getElem?_getD, List.getElem?_map, List.getElem?_eq_getElem hm, Option.map_some,
    Option.getD_some, Bool.and_eq_true, beq_iff_eq]

/-! ### Pending bits -/

theorem clearArrived_eq (c : CoreId) (x : Nat) (s : State) : ∃ src, clearArrived c x s = { s with icu.src := src } := by
  unfold clearArrived
  refine foldl_chains (r := fun s t => ∃ src, t = { s with icu.src := src }) (fun s => ⟨s.icu.src, rfl⟩) ?_ (fun t i => ⟨_, rfl⟩) _ s
  rintro s t u ⟨src, rfl⟩ ⟨src', rfl⟩
  exact ⟨src', rfl⟩

/-- A source whose arrived bit for core `c` is cleared. -/
def arrivedCleared (c : CoreId) (r : Src) : Src :=
  match c with
  | .c0 => { r with arrived0 := false }
  | .c1 => { r with arrived1 := false }

theorem clearArrived_folds (c : CoreId) (x : Nat) (s : State) :
    clearArrived c x s = (List.range 32).foldl (fun t i => t.setSrc (32 * x + i) (arrivedCleared c)) s := by
  cases c <;> rfl

/-- A load of `ICU_PENDx` clears the arrived bits of its half for the core that loads (14 R404). -/
theorem clearArrived_srcAt (c : CoreId) (x : Fin 2) {s : State} (hlen : s.icu.src.length = 48) {m : Nat} (hm : m < 48) :
    (clearArrived c x.val s).srcAt m = if m / 32 = x.val then arrivedCleared c (s.srcAt m) else s.srcAt m := by
  rw [clearArrived_folds]
  refine ((foldl_srcAt (g := fun t i => t.setSrc (32 * x.val + i) (arrivedCleared c)) (F := fun _ => arrivedCleared c)
    (base := 32 * x.val) (bound := 48) (fun t i ht => ?_) 32 hlen).2 m hm).trans ?_
  · refine ⟨by rw [State.setSrc_length]; exact ht, fun m hm => ?_⟩
    by_cases heq : m = 32 * x.val + i
    · rw [State.srcAt_setSrc _ _ _ _ (by omega), if_pos heq, if_pos heq, heq]
    · rw [State.srcAt_setSrc_ne _ heq, if_neg heq]
  · exact ite_congr (propext (by omega)) (fun _ => rfl) fun _ => rfl

/-- What a store to `ICU_PENDx` makes of one source (14 R404, R406). -/
def pendWritten (c : CoreId) (b : Bool) (r : Src) : Src :=
  if c = .c0 ∨ r.target = true then { r with pend := b || (r.pend && (match c with
    | .c0 => r.arrived0
    | .c1 => r.arrived1)) } else r

/-- One bit of such a store: the source as written, counted where it has become pending and no core can take it. -/
theorem writePend_eq (c : CoreId) (n : Nat) (b : Bool) (s : State) :
    writePend c n b s = s ∧ pendWritten c b (s.srcAt n) = s.srcAt n ∨
    writePend c n b s = s.setSrc n (fun r => { r with pend := (pendWritten c b (s.srcAt n)).pend }) ∨
    writePend c n b s = countUndeliverable n (s.setSrc n (fun r => { r with pend := (pendWritten c b (s.srcAt n)).pend })) := by
  by_cases hmay : c = .c0 ∨ (s.srcAt n).target = true
  · refine .inr ?_
    unfold pendWritten writePend
    rw [if_pos hmay]
    dsimp only
    rw [if_neg (by obtain rfl | h := hmay; · simp
                   · simp [h])]
    cases c <;> (dsimp only; split; · exact .inr rfl
                 · exact .inl rfl)
  · refine .inl ⟨?_, by unfold pendWritten; rw [if_neg hmay]⟩
    have htarget : (s.srcAt n).target = false := Bool.eq_false_iff.mpr fun h => hmay (.inr h)
    unfold writePend
    dsimp only
    rw [if_pos]
    cases c with
    | c0 => exact absurd (.inl rfl) hmay
    | c1 => simp [htarget]

theorem writePendReg_icu (c : CoreId) (x v : Nat) (s : State) : ∃ i, writePendReg c x v s = { s with icu := i } := by
  unfold writePendReg
  refine foldl_icu (fun t i => ?_) _ s
  obtain ⟨h, -⟩ | h | h := writePend_eq c (32 * x + i) (bit v i) t
  · exact ⟨t.icu, h⟩
  · exact ⟨_, h⟩
  · rw [h]
    exact countUndeliverable_icu _ (t.setSrc _ _)

/-- The count of undeliverable sources leaves every source but 47. -/
theorem countUndeliverable_srcAt (n : Nat) (s : State) {m : Nat} (hm : m < 47) : (countUndeliverable n s).srcAt m = s.srcAt m := by
  unfold countUndeliverable
  dsimp only
  split
  · rw [arriveUndeliv, State.srcAt_setSrc_ne _ (by omega)]
    rfl
  · rfl

theorem countUndeliverable_length (n : Nat) (s : State) : (countUndeliverable n s).icu.src.length = s.icu.src.length := by
  unfold countUndeliverable
  dsimp only
  split
  · rw [arriveUndeliv, State.setSrc_length]
  · rfl

/-- One bit of a store to `ICU_PENDx`, for the sources below 47. -/
theorem writePend_srcAt (c : CoreId) (b : Bool) (n : Nat) {s : State} (hlen : s.icu.src.length = 48) :
    (writePend c n b s).icu.src.length = 48 ∧
      ∀ m, m < 47 → (writePend c n b s).srcAt m = if m = n then pendWritten c b (s.srcAt m) else s.srcAt m := by
  have hset : ∀ m, m < 47 → (s.setSrc n fun r => { r with pend := (pendWritten c b (s.srcAt n)).pend }).srcAt m =
      if m = n then pendWritten c b (s.srcAt m) else s.srcAt m := fun m hm => by
    by_cases heq : m = n
    · subst heq
      rw [State.srcAt_setSrc s m _ m (by omega), if_pos rfl, if_pos rfl]
      unfold pendWritten
      split <;> rfl
    · rw [State.srcAt_setSrc_ne _ heq, if_neg heq]
  obtain ⟨h, hsame⟩ | h | h := writePend_eq c n b s
  · rw [h]
    refine ⟨hlen, fun m _ => ?_⟩
    split
    next heq => rw [heq, hsame]
    next => rfl
  · rw [h]
    exact ⟨(State.setSrc_length ..).trans hlen, hset⟩
  · rw [h]
    exact ⟨(countUndeliverable_length ..).trans ((State.setSrc_length ..).trans hlen), fun m hm => (countUndeliverable_srcAt _ _ hm).trans (hset m hm)⟩

/-- A store to `ICU_PENDx`, source by source. -/
theorem writePendReg_srcAt (c : CoreId) (x : Fin 2) (v : Word) {s : State} (hlen : s.icu.src.length = 48) {m : Nat} (hm : m < 47) :
    (writePendReg c x.val v.toNat s).srcAt m = if m / 32 = x.val then pendWritten c (v.getLsbD (m % 32)) (s.srcAt m) else s.srcAt m := by
  have hfold := foldl_srcAt (g := fun t i => writePend c (32 * x.val + i) (bit v.toNat i) t) (F := fun i => pendWritten c (bit v.toNat i))
    (base := 32 * x.val) (bound := 47) (fun t i ht => writePend_srcAt c _ _ ht) (if x.val = 0 then 32 else 16) hlen
  refine (hfold.2 m hm).trans (ite_congr (propext ?_) (fun h => ?_) fun _ => rfl)
  · split <;> omega
  · rw [bit_eq_getLsbD, show m - 32 * x.val = m % 32 by omega]

/-! ### Source registers -/

/-- Core 0 writes every source's register, core 1 those whose TARGET is 1 (14 R406). -/
theorem icuMayWrite_src (s : State) (core : CoreId) (n : Fin 48) :
    icuMayWrite s core (0x100 + 4 * n.val) = (core == .c0 || (s.srcAt n.val).target) := by
  cases core with
  | c0 => rfl
  | c1 =>
    have hlt := n.isLt
    have hidx : (0x100 + 4 * n.val - 0x100) / 4 = n.val := by omega
    have hout : ∀ k, k < 0x100 → (0x100 + 4 * n.val == k) = false := fun k hk => beq_false_of_ne (by omega)
    have hin : decide (0x100 ≤ 0x100 + 4 * n.val ∧ 0x100 + 4 * n.val < 0x1C0) = true := decide_eq_true (by omega)
    simp only [icuMayWrite, hidx, hin, hout _ (show 0x024 < 0x100 by decide), hout _ (show 0x034 < 0x100 by decide),
      hout _ (show 0x000 < 0x100 by decide), hout _ (show 0x004 < 0x100 by decide)]
    rfl

/-- A store to `ICU_SRCn` with no count under way sets the fields of that source. -/
theorem writeSrcReg_fields (core : CoreId) (n : Fin 48) (v : Word) {s : State} (hlen : s.icu.src.length = 48) (hc : (s.srcAt n.val).c = 0) :
    writeSrcReg core n.val v.toNat s = s.setSrc n.val (fun r => { r with
      prio := v.toNat % 16, ccount := if v.toNat / 256 % 16 = 0 then r.ccount else v.toNat / 256 % 16, ctime := v.toNat / 65536 % 1024
      target := if core = .c0 ∧ n.val ∉ [0, 1, 2, 47] then v.getLsbD 4 else r.target
      fallback := if core = .c0 then v.getLsbD 5 else r.fallback }) := by
  have hfixed : fixedTarget n.val = decide (n.val ∈ [0, 1, 2, 47]) := by
    simp only [fixedTarget, List.mem_cons, List.not_mem_nil, or_false, Bool.decide_or, Bool.or_assoc, beq_eq_decide]
  have hfld : fld v.toNat 0 4 = v.toNat % 16 := by simp [fld]
  unfold writeSrcReg
  dsimp only
  rw [if_neg (by cases core <;> simp [hc]), hfixed, hfld, bit_eq_getLsbD, bit_eq_getLsbD]
  refine State.setSrc_const (by omega) ?_
  cases core with
  | c0 =>
    by_cases h : n.val ∈ [0, 1, 2, 47]
    · simp only [h, not_true_eq_false, and_false, if_false, decide_true, if_true]
      rfl
    · simp only [h, not_false_eq_true, and_true, if_true, decide_false]
      rfl
  | c1 => rfl

end Sys2Proof.Machine

open Sys2Proof Sys2Proof.Machine

/-- Settles O31: each command is one rule of the unit, and the folds over a register half act source by source. -/
theorem arrivalsAndInterruptRegisters : Obligations.ArrivalsAndInterruptRegisters := by
  refine ⟨fun n s hm hlen => ?_, fun core c n x v s hm hlen hrun => ?_⟩
  · intro r arr sets
    have hn : n.val < s.icu.src.length := by omega
    refine ⟨fun hclk h3 h4 => ⟨fun hp => ?_, fun hp hc => ?_, fun hp hc hund => ?_, fun hp hc htarget hfall hmask hprio hgone hne => ?_,
      fun hp hc ht hund => ?_, fun hp hc ht => ?_⟩, fun hclk hreset h3 h4 => ?_, fun h34 => ?_⟩
    · change exec _ _ = _
      rw [exec_sourceArrival h3 h4, raise, if_pos hclk, arrive_quiet (by rw [Src.arrival_pending hp]), answer_setSrc hm,
        State.setSrc_const hn (g := fun r => { r with arr := arr })]
      rw [Src.arrival_pending hp]
      rfl
    · change exec _ _ = _
      rw [exec_sourceArrival h3 h4, raise, if_pos hclk, arrive_quiet (by rw [Src.arrival_counts hp hc]), answer_setSrc hm,
        State.setSrc_const hn (g := fun r => { r with arr := arr, c := r.c + 1 })]
      rw [Src.arrival_counts hp hc]
      rfl
    · change exec _ _ = _
      rw [exec_sourceArrival h3 h4, raise, if_pos hclk, arrive_deliverable hn hund, answer_setSrc hm,
        State.setSrc_const hn (g := fun r => { r with arr := arr, pend := true, c := 0, arrived0 := true, arrived1 := true })]
      rw [Src.arrival_full hp hc]
      rfl
    · have hund : s.undeliverable n.val (s.srcAt n.val) = true := by
        rw [State.undeliverable, show (s.srcAt n.val).target = true from htarget, show (s.srcAt n.val).fallback = false from hfall, State.core1Gone]
        obtain h | h := hgone <;> simp [h]
      have hraise := arrive_undeliverable hn hp hc hund hmask hprio
      refine ⟨arrive n.val s, ?_, ?_⟩
      · rw [exec_sourceArrival h3 h4, raise, if_pos hclk, hraise]
        exact answer_of_eq s _ hm rfl rfl
      rw [hraise]
      refine ⟨?_, rfl, rfl, ?_, rfl⟩
      · rw [arriveUndeliv, State.srcAt_setSrc_ne _ hne]
        exact congrArg Src.pend ((State.srcAt_setSrc s n.val _ n.val hn).trans (if_pos rfl))
      · rw [arriveUndeliv, State.srcAt_setSrc _ _ _ _ (by simp [State.setSrc, hlen]), if_pos rfl, (Src.arrival_frame _).1]
        exact congrArg (fun r => min (Src.arr r + 1) 15) (State.srcAt_setSrc_ne s hne.symm _)
    · change exec _ _ = _
      rw [exec_coalesceTimeout hclk hc ht, coalesced]
      rw [if_neg (by simpa using hp), countUndeliverable_deliverable, answer_setSrc hm]
      rw [State.srcAt_setSrc _ _ _ _ hn, if_pos rfl]
      exact hund
    · change exec _ _ = _
      rw [exec_coalesceTimeout hclk hc ht, coalesced]
      rw [if_pos hp, answer_setSrc hm]
    · intro held
      obtain ⟨h0, h1, h2⟩ := raise_held (n := n.val) hclk hreset
      refine ⟨fun h => ?_, fun h => ?_, fun h => ?_⟩
      · rw [exec_sourceArrival h3 h4, h0 h]
        exact answer_of_eq s _ hm rfl rfl
      · rw [exec_sourceArrival h3 h4, h1 h]
        exact answer_of_eq s _ hm rfl rfl
      · rw [exec_sourceArrival h3 h4, h2 h]
        exact answer_of_eq s _ hm rfl rfl
    · change execSourceArrival n s = _
      rw [execSourceArrival, if_pos h34]
      exact answer_of_eq s _ hm rfl rfl
  · intro r
    have hn : n.val < s.icu.src.length := by omega
    refine ⟨fun hmay => ⟨fun hact hown => ?_, fun hbad => ?_, ?_⟩, fun h1 h0 hexc hslot => ?_, ?_, ?_, fun hmay hc => ?_,
      fun h1 htarget hexc hslot => ?_⟩
    · rw [exec_icuDone hrun hmay, complete_owned n.isLt hact hown]
      exact answer_setSrc hm _ _
    · rw [exec_icuDone hrun hmay, complete_bad hbad]
      exact answer_of_eq s _ hm rfl rfl
    · refine ⟨completeAll c s, ?_, rfl, fun m hmlt => completeAll_srcAt c (by omega)⟩
      change coreStore core _ _ _ s = _
      rw [coreStore_may hrun (coreId_grant hmay)]
      exact answer_of_eq s _ hm rfl rfl
    · subst h1 h0
      refine ⟨?_, ?_⟩
      · change coreStore .c1 _ _ _ s = _
        rw [coreStore_refused hrun (by decide), faultAt_eq_trapped (c := .c1) hexc hslot]
        exact answer_setCore hm _ _
      · change coreStore .c1 _ _ _ s = _
        rw [coreStore_refused hrun (by decide), faultAt_eq_trapped (c := .c1) hexc hslot]
        exact answer_setCore hm _ _
    · obtain ⟨src, hsrc⟩ := clearArrived_eq core x.val s
      refine ⟨clearArrived core x.val s, ?_, by rw [hsrc], fun m hmlt => clearArrived_srcAt core x hlen hmlt⟩
      change coreStore core _ _ _ s = _
      rw [coreStore_may hrun rfl, hsrc]
      exact answer_of_eq s _ hm rfl rfl
    · obtain ⟨i, hi⟩ := writePendReg_icu core x.val v.toNat s
      refine ⟨writePendReg core x.val v.toNat s, ?_, by rw [hi], fun m hmlt => (writePendReg_srcAt core x v hlen hmlt).trans ?_⟩
      · change coreStore core _ _ _ s = _
        rw [coreStore_may hrun rfl, hi]
        exact answer_of_eq s _ hm rfl rfl
      · unfold pendWritten
        by_cases hx : m / 32 = x.val
        · rw [if_pos hx]
          exact ite_congr (propext ⟨fun h => ⟨hx, h⟩, And.right⟩) (fun _ => rfl) fun _ => rfl
        · rw [if_neg hx, if_neg fun h => hx h.1]
    · have hset := writeSrcReg_fields core n v hlen hc
      refine ⟨writeSrcReg core n.val v.toNat s, ?_, by rw [hset]; rfl, ?_⟩
      · change coreStore core _ _ _ s = _
        rw [coreStore_may hrun, hset]
        · exact answer_setSrc hm _ _
        · rw [icuMayWrite_src]
          obtain rfl | h := hmay
          · rfl
          · simp [show (s.srcAt n.val).target = true from h]
      · rw [hset]
        exact (State.srcAt_setSrc s n.val _ n.val hn).trans (if_pos rfl)
    · subst h1
      change coreStore .c1 _ _ _ s = _
      rw [coreStore_refused hrun, faultAt_eq_trapped (c := .c1) hexc hslot]
      · exact answer_setCore hm _ _
      · rw [icuMayWrite_src, show (s.srcAt n.val).target = false from htarget]
        rfl
end

section
/-! Timers, the watchdog, the mailbox and core 1 (12 R367 to R372, 14 R408). -/

namespace Sys2Proof.Machine

/-! ### Timers -/

/-- Core 1 writes the registers of timers 2 and 3 (14 R408). -/
theorem tmrMayWrite_ctl (core : CoreId) (n : Fin 4) : tmrMayWrite core (0x10 * n.val) = (core == .c0 || decide (2 ≤ n.val)) := by
  cases core <;> revert n <;> decide

theorem answer_setTimer {s : State} (hm : s.memOk) (n : Nat) (f : Timer → Timer) : answer s (s.setTimer n f) = .next (s.setTimer n f) :=
  answer_of_eq s _ hm rfl rfl

/-- A store to `TMR_CTLn`, bit by bit. -/
theorem timerControl_eq (n : Nat) (v : Word) (s : State) : timerControl n v.toNat s = s.setTimer n (fun t => { t with
    en := v.getLsbD 0, periodic := v.getLsbD 1
    cnt := if (v.getLsbD 0 = true ∧ t.en = false) ∨ v.getLsbD 2 = true then t.load else t.cnt }) := by
  unfold timerControl
  simp only [bit_eq_getLsbD, Bool.or_eq_true, Bool.and_eq_true, Bool.not_eq_true']

/-! ### Mailbox -/

/-- An event of this tile's own joins core 0's buffer while that has room (10 R307). -/
theorem postEvent_joins {s : State} (hmember : s.isMember = false) (hbuf : s.evt.buf.length < 64) (code d0 d1 : Nat) :
    postEvent code d0 d1 s = { s with evt.buf := s.evt.buf ++ [{
      code := code, tile := 0, epoch := s.epoch, d0 := d0 % 2 ^ 32, d1 := d1 % 2 ^ 31 }] } := by
  have htile : s.tile = 0 := by rw [State.tile, if_neg (by simp [hmember])]
  rw [postEvent, postEventAt, if_neg (by simp [hmember]), bufferEvent, if_pos hbuf, htile]

/-- What core 0 makes of a pair changes the events, a member's messages and the wake requests. -/
theorem appletPair_eq (w0 w1 : Word) (s : State) : ∃ v c q d m, appletPair w0 w1 s =
    { s with evt := v, crl := c, arr.queue := q, pwr.wakeDue := d, clk.mergeWake := m } := by
  unfold appletPair
  split
  · exact ⟨s.evt, s.crl, s.arr.queue, s.pwr.wakeDue, s.clk.mergeWake, rfl⟩
  · obtain ⟨v, c, q, h⟩ := postEventAt_eq s.epoch 0x13 w0.toNat (w1.toNat % 2 ^ 31) s
    dsimp only
    rw [postEvent, h]
    split
    · obtain ⟨d, m, hw⟩ := wakeSource_eq 0x12 { s with evt := v, crl := c, arr.queue := q }
      exact ⟨v, c, q, d, m, hw⟩
    · exact ⟨v, c, q, s.pwr.wakeDue, s.clk.mergeWake, rfl⟩

/-- A pair from core 1 while firmware runs is the event's data. -/
theorem appletPair_event {s : State} (hclk : s.clk.core = true) (hphase : s.boot.phase = .running) (hmember : s.isMember = false)
    (hbuf : s.evt.buf.length < 64) (w0 w1 : Word) : (appletPair w0 w1 s).evt.buf = s.evt.buf ++ [{
      code := 0x13, tile := 0, epoch := s.epoch, d0 := w0.toNat, d1 := w1.toNat % 2 ^ 31 }] := by
  unfold appletPair
  rw [if_neg (by simp [hclk, hphase]), postEvent_joins hmember hbuf]
  dsimp only
  rw [Nat.mod_eq_of_lt w0.isLt, Nat.mod_mod]
  split
  · obtain ⟨d, m, hw⟩ := wakeSource_eq 0x12 { s with evt.buf := s.evt.buf ++ [{
      code := 0x13, tile := 0, epoch := s.epoch, d0 := w0.toNat, d1 := w1.toNat % 2 ^ 31 }] }
    rw [hw]
  · rfl

/-- A raised line of source `n` while CLK_BUS runs: the interrupt unit alone changes, and ARR counts. -/
theorem raise_arr {n : Nat} {s : State} (hclk : s.clk.core = true) (hn : n < s.icu.src.length) (hne : n ≠ 47) :
    ∃ i, raise n s = { s with icu := i } ∧ ({ s with icu := i } : State).srcAt n = ((s.srcAt n).arrival).1 := by
  obtain ⟨src, c, l, h⟩ := arrive_eq n s
  have hraise : raise n s = { s with icu := { s.icu with src := src, undCount := c, undSrc := l } } := by rw [raise, if_pos hclk, h]
  exact ⟨_, hraise, by rw [← hraise]; exact raise_srcAt hclk hn hne⟩

theorem canRun_clk {s : State} {c : CoreId} (h : s.canRun c = true) : s.clk.core = true := by
  simp only [State.canRun, Bool.and_eq_true] at h
  exact h.1.1

/-! ### Core 1 -/

/-- Core 1 leaves reset at its pc, or in the exception of a start outside its code (12 R369). -/
theorem core1Run_eq {s : State} (hrun : s.mbx.run = false) : ∃ k, core1Run s = { s with core1 := k, mbx.run := true } ∧ k.ie = false ∧
    (0x10000 ≤ s.mbx.c1pc.toNat → k.pc = s.mbx.c1pc ∧ k.exc = false) ∧
    (s.mbx.c1pc.toNat < 0x10000 → k.exc = true ∧ k.ecause = 1 ∧ k.epc = s.mbx.c1pc) ∧
    k.g.get 15 = 0x20020000#32 ∧ k.vbase.toNat = (0x10000000 + 0x4000 * s.mbx.split) % 2 ^ 32 := by
  unfold core1Run
  rw [if_neg (by simp [hrun])]
  dsimp only
  split
  next hlow =>
    have hexc := takeExc_eq_trapped (c := .c1) (s := { s with core1 := core1Reset s, mbx.run := true }) rfl rfl 0x01 s.mbx.c1pc s.mbx.c1pc
    exact ⟨_, hexc, rfl, fun h => by omega, fun _ => ⟨rfl, rfl, rfl⟩, by rfl, by
      change (BitVec.ofNat 32 s.c1Base).toNat = _
      rw [BitVec.toNat_ofNat]
      rfl⟩
  next hhigh =>
    exact ⟨core1Reset s, rfl, rfl, fun _ => ⟨rfl, rfl⟩, fun h => absurd h hhigh, by rfl, by
      change (BitVec.ofNat 32 s.c1Base).toNat = _
      rw [BitVec.toNat_ofNat]
      rfl⟩

/-- Two states differ in the interrupt unit alone, which keeps core 1's threshold and current source and every ACT bit. -/
def SameActs (s t : State) : Prop :=
  ∃ i, t = { s with icu := i } ∧ i.thr1 = s.icu.thr1 ∧ i.cur1 = s.icu.cur1 ∧ i.src.map Src.act = s.icu.src.map Src.act

theorem SameActs.refl (s : State) : SameActs s s := ⟨s.icu, rfl, rfl, rfl, rfl⟩

theorem SameActs.trans {s t u : State} (h : SameActs s t) (h' : SameActs t u) : SameActs s u := by
  obtain ⟨i, rfl, hthr, hcur, hact⟩ := h
  obtain ⟨j, rfl, hthr', hcur', hact'⟩ := h'
  exact ⟨j, rfl, hthr'.trans hthr, hcur'.trans hcur, hact'.trans hact⟩

/-- The count of undeliverable sources keeps them. -/
theorem countUndeliverable_acts (n : Nat) (s : State) : SameActs s (countUndeliverable n s) := by
  unfold countUndeliverable
  dsimp only
  split
  · refine ⟨_, rfl, rfl, rfl, List.ext_getElem? fun m => ?_⟩
    change ((s.icu.src.modify 47 fun r => r.arrival.1).map Src.act)[m]? = _
    rw [List.getElem?_map, List.getElem?_map, List.getElem?_modify]
    cases s.icu.src[m]? with
    | none => rfl
    | some r =>
      by_cases h : 47 = m
      · simp [h, r.arrival_frame.2.2.1]
      · simp [h]
  · exact SameActs.refl s

/-- Core 1 in reset: its pairs are gone, its interrupts' ACT bits, threshold and current source reset (12 R372, 14 R402). -/
theorem core1Stop_eq (s : State) (hlen : s.icu.src.length = 48) : ∃ i, core1Stop s = { s with
    core1 := core1Reset s, mbx := { s.mbx with run := false, halted := false, q1 := [] }, icu := i, pwr.taps := [], pwr.lifted := [] } ∧
    i.thr1 = 0 ∧ i.cur1.valid = false ∧ ∀ m, m < 48 → (i.src.getD m {}).act = ((s.srcAt m).act && !(s.srcAt m).own) := by
  let u : State := { s with
    core1 := core1Reset s, mbx := { s.mbx with run := false, halted := false, q1 := [] }
    icu.thr1 := 0, icu.cur1 := {}, pwr.taps := [], pwr.lifted := [] }
  have hacts : SameActs (completeAll .c1 u) (core1Stop s) := by
    unfold core1Stop
    dsimp only
    split
    · exact SameActs.refl _
    · refine foldl_chains SameActs.refl (fun _ _ _ => SameActs.trans) (fun t n => ?_) _ _
      split
      · exact countUndeliverable_acts n t
      · exact SameActs.refl t
  obtain ⟨i, hi, hthr, hcur, hact⟩ := hacts
  refine ⟨i, hi, hthr, by rw [hcur]; rfl, fun m hm => ?_⟩
  have hat : (i.src.map Src.act)[m]? = ((completeAll .c1 u).icu.src.map Src.act)[m]? := by rw [hact]
  have hget : ∀ l : List Src, (l.getD m {}).act = ((l.map Src.act)[m]?).getD false := fun l => by
    rw [List.getElem?_map, List.getD_eq_getElem?_getD]
    cases l[m]? <;> rfl
  rw [hget, hat, ← hget]
  change ((completeAll .c1 u).srcAt m).act = _
  rw [completeAll_srcAt .c1 (s := u) (show m < s.icu.src.length by omega)]
  change (if (s.srcAt m).act = true ∧ (s.srcAt m).own = true then { s.srcAt m with act := false, own := false } else s.srcAt m).act = _
  cases hact : (s.srcAt m).act
  · simp [hact]
  · cases hown : (s.srcAt m).own <;> simp [hact]

end Sys2Proof.Machine

open Sys2Proof Sys2Proof.Machine

/-- Settles O32: each command is its block's rule; what a raised line changes is the interrupt unit alone. -/
theorem timersMailboxAndCore1Run : Obligations.TimersMailboxAndCore1Run := by
  refine ⟨fun core n v s hm hlen => ?_, fun w s hm hlen => ⟨fun hrun => ⟨fun hroom => ?_, fun hfull => ?_, ?_⟩,
    fun hrun => ⟨fun hroom => ?_, fun hfull => ?_, ?_⟩, fun hclk => ⟨fun hrun => ?_, fun hrun => ?_, ?_, fun hrun hw => ?_, fun h => ?_⟩⟩⟩
  · intro tm
    refine ⟨fun hrun => ⟨fun hmay => ⟨?_, ?_⟩, fun h1 hn hexc hslot => ?_⟩, fun hclk => ⟨fun hen hsrc => ?_, fun hoff hgo => ?_, fun hon => ?_,
      fun hkey => ?_, fun hkey => ?_⟩⟩
    · change coreStore core _ _ _ s = _
      rw [coreStore_may hrun, timerControl_eq]
      · exact answer_setTimer hm _ _
      · rw [tmrMayWrite_ctl]
        obtain rfl | h := hmay <;> simp [*]
    · change coreStore core _ _ _ s = _
      rw [coreStore_may hrun]
      · exact answer_setTimer hm _ _
      · rw [tmrMayWrite_ctl]
        obtain rfl | h := hmay <;> simp [*]
    · subst h1
      intro e
      have hno : tmrMayWrite .c1 (0x10 * n.val) = false := by
        rw [tmrMayWrite_ctl]
        simp
        omega
      refine ⟨?_, ?_⟩
      · change coreStore .c1 _ _ _ s = _
        rw [coreStore_refused hrun hno, faultAt_eq_trapped (c := .c1) hexc hslot]
        exact answer_setCore hm _ _
      · change coreStore .c1 _ _ _ s = _
        rw [coreStore_refused hrun hno, faultAt_eq_trapped (c := .c1) hexc hslot]
        exact answer_setCore hm _ _
    · have hnlt := n.isLt
      have hent : timerExpire n.val s = raise (5 + n.val) (s.setTimer n.val fun t =>
          if t.periodic then { t with cnt := t.load } else { t with en := false, cnt := 0 }) := by
        unfold timerExpire
        dsimp only
        rw [if_neg]
        rw [show (s.timer n.val).en = true from hen, hclk]
        decide
      obtain ⟨i, hraise, hsrc'⟩ := raise_arr (n := 5 + n.val) (s := s.setTimer n.val fun t =>
        if t.periodic then { t with cnt := t.load } else { t with en := false, cnt := 0 }) hclk (by rw [State.setTimer_icu]; omega) (by omega)
      refine ⟨timerExpire n.val s, ?_, ?_⟩
      · change answer s (timerExpire n.val s) = _
        rw [hent, hraise]
        exact answer_of_eq s _ hm rfl rfl
      rw [hent, hraise]
      refine ⟨?_, (congrArg Src.arr hsrc').trans (Src.arrival_frame _).1, rfl⟩
      exact (getD_modify_of_lt _ (by omega) _ _ _).trans (if_pos rfl)
    · change execWatchdogStart v s = _
      rw [execWatchdogStart, if_pos hclk, watchdogStart, if_neg (by simp [hoff, bit_eq_getLsbD, hgo])]
      exact answer_of_eq s _ hm rfl rfl
    · change execWatchdogStart v s = _
      rw [execWatchdogStart, if_pos hclk, watchdogStart, if_pos (by simp [hon])]
      exact answer_of_eq s _ hm rfl rfl
    · change execWatchdogKick v s = _
      rw [execWatchdogKick, if_pos hclk, watchdogKick, if_pos hkey]
      exact answer_of_eq s _ hm rfl rfl
    · change execWatchdogKick v s = _
      rw [execWatchdogKick, if_pos hclk, watchdogKick, if_neg hkey]
      exact answer_of_eq s _ hm rfl rfl
  · have hclk := canRun_clk hrun
    obtain ⟨i, hraise, hsrc⟩ := raise_arr (n := 1) (s := { s with mbx.q1 := s.mbx.q1 ++ [(s.mbx.out0a, w)] }) hclk
      (by change 1 < s.icu.src.length; omega) (by decide)
    have hpush : mailboxPush .c0 w s = raise 1 { s with mbx.q1 := s.mbx.q1 ++ [(s.mbx.out0a, w)] } := by
      rw [mailboxPush, pushPair, if_neg (by omega)]
    refine ⟨mailboxPush .c0 w s, ?_, ?_⟩
    · change coreStore .c0 _ _ _ s = _
      rw [coreStore_may hrun rfl, hpush, hraise]
      exact answer_of_eq s _ hm rfl rfl
    rw [hpush, hraise]
    exact ⟨rfl, (congrArg Src.arr hsrc).trans (Src.arrival_frame _).1, rfl⟩
  · change coreStore .c0 _ _ _ s = _
    rw [coreStore_may hrun rfl, mailboxPush, pushPair, if_pos hfull]
    exact answer_of_eq s _ hm rfl rfl
  · change coreStore .c0 _ _ _ s = _
    rw [coreStore_may hrun rfl, mailboxPop]
    exact answer_of_eq s _ hm rfl rfl
  · have hclk := canRun_clk hrun
    obtain ⟨i, hraise, hsrc⟩ := raise_arr (n := 0) (s := { s with mbx.q0 := s.mbx.q0 ++ [(s.mbx.out0b, w)] }) hclk
      (by change 0 < s.icu.src.length; omega) (by decide)
    have hpush : mailboxPush .c1 w s = appletPair s.mbx.out0b w (raise 0 { s with mbx.q0 := s.mbx.q0 ++ [(s.mbx.out0b, w)] }) := by
      rw [mailboxPush, pushPair, if_neg (by omega)]
    rw [hraise] at hpush
    obtain ⟨v, c, q, d, m, happ⟩ := appletPair_eq s.mbx.out0b w { s with mbx.q0 := s.mbx.q0 ++ [(s.mbx.out0b, w)], icu := i }
    refine ⟨mailboxPush .c1 w s, ?_, ?_⟩
    · change coreStore .c1 _ _ _ s = _
      rw [coreStore_may hrun rfl, hpush, happ]
      exact answer_of_eq s _ hm rfl rfl
    refine ⟨by rw [hpush, happ], ?_, by rw [hpush, happ], by rw [hpush, happ], by rw [hpush, happ], fun hphase hmember hbuf => ?_⟩
    · rw [hpush, happ]
      exact (congrArg Src.arr hsrc).trans (Src.arrival_frame _).1
    · rw [hpush]
      exact appletPair_event (s := { s with mbx.q0 := s.mbx.q0 ++ [(s.mbx.out0b, w)], icu := i }) hclk hphase hmember hbuf _ _
  · change coreStore .c1 _ _ _ s = _
    rw [coreStore_may hrun rfl, mailboxPush, pushPair, if_pos hfull]
    exact answer_of_eq s _ hm rfl rfl
  · change coreStore .c1 _ _ _ s = _
    rw [coreStore_may hrun rfl, mailboxPop]
    exact answer_of_eq s _ hm rfl rfl
  · obtain ⟨k, hk, hie, hgood, hbad, hg, hv⟩ := core1Run_eq hrun
    refine ⟨core1Run s, ?_, ?_⟩
    · change execCore1Run s = _
      rw [execCore1Run, if_pos hclk, hk]
      exact answer_of_eq s _ hm rfl rfl
    rw [hk]
    exact ⟨rfl, hie, hgood, hbad, hg, hv, by rw [← hrun]⟩
  · change execCore1Run s = _
    rw [execCore1Run, if_pos hclk, core1Run, if_pos hrun]
    exact answer_of_eq s _ hm rfl rfl
  · obtain ⟨i, hk, hthr, hcur, hact⟩ := core1Stop_eq s hlen
    refine ⟨core1Stop s, ?_, ?_⟩
    · change execCore1Stop s = _
      rw [execCore1Stop, if_pos hclk, hk]
      exact answer_of_eq s _ hm rfl rfl
    rw [hk]
    exact ⟨rfl, hthr, hcur, hact, rfl, rfl⟩
  · change execMbxSplitWrite w s = _
    have hfld : fld w.toNat 0 4 = w.toNat % 16 := by simp [fld]
    rw [execMbxSplitWrite, if_pos hclk, setSplit, hfld, if_neg (by simp [hrun, hw])]
    exact answer_of_eq s _ hm rfl rfl
  · change execMbxSplitWrite w s = _
    have hfld : fld w.toNat 0 4 = w.toNat % 16 := by simp [fld]
    rw [execMbxSplitWrite, if_pos hclk, setSplit, hfld, if_pos (by simpa using h)]
    exact answer_of_eq s _ hm rfl rfl
end

section
/-! Parity errors (18 R477 to R488) and the restart of core 0 (18 R484, 19 R503). -/

namespace Sys2Proof.Machine

/-! ### What the handling of a parity error changes -/

/-- A function of the state that every step of a fold keeps is kept by the fold. -/
theorem foldl_keeps {α β : Type} (F : State → β) {f : State → α → State} (hf : ∀ t a, F (f t a) = F t) (l : List α) (s : State) :
    F (l.foldl f s) = F s :=
  foldl_chains (r := fun s t => F t = F s) (fun _ => rfl) (fun _ _ _ h h' => h'.trans h) hf l s

/-- Folds of changes of memory change memory alone. -/
theorem foldl_mem {α : Type} {f : State → α → State} (hf : ∀ t a, ∃ m, f t a = { t with mem := m }) (l : List α) (s : State) :
    ∃ m, l.foldl f s = { s with mem := m } := by
  refine foldl_chains (r := fun s t => ∃ m, t = { s with mem := m }) (fun s => ⟨s.mem, rfl⟩) ?_ hf l s
  rintro s t u ⟨m, rfl⟩ ⟨m', rfl⟩
  exact ⟨m', rfl⟩

theorem rescaleSelf_mem (m : PinMap) (c k v : Nat) (s : State) : ∃ mem, rescaleSelf m c k v s = { s with mem := mem } := by
  unfold rescaleSelf loadScale
  dsimp only
  split
  · split <;> exact ⟨_, rfl⟩
  · exact ⟨_, rfl⟩

/-- Chains that return to their old pairs change memory alone. -/
theorem restorePairs_mem (old : List (Nat × List (Int × Int) × List Nat)) (s : State) : ∃ mem, restorePairs old s = { s with mem := mem } := by
  unfold restorePairs
  refine foldl_mem (fun t o => ?_) old s
  obtain ⟨m, h⟩ := foldl_mem (f := fun v p => loadPair o.1 (p.1 + 2) p.2 v) (fun t a => ⟨_, rfl⟩) (List.zip (List.range 5) o.2.1) t
  obtain ⟨m', h'⟩ := foldl_mem (f := fun v p => rescaleSelf (s.pinMap (s.activeSlot.getD 0)) o.1 p.1 p.2 v) (fun t a => rescaleSelf_mem ..)
    (List.zip (List.range 2) o.2.2) ((List.zip (List.range 5) o.2.1).foldl (fun v p => loadPair o.1 (p.1 + 2) p.2 v) t)
  exact ⟨m', by dsimp only; rw [h', h]⟩

theorem restartGroup_eq (e : Nat) (s : State) : ∃ c m, restartGroup e s = { s with cal := c, mem := m } := by
  obtain ⟨m, h⟩ := restorePairs_mem s.cal.old s
  unfold restartGroup restoreGroup
  dsimp only
  rw [h]
  split
  · split
    · obtain ⟨m', h'⟩ := restorePairs_mem _ _
      exact ⟨_, m', h'⟩
    · exact ⟨_, m, rfl⟩
  · exact ⟨_, m, rfl⟩

theorem undoVerify_eq (e : Nat) (s : State) : ∃ c, undoVerify e s = { s with cal := c } := by
  unfold undoVerify
  split
  · split
    · exact ⟨_, rfl⟩
    · exact ⟨s.cal, rfl⟩
  · exact ⟨s.cal, rfl⟩

/-- The count of a calibration frame taken back: calibration, memory and the kind of the frame being scanned. -/
theorem uncountCal_eq (f : Frame) (s : State) : ∃ c k m, uncountCal f s = { s with cal := c, chn.cur.kind := k, mem := m } := by
  have hsame : ∃ c k m, s = { s with cal := c, chn.cur.kind := k, mem := m } := ⟨s.cal, s.chn.cur.kind, s.mem, rfl⟩
  unfold uncountCal
  dsimp only
  split
  · split
    · split
      · obtain ⟨c, m, h⟩ := restartGroup_eq f.epoch s
        exact ⟨c, s.chn.cur.kind, m, h⟩
      · exact hsame
    · split
      · exact hsame
      · split
        · obtain ⟨c, h⟩ := undoVerify_eq f.epoch s
          rw [h]
          exact ⟨_, _, s.mem, rfl⟩
        · exact ⟨_, _, s.mem, rfl⟩
  · split
    · exact ⟨_, _, s.mem, rfl⟩
    · exact hsame
  · split
    · exact ⟨_, _, s.mem, rfl⟩
    · exact hsame
  · exact hsame

theorem selfBack_eq (s : State) : ∃ e, selfBack s = { s with elec := e } := by
  unfold selfBack
  split
  · split
    · exact ⟨_, rfl⟩
    · exact ⟨s.elec, rfl⟩
  · exact ⟨s.elec, rfl⟩

theorem setHdrFlag_eq (e b : Nat) (s : State) : ∃ m, setHdrFlag e b s = { s with mem := m } := by
  unfold setHdrFlag
  dsimp only
  split
  · exact ⟨s.mem, rfl⟩
  · exact ⟨_, rfl⟩

/-- A frame that is good until then is discarded for the parity error. -/
theorem discardParity_eq (s : State) : ∃ c k m e d, discardParity s = { s with
    cal := c, chn.cur.kind := k, mem := m, elec := e, chn.prev.dcause := d } ∧ (s.chn.prev.dcause = 0 → d = 2) := by
  unfold discardParity
  split
  next hgood =>
    obtain ⟨c, k, m, h⟩ := uncountCal_eq s.chn.prev s
    unfold discardPrev
    rw [h, if_neg (by simp [hgood])]
    obtain ⟨e, he⟩ := selfBack_eq { s with cal := c, chn.cur.kind := k, mem := m, chn.prev.dcause := 2 }
    exact ⟨c, k, m, e, 2, he, fun _ => rfl⟩
  next hbad => exact ⟨s.cal, s.chn.cur.kind, s.mem, s.elec, s.chn.prev.dcause, rfl, fun h => absurd h hbad⟩

theorem discardAcquired_eq (s : State) : ∃ c k m e d, discardAcquired s = { s with
    cal := c, chn.cur.kind := k, mem := m, elec := e, chn.prev.dcause := d } ∧ (s.chn.prev.dcause = 0 → d = 2) := by
  unfold discardAcquired
  dsimp only
  split
  · exact discardParity_eq s
  · obtain ⟨m, h⟩ := setHdrFlag_eq s.chn.prev.epoch 1 s
    rw [h]
    obtain ⟨c, k, m', e, d, h', hd⟩ := discardParity_eq { s with mem := m }
    exact ⟨c, k, m', e, d, h', hd⟩

/-- Lost self data are the frame's and the electrodes'. -/
theorem selfLost_eq (s : State) : ∃ e, selfLost s = { s with chn.prev.selfBad := true, elec := e } := by
  unfold selfLost
  dsimp only
  split
  · split
    · exact ⟨_, rfl⟩
    · exact ⟨s.elec, rfl⟩
  · exact ⟨s.elec, rfl⟩

theorem endEpisode_eq (s : State) : ∃ v c q n, endEpisode s = { s with evt := v, crl := c, arr.queue := q, rpt.episode := n } := by
  unfold endEpisode
  split
  · obtain ⟨v, c, q, h⟩ := postEventAt_eq s.epoch 0x0B s.rpt.episode (s.rpt.firstLost % 2 ^ 31) { s with rpt.episode := 0 }
    exact ⟨v, c, q, 0, h⟩
  · exact ⟨s.evt, s.crl, s.arr.queue, s.rpt.episode, rfl⟩

/-- The PARITY event changes the events, a member's messages and the host's count. -/
theorem parityEvent_eq (store index action : Nat) (s : State) : ∃ v c q h, parityEvent store index action s =
    { s with evt := v, crl := c, arr.queue := q, host := h } := by
  unfold parityEvent
  split
  · obtain ⟨v, c, q, h⟩ := postEventAt_eq s.epoch 0x0E (store + 65536 * index) action s
    unfold postParity countParityEvent
    dsimp only
    rw [h]
    split
    · exact ⟨v, c, q, _, rfl⟩
    · exact ⟨v, c, q, s.host, rfl⟩
  · split
    · exact ⟨_, s.crl, s.arr.queue, s.host, rfl⟩
    · exact ⟨_, s.crl, s.arr.queue, s.host, rfl⟩

/-! ### The interrupt unit through a detection -/

theorem sendMsg_icu (cls dst : Nat) (m : Msg) (s : State) : (sendMsg cls dst m s).icu = s.icu := by
  obtain ⟨c, q, h⟩ := sendMsg_eq cls dst m s
  rw [h]

theorem askRetained_icu (l : List ReadReq) (s : State) : (askRetained l s).icu = s.icu := by
  unfold askRetained
  split <;> rfl

theorem startReplay_icu (s : State) : (startReplay s).icu = s.icu := by
  unfold startReplay
  split <;> rfl

theorem abandonCheck_icu (j : Nat) (s : State) : (abandonCheck j s).icu = s.icu := by
  unfold abandonCheck
  refine (foldl_keeps State.icu (fun t g => ?_) _ _).trans rfl
  obtain ⟨x, c, q, h⟩ := dropCheck_eq g t
  rw [h]

theorem replayIssued_icu (e : JEntry) (s : State) : (replayIssued e s).icu = s.icu := by
  unfold replayIssued
  split
  · rfl
  · split
    · split
      · rfl
      · exact abandonCheck_icu ..
    · split <;> rfl

theorem journalFault_icu (i : Nat) (s : State) : (journalFault i s).icu = s.icu := by
  unfold journalFault
  split
  · rfl
  · dsimp only
    split
    · refine (startReplay_icu _).trans ?_
      split
      · exact askRetained_icu ..
      · split
        · rfl
        · exact replayIssued_icu ..
    · refine (startReplay_icu _).trans ?_
      split
      · exact askRetained_icu ..
      · rfl
    · rfl
    · rfl

theorem slotFault_icu (n : Nat) (s : State) : (slotFault n s).2.icu = s.icu := by
  unfold slotFault
  dsimp only
  split
  · split
    · exact sendMsg_icu ..
    · split <;> rfl
  · split <;> rfl
  · rfl
  · rfl

theorem bankFromBoot_icu (tile b : Nat) (s : State) : (bankFromBoot tile b s).icu = s.icu := by
  unfold bankFromBoot
  split
  · rfl
  · split
    · rfl
    · rw [sendMsg_icu, sendMsg_icu]

theorem bankFault_icu (b : Nat) (s : State) : (bankFault b s).icu = s.icu := by
  unfold bankFault
  dsimp only
  split
  · split
    · rfl
    · exact askRetained_icu ..
  · split
    · rfl
    · exact bankFromBoot_icu ..

theorem storeFault_icu (addr : Nat) (s : State) : (storeFault addr s).icu = s.icu := by
  unfold storeFault
  extract_lets k
  split
  · split <;> rfl
  · split
    · rw [sendMsg_icu]
    · rfl

theorem fragFault_icu (addr : Nat) (s : State) : (fragFault addr s).icu = s.icu := by
  unfold fragFault
  split <;> rfl

theorem shadowFault_icu (s : State) : (shadowFault s).2.icu = s.icu := by
  unfold shadowFault
  split
  · rfl
  · dsimp only
    split <;> rfl

theorem discardAcquired_icu (s : State) : (discardAcquired s).icu = s.icu := by
  obtain ⟨c, k, m, e, d, h, -⟩ := discardAcquired_eq s
  rw [h]

theorem discardParity_icu (s : State) : (discardParity s).icu = s.icu := by
  obtain ⟨c, k, m, e, d, h, -⟩ := discardParity_eq s
  rw [h]

theorem selfLost_icu (s : State) : (selfLost s).icu = s.icu := by
  obtain ⟨e, h⟩ := selfLost_eq s
  rw [h]

theorem listenFault_icu (addr : Nat) (s : State) : (listenFault addr s).icu = s.icu := by
  unfold listenFault
  split
  · obtain ⟨m, h⟩ := setHdrFlag_eq s.chn.cur.epoch 1 (discardCur 2 { s with chn.cur.listenBad := true })
    rw [h]
    rfl
  · exact discardAcquired_icu s

theorem parityDrop_icu (h : ParityHit) (s : State) : (parityDrop h s).icu = s.icu := by
  unfold parityDrop
  split
  · exact discardAcquired_icu s
  · exact discardParity_icu s
  · exact listenFault_icu ..
  · exact discardAcquired_icu s
  · exact discardAcquired_icu s
  · exact discardParity_icu s
  · exact selfLost_icu s
  · exact selfLost_icu s
  · exact discardParity_icu s
  · split
    · exact discardParity_icu s
    · rfl
  · split <;> rfl
  · exact fragFault_icu ..
  · split
    · obtain ⟨m, hs⟩ := storeHold_eq { s with rpt.hold := s.rpt.hold.eraseIdx h.index, rpt.lost := add32 s.rpt.lost 1 }
      rw [hs]
      obtain ⟨v, c, q, n, he⟩ := endEpisode_eq { s with rpt.hold := s.rpt.hold.eraseIdx h.index, rpt.lost := add32 s.rpt.lost 1, mem := m }
      rw [he]
    · rfl
  · rfl

theorem parityMend_icu (h : ParityHit) (s : State) : (parityMend h s).2.icu = s.icu := by
  unfold parityMend
  split
  · rfl
  · rfl
  · rfl
  · rfl
  · rfl
  · dsimp only
    split <;> rfl
  · rfl
  · rfl
  · rfl
  · exact slotFault_icu ..
  · exact bankFault_icu ..
  · exact journalFault_icu ..
  · exact storeFault_icu ..
  · obtain ⟨k, b, c, q, hr⟩ := recoveryTrap_eq { s with boot.restartPar := true }
    dsimp only
    rw [hr]
  · exact shadowFault_icu s
  · rfl
  · rfl
  · rfl
  · rfl
  · rfl
  · rfl

theorem parityAct_icu (h : ParityHit) (s : State) : (parityAct h s).icu = s.icu := by
  unfold parityAct
  obtain ⟨v, c, q, x, he⟩ := parityEvent_eq h.store (parityItem h) (parityMend h s).1 (parityMend h s).2
  dsimp only
  rw [he]
  exact parityMend_icu h s

theorem parityFound_icu (h : ParityHit) (s : State) : (parityFound h s).icu = s.icu := by
  have hdrop : (parityDrop h (noteBad h.store h.addr s)).icu = s.icu := by
    rw [parityDrop_icu]
    unfold noteBad
    split <;> rfl
  unfold parityFound
  dsimp only
  split
  · exact (parityMend_icu ..).trans hdrop
  · split
    · exact hdrop
    · exact (parityAct_icu ..).trans hdrop

/-! ### Detections -/

/-- A detection is captured once, and counted (18 R486). -/
theorem captureParity_eq (store addr : Nat) (s : State) : ∃ i k, captureParity store addr s = { s with icu := i, clk.mergeIcu := k } ∧
    (s.icu.parValid = false → i.parValid = true ∧ i.parStore = store ∧ i.parAddr = addr ∧ i.parMulti = s.icu.parMulti ∧
      i.parCnt = cnt 16 s.icu.parCnt 1) ∧
    (s.icu.parValid = true → i.parStore = s.icu.parStore ∧ i.parAddr = s.icu.parAddr ∧ i.parMulti = true) := by
  obtain ⟨src, n, last, held, k, h⟩ := raise_eq (if store = 4 then 41 else 40) (noteParity store addr s)
  rw [captureParity, h]
  unfold noteParity
  dsimp only
  split
  next hvalid => exact ⟨_, k, rfl, fun h => by simp [hvalid] at h, fun _ => ⟨rfl, rfl, rfl⟩⟩
  next hnew => exact ⟨_, k, rfl, fun _ => ⟨rfl, rfl, rfl, rfl, rfl⟩, fun h => absurd h hnew⟩

theorem parityHits_one (h : ParityHit) (s : State) : parityHits [h] s = parityHit h s := by
  by_cases hstore : h.store = 0x0B
  · simp [parityHits, hstore]
  · simp [parityHits, hstore]

/-- The scrub's only detection, in a state that it has captured. -/
theorem exec_scrubRead_hit {s : State} (hfw : s.fwRuns = true) (hact : s.pwr.state = .active) (h : ParityHit) :
    exec (.scrubRead [h]) s = answer s (parityFound h (captureParity h.store h.addr s)) := by
  change execScrubRead [h] s = _
  rw [execScrubRead, if_neg (by simp [hfw, hact]), parityHits_one, parityHit]

/-- What a detection outside core 0's memories does while firmware runs: it discards, mends and posts its event. -/
theorem parityFound_acts {h : ParityHit} {s : State} (hstore : h.store ≠ 0x0F) (hphase : (parityDrop h (noteBad h.store h.addr s)).boot.phase = .running) :
    parityFound h s = parityAct h (parityDrop h (noteBad h.store h.addr s)) := by
  unfold parityFound
  dsimp only
  rw [if_neg hstore, if_neg (by simp [hphase])]

/-- The PARITY event that ends a detection leaves what it mended. -/
theorem parityAct_eq (h : ParityHit) (s : State) : ∃ v c q x, parityAct h s =
    { (parityMend h s).2 with evt := v, crl := c, arr.queue := q, host := x } := by
  unfold parityAct
  exact parityEvent_eq h.store (parityItem h) (parityMend h s).1 (parityMend h s).2

theorem noteBad_else {store : Nat} (h : store ≠ 0x0F ∧ store ≠ 0x10) (addr : Nat) (s : State) : noteBad store addr s = s := by
  rw [noteBad, if_neg (by omega)]

/-- A detection outside the cores' memories, by what it discards and what mends it. -/
theorem parityFound_eq {h : ParityHit} {s u : State} (hstore : h.store ≠ 0x0F ∧ h.store ≠ 0x10) (hdrop : parityDrop h s = u)
    (hphase : u.boot.phase = .running) : ∃ v c q x, parityFound h s = { (parityMend h u).2 with evt := v, crl := c, arr.queue := q, host := x } := by
  have hsame := noteBad_else hstore h.addr s
  rw [parityFound_acts hstore.1 (by rw [hsame, hdrop]; exact hphase), hsame, hdrop]
  exact parityAct_eq h u

/-- A detection that only discards the frame in processing. -/
theorem parityFound_discards {h : ParityHit} {s : State} (hstore : h.store ≠ 0x0F ∧ h.store ≠ 0x10) (hphase : s.boot.phase = .running)
    (hmend : ∀ u, (parityMend h u).2 = u) (hdrop : ∃ c k m e d, parityDrop h s = { s with
      cal := c, chn.cur.kind := k, mem := m, elec := e, chn.prev.dcause := d } ∧ (s.chn.prev.dcause = 0 → d = 2))
    (hgood : s.chn.prev.dcause = 0) : (parityFound h s).chn.prev.dcause = 2 := by
  obtain ⟨c, k, m, e, d, hdrop, hd⟩ := hdrop
  obtain ⟨v, c', q, x, hfound⟩ := parityFound_eq hstore hdrop hphase
  rw [hfound, hmend]
  exact hd hgood

/-- Outside the listen data a fault of store 3 is the frame in processing's. -/
theorem listenFault_else {addr : Nat} (h : ¬(listenData ≤ addr ∧ addr < baseSelf)) (s : State) : listenFault addr s = discardAcquired s := by
  rw [listenFault, if_neg]
  simp [decide_eq_false h]

/-- The listen data of a frame that is scanned discard that frame. -/
theorem listenFault_scanned {addr : Nat} {s : State} (h : listenData ≤ addr ∧ addr < baseSelf) (hscan : s.scans = true) (hseg : s.chn.seg = 3)
    (hgood : s.chn.cur.dcause = 0) : ∃ m, listenFault addr s = { s with chn.cur.listenBad := true, chn.cur.dcause := 2, mem := m } := by
  have hcond : (decide (listenData ≤ addr ∧ addr < baseSelf) && s.scans && (s.chn.seg == 3 || (s.chn.seg == 4 && !s.chn.cur.noiseOk))) = true := by
    rw [decide_eq_true h, hscan, hseg]
    rfl
  obtain ⟨m, hm⟩ := setHdrFlag_eq s.chn.cur.epoch 1 (discardCur 2 { s with chn.cur.listenBad := true })
  refine ⟨m, ?_⟩
  rw [listenFault, if_pos hcond, hm, discardCur]
  dsimp only
  rw [hgood]
  rfl

/-- A damaged RETAINED entry is erased (10 R303). -/
theorem journalFault_retained {s : State} {i : Nat} (h : (s.jrn[i]?).map (·.stage) = some .retained) : (journalFault i s).jrn = s.jrn.eraseIdx i := by
  obtain ⟨e, he, hstage⟩ := Option.map_eq_some_iff.mp h
  unfold journalFault
  rw [he]
  dsimp only
  rw [hstage]

/-- A damaged held report is lost (18 R482). -/
theorem holdDrop_eq (s : State) (index addr : Nat) : ∃ u, parityDrop { store := 0x13, index := index, addr := addr } s = u ∧ u.boot = s.boot ∧
    u.rpt.hold = s.rpt.hold.eraseIdx index ∧ u.rpt.lost = if index < s.rpt.hold.length then (s.rpt.lost + 1) % 2 ^ 32 else s.rpt.lost := by
  have hdef : parityDrop { store := 0x13, index := index, addr := addr } s = if index < s.rpt.hold.length then
      endEpisode (storeHold { s with rpt.hold := s.rpt.hold.eraseIdx index, rpt.lost := add32 s.rpt.lost 1 }) else s := rfl
  refine ⟨_, rfl, ?_⟩
  rw [hdef]
  split
  next hin =>
    obtain ⟨m, hs⟩ := storeHold_eq { s with rpt.hold := s.rpt.hold.eraseIdx index, rpt.lost := add32 s.rpt.lost 1 }
    rw [hs]
    obtain ⟨v, c, q, n, he⟩ := endEpisode_eq { s with rpt.hold := s.rpt.hold.eraseIdx index, rpt.lost := add32 s.rpt.lost 1, mem := m }
    rw [he]
    exact ⟨rfl, rfl, rfl⟩
  next hout =>
    rw [List.eraseIdx_of_length_le (Nat.not_lt.mp hout)]
    exact ⟨rfl, rfl, rfl⟩

/-! ### The restart of core 0 -/

theorem recoveryTrap_boot (s : State) : (recoveryTrap s).boot = { s.boot with phase := .restart, ready := false, reload := false, fwRetried := false } := by
  unfold recoveryTrap restartCore0
  dsimp only
  split
  · obtain ⟨c, q, h⟩ := sendMsg_eq 1 0 (.ready 0) { s with
      boot.phase := .restart, boot.ready := false, boot.reload := false, boot.fwRetried := false
      core0 := { s.core0 with brm := true, ie := false, exc := false, level := 0, vbase := 0x1000#32, pc := 0x100#32, ld := none,
                              slot := [], waiting := false } }
    rw [h]
  · rfl

/-- The boot state, core 0 and memory: what the journal's handling after a restart leaves. -/
def State.restarted (s : State) : Boot × Core × Memory := (s.boot, s.core0, s.mem)

theorem replayIssued_restarted (e : JEntry) (s : State) : (replayIssued e s).restarted = s.restarted := by
  have habandon : ∀ j, (abandonCheck j s).restarted = s.restarted := fun j => by
    unfold abandonCheck
    refine (foldl_keeps State.restarted (fun t g => ?_) _ _).trans rfl
    obtain ⟨x, c, q, h⟩ := dropCheck_eq g t
    rw [h]
    rfl
  unfold replayIssued
  split
  · rfl
  · split
    · split
      · rfl
      · exact habandon _
    · split <;> rfl

/-- The detections that a restart deferred are mended and posted (18 R485). -/
def deferredParity (s : State) : State :=
  let t := if s.boot.restartPar then parityEvent 0x0F 0 10 { s with boot.restartPar := false } else s
  (t.boot.parWait.filter (·.store == 0x0B) ++ t.boot.parWait.filter (·.store != 0x0B)).foldl (fun u h => parityAct h u)
    { t with boot.parWait := [] }

/-- With none deferred there is the event of the restart's own detection at most. -/
theorem deferredParity_none {s : State} (h : s.boot.parWait = []) : ∃ w c q x b, deferredParity s =
    { s with evt := w, crl := c, arr.queue := q, host := x, boot.restartPar := b, boot.parWait := [] } := by
  have hrest : ∀ t : State, t.boot.parWait = [] → (t.boot.parWait.filter (·.store == 0x0B) ++ t.boot.parWait.filter (·.store != 0x0B)).foldl
      (fun u h => parityAct h u) { t with boot.parWait := [] } = { t with boot.parWait := [] } := fun t ht => by rw [ht]; rfl
  unfold deferredParity
  dsimp only
  split
  · obtain ⟨w, c, q, x, he⟩ := parityEvent_eq 0x0F 0 10 { s with boot.restartPar := false }
    rw [he]
    exact ⟨w, c, q, x, false, hrest _ h⟩
  · rw [hrest s h]
    exact ⟨s.evt, s.crl, s.arr.queue, s.host, s.boot.restartPar, rfl⟩

/-- Firmware that is loaded again runs from the start of code SRAM; what the journal and the deferred detections then do leaves that. -/
theorem finishRestart_spec {s : State} (hmember : s.isMember = false) (hwait : s.boot.parWait = []) :
    ((finishRestart s).boot.phase = .running ∧ (finishRestart s).boot.ready = true ∧ (finishRestart s).boot.fwLen = s.boot.fwLen ∧
      (finishRestart s).boot.fwCrc = s.boot.fwCrc) ∧
    ((finishRestart s).core0.pc = 0x10000000#32 ∧ (finishRestart s).core0.brm = false) ∧ (finishRestart s).mem = s.mem := by
  let u := startImage { s with boot.phase := .running, boot.ready := true, boot.fwvalid := true, boot.reload := false
                               parBad := s.parBad.filter (fun a => storeAt s a != 0x0F) }
  let owes (e : JEntry) : JEntry := { e with redo := e.redo || e.stage == .issued || e.stage == .applied }
  let v := startReplay (u.jrn.foldl (fun u e => replayIssued e u) { u with jrn := u.jrn.map owes })
  have hv : v.restarted = u.restarted := by
    have hstart : ∀ x : State, (startReplay x).restarted = x.restarted := fun x => by unfold startReplay; split <;> rfl
    exact (hstart _).trans (foldl_keeps State.restarted (fun t e => replayIssued_restarted e t) _ _)
  have hdef : finishRestart s = deferredParity v := by
    unfold finishRestart
    dsimp only
    split
    next hm => exact absurd (show s.isMember = true from hm) (by simp [hmember])
    next => rfl
  have hboot : v.boot = u.boot := congrArg Prod.fst hv
  obtain ⟨w, c, q, x, b, hfinish⟩ := deferredParity_none (s := v) (by rw [hboot]; exact hwait)
  have hcore : v.core0 = u.core0 := congrArg (fun p => p.2.1) hv
  have hmem : v.mem = u.mem := congrArg (fun p => p.2.2) hv
  rw [hdef, hfinish]
  dsimp only
  rw [hboot, hcore, hmem]
  exact ⟨⟨rfl, rfl, rfl, rfl⟩, ⟨rfl, rfl⟩, rfl⟩

/-- The loader's answer stands in the management port. -/
theorem loaderReply_eq (status : Nat) (s : State) : ∃ w, loaderReply status s = { s with twm := w } := by
  have hput : ∀ (b : Byte) (s : State), ∃ w, twmMboxPut b s = { s with twm := w } := fun b s => by
    unfold twmMboxPut
    split
    · exact setAlert_eq 2 s
    · obtain ⟨w, h⟩ := setAlert_eq 2 { s with twm.out := s.twm.out ++ [b] }
      exact ⟨w, h⟩
  obtain ⟨w1, h1⟩ := hput 0xB0#8 s
  obtain ⟨w2, h2⟩ := hput (BitVec.ofNat 8 status) { s with twm := w1 }
  obtain ⟨w3, h3⟩ := hput 0 { s with twm := w2 }
  obtain ⟨w4, h4⟩ := hput 0 { s with twm := w3 }
  exact ⟨w4, by rw [loaderReply, h1, h2, h3, h4]⟩

end Sys2Proof.Machine

open Sys2Proof Sys2Proof.Machine

/-- Settles O33: a detection is its capture, then its store's discard and mending; a restart ends in the image or the loader. -/
theorem parityHitsAndRestartTakeEffect : Obligations.ParityHitsAndRestartTakeEffect := by
  intro store index addr fw b s hm hit
  have hphase : s.fwRuns = true → s.boot.phase = .running := fun h => by
    simp only [State.fwRuns, Bool.and_eq_true, beq_iff_eq] at h
    exact h.2
  refine ⟨fun hfw hact => ⟨?_, fun hnew => ?_, fun hvalid => ?_, fun hstore hgood => ?_, fun hstore hlo hhi hscan hseg hgood => ?_,
    fun hstore => ?_, fun hstore => ?_, fun hstore hret => ?_, fun hstore => ?_, fun hstore => ?_⟩, fun hphase' hmember hclk => ⟨fun hsource hwait hfw' => ?_, fun hsource => ?_⟩⟩
  · change execScrubRead [] s = _
    rw [execScrubRead, if_neg (by simp [hfw, hact])]
    exact answer_of_eq s _ hm rfl rfl
  · obtain ⟨i, k, hcap, hfirst, -⟩ := captureParity_eq store addr s
    refine completes_answer (exec_scrubRead_hit hfw hact _) ?_
    dsimp only
    rw [parityFound_icu, hcap]
    exact hfirst hnew
  · obtain ⟨i, k, hcap, -, hagain⟩ := captureParity_eq store addr s
    refine completes_answer (exec_scrubRead_hit hfw hact _) ?_
    dsimp only
    rw [parityFound_icu, hcap]
    exact hagain hvalid
  · obtain ⟨i, k, hcap, -, -⟩ := captureParity_eq store addr s
    refine completes_answer (exec_scrubRead_hit hfw hact _) ?_
    dsimp only
    have hgood' : (captureParity store addr s).chn.prev.dcause = 0 := by rw [hcap]; exact hgood
    have hphase' : (captureParity store addr s).boot.phase = .running := by rw [hcap]; exact hphase hfw
    obtain rfl | rfl | ⟨rfl, hout⟩ := hstore
    · exact parityFound_discards (by simp) hphase' (fun _ => rfl) (discardAcquired_eq _) hgood'
    · exact parityFound_discards (by simp) hphase' (fun _ => rfl) (discardParity_eq _) hgood'
    · refine parityFound_discards (by simp) hphase' (fun _ => rfl) ?_ hgood'
      have hdrop := discardAcquired_eq (captureParity 0x03 addr s)
      rw [← listenFault_else hout] at hdrop
      exact hdrop
  · obtain ⟨i, k, hcap, -, -⟩ := captureParity_eq store addr s
    subst hstore
    refine completes_answer (exec_scrubRead_hit hfw hact _) ?_
    dsimp only
    rw [hcap]
    obtain ⟨m, hdrop⟩ := listenFault_scanned (s := { s with icu := i, clk.mergeIcu := k }) ⟨hlo, hhi⟩ hscan hseg hgood
    obtain ⟨v, c, q, x, hfound⟩ := parityFound_eq (h := { store := 0x03, index := index, addr := addr }) (by simp) hdrop (hphase hfw)
    rw [hfound]
    exact ⟨rfl, rfl⟩
  · obtain ⟨i, k, hcap, -, -⟩ := captureParity_eq store addr s
    subst hstore
    refine completes_answer (exec_scrubRead_hit hfw hact _) ?_
    dsimp only
    rw [hcap]
    obtain ⟨e, hdrop⟩ := selfLost_eq { s with icu := i, clk.mergeIcu := k }
    obtain ⟨v, c, q, x, hfound⟩ := parityFound_eq (h := { store := 0x07, index := index, addr := addr }) (by simp) hdrop (hphase hfw)
    rw [hfound]
    exact ⟨rfl, rfl⟩
  · obtain ⟨i, k, hcap, -, -⟩ := captureParity_eq store addr s
    subst hstore
    refine completes_answer (exec_scrubRead_hit hfw hact _) ?_
    dsimp only
    rw [hcap]
    obtain ⟨cal, kd, m, e, d, hdrop, -⟩ := discardParity_eq { s with icu := i, clk.mergeIcu := k }
    obtain ⟨v, c, q, x, hfound⟩ := parityFound_eq (h := { store := 0x09, index := index, addr := addr }) (by simp) hdrop (hphase hfw)
    rw [hfound]
    rfl
  · obtain ⟨i, k, hcap, -, -⟩ := captureParity_eq store addr s
    subst hstore
    refine completes_answer (exec_scrubRead_hit hfw hact _) ?_
    dsimp only
    rw [hcap]
    obtain ⟨v, c, q, x, hfound⟩ := parityFound_eq (h := { store := 0x0D, index := index, addr := addr })
      (s := { s with icu := i, clk.mergeIcu := k }) (by simp) rfl (hphase hfw)
    rw [hfound]
    exact journalFault_retained (s := { s with icu := i, clk.mergeIcu := k }) hret
  · obtain ⟨i, k, hcap, -, -⟩ := captureParity_eq store addr s
    subst hstore
    refine completes_answer (exec_scrubRead_hit hfw hact _) ?_
    dsimp only
    rw [hcap]
    have hfound : parityFound { store := 0x0F, index := index, addr := addr } { s with icu := i, clk.mergeIcu := k } =
        recoveryTrap { noteBad 0x0F addr { s with icu := i, clk.mergeIcu := k } with boot.restartPar := true } := rfl
    have hcore : ∀ u : State, (noteBad 0x0F addr u).core0 = u.core0 := fun u => by unfold noteBad; split <;> rfl
    rw [hfound, recoveryTrap_core0, recoveryTrap_boot]
    exact ⟨rfl, rfl, rfl, rfl, rfl, rfl, rfl⟩
  · obtain ⟨i, k, hcap, -, -⟩ := captureParity_eq store addr s
    subst hstore
    refine completes_answer (exec_scrubRead_hit hfw hact _) ?_
    dsimp only
    rw [hcap]
    obtain ⟨u, hdrop, hboot, hhold, hlost⟩ := holdDrop_eq { s with icu := i, clk.mergeIcu := k } index addr
    obtain ⟨v, c, q, x, hfound⟩ := parityFound_eq (h := { store := 0x13, index := index, addr := addr }) (by simp) hdrop
      (by rw [hboot]; exact hphase hfw)
    rw [hfound]
    exact ⟨hhold, hlost⟩
  · obtain ⟨bus, hbus⟩ := State.onBus_eq s.firmwareRead s
    let u : State := { ({ s with out.bus := bus } : State).put codeBase b with boot.fwLen := b.length, boot.fwCrc := crc32 b }
    obtain ⟨⟨hrun, hready, hlen, hcrc⟩, ⟨hpc, hbrm⟩, hmem⟩ := finishRestart_spec (s := u) hmember hwait
    refine completes_answer (t := finishRestart u) ?_ ⟨hrun, hready, hpc, hbrm, hlen, hcrc, fun i hi => ?_⟩
    · change execCore0RestartComplete fw s = _
      rw [execCore0RestartComplete, if_neg (by simp [hphase', hmember, hclk])]
      dsimp only
      rw [if_pos hsource, hbus]
      dsimp only
      rw [if_pos hsource, hfw']
    · refine (Memory.byte_canon _ _).trans ?_
      rw [hmem]
      exact Memory.byte_write_inside s.mem _ _ hi
  · obtain ⟨w, hreply⟩ := loaderReply_eq 4 { s with boot.phase := .loader, boot.load := none, boot.ready := false, boot.fwvalid := false, boot.reload := true }
    refine completes_answer (t := enterLoader { s with boot.reload := true }) ?_ ?_
    · change execCore0RestartComplete fw s = _
      rw [execCore0RestartComplete, if_neg (by simp [hphase', hmember, hclk])]
      dsimp only
      rw [if_neg hsource, if_neg hsource]
    · rw [enterLoader]
      dsimp only
      rw [hreply]
      exact ⟨rfl, rfl, rfl⟩
end

section
/-! The management port (17 R454 to R462, R476): transactions, the registers that act, and the alerts. -/

namespace Sys2Proof.Machine

theorem bit_eq_testBit (v i : Nat) : bit v i = v.testBit i := by
  rw [Nat.testBit_eq_decide_div_mod_eq, bit, beq_eq_decide]

/-- A wake source that is set out is on its way. -/
theorem mem_wakeSource (code : Nat) (s : State) : code ∈ (wakeSource code s).pwr.wakeDue := by
  unfold wakeSource
  dsimp only
  split
  next hmerged =>
    have hpos : 0 < (s.pwr.wakeDue.filter (· == code)).length := by omega
    obtain ⟨x, hx⟩ := List.length_pos_iff_exists_mem.mp hpos
    obtain ⟨hin, heq⟩ := List.mem_filter.mp hx
    rw [beq_iff_eq] at heq
    subst heq
    split <;> exact hin
  next => simp

/-- One that nothing of its own waits for joins the requests alone. -/
theorem wakeSource_first {code : Nat} {s : State} (h : code ∉ s.pwr.wakeDue) :
    wakeSource code s = { s with pwr.wakeDue := s.pwr.wakeDue ++ [code] } := by
  have hnone : s.pwr.wakeDue.filter (· == code) = [] := by
    rw [List.filter_eq_nil_iff]
    intro x hx heq
    rw [beq_iff_eq] at heq
    exact h (heq ▸ hx)
  unfold wakeSource
  rw [hnone]
  rfl

/-! ### Registers -/

theorem clearLimp_eq (s : State) : ∃ p, clearLimp s = { s with pwr := p } := by
  unfold clearLimp
  split
  · exact ⟨_, rfl⟩
  · dsimp only
    split <;> exact ⟨_, rfl⟩

theorem indataByte_eq (b : Byte) (s : State) :
    indataByte b s = { s with twm.inb := if s.twm.inb.length < 64 then s.twm.inb ++ [b] else s.twm.inb } := by
  unfold indataByte
  split
  next hfull => rw [if_neg (by omega)]
  next hroom => rw [if_pos (by omega)]

theorem insendWrite_eq (v : Byte) (s : State) : insendWrite v s = { s with
    twm.msg := if v.getLsbD 0 then s.twm.inb else s.twm.msg, twm.inb := if v.getLsbD 0 then [] else s.twm.inb } := by
  unfold insendWrite
  split <;> rfl

theorem twmWakeWrite_eq (b : Byte) (s : State) : ∃ d m, twmWakeWrite b s = { s with pwr.wakeDue := d, clk.mergeWake := m } := by
  unfold twmWakeWrite
  split
  · exact wakeSource_eq 0x21 s
  · exact ⟨s.pwr.wakeDue, s.clk.mergeWake, rfl⟩

theorem limpclrWrite_eq (b : Byte) (s : State) : ∃ p, limpclrWrite b s = { s with pwr := p } := by
  unfold limpclrWrite
  split
  · exact clearLimp_eq s
  · exact ⟨s.pwr, rfl⟩

theorem twmServes_clk {s : State} (h : s.twmServes = true) : s.clk.core = true := by
  simp only [State.twmServes, Bool.and_eq_true] at h
  exact h.1.2

/-- A raised line ends a change that memory and the queue outlive. -/
theorem raise_answer {s t : State} (hm : s.memOk) (n : Nat) (hmem : t.mem = s.mem) (hpend : t.pending = s.pending) :
    answer s (raise n t) = .next (raise n t) := by
  obtain ⟨src, c, last, held, k, h⟩ := raise_eq n t
  rw [h]
  exact answer_of_eq s _ hm hmem hpend

/-- A raised line while CLK_BUS runs changes the interrupt unit alone. -/
theorem raise_icu {s : State} (hclk : s.clk.core = true) (n : Nat) : ∃ i, raise n s = { s with icu := i } := by
  obtain ⟨src, c, l, h⟩ := arrive_eq n s
  exact ⟨{ s.icu with src := src, undCount := c, undSrc := l }, by rw [raise, if_pos hclk, h]⟩

/-- What a written register makes of the port (17 R456). -/
theorem twmRegWrite_twm (p : Nat) (b : Byte) (s : State) :
    (twmRegWrite p b s).twm.acked = s.twm.acked ∧ (p = 0x05 → (twmRegWrite p b s).twm.alertEn = b.toNat % 32) ∧
      (p = 0x18 → (twmRegWrite p b s).twm.slope = b.toNat % 4) ∧
      (p = 0x13 → (twmRegWrite p b s).twm.inb = if s.twm.inb.length < 64 then s.twm.inb ++ [b] else s.twm.inb) ∧
      (p ≠ 0x05 → (twmRegWrite p b s).twm.alertEn = s.twm.alertEn) := by
  unfold twmRegWrite
  split
  · exact ⟨rfl, nofun, nofun, nofun, fun _ => rfl⟩
  · exact ⟨rfl, fun _ => rfl, nofun, nofun, fun h => absurd rfl h⟩
  · obtain ⟨d, m, h⟩ := twmWakeWrite_eq b s
    rw [h]
    exact ⟨rfl, nofun, nofun, nofun, fun _ => rfl⟩
  · obtain ⟨q, h⟩ := limpclrWrite_eq b s
    rw [h]
    exact ⟨rfl, nofun, nofun, nofun, fun _ => rfl⟩
  · rw [indataByte_eq]
    exact ⟨rfl, nofun, nofun, fun _ => rfl, fun _ => rfl⟩
  · rw [insendWrite_eq]
    exact ⟨rfl, nofun, nofun, nofun, fun _ => rfl⟩
  · exact ⟨rfl, nofun, fun _ => rfl, nofun, fun _ => rfl⟩
  · exact ⟨rfl, fun h => absurd h (by assumption), fun h => absurd h (by assumption), fun h => absurd h (by assumption), fun _ => rfl⟩

/-- What a read does to the port beside (17 R455). -/
theorem twmRegReadEffect_twm (p : Nat) (s : State) :
    (twmRegReadEffect p s).twm.reply = s.twm.reply ∧
      (p = 0x0A → (twmRegReadEffect p s).twm.epochB = [s.epoch / 2 ^ 8 % 256, s.epoch / 2 ^ 16 % 256, s.epoch / 2 ^ 24 % 256]) ∧
      (p = 0x11 → (twmRegReadEffect p s).twm.out = s.twm.out.tail) ∧ (p ≠ 0x11 → (twmRegReadEffect p s).twm.out = s.twm.out) := by
  unfold twmRegReadEffect
  split
  · exact ⟨rfl, nofun, nofun, fun _ => rfl⟩
  · exact ⟨rfl, fun _ => rfl, nofun, fun _ => rfl⟩
  · exact ⟨rfl, nofun, fun _ => rfl, fun h => absurd rfl h⟩
  · exact ⟨rfl, fun h => absurd h (by assumption), fun h => absurd h (by assumption), fun _ => rfl⟩

/-! ### Alerts -/

theorem bit_alertStat_mbox (s : State) : bit (alertStat s) 2 = s.twm.alertMbox := by
  unfold alertStat
  cases s.twm.alertWake <;> cases s.twm.alertDual <;> cases s.twm.alertMbox <;> cases s.twm.alertSetdef <;> cases s.twm.alertRestart <;> rfl

/-- The flags after one alert is set, and what it leaves. -/
theorem setAlert_flags (b : Nat) (s : State) :
    (setAlert b s).twm.alertWake = (s.twm.alertWake || b == 0) ∧ (setAlert b s).twm.alertDual = (s.twm.alertDual || b == 1) ∧
      (setAlert b s).twm.alertMbox = (s.twm.alertMbox || b == 2) ∧ (setAlert b s).twm.alertSetdef = (s.twm.alertSetdef || b == 3) ∧
      (setAlert b s).twm.alertRestart = (s.twm.alertRestart || decide (4 ≤ b)) ∧ (setAlert b s).twm.alertEn = s.twm.alertEn ∧
      (setAlert b s).twm.out = s.twm.out ∧ (s.twm.alertPin = true → (setAlert b s).twm.alertPin = true) := by
  obtain rfl | rfl | rfl | rfl | ⟨n, rfl⟩ : b = 0 ∨ b = 1 ∨ b = 2 ∨ b = 3 ∨ ∃ n, b = n + 4 := by
    rcases Nat.lt_or_ge b 4 with h | h
    · omega
    · exact .inr (.inr (.inr (.inr ⟨b - 4, by omega⟩)))
  all_goals
    unfold setAlert
    dsimp only
    split <;> simp

theorem setAlert_pin {s : State} (hnew : s.twm.alertMbox = false) (hen : s.twm.alertEn.testBit 2 = true) : (setAlert 2 s).twm.alertPin = true := by
  unfold setAlert
  dsimp only
  rw [if_pos (by rw [bit_alertStat_mbox, bit_eq_testBit, hnew, hen]; rfl)]

/-- The flags after a list of alerts. -/
theorem foldl_setAlert (l : List Nat) (s : State) :
    let t := l.foldl (fun t b => setAlert b t) s
    t.twm.alertWake = (s.twm.alertWake || l.contains 0) ∧ t.twm.alertDual = (s.twm.alertDual || l.contains 1) ∧
      t.twm.alertMbox = (s.twm.alertMbox || l.contains 2) ∧ t.twm.alertSetdef = (s.twm.alertSetdef || l.contains 3) ∧
      t.twm.alertRestart = (s.twm.alertRestart || l.any (4 ≤ ·)) ∧
      (s.twm.alertMbox = false → s.twm.alertEn.testBit 2 = true → 2 ∈ l → t.twm.alertPin = true) ∧
      (s.twm.alertPin = true → t.twm.alertPin = true) ∧ ∃ w, t = { s with twm := w } := by
  induction l generalizing s with
  | nil => exact ⟨by simp, by simp, by simp, by simp, by simp, fun _ _ h => absurd h List.not_mem_nil, id, s.twm, rfl⟩
  | cons b l ih =>
    obtain ⟨hwake, hdual, hmbox, hset, hrestart, hen, -, hpin⟩ := setAlert_flags b s
    obtain ⟨hwake', hdual', hmbox', hset', hrestart', hnew', hpin', w', hw'⟩ := ih (setAlert b s)
    obtain ⟨w, hw⟩ := setAlert_eq b s
    have hcomm : ∀ k, (b == k) = (k == b) := fun k => BEq.comm
    dsimp only at hwake' hdual' hmbox' hset' hrestart' hnew' hpin' hw' ⊢
    rw [List.foldl_cons]
    refine ⟨?_, ?_, ?_, ?_, ?_, fun hno hmask hin => ?_, fun h => hpin' (hpin h), w', by rw [hw', hw]⟩
    · rw [hwake', hwake, List.contains_cons, Bool.or_assoc, hcomm]
    · rw [hdual', hdual, List.contains_cons, Bool.or_assoc, hcomm]
    · rw [hmbox', hmbox, List.contains_cons, Bool.or_assoc, hcomm]
    · rw [hset', hset, List.contains_cons, Bool.or_assoc, hcomm]
    · rw [hrestart', hrestart, List.any_cons, Bool.or_assoc]
    · by_cases hb : b = 2
      · subst hb
        exact hpin' (setAlert_pin hno hmask)
      · refine hnew' ?_ (by rw [hen]; exact hmask) ((List.mem_cons.mp hin).resolve_left (Ne.symm hb))
        rw [hmbox, hno]
        simp [hb]

theorem mem_bitsOf {n v i : Nat} (h : i < n) : (bitsOf n v).contains i = bit v i := by
  rw [Bool.eq_iff_iff, List.contains_iff_mem, bitsOf, List.mem_filter, List.mem_range]
  exact ⟨And.right, fun hb => ⟨h, hb⟩⟩

/-- ASET sets the alerts of its bits (17 R476). -/
theorem twmAset_spec (v : Word) (s : State) :
    let t := twmAset v.toNat s
    t.twm.alertWake = (s.twm.alertWake || v.getLsbD 0) ∧ t.twm.alertDual = (s.twm.alertDual || v.getLsbD 1) ∧
      t.twm.alertMbox = (s.twm.alertMbox || v.getLsbD 2) ∧ t.twm.alertSetdef = (s.twm.alertSetdef || v.getLsbD 3) ∧
      t.twm.alertRestart = (s.twm.alertRestart || v.getLsbD 4) ∧
      (s.twm.alertMbox = false → s.twm.alertEn.testBit 2 = true → v.getLsbD 2 = true → t.twm.alertPin = true) ∧
      (s.twm.alertPin = true → t.twm.alertPin = true) ∧ ∃ w, t = { s with twm := w } := by
  obtain ⟨hwake, hdual, hmbox, hset, hrestart, hnew, hpin, hw⟩ := foldl_setAlert (bitsOf 5 v.toNat) s
  have hbit : ∀ i, i < 5 → (bitsOf 5 v.toNat).contains i = v.getLsbD i := fun i hi => (mem_bitsOf hi).trans (bit_eq_getLsbD v i)
  have hfour : (bitsOf 5 v.toNat).any (4 ≤ ·) = v.getLsbD 4 := by
    rw [← hbit 4 (by decide), Bool.eq_iff_iff, List.any_eq_true, List.contains_iff_mem]
    constructor
    · rintro ⟨x, hx, hle⟩
      have hlt : x < 5 := List.mem_range.mp (List.mem_filter.mp hx).1
      have hle' : 4 ≤ x := of_decide_eq_true hle
      obtain rfl : x = 4 := by omega
      exact hx
    · exact fun h => ⟨4, h, by decide⟩
  refine ⟨hwake.trans (by rw [hbit 0 (by decide)]), hdual.trans (by rw [hbit 1 (by decide)]), hmbox.trans (by rw [hbit 2 (by decide)]),
    hset.trans (by rw [hbit 3 (by decide)]), hrestart.trans (by rw [hfour]), fun hno hen hv => hnew hno hen ?_, hpin, hw⟩
  rw [← List.contains_iff_mem, hbit 2 (by decide)]
  exact hv

end Sys2Proof.Machine

open Sys2Proof Sys2Proof.Machine

/-- Settles O34: a transaction is the port's state and its pointer; a register that acts is its own rule, then source 32 is raised. -/
theorem managementPortServesAndActs : Obligations.ManagementPortServesAndActs := by
  refine ⟨fun read b s hm => ?_, fun b v w lowest s hm => ⟨fun hserves => ⟨?_, ?_, ?_, ?_, ?_⟩, fun hclk => ⟨?_, fun hroom => ?_, ?_⟩, fun hpin => ?_,
    fun hpin haddr hlow => ?_, fun hpin hlow => ?_⟩⟩
  · intro held serves onward
    refine ⟨fun hheld hstate => ?_, fun hheld hstate => ?_, fun hheld hlimp hstate => ?_, fun hstate => ?_, ?_, ?_, ?_, ?_⟩
    · change execTwmAddressMatch read s = _
      unfold execTwmAddressMatch
      dsimp only
      rw [if_pos (by rw [State.coreInReset, show (s.boot.phase == .held || s.boot.phase == .failed) = true from hheld]; simpa using hstate)]
      exact answer_of_eq s _ hm rfl rfl
    · change execTwmAddressMatch read s = _
      unfold execTwmAddressMatch
      dsimp only
      rw [if_neg (by rw [State.coreInReset, show (s.boot.phase == .held || s.boot.phase == .failed) = false from hheld]; simp)]
      obtain ⟨hlimp, hst⟩ | hst | hst := hstate
      · rw [hst]
        dsimp only
        rw [if_pos hlimp]
        exact answer_of_eq s _ hm rfl rfl
      · rw [hst]
        exact answer_of_eq s _ hm rfl rfl
      · rw [hst]
        exact answer_of_eq s _ hm rfl rfl
    · refine completes_answer (i := .twmAddressMatch read) (t := if s.pwr.wakeEn.testBit 6 then wakeSource 0x20 { s with
          twm.active := true, twm.first := !read, twm.dead := false, twm.stretch := !s.clk.core, twm.acked := true }
        else { s with twm.active := false, twm.first := false, twm.dead := false, twm.stretch := false, twm.acked := false }) ?_ ?_
      · change execTwmAddressMatch read s = _
        unfold execTwmAddressMatch
        dsimp only
        rw [if_neg (by rw [State.coreInReset, show (s.boot.phase == .held || s.boot.phase == .failed) = false from hheld]; simp), hstate]
        dsimp only
        rw [if_neg (by simp [hlimp]), bit_eq_testBit]
        rfl
      · split
        next hen =>
          have hin := mem_wakeSource 0x20 { s with
            twm.active := true, twm.first := !read, twm.dead := false, twm.stretch := !s.clk.core, twm.acked := true }
          obtain ⟨d, m, hw⟩ := wakeSource_eq 0x20 { s with
            twm.active := true, twm.first := !read, twm.dead := false, twm.stretch := !s.clk.core, twm.acked := true }
          rw [hw] at hin ⊢
          exact ⟨hen.symm, hen.symm, by rw [hen]; rfl, fun _ => hin⟩
        next hen =>
          have hen' : s.pwr.wakeEn.testBit 6 = false := by simpa using hen
          exact ⟨hen'.symm, hen'.symm, by rw [hen']; rfl, fun h => absurd h hen⟩
    · refine completes_answer (i := .twmAddressMatch read) (t := if s.pwr.wakeEn.testBit 6 then wakeSource 0x20 { s with
          twm.active := false, twm.first := false, twm.dead := false, twm.stretch := false, twm.acked := false }
        else { s with twm.active := false, twm.first := false, twm.dead := false, twm.stretch := false, twm.acked := false }) ?_ ?_
      · change execTwmAddressMatch read s = _
        unfold execTwmAddressMatch
        dsimp only
        rw [if_neg (by simp [hstate]), hstate]
        dsimp only
        rw [bit_eq_testBit]
        rfl
      · split
        next hen =>
          have hin := mem_wakeSource 0x20 { s with
            twm.active := false, twm.first := false, twm.dead := false, twm.stretch := false, twm.acked := false }
          obtain ⟨d, m, hw⟩ := wakeSource_eq 0x20 { s with
            twm.active := false, twm.first := false, twm.dead := false, twm.stretch := false, twm.acked := false }
          rw [hw] at hin ⊢
          exact ⟨rfl, fun _ => hin⟩
        next hen => exact ⟨rfl, fun h => absurd h hen⟩
    · rintro ⟨hheld, hclk, hactive, hdead⟩
      have hserves : s.twmServes = true := by
        rw [State.twmServes, State.coreInReset, show (s.boot.phase == .held || s.boot.phase == .failed) = false from hheld, hclk, hdead]
        rfl
      refine ⟨fun hfirst => ?_, fun hfirst => ?_, ?_⟩
      · change execTwmWriteByte b s = _
        rw [execTwmWriteByte, if_neg (by simp [hactive]), if_neg (by simp [hdead]), if_neg (by simp [hserves])]
        dsimp only
        rw [if_pos hfirst]
        exact answer_of_eq s _ hm rfl rfl
      · obtain ⟨hack, hen, hslope, hin, hother⟩ := twmRegWrite_twm s.twm.ptr b { s with twm.stretch := false, twm.acked := true }
        let u := twmRegWrite s.twm.ptr b { s with twm.stretch := false, twm.acked := true }
        obtain ⟨src, n, last, held', k, hraise⟩ := raise_eq 32 { u with twm.ptr := advancePtr s.twm.ptr }
        refine completes_answer (t := raise 32 { u with twm.ptr := advancePtr s.twm.ptr }) ?_ ?_
        · change execTwmWriteByte b s = _
          rw [execTwmWriteByte, if_neg (by simp [hactive]), if_neg (by simp [hdead]), if_neg (by simp [hserves])]
          dsimp only
          rw [if_neg (by simp [hfirst])]
        rw [hraise]
        exact ⟨rfl, hack, hen, hslope, hin, hother⟩
      · let u : State := { s with twm.stretch := false, twm.reply := BitVec.ofNat 8 (twmRegRead s.twm.ptr s) }
        refine completes_answer (t := { twmRegReadEffect s.twm.ptr u with twm.ptr := advancePtr s.twm.ptr }) ?_ ?_
        · change execTwmReadByte s = _
          rw [execTwmReadByte, if_neg (by simp [hactive]), if_neg (by simp [hdead]), if_neg (by simp [hserves])]
        obtain ⟨hreply, hepoch, hout, hother⟩ := twmRegReadEffect_twm s.twm.ptr u
        refine ⟨rfl, fun h => hreply.trans ?_, fun h => hreply.trans ?_, fun h => hreply.trans ?_, fun h => ⟨hreply.trans ?_, hepoch h⟩,
          fun h => ⟨hreply.trans ?_, hout h⟩, fun h hlen => (congrArg BitVec.toNat hreply).trans ?_, hother⟩
        · change BitVec.ofNat 8 (twmRegRead s.twm.ptr s) = _
          rw [h]
          rfl
        · change BitVec.ofNat 8 (twmRegRead s.twm.ptr s) = _
          rw [h]
          rfl
        · change BitVec.ofNat 8 (twmRegRead s.twm.ptr s) = _
          rw [h]
          rfl
        · change BitVec.ofNat 8 (twmRegRead s.twm.ptr s) = _
          rw [h]
          refine BitVec.eq_of_toNat_eq ?_
          change (s.epoch % 256) % 256 = s.epoch % 256
          omega
        · change BitVec.ofNat 8 (twmRegRead s.twm.ptr s) = _
          rw [h]
          exact BitVec.eq_of_toNat_eq (Nat.mod_eq_of_lt (s.twm.out.headD 0#8).isLt)
        · change (twmRegRead s.twm.ptr s) % 256 = _
          rw [h]
          change (64 - s.twm.inb.length) % 256 = _
          omega
    · rintro hactive hdead
      refine ⟨?_, ?_⟩
      · change execTwmWriteByte b s = _
        rw [execTwmWriteByte, if_neg (by simp [hactive]), if_pos hdead]
        exact answer_of_eq s _ hm rfl rfl
      · change execTwmReadByte s = _
        rw [execTwmReadByte, if_neg (by simp [hactive]), if_pos hdead]
        exact answer_of_eq s _ hm rfl rfl
    · intro hactive
      let u : State := { s with twm.active := false, twm.stretch := false, twm.dead := false, twm.timeout := cnt 8 s.twm.timeout 1 }
      obtain ⟨src, n, last, held', k, hraise⟩ := raise_eq 33 u
      refine completes_answer (t := raise 33 u) ?_ ?_
      · change execTwmSclTimeout s = _
        rw [execTwmSclTimeout, if_pos hactive]
      rw [hraise]
      exact ⟨rfl, rfl⟩
    · intro hstretch hclk
      let u : State := { s with twm.stretch := false, twm.dead := true, twm.timeout := cnt 8 s.twm.timeout 1 }
      obtain ⟨src, n, last, held', k, hraise⟩ := raise_eq 33 u
      refine completes_answer (t := raise 33 u) ?_ ?_
      · change execTwmStretchTimeout s = _
        rw [execTwmStretchTimeout, if_pos (by simp [hstretch, hclk])]
      rw [hraise]
      exact ⟨rfl, rfl, rfl⟩
  · have hclk := twmServes_clk hserves
    obtain ⟨d, m, hwake⟩ := twmWakeWrite_eq b s
    refine ⟨raise 32 (twmWakeWrite b s), ?_, ?_, fun hlen => ?_, ?_, fun hb hnot => ?_, fun hb => ?_⟩
    · change answer s (if s.twmServes then raise 32 (twmWakeWrite b s) else s) = _
      rw [if_pos hserves, hwake]
      exact raise_answer hm 32 rfl rfl
    · obtain ⟨i, hi⟩ := raise_icu (s := twmWakeWrite b s) (by rw [hwake]; exact hclk) 32
      rw [hi, hwake]
    · refine (raise_srcAt (n := 32) (s := twmWakeWrite b s) (by rw [hwake]; exact hclk) (by rw [hwake]; change 32 < s.icu.src.length; omega)
        (by decide)).trans ?_
      rw [hwake]
      rfl
    · obtain ⟨i, hi⟩ := raise_icu (s := twmWakeWrite b s) (by rw [hwake]; exact hclk) 32
      rw [hi, hwake]
    · obtain ⟨i, hi⟩ := raise_icu (s := twmWakeWrite b s) (by rw [hwake]; exact hclk) 32
      rw [hi, twmWakeWrite, if_pos hb, wakeSource_first hnot]
      exact ⟨rfl, rfl⟩
    · obtain ⟨i, hi⟩ := raise_icu (s := twmWakeWrite b s) (by rw [hwake]; exact hclk) 32
      rw [hi, twmWakeWrite, if_neg hb]
      exact ⟨rfl, rfl⟩
  · have hclk := twmServes_clk hserves
    obtain ⟨p, hwrite⟩ := limpclrWrite_eq b s
    have hpwr : (raise 32 (limpclrWrite b s)).pwr = (limpclrWrite b s).pwr := by
      obtain ⟨i, hi⟩ := raise_icu (s := limpclrWrite b s) (by rw [hwrite]; exact hclk) 32
      rw [hi]
    refine ⟨raise 32 (limpclrWrite b s), ?_, ?_, fun hlen => ?_, fun hb hlimp hfloor => hpwr.trans ?_, fun hb hlimp hfloor => hpwr.trans ?_,
      fun hb hlimp => hpwr.trans ?_, fun hb => hpwr.trans ?_⟩
    · change answer s (if s.twmServes then raise 32 (limpclrWrite b s) else s) = _
      rw [if_pos hserves, hwrite]
      exact raise_answer hm 32 rfl rfl
    · obtain ⟨i, hi⟩ := raise_icu (s := limpclrWrite b s) (by rw [hwrite]; exact hclk) 32
      rw [hi, hwrite]
    · refine (raise_srcAt (n := 32) (s := limpclrWrite b s) (by rw [hwrite]; exact hclk) (by rw [hwrite]; change 32 < s.icu.src.length; omega)
        (by decide)).trans ?_
      rw [hwrite]
      rfl
    · rw [limpclrWrite, if_pos hb, clearLimp, if_neg (by simp [hlimp])]
      dsimp only
      rw [if_pos (by omega)]
      obtain h | h : s.pwr.floor = 0 ∨ s.pwr.floor = 1 := by omega
      · simp [h, pstateOf]
      · simp [h, pstateOf]
    · rw [limpclrWrite, if_pos hb, clearLimp, if_neg (by simp [hlimp])]
      dsimp only
      rw [if_neg (by omega)]
    · rw [limpclrWrite, if_pos hb, clearLimp, if_pos (by simp [hlimp])]
    · rw [limpclrWrite, if_neg hb]
  · have hclk := twmServes_clk hserves
    obtain ⟨i, hi⟩ := raise_icu (s := indataByte b s) (by rw [indataByte_eq]; exact hclk) 32
    refine ⟨raise 32 (indataByte b s), ?_, ?_⟩
    · change answer s (if s.twmServes then raise 32 (indataByte b s) else s) = _
      rw [if_pos hserves, indataByte_eq]
      exact raise_answer hm 32 rfl rfl
    rw [hi, indataByte_eq]
    exact ⟨rfl, rfl⟩
  · have hclk := twmServes_clk hserves
    obtain ⟨i, hi⟩ := raise_icu (s := insendWrite v s) (by rw [insendWrite_eq]; exact hclk) 32
    refine ⟨raise 32 (insendWrite v s), ?_, ?_⟩
    · change answer s (if s.twmServes then raise 32 (insendWrite v s) else s) = _
      rw [if_pos hserves, insendWrite_eq]
      exact raise_answer hm 32 rfl rfl
    rw [hi, insendWrite_eq]
    exact ⟨rfl, rfl, rfl⟩
  · change execOutdata s = _
    rw [execOutdata, if_pos hserves]
    exact answer_of_eq s _ hm rfl rfl
  · obtain ⟨hwake, hdual, hmbox, hset, hrestart, hnew, hkeep, x, hx⟩ := twmAset_spec w s
    refine ⟨twmAset w.toNat s, ?_, hwake, hdual, hmbox, hset, hrestart, hnew, hkeep, by rw [hx]⟩
    change execTwmAlertSet w s = _
    rw [execTwmAlertSet, if_pos hclk, hx]
    exact answer_of_eq s _ hm rfl rfl
  · have hput : twmMboxPut b s = setAlert 2 { s with twm.out := s.twm.out ++ [b] } := by rw [twmMboxPut, if_neg (by omega)]
    obtain ⟨x, hx⟩ := setAlert_eq 2 { s with twm.out := s.twm.out ++ [b] }
    obtain ⟨-, -, hmbox, -, -, -, hout, -⟩ := setAlert_flags 2 { s with twm.out := s.twm.out ++ [b] }
    refine ⟨twmMboxPut b s, ?_, by rw [hput]; exact hout, by rw [hput, hmbox]; simp, by rw [hput, hx]⟩
    change execTwmMboxWrite b s = _
    rw [execTwmMboxWrite, if_pos hclk, hput, hx]
    exact answer_of_eq s _ hm rfl rfl
  · change execTwmMboxRead s = _
    rw [execTwmMboxRead, if_pos hclk]
    exact answer_of_eq s _ hm rfl rfl
  · change execAlertResponse lowest s = _
    unfold execAlertResponse
    dsimp only
    rw [if_pos (by simp [hpin])]
    exact answer_of_eq s _ hm rfl rfl
  · refine completes_answer (i := .alertResponse lowest) (t := { s with
      twm.acked := true, twm.reply := BitVec.ofNat 8 (2 * Nat.min (0x28 + s.boot.maddr) lowest), twm.alertPin := false
      twm.ara := cnt 8 s.twm.ara 1 }) ?_ ⟨rfl, ?_, rfl, rfl⟩
    · change execAlertResponse lowest s = _
      unfold execAlertResponse
      dsimp only
      rw [if_neg (by simp [hpin]), if_pos hlow]
    · change (2 * Nat.min (0x28 + s.boot.maddr) lowest) % 256 = _
      rw [show Nat.min (0x28 + s.boot.maddr) lowest = 0x28 + s.boot.maddr from Nat.min_eq_left hlow]
      omega
  · refine completes_answer (i := .alertResponse lowest) (t := { s with
      twm.acked := true, twm.reply := BitVec.ofNat 8 (2 * Nat.min (0x28 + s.boot.maddr) lowest) }) ?_ ⟨hpin, rfl⟩
    change execAlertResponse lowest s = _
    unfold execAlertResponse
    dsimp only
    rw [if_neg (by simp [hpin]), if_neg (by omega)]
end

section
/-! The memory port (17 R463 to R468, R476): transfers in range and out of range, losses, NACKs and recoveries. -/

namespace Sys2Proof.Machine

/-- The port after the recovery before its first transfer (17 R468). -/
def recoveredPort (s : State) : Twc :=
  if s.boot.eepromSel && !s.twc.recovered then { s.twc with recov := cnt 8 s.twc.recov 1, recovered := true } else s.twc

theorem firstRecovery_eq (s : State) : firstRecovery s = { s with twc := recoveredPort s } := by
  unfold firstRecovery recoveredPort busRecovery
  rw [Bool.or_true]
  split <;> rfl

/-- What that recovery leaves and counts. -/
theorem recoveredPort_spec (s : State) :
    ((s.boot.eepromSel = true → (recoveredPort s).recovered = true) ∧
      (recoveredPort s).recov = if s.boot.eepromSel = true ∧ s.twc.recovered = false then min (s.twc.recov + 1) 255 else s.twc.recov) ∧
    (recoveredPort s).busy = s.twc.busy ∧ (recoveredPort s).arblost = s.twc.arblost ∧ (recoveredPort s).nack = s.twc.nack := by
  unfold recoveredPort
  split
  next h =>
    have h' : s.boot.eepromSel = true ∧ s.twc.recovered = false := by simpa using h
    exact ⟨⟨fun _ => rfl, (if_pos h').symm⟩, rfl, rfl, rfl⟩
  next h =>
    have h' : ¬(s.boot.eepromSel = true ∧ s.twc.recovered = false) := by simpa using h
    refine ⟨⟨fun hsel => ?_, (if_neg h').symm⟩, rfl, rfl, rfl⟩
    by_contra hno
    exact h' ⟨hsel, by simpa using hno⟩

/-- The end of a transfer while CLK_BUS runs: BUSY, DONE and RESULT, and the interrupt unit. -/
theorem twcEnd_eq (result : Nat) {s : State} (hclk : s.clk.core = true) : ∃ i, twcEnd result s = { s with
    twc.busy := false, twc.done := true, twc.result := result, icu := i } := by
  obtain ⟨i, h⟩ := raise_icu (s := { s with twc.busy := false, twc.done := true, twc.result := result }) hclk 34
  unfold twcEnd
  dsimp only
  rw [h]
  split
  · obtain ⟨i', h'⟩ := raise_icu (s := { s with twc.busy := false, twc.done := true, twc.result := result, icu := i }) hclk 35
    exact ⟨i', h'⟩
  · exact ⟨i, rfl⟩

/-- A transfer in range, as the port tests it (17 R469, R476). -/
theorem twcRangeOk_iff (s : State) : twcRangeOk s = true ↔
    1 ≤ s.twc.len ∧ s.twc.len ≤ 4096 ∧ s.twc.off + s.twc.len ≤ eepromSize s ∧ (s.twc.dir = true → s.twc.off % 64 + s.twc.len ≤ 64) := by
  rw [twcRangeOk, Bool.and_eq_true, Bool.or_eq_true, decide_eq_true_eq, decide_eq_true_eq, Bool.not_eq_true']
  constructor
  · rintro ⟨⟨hlo, hhi, hsize⟩, hpage⟩
    refine ⟨hlo, hhi, hsize, fun hdir => ?_⟩
    obtain h | h := hpage
    · simp [hdir] at h
    · exact h.2
  · rintro ⟨hlo, hhi, hsize, hpage⟩
    refine ⟨⟨hlo, hhi, hsize⟩, ?_⟩
    cases hdir : s.twc.dir with
    | false => exact .inl rfl
    | true =>
      have := hpage hdir
      exact .inr ⟨by omega, this⟩

/-- The port with the settings that GO brings. -/
def State.portAsked (s : State) (v : Nat) : State :=
  { s with
    twc.dir := bit v 1, twc.speed := if fld v 7 2 = 3 then s.twc.speed else fld v 7 2, twc.slope := fld v 9 2
    twc.done := s.twc.done && !bit v 3 }

/-- GO on an idle port with settings memory: onto the bus, or ended at once (17 R463, R476). -/
theorem twcControl_go {s : State} {v : Word} (hbusy : s.twc.busy = false) (hgo : v.getLsbD 0 = true) (hsel : s.boot.eepromSel = true) :
    twcControl v.toNat s = if twcRangeOk (s.portAsked v.toNat) then
      { s.portAsked v.toNat with twc.busy := true, out.bus := s.out.bus ++ [(s.portAsked v.toNat).busTransfer] }
    else twcEnd 3 (s.portAsked v.toNat) := by
  unfold twcControl
  dsimp only
  rw [if_neg (by simp [bit_eq_getLsbD, hgo, hbusy, hsel])]
  by_cases h : twcRangeOk (s.portAsked v.toNat) = true
  · rw [if_pos h]
    exact if_neg (show ¬(!twcRangeOk (s.portAsked v.toNat)) = true by simp [h])
  · rw [if_neg h]
    exact if_pos (show (!twcRangeOk (s.portAsked v.toNat)) = true by simpa using h)

end Sys2Proof.Machine

open Sys2Proof Sys2Proof.Machine

/-- Settles O35: a transfer is its range test, the recovery before the first, and its end. -/
theorem memoryPortTransfers : Obligations.MemoryPortTransfers := by
  intro v data s hm hclk dir size recovered inRange
  have hdir : (s.portAsked v.toNat).twc.dir = dir := bit_eq_getLsbD v 1
  have hrange : twcRangeOk (s.portAsked v.toNat) = true ↔ inRange := by
    rw [twcRangeOk_iff, hdir]
    rfl
  have hfirst := firstRecovery_eq s
  obtain ⟨hrec, hbusy', harb, hnack⟩ := recoveredPort_spec s
  have hactive : s.twc.busy = true → s.twcActive = true := fun h => by simp [State.twcActive, h]
  refine ⟨fun hbusy hgo hsel => ⟨fun hin => ?_, fun hout => ?_⟩, fun hbusy => ⟨fun hread hlen => ?_, fun hwrite => ?_, ?_, ?_, ?_, ?_, ?_, ?_, ?_⟩,
    fun hact => ⟨?_, ?_⟩, fun hact => ⟨?_, ?_⟩⟩
  · refine ⟨twcControl v.toNat s, ?_, ?_⟩
    · change execTwcTransferStart v s = _
      rw [execTwcTransferStart, if_pos hclk, twcControl_go hbusy hgo hsel, if_pos (hrange.mpr hin)]
      exact answer_of_eq s _ hm rfl rfl
    rw [twcControl_go hbusy hgo hsel, if_pos (hrange.mpr hin)]
    refine ⟨rfl, hdir, rfl, rfl, rfl, rfl, _, rfl, rfl, rfl, hdir, rfl, fun h => ?_⟩
    exact if_pos (hdir.trans h)
  · obtain ⟨i, hend⟩ := twcEnd_eq 3 (s := s.portAsked v.toNat) hclk
    refine ⟨twcControl v.toNat s, ?_, ?_⟩
    · change execTwcTransferStart v s = _
      rw [execTwcTransferStart, if_pos hclk, twcControl_go hbusy hgo hsel, if_neg (fun h => hout (hrange.mp h)), hend]
      exact answer_of_eq s _ hm rfl rfl
    rw [twcControl_go hbusy hgo hsel, if_neg (fun h => hout (hrange.mp h)), hend]
    exact ⟨rfl, rfl, rfl, rfl⟩
  · have hpad : padTo s.twc.len data = data := by rw [padTo, List.take_append_of_le_length (by omega), List.take_of_length_le (by omega)]
    obtain ⟨i, hend⟩ := twcEnd_eq 0 (s := (firstRecovery s).put s.twc.buf.toNat data) (by rw [hfirst]; exact hclk)
    refine completes_answer (t := twcEnd 0 ((firstRecovery s).put s.twc.buf.toNat data)) ?_ ?_
    · change execTwcTransferDone (.ok data) s = _
      rw [execTwcTransferDone, if_neg (by simp [hbusy])]
      rw [if_neg (by simp [hread]), hpad]
    rw [hend, hfirst]
    refine ⟨rfl, rfl, rfl, hrec, fun i hi => ?_, fun x hx => ?_, rfl⟩
    · exact (Memory.byte_canon _ _).trans (Memory.byte_write_inside s.mem _ _ hi)
    · exact (Memory.byte_canon _ _).trans (Memory.byte_write_outside s.mem hx)
  · obtain ⟨i, hend⟩ := twcEnd_eq 0 (s := firstRecovery s) (by rw [hfirst]; exact hclk)
    refine ⟨twcEnd 0 (firstRecovery s), ?_, ?_⟩
    · change execTwcTransferDone (.ok data) s = _
      rw [execTwcTransferDone, if_neg (by simp [hbusy])]
      rw [if_pos hwrite, hend, hfirst]
      exact answer_of_eq s _ hm rfl rfl
    rw [hend, hfirst]
    exact ⟨rfl, rfl, rfl⟩
  · obtain ⟨i, hend⟩ := twcEnd_eq 1 (s := firstRecovery s) (by rw [hfirst]; exact hclk)
    refine ⟨twcEnd 1 (firstRecovery s), ?_, ?_⟩
    · change execTwcTransferDone .nack s = _
      rw [execTwcTransferDone, if_neg (by simp [hbusy])]
      rw [hend, hfirst]
      exact answer_of_eq s _ hm rfl rfl
    rw [hend, hfirst]
    exact ⟨rfl, rfl, rfl⟩
  · obtain ⟨i, hend⟩ := twcEnd_eq 2 (s := s) hclk
    refine ⟨twcEnd 2 s, ?_, ?_⟩
    · change execTwcTransferDone .stuck s = _
      rw [execTwcTransferDone, if_neg (by simp [hbusy])]
      rw [hend]
      exact answer_of_eq s _ hm rfl rfl
    rw [hend]
    exact ⟨rfl, rfl, rfl⟩
  · change execTwcArbitrationLost true s = _
    rw [execTwcArbitrationLost, if_pos (by simp)]
    exact answer_of_eq s _ hm rfl rfl
  · let u : State := { s with twc := { recoveredPort s with arblost := cnt 8 (recoveredPort s).arblost 1 } }
    obtain ⟨i, hraise⟩ := raise_icu (s := u) hclk 35
    refine ⟨raise 35 u, ?_, ?_⟩
    · change execTwcArbitrationLost false s = _
      rw [execTwcArbitrationLost, if_neg (by simp [hactive hbusy]), hfirst]
      exact raise_answer hm 35 rfl rfl
    rw [hraise]
    exact ⟨congrArg (cnt 8 · 1) harb, hbusy'.trans hbusy, hrec, rfl⟩
  · let u : State := { s with twc := { recoveredPort s with nack := cnt 8 (recoveredPort s).nack 1 } }
    obtain ⟨i, hend⟩ := twcEnd_eq 1 (s := u) hclk
    refine ⟨twcEnd 1 u, ?_, ?_⟩
    · change execTwcNackRetry false true s = _
      rw [execTwcNackRetry, if_neg (by simp [hactive hbusy]), hfirst]
      dsimp only
      rw [if_pos (hbusy'.trans hbusy), hend]
      exact answer_of_eq s _ hm rfl rfl
    rw [hend]
    exact ⟨rfl, rfl, rfl, congrArg (cnt 8 · 1) hnack, hrec, rfl⟩
  · change execTwcNackRetry true true s = _
    rw [execTwcNackRetry, if_pos (by simp)]
    exact answer_of_eq s _ hm rfl rfl
  · change execTwcNackRetry false false s = _
    rw [execTwcNackRetry, if_pos (by simp)]
    exact answer_of_eq s _ hm rfl rfl
  · change execTwcBusRecovery true s = _
    rw [execTwcBusRecovery, if_pos (by simp [hclk, hact]), busRecovery, if_pos rfl, Bool.or_true]
    exact answer_of_eq s _ hm rfl rfl
  · let u : State := { s with twc := { s.twc with recov := cnt 8 s.twc.recov 1, stuck := cnt 8 s.twc.stuck 1 } }
    obtain ⟨i, hraise⟩ := raise_icu (s := u) hclk 35
    refine ⟨raise 35 u, ?_, ?_⟩
    · change execTwcBusRecovery false s = _
      rw [execTwcBusRecovery, if_pos (by simp [hclk, hact]), busRecovery, if_neg (by decide), Bool.or_false]
      exact raise_answer hm 35 rfl rfl
    rw [hraise]
    rfl
  · change execTwcBusRecovery true s = _
    rw [execTwcBusRecovery, if_neg (by simp [hact])]
    exact answer_of_eq s _ hm rfl rfl
  · change execTwcBusRecovery false s = _
    rw [execTwcBusRecovery, if_neg (by simp [hact])]
    exact answer_of_eq s _ hm rfl rfl
end

section
/-! Boot (19 R492 to R500): the boot ROM by role, the loader's messages and the start of firmware, with what the boot context's staging and
commit change. -/

namespace Sys2Proof.Machine

/-! ### What a commit changes -/

/-- A decision that fails changes the contexts, the messages and the journal. -/
theorem failCommit_eq (g : CommitJob) (f : Nat × Nat × Nat) (s : State) : ∃ x c q l, failCommit g f s =
    { s with ctx := x, crl := c, arr.queue := q, jrn := l } := by
  obtain ⟨x, c, q, h⟩ := dropCheck_eq g (recordFail f s)
  unfold failCommit
  dsimp only
  rw [h]
  split
  · exact ⟨_, c, q, _, rfl⟩
  · exact ⟨x, c, q, s.jrn, rfl⟩

theorem makePending_eq (slot ea gen : Nat) (s : State) : ∃ x m, makePending slot ea gen s = { s with ctx := x, mem := m } := ⟨_, _, rfl⟩

/-- A decision that passes changes the contexts, memory, the messages and the journal. -/
theorem passCommit_eq (g : CommitJob) (ea : Nat) (s : State) : ∃ x m c q l, passCommit g ea s =
    { s with ctx := x, mem := m, crl := c, arr.queue := q, jrn := l } := by
  have hpend : ∃ x m, (if g.set.contains 0 then makePending g.slot ea (add32 s.ctx.gen 1) { s with ctx.gen := add32 s.ctx.gen 1 }
      else { s with ctx.gen := add32 s.ctx.gen 1 }) = { s with ctx := x, mem := m } := by
    split
    · exact ⟨_, _, rfl⟩
    · exact ⟨_, s.mem, rfl⟩
  obtain ⟨x, m, h⟩ := hpend
  unfold passCommit
  dsimp only
  rw [h]
  have hsend : ∀ u : State, ∃ c q, (if u.isRoot && !u.crl.online.isEmpty then broadcast 1 (.apply ea (add32 s.ctx.gen 1) g.slot g.set) u else u) =
      { u with crl := c, arr.queue := q } := fun u => by
    split
    · exact sendMsgParts_eq 1 0 true [.apply ea (add32 s.ctx.gen 1) g.slot g.set] u
    · exact ⟨u.crl, u.arr.queue, rfl⟩
  obtain ⟨c, q, hsent⟩ := hsend { s with
    ctx := { x with job := some { g with decided := true, ea := ea, gen := add32 s.ctx.gen 1, unarmed := g.set.filter (· != 0) } }, mem := m }
  rw [hsent]
  split
  · exact ⟨_, m, c, q, _, rfl⟩
  · exact ⟨_, m, c, q, s.jrn, rfl⟩

theorem decideCommit_eq (late : Bool) (g : CommitJob) (s : State) : ∃ x m c q l, decideCommit late g s =
    { s with ctx := x, mem := m, crl := c, arr.queue := q, jrn := l } := by
  unfold decideCommit
  dsimp only
  split
  · obtain ⟨x, c, q, l, h⟩ := failCommit_eq g _ { s with ctx.job := none }
    exact ⟨x, s.mem, c, q, l, h⟩
  · exact passCommit_eq ..

/-- The boot context's commit. -/
theorem bootCommit_eq (n : Nat) (s : State) : ∃ x m c q l, bootCommit n s = { s with ctx := x, mem := m, crl := c, arr.queue := q, jrn := l } := by
  have hcheck : ∃ x, (if s.slot n == .staging then setSlot n .checking s else s) = { s with ctx := x } := by
    split
    · exact ⟨_, rfl⟩
    · exact ⟨s.ctx, rfl⟩
  obtain ⟨x, hcheck⟩ := hcheck
  unfold bootCommit
  split
  · exact ⟨_, s.mem, s.crl, s.arr.queue, s.jrn, rfl⟩
  · dsimp only
    rw [hcheck]
    split
    · obtain ⟨x', m, c, q, l, h⟩ := decideCommit_eq false _ { s with ctx := x }
      exact ⟨x', m, c, q, l, h⟩
    · obtain ⟨c, q, h⟩ := foldl_sends (f := fun u k => sendMsg 1 k _ u) (fun t k => sendMsg_eq ..) s.members
        { s with ctx := { x with job := some _ } }
      exact ⟨_, s.mem, c, q, s.jrn, h⟩

/-- An image staged at members leaves as messages, and stands in the root's shadows of their slots. -/
theorem foldl_shadowStage (d : Desc) (data : List Byte) (m : Msg) (num : Nat) (ks : List Nat) (s : State) : ∃ c a,
    ks.foldl (fun u k => shadowStage d data k (sendMsg 2 k m (forward num k d u))) s = { s with crl := c, arr := a } := by
  refine foldl_chains (r := fun s t => ∃ c a, t = { s with crl := c, arr := a }) (fun s => ⟨s.crl, s.arr, rfl⟩) ?_ (fun t k => ?_) ks s
  · rintro s t u ⟨c, a, rfl⟩ ⟨c', a', rfl⟩
    exact ⟨c', a', rfl⟩
  · obtain ⟨c, q, h⟩ := sendMsg_eq 1 k (.cmd num d) t
    rw [forward, h]
    obtain ⟨c', q', h'⟩ := sendMsg_eq 2 k m { t with crl := c, arr.queue := q }
    rw [h']
    exact ⟨c', _, rfl⟩

/-- The boot context staged, here and at the members. -/
theorem bootStage_eq (s : State) : ∃ x m c a l, bootStage s = { s with
    boot.bootCtxDue := false, ctx := x, mem := m, crl := c, arr := a, jrn := l } := by
  unfold bootStage
  dsimp only
  split
  · exact ⟨s.ctx, s.mem, s.crl, s.arr, s.jrn, rfl⟩
  next b _ =>
    split
    · exact ⟨s.ctx, s.mem, s.crl, s.arr, s.jrn, rfl⟩
    · generalize hu : setSlot (leAt b.2 1 1 % 8) .staging _ = u
      have hput : ∃ x m, u = { s with boot.bootCtxDue := false, ctx := x, mem := m } := ⟨_, _, hu.symm⟩
      obtain ⟨x, m, rfl⟩ := hput
      split
      · obtain ⟨x', m', c, q, l, h⟩ := bootCommit_eq (leAt b.2 1 1 % 8) { s with boot.bootCtxDue := false, ctx := x, mem := m }
        exact ⟨x', m', c, _, l, h⟩
      · next hms =>
        obtain ⟨c, a, h⟩ := foldl_shadowStage _ b.2 (.ctxData (leAt b.2 1 1 % 8) 0 b.2 0) bootNum _
          { s with boot.bootCtxDue := false, ctx := x, mem := m, arr.bootStage := some (leAt b.2 1 1 % 8, _) }
        exact ⟨x, m, c, a, s.jrn, h⟩

/-- The boot context's part in a start of firmware or at a boundary. -/
theorem bootContext_eq (s : State) : ∃ d x m c a l, bootContext s = { s with
    boot.bootCtxDue := d, ctx := x, mem := m, crl := c, arr := a, jrn := l } := by
  have hsame : ∃ d x m c a l, s = { s with boot.bootCtxDue := d, ctx := x, mem := m, crl := c, arr := a, jrn := l } :=
    ⟨s.boot.bootCtxDue, s.ctx, s.mem, s.crl, s.arr, s.jrn, rfl⟩
  unfold bootContext
  split
  · exact hsame
  · split
    · split
      · obtain ⟨x, m, c, a, l, h⟩ := bootStage_eq s
        exact ⟨false, x, m, c, a, l, h⟩
      · exact hsame
    · split
      next b _ =>
        split
        · obtain ⟨x, m, c, q, l, h⟩ := bootCommit_eq b.1 { s with arr.bootStage := none }
          exact ⟨s.boot.bootCtxDue, x, m, c, _, l, h⟩
        · exact hsame
      · split
        · exact ⟨s.boot.bootCtxDue, s.ctx, s.mem, s.crl, _, s.jrn, rfl⟩
        · exact hsame

/-! ### The loader -/

/-- A byte put into OUTDATA while it has room. -/
theorem twmMboxPut_room {s : State} (h : s.twm.out.length < 64) (b : Byte) : (twmMboxPut b s).twm.out = s.twm.out ++ [b] := by
  obtain ⟨-, -, -, -, -, -, hout, -⟩ := setAlert_flags 2 { s with twm.out := s.twm.out ++ [b] }
  rw [twmMboxPut, if_neg (by omega)]
  exact hout

/-- The loader's answer in an OUTDATA that is empty. -/
theorem loaderReply_out {s : State} (h : s.twm.out = []) (status : Nat) :
    (loaderReply status s).twm.out = [0xB0#8, BitVec.ofNat 8 status, 0#8, 0#8] := by
  have h1 : (twmMboxPut 0xB0#8 s).twm.out = [0xB0#8] := by rw [twmMboxPut_room (by rw [h]; decide), h]; rfl
  have h2 : (twmMboxPut (BitVec.ofNat 8 status) (twmMboxPut 0xB0#8 s)).twm.out = [0xB0#8, BitVec.ofNat 8 status] := by
    rw [twmMboxPut_room (by rw [h1]; decide), h1]; rfl
  have h3 : (twmMboxPut 0 (twmMboxPut (BitVec.ofNat 8 status) (twmMboxPut 0xB0#8 s))).twm.out = [0xB0#8, BitVec.ofNat 8 status, 0#8] := by
    rw [twmMboxPut_room (by rw [h2]; simp), h2]; rfl
  rw [loaderReply, twmMboxPut_room (by rw [h3]; simp), h3]
  rfl

theorem enterLoader_eq (s : State) : ∃ w, enterLoader s = { s with
    boot.phase := .loader, boot.load := none, boot.ready := false, boot.fwvalid := false, twm := w } :=
  loaderReply_eq 4 _

theorem loaderTakes_of {kind : Nat} {msg : List Byte} {s : State} (hclk : s.clk.core = true) (hphase : s.boot.phase = .loader)
    (hkind : leAt msg 0 1 = kind) : loaderTakes kind msg s = true := by
  simp [loaderTakes, hclk, hphase, hkind]

/-! ### The boot ROM -/

theorem onBus_boot (l : List BusXfer) (s : State) : (s.onBus l).boot = s.boot ∧ (s.onBus l).twm = s.twm := by
  obtain ⟨b, h⟩ := State.onBus_eq l s
  rw [h]
  exact ⟨rfl, rfl⟩

/-- The copies read leave the boot phase and the accepted header. -/
theorem takeCopies_keeps (a b : List Byte) (s : State) : (takeCopies a b s).boot = s.boot ∧ (takeCopies a b s).twm.hdrok = s.twm.hdrok := by
  have hset : ∀ (n : Nat) (u : State), (setAlert n u).boot = u.boot ∧ (setAlert n u).twm.hdrok = u.twm.hdrok := fun n u => by
    unfold setAlert
    dsimp only
    refine ⟨?_, ?_⟩ <;> split <;> split <;> rfl
  unfold takeCopies
  dsimp only
  split
  · split
    · exact ⟨(hset 1 _).1.trans (hset 3 _).1, (hset 1 _).2.trans (hset 3 _).2⟩
    · exact ⟨(hset 1 _).1, (hset 1 _).2⟩
  · split
    · exact ⟨(hset 3 _).1, (hset 3 _).2⟩
    · exact ⟨rfl, rfl⟩

/-- An image that the boot ROM or the loader starts stands in code SRAM, and core 0 in it (19 R493, R495). -/
theorem startFirmware_spec (img : List Byte) (level source : Nat) (s : State) :
    let t := startFirmware img level source s
    t.boot.phase = .started ∧ t.boot.source = source ∧ t.boot.level = level ∧ t.core0.brm = false ∧ t.core0.pc = 0x10000000#32 ∧
      t.boot.fwLen = img.length ∧ t.boot.load = none ∧ t.twm = s.twm ∧ ∀ i, i < img.length → t.mem.byte (0x10000000 + i) = img.getD i 0 :=
  ⟨rfl, rfl, rfl, rfl, rfl, rfl, rfl, rfl, fun _ hi => Memory.byte_write_inside s.mem _ _ hi⟩

/-- A root or standalone device is not a member. -/
theorem State.notMember_of_hostSide {s : State} (h : s.hostSide = true) : s.isMember = false := by
  revert h
  unfold State.hostSide State.isMember
  cases s.boot.role <;> decide

/-- The boot ROM's copies and requests leave the boot phase. -/
theorem rootBoot_fw {img : EepromImage} {fw : List Byte} {s : State} (hsel : s.boot.eepromSel = true) (hok : headerOk (padTo 256 img.header) = true)
    (hfw : storedFirmware (padTo 256 img.header) img.fw = some fw) :
    ∃ t, rootBoot img s = startFirmware fw (leAt (padTo 256 img.header) 0x14 2) 0 t ∧ t.twm.hdrok = true := by
  unfold rootBoot
  rw [hsel]
  dsimp only [Bool.not_true]
  rw [if_neg (by decide), hok, if_pos rfl, if_pos rfl, hfw]
  refine ⟨_, rfl, ?_⟩
  exact (congrArg Twm.hdrok (onBus_boot _ _).2).trans ((takeCopies_keeps _ _ _).2.trans (congrArg Twm.hdrok (onBus_boot _ _).2))

/-- Without a usable image the boot ROM ends in the loader (19 R493). -/
theorem rootBoot_loader {img : EepromImage} {s : State}
    (hno : s.boot.eepromSel = false ∨ headerOk (padTo 256 img.header) = false ∨ storedFirmware (padTo 256 img.header) img.fw = none) :
    ∃ t, rootBoot img s = enterLoader t := by
  unfold rootBoot
  split
  · exact ⟨_, rfl⟩
  next hsel =>
    have hnone : (if headerOk (padTo 256 img.header) = true then storedFirmware (padTo 256 img.header) img.fw else none) = none := by
      rcases hno with h | h | h
      · simp [h] at hsel
      · rw [h]; rfl
      · rw [h]; split <;> rfl
    dsimp only
    rw [hnone]
    exact ⟨_, rfl⟩

/-- The loader starts the image it was sent, whose CRC is right (19 R495). -/
theorem loadEnd_starts {msg d : List Byte} {level : Nat} {s : State} (htakes : loaderTakes 3 msg s = true) (hreload : s.boot.reload = false)
    (hload : s.boot.load = some (d.length, crc32 d, level)) (hread : s.mem.read codeBase d.length = d) :
    ∃ w, exec (.loadEnd msg) s = answer s (startFirmware d level 1 { s with boot.load := none, twm := w }) := by
  obtain ⟨w, hw⟩ := loaderReply_eq 0 { s with twm.msg := [], boot.load := none }
  refine ⟨w, ?_⟩
  change execLoadEnd msg s = _
  generalize hcrc : crc32 d = n at hload
  rw [execLoadEnd, htakes]
  rw [if_neg (by decide)]
  dsimp only
  simp only [hload]
  dsimp only at hw
  simp only [hread, hcrc, hw]
  rw [if_neg (fun h => h rfl), if_neg (by simp [hreload])]

/-- A frame sent changes the ring's state alone. -/
theorem sendOn_eq (p : Port) (cls dst : Nat) (m : Msg) (s : State) : ∃ c, sendOn p cls dst m s = { s with crl := c } ∧ c.enrolled = s.crl.enrolled := by
  unfold sendOn
  split
  · exact ⟨s.crl, rfl, rfl⟩
  · unfold enqueueOn
    cases p <;> exact ⟨_, rfl, rfl⟩

/-- A member without a staged image waits for ENUM (19 R494). -/
theorem memberBoot_waits {s : State} (h : s.boot.staged = none) :
    (memberBoot s).boot.phase = .waitEnum ∧ (memberBoot s).crl.enrolled = false := by
  rw [memberBoot, firstRecovery_eq]
  dsimp only
  rw [h]
  dsimp only
  rw [sendHello]
  generalize hu : ({ s with twc := recoveredPort s, boot.phase := .waitEnum, boot.staged := none, crl.enrolled := false } : State) = u
  obtain ⟨c, hc, henr⟩ := sendOn_eq (if u.crl.up.state = 2 then .up else .dn) 1 0 (.hello false u.tile u.ctx.gen) u
  rw [hc, ← hu]
  refine ⟨rfl, ?_⟩
  rw [henr, ← hu]

/-- Forming begins at a root with the messages alone. -/
theorem startForming_eq (s : State) : ∃ c a, startForming s = { s with crl := c, arr := a } := by
  unfold startForming
  split
  · exact ⟨s.crl, s.arr, rfl⟩
  · obtain ⟨c, hc, -⟩ := sendOn_eq .dn 1 0 .enum { s with
      arr.forming := true, arr.upward := false, arr.nextPos := 1, arr.upDist := 0, arr.ring := 0, arr.cut := [], arr.fwSent := false,
      crl.ntiles := 1, crl.online := [0], crl.lock := true, crl.enrolled := true, arr.probe := some .dn }
    exact ⟨c, _, hc⟩

/-- What a start of firmware leaves: core 0's firmware runs, and the epoch timer with it (19 R496). -/
def State.fwStarted (s : State) : Prop := s.boot.phase = .running ∧ s.boot.ready = true ∧ s.boot.fwvalid = true ∧ s.chn.timer = true

theorem startForming_running {s : State} (h : s.fwStarted) : (startForming s).fwStarted := by
  obtain ⟨c, a, hf⟩ := startForming_eq s
  rw [hf]
  exact h

theorem bootContext_running {s : State} (h : s.fwStarted) : (bootContext s).fwStarted := by
  obtain ⟨e, x, m, c, a, l, hb⟩ := bootContext_eq s
  rw [hb]
  exact h

theorem firmwareStart_runs (rc applet : List Byte) (refs : List (List Byte)) {s : State} (hstarted : s.boot.phase = .started)
    (hside : s.hostSide = true) : ∃ t : State, t.fwStarted ∧ exec (.firmwareStart rc applet refs) s = answer s t := by
  change ∃ t : State, t.fwStarted ∧ execFirmwareStart rc applet refs s = answer s t
  rw [execFirmwareStart, if_neg (by simp [hstarted, hside])]
  refine ⟨_, ?_, rfl⟩
  refine bootContext_running (startForming_running ?_)
  generalize takeReferences refs _ = t
  exact ⟨rfl, rfl, rfl, rfl⟩

end Sys2Proof.Machine

open Sys2Proof Sys2Proof.Machine

/-- Settles O36: the boot ROM's branches by role and image, the loader's three messages in its phase, and a start of firmware whose parts
leave what it sets. -/
theorem bootStartsTheFirmware : Obligations.BootStartsTheFirmware := by
  intro img fw msg d rc applet refs s hm runs h
  have hrom : s.clk.core = true → s.boot.phase = .rom → exec (.bootRomStart img) s =
      answer s (if s.isMember then memberBoot s else if s.hostSide then rootBoot img s else s) := fun hclk hphase => by
    change execBootRomStart img s = _
    rw [execBootRomStart, if_neg (by simp [hclk, hphase])]
  refine ⟨fun hclk hphase => ⟨fun hside hsel hok hfw => ?_, fun hside hno => ?_, fun hmember hstaged => ?_⟩,
    fun hclk hphase => ⟨fun hkind hlen hpos hword hmax => ?_, fun l hkind hload hfit hoff hdlen hlo hhi => ?_, fun hkind hreload hload hread => ?_⟩,
    fun hstarted hside => ?_⟩
  · rw [if_neg (by simp [State.notMember_of_hostSide hside]), if_pos hside] at hrom
    obtain ⟨t, ht, hhdr⟩ := rootBoot_fw hsel hok hfw
    refine completes_answer (hrom hclk hphase) ?_
    rw [ht]
    obtain ⟨h1, h2, h3, h4, h5, h6, h7, h8, h9⟩ := startFirmware_spec fw (leAt (padTo 256 img.header) 0x14 2) 0 t
    exact ⟨⟨h1, h2, h3, h4, h5, h6, fun i hi => (Memory.byte_canon _ _).trans (h9 i hi)⟩, (congrArg Twm.hdrok h8).trans hhdr⟩
  · rw [if_neg (by simp [State.notMember_of_hostSide hside]), if_pos hside] at hrom
    obtain ⟨t, ht⟩ := rootBoot_loader hno
    refine completes_answer (hrom hclk hphase) ?_
    obtain ⟨w, hw⟩ := enterLoader_eq t
    rw [ht, hw]
    exact ⟨rfl, rfl⟩
  · rw [if_pos hmember] at hrom
    exact completes_answer (hrom hclk hphase) (memberBoot_waits hstaged)
  · refine completes_answer (i := .loadBegin msg) (t := loaderReply 0 { s with
      twm.msg := [], boot.load := some (leAt msg 1 4, leAt msg 5 4, leAt msg 9 2) }) ?_ ?_
    · change execLoadBegin msg s = _
      have hn : ¬ (msg.length < 11 ∨ leAt msg 1 4 = 0 ∨ (!fwLengthOk (leAt msg 1 4)) = true) := by
        simp only [fwLengthOk, Bool.not_eq_true', Bool.and_eq_false_iff, beq_eq_false_iff_ne, decide_eq_false_iff_not]
        omega
      rw [execLoadBegin, if_neg (by simp [loaderTakes_of hclk hphase hkind])]
      dsimp only
      rw [if_neg hn]
    · have hout := @loaderReply_out { s with twm.msg := [], boot.load := some (leAt msg 1 4, leAt msg 5 4, leAt msg 9 2) }
      obtain ⟨w, hw⟩ := loaderReply_eq 0 { s with twm.msg := [], boot.load := some (leAt msg 1 4, leAt msg 5 4, leAt msg 9 2) }
      refine ⟨?_, ?_, fun he => hout he 0⟩
      · rw [hw]
      · rw [hw]
        exact Memory.canon_of_wf _ hm
  · refine completes_answer (i := .loadData msg) (t := { s with twm.msg := [] }.put (codeBase + leAt msg 1 3) (msg.drop 4)) ?_ ?_
    · change execLoadData msg s = _
      rw [execLoadData, if_neg (by simp [loaderTakes_of hclk hphase hkind])]
      dsimp only
      rw [hload]
      dsimp only
      rw [if_neg (by omega)]
    · exact ⟨rfl, fun i hi => (Memory.byte_canon _ _).trans (Memory.byte_write_inside s.mem (codeBase + leAt msg 1 3) (msg.drop 4) hi)⟩
  · obtain ⟨w, hend⟩ := loadEnd_starts (loaderTakes_of hclk hphase hkind) hreload hload hread
    refine completes_answer hend ?_
    obtain ⟨h1, h2, h3, h4, h5, h6, h7, h8, h9⟩ := startFirmware_spec d (leAt fw 0 2) 1 { s with boot.load := none, twm := w }
    exact ⟨⟨h1, h2, h3, h4, h5, h6, fun i hi => (Memory.byte_canon _ _).trans (h9 i hi)⟩, h7⟩
  · obtain ⟨t, hrun, hexec⟩ := firmwareStart_runs rc applet refs hstarted hside
    exact completes_answer hexec hrun
end

section
/-! The commands on the tile itself (02 R50, 03 R83, 05 R141, 06 R155, 10 R292, R310, 12 R368 to R372): how a command's part on tile 0 begins
and ends, what the scan is asked for, and what the loads change. -/

namespace Sys2Proof.Machine

/-! ### The part on tile 0 -/

/-- A command for tile 0 alone begins with its own part. -/
theorem startParts_own {e : JEntry} (htile : e.d.tile = 0) (w : JWait) (own : State → State) (s : State) :
    startParts e w own s =
      own (s.setEntry e.cmd (fun x => { x with tiles := [0], wait := w, code := 0, r0 := 0, r1 := 0, ctile := 0 })) := by
  have hsel : s.selected e.d = [0] := by simp [State.selected, htile]
  simp [startParts, hsel]

/-- The entry of a command whose parts have begun on tile 0. -/
def JEntry.onTile0 (e : JEntry) (w : JWait) : JEntry := { e with tiles := [0], wait := w, code := 0, r0 := 0, r1 := 0, ctile := 0 }

theorem startParts_entry {s : State} {j : Nat} {e : JEntry} (h : s.entry j = some e) (w : JWait) :
    (s.setEntry j (fun x => x.onTile0 w)).entry j = some (e.onTile0 w) :=
  State.entry_setEntry_some h fun _ hx hs => ⟨hx, hs⟩

/-- Another command's entry stays through a change. -/
theorem State.entry_setEntry_ne (s : State) {i j : Nat} (h : i ≠ j) (f : JEntry → JEntry) (hf : ∀ e, e.cmd = i → (f e).cmd = i) :
    (s.setEntry i f).entry j = s.entry j := by
  unfold State.entry State.setEntry
  dsimp only
  rw [List.find?_map]
  have hsame : ((fun e : JEntry => e.cmd == j && e.stage != .retained) ∘ fun e => if e.cmd == i && e.stage != .retained then f e else e) =
      fun e => e.cmd == j && e.stage != .retained := by
    funext e
    dsimp only [Function.comp]
    split
    · next he =>
      have hcmd : e.cmd = i := by simp only [Bool.and_eq_true, beq_iff_eq] at he; exact he.1
      rw [hf e hcmd, hcmd, beq_eq_false_iff_ne.mpr h, Bool.false_and, Bool.false_and]
    · rfl
  rw [hsame]
  cases hfind : List.find? (fun e : JEntry => e.cmd == j && e.stage != .retained) s.jrn with
  | none => rfl
  | some e =>
    have he := List.find?_some hfind
    have hne : ¬ (e.cmd == i && e.stage != .retained) = true := by
      simp only [Bool.and_eq_true, beq_iff_eq] at he ⊢
      exact fun hc => h (hc.1.symm.trans he.1)
    rw [Option.map_some, if_neg hne]

/-- An entry after a tile's part of it: the tile is gone, the lowest refusing tile's code stands, and the results are gathered. -/
def JEntry.part (e : JEntry) (tile code r0 r1 : Nat) : JEntry :=
  let lower := code ≠ 0 && (e.code = 0 || tile < e.ctile)
  let own := code = 0 && e.code = 0 && (tile = 0 || e.d.tile ≠ 0xFF)
  { e with
    tiles := e.tiles.filter (· != tile)
    code := if lower then code else e.code
    ctile := if lower then tile else e.ctile
    r0 := if summed e.d.opcode then e.r0 + r0 else if lower || own then r0 else e.r0
    r1 := if summed e.d.opcode then e.r1 else if lower || own then r1 else e.r1 }

/-- A part that is awaited goes into its entry, and the last one ends the command. -/
theorem tilePart_awaited {s : State} {j tile : Nat} {e : JEntry} (he : s.entry j = some e) (hstage : e.stage = .issued)
    (htile : e.tiles.contains tile = true) (code r0 r1 : Nat) : tilePart j tile code r0 r1 s =
      if (e.part tile code r0 r1).tiles.isEmpty then finish j (e.part tile code r0 r1).code (e.part tile code r0 r1).r0
        (e.part tile code r0 r1).r1 (e.part tile code r0 r1).ctile (s.setEntry j (fun _ => e.part tile code r0 r1))
      else s.setEntry j (fun _ => e.part tile code r0 r1) := by
  unfold tilePart
  rw [he]
  dsimp only
  rw [if_neg (by simp [hstage, List.contains_iff_mem.mp htile])]
  rfl

/-- The one part that a command on tile 0 waits for, after it. -/
theorem JEntry.part_onTile0 (e : JEntry) (w : JWait) (code r0 r1 : Nat) : (e.onTile0 w).part 0 code r0 r1 = { e.onTile0 w with
    tiles := [], code := code, r0 := r0, r1 := if summed e.d.opcode then 0 else r1 } := by
  by_cases hcode : code = 0
  · subst hcode
    simp [JEntry.part, JEntry.onTile0]
  · simp [JEntry.part, JEntry.onTile0, hcode]

/-- A part that ends changes the journal alone. -/
theorem tilePart_eq (j tile code r0 r1 : Nat) (s : State) : ∃ l, tilePart j tile code r0 r1 s = { s with jrn := l } := by
  unfold tilePart
  split
  · exact ⟨s.jrn, rfl⟩
  · split
    · exact ⟨s.jrn, rfl⟩
    · dsimp only
      split <;> exact ⟨_, rfl⟩

/-- On a device with the host side a part on tile 0 ends in the journal. -/
theorem partDone_own {s : State} (h : s.isMember = false) (j code r0 r1 : Nat) : partDone j code r0 r1 s = tilePart j 0 code r0 r1 s := by
  rw [partDone, h, if_neg (by decide)]

/-- A part that ends leaves the other commands' entries. -/
theorem tilePart_entry_ne {i j : Nat} (h : i ≠ j) (tile code r0 r1 : Nat) (s : State) : (tilePart i tile code r0 r1 s).entry j = s.entry j := by
  cases he : s.entry i with
  | none => rw [tilePart, he]
  | some e =>
    by_cases hin : e.stage = .issued ∧ e.tiles.contains tile = true
    · have hset := s.entry_setEntry_ne h (fun _ => e.part tile code r0 r1) fun _ _ => (State.cmd_of_entry he).1
      rw [tilePart_awaited he hin.1 hin.2]
      split
      · rw [finish, State.entry_setEntry_ne _ h _ (fun x hx => by split <;> exact hx), hset]
      · exact hset
    · have hskip : (e.stage ≠ .issued || !e.tiles.contains tile) = true := by
        by_cases hs : e.stage = .issued
        · simpa [hs] using hin
        · simp [hs]
      rw [tilePart, he]
      dsimp only
      rw [if_pos hskip]

/-- The one part of a command on tile 0 ends the command with its code and results. -/
theorem tilePart_own {s : State} {j : Nat} {e : JEntry} {w : JWait} (he : s.entry j = some (e.onTile0 w)) (hstage : e.stage = .issued) (code r0 r1 : Nat) :
    (tilePart j 0 code r0 r1 s).entry j = some { e.onTile0 w with
      stage := .applied, wait := .start, code := code, r0 := r0, r1 := if summed e.d.opcode then 0 else r1, tiles := [] } := by
  have hset : (s.setEntry j (fun _ => (e.onTile0 w).part 0 code r0 r1)).entry j = some ((e.onTile0 w).part 0 code r0 r1) :=
    State.entry_setEntry_some he fun _ _ _ => ⟨(State.cmd_of_entry he).1, by simp [JEntry.part, JEntry.onTile0, hstage]⟩
  have hfin := finish_entry hset hstage code r0 (if summed e.d.opcode then 0 else r1) 0
  rw [tilePart_awaited he hstage (by rfl), e.part_onTile0, if_pos (by rfl)]
  rw [e.part_onTile0] at hfin
  exact hfin

/-! ### What the scan is asked for -/

/-- The commands that waited for a group calibration end, and the others' entries stay. -/
theorem endCalCmds_group {s : State} {j : Nat} (hmember : s.isMember = false) (h : j ∉ s.cal.groupCmds) (fails : Nat) :
    ∃ l, endCalCmds true fails s = { s with cal.groupCmds := [], jrn := l } ∧ (endCalCmds true fails s).entry j = s.entry j := by
  have key : ∀ (l : List Nat) (t : State), j ∉ l → t.isMember = false → ∃ l', l.foldl (fun u i => partDone i 0 fails 0 u) t = { t with jrn := l' } ∧
      (l.foldl (fun u i => partDone i 0 fails 0 u) t).entry j = t.entry j := by
    intro l
    induction l with
    | nil => exact fun t _ _ => ⟨t.jrn, rfl, rfl⟩
    | cons i l ih =>
      intro t hl hmem
      rw [List.mem_cons, not_or] at hl
      obtain ⟨k, hk⟩ := tilePart_eq i 0 0 fails 0 t
      have hne := tilePart_entry_ne (fun hc => hl.1 hc.symm) 0 0 fails 0 t
      rw [List.foldl_cons, partDone_own hmem]
      rw [hk] at hne ⊢
      obtain ⟨l', h1, h2⟩ := ih { t with jrn := k } hl.2 hmem
      exact ⟨l', h1, h2.trans hne⟩
  exact key s.cal.groupCmds { s with cal.groupCmds := [] } h hmember

/-- A full calibration asked for: a group calibration that waits gives way, and its commands end (05 R141). -/
theorem recalOwn_full {s : State} {j : Nat} (hmember : s.isMember = false) (hfull : s.cal.kind ≠ .full) (hgroup : s.cal.kind ≠ .group)
    (hnone : s.cal.fullDue = none) (h : j ∉ s.cal.groupCmds) : ∃ l g,
      recalOwn j false s = { s with jrn := l, cal.fullDue := some true, cal.groupDue := none, cal.cmds := s.cal.cmds ++ [j], cal.groupCmds := g } ∧
      (recalOwn j false s).entry j = s.entry j := by
  have hkind : s.cal.kind = .none := by
    cases hk : s.cal.kind with
    | none => rfl
    | full => exact absurd hk hfull
    | group => exact absurd hk hgroup
  have hends : ∃ l g, (if s.cal.groupDue.isSome then endCalCmds true 0 { s with cal.groupDue := none } else s) =
      { s with jrn := l, cal.groupDue := none, cal.groupCmds := g } ∧ State.entry { s with jrn := l } j = s.entry j := by
    split
    · obtain ⟨l, hl, hentry⟩ := endCalCmds_group (s := { s with cal.groupDue := none }) hmember h 0
      rw [hl] at hentry
      exact ⟨l, [], hl, hentry⟩
    next hdue =>
      have hdue : s.cal.groupDue = none := by simpa using hdue
      refine ⟨s.jrn, s.cal.groupCmds, ?_, rfl⟩
      rw [← hdue]
  obtain ⟨l, g, hl, hentry⟩ := hends
  refine ⟨l, g, ?_⟩
  unfold recalOwn
  dsimp only
  rw [if_neg (by simp [hnone, hkind]), if_neg (by decide), hl, abandonCal, if_pos hkind]
  exact ⟨rfl, hentry⟩

end Sys2Proof.Machine

open Sys2Proof Sys2Proof.Machine

/-- Settles O58: each command begins on tile 0 with its own part, which leaves its request, or ends it with the code that refuses it. -/
theorem scanCommandsAskTheScan : Obligations.ScanCommandsAskTheScan := by
  intro j e k s hm htile hmember waits
  have begins : ∀ {w : JWait} {own : JEntry → State → State} {op : Nat} {i : Instr} {P : State → Prop},
      exec i s = runCommand op j (fun e u => startParts e w (own e) u) s → Ready op j e s →
      (∀ l, State.entry { s with jrn := l } j = some (e.onTile0 w) → e.stage = .issued →
        P { own e { s with jrn := l } with pending := s.pending, mem := (own e { s with jrn := l }).mem.canon }) → Completes i s P := by
    intro w own op i P hexec hready hP
    refine completes_ready hexec hready ?_
    rw [startParts_own htile, (State.cmd_of_entry hready.1).1]
    exact hP _ (startParts_entry hready.1 w) hready.2.1
  refine ⟨fun hr => ?_, fun hr => ?_, fun hr => ⟨fun ha hk1 hk2 hfull hj => ?_, fun ha hk1 hk2 hfull hgroup => ?_, fun ha hkind hfull => ?_, fun hfull => ?_⟩,
    fun hr => ⟨fun htab hrid hst => ?_, fun htab => ?_⟩, fun hr => ⟨fun hp => ?_, fun hp hbusy hroot hheld => ?_⟩⟩
  · refine begins (own := fun e => hopOwn j e.d) rfl hr fun l he _ => ⟨he, ?_, ?_, rfl, rfl⟩
    · simp [hopOwn, hopRequest, fld]
    · simp only [hopOwn, hopRequest]
      cases s.chn.req <;> rfl
  · exact begins (own := fun _ => lineTestOwn j) rfl hr fun l he _ => ⟨he, rfl, rfl, rfl⟩
  · refine begins (own := fun e => recalOwn j (e.d.a0 % 2 == 1)) rfl hr fun l he _ => ?_
    obtain ⟨l', g, hown, hentry⟩ := recalOwn_full (s := { s with jrn := l }) hmember hk1 hk2 hfull hj
    rw [hown] at hentry
    rw [show (e.d.a0 % 2 == 1) = false by simp [ha], hown]
    exact ⟨hentry.trans he, rfl, rfl, rfl⟩
  · refine begins (own := fun e => recalOwn j (e.d.a0 % 2 == 1)) rfl hr fun l he _ => ?_
    have hown : recalOwn j (e.d.a0 % 2 == 1) { s with jrn := l } = { s with
        jrn := l, cal.groupCmds := s.cal.groupCmds ++ [j], cal.groupDue := some true } := by
      simp [recalOwn, ha, hfull, hgroup, hk1, hk2]
    rw [hown]
    exact ⟨he, rfl, hfull, rfl, rfl⟩
  · refine begins (own := fun e => recalOwn j (e.d.a0 % 2 == 1)) rfl hr fun l he _ => ?_
    have hown : recalOwn j (e.d.a0 % 2 == 1) { s with jrn := l } = { s with jrn := l, cal.groupCmds := s.cal.groupCmds ++ [j] } := by
      simp [recalOwn, ha, hfull, hkind]
    rw [hown]
    exact ⟨he, rfl⟩
  · refine begins (own := fun e => recalOwn j (e.d.a0 % 2 == 1)) rfl hr fun l he _ => ?_
    have hown : recalOwn j (e.d.a0 % 2 == 1) { s with jrn := l } = { s with jrn := l, cal.cmds := s.cal.cmds ++ [j] } := by
      simp [recalOwn, hfull]
    rw [hown]
    exact ⟨he, rfl⟩
  · refine begins (own := fun e => releaseOwn j e.d) rfl hr fun l he _ => ?_
    have hown : releaseOwn j e.d { s with jrn := l } = { s with
        jrn := l, cal.releases := s.cal.releases ++ [{ cmd := j, trk := e.d.a0 % 64, id := e.d.a1 }] } := by
      simp only [releaseOwn, htab]
      rw [if_pos ⟨hrid, hst⟩]
    rw [hown]
    exact ⟨he, rfl, rfl⟩
  · refine begins (own := fun e => releaseOwn j e.d) rfl hr fun l he hstage => ?_
    have hown : releaseOwn j e.d { s with jrn := l } = tilePart j 0 0x0D 0 0 { s with jrn := l } := by
      simp only [releaseOwn, htab]
      exact partDone_own (s := { s with jrn := l }) hmember ..
    have hend := tilePart_own he hstage 0x0D 0 0
    obtain ⟨l', hl⟩ := tilePart_eq j 0 0x0D 0 0 { s with jrn := l }
    rw [hl] at hend hown
    rw [hown]
    exact ⟨congrArg (Option.map fun x : JEntry => (x.stage, x.code)) hend, rfl⟩
  · refine begins (own := fun e => captureOwn j e.d) rfl hr fun l he _ => ?_
    have hown : captureOwn j e.d { s with jrn := l } = { s with jrn := l, cap.waiting := s.cap.waiting ++ [(j, e.d)] } := by
      rw [captureOwn, if_pos (by simp [hp])]
    rw [hown]
    exact ⟨he, rfl, rfl⟩
  · refine begins (own := fun e => captureOwn j e.d) rfl hr fun l he hstage => ?_
    have hown : captureOwn j e.d { s with jrn := l } = tilePart j 0 0x04 0 0 { s with jrn := l } := by
      rw [captureOwn, if_neg (by simp [hp, hbusy]), if_neg (by simpa [State.isRoot] using hroot), if_neg hheld]
      exact partDone_own (s := { s with jrn := l }) hmember ..
    have hend := tilePart_own he hstage 0x04 0 0
    obtain ⟨l', hl⟩ := tilePart_eq j 0 0x04 0 0 { s with jrn := l }
    rw [hl] at hend hown
    rw [hown]
    exact congrArg (Option.map fun x : JEntry => (x.stage, x.code)) hend
end

section
/-! TOKEN_LOAD, APPLET_LOAD and MAILBOX_SEND on the tile itself (06 R155, R156, 12 R368 to R372). -/

namespace Sys2Proof.Machine

/-! ### Blocks of memory -/

theorem Memory.read_write_same {m : Memory} (hm : m.wf = true) (a : Nat) (bs : List Byte) : (m.write a bs).read a bs.length = bs := by
  refine List.ext_getElem (Memory.length_read (m.write_wf a bs hm) _ _) fun i h1 h2 => ?_
  have hget := (Memory.getD_read (m.write_wf a bs hm) a h2).trans (m.byte_write_inside a bs h2)
  rwa [List.getD_eq_getElem _ _ h1, List.getD_eq_getElem _ _ h2] at hget

theorem Memory.read_congr {m m' : Memory} (hm : m.wf = true) (hm' : m'.wf = true) {a n : Nat} (h : ∀ i, i < n → m'.byte (a + i) = m.byte (a + i)) :
    m'.read a n = m.read a n := by
  rw [Memory.read_eq_map_byte hm, Memory.read_eq_map_byte hm']
  refine List.map_congr_left fun x hx => ?_
  obtain ⟨i, hi, rfl⟩ := List.mem_range'.1 hx
  simpa using h i hi

theorem Memory.read_write_disjoint {m : Memory} (hm : m.wf = true) {a b n : Nat} {bs : List Byte} (h : a + bs.length ≤ b ∨ b + n ≤ a) :
    (m.write a bs).read b n = m.read b n :=
  Memory.read_congr hm (m.write_wf a bs hm) fun i hi => m.byte_write_outside (by omega)

/-! ### An image read from the host -/

theorem padTo_length_self (bs : List Byte) : padTo bs.length bs = bs := by simp [padTo]

/-- The state in which a command's image has arrived for its part on tile 0: journal and kept pieces change. -/
theorem startWithImage_own {j : Nat} {e : JEntry} {s : State} (he : s.entry j = some e) (htile : e.d.tile = 0) (hread : s.readOk = true) (data : List Byte)
    (own : List Byte → State → State) : ∃ l p c, startWithImage e (.ok data) data.length own s = own data { s with jrn := l, ctx.pieces := p } ∧
      State.entry { s with jrn := l, ctx.pieces := p } j = some ({ e with imgCrc := c }.onTile0 .member) := by
  have hcmd := (State.cmd_of_entry he).1
  have hsel : ∀ t : State, t.selected e.d = [0] := fun t => by simp [State.selected, htile]
  have hset : (s.setEntry j (fun x => { x with imgCrc := crc32 data })).entry j = some { e with imgCrc := crc32 data } :=
    State.entry_setEntry_some he fun _ hx hs => ⟨hx, hs⟩
  refine ⟨((s.setEntry j (fun x => { x with imgCrc := crc32 data })).setEntry j (fun x => x.onTile0 .member)).jrn,
    (keepPiece j data (s.setEntry j (fun x => { x with imgCrc := crc32 data }))).ctx.pieces, crc32 data, ?_, startParts_entry hset .member⟩
  unfold startWithImage
  rw [hread, if_neg (by decide)]
  dsimp only
  rw [hsel, padTo_length_self, List.foldl_cons, List.foldl_nil, if_pos rfl, startParts_own htile, hcmd]
  rfl

/-- A command that is not refused has operands that its opcode allows. -/
theorem argsOk_of_rejectCode {s : State} {d : Desc} (h : rejectCode s d = 0) : argsOk d = true := by
  unfold rejectCode at h
  split at h
  · exact absurd h (by decide)
  · split at h
    · exact absurd h (by decide)
    next hargs =>
      simp only [Bool.or_eq_true, not_or, Bool.not_eq_true', Bool.not_eq_false] at hargs
      exact hargs.2

theorem tokenLoad_own {j : Nat} {e : JEntry} {s : State} (hr : Ready 0x24 j e s) (htile : e.d.tile = 0) (r : HostRead) :
    exec (.tokenLoad j r) s = answer s (startWithImage e r 1024 (tokenLoadOwn j e.d) s) := by
  change execTokenLoad j r s = _
  rw [execTokenLoad, runCommand_ready hr]
  exact congrArg (answer s) (if_pos (by simp [htile]))

/-- An image that does not arrive ends its command with code 0x06. -/
theorem startWithImage_timeout {e : JEntry} {s : State} (hread : s.readOk = true) (n : Nat) (own : List Byte → State → State) :
    startWithImage e .timeout n own s = finish e.cmd 0x06 0 0 0 (countFailedRead .timeout s) := by
  unfold startWithImage
  rw [hread]
  rfl

/-! ### The token banks -/

theorem length_padTo_take (n : Nat) (bs : List Byte) : (padTo n bs).length = n := by simp [padTo, zeros]

theorem length_storedBank (img : List Byte) (valid : Nat) : (storedBank img valid).length = 1024 := by
  have hrow : ∀ i, (if bit valid i then padTo 32 ((img.drop (32 * i)).take 32) else zeros 32).length = 32 := fun i => by
    split
    · exact length_padTo_take ..
    · simp [zeros]
  rw [storedBank, List.length_flatMap, List.map_congr_left (fun i _ => hrow i)]
  rfl

/-- Without generations in the banks, a new dictionary goes into bank 0 (06 R155). -/
theorem chooseBank_first {s : State} {gen : Nat} (h0 : s.tok.gen0 = 0) (h1 : s.tok.gen1 = 0) (hgen : gen ≠ 0) (img : List Byte) :
    chooseBank s gen img = .write 0 := by
  have hbank : ∀ b, s.bankGen b = 0 := fun b => by unfold State.bankGen; split <;> assumption
  have hused : ∀ b, s.bankUsed b = false := fun b => by simp [State.bankUsed, hbank]
  have hholder : (List.range 2).find? (fun b => s.bankGen b == gen) = none := by
    simp [List.find?_eq_none, hbank, Ne.symm hgen]
  rw [chooseBank, hholder]
  dsimp only
  rw [hused, hused]
  dsimp only
  rw [if_pos (hbank 0)]

theorem tokenJudge_idle {d : Desc} {img : List Byte} {s : State} (hjob : s.ctx.job = none) : tokenJudge d img s =
    match tokenFault img d.p0 with
    | some f => .error (0x0A, f.1, f.2)
    | none => match chooseBank s d.a1 (storedBank img d.p0) with
      | .denied => .error (0x04, 0, 0)
      | b => .ok b := by
  rw [tokenJudge, hjob]
  rfl

/-! ### Core 1's image -/

/-- Core 1 put in reset changes its pairs, the interrupt unit and the taps. -/
theorem core1Stop_frame (s : State) : ∃ i, core1Stop s = { s with
    core1 := core1Reset s, mbx := { s.mbx with run := false, halted := false, q1 := [] }, icu := i, pwr.taps := [], pwr.lifted := [] } := by
  unfold core1Stop
  dsimp only
  split
  · exact ⟨_, rfl⟩
  · obtain ⟨i, hi⟩ := foldl_icu (f := fun u n => if (u.srcAt n).pend then countUndeliverable n u else u) (fun t n => by
      split
      · exact countUndeliverable_icu n t
      · exact ⟨t.icu, rfl⟩) (List.range 48) (completeAll .c1 { s with
        mbx := { s.mbx with run := false, halted := false, q1 := [] }, core1 := core1Reset s, icu.thr1 := 0, icu.cur1 := {}, pwr.taps := [], pwr.lifted := [] })
    exact ⟨i, hi⟩

/-- What a good applet image says of itself (12 R369, R371). -/
theorem appletCheck_iff {len : Nat} {b : List Byte} {s : State} (h : ¬ (leAt b 0 2 ≠ 0x4C41 ∨ leAt b 2 1 ≠ 1 ∨ leAt b 3 1 ≠ 0 ∨
    len ≠ 0x20 + leAt b 4 4 + leAt b 8 4 ∨ leAt b 4 4 % 4 ≠ 0 ∨ leAt b 16 4 % 4 ≠ 0 ∨ leAt b 20 4 % 4 ≠ 0 ∨ s.c1Part < leAt b 20 4 + leAt b 4 4 ∨
    leAt b 4 4 ≤ leAt b 16 4 ∨ 16384 < leAt b 8 4 + leAt b 12 4)) (hlen : b.length = 0x20 + leAt b 4 4 + leAt b 8 4) :
    appletCheck len b s = if crc32 (b.drop 0x20) = leAt b 0x1C 4 then 0 else 0x0B := by
  have htake : (b.drop 0x20).take (leAt b 4 4 + leAt b 8 4) = b.drop 0x20 :=
    List.take_of_length_le (by rw [List.length_drop]; omega)
  unfold appletCheck appHead
  dsimp only
  rw [if_neg h, htake, ite_not]

/-- A little-endian field begins with its first byte. -/
theorem leAt_succ (b : List Byte) (o n : Nat) : leAt b o (n + 1) = (b.getD o 0).toNat + 256 * leAt b (o + 1) n := by
  rw [leAt, leAt, ← List.drop_drop, List.getD_eq_getElem?_getD, ← Nat.add_zero o, ← List.getElem?_drop, Nat.add_zero]
  cases b.drop o with
  | nil => simp [leNat]
  | cons x l => simp [leNat]

/-- The magic and the version of an image, byte by byte. -/
theorem leAt_magic {b : List Byte} (h : leAt b 0 4 = 0x00014C41) : leAt b 0 2 = 0x4C41 ∧ leAt b 2 1 = 1 ∧ leAt b 3 1 = 0 := by
  have hnil : ∀ o, leAt b o 0 = 0 := fun o => by rw [leAt, List.take_zero]; rfl
  have h0 := (b.getD 0 0).isLt
  have h1 := (b.getD 1 0).isLt
  have h2 := (b.getD 2 0).isLt
  have h3 := (b.getD 3 0).isLt
  simp only [leAt_succ, hnil, Nat.zero_add, Nat.reduceAdd] at h ⊢
  omega

/-- An applet loaded: core 1 runs in it (12 R369, R371). -/
theorem loadApplet_spec {b : List Byte} {s : State} (hm : s.memOk) (hlen : b.length = 0x20 + leAt b 4 4 + leAt b 8 4)
    (hfit : leAt b 20 4 + leAt b 4 4 ≤ s.c1Part) (hentry : leAt b 16 4 < leAt b 4 4) :
    let base := 0x10000000 + 0x4000 * s.mbx.split
    ∃ m p k i, loadApplet b s = { s with
        mem := m, parBad := p, core1 := k, icu := i, mbx := { s.mbx with run := true, halted := false, q1 := [], c1pc := BitVec.ofNat 32 (base + leAt b 20 4 + leAt b 16 4) }
        pwr.taps := [], pwr.lifted := [], pwr.dfltApplet := false } ∧ m.wf = true ∧
      k.pc.toNat = base + leAt b 20 4 + leAt b 16 4 ∧ k.vbase.toNat = base ∧ k.g.get 15 = 0x20020000#32 ∧
      m.read (base + leAt b 20 4) (leAt b 4 4) = (b.drop 0x20).take (leAt b 4 4) ∧
      m.read 0x2001C000 (leAt b 8 4 + leAt b 12 4) = b.drop (0x20 + leAt b 4 4) ++ List.replicate (leAt b 12 4) 0#8 := by
  intro base
  obtain ⟨i, hstop⟩ := core1Stop_frame s
  have hbase : s.c1Base = base := rfl
  have hpart : leAt b 20 4 + leAt b 4 4 ≤ 0x40000 - 0x4000 * s.mbx.split := hfit
  have hpc : (BitVec.ofNat 32 (base + leAt b 20 4 + leAt b 16 4)).toNat = base + leAt b 20 4 + leAt b 16 4 := by
    rw [BitVec.toNat_ofNat]
    omega
  have hcode : ((b.drop 0x20).take (leAt b 4 4)).length = leAt b 4 4 := by simp; omega
  have hwf := s.mem.write_wf (base + leAt b 20 4) ((b.drop 0x20).take (leAt b 4 4)) hm
  have hblock : ((b.drop (0x20 + leAt b 4 4)).take (leAt b 8 4) ++ zeros (leAt b 12 4)) =
      b.drop (0x20 + leAt b 4 4) ++ List.replicate (leAt b 12 4) 0#8 := by
    rw [List.take_of_length_le (by rw [List.length_drop]; omega)]
    rfl
  have hblocklen : (b.drop (0x20 + leAt b 4 4) ++ List.replicate (leAt b 12 4) 0#8).length = leAt b 8 4 + leAt b 12 4 := by
    rw [List.length_append, List.length_drop, List.length_replicate]
    omega
  have hsame := Memory.read_write_same hwf 0x2001C000 (b.drop (0x20 + leAt b 4 4) ++ List.replicate (leAt b 12 4) 0#8)
  have hcoderead := Memory.read_write_same hm (base + leAt b 20 4) ((b.drop 0x20).take (leAt b 4 4))
  rw [hblocklen] at hsame
  rw [hcode] at hcoderead
  have hload : ∃ p, loadApplet b s = core1Run { s with
      mem := (s.mem.write (base + leAt b 20 4) ((b.drop 0x20).take (leAt b 4 4))).write 0x2001C000
        (b.drop (0x20 + leAt b 4 4) ++ List.replicate (leAt b 12 4) 0#8)
      parBad := p, core1 := core1Reset s, icu := i, mbx := { s.mbx with
        run := false, halted := false, q1 := [], c1pc := BitVec.ofNat 32 (base + leAt b 20 4 + leAt b 16 4) }
      pwr.dfltApplet := false, pwr.taps := [], pwr.lifted := [] } := by
    unfold loadApplet
    rw [hstop, ← hblock]
    exact Exists.intro _ rfl
  obtain ⟨p, hload⟩ := hload
  obtain ⟨k, hrun, -, hstart, -, hsp, hvbase⟩ := core1Run_eq (s := { s with
    mem := (s.mem.write (base + leAt b 20 4) ((b.drop 0x20).take (leAt b 4 4))).write 0x2001C000
      (b.drop (0x20 + leAt b 4 4) ++ List.replicate (leAt b 12 4) 0#8)
    parBad := p, core1 := core1Reset s, icu := i, mbx := { s.mbx with
      run := false, halted := false, q1 := [], c1pc := BitVec.ofNat 32 (base + leAt b 20 4 + leAt b 16 4) }
    pwr.dfltApplet := false, pwr.taps := [], pwr.lifted := [] }) rfl
  obtain ⟨hpcstart, -⟩ := hstart (by rw [hpc]; omega)
  refine ⟨_, p, k, i, hload.trans hrun, Memory.write_wf _ _ _ hwf, by rw [hpcstart]; exact hpc, ?_, hsp, ?_, hsame⟩
  · rw [hvbase]
    dsimp only
    omega
  · rw [Memory.read_write_disjoint hwf (by omega)]
    exact hcoderead

end Sys2Proof.Machine

open Sys2Proof Sys2Proof.Machine

/-- Settles O59: each command begins on tile 0 with its image; what its part does there is the judgement of the dictionary, the check of the
applet, or a pair pushed. -/
theorem loadCommandsChangeBanksAndCore1 : Obligations.LoadCommandsChangeBanksAndCore1 := by
  intro j e data s hm htile hmember ended word base
  refine ⟨fun hr hread hlen hjob => ⟨fun hgood h0 h1 => ?_, fun hbad => ?_, ?_⟩,
    fun hr hread hlen hsum hmagic h4 h16 h20 hfit hin hdata => ?_, fun hr => ⟨fun hroom => ?_, fun hfull => ?_⟩⟩
  · have hop : e.d.opcode = 0x24 := hr.2.2.2.1
    have hgen : e.d.a1 ≠ 0 := by simpa [argsOk, hop] using argsOk_of_rejectCode hr.2.2.2.2.2.2.2
    have hj := hr.2.1
    refine completes_answer (tokenLoad_own hr htile _) ?_
    obtain ⟨l, p, c, hstart, hentry⟩ := startWithImage_own hr.1 htile hread data (tokenLoadOwn j e.d)
    rw [hlen] at hstart
    have hown : tokenLoadOwn j e.d data { s with jrn := l, ctx.pieces := p } =
        tilePart j 0 0 0 0 (writeBank 0 e.d.a1 (storedBank data e.d.p0) (noteBank j s.tile 0 { s with jrn := l, ctx.pieces := p })) := by
      rw [tokenLoadOwn, tokenJudge_idle (s := { s with jrn := l, ctx.pieces := p }) hjob, hgood]
      dsimp only
      rw [chooseBank_first (s := { s with jrn := l, ctx.pieces := p }) h0 h1 hgen]
      exact partDone_own (s := writeBank 0 e.d.a1 (storedBank data e.d.p0) (noteBank j s.tile 0 { s with jrn := l, ctx.pieces := p })) hmember ..
    have hnoted : (noteBank j s.tile 0 { s with jrn := l, ctx.pieces := p }).entry j =
        some ({ e with imgCrc := c, banks := file e.banks s.tile 0 }.onTile0 .member) :=
      State.entry_setEntry_some hentry fun _ hx hs => ⟨hx, hs⟩
    have hend := tilePart_own (s := writeBank 0 e.d.a1 (storedBank data e.d.p0) (noteBank j s.tile 0 { s with jrn := l, ctx.pieces := p }))
      hnoted hr.2.1 0 0 0
    obtain ⟨l', hl⟩ := tilePart_eq j 0 0 0 0 (writeBank 0 e.d.a1 (storedBank data e.d.p0) (noteBank j s.tile 0 { s with jrn := l, ctx.pieces := p }))
    rw [hl] at hend hown
    rw [hstart, hown]
    have hwf := Memory.write_wf s.mem (dictBank 0) (storedBank data e.d.p0) hm
    have hcanon := Memory.canon_of_wf _ hwf
    refine ⟨congrArg (Option.map fun x : JEntry => (x.stage, x.code, x.r0, x.tiles)) hend, rfl, h1, rfl, ?_, ?_⟩
    · have hsame := Memory.read_write_same hm (dictBank 0) (storedBank data e.d.p0)
      rw [length_storedBank] at hsame
      exact (congrArg (fun m : Memory => m.read (dictBank 0) 1024) hcanon).trans hsame
    · have hother := Memory.read_write_disjoint (n := 1024) hm (a := dictBank 0) (b := dictBank 1) (bs := storedBank data e.d.p0)
        (.inl (by rw [length_storedBank]; decide))
      exact (congrArg (fun m : Memory => m.read (dictBank 1) 1024) hcanon).trans hother
  · obtain ⟨f, hf⟩ := Option.ne_none_iff_exists'.1 hbad
    refine completes_answer (tokenLoad_own hr htile _) ?_
    obtain ⟨l, p, c, hstart, hentry⟩ := startWithImage_own hr.1 htile hread data (tokenLoadOwn j e.d)
    rw [hlen] at hstart
    have hown : tokenLoadOwn j e.d data { s with jrn := l, ctx.pieces := p } = tilePart j 0 0x0A f.1 f.2 { s with jrn := l, ctx.pieces := p } := by
      rw [tokenLoadOwn, tokenJudge_idle (s := { s with jrn := l, ctx.pieces := p }) hjob, hf]
      exact partDone_own (s := { s with jrn := l, ctx.pieces := p }) hmember ..
    have hend := tilePart_own hentry hr.2.1 0x0A f.1 f.2
    obtain ⟨l', hl⟩ := tilePart_eq j 0 0x0A f.1 f.2 { s with jrn := l, ctx.pieces := p }
    rw [hl] at hend hown
    rw [hstart, hown]
    exact ⟨rfl, Memory.canon_of_wf _ hm, congrArg (Option.map fun x : JEntry => (x.stage, x.code)) hend⟩
  · refine completes_answer (tokenLoad_own hr htile _) ?_
    obtain ⟨i, k, c, hfail⟩ := countFailedRead_timeout s
    rw [startWithImage_timeout hread, hfail, (State.cmd_of_entry hr.1).1]
    refine ⟨rfl, Memory.canon_of_wf _ hm, ?_⟩
    exact congrArg (Option.map fun x : JEntry => (x.stage, x.code)) (finish_entry hr.1 hr.2.1 6 0 0 0)
  · obtain ⟨hmagic0, hmagic2, hmagic3⟩ := leAt_magic hmagic
    have hlen' : data.length = 0x20 + leAt data 4 4 + leAt data 8 4 := hlen.trans hsum
    have hstarts : ∀ P : State → Prop, (∀ l p c, State.entry { s with jrn := l, ctx.pieces := p } j = some ({ e with imgCrc := c }.onTile0 .member) →
        P { appletLoadOwn j e.d data { s with jrn := l, ctx.pieces := p } with
          pending := s.pending, mem := (appletLoadOwn j e.d data { s with jrn := l, ctx.pieces := p }).mem.canon }) →
        Completes (.appletLoad j (.ok data)) s P := fun P hP => by
      obtain ⟨l, p, c, hstart, hentry⟩ := startWithImage_own hr.1 htile hread data (appletLoadOwn j e.d)
      refine completes_ready rfl hr ?_
      dsimp only
      rw [← hlen, hstart]
      exact hP l p c hentry
    have hcheck : ∀ u : State, u.mbx = s.mbx → appletCheck e.d.p0 data u = if crc32 (data.drop 0x20) = word 0x1C then 0 else 0x0B := fun u hu => by
      refine appletCheck_iff ?_ hlen'
      have hpart : u.c1Part = 0x40000 - 0x4000 * s.mbx.split := by rw [State.c1Part, hu]
      rw [hpart]
      dsimp only [word] at *
      omega
    refine ⟨fun hcrc => hstarts _ fun l p c hentry => ?_, fun hcrc => hstarts _ fun l p c hentry => ?_⟩
    · obtain ⟨m, p', k, i, hload, hwf, hpc, hvbase, hsp, hcode, hshared⟩ :=
        loadApplet_spec (b := data) (s := { s with jrn := l, ctx.pieces := p }) hm hlen' hfit hin
      have hown : appletLoadOwn j e.d data { s with jrn := l, ctx.pieces := p } =
          tilePart j 0 0 (word 0x1C) 0 (loadApplet data { s with jrn := l, ctx.pieces := p }) := by
        unfold appletLoadOwn
        dsimp only
        rw [hcheck { s with jrn := l, ctx.pieces := p } rfl, if_pos hcrc, if_neg (by decide), partDone_own (by rw [hload]; exact hmember)]
      rw [hload] at hown
      have hend := tilePart_own (s := { s with
        jrn := l, ctx.pieces := p, mem := m, parBad := p', core1 := k, icu := i, mbx := { s.mbx with run := true, halted := false, q1 := [], c1pc := BitVec.ofNat 32 (base + word 20 + word 16) }
        pwr.taps := [], pwr.lifted := [], pwr.dfltApplet := false }) hentry hr.2.1 0 (word 0x1C) 0
      obtain ⟨l', hl⟩ := tilePart_eq j 0 0 (word 0x1C) 0 { s with
        jrn := l, ctx.pieces := p, mem := m, parBad := p', core1 := k, icu := i, mbx := { s.mbx with run := true, halted := false, q1 := [], c1pc := BitVec.ofNat 32 (base + word 20 + word 16) }
        pwr.taps := [], pwr.lifted := [], pwr.dfltApplet := false }
      rw [hl] at hend hown
      rw [hown]
      have hcanon := Memory.canon_of_wf _ hwf
      exact ⟨congrArg (Option.map fun x : JEntry => (x.stage, x.code, x.r0, x.tiles)) hend, rfl, rfl, rfl, rfl, hpc, hvbase, hsp, rfl,
        (congrArg (fun m : Memory => m.read (base + word 20) (word 4)) hcanon).trans hcode,
        (congrArg (fun m : Memory => m.read 0x2001C000 (word 8 + word 12)) hcanon).trans hshared, rfl⟩
    · have hown : appletLoadOwn j e.d data { s with jrn := l, ctx.pieces := p } = tilePart j 0 0x0B 0 0 { s with jrn := l, ctx.pieces := p } := by
        unfold appletLoadOwn
        dsimp only
        rw [hcheck { s with jrn := l, ctx.pieces := p } rfl, if_neg hcrc, if_pos (by decide)]
        exact partDone_own (s := { s with jrn := l, ctx.pieces := p }) hmember ..
      have hend := tilePart_own hentry hr.2.1 0x0B 0 0
      obtain ⟨l', hl⟩ := tilePart_eq j 0 0x0B 0 0 { s with jrn := l, ctx.pieces := p }
      rw [hl] at hend hown
      rw [hown]
      exact ⟨congrArg (Option.map fun x : JEntry => (x.stage, x.code, x.r0, x.tiles)) hend, rfl, rfl, Memory.canon_of_wf _ hm⟩
  · have hclk : s.clk.core = true := by
      have hfw := hr.2.2.2.2.1
      simp only [State.fwRuns, Bool.and_eq_true] at hfw
      exact hfw.1
    have hentry := startParts_entry hr.1 .member
    generalize hu : s.setEntry j (fun x => x.onTile0 .member) = u at hentry
    obtain ⟨l, rfl⟩ : ∃ l, u = { s with jrn := l } := ⟨_, hu.symm⟩
    have harr := raise_srcAt (n := 1) (s := { s with
      jrn := l, mbx.q1 := s.mbx.q1 ++ [(BitVec.ofNat 32 e.d.p0, BitVec.ofNat 32 e.d.p1)] }) hclk
    obtain ⟨i, hraise⟩ := raise_icu (s := { s with
      jrn := l, mbx.q1 := s.mbx.q1 ++ [(BitVec.ofNat 32 e.d.p0, BitVec.ofNat 32 e.d.p1)] }) hclk 1
    have hown : mailboxSendOwn j e.d { s with jrn := l } = tilePart j 0 0 0 0 { s with
        jrn := l, mbx.q1 := s.mbx.q1 ++ [(BitVec.ofNat 32 e.d.p0, BitVec.ofNat 32 e.d.p1)], icu := i } := by
      rw [mailboxSendOwn, pushPair, if_neg (show ¬ 8 ≤ s.mbx.q1.length by omega), hraise]
      exact partDone_own (s := { s with
        jrn := l, mbx.q1 := s.mbx.q1 ++ [(BitVec.ofNat 32 e.d.p0, BitVec.ofNat 32 e.d.p1)], icu := i }) hmember ..
    have hend := tilePart_own (s := { s with
      jrn := l, mbx.q1 := s.mbx.q1 ++ [(BitVec.ofNat 32 e.d.p0, BitVec.ofNat 32 e.d.p1)], icu := i }) hentry hr.2.1 0 0 0
    obtain ⟨l', hl⟩ := tilePart_eq j 0 0 0 0 { s with
      jrn := l, mbx.q1 := s.mbx.q1 ++ [(BitVec.ofNat 32 e.d.p0, BitVec.ofNat 32 e.d.p1)], icu := i }
    rw [hl] at hend hown
    rw [hraise] at harr
    have hbody : startParts e .member (mailboxSendOwn j e.d) s = mailboxSendOwn j e.d { s with jrn := l } := by
      rw [startParts_own htile, (State.cmd_of_entry hr.1).1]
      exact congrArg (mailboxSendOwn j e.d) hu
    refine completes_ready rfl hr ?_
    dsimp only
    rw [hbody, hown]
    exact ⟨congrArg (Option.map fun x : JEntry => (x.stage, x.code, x.r0, x.tiles)) hend, rfl,
      fun hsrc => harr (show 1 < s.icu.src.length by omega) (by decide)⟩
  · have hentry := startParts_entry hr.1 .member
    generalize hu : s.setEntry j (fun x => x.onTile0 .member) = u at hentry
    obtain ⟨l, rfl⟩ : ∃ l, u = { s with jrn := l } := ⟨_, hu.symm⟩
    have hown : mailboxSendOwn j e.d { s with jrn := l } = tilePart j 0 0 0 0 { s with jrn := l, mbx.drop0 := cnt 8 s.mbx.drop0 1 } := by
      rw [mailboxSendOwn, pushPair, if_pos hfull]
      exact partDone_own (s := { s with jrn := l, mbx.drop0 := cnt 8 s.mbx.drop0 1 }) hmember ..
    have hend := tilePart_own (s := { s with jrn := l, mbx.drop0 := cnt 8 s.mbx.drop0 1 }) hentry hr.2.1 0 0 0
    obtain ⟨l', hl⟩ := tilePart_eq j 0 0 0 0 { s with jrn := l, mbx.drop0 := cnt 8 s.mbx.drop0 1 }
    rw [hl] at hend hown
    have hbody : startParts e .member (mailboxSendOwn j e.d) s = mailboxSendOwn j e.d { s with jrn := l } := by
      rw [startParts_own htile, (State.cmd_of_entry hr.1).1]
      exact congrArg (mailboxSendOwn j e.d) hu
    refine completes_ready rfl hr ?_
    dsimp only
    rw [hbody, hown]
    exact ⟨congrArg (Option.map fun x : JEntry => (x.stage, x.code, x.r0, x.tiles)) hend, rfl⟩
end

section
/-! Messages put into the queues of the ring ports (07 R196, R200): a message sent while the LINK domain is clocked waits in the queue of its
class, and the frames before it wait still. -/

namespace Sys2Proof.Machine

/-- A port's queue of a class. -/
def PortSt.line (q : PortSt) (cls : Nat) : List CFrame :=
  match cls with
  | 0 => q.q0
  | 1 => q.q1
  | _ => q.q2

/-- The frames that wait in both ports for a class. -/
def Crila.waits (c : Crila) (cls : Nat) : List CFrame := c.up.line cls ++ c.dn.line cls

/-- A ring after frames were put into its queues: every frame that waited waits still. -/
def Crila.queued (c c' : Crila) : Prop :=
  (∃ u d w n, c' = { c with up := u, dn := d, wrap := w, msgNum := n }) ∧ ∀ k g, g ∈ c.waits k → g ∈ c'.waits k

theorem Crila.queued_refl (c : Crila) : c.queued c := ⟨⟨c.up, c.dn, c.wrap, c.msgNum, rfl⟩, fun _ _ h => h⟩

theorem Crila.queued_trans {c c' c'' : Crila} (h : c.queued c') (h' : c'.queued c'') : c.queued c'' := by
  obtain ⟨⟨u, d, w, n, rfl⟩, hk⟩ := h
  obtain ⟨⟨u', d', w', n', rfl⟩, hk'⟩ := h'
  exact ⟨⟨u', d', w', n', rfl⟩, fun k g hg => hk' k g (hk k g hg)⟩

/-- A frame put at the end of a port's queue of its class (07 R196). -/
def PortSt.put (q : PortSt) (f : CFrame) : PortSt :=
  match f.cls with
  | 0 => { q with q0 := q.q0 ++ [f] }
  | 1 => { q with q1 := q.q1 ++ [f] }
  | _ => { q with q2 := q.q2 ++ [f] }

theorem enqueueOn_eq_put (p : Port) (f : CFrame) (s : State) : enqueueOn p f s = s.setPort p (fun q => q.put f) := rfl

theorem PortSt.mem_line_put (q : PortSt) (f : CFrame) : f ∈ (q.put f).line f.cls := by
  unfold PortSt.put PortSt.line
  split <;> simp_all

theorem PortSt.line_put_subset (q : PortSt) (f : CFrame) {k : Nat} {g : CFrame} (h : g ∈ q.line k) : g ∈ (q.put f).line k := by
  unfold PortSt.put PortSt.line at *
  split at h <;> split <;> simp [h]

/-- A frame put into a port's queue waits there, and the others wait still. -/
theorem enqueueOn_waits (p : Port) (f : CFrame) (s : State) :
    ∃ c, enqueueOn p f s = { s with crl := c } ∧ s.crl.queued c ∧ f ∈ c.waits f.cls := by
  rw [enqueueOn_eq_put]
  cases p with
  | up =>
    refine ⟨{ s.crl with up := s.crl.up.put f }, rfl, ⟨⟨_, s.crl.dn, s.crl.wrap, s.crl.msgNum, rfl⟩, fun k g hg => ?_⟩,
      List.mem_append_left _ (s.crl.up.mem_line_put f)⟩
    exact List.mem_append.2 ((List.mem_append.1 hg).imp_left (s.crl.up.line_put_subset f))
  | dn =>
    refine ⟨{ s.crl with dn := s.crl.dn.put f }, rfl, ⟨⟨s.crl.up, _, s.crl.wrap, s.crl.msgNum, rfl⟩, fun k g hg => ?_⟩,
      List.mem_append_right _ (s.crl.dn.mem_line_put f)⟩
    exact List.mem_append.2 ((List.mem_append.1 hg).imp_right (s.crl.dn.line_put_subset f))

/-- A frame sent out waits at one of the ports, its direction turned where it wraps (07 R201). -/
theorem sendFrame_waits (f : CFrame) (s : State) : ∃ c d w, sendFrame f s = { s with crl := c } ∧ s.crl.queued c ∧
    { f with dirn := d, wrapped := w } ∈ c.waits f.cls := by
  unfold sendFrame
  dsimp only
  generalize (if f.dirn then Port.up else Port.dn) = p
  split
  · obtain ⟨c, h, hq, hf⟩ := enqueueOn_waits (portOther p) { f with dirn := !f.dirn, wrapped := true }
      { s with crl.wrap := true }
    exact ⟨c, _, _, h, Crila.queued_trans ⟨⟨s.crl.up, s.crl.dn, true, s.crl.msgNum, rfl⟩, fun _ _ hg => hg⟩ hq, hf⟩
  · obtain ⟨c, h, hq, hf⟩ := enqueueOn_waits p f s
    exact ⟨c, f.dirn, f.wrapped, h, hq, hf⟩

/-- A message to a tile that is not kept quiet waits at one of the ports. -/
theorem sendMsg_waits {s : State} (hlink : s.clk.link = true) {dst : Nat} (hquiet : dst ∉ s.arr.quiet) (cls : Nat) (m : Msg) :
    ∃ c f, sendMsg cls dst m s = { s with crl := c } ∧ s.crl.queued c ∧ f ∈ c.waits cls ∧ f.msg = m ∧ f.dst = dst := by
  obtain ⟨c, d, w, h, hq, hf⟩ := sendFrame_waits
    { seq := 0, cls := cls, dst := dst, src := s.tile, bcast := false, dirn := s.goesUp dst, wrapped := false, ttl := 127,
      num := s.crl.msgNum, part := 0, parts := 1, msg := m } { s with crl.msgNum := (s.crl.msgNum + 1) % 65536 }
  refine ⟨c, _, ?_, Crila.queued_trans ⟨⟨s.crl.up, s.crl.dn, s.crl.wrap, _, rfl⟩, fun _ _ hg => hg⟩ hq, hf, rfl, rfl⟩
  rw [← h]
  unfold sendMsg sendMsgParts
  rw [hlink, if_neg (by decide)]
  dsimp only
  rw [if_neg (by simpa using hquiet)]
  rfl

/-- A frame of class 1 or 2 waits where the sent messages are looked for. -/
theorem Crila.any_msg_of_waits {c : Crila} {cls : Nat} (hcls : cls = 1 ∨ cls = 2) {f : CFrame} (h : f ∈ c.waits cls) :
    ((c.up.q1 ++ c.up.q2 ++ c.dn.q1 ++ c.dn.q2).any (fun x => x.msg == f.msg)) = true := by
  refine List.any_eq_true.2 ⟨f, ?_, beq_self_eq_true f.msg⟩
  rcases hcls with rfl | rfl <;> simp only [Crila.waits, PortSt.line, List.mem_append] at h ⊢ <;> tauto

/-- A frame of class 1 waits where what a member tells the root is looked for. -/
theorem Crila.any_msg_of_waits_one {c : Crila} {f : CFrame} (h : f ∈ c.waits 1) :
    ((c.up.q1 ++ c.dn.q1).any (fun x => x.msg == f.msg)) = true :=
  List.any_eq_true.2 ⟨f, h, beq_self_eq_true f.msg⟩

end Sys2Proof.Machine

end

section
/-! SETTINGS_WRITE, the commands that go to one member, and the commands forwarded to another tile (07 R231, 10 R292, R295, 17 R473 to R475). -/

namespace Sys2Proof.Machine

/-! ### Settings copies -/

/-- The bytes of a little-endian number are the bytes it was read from. -/
theorem leBytes_leNat (l : List Byte) : leBytes l.length (leNat l) = l := by
  induction l with
  | nil => rfl
  | cons b l ih =>
    rw [List.length_cons, leBytes, leNat]
    have hlt := b.isLt
    have hdiv : (b.toNat + 256 * leNat l) / 256 = leNat l := by omega
    have hbyte : BitVec.ofNat 8 (b.toNat + 256 * leNat l) = b := by
      apply BitVec.eq_of_toNat_eq
      rw [BitVec.toNat_ofNat]
      omega
    rw [hdiv, ih, hbyte]

/-- A field that reads as `v` holds the bytes of `v`. -/
theorem take_drop_of_leAt {l : List Byte} {o n v : Nat} (hlen : o + n ≤ l.length) (h : leAt l o n = v) : (l.drop o).take n = leBytes n v := by
  have hl : ((l.drop o).take n).length = n := by rw [List.length_take, List.length_drop]; omega
  have hb := leBytes_leNat ((l.drop o).take n)
  rw [hl] at hb
  rw [← hb, ← h]
  rfl

/-- A copy as SETTINGS_WRITE makes it from `data` is the sealed one (17 R475). -/
theorem eq_sealCopy {c data : List Byte} {seq : Nat} (hdata : data.length = 0x2000) (hlen : c.length = 0x2000) (hseq : leAt c 0 4 = seq)
    (hmid : (c.take 0x1FFC).drop 4 = (data.take 0x1FFC).drop 4) (hcrc : leAt c 0x1FFC 4 = crc32 (c.take 0x1FFC)) : c = sealCopy seq data := by
  have hfirst := take_drop_of_leAt (l := c) (o := 0) (n := 4) (by omega) hseq
  have hlast := take_drop_of_leAt (l := c) (o := 0x1FFC) (n := 4) (by omega) hcrc
  have hbody : c.take 0x1FFC = leBytes 4 seq ++ (data.take 0x1FFC).drop 4 := by
    rw [← hmid, ← hfirst, List.drop_zero]
    have hsplit := (List.take_append_drop 4 (c.take 0x1FFC)).symm
    rwa [List.take_take, Nat.min_eq_left (by decide)] at hsplit
  have hpad : padTo 0x2000 data = data := by rw [← hdata]; exact padTo_length_self data
  have hrest : c.drop 0x1FFC = leBytes 4 (crc32 (c.take 0x1FFC)) := by
    rw [← hlast, List.take_of_length_le (by rw [List.length_drop]; omega)]
  unfold sealCopy
  dsimp only
  rw [hpad, ← hbody, ← hrest, List.take_append_drop]

theorem leAt_sealCopy_seq (seq : Nat) (data : List Byte) : leAt (sealCopy seq data) 0 4 = seq % 2 ^ 32 := by
  unfold sealCopy
  dsimp only
  rw [List.append_assoc]
  exact leAt_word_first seq _

/-- A one-byte field is its byte. -/
theorem leAt_one (b : List Byte) (o : Nat) : leAt b o 1 = (b.getD o 0).toNat := by
  rw [leAt_succ, leAt, List.take_zero]
  rfl

/-- The copy written reads back: it is the one in use, and the other the next target (17 R475). -/
theorem writeCopy_reads {j k seq : Nat} {c back1 back2 : List Byte} {s : State} (hsel : s.boot.eepromSel = true) (hback : back1 = c) : ∃ b,
    writeCopy j k seq c back1 back2 s = finish j 0 seq 0 0 (applyTwm c (applyPower c { storeCopy k c { s with out.bus := b } with
      sets.inUse := k, sets.target := some (1 - k), sets.mismatch := false, sets.mismatchEvt := false })) := by
  obtain ⟨b, hb⟩ := State.onBus_eq (busCopy (if k = 0 then 0x100 else 0x2100) c) s
  refine ⟨b, ?_⟩
  unfold writeCopy
  dsimp only
  rw [if_pos hback, hb, hsel, if_pos (by simp [hback])]

/-- Two mismatches leave the copy in use; the target holds what was read back (17 R475). -/
theorem writeCopy_mismatches {j k seq : Nat} {c back1 back2 : List Byte} {s : State} (hsel : s.boot.eepromSel = true) (h1 : back1 ≠ c) (h2 : back2 ≠ c) :
    ∃ b, writeCopy j k seq c back1 back2 s = finish j 0x0B 0 0 0 (storeCopy k (padTo 0x2000 back2) { s with out.bus := b }) := by
  obtain ⟨b, hb⟩ := State.onBus_eq (busCopy (if k = 0 then 0x100 else 0x2100) c ++ busCopy (if k = 0 then 0x100 else 0x2100) c) s
  refine ⟨b, ?_⟩
  unfold writeCopy
  dsimp only
  rw [if_neg h1, hb, hsel, if_neg (by simp [h1, h2]), if_pos rfl]

/-- The image of the host that is good becomes the next copy (17 R475). -/
theorem writeImage_good {j k : Nat} {data back1 back2 : List Byte} {s : State} (hlen : data.length = 0x2000)
    (hgood : crc32 (zeros 4 ++ (data.take 0x1FFC).drop 4) = leAt data 0x1FFC 4) (htgt : s.sets.target = some k) :
    writeImage j (.ok data) back1 back2 s =
      writeCopy j k (add32 (seqInUse s) 1) (sealCopy (add32 (seqInUse s) 1) data) back1 back2 s := by
  unfold writeImage
  dsimp only
  rw [← hlen, padTo_length_self, if_neg (not_not.2 hgood), htgt]

theorem writeImage_disputed {j : Nat} {data back1 back2 : List Byte} {s : State} (hlen : data.length = 0x2000)
    (hgood : crc32 (zeros 4 ++ (data.take 0x1FFC).drop 4) = leAt data 0x1FFC 4) (htgt : s.sets.target = none) :
    writeImage j (.ok data) back1 back2 s = finish j 0x04 0 0 0 s := by
  unfold writeImage
  dsimp only
  rw [← hlen, padTo_length_self, if_neg (not_not.2 hgood), htgt]

theorem writeImage_bad {j : Nat} {data back1 back2 : List Byte} {s : State} (hlen : data.length = 0x2000)
    (hbad : crc32 (zeros 4 ++ (data.take 0x1FFC).drop 4) ≠ leAt data 0x1FFC 4) :
    writeImage j (.ok data) back1 back2 s = finish j 0x0B 0 0 0 s := by
  unfold writeImage
  dsimp only
  rw [← hlen, padTo_length_self, if_pos hbad]

theorem seqInUse_copyA {s : State} {v : Nat} (huse : s.sets.inUse = 0) (hseq : leAt s.sets.copyA 0 4 = v) : seqInUse s = v := by
  rw [seqInUse, huse, if_neg (by decide), copyInUse, huse, if_pos rfl, hseq]

/-- A copy that differs in its sequence number is not the one written. -/
theorem ne_sealCopy {c data : List Byte} (h : leAt c 0 4 ≠ 8) : c ≠ sealCopy 8 data := by
  rintro rfl
  exact h (leAt_sealCopy_seq 8 data)

theorem settingsWrite_host {j : Nat} {e : JEntry} {s : State} (hr : Ready 0x50 j e s) (ha : e.d.a0 = 0) (hread : s.readOk = true) (img : HostRead)
    (back1 back2 : List Byte) : exec (.settingsWrite j img back1 back2) s = answer s (writeImage j img back1 back2 s) := by
  change execSettingsWrite j img back1 back2 s = _
  rw [execSettingsWrite, runCommand_ready hr, ha]
  exact congrArg (answer s) (if_pos hread)

theorem settingsWrite_keepA {j : Nat} {e : JEntry} {s : State} (hr : Ready 0x50 j e s) (ha : e.d.a0 = 1) (img : HostRead) (back1 back2 : List Byte) :
    exec (.settingsWrite j img back1 back2) s = answer s (resolveCopies j true back1 back2 s) := by
  change execSettingsWrite j img back1 back2 s = _
  rw [execSettingsWrite, runCommand_ready hr, ha]
  rfl

/-! ### A command that goes to another tile -/

/-- A command sent to its tile waits at a port of the ring. -/
theorem forward_waits {s : State} (hlink : s.clk.link = true) (hquiet : s.arr.quiet = []) (j tile : Nat) (d : Desc) :
    ∃ c f, forward j tile d s = { s with crl := c } ∧ s.crl.queued c ∧ f ∈ c.waits 1 ∧ f.msg = .cmd j d := by
  obtain ⟨c, f, h, hq, hf, hmsg, -⟩ := sendMsg_waits hlink (dst := tile) (by rw [hquiet]; exact List.not_mem_nil) 1 (.cmd j d)
  exact ⟨c, f, h, hq, hf, hmsg⟩

theorem State.selected_one {d : Desc} (htile : d.tile < 64) (s : State) : s.selected d = [d.tile] :=
  if_neg (by omega)

/-- A command for one other tile goes to it and waits for it (10 R295). -/
theorem startParts_forwarded {e : JEntry} (htile : e.d.tile ≠ 0) (hlt : e.d.tile < 64) (w : JWait) (own : State → State) (s : State) :
    startParts e w own s = forward e.cmd e.d.tile e.d
      (s.setEntry e.cmd (fun x => { x with tiles := [e.d.tile], wait := w, code := 0, r0 := 0, r1 := 0, ctile := 0 })) := by
  unfold startParts
  dsimp only
  rw [State.selected_one hlt, if_neg (by simp [Ne.symm htile]), List.foldl_cons, List.foldl_nil, if_neg htile]


/-! ### The commands for one member -/

theorem memberBusy_idle {s : State} (hfw : s.arr.fwUpdate = none) (hreset : s.arr.resetMember = none) : ¬ s.memberBusy = true := by
  simp [State.memberBusy, hfw, hreset]

theorem resetMember_busy {j : Nat} {e : JEntry} {s : State} (hr : Ready 0x52 j e s) (hbusy : s.memberBusy = true) :
    exec (.resetMember j) s = answer s (finish j 0x04 0 0 0 s) := by
  change execResetMember j s = _
  rw [execResetMember, runCommand_ready hr]
  exact congrArg (answer s) (if_pos hbusy)

theorem fwUpdateMember_busy {j : Nat} {e : JEntry} {s : State} (hr : Ready 0x51 j e s) (hbusy : s.memberBusy = true) (img : HostRead) :
    exec (.fwUpdateMember j img) s = answer s (finish j 0x04 0 0 0 s) := by
  change execFwUpdateMember j img s = _
  rw [execFwUpdateMember, runCommand_ready hr]
  exact congrArg (answer s) (if_pos hbusy)

/-- The entry of a command that waits for one member. -/
theorem setTiles_setWait_entry {s : State} {j : Nat} {e : JEntry} (h : s.entry j = some e) (ts : List Nat) (w : JWait) :
    (setTiles j ts (setWait j w s)).entry j = some { e with tiles := ts, wait := w } :=
  State.entry_setEntry_some (f := fun x => { x with tiles := ts })
    (State.entry_setEntry_some (f := fun x => { x with wait := w }) h fun _ hx hs => ⟨hx, hs⟩) fun _ hx hs => ⟨hx, hs⟩

theorem resetMember_goes {j : Nat} {e : JEntry} {s : State} (hr : Ready 0x52 j e s) (hidle : ¬ s.memberBusy = true) :
    exec (.resetMember j) s = answer s (forward j e.d.tile e.d (setTiles j [e.d.tile] (setWait j .member
      { s with arr.resetMember := some (j, e.d.tile) }))) := by
  change execResetMember j s = _
  rw [execResetMember, runCommand_ready hr]
  exact congrArg (answer s) (if_neg hidle)

/-- The image of an update goes to its member after the command (07 R231). -/
theorem fwUpdateMember_goes {j : Nat} {e : JEntry} {s : State} (hr : Ready 0x51 j e s) (hidle : ¬ s.memberBusy = true) (hread : s.readOk = true)
    {data : List Byte} (hlen : data.length = e.d.p0) : ∃ n, exec (.fwUpdateMember j (.ok data)) s = answer s
      (sendMsg 2 e.d.tile (.fwData data (crc32 data) n true) (forward j e.d.tile e.d (setTiles j [e.d.tile] (setWait j .member
        { s with fresh := s.fresh + 1, arr.fwUpdate := some (j, e.d.tile, none) })))) := by
  refine ⟨1 + (Config.freeValue s.fresh).toNat % 65535, ?_⟩
  change execFwUpdateMember j (.ok data) s = _
  rw [execFwUpdateMember, runCommand_ready hr]
  dsimp only
  rw [if_neg hidle, hread, ← hlen, padTo_length_self]
  rfl

/-- A dictionary for another tile goes to it before the command (10 R295). -/
theorem tokenLoad_goes {j : Nat} {e : JEntry} {s : State} (hr : Ready 0x24 j e s) (htile : e.d.tile ≠ 0) (hlt : e.d.tile < 64) (hread : s.readOk = true)
    (hlink : s.clk.link = true) (hquiet : s.arr.quiet = []) (data : List Byte) : ∃ l p c f g,
      exec (.tokenLoad j (.ok data)) s = answer s { s with jrn := l, ctx.pieces := p, crl := c } ∧
      (State.entry { s with jrn := l } j).map (fun x => (x.stage, x.tiles)) = some (.issued, [e.d.tile]) ∧
      f ∈ c.waits 1 ∧ f.msg = .cmd j e.d ∧ g ∈ c.waits 2 ∧ g.msg = .ctxData 0 j (padTo 1024 data) 3 := by
  have hcmd := (State.cmd_of_entry hr.1).1
  have hset : (s.setEntry j (fun x => { x with imgCrc := crc32 (padTo 1024 data) })).entry j = some { e with imgCrc := crc32 (padTo 1024 data) } :=
    State.entry_setEntry_some hr.1 fun _ hx hs => ⟨hx, hs⟩
  have hexec : exec (.tokenLoad j (.ok data)) s = answer s (forward j e.d.tile e.d (State.setEntry (sendMsg 2 e.d.tile (.ctxData 0 j (padTo 1024 data) 3)
      (keepPiece j (padTo 1024 data) (s.setEntry j (fun x => { x with imgCrc := crc32 (padTo 1024 data) })))) j
      (fun x => { x with tiles := [e.d.tile], wait := .member, code := 0, r0 := 0, r1 := 0, ctile := 0 }))) := by
    change execTokenLoad j (.ok data) s = _
    rw [execTokenLoad, runCommand_ready hr]
    dsimp only
    rw [if_pos (by simp; omega)]
    unfold startWithImage
    rw [hread, if_neg (by decide)]
    dsimp only
    rw [State.selected_one hlt, List.foldl_cons, List.foldl_nil, if_neg htile, startParts_forwarded htile hlt, hcmd]
  generalize hu : keepPiece j _ _ = u at hexec
  obtain ⟨l, p, rfl, hl⟩ : ∃ l p, u = { s with jrn := l, ctx.pieces := p } ∧ State.entry { s with jrn := l } j =
      some { e with imgCrc := crc32 (padTo 1024 data) } := ⟨_, _, hu.symm, hset⟩
  obtain ⟨c, g, hc, -, hg, hgmsg, -⟩ := sendMsg_waits (s := { s with jrn := l, ctx.pieces := p }) hlink (dst := e.d.tile)
    (by rw [hquiet]; exact List.not_mem_nil) 2 (.ctxData 0 j (padTo 1024 data) 3)
  rw [hc] at hexec
  have hset' := State.entry_setEntry_some hl (f := fun x => { x with tiles := [e.d.tile], wait := .member, code := 0, r0 := 0, r1 := 0, ctile := 0 })
    fun _ hx hs => ⟨hx, hs⟩
  obtain ⟨c', f, hc', hq, hf, hfmsg⟩ := forward_waits (s := { s with
    jrn := (State.setEntry { s with jrn := l } j
      (fun x => { x with tiles := [e.d.tile], wait := .member, code := 0, r0 := 0, r1 := 0, ctile := 0 })).jrn
    ctx.pieces := p, crl := c }) hlink hquiet j e.d.tile e.d
  refine ⟨_, p, c', f, g, hexec.trans (congrArg (answer s) hc'), ?_, hf, hfmsg, hq.2 2 g hg, hgmsg⟩
  exact (congrArg (Option.map fun x : JEntry => (x.stage, x.tiles)) hset').trans (by rw [Option.map_some, hr.2.1])

/-- A piece of a context for another tile is kept and its command goes there (08 R242). -/
theorem stageContext_goes {j : Nat} {e : JEntry} {s : State} (hr : Ready 0x10 j e s) (htile : e.d.tile ≠ 0) (hlt : e.d.tile < 64) (hread : s.readOk = true)
    (hlink : s.clk.link = true) (hquiet : s.arr.quiet = []) (data : List Byte) : ∃ l p c f,
      exec (.stageContext j (.ok data)) s = answer s { s with jrn := l, ctx.pieces := p, crl := c } ∧
      (State.entry { s with jrn := l } j).map (fun x => (x.stage, x.tiles)) = some (.issued, [e.d.tile]) ∧
      f ∈ c.waits 1 ∧ f.msg = .cmd j e.d := by
  have hms : [e.d.tile].filter (· != 0) = [e.d.tile] := by simp [htile]
  have hexec : exec (.stageContext j (.ok data)) s = answer s (forward j e.d.tile e.d ((keepPiece j (padTo e.d.p1 data) s).setEntry j
      (fun x => { x with tiles := [e.d.tile], wait := .check, code := 0, ctile := 0 }))) := by
    change execStageContext j (.ok data) s = _
    rw [execStageContext, runCommand_ready hr]
    dsimp only
    rw [hread, if_neg (by decide), State.selected_one hlt, if_neg (by simp [Ne.symm htile]), hms]
    rfl
  have hset := State.entry_setEntry_some hr.1 (f := fun x => { x with tiles := [e.d.tile], wait := .check, code := 0, ctile := 0 })
    fun _ hx hs => ⟨hx, hs⟩
  obtain ⟨c, f, hc, -, hf, hmsg⟩ := forward_waits (s := (keepPiece j (padTo e.d.p1 data) s).setEntry j
    (fun x => { x with tiles := [e.d.tile], wait := .check, code := 0, ctile := 0 })) hlink hquiet j e.d.tile e.d
  refine ⟨_, _, c, f, hexec.trans (congrArg (answer s) hc), ?_, hf, hmsg⟩
  exact (congrArg (Option.map fun x : JEntry => (x.stage, x.tiles)) hset).trans (by rw [Option.map_some, hr.2.1])

theorem readContext_ready {j : Nat} {e : JEntry} {s : State} (hr : Ready 0x13 j e s) (hdma : s.dmaOk = true) :
    exec (.readContext j) s = answer s (startParts e .member (readContextOwn j e.d) s) := by
  change execReadContext j s = _
  rw [execReadContext, runCommand_ready hr]
  exact congrArg (answer s) (if_neg (by simp [hdma]))

end Sys2Proof.Machine

open Sys2Proof Sys2Proof.Machine

/-- Settles O60: the copy written is the sealed one, an update or a reset goes to its one member, and a command for another tile goes to it and
changes nothing here. -/
theorem settingsAndMemberCommands : Obligations.SettingsAndMemberCommands := by
  intro j e data back1 back2 s hm hmember ended sent good copy
  have hcopyeq : ∀ c seq, data.length = 0x2000 → copy c seq → c = sealCopy seq data := fun c seq hdata hc => by
    obtain ⟨h1, h2, h3, h4⟩ := hc
    exact eq_sealCopy hdata h1 h2 h3 h4
  have hended : ∀ {t : State} {code r0 : Nat}, t.entry j = some e → e.stage = .issued → ended (finish j code r0 0 0 t) code r0 :=
    fun hentry hstage => congrArg (Option.map fun x : JEntry => (x.stage, x.code, x.r0)) (finish_entry hentry hstage _ _ _ _)
  have hbyte : ∀ {c : List Byte} {seq : Nat}, data.length = 0x2000 → copy c seq → leAt c 0x10 1 = leAt data 0x10 1 := fun hlen hc => by
    obtain ⟨h1, -, h3, -⟩ := hc
    have hat := congrArg (fun l : List Byte => l[12]?) h3
    simp only [List.getElem?_drop, Nat.reduceAdd, List.getElem?_take] at hat
    rw [leAt_one, leAt_one, List.getD_eq_getElem?_getD, List.getD_eq_getElem?_getD]
    simpa using congrArg (fun o : Option Byte => (o.getD 0).toNat) hat
  refine ⟨fun hr hread hsel ha hp hlen => ⟨fun hgood htgt huse hseq hcopy => ?_, fun hgood htgt huse hseq hb1 hb2 => ?_, fun hgood htgt => ?_, fun hbad => ?_⟩,
    fun hr hsel ha hmis hA hlen hseq hcopy => ?_, fun hfw hreset hlink hquiet => ⟨fun hr hread hpos hword hmax hlen => ?_, fun hr => ?_⟩,
    fun hbusy => ⟨fun hr => ?_, fun hr => ?_⟩, ?_⟩
  · obtain ⟨b, hw⟩ := writeCopy_reads (j := j) (k := 1) (seq := 8) (back2 := back2) hsel (hcopyeq back1 8 hlen hcopy)
    have himg := writeImage_good (j := j) (back1 := back1) (back2 := back2) hlen hgood htgt
    rw [seqInUse_copyA huse hseq] at himg
    refine completes_answer (settingsWrite_host hr ha hread _ _ _) ?_
    rw [himg.trans hw, ← hcopyeq back1 8 hlen hcopy]
    exact ⟨hended hr.1 hr.2.1, rfl, rfl, rfl, rfl, rfl, hbyte hlen hcopy⟩
  · obtain ⟨b, hw⟩ := writeCopy_mismatches (j := j) (k := 1) (seq := 8) (c := sealCopy 8 data) hsel (ne_sealCopy hb1) (ne_sealCopy hb2)
    have himg := writeImage_good (j := j) (back1 := back1) (back2 := back2) hlen hgood htgt
    rw [seqInUse_copyA huse hseq] at himg
    refine completes_answer (settingsWrite_host hr ha hread _ _ _) ?_
    rw [himg.trans hw]
    exact ⟨hended hr.1 hr.2.1, huse, rfl, rfl⟩
  · refine completes_answer (settingsWrite_host hr ha hread _ _ _) ?_
    rw [writeImage_disputed hlen hgood htgt]
    exact ⟨hended hr.1 hr.2.1, rfl⟩
  · refine completes_answer (settingsWrite_host hr ha hread _ _ _) ?_
    rw [writeImage_bad hlen hbad]
    exact ⟨hended hr.1 hr.2.1, rfl⟩
  · obtain ⟨b, hw⟩ := writeCopy_reads (j := j) (k := 1) (seq := 8) (back2 := back2) hsel (hcopyeq back1 8 hlen hcopy)
    have hres : resolveCopies j true back1 back2 s = writeCopy j 1 8 (sealCopy 8 data) back1 back2 s := by
      unfold resolveCopies
      rw [hmis, if_neg (by decide), if_pos rfl, if_pos rfl, hA]
      dsimp only
      rw [hseq]
      rfl
    refine completes_answer (settingsWrite_keepA hr ha _ _ _) ?_
    rw [hres, hw, ← hcopyeq back1 8 hlen hcopy]
    exact ⟨hended hr.1 hr.2.1, rfl, rfl, rfl, rfl⟩
  · obtain ⟨n, hgo⟩ := fwUpdateMember_goes hr (memberBusy_idle hfw hreset) hread hlen
    refine completes_answer hgo ?_
    have hentry := setTiles_setWait_entry (s := { s with fresh := s.fresh + 1, arr.fwUpdate := some (j, e.d.tile, none) }) hr.1 [e.d.tile] .member
    generalize hu : setTiles j [e.d.tile] (setWait j .member { s with fresh := s.fresh + 1, arr.fwUpdate := some (j, e.d.tile, none) }) = u at hentry ⊢
    obtain ⟨l, rfl⟩ : ∃ l, u = { s with jrn := l, fresh := s.fresh + 1, arr.fwUpdate := some (j, e.d.tile, none) } := ⟨_, hu.symm⟩
    obtain ⟨c, f, hc, -, hf, hmsg⟩ := forward_waits
      (s := { s with jrn := l, fresh := s.fresh + 1, arr.fwUpdate := some (j, e.d.tile, none) }) hlink hquiet j e.d.tile e.d
    obtain ⟨c', f', hc', hq, hf', hmsg', hdst⟩ := sendMsg_waits
      (s := { s with jrn := l, fresh := s.fresh + 1, arr.fwUpdate := some (j, e.d.tile, none), crl := c }) hlink (dst := e.d.tile)
      (by rw [hquiet]; exact List.not_mem_nil) 2 (.fwData data (crc32 data) n true)
    rw [hc, hc']
    refine ⟨hentry, rfl, ?_, List.any_eq_true.2 ⟨f', hf', ?_⟩⟩
    · have hany := Crila.any_msg_of_waits (.inl rfl) (hq.2 1 f hf)
      rwa [hmsg] at hany
    · rw [hmsg']
      simp [hdst]
  · refine completes_answer (resetMember_goes hr (memberBusy_idle hfw hreset)) ?_
    have hentry := setTiles_setWait_entry (s := { s with arr.resetMember := some (j, e.d.tile) }) hr.1 [e.d.tile] .member
    generalize hu : setTiles j [e.d.tile] (setWait j .member { s with arr.resetMember := some (j, e.d.tile) }) = u at hentry ⊢
    obtain ⟨l, rfl⟩ : ∃ l, u = { s with jrn := l, arr.resetMember := some (j, e.d.tile) } := ⟨_, hu.symm⟩
    obtain ⟨c, f, hc, -, hf, hmsg⟩ := forward_waits (s := { s with jrn := l, arr.resetMember := some (j, e.d.tile) }) hlink hquiet j e.d.tile e.d
    rw [hc]
    refine ⟨hentry, rfl, ?_⟩
    have hany := Crila.any_msg_of_waits (.inl rfl) hf
    rwa [hmsg] at hany
  · refine completes_answer (resetMember_busy hr hbusy) ?_
    exact ⟨hended hr.1 hr.2.1, rfl⟩
  · refine completes_answer (fwUpdateMember_busy hr hbusy _) ?_
    exact ⟨hended hr.1 hr.2.1, rfl⟩
  · intro hr htile hlt hlink hquiet goes
    have closes : ∀ {i : Instr} {l p c f}, exec i s = answer s { s with jrn := l, ctx.pieces := p, crl := c } →
        (State.entry { s with jrn := l } j).map (fun x => (x.stage, x.tiles)) = some (.issued, [e.d.tile]) → f ∈ c.waits 1 →
        f.msg = .cmd j e.d → goes i := fun hexec hentry hf hmsg => by
      refine completes_answer hexec ⟨hentry, ?_, rfl, rfl, rfl, rfl, Memory.canon_of_wf _ hm, rfl⟩
      have hany := Crila.any_msg_of_waits (.inl rfl) hf
      rwa [hmsg] at hany
    have forwarded : ∀ (w : JWait) (own : State → State) (i : Instr), exec i s = answer s (startParts e w own s) → goes i := fun w own i hexec => by
      rw [startParts_forwarded htile hlt, (State.cmd_of_entry hr.1).1] at hexec
      have hset := State.entry_setEntry_some hr.1 (f := fun x => { x with tiles := [e.d.tile], wait := w, code := 0, r0 := 0, r1 := 0, ctile := 0 })
        fun _ hx hs => ⟨hx, hs⟩
      obtain ⟨c, f, hc, -, hf, hmsg⟩ := forward_waits (s := s.setEntry j
        (fun x => { x with tiles := [e.d.tile], wait := w, code := 0, r0 := 0, r1 := 0, ctile := 0 })) hlink hquiet j e.d.tile e.d
      refine closes (p := s.ctx.pieces) (hexec.trans (congrArg (answer s) hc)) ?_ hf hmsg
      exact (congrArg (Option.map fun x : JEntry => (x.stage, x.tiles)) hset).trans (by rw [Option.map_some, hr.2.1])
    have hready : ∀ {op}, e.d.opcode = op → Ready op j e s := fun h => h ▸ hr
    refine ⟨fun hop hdma => forwarded .member (readContextOwn j e.d) _ (readContext_ready (hready hop) hdma),
      fun hop => forwarded .latch (hopOwn j e.d) _ (runCommand_ready (hready hop) _),
      fun hop => forwarded .lineTest (lineTestOwn j) _ (runCommand_ready (hready hop) _),
      fun hop => forwarded .cal (recalOwn j (e.d.a0 % 2 == 1)) _ (runCommand_ready (hready hop) _),
      fun hop => forwarded .release (releaseOwn j e.d) _ (runCommand_ready (hready hop) _),
      fun hop => forwarded .snapshot (captureOwn j e.d) _ (runCommand_ready (hready hop) _),
      fun hop => forwarded .member (mailboxSendOwn j e.d) _ (runCommand_ready (hready hop) _), fun hop hread => ?_, fun hop hread => ?_⟩
    · obtain ⟨l, p, c, f, g, hexec, hentry, hf, hfmsg, hg, hgmsg⟩ := tokenLoad_goes (hready hop) htile hlt hread hlink hquiet data
      refine ⟨closes hexec hentry hf hfmsg, ?_⟩
      rw [hexec]
      have hany := Crila.any_msg_of_waits (.inr rfl) hg
      rwa [hgmsg] at hany
    · obtain ⟨l, p, c, f, hexec, hentry, hf, hmsg⟩ := stageContext_goes (hready hop) htile hlt hread hlink hquiet data
      exact closes hexec hentry hf hmsg
end

section
/-! STAGE_CONTEXT, COMMIT, SWITCH and READ_CONTEXT on the tile itself (08 R236 to R249, 10 R292): the images of the slots under writes, the
first failed check, and a commit that passes at once. -/

namespace Sys2Proof.Machine

/-! ### Fields of a list of bytes -/

theorem leAt_append (a b : List Byte) {o : Nat} (o' n : Nat) (h : o = a.length + o') : leAt (a ++ b) o n = leAt b o' n := by
  rw [leAt, leAt, h, List.drop_append, List.drop_eq_nil_of_le (by omega), List.nil_append, Nat.add_sub_cancel_left]

theorem crc32_lt (bs : List Byte) : crc32 bs < 2 ^ 32 := BitVec.isLt _

/-! ### The images of the slots -/

/-- A block after a write within it. -/
theorem Memory.read_write_within {m : Memory} (hm : m.wf = true) (a : Nat) {o n : Nat} {bs : List Byte} (h : o + bs.length ≤ n) :
    (m.write (a + o) bs).read a n = (m.read a n).take o ++ bs ++ (m.read a n).drop (o + bs.length) := by
  have hlen := Memory.length_read hm a n
  have hw := m.write_wf (a + o) bs hm
  refine List.ext_getElem ?_ fun i h1 h2 => ?_
  · rw [Memory.length_read hw]
    simp [hlen]
    omega
  · rw [Memory.length_read hw] at h1
    rw [← List.getD_eq_getElem _ 0, ← List.getD_eq_getElem _ 0, Memory.getD_read hw a h1]
    have htake : ((m.read a n).take o).length = o := by rw [List.length_take, hlen]; omega
    have hget : ∀ {k}, k < n → ((m.read a n)[k]?).getD 0 = m.byte (a + k) := fun hk => by
      rw [← List.getD_eq_getElem?_getD, Memory.getD_read hm a hk]
    rw [List.getD_eq_getElem?_getD]
    by_cases hlo : i < o
    · rw [m.byte_write_outside (by omega), List.append_assoc, List.getElem?_append_left (by omega), List.getElem?_take_of_lt hlo, hget h1]
    · by_cases hhi : i < o + bs.length
      · obtain ⟨k, rfl⟩ : ∃ k, i = o + k := ⟨i - o, by omega⟩
        rw [← Nat.add_assoc, m.byte_write_inside _ _ (by omega), List.append_assoc, List.getElem?_append_right (by omega), htake,
          Nat.add_sub_cancel_left, List.getElem?_append_left (by omega), List.getD_eq_getElem?_getD]
      · have hlen2 : ((m.read a n).take o ++ bs).length = o + bs.length := by rw [List.length_append, htake]
        rw [m.byte_write_outside (by omega), List.getElem?_append_right (by omega), hlen2, List.getElem?_drop,
          show o + bs.length + (i - (o + bs.length)) = i by omega, hget h1]

theorem State.length_image {s : State} (hm : s.memOk) (n : Nat) : (s.image n).length = 0x800 := Memory.length_read hm _ _

/-- The image of a slot after a write into another one. -/
theorem image_write_other {m : Memory} (hm : m.wf = true) {n k o : Nat} {bs : List Byte} (hne : k ≠ n) (h : o + bs.length ≤ 0x800) :
    (m.write (slotBase n + o) bs).read (slotBase k) 0x800 = m.read (slotBase k) 0x800 :=
  Memory.read_write_disjoint hm (by unfold slotBase; omega)

/-! ### A piece written over a slot's image (08 R242) -/

/-- The operands of a command that is not refused stay within its opcode's masks. -/
theorem within_of_rejectCode {s : State} {d : Desc} {o : OpInfo} (ho : opInfo d.opcode = some o) (h : rejectCode s d = 0) :
    within d.a0 o.a0 = true := by
  unfold rejectCode at h
  rw [ho] at h
  dsimp only at h
  split at h
  · exact absurd h (by decide)
  next hargs =>
    by_contra hout
    exact hargs (by simp [hout])

theorem le_of_within {v mask : Nat} (h : within v mask = true) : v ≤ mask := by
  have hand : v &&& mask = v := by simpa [within] using h
  exact hand ▸ Nat.and_le_right

/-- Whether a slot may take a piece. -/
theorem stageCheck_ok {d : Desc} {s : State} (hmode : d.a0 < 64) (h : s.slot (d.a0 % 8) = .empty ∨ s.slot (d.a0 % 8) = .staging ∨ s.slot (d.a0 % 8) = .ready)
    (hsrc : d.a0 / 16 = 2 → s.slot (d.a1 % 8) ≠ .empty) : stageCheck d s = 0 := by
  have hheld : (s.slot (fld d.a0 0 3)).held = false := by
    have hfld : fld d.a0 0 3 = d.a0 % 8 := by simp [fld]
    rcases h with h | h | h <;> rw [hfld, h] <;> rfl
  refine if_neg ?_
  rw [hheld, Bool.false_or, Bool.and_eq_true, not_and]
  intro hfld
  have hfld : d.a0 / 16 = 2 := by
    have h2 : fld d.a0 4 2 = 2 := by simpa using hfld
    unfold fld at h2
    omega
  simpa [fld] using hsrc hfld

theorem stageCheck_held {d : Desc} {s : State} (h : s.slot (d.a0 % 8) = .pending ∨ s.slot (d.a0 % 8) = .active ∨ s.slot (d.a0 % 8) = .draining ∨
    s.slot (d.a0 % 8) = .checking) : stageCheck d s = 0x04 := by
  have hheld : (s.slot (fld d.a0 0 3)).held = true := by
    have hfld : fld d.a0 0 3 = d.a0 % 8 := by simp [fld]
    rcases h with h | h | h | h <;> rw [hfld, h] <;> rfl
  exact if_pos (by rw [hheld, Bool.true_or])

/-- The image a piece is written over: the slot's own, the defaults of its number, or the copied one. -/
def stageBase (d : Desc) (s : State) : List Byte :=
  if d.a0 / 16 = 0 then s.image (d.a0 % 8) else if d.a0 / 16 = 1 then State.reset.image (d.a0 % 8) else s.image (d.a1 % 8)

/-- The store before the piece is written: the base image stands in the slot, and the other slots are as before. -/
theorem stageInit_spec {d : Desc} {s : State} (hm : s.memOk) (hmode : d.a0 / 16 < 3) :
    let n := d.a0 % 8
    let m := if d.a0 / 16 = 1 then s.mem.clear (slotBase n) 0x800
      else if d.a0 / 16 = 2 then s.mem.write (slotBase n) (s.image (d.a1 % 8)) else s.mem
    m.wf = true ∧ m.read (slotBase n) 0x800 = stageBase d s ∧ ∀ k, k ≠ n → m.read (slotBase k) 0x800 = s.mem.read (slotBase k) 0x800 := by
  intro n m
  have hother : ∀ k i, k ≠ n → i < 0x800 → ¬ (slotBase n ≤ slotBase k + i ∧ slotBase k + i < slotBase n + 0x800) := fun k i hk hi => by
    unfold slotBase
    omega
  rcases (by omega : d.a0 / 16 = 0 ∨ d.a0 / 16 = 1 ∨ d.a0 / 16 = 2) with h | h | h
  · simp only [m, stageBase, h]
    exact ⟨hm, rfl, fun _ _ => rfl⟩
  · have hwf := s.mem.clear_wf (slotBase n) 0x800 hm
    simp only [m, stageBase, h]
    refine ⟨hwf, ?_, fun k hk => Memory.read_congr hm hwf fun i hi => by rw [Memory.byte_clear, if_neg (hother k i hk hi)]⟩
    refine Memory.read_congr (m := State.reset.mem) rfl hwf fun i hi => ?_
    rw [Memory.byte_clear, if_pos ⟨by omega, by omega⟩]
    rfl
  · have hlen := State.length_image hm (d.a1 % 8)
    have hwf := s.mem.write_wf (slotBase n) (s.image (d.a1 % 8)) hm
    simp only [m, stageBase, h]
    refine ⟨hwf, ?_, fun k hk => image_write_other (o := 0) hm hk (by omega)⟩
    have hsame := Memory.read_write_same hm (slotBase n) (s.image (d.a1 % 8))
    rwa [hlen] at hsame

/-- What a piece leaves in the slots. -/
theorem stageApply_spec {d : Desc} {data : List Byte} {s : State} (hm : s.memOk) (hmode : d.a0 / 16 < 3) (hlen : data.length = d.p1)
    (hfit : d.p0 + d.p1 ≤ 2048) : ∃ m b, stageApply d data s =
      { s with mem := m, ctx.slots := s.ctx.slots.set (d.a0 % 8) .staging, ctx.bad := b } ∧ m.wf = true ∧ (d.a0 / 16 = 1 → d.a0 % 8 ∉ b) ∧
      m.read (slotBase (d.a0 % 8)) 0x800 = (stageBase d s).take d.p0 ++ data ++ (stageBase d s).drop (d.p0 + d.p1) ∧
      ∀ k, k ≠ d.a0 % 8 → m.read (slotBase k) 0x800 = s.mem.read (slotBase k) 0x800 := by
  have hn : fld d.a0 0 3 = d.a0 % 8 := by simp [fld]
  have hsrc : fld d.a1 0 3 = d.a1 % 8 := by simp [fld]
  have hinit : fld d.a0 4 2 = d.a0 / 16 := by unfold fld; omega
  have hpad : padTo d.p1 data = data := by rw [← hlen]; exact padTo_length_self data
  obtain ⟨hwf, hbase, hother⟩ := stageInit_spec hm hmode
  unfold stageApply
  dsimp only
  rw [hn, hsrc, hinit, hpad]
  refine ⟨_, _, rfl, ?_, ?_, ?_, ?_⟩
  · exact Memory.write_wf _ _ _ hwf
  · intro h
    simp [h]
  · exact (Memory.read_write_within hwf _ (by omega)).trans (by rw [hbase, hlen])
  · exact fun k hk => (image_write_other hwf hk (by omega)).trans (hother k hk)

/-- A piece that is kept is the one its command finds. -/
theorem keepPiece_assoc (j : Nat) (b : List Byte) (s : State) : assoc (keepPiece j b s).ctx.pieces j = some b := by
  have hnone : (s.ctx.pieces.filter (fun p => p.1 != j && (s.entry p.1).any (fun e => e.stage == .issued))).find? (·.1 == j) = none := by
    simp only [List.find?_eq_none, List.mem_filter, Bool.and_eq_true, bne_iff_ne, beq_iff_eq]
    exact fun p hp h => hp.2.1 h
  unfold assoc keepPiece
  dsimp only
  rw [List.find?_append, hnone]
  simp

/-- A piece for the tile itself, fetched and written (08 R242). -/
theorem stageContext_own {j : Nat} {e : JEntry} {s : State} (hr : Ready 0x10 j e s) (htile : e.d.tile = 0) (hread : s.readOk = true)
    (hcheck : stageCheck e.d s = 0) {data : List Byte} (hlen : data.length = e.d.p1) : ∃ l p,
    exec (.stageContext j (.ok data)) s = answer s (tilePart j 0 0 1 0 (stageApply e.d data { s with jrn := l, ctx.pieces := p })) ∧
      State.entry { s with jrn := l } j = some { e with tiles := [0], wait := .member, code := 0, ctile := 0 } := by
  have hsel : ∀ u : State, u.selected e.d = [0] := fun u => by rw [State.selected_one (by omega), htile]
  have hms : [0].filter (fun k : Nat => k != 0) = [] := by decide
  have hpad : padTo e.d.p1 data = data := by rw [← hlen]; exact padTo_length_self data
  have hset := State.entry_setEntry_some (s := keepPiece j data s) hr.1 (f := fun x => { x with tiles := [], wait := .check, code := 0, ctile := 0 })
    fun _ hx hs => ⟨hx, hs⟩
  have hpiece : assoc ((keepPiece j data s).setEntry j (fun x => { x with tiles := [], wait := .check, code := 0, ctile := 0 })).ctx.pieces j = some data :=
    keepPiece_assoc j data s
  have hset' := State.entry_setEntry_some hset (f := fun x => { x with tiles := [0], wait := .member }) fun _ hx hs => ⟨hx, hs⟩
  refine ⟨_, (keepPiece j data s).ctx.pieces, ?_, hset'⟩
  change execStageContext j (.ok data) s = _
  rw [execStageContext, runCommand_ready hr]
  dsimp only
  rw [hread, if_neg (by decide), hsel, hcheck, if_neg (by decide), hpad, hms, if_pos (by rfl)]
  unfold stageWrite
  rw [hset, hpiece]
  dsimp only
  rw [hsel]
  rfl

/-- A read of the host that failed is counted. -/
theorem countFailedRead_eq (r : HostRead) (s : State) : ∃ h d i k, countFailedRead r s = { s with host := h, hdma := d, icu := i, clk.mergeIcu := k } := by
  have hset : ∃ h i k, setHostrd { s with host.cntHostrd := cnt 8 s.host.cntHostrd 1 } = { s with host := h, icu := i, clk.mergeIcu := k } := by
    unfold setHostrd
    split
    · exact ⟨_, s.icu, s.clk.mergeIcu, rfl⟩
    · obtain ⟨src, n, last, held, k, h⟩ := raise_eq 29 { s with host.cntHostrd := cnt 8 s.host.cntHostrd 1, host.hostrd := true }
      rw [h]
      exact ⟨_, _, k, rfl⟩
  obtain ⟨h, i, k, hset⟩ := hset
  unfold countFailedRead
  split
  · exact ⟨s.host, s.hdma, s.icu, s.clk.mergeIcu, rfl⟩
  · dsimp only
    rw [hset]
    split <;> exact ⟨_, _, i, k, rfl⟩

/-! ### A commit that passes (08 R240, R246 to R248) -/

/-- The bytes of an image after its commit: GEN, APPLY_EPOCH and IMAGE_CRC are written at 4. -/
def committedImage (img : List Byte) (gen ea : Nat) : List Byte :=
  img.take 4 ++ (leBytes 4 gen ++ leBytes 4 ea ++ leBytes 4 (crc32 (img.drop 0x40))) ++ img.drop 16

theorem length_commitHeader (a b c : Nat) : (leBytes 4 a ++ leBytes 4 b ++ leBytes 4 c).length = 12 := by
  simp [length_leBytes]

theorem committedImage_fields {img : List Byte} (hlen : img.length = 0x800) (gen ea : Nat) :
    leAt (committedImage img gen ea) 4 4 = gen % 2 ^ 32 ∧ leAt (committedImage img gen ea) 8 4 = ea % 2 ^ 32 ∧
      leAt (committedImage img gen ea) 0x00C 4 = crc32 (img.drop 0x40) ∧ (committedImage img gen ea).drop 0x40 = img.drop 0x40 := by
  have htake : (img.take 4).length = 4 := by rw [List.length_take, hlen]; rfl
  have hfront : (img.take 4 ++ (leBytes 4 gen ++ leBytes 4 ea ++ leBytes 4 (crc32 (img.drop 0x40)))).length = 16 := by
    rw [List.length_append, htake, length_commitHeader]
  unfold committedImage
  refine ⟨?_, ?_, ?_, ?_⟩
  · rw [List.append_assoc, leAt_append _ _ 0 4 (by rw [htake]), List.append_assoc, List.append_assoc]
    exact leAt_word_first _ _
  · rw [List.append_assoc, leAt_append _ _ 4 4 (by rw [htake]), List.append_assoc, List.append_assoc]
    exact (leAt_word_append gen 0 4 _).trans (leAt_word_first _ _)
  · rw [List.append_assoc, leAt_append _ _ 8 4 (by rw [htake]), List.append_assoc, List.append_assoc]
    refine (leAt_word_append gen 4 4 _).trans ((leAt_word_append ea 0 4 _).trans ((leAt_word_first _ _).trans ?_))
    exact Nat.mod_eq_of_lt (crc32_lt _)
  · rw [List.drop_append, List.drop_eq_nil_of_le (by omega), List.nil_append, hfront, List.drop_drop]

theorem length_committedImage {img : List Byte} (hlen : img.length = 0x800) (gen ea : Nat) : (committedImage img gen ea).length = 0x800 := by
  simp [committedImage, length_leBytes, hlen]

/-- The slot of a commit that passes. -/
theorem makePending_spec {s : State} (hm : s.memOk) (slot ea gen : Nat) : ∃ m, makePending slot ea gen s = { s with
    mem := m, ctx.slots := s.ctx.slots.set slot .pending, ctx.pendEa := takesEffect ea s, ctx.copy := committedImage (s.image slot) gen ea
    ctx.copyBad := false, ctx.switched := false } ∧ m.wf = true ∧ m.read (slotBase slot) 0x800 = committedImage (s.image slot) gen ea ∧
    ∀ k, k ≠ slot → m.read (slotBase k) 0x800 = s.mem.read (slotBase k) 0x800 := by
  have hlen := State.length_image hm slot
  have hhdr := length_commitHeader gen ea (crc32 ((s.image slot).drop 0x40))
  have hpatch : patch (s.image slot) 4 (leBytes 4 gen ++ leBytes 4 ea ++ leBytes 4 (crc32 ((s.image slot).drop 0x40))) =
      committedImage (s.image slot) gen ea := by
    rw [patch, hhdr, hlen]
    exact List.take_of_length_le (Nat.le_of_eq (length_committedImage hlen gen ea))
  refine ⟨_, ?_, Memory.write_wf _ (slotBase slot + 4) (leBytes 4 gen ++ leBytes 4 ea ++ leBytes 4 (crc32 ((s.image slot).drop 0x40))) hm, ?_,
    fun k hk => image_write_other hm hk (by omega)⟩
  · rw [← hpatch]
    rfl
  · rw [Memory.read_write_within hm _ (by omega), hhdr]
    rfl

/-- A commit of the tile's own slot that passes. -/
theorem passCommit_own {g : CommitJob} {j : Nat} {s : State} (hset : g.set.contains 0 = true) (hcmd : g.cmd = some j) (ea : Nat) :
    ∃ c q, passCommit g ea s = { makePending g.slot ea (add32 s.ctx.gen 1) { s with ctx.gen := add32 s.ctx.gen 1 } with
      ctx.job := some { g with decided := true, ea := ea, gen := add32 s.ctx.gen 1, unarmed := g.set.filter (· != 0) }
      crl := c, arr.queue := q, jrn := (s.setEntry j (fun e => { e with wait := .boundary ea, r0 := ea, r1 := add32 s.ctx.gen 1 })).jrn } := by
  have hsend : ∀ u : State, ∃ c q, (if u.isRoot && !u.crl.online.isEmpty then broadcast 1 (.apply ea (add32 s.ctx.gen 1) g.slot g.set) u else u) =
      { u with crl := c, arr.queue := q } := fun u => by
    split
    · exact sendMsgParts_eq 1 0 true [.apply ea (add32 s.ctx.gen 1) g.slot g.set] u
    · exact ⟨u.crl, u.arr.queue, rfl⟩
  obtain ⟨c, q, hsent⟩ := hsend { makePending g.slot ea (add32 s.ctx.gen 1) { s with ctx.gen := add32 s.ctx.gen 1 } with
    ctx.job := some { g with decided := true, ea := ea, gen := add32 s.ctx.gen 1, unarmed := g.set.filter (· != 0) } }
  refine ⟨c, q, ?_⟩
  unfold passCommit
  dsimp only
  rw [if_pos hset, hsent, hcmd]
  rfl

theorem openBoundary_uncovered (now n e : Nat) : openBoundary now 0 n e = e := by
  cases n with
  | zero => rfl
  | succ n => rw [openBoundary, if_neg (Nat.not_lt_zero _)]

/-- A commit for the tile alone whose checks pass is decided at once (08 R246). -/
theorem decideCommit_own {g : CommitJob} {s : State} (hset : g.set = [0]) (hreplies : g.replies = [(0, 0, 0)]) (hnamed : g.named = none) :
    decideCommit false g s = passCommit g (add32 s.epoch (if s.chn.latchPassed then 2 else 1)) s := by
  unfold decideCommit
  simp [hset, hreplies, hnamed, worstTile, openBoundary_uncovered]

/-- A commit for the tile alone that fails ends at once (08 R245). -/
theorem decideCommit_fails {g : CommitJob} {s : State} {code off : Nat} (hset : g.set = [0]) (hreplies : g.replies = [(0, code, off)])
    (hnamed : g.named = none) (hcode : code ≠ 0) : decideCommit false g s = failCommit g (0, code, off) { s with ctx.job := none } := by
  unfold decideCommit
  simp [hset, hreplies, hnamed, worstTile, hcode]

/-- A failure of the tile alone is recorded and ends its command. -/
theorem failCommit_own {g : CommitJob} {j : Nat} {f : Nat × Nat × Nat} {s : State} (hset : g.set = [0]) (hcmd : g.cmd = some j)
    (hslot : s.slot g.slot ≠ .checking) : failCommit g f s = finish j 0x05 (failResult f) 0 f.1 (recordFail f s) := by
  have hmay : [0].filter (mayCheck g) = [] := rfl
  have hun : uncheck g (recordFail f s) = recordFail f s := by
    have hne : ((recordFail f s).slot g.slot == .checking) = false := beq_eq_false_iff_ne.2 hslot
    rw [uncheck, hne, Bool.and_false, if_neg (by decide)]
  rw [failCommit, dropCheck, hset, hmay, List.foldl_nil, hun, hcmd]

/-! ### The first failed check (08 R244, R245) -/

theorem worstFail_first {f : Nat × Nat} {l : List (Nat × Nat)} (h : ∀ x ∈ l, f.1 < x.1) : worstFail (f :: l) = some f := by
  rw [worstFail, List.foldl_cons]
  dsimp only
  induction l with
  | nil => rfl
  | cons x l ih =>
    have hx := h x (List.mem_cons_self ..)
    have hbefore : failBefore x f = false := by
      simp only [failBefore, Bool.or_eq_false_iff, decide_eq_false_iff_not, Bool.and_eq_false_iff, beq_eq_false_iff_ne]
      omega
    rw [List.foldl_cons]
    dsimp only
    rw [hbefore]
    exact ih fun y hy => h y (List.mem_cons_of_mem _ hy)

theorem mem_failIf {c : Bool} {code off : Nat} {x : Nat × Nat} (h : x ∈ failIf c code off) : x.1 = code := by
  unfold failIf at h
  split at h
  · rw [List.mem_singleton.1 h]
  · exact absurd h List.not_mem_nil

theorem axisFails_code {m : List Nat} {role code : Nat} {x : Nat × Nat} (h : x ∈ axisFails m role code) : x.1 = code := by
  rcases List.mem_append.1 h with h | h
  · exact mem_failIf h
  · obtain ⟨i, -, rfl⟩ := List.mem_map.1 h
    rfl

theorem mapFails_code {img : List Byte} {x : Nat × Nat} (h : x ∈ mapFails img) : 2 < x.1 := by
  simp only [mapFails, List.mem_append, List.mem_flatMap] at h
  rcases h with ((h | h) | h) | ⟨i, -, h | h⟩
  · rw [mem_failIf h]; decide
  · rw [axisFails_code h]; decide
  · rw [axisFails_code h]; decide
  · rw [mem_failIf h]; decide
  · rw [mem_failIf h]; decide

theorem limitFails_code {img : List Byte} {x : Nat × Nat} (h : x ∈ limitFails img) : 2 < x.1 := by
  have hrules : ∀ r ∈ fieldRules, 2 < r.code := by decide
  obtain ⟨r, hr, rfl⟩ := List.mem_map.1 h
  exact hrules r (List.mem_filter.1 hr).1

theorem relationFails_code {img : List Byte} {x : Nat × Nat} (h : x ∈ relationFails img) : 2 < x.1 := by
  simp only [relationFails, List.mem_append] at h
  rcases h with (((((((h | h) | h) | h) | h) | h) | h) | h) | h <;> rw [mem_failIf h] <;> decide

/-- An image whose header is right fails no check of code 0x01. -/
theorem imageFails_code {slot : Nat} {img : List Byte} (hversion : leAt img 0 1 = 1) (hslot : leAt img 1 1 = slot)
    (hhdr : ∀ o ∈ headerReserved, leAt img o 1 = 0) {x : Nat × Nat} (h : x ∈ imageFails slot img) : 2 < x.1 := by
  have hnone : (headerReserved.filter (fun o => leAt img o 1 != 0)) = [] :=
    List.filter_eq_nil_iff.2 fun o ho => by simp [hhdr o ho]
  simp only [imageFails, hversion, hslot, hnone, List.mem_append, List.map_nil, List.not_mem_nil, or_false, bne_self_eq_false, failIf,
    Bool.false_eq_true, if_false, false_or] at h
  rcases h with ((h | h) | h) | h
  · exact mapFails_code h
  · exact limitFails_code h
  · exact relationFails_code h
  · obtain ⟨o, -, rfl⟩ := List.mem_map.1 h
    norm_num

/-- A header whose bytes from 2 on are 0. -/
theorem header_reserved {img : List Byte} (h : img.take 0x40 = img.take 2 ++ List.replicate 62 0#8) (hlen : img.length = 0x800) :
    ∀ o ∈ headerReserved, leAt img o 1 = 0 := by
  have hrange : ∀ o ∈ headerReserved, 2 ≤ o ∧ o < 0x40 := by decide
  intro o ho
  obtain ⟨hlo, hhi⟩ := hrange o ho
  have hat : img[o]? = some 0#8 := by
    rw [← List.getElem?_take_of_lt hhi, h, List.getElem?_append_right (by rw [List.length_take, hlen]; omega), List.getElem?_replicate,
      List.length_take, hlen, if_pos (by omega)]
  rw [leAt_one, List.getD_eq_getElem?_getD, hat]
  rfl

/-- A slot that is not where the command wants it fails first with 0x02 (08 R244). -/
theorem ownFails_wrongState {n : Nat} {sw : Bool} {rate : Option Nat} {s : State} (hempty : s.slot n = .empty) (hversion : leAt (s.image n) 0 1 = 1)
    (hslot : leAt (s.image n) 1 1 = n) (hhdr : ∀ o ∈ headerReserved, leAt (s.image n) o 1 = 0) :
    worstFail (ownFails n sw none rate s) = some (2, 0xFFF) := by
  have hfirst : failIf (s.slot n != (if sw then SlotState.ready else SlotState.staging)) 0x02 0xFFF = [(2, 0xFFF)] := by
    rw [hempty]
    cases sw <;> rfl
  unfold ownFails
  dsimp only
  rw [hfirst]
  simp only [List.append_assoc, List.cons_append, List.nil_append]
  refine worstFail_first fun x hx => ?_
  simp only [List.mem_append] at hx
  rcases hx with h | h | h | h | h | h | h | h
  · rw [mem_failIf h]; decide
  · split at h
    · exact absurd h List.not_mem_nil
    · exact imageFails_code hversion hslot hhdr h
  · rw [mem_failIf h]; decide
  · split at h
    · rw [mem_failIf h]; decide
    · exact absurd h List.not_mem_nil
  · split at h
    · rw [mem_failIf h]; decide
    · exact absurd h List.not_mem_nil
  · rw [mem_failIf h]; decide
  · rw [mem_failIf h]; decide
  · exact absurd h List.not_mem_nil

/-- A commit for the tile alone, accepted when no other is under way. -/
theorem acceptCommit_own {j : Nat} {d : Desc} {sw : Bool} {s : State} (htile : d.tile = 0) (hp1 : d.p1 = 0) (hfree : s.commitFree = true) :
    acceptCommit j d sw s =
      let res := (worstFail (ownFails (d.a0 % 8) sw none (if s.isRoot then outsideRate [0] s else none) s)).getD (0, 0)
      decideCommit false { cmd := some j, slot := d.a0 % 8, isSwitch := sw, set := [0], named := none, before := s.slot (d.a0 % 8)
                           replies := [(0, res.1, res.2)] }
        (if s.slot (d.a0 % 8) == (if sw then SlotState.ready else SlotState.staging) then setSlot (d.a0 % 8) .checking s else s) := by
  have hn : fld d.a0 0 3 = d.a0 % 8 := by simp [fld]
  have hsel : s.selected d = [0] := by rw [State.selected_one (by omega), htile]
  have honline : [0].all (fun k => s.isOnline k) = true := by simp [State.isOnline]
  have hms : [0].filter (fun k => k != 0 && s.isOnline k) = [] := by simp
  have hbit : bit d.p1 0 = false := by rw [hp1]; decide
  unfold acceptCommit
  rw [hn, hsel, hfree, hbit]
  dsimp only
  rw [honline, hms]
  simp [failIf]

end Sys2Proof.Machine

open Sys2Proof Sys2Proof.Machine

/-- Settles O57: a piece is written over its base image, a commit of the tile alone is decided by its first failed check, and an image read
back is the slot's. -/
theorem contextCommandsActOnSlots : Obligations.ContextCommandsActOnSlots := by
  intro j e data s hm htile hmember n sw slot ended
  have hcmd : ∀ {op}, Ready op j e s → e.cmd = j := fun hr => (State.cmd_of_entry hr.1).1
  have hsel : s.selected e.d = [0] := by rw [State.selected_one (by omega), htile]
  have hfin : ∀ {op code : Nat} {t : State}, Ready op j e s → (∀ i, t.entry i = s.entry i) → ended (finish j code 0 0 0 t) code 0 0 :=
    fun hr hsame => congrArg (Option.map fun x : JEntry => (x.stage, x.code, x.r0, x.r1, x.tiles))
      (finish_entry ((hsame j).trans hr.1) hr.2.1 _ _ _ _)
  have hmode' : Ready 0x10 j e s → e.d.a0 < 64 ∧ e.d.a0 / 16 < 3 ∧ e.d.p0 + e.d.p1 ≤ 2048 := fun hr => by
    obtain ⟨-, -, -, hop, -, -, -, hok⟩ := hr
    have hle := le_of_within (within_of_rejectCode (o := ⟨3, 0x37, 7, true, true, wide, 0, 0, true, false, 1⟩) (by rw [hop]; rfl) hok)
    have hargs := argsOk_of_rejectCode hok
    simp only [argsOk, hop, Bool.and_eq_true, bne_iff_ne, decide_eq_true_eq, fld] at hargs
    dsimp only at hle
    omega
  refine ⟨fun hr hread hslots hr0 => ⟨fun hslot hsrc hlen => ?_, fun hheld => ?_, fun hempty hmode => ?_⟩,
    ?_, fun hr hdma => ?_, fun hr hdma => ?_⟩
  · obtain ⟨ha, hinit, hfit⟩ := hmode' hr
    obtain ⟨l, p, hexec, hentry⟩ := stageContext_own hr htile hread (stageCheck_ok ha hslot hsrc) hlen
    obtain ⟨m, b, happly, hwf, hbad, hown, hother⟩ := stageApply_spec (s := { s with jrn := l, ctx.pieces := p }) hm hinit hlen hfit
    have hentry : State.entry { s with jrn := l, ctx.pieces := p, mem := m, ctx.slots := s.ctx.slots.set n .staging, ctx.bad := b } j =
      some { e with tiles := [0], wait := .member, code := 0, ctile := 0 } := hentry
    have hended : ended (tilePart j 0 0 1 0 { s with
        jrn := l, ctx.pieces := p, mem := m, ctx.slots := s.ctx.slots.set n .staging, ctx.bad := b }) 0 1 e.r1 := by
      have hpart : ({ e with tiles := [0], wait := .member, code := 0, ctile := 0 } : JEntry).part 0 0 1 0 =
          { e with tiles := [], wait := .member, code := 0, ctile := 0, r0 := 1 } := by
        simp [JEntry.part, summed, hr.2.2.2.1, hr0]
      have hset := State.entry_setEntry_some hentry (f := fun _ => { e with tiles := [], wait := .member, code := 0, ctile := 0, r0 := 1 })
        fun _ _ _ => ⟨hcmd hr, by simp [hr.2.1]⟩
      rw [tilePart_awaited hentry hr.2.1 (by rfl), hpart, if_pos (by rfl)]
      exact congrArg (Option.map fun x : JEntry => (x.stage, x.code, x.r0, x.r1, x.tiles)) (finish_entry hset hr.2.1 0 1 e.r1 0)
    obtain ⟨l', hl⟩ := tilePart_eq j 0 0 1 0 { s with jrn := l, ctx.pieces := p, mem := m, ctx.slots := s.ctx.slots.set n .staging, ctx.bad := b }
    rw [happly] at hexec
    refine completes_answer hexec ?_
    rw [hl] at hended ⊢
    have hcanon := Memory.canon_of_wf _ hwf
    refine ⟨hended, ?_, hbad, ?_, fun k hk hne => ⟨?_, ?_⟩⟩
    · simp [slot, hslots, n, Nat.mod_lt]
    · exact (congrArg (fun m : Memory => m.read (slotBase n) 0x800) hcanon).trans hown
    · exact (congrArg (fun m : Memory => m.read (slotBase k) 0x800) hcanon).trans (hother k hne)
    · simp [List.getD_eq_getElem?_getD, List.getElem?_set_ne (Ne.symm hne)]
  · have hexec : exec (.stageContext j (.ok data)) s = answer s (finish j 0x04 0 0 0 s) := by
      change execStageContext j (.ok data) s = _
      rw [execStageContext, runCommand_ready hr]
      dsimp only
      rw [hread, if_neg (by decide), hsel, stageCheck_held hheld, if_pos (by decide)]
    exact completes_answer hexec ⟨hfin hr fun _ => rfl, Memory.canon_of_wf _ hm, rfl⟩
  · have hexec : exec (.stageContext j .ur) s = answer s (finish j 0x06 0 0 0 (countFailedRead .ur s)) := by
      change execStageContext j .ur s = _
      rw [execStageContext, runCommand_ready hr]
      dsimp only
      rw [hread, if_neg (by decide), hsel, stageCheck_ok (hmode' hr).1 (.inl hempty) (fun h => absurd h hmode), if_neg (by decide)]
    obtain ⟨h, d, i, k, hfail⟩ := countFailedRead_eq .ur s
    rw [hfail] at hexec
    exact completes_answer hexec ⟨hfin hr fun _ => rfl, Memory.canon_of_wf _ hm, rfl⟩
  · intro hr hop hslots hjob hdoomed hpend hp1 cmd rate
    have hfree : s.commitFree = true := by simp [State.commitFree, hjob, hdoomed, hpend]
    have hexec : exec cmd s = answer s (acceptCommit j e.d sw s) := by
      rcases hop with hop | hop
      · have hcm : cmd = .commit j := if_neg (by rw [hop]; decide)
        have hsw : sw = false := by simp [sw, hop]
        rw [hcm, hsw]
        exact runCommand_ready (hop ▸ hr) _
      · have hcm : cmd = .switch j := if_pos hop
        have hsw : sw = true := by simp [sw, hop]
        rw [hcm, hsw]
        exact runCommand_ready (hop ▸ hr) _
    rw [acceptCommit_own htile hp1 hfree] at hexec
    refine ⟨fun hslot hpass hepoch hgen => ?_, fun hempty hversion hnum hhdr => ?_⟩
    · have hright : (s.slot (e.d.a0 % 8) == (if sw then SlotState.ready else SlotState.staging)) = true := beq_iff_eq.2 hslot
      rw [hpass, hright, if_pos rfl] at hexec
      dsimp only [worstFail, List.foldl_nil, Option.getD_none] at hexec
      rw [decideCommit_own rfl rfl rfl] at hexec
      have hgen' : add32 s.ctx.gen 1 = s.ctx.gen + 1 := Nat.mod_eq_of_lt (by omega)
      have hea : add32 s.epoch (if s.chn.latchPassed then 2 else 1) = if s.chn.latchPassed then s.epoch + 2 else s.epoch + 1 := by
        split <;> exact Nat.mod_eq_of_lt (by omega)
      have hlt : (if s.chn.latchPassed then s.epoch + 2 else s.epoch + 1) < 2 ^ 32 := by split <;> omega
      change exec cmd s = answer s (passCommit _ (add32 s.epoch (if s.chn.latchPassed then 2 else 1)) (setSlot n .checking s)) at hexec
      rw [hea] at hexec
      generalize hat : (if s.chn.latchPassed = true then s.epoch + 2 else s.epoch + 1) = at' at hexec hea hlt ⊢
      obtain ⟨c, q, hcommit⟩ := passCommit_own (g := {
        cmd := some j, slot := e.d.a0 % 8, isSwitch := sw, set := [0], named := none, before := s.slot (e.d.a0 % 8), replies := [(0, 0, 0)] })
        (j := j) (s := setSlot n .checking s) (by rfl) rfl at'
      obtain ⟨m, hpending, hwf, hread, -⟩ := makePending_spec (s := { setSlot n .checking s with ctx.gen := add32 s.ctx.gen 1 }) hm n at' (add32 s.ctx.gen 1)
      have htakes : takesEffect at' { setSlot n .checking s with ctx.gen := add32 s.ctx.gen 1 } = at' := by
        change (if later (add32 s.epoch (if s.chn.latchPassed then 2 else 1)) at' then add32 s.epoch (if s.chn.latchPassed then 2 else 1) else at') = at'
        rw [hea, ite_self]
      have hentry := State.entry_setEntry_some hr.1 (f := fun e => { e with wait := .boundary at', r0 := at', r1 := add32 s.ctx.gen 1 })
        fun _ hx hs => ⟨hx, hs⟩
      obtain ⟨hfgen, hfea, hfcrc, hfdrop⟩ := committedImage_fields (State.length_image hm n) (add32 s.ctx.gen 1) at'
      have himage : Memory.read (Memory.canon (makePending n at' (add32 s.ctx.gen 1) { setSlot n .checking s with ctx.gen := add32 s.ctx.gen 1 }).mem)
          (slotBase n) 0x800 = committedImage (s.image n) (add32 s.ctx.gen 1) at' := by
        rw [hpending]
        dsimp only
        rw [Memory.canon_of_wf _ hwf]
        exact hread
      refine completes_answer hexec ?_
      rw [hcommit]
      refine ⟨?_, htakes, hgen', ?_, ?_, ?_, ?_, ?_, ?_⟩
      · have hset : ((s.ctx.slots.set n .checking).set n .pending).getD n .empty = .pending := by
          simp [hslots, n, Nat.mod_lt]
        exact hset
      · refine (congrArg (fun l : List Byte => leAt l 4 4) himage).trans (hfgen.trans ?_)
        rw [hgen', Nat.mod_eq_of_lt (by omega)]
      · refine (congrArg (fun l : List Byte => leAt l 8 4) himage).trans (hfea.trans ?_)
        exact Nat.mod_eq_of_lt hlt
      · exact (congrArg (fun l : List Byte => leAt l 0x00C 4) himage).trans hfcrc
      · exact (congrArg (List.drop 0x40) himage).trans hfdrop
      · exact (congrArg (fun u : State => u.ctx.copy) hpending).trans himage.symm
      · exact hentry.trans (by rw [hgen'])
    · have hne : (s.slot (e.d.a0 % 8) == (if sw then SlotState.ready else SlotState.staging)) = false := by
        rw [show s.slot (e.d.a0 % 8) = .empty from hempty]
        cases sw <;> rfl
      have hworst := ownFails_wrongState (sw := sw) (rate := rate) hempty hversion hnum (header_reserved hhdr (State.length_image hm n))
      rw [hworst, hne, if_neg (by decide)] at hexec
      dsimp only [Option.getD_some] at hexec
      rw [decideCommit_fails rfl rfl rfl (by decide), failCommit_own rfl rfl
        (show s.slot (e.d.a0 % 8) ≠ .checking by rw [show s.slot (e.d.a0 % 8) = .empty from hempty]; decide)] at hexec
      refine completes_answer hexec ⟨?_, rfl, Memory.canon_of_wf _ hm, rfl, rfl, rfl, rfl, rfl⟩
      exact congrArg (Option.map fun x : JEntry => (x.stage, x.code, x.r0, x.r1, x.tiles)) (finish_entry hr.1 hr.2.1 5 _ 0 0)
  · change execReadContext j s = _
    rw [execReadContext, runCommand_ready hr, hdma, if_pos (by decide)]
    exact answer_of_eq s _ hm rfl rfl
  · have hn : fld e.d.a0 0 3 = n := by simp [fld, n]
    obtain ⟨l, hset, hentry⟩ : ∃ l, s.setEntry j (fun x => x.onTile0 .member) = { s with jrn := l } ∧
        State.entry { s with jrn := l } j = some (e.onTile0 .member) := ⟨_, rfl, startParts_entry hr.1 .member⟩
    have hstart : startParts e .member (readContextOwn j e.d) s = tilePart j 0 0 (slot s).code (leAt (s.image n) 0x00C 4)
        (hostWrite e.d.addr (s.image n) true { s with jrn := l }) := by
      rw [startParts_own htile, hcmd hr]
      refine (congrArg (readContextOwn j e.d) hset).trans ?_
      unfold readContextOwn
      dsimp only
      rw [if_neg (by simpa [State.isMember] using hmember), hn]
      exact partDone_own (s := hostWrite e.d.addr (s.image n) true { s with jrn := l }) hmember ..
    have hend := tilePart_own (s := hostWrite e.d.addr (s.image n) true { s with jrn := l }) hentry hr.2.1 0 (slot s).code (leAt (s.image n) 0x00C 4)
    obtain ⟨l', hl⟩ := tilePart_eq j 0 0 (slot s).code (leAt (s.image n) 0x00C 4) (hostWrite e.d.addr (s.image n) true { s with jrn := l })
    refine completes_answer (readContext_ready hr hdma) ?_
    rw [hl] at hend hstart
    rw [hstart]
    refine ⟨Memory.canon_of_wf _ hm, rfl, ?_, ⟨_, rfl, rfl, rfl⟩⟩
    refine (congrArg (Option.map fun x : JEntry => (x.stage, x.code, x.r0, x.r1, x.tiles)) hend).trans ?_
    rw [hr.2.2.2.1]
    rfl
end

section
/-! The block formats of Mute (11 R317 to R327): what a coder writes its decoder reads back. -/

namespace Sys2Proof.Machine

/-! ### 16-bit samples -/

theorem sext16_cases (v : Nat) : v % 65536 < 32768 ∧ sext 16 v = ((v % 65536 : Nat) : Int) ∨
    32768 ≤ v % 65536 ∧ sext 16 v = ((v % 65536 : Nat) : Int) - 65536 := by
  simp only [sext, Nat.reducePow, Nat.reduceSub]
  split <;> omega

theorem tc16_cast (x : Int) : ((tc 16 x : Nat) : Int) = x % 65536 := by
  rw [tc]
  omega

theorem sext16_bounds (v : Nat) : -32768 ≤ sext 16 v ∧ sext 16 v ≤ 32767 := by
  rcases sext16_cases v with h | h <;> omega

theorem tc16_lt (x : Int) : tc 16 x < 65536 := by
  have h := tc16_cast x
  omega

theorem sext_tc16 {x : Int} (hlo : -32768 ≤ x) (hhi : x ≤ 32767) : sext 16 (tc 16 x) = x := by
  have h := tc16_cast x
  rcases sext16_cases (tc 16 x) with hs | hs <;> omega

theorem tc_sext16 {v : Nat} (h : v < 65536) : tc 16 (sext 16 v) = v := by
  have ht := tc16_cast (sext 16 v)
  rcases sext16_cases v with hs | hs <;> omega

/-- A 16-bit difference added back gives the sample (11 R324). -/
theorem sext_tc16_add_diff {x : Int} (hlo : -32768 ≤ x) (hhi : x ≤ 32767) (p : Int) :
    sext 16 (tc 16 (p + sext 16 (tc 16 (x - p)))) = x := by
  have hd := tc16_cast (x - p)
  have hs := tc16_cast (p + sext 16 (tc 16 (x - p)))
  rcases sext16_cases (tc 16 (x - p)) with h | h <;>
    rcases sext16_cases (tc 16 (p + sext 16 (tc 16 (x - p)))) with h' | h' <;> omega

theorem length_samplesOf (b : List Byte) : (samplesOf b).length = 64 := by simp [samplesOf]

theorem getD_samplesOf (b : List Byte) {j : Nat} (h : j < 64) : (samplesOf b).getD j 0 = sext 16 (leAt b (2 * j) 2) := by
  simp [samplesOf, List.getD_eq_getElem?_getD, h]

theorem mem_samplesOf {b : List Byte} {x : Int} (h : x ∈ samplesOf b) : -32768 ≤ x ∧ x ≤ 32767 := by
  obtain ⟨j, -, rfl⟩ := List.mem_map.1 h
  exact sext16_bounds _

/-- The bytes of a block's samples are the block (11 R317). -/
theorem bytesOf_samplesOf {b : List Byte} (h : b.length = 128) : bytesOf (samplesOf b) = b := by
  have key : ∀ (n : Nat) (b : List Byte), b.length = 2 * n → ((List.range n).map (fun j => sext 16 (leAt b (2 * j) 2))).flatMap
      (fun x => leBytes 2 (tc 16 x)) = b := by
    intro n
    induction n with
    | zero => intro b hb; simpa using (List.length_eq_zero_iff.1 hb).symm
    | succ n ih =>
      intro b hb
      have hlen : ((b.drop 0).take 2).length = 2 := by simp; omega
      have hlt : leAt b 0 2 < 65536 := by
        have hb0 := (b.getD 0 0).isLt
        have hb1 := (b.getD 1 0).isLt
        have hz : leAt b 2 0 = 0 := by rw [leAt, List.take_zero]; rfl
        rw [leAt_succ, leAt_succ, hz]
        omega
      have hfirst : leBytes 2 (leAt b 0 2) = b.take 2 := by
        have hl := leBytes_leNat ((b.drop 0).take 2)
        rwa [hlen] at hl
      have hrest : ∀ j, leAt b (2 * (j + 1)) 2 = leAt (b.drop 2) (2 * j) 2 := fun j => by
        rw [leAt, leAt, List.drop_drop, show 2 * (j + 1) = 2 + 2 * j by omega]
      rw [List.range_succ_eq_map, List.map_cons, List.flatMap_cons, List.map_map, tc_sext16 hlt, hfirst]
      have hih := ih (b.drop 2) (by rw [List.length_drop]; omega)
      simp only [Function.comp_def, Nat.succ_eq_add_one, hrest]
      rw [hih, List.take_append_drop]
  exact key 64 b h

/-! ### The trailer (11 R318) -/

theorem blockCrcOk_sealBlock (b : List Byte) : blockCrcOk (sealBlock b) = true := by
  have hcrc : crc16 b < 256 ^ 2 := BitVec.isLt _
  have hlen : (sealBlock b).length - 2 = b.length := by simp [sealBlock, length_leBytes]
  have htake : (sealBlock b).take b.length = b := List.take_left' rfl
  have htail : leAt (sealBlock b) b.length 2 = crc16 b := by
    rw [sealBlock, leAt_append b _ 0 2 (Nat.add_zero _).symm, leAt, List.drop_zero, List.take_of_length_le (by rw [length_leBytes]), leNat_leBytes,
      Nat.mod_eq_of_lt hcrc]
  rw [blockCrcOk, hlen, htake, htail]
  exact beq_self_eq_true _

theorem length_sealBlock (b : List Byte) : (sealBlock b).length = b.length + 2 := by simp [sealBlock, length_leBytes]

theorem leAt_leBytes_append (n v : Nat) (rest : List Byte) : leAt (leBytes n v ++ rest) 0 n = v % 256 ^ n := by
  rw [leAt, List.drop_zero, List.take_append_of_le_length (by rw [length_leBytes]), List.take_of_length_le (by rw [length_leBytes]), leNat_leBytes]

/-! ### Fields of one width in a number -/

/-- The number that holds fields of `w` bits, the first lowest. -/
def fieldsNum (w : Nat) : List Nat → Nat
  | [] => 0
  | v :: l => v + 2 ^ w * fieldsNum w l

theorem fieldsNum_lt {w : Nat} {l : List Nat} (h : ∀ v ∈ l, v < 2 ^ w) : fieldsNum w l < 2 ^ (w * l.length) := by
  induction l with
  | nil => simp [fieldsNum]
  | cons v l ih =>
    have hv := h v (List.mem_cons_self ..)
    have hl := ih fun x hx => h x (List.mem_cons_of_mem _ hx)
    rw [fieldsNum, List.length_cons, Nat.mul_succ, Nat.add_comm (w * l.length), Nat.pow_add]
    calc v + 2 ^ w * fieldsNum w l < 2 ^ w + 2 ^ w * fieldsNum w l := Nat.add_lt_add_right hv _
      _ = 2 ^ w * (fieldsNum w l + 1) := by ring
      _ ≤ 2 ^ w * 2 ^ (w * l.length) := Nat.mul_le_mul_left _ hl

theorem fieldsNum_field {w : Nat} {l : List Nat} (h : ∀ v ∈ l, v < 2 ^ w) {j : Nat} (hj : j < l.length) :
    fieldsNum w l / 2 ^ (w * j) % 2 ^ w = l.getD j 0 := by
  induction l generalizing j with
  | nil => exact absurd hj (Nat.not_lt_zero j)
  | cons v l ih =>
    have hv := h v (List.mem_cons_self ..)
    cases j with
    | zero => simp [fieldsNum, Nat.mod_eq_of_lt hv]
    | succ j =>
      have hdiv : (v + 2 ^ w * fieldsNum w l) / 2 ^ w = fieldsNum w l := by
        rw [Nat.add_mul_div_left _ _ (Nat.two_pow_pos w), Nat.div_eq_of_lt hv, Nat.zero_add]
      rw [fieldsNum, Nat.mul_succ, Nat.add_comm (w * j), Nat.pow_add, ← Nat.div_div_eq_div_mul, hdiv]
      exact ih (fun x hx => h x (List.mem_cons_of_mem _ hx)) (by simpa using hj)

theorem pack_zip (w : Nat) (l : List Nat) (o : Nat) :
    pack (List.zip l ((List.range l.length).map (fun i => o + w * i))) = 2 ^ o * fieldsNum w l := by
  induction l generalizing o with
  | nil => simp [pack, fieldsNum]
  | cons v l ih =>
    have hshift : (List.range l.length).map ((fun i => o + w * i) ∘ Nat.succ) = (List.range l.length).map (fun i => o + w + w * i) :=
      List.map_congr_left fun i _ => by simp only [Function.comp_def, Nat.mul_succ]; omega
    rw [List.length_cons, List.range_succ_eq_map, List.map_cons, List.map_map, List.zip_cons_cons, pack, hshift, ih, fieldsNum, Nat.pow_add]
    ring

/-! ### FR (11 R320 to R322) -/

theorem foldl_min_spec (l : List Int) (a : Int) : l.foldl min a ≤ a ∧ (∀ x ∈ l, l.foldl min a ≤ x) ∧ (l.foldl min a = a ∨ l.foldl min a ∈ l) := by
  induction l generalizing a with
  | nil => simp
  | cons x l ih =>
    obtain ⟨hle, hall, hmem⟩ := ih (min a x)
    rw [List.foldl_cons]
    refine ⟨by omega, ?_, ?_⟩
    · rintro y hy
      rcases List.mem_cons.1 hy with rfl | hy
      · omega
      · exact hall y hy
    · rcases hmem with h | h
      · rcases (by omega : min a x = a ∨ min a x = x) with hm | hm
        · exact .inl (h.trans hm)
        · exact .inr (by rw [h, hm]; exact List.mem_cons_self ..)
      · exact .inr (List.mem_cons_of_mem _ h)

theorem foldl_max_spec (l : List Int) (a : Int) : a ≤ l.foldl max a ∧ (∀ x ∈ l, x ≤ l.foldl max a) ∧ (l.foldl max a = a ∨ l.foldl max a ∈ l) := by
  induction l generalizing a with
  | nil => simp
  | cons x l ih =>
    obtain ⟨hle, hall, hmem⟩ := ih (max a x)
    rw [List.foldl_cons]
    refine ⟨by omega, ?_, ?_⟩
    · rintro y hy
      rcases List.mem_cons.1 hy with rfl | hy
      · omega
      · exact hall y hy
    · rcases hmem with h | h
      · rcases (by omega : max a x = a ∨ max a x = x) with hm | hm
        · exact .inl (h.trans hm)
        · exact .inr (by rw [h, hm]; exact List.mem_cons_self ..)
      · exact .inr (List.mem_cons_of_mem _ h)

/-- The shift found is the first that fits, within `n` of the first tried. -/
theorem frShift_spec (span n s : Nat) : frShift span n s ≤ s + n ∧ (span / 2 ^ (s + n) ≤ 127 → span / 2 ^ frShift span n s ≤ 127) := by
  induction n generalizing s with
  | zero => exact ⟨Nat.le_refl s, id⟩
  | succ n ih =>
    rw [frShift]
    split
    next h => exact ⟨by omega, fun _ => h⟩
    · obtain ⟨hle, hfit⟩ := ih (s + 1)
      exact ⟨by omega, fun h => hfit (by rwa [show s + 1 + n = s + (n + 1) by omega])⟩

/-- The fields of an FR block. -/
theorem frBlock_fields {base : Int} {shift bidx kind elo : Nat} {res : List Nat} (hshift : shift < 16) (hkind : kind < 4)
    (hlen : res.length = 64) (hres : ∀ v ∈ res, v < 2 ^ 7) : let b := frBlock base shift bidx kind elo res
    leAt b 0 2 = tc 16 base ∧ leAt b 2 2 = shift + 16 * (bidx % 512) + 8192 * kind ∧ leAt b 6 56 = fieldsNum 7 res := by
  intro b
  have hpack : pack (List.zip res ((List.range 64).map (7 * ·))) = fieldsNum 7 res := by
    have h := pack_zip 7 res 0
    simpa [hlen] using h
  have hlt := fieldsNum_lt hres
  rw [hlen] at hlt
  have hb : b = leBytes 2 (tc 16 base) ++ (leBytes 2 (pack [(shift, 0), (bidx % 512, 4), (kind, 13)]) ++ (leBytes 2 elo ++
      (leBytes 56 (fieldsNum 7 res) ++ leBytes 2 (crc16 (leBytes 2 (tc 16 base) ++ leBytes 2 (pack [(shift, 0), (bidx % 512, 4), (kind, 13)]) ++
        leBytes 2 elo ++ leBytes 56 (fieldsNum 7 res)))))) := by
    simp only [b, frBlock, sealBlock, hpack, List.append_assoc]
  rw [hb]
  refine ⟨?_, ?_, ?_⟩
  · rw [leAt_leBytes_append]
    exact Nat.mod_eq_of_lt (tc16_lt base)
  · rw [leAt_append _ _ 0 2 (by rw [length_leBytes]), leAt_leBytes_append]
    simp only [pack]
    omega
  · rw [leAt_append _ _ 4 56 (by rw [length_leBytes]), leAt_append _ _ 2 56 (by rw [length_leBytes]), leAt_append _ _ 0 56 (by rw [length_leBytes]),
      leAt_leBytes_append]
    exact Nat.mod_eq_of_lt (hlt.trans_eq (by rw [show (256 : Nat) = 2 ^ 8 from rfl, ← Nat.pow_mul]))

/-- An FR block comes back no higher and less than 2^SHIFT lower (11 R321). -/
theorem frDecode_frEncode (bidx : Nat) {kind : Nat} (elo : Nat) (hkind : kind = 0 ∨ kind = 1 ∨ kind = 3) (b : List Byte) :
    ∃ xs, frDecode (frEncode bidx kind elo b) = .ok xs ∧ frShiftOf (frEncode bidx kind elo b) ≤ 9 ∧ xs.length = 64 ∧
      ∀ j, j < 64 → xs.getD j 0 ≤ (samplesOf b).getD j 0 ∧
        (samplesOf b).getD j 0 < xs.getD j 0 + 2 ^ frShiftOf (frEncode bidx kind elo b) := by
  generalize hxs : samplesOf b = xs
  have hlen : xs.length = 64 := by rw [← hxs]; exact length_samplesOf b
  have hbounds : ∀ x ∈ xs, -32768 ≤ x ∧ x ≤ 32767 := fun x hx => mem_samplesOf (hxs ▸ hx)
  have hhead : xs.headD 0 ∈ xs := by
    cases xs with
    | nil => exact absurd hlen (by decide)
    | cons x xs => exact List.mem_cons_self ..
  obtain ⟨-, hmin, hminmem⟩ := foldl_min_spec xs (xs.headD 0)
  obtain ⟨-, hmax, hmaxmem⟩ := foldl_max_spec xs (xs.headD 0)
  generalize hbase : xs.foldl min (xs.headD 0) = base at hmin hminmem
  generalize htop : xs.foldl max (xs.headD 0) = top at hmax hmaxmem
  have hb := hbounds base (hminmem.elim (fun h => h ▸ hhead) id)
  have ht := hbounds top (hmaxmem.elim (fun h => h ▸ hhead) id)
  obtain ⟨hsh, hfit⟩ := frShift_spec (top - base).toNat 9 0
  generalize hs : frShift (top - base).toNat 9 0 = sh at hsh hfit
  have hfit := hfit (by rw [Nat.div_le_iff_le_mul_add_pred (by norm_num)]; norm_num; omega)
  have hres : ∀ v ∈ xs.map (fun x => (x - base).toNat / 2 ^ sh), v < 2 ^ 7 := by
    intro v hv
    obtain ⟨x, hx, rfl⟩ := List.mem_map.1 hv
    have hle : (x - base).toNat ≤ (top - base).toNat := Int.toNat_le_toNat (by have := hmax x hx; omega)
    exact Nat.lt_succ_of_le ((Nat.div_le_div_right hle).trans hfit)
  obtain ⟨hf0, hf2, hf6⟩ := frBlock_fields (base := base) (bidx := bidx) (elo := elo) (show sh < 16 by omega) (show kind < 4 by omega)
    (by rw [List.length_map, hlen]) hres
  have henc : frEncode bidx kind elo b = frBlock base sh bidx kind elo (xs.map (fun x => (x - base).toNat / 2 ^ sh)) := by
    unfold frEncode
    rw [hxs]
    dsimp only
    rw [hbase, htop, hs]
  rw [henc]
  have hshift : fld (leAt (frBlock base sh bidx kind elo (xs.map (fun x => (x - base).toNat / 2 ^ sh))) 2 2) 0 4 = sh := by
    rw [hf2]
    unfold fld
    omega
  have hdec : frDecode (frBlock base sh bidx kind elo (xs.map (fun x => (x - base).toNat / 2 ^ sh))) =
      .ok ((List.range 64).map (fun j => base + ((fieldsNum 7 (xs.map (fun x => (x - base).toNat / 2 ^ sh)) / 2 ^ (7 * j) % 128 * 2 ^ sh : Nat) : Int))) := by
    have hcrc : blockCrcOk (frBlock base sh bidx kind elo (xs.map (fun x => (x - base).toNat / 2 ^ sh))) = true := blockCrcOk_sealBlock _
    unfold frDecode
    rw [hcrc, if_neg (by decide)]
    dsimp only
    rw [hshift, if_neg, if_neg (by omega), hf0, hf6, sext_tc16 hb.1 hb.2]
    rw [hf2]
    simp only [fld, bit, beq_iff_eq]
    omega
  refine ⟨_, hdec, ?_, by simp, fun j hj => ?_⟩
  · rw [frShiftOf, hshift]
    omega
  · have hmem : xs.getD j 0 ∈ xs := by
      rw [List.getD_eq_getElem _ _ (by omega)]
      exact List.getElem_mem _
    have hfield := fieldsNum_field hres (j := j) (by rw [List.length_map]; omega)
    rw [show (2 : Nat) ^ 7 = 128 from rfl] at hfield
    have hget : (xs.map (fun x => (x - base).toNat / 2 ^ sh)).getD j 0 = (xs.getD j 0 - base).toNat / 2 ^ sh := by
      rw [List.getD_eq_getElem _ _ (by rw [List.length_map]; omega), List.getElem_map, List.getD_eq_getElem _ _ (by omega)]
    have hlow := hmin _ hmem
    generalize xs.getD j 0 = x at *
    have hq := Nat.div_add_mod (x - base).toNat (2 ^ sh)
    have hr := Nat.mod_lt (x - base).toNat (Nat.two_pow_pos sh)
    have hval : ((List.range 64).map (fun j => base + ((fieldsNum 7 (xs.map (fun x => (x - base).toNat / 2 ^ sh)) / 2 ^ (7 * j) % 128 * 2 ^ sh : Nat) : Int))).getD j 0 =
        base + (((x - base).toNat / 2 ^ sh * 2 ^ sh : Nat) : Int) := by
      rw [List.getD_eq_getElem _ _ (by simpa using hj), List.getElem_map, List.getElem_range, ← hget, ← hfield]
    have hpow : (2 : Int) ^ sh = ((2 ^ sh : Nat) : Int) := by push_cast; rfl
    rw [hval, frShiftOf, hshift, hpow]
    rw [Nat.mul_comm] at hq
    generalize (x - base).toNat / 2 ^ sh * 2 ^ sh = m at *
    omega

/-! ### LL-G (11 R323 to R325) -/

theorem zag_zig (v : Int) : zag (zig v) = v := by
  unfold zag zig
  split <;> split <;> omega

theorem zig_lt {v : Int} (hlo : -32768 ≤ v) (hhi : v ≤ 32767) : zig v < 65536 := by
  unfold zig
  split <;> omega

/-- A bit string with a list of fields of one width appended. -/
theorem foldl_appendBits (w : Nat) (l : List Nat) (a : Nat × Nat) :
    l.foldl (fun a v => appendBits a v w) a = (a.1 + 2 ^ a.2 * fieldsNum w l, a.2 + w * l.length) := by
  induction l generalizing a with
  | nil => simp [fieldsNum]
  | cons v l ih =>
    rw [List.foldl_cons, ih, appendBits, fieldsNum, List.length_cons, Nat.pow_add, Nat.mul_succ]
    refine Prod.ext ?_ (by dsimp only; omega)
    dsimp only
    ring

/-- The fields read back from where they stand in a number. -/
theorem takeBits_fieldsNum {w : Nat} {l : List Nat} (h : ∀ v ∈ l, v < 2 ^ w) {a o : Nat} (ha : a < 2 ^ o) (q : Nat) :
    takeBits (a + 2 ^ o * (fieldsNum w l + 2 ^ (w * l.length) * q)) o w l.length = l := by
  refine List.ext_getElem (by simp [takeBits]) fun i h1 h2 => ?_
  have hdiv : (a + 2 ^ o * (fieldsNum w l + 2 ^ (w * l.length) * q)) / 2 ^ o = fieldsNum w l + 2 ^ (w * l.length) * q := by
    rw [Nat.add_mul_div_left _ _ (Nat.two_pow_pos o), Nat.div_eq_of_lt ha, Nat.zero_add]
  have hfield := fieldsNum_field h h2
  rw [List.getD_eq_getElem _ _ h2] at hfield
  have hsplit : 2 ^ (w * l.length) = 2 ^ (w * i) * (2 ^ w * 2 ^ (w * (l.length - i - 1))) := by
    rw [← Nat.pow_add, ← Nat.pow_add]
    congr 1
    obtain ⟨k, hk⟩ : ∃ k, l.length = i + 1 + k := ⟨l.length - i - 1, by omega⟩
    rw [hk, show i + 1 + k - i - 1 = k by omega]
    ring
  simp only [takeBits, List.getElem_map, List.getElem_range]
  rw [Nat.pow_add, ← Nat.div_div_eq_div_mul, hdiv, hsplit, Nat.mul_assoc,
    Nat.add_mul_div_left _ _ (Nat.two_pow_pos _), Nat.mul_assoc, Nat.add_mul_mod_self_left, hfield]

theorem log2Aux_spec {n z : Nat} (h0 : z ≠ 0) (h : z < 2 ^ (n + 1)) : 2 ^ log2Aux n z ≤ z ∧ z < 2 ^ (log2Aux n z + 1) := by
  induction n with
  | zero => exact ⟨by rw [log2Aux]; omega, h⟩
  | succ n ih =>
    rw [log2Aux]
    split
    next hlt => exact ih hlt
    next hge => exact ⟨Nat.le_of_not_lt hge, h⟩

/-- The bits needed for a value of 16 bits: at most 16, and the value fits them. -/
theorem bitWidth_spec {z : Nat} (h : z < 65536) : bitWidth z ≤ 16 ∧ z < 2 ^ bitWidth z := by
  unfold bitWidth
  split
  next h0 => exact ⟨by decide, by rw [h0]; decide⟩
  next h0 =>
    obtain ⟨hlo, hhi⟩ := log2Aux_spec (n := 64) h0 (h.trans (by norm_num))
    refine ⟨?_, hhi⟩
    have hlt : 2 ^ log2Aux 64 z < 2 ^ 16 := lt_of_le_of_lt hlo h
    exact (Nat.pow_lt_pow_iff_right (by decide)).1 hlt

/-- The width of a group: at most 16, and every value of the group fits it. -/
theorem groupWidth_spec {l : List Nat} (h : ∀ v ∈ l, v < 65536) :
    l.foldl (fun a v => Nat.max a (bitWidth v)) 0 ≤ 16 ∧ ∀ v ∈ l, v < 2 ^ l.foldl (fun a v => Nat.max a (bitWidth v)) 0 := by
  have key : ∀ (l : List Nat) (a : Nat), a ≤ 16 → (∀ v ∈ l, v < 65536) → a ≤ l.foldl (fun a v => Nat.max a (bitWidth v)) a ∧
      l.foldl (fun a v => Nat.max a (bitWidth v)) a ≤ 16 ∧ ∀ v ∈ l, bitWidth v ≤ l.foldl (fun a v => Nat.max a (bitWidth v)) a := by
    intro l
    induction l with
    | nil => exact fun a ha _ => ⟨Nat.le_refl a, ha, fun v hv => absurd hv List.not_mem_nil⟩
    | cons x l ih =>
      intro a ha hl
      have hx := (bitWidth_spec (hl x (List.mem_cons_self ..))).1
      obtain ⟨h1, h2, h3⟩ := ih (Nat.max a (bitWidth x)) (Nat.max_le.2 ⟨ha, hx⟩) fun v hv => hl v (List.mem_cons_of_mem _ hv)
      refine ⟨(Nat.le_max_left ..).trans h1, h2, fun v hv => ?_⟩
      rcases List.mem_cons.1 hv with rfl | hv
      · exact (Nat.le_max_right ..).trans h1
      · exact h3 v hv
  obtain ⟨-, h16, hall⟩ := key l 0 (by decide) h
  exact ⟨h16, fun v hv => (bitWidth_spec (h v hv)).2.trans_le (Nat.pow_le_pow_right (by decide) (hall v hv))⟩

theorem fields_append_lt {w a o : Nat} {l : List Nat} (h : ∀ v ∈ l, v < 2 ^ w) (ha : a < 2 ^ o) :
    a + 2 ^ o * fieldsNum w l < 2 ^ (o + w * l.length) := by
  rw [Nat.pow_add]
  calc a + 2 ^ o * fieldsNum w l < 2 ^ o + 2 ^ o * fieldsNum w l := Nat.add_lt_add_right ha _
    _ = 2 ^ o * (fieldsNum w l + 1) := by ring
    _ ≤ 2 ^ o * 2 ^ (w * l.length) := Nat.mul_le_mul_left _ (fieldsNum_lt h)

/-- The differences of samples of 16 bits are of 16 bits. -/
theorem llgZ_lt (pred : Bool) (xs : List Int) : ∀ v ∈ llgZ pred xs, v < 65536 := by
  intro v hv
  obtain ⟨p, -, rfl⟩ := List.mem_map.1 hv
  obtain ⟨hlo, hhi⟩ := sext16_bounds (tc 16 (p.1 - p.2))
  exact zig_lt hlo hhi

theorem length_llgZ (pred : Bool) {xs : List Int} (h : xs.length = 64) : (llgZ pred xs).length = 64 := by
  cases pred <;> simp [llgZ, h]

/-- One sample added back to what the coder's prediction was. -/
def llgStep (pred : Bool) (a : Int × List Int) (z : Nat) : Int × List Int :=
  let x := sext 16 (tc 16 ((if pred then a.1 else 0) + zag z))
  (x, a.2 ++ [x])

/-- The differences give the samples back (11 R324). -/
theorem llgZ_decoded (pred : Bool) {xs : List Int} (hlen : xs.length = 64) (h : ∀ x ∈ xs, -32768 ≤ x ∧ x ≤ 32767) :
    ((llgZ pred xs).foldl (llgStep pred) (0, [])).2 = xs := by
  have hstep : ∀ (a : Int × List Int) (x : Int), -32768 ≤ x ∧ x ≤ 32767 → ∀ p, (if pred then a.1 else 0) = p →
      llgStep pred a (zig (sext 16 (tc 16 (x - p)))) = (x, a.2 ++ [x]) := fun a x hx p hp => by
    rw [llgStep, hp, zag_zig, sext_tc16_add_diff hx.1 hx.2]
  have htrue : pred = true → ∀ (xs : List Int) (a : Int × List Int), (∀ x ∈ xs, -32768 ≤ x ∧ x ≤ 32767) →
      (((List.zip xs (a.1 :: xs)).map (fun p => zig (sext 16 (tc 16 (p.1 - p.2))))).foldl (llgStep pred) a).2 = a.2 ++ xs := by
    intro hp xs
    induction xs with
    | nil => simp
    | cons x xs ih =>
      intro a hx
      rw [List.zip_cons_cons, List.map_cons, List.foldl_cons, hstep a x (hx x (List.mem_cons_self ..)) a.1 (by rw [hp]; rfl)]
      rw [ih (x, a.2 ++ [x]) fun y hy => hx y (List.mem_cons_of_mem _ hy), List.append_assoc]
      rfl
  have hfalse : pred = false → ∀ (xs : List Int) (n : Nat) (a : Int × List Int), xs.length = n → (∀ x ∈ xs, -32768 ≤ x ∧ x ≤ 32767) →
      (((List.zip xs (List.replicate n 0)).map (fun p => zig (sext 16 (tc 16 (p.1 - p.2))))).foldl (llgStep pred) a).2 = a.2 ++ xs := by
    intro hp xs
    induction xs with
    | nil => simp
    | cons x xs ih =>
      intro n a hn hx
      obtain ⟨n, rfl⟩ : ∃ k, n = k + 1 := ⟨xs.length, hn.symm⟩
      rw [List.replicate_succ, List.zip_cons_cons, List.map_cons, List.foldl_cons,
        hstep a x (hx x (List.mem_cons_self ..)) 0 (by rw [hp]; rfl)]
      rw [ih n (x, a.2 ++ [x]) (by simpa using hn) fun y hy => hx y (List.mem_cons_of_mem _ hy), List.append_assoc]
      rfl
  cases pred with
  | true => exact htrue rfl xs (0, []) h
  | false => exact hfalse rfl xs 64 (0, []) hlen h

/-- The bit string of four widths and four groups of 16 fields (11 R324). -/
def groupBits (w : Nat → Nat) (g : Nat → List Nat) : Nat × Nat :=
  (List.range 4).foldl (fun a i => (g i).foldl (fun a v => appendBits a v (w i)) a) ((List.range 4).foldl (fun a i => appendBits a (w i) 5) (0, 0))

theorem groupBits_eq (w : Nat → Nat) {g : Nat → List Nat} (hg : ∀ i, i < 4 → (g i).length = 16) : groupBits w g =
    (fieldsNum 5 [w 0, w 1, w 2, w 3] + 2 ^ 20 * fieldsNum (w 0) (g 0) + 2 ^ (20 + w 0 * 16) * fieldsNum (w 1) (g 1) +
      2 ^ (20 + w 0 * 16 + w 1 * 16) * fieldsNum (w 2) (g 2) + 2 ^ (20 + w 0 * 16 + w 1 * 16 + w 2 * 16) * fieldsNum (w 3) (g 3),
      20 + w 0 * 16 + w 1 * 16 + w 2 * 16 + w 3 * 16) := by
  have hhead : (List.range 4).foldl (fun a i => appendBits a (w i) 5) (0, 0) = (fieldsNum 5 [w 0, w 1, w 2, w 3], 20) := by
    have h := foldl_appendBits 5 [w 0, w 1, w 2, w 3] (0, 0)
    simp only [Nat.pow_zero, Nat.one_mul, Nat.zero_add] at h
    exact h
  rw [groupBits, hhead]
  simp only [show List.range 4 = [0, 1, 2, 3] from rfl, List.foldl_cons, List.foldl_nil, foldl_appendBits, hg 0 (by decide), hg 1 (by decide),
    hg 2 (by decide), hg 3 (by decide)]

/-- The widths and the groups read back from the bit string. -/
theorem groupBits_read {w : Nat → Nat} {g : Nat → List Nat} (hw : ∀ i, i < 4 → w i ≤ 16) (hg : ∀ i, i < 4 → (g i).length = 16)
    (hv : ∀ i, i < 4 → ∀ v ∈ g i, v < 2 ^ w i) : (groupBits w g).1 < 2 ^ (groupBits w g).2 ∧
      takeBits (groupBits w g).1 0 5 4 = [w 0, w 1, w 2, w 3] ∧ takeBits (groupBits w g).1 20 (w 0) 16 = g 0 ∧
      takeBits (groupBits w g).1 (20 + w 0 * 16) (w 1) 16 = g 1 ∧ takeBits (groupBits w g).1 (20 + w 0 * 16 + w 1 * 16) (w 2) 16 = g 2 ∧
      takeBits (groupBits w g).1 (20 + w 0 * 16 + w 1 * 16 + w 2 * 16) (w 3) 16 = g 3 := by
  have hws : ∀ v ∈ [w 0, w 1, w 2, w 3], v < 2 ^ 5 := by
    have h0 := hw 0 (by decide)
    have h1 := hw 1 (by decide)
    have h2 := hw 2 (by decide)
    have h3 := hw 3 (by decide)
    simp only [List.mem_cons, List.not_mem_nil, or_false]
    omega
  have l0 := hg 0 (by decide)
  have l1 := hg 1 (by decide)
  have l2 := hg 2 (by decide)
  have l3 := hg 3 (by decide)
  have v0 := hv 0 (by decide)
  have v1 := hv 1 (by decide)
  have v2 := hv 2 (by decide)
  have v3 := hv 3 (by decide)
  have a0 : fieldsNum 5 [w 0, w 1, w 2, w 3] < 2 ^ 20 := fieldsNum_lt hws
  have a1 := fields_append_lt v0 a0
  rw [l0] at a1
  have a2 := fields_append_lt v1 a1
  rw [l1] at a2
  have a3 := fields_append_lt v2 a2
  rw [l2] at a3
  have a4 := fields_append_lt v3 a3
  rw [l3] at a4
  rw [groupBits_eq w hg]
  refine ⟨a4, ?_, ?_, ?_, ?_, ?_⟩
  · have h := takeBits_fieldsNum hws (a := 0) (o := 0) (by decide) (fieldsNum (w 0) (g 0) + 2 ^ (w 0 * 16) * (fieldsNum (w 1) (g 1) +
      2 ^ (w 1 * 16) * (fieldsNum (w 2) (g 2) + 2 ^ (w 2 * 16) * fieldsNum (w 3) (g 3))))
    refine Eq.trans (congrArg (fun n => takeBits n 0 5 4) ?_) h
    simp only [List.length_cons, List.length_nil, Nat.pow_add]
    ring
  · have h := takeBits_fieldsNum v0 a0 (fieldsNum (w 1) (g 1) +
      2 ^ (w 1 * 16) * (fieldsNum (w 2) (g 2) + 2 ^ (w 2 * 16) * fieldsNum (w 3) (g 3)))
    rw [l0] at h
    refine Eq.trans (congrArg (fun n => takeBits n 20 (w 0) 16) ?_) h
    simp only [Nat.pow_add]
    ring
  · have h := takeBits_fieldsNum v1 a1 (fieldsNum (w 2) (g 2) + 2 ^ (w 2 * 16) * fieldsNum (w 3) (g 3))
    rw [l1] at h
    refine Eq.trans (congrArg (fun n => takeBits n (20 + w 0 * 16) (w 1) 16) ?_) h
    simp only [Nat.pow_add]
    ring
  · have h := takeBits_fieldsNum v2 a2 (fieldsNum (w 3) (g 3))
    rw [l2] at h
    refine Eq.trans (congrArg (fun n => takeBits n (20 + w 0 * 16 + w 1 * 16) (w 2) 16) ?_) h
    simp only [Nat.pow_add]
    ring
  · have h := takeBits_fieldsNum v3 a3 0
    rw [l3] at h
    refine Eq.trans (congrArg (fun n => takeBits n (20 + w 0 * 16 + w 1 * 16 + w 2 * 16) (w 3) 16) ?_) h
    simp only [Nat.mul_zero, Nat.add_zero]

/-- A coded body gives the samples back (11 R324). -/
theorem llgSamples_llgBody (pred : Bool) {xs : List Int} (hlen : xs.length = 64) (h : ∀ x ∈ xs, -32768 ≤ x ∧ x ≤ 32767) :
    llgSamples pred (llgBody pred xs) = some xs ∧ 3 ≤ (llgBody pred xs).length := by
  have hz := llgZ_lt pred xs
  have hzlen := length_llgZ pred hlen
  have hdec := llgZ_decoded pred hlen h
  generalize hzdef : llgZ pred xs = z at hz hzlen hdec
  let g (i : Nat) : List Nat := (z.drop (16 * i)).take 16
  let w (i : Nat) : Nat := (g i).foldl (fun a v => Nat.max a (bitWidth v)) 0
  have hg : ∀ i, i < 4 → (g i).length = 16 := fun i hi => by simp [g, hzlen]; omega
  have hgz : ∀ i, ∀ v ∈ g i, v < 65536 := fun i v hv => hz v (List.mem_of_mem_drop (List.mem_of_mem_take hv))
  have hw : ∀ i, w i ≤ 16 := fun i => (groupWidth_spec (hgz i)).1
  have hbody : llgBody pred xs = leBytes (((groupBits w g).2 + 7) / 8) (groupBits w g).1 := by
    unfold llgBody
    rw [hzdef]
    rfl
  obtain ⟨hlt, hread, hr0, hr1, hr2, hr3⟩ := groupBits_read (fun i _ => hw i) hg fun i _ => (groupWidth_spec (hgz i)).2
  have hbits : (groupBits w g).2 = 20 + w 0 * 16 + w 1 * 16 + w 2 * 16 + w 3 * 16 := by rw [groupBits_eq w hg]
  have hnum : leNat (llgBody pred xs) = (groupBits w g).1 := by
    rw [hbody, leNat_leBytes]
    refine Nat.mod_eq_of_lt (hlt.trans_le ?_)
    rw [show (256 : Nat) = 2 ^ 8 from rfl, ← Nat.pow_mul]
    exact Nat.pow_le_pow_right (by decide) (by omega)
  have hblen : (llgBody pred xs).length = ((groupBits w g).2 + 7) / 8 := by rw [hbody, length_leBytes]
  have hjoin : g 0 ++ (g 1 ++ (g 2 ++ g 3)) = z := by
    have hsplit : ∀ k, (z.drop k).take 16 ++ z.drop (k + 16) = z.drop k := fun k => by
      rw [← List.drop_drop, List.take_append_drop]
    have hlast : g 3 = z.drop 48 := List.take_of_length_le (by rw [List.length_drop, hzlen])
    rw [hlast, hsplit 32, hsplit 16]
    exact hsplit 0
  refine ⟨?_, by omega⟩
  unfold llgSamples
  dsimp only
  rw [hnum, hread, hblen]
  have hany : [w 0, w 1, w 2, w 3].any (16 < ·) = false := by
    have h0 := hw 0
    have h1 := hw 1
    have h2 := hw 2
    have h3 := hw 3
    simp
    omega
  have hsum : 20 + 16 * ([w 0, w 1, w 2, w 3].take 4).sum = (groupBits w g).2 := by
    rw [hbits]
    simp
    omega
  rw [hany]
  refine (if_neg ?_).trans ?_
  · rw [hsum, Nat.div_eq_of_lt hlt]
    simp
  have hz' : (List.range 4).flatMap (fun i => takeBits (groupBits w g).1 (20 + 16 * ([w 0, w 1, w 2, w 3].take i).sum)
      ([w 0, w 1, w 2, w 3].getD i 0) 16) = z := by
    have e1 : 20 + 16 * ([w 0, w 1, w 2, w 3].take 1).sum = 20 + w 0 * 16 := by simp; omega
    have e2 : 20 + 16 * ([w 0, w 1, w 2, w 3].take 2).sum = 20 + w 0 * 16 + w 1 * 16 := by simp; omega
    have e3 : 20 + 16 * ([w 0, w 1, w 2, w 3].take 3).sum = 20 + w 0 * 16 + w 1 * 16 + w 2 * 16 := by simp; omega
    have hr0' : takeBits (groupBits w g).1 (20 + 16 * ([w 0, w 1, w 2, w 3].take 0).sum) (w 0) 16 = g 0 := hr0
    rw [← e1] at hr1
    rw [← e2] at hr2
    rw [← e3] at hr3
    simp only [show List.range 4 = [0, 1, 2, 3] from rfl, List.flatMap_cons, List.flatMap_nil, List.append_nil]
    rw [← hjoin]
    exact congrArg₂ (· ++ ·) hr0' (congrArg₂ (· ++ ·) hr1 (congrArg₂ (· ++ ·) hr2 hr3))
  rw [hz']
  exact congrArg some hdec

/-- A coded block within the input, whatever follows it: its length, its flags, and its body. -/
theorem llgFrame_read {n f : Nat} {body : List Byte} (hbody : body.length = n) (hn : n < 256) (hf : f < 256) (rest : List Byte) :
    let blk := sealBlock (leBytes 1 n ++ leBytes 1 f ++ body)
    leAt (blk ++ rest) 0 1 = n ∧ leAt (blk ++ rest) 1 1 = f ∧ (blk ++ rest).take (n + 4) = blk ∧ (blk.drop 2).take n = body ∧
      n + 4 ≤ (blk ++ rest).length ∧ blk.length = n + 4 := by
  intro blk
  have hblk : blk = leBytes 1 n ++ (leBytes 1 f ++ (body ++ leBytes 2 (crc16 (leBytes 1 n ++ leBytes 1 f ++ body)))) := by
    simp only [blk, sealBlock, List.append_assoc]
  have hlen : blk.length = n + 4 := by
    rw [hblk]
    simp only [List.length_append, length_leBytes]
    omega
  refine ⟨?_, ?_, List.take_left' hlen, ?_, ?_, hlen⟩
  · rw [hblk, List.append_assoc, leAt_leBytes_append]
    exact Nat.mod_eq_of_lt (by omega)
  · rw [hblk, List.append_assoc, leAt_append _ _ 0 1 (by rw [length_leBytes]), List.append_assoc, leAt_leBytes_append]
    exact Nat.mod_eq_of_lt (by omega)
  · rw [hblk, ← List.append_assoc, List.drop_left' (by simp [length_leBytes]), List.take_left' hbody]
  · rw [List.length_append]
    omega

theorem padTo_of_length {n : Nat} {b : List Byte} (h : b.length = n) : padTo n b = b := by rw [← h]; exact padTo_length_self b

/-- An LL-G block of a coded body comes back. -/
theorem llgDecode_coded {b : List Byte} {pred : Bool} {body : List Byte} {f : Nat} (hlen : b.length = 128) (hbody : body = llgBody pred (samplesOf b))
    (hf : f = if pred then 2 else 0) (hfit : body.length ≤ 127) (rest : List Byte) :
    llgDecode (sealBlock (leBytes 1 body.length ++ leBytes 1 f ++ body) ++ rest) = .ok (body.length + 4, b) := by
  obtain ⟨hsamples, hpos⟩ := llgSamples_llgBody pred (length_samplesOf b) fun x hx => mem_samplesOf hx
  rw [← hbody] at hsamples hpos
  have hf4 : f < 4 := by rw [hf]; split <;> decide
  have hpred : decide (2 ≤ f) = pred := by rw [hf]; cases pred <;> rfl
  have heven : f % 2 ≠ 1 := by rw [hf]; split <;> decide
  obtain ⟨h0, h1, htake, hdrop, hle, -⟩ := llgFrame_read (f := f) (body := body) rfl (by omega) (by omega) rest
  unfold llgDecode
  rw [h0, h1]
  dsimp only
  rw [if_neg (by omega), htake, blockCrcOk_sealBlock, if_neg (by decide), if_neg (by omega), if_neg heven, hdrop, hpred, hsamples]
  dsimp only
  rw [bytesOf_samplesOf hlen]

/-- An LL-G block comes back whole, whatever follows it (11 R323 to R325). -/
theorem llgDecode_llgEncode {b : List Byte} (hlen : b.length = 128) (rest : List Byte) :
    llgDecode (llgEncode b ++ rest) = .ok ((llgEncode b).length, b) ∧ (llgEncode b).length ≤ 132 := by
  have hraw : llgDecode (sealBlock (leBytes 1 128 ++ leBytes 1 1 ++ padTo 128 b) ++ rest) = .ok (132, b) ∧
      (sealBlock (leBytes 1 128 ++ leBytes 1 1 ++ padTo 128 b)).length = 132 := by
    rw [padTo_of_length hlen]
    obtain ⟨h0, h1, htake, hdrop, hle, hblk⟩ := llgFrame_read (f := 1) hlen (by decide) (by decide) rest
    refine ⟨?_, hblk⟩
    unfold llgDecode
    rw [h0, h1]
    dsimp only
    rw [if_neg (by omega), htake, blockCrcOk_sealBlock, if_neg (by decide), if_neg (by decide), if_pos (by decide), if_pos rfl, hdrop]
  have hcoded : ∀ (pred : Bool) (f : Nat), f = (if pred then 2 else 0) →
      let body := llgBody pred (samplesOf b)
      let blk := if 127 < body.length then sealBlock (leBytes 1 128 ++ leBytes 1 1 ++ padTo 128 b)
        else sealBlock (leBytes 1 body.length ++ leBytes 1 f ++ body)
      llgDecode (blk ++ rest) = .ok (blk.length, b) ∧ blk.length ≤ 132 := by
    intro pred f hf body blk
    simp only [blk]
    split
    · rw [hraw.2]
      exact ⟨hraw.1, Nat.le_refl _⟩
    next hfit =>
      have hblk : (sealBlock (leBytes 1 body.length ++ leBytes 1 f ++ body)).length = body.length + 4 := by
        rw [length_sealBlock]
        simp only [List.length_append, length_leBytes]
        omega
      have hle : body.length ≤ 127 := Nat.le_of_not_lt hfit
      rw [hblk]
      exact ⟨llgDecode_coded hlen rfl hf hle rest, by omega⟩
  unfold llgEncode
  dsimp only
  split
  · exact hcoded true 2 rfl
  · exact hcoded false 0 rfl

/-! ### LL-R (11 R326, R327) -/

theorem byte_toNat_leBytes {v : Nat} (h : v < 256) : ∃ c : Byte, leBytes 1 v = [c] ∧ c.toNat = v :=
  ⟨BitVec.ofNat 8 v, rfl, by rw [BitVec.toNat_ofNat]; exact Nat.mod_eq_of_lt h⟩

/-- A literal token gives its bytes. -/
theorem llrRead_litToken {l : List Byte} (h0 : l ≠ []) (h : l.length ≤ 128) (n used : Nat) (rest : List Byte) {out : List Byte}
    (hout : out.length + l.length ≤ 128) :
    llrRead (n + 1) (litToken l ++ rest) used out = llrRead n rest (used + (litToken l).length) (out ++ l) := by
  have hpos : 0 < l.length := List.length_pos_iff.2 h0
  obtain ⟨c, hc, hv⟩ := byte_toNat_leBytes (show l.length - 1 < 256 by omega)
  have htok : litToken l = c :: l := by
    rw [litToken, if_neg (by simpa using h0), hc]
    rfl
  rw [htok, List.cons_append, llrRead, if_neg (by omega)]
  dsimp only
  rw [hv, if_pos (by omega), if_neg (by simp only [List.length_append]; omega), Nat.sub_add_cancel hpos, List.drop_left' rfl, List.take_left' rfl]
  congr 1
  simp only [List.length_cons]
  omega

/-- A run token gives its repeated byte. -/
theorem llrRead_runToken {r : Nat} (hlo : 3 ≤ r) (hhi : r ≤ 130) (x : Byte) (n used : Nat) (rest : List Byte) {out : List Byte}
    (hout : out.length + r ≤ 128) :
    llrRead (n + 1) (leBytes 1 (0x80 + (r - 3)) ++ [x] ++ rest) used out = llrRead n rest (used + 2) (out ++ List.replicate r x) := by
  obtain ⟨c, hc, hv⟩ := byte_toNat_leBytes (show 0x80 + (r - 3) < 256 by omega)
  rw [hc, List.append_assoc, List.cons_append, List.nil_append, List.cons_append, List.nil_append, llrRead, if_neg (by omega)]
  dsimp only
  rw [hv, if_neg (by omega), show 0x80 + (r - 3) - 0x80 + 3 = r by omega, if_neg (by omega)]

/-- The run at the front of a list repeats its first byte. -/
theorem runLen_spec (n : Nat) (b : Byte) (bs : List Byte) : runLen n (b :: bs) ≤ n ∧
    (b :: bs) = List.replicate (runLen n (b :: bs)) b ++ (b :: bs).drop (runLen n (b :: bs)) := by
  induction n generalizing b bs with
  | zero => exact ⟨Nat.le_refl 0, rfl⟩
  | succ n ih =>
    cases bs with
    | nil => exact ⟨by rw [runLen]; omega, rfl⟩
    | cons c bs =>
      rw [runLen]
      split
      next hbc =>
        subst hbc
        obtain ⟨hle, heq⟩ := ih b bs
        refine ⟨by omega, ?_⟩
        rw [List.replicate_succ, List.cons_append, List.drop_succ_cons, ← heq]
      · exact ⟨by omega, rfl⟩

/-- With no bytes left the literal stretch under way is written. -/
theorem llrTokens_nil (n : Nat) (l : List Byte) : llrTokens n l [] = litToken l := by
  cases n <;> rfl

/-- The literal stretch before a token, if there is one, gives its bytes. -/
theorem llrRead_stretch (l more : List Byte) (hl : l.length ≤ 128) {out : List Byte} (hout : out.length + l.length ≤ 128) {m : Nat} (hm : l.length < m)
    (used : Nat) : ∃ m', m ≤ m' + l.length ∧ llrRead m (litToken l ++ more) used out = llrRead m' more (used + (litToken l).length) (out ++ l) := by
  by_cases h0 : l = []
  · subst h0
    exact ⟨m, Nat.le_refl m, by simp [litToken]⟩
  · obtain ⟨k, rfl⟩ : ∃ k, m = k + 1 := ⟨m - 1, by omega⟩
    have hpos : 0 < l.length := List.length_pos_iff.2 h0
    exact ⟨k, by omega, llrRead_litToken h0 hl k used more hout⟩

theorem llrRead_done (rest : List Byte) {out : List Byte} (hout : out.length = 128) {m : Nat} (hm : 0 < m) (used : Nat) :
    llrRead m rest used out = some (used, out) := by
  obtain ⟨k, rfl⟩ : ∃ k, m = k + 1 := ⟨m - 1, by omega⟩
  unfold llrRead
  exact if_pos hout

/-- The tokens of a block give its bytes back, whatever follows them (11 R327). -/
theorem llrRead_llrTokens (rest : List Byte) (n : Nat) : ∀ (l bs out : List Byte) (m used : Nat), bs.length ≤ n → l.length ≤ 127 →
    out.length + l.length + bs.length = 128 → l.length + bs.length < m →
    llrRead m (llrTokens n l bs ++ rest) used out = some (used + (llrTokens n l bs).length, out ++ l ++ bs) := by
  have hlit : ∀ (n : Nat) (l out : List Byte) (m used : Nat), l.length ≤ 127 → out.length + l.length + ([] : List Byte).length = 128 →
      l.length + ([] : List Byte).length < m →
      llrRead m (llrTokens n l [] ++ rest) used out = some (used + (llrTokens n l []).length, out ++ l ++ []) := by
    intro n l out m used hl hout hm
    rw [List.length_nil, Nat.add_zero] at hout hm
    obtain ⟨m', hm', hread⟩ := llrRead_stretch l rest (by omega) (out := out) (by omega) hm used
    have hfull : (out ++ l).length = 128 := by rw [List.length_append, hout]
    rw [llrTokens_nil, List.append_nil, hread, llrRead_done rest hfull (by omega)]
  induction n with
  | zero =>
    intro l bs out m used hn
    have hbs : bs = [] := List.length_eq_zero_iff.1 (by omega)
    subst hbs
    exact hlit 0 l out m used
  | succ n ih =>
    intro l bs out m used hn hl hlen hm
    cases bs with
    | nil => exact hlit (n + 1) l out m used hl hlen hm
    | cons b bs =>
      rw [List.length_cons] at hn hlen hm
      obtain ⟨hrun, heq⟩ := runLen_spec 130 b bs
      rw [llrTokens]
      generalize runLen 130 (b :: bs) = r at hrun heq ⊢
      have hrlen : r + ((b :: bs).drop r).length = bs.length + 1 := by
        have h := congrArg List.length heq
        rw [List.length_append, List.length_replicate, List.length_cons] at h
        exact h.symm
      split
      next hr =>
        obtain ⟨m', hm', hread⟩ := llrRead_stretch l (leBytes 1 (0x80 + (r - 3)) ++ [b] ++ (llrTokens n [] ((b :: bs).drop r) ++ rest)) (by omega)
          (by omega) (out := out) (show l.length < m by omega) used
        obtain ⟨k, rfl⟩ : ∃ k, m' = k + 1 := ⟨m' - 1, by omega⟩
        have hih := ih [] ((b :: bs).drop r) (out ++ l ++ List.replicate r b) k (used + (litToken l).length + 2) (by omega) (by simp)
          (by simp only [List.length_append, List.length_replicate, List.length_nil]; omega) (by rw [List.length_nil]; omega)
        rw [List.append_assoc, List.append_assoc, List.append_assoc, ← List.append_assoc (leBytes 1 _) [b], hread,
          llrRead_runToken hr hrun b k _ _ (by rw [List.length_append]; omega), hih]
        refine congrArg some (Prod.ext ?_ ?_)
        · simp only [List.length_append, length_leBytes, List.length_cons, List.length_nil]
          omega
        · dsimp only
          rw [List.append_nil, List.append_assoc (out ++ l), ← heq]
      · split
        next h127 =>
          obtain ⟨k, rfl⟩ : ∃ k, m = k + 1 := ⟨m - 1, by omega⟩
          have hlb : (l ++ [b]).length = 128 := by rw [List.length_append, h127]; rfl
          have hih := ih [] bs (out ++ (l ++ [b])) k (used + (litToken (l ++ [b])).length) (by omega) (by simp)
            (by rw [List.length_append, hlb, List.length_nil]; omega) (by rw [List.length_nil]; omega)
          rw [List.append_assoc, llrRead_litToken (by simp) (by omega) k used _ (by omega), hih]
          refine congrArg some (Prod.ext ?_ ?_)
          · simp only [List.length_append]
            omega
          · simp
        next h127 =>
          have hlb : (l ++ [b]).length = l.length + 1 := by rw [List.length_append]; rfl
          rw [ih (l ++ [b]) bs out m used (by omega) (by omega) (by omega) (by omega)]
          simp

/-- An LL-R block within the input: its header, its body, and where it ends. -/
theorem llrFrame_read {h : Nat} (hh : h < 256) (body rest : List Byte) :
    let blk := sealBlock (leBytes 1 h ++ body)
    leAt (blk ++ rest) 0 1 = h ∧ (blk ++ rest).drop 1 = body ++ (leBytes 2 (crc16 (leBytes 1 h ++ body)) ++ rest) ∧
      (blk ++ rest).take (body.length + 3) = blk ∧ body.length + 3 ≤ (blk ++ rest).length ∧ blk.length = body.length + 3 := by
  intro blk
  have hblk : blk = leBytes 1 h ++ (body ++ leBytes 2 (crc16 (leBytes 1 h ++ body))) := by
    simp only [blk, sealBlock, List.append_assoc]
  have hlen : blk.length = body.length + 3 := by
    rw [hblk]
    simp only [List.length_append, length_leBytes]
    omega
  refine ⟨?_, ?_, List.take_left' hlen, ?_, hlen⟩
  · rw [hblk, List.append_assoc, leAt_leBytes_append]
    exact Nat.mod_eq_of_lt (by omega)
  · rw [hblk, List.append_assoc, List.drop_left' (by rw [length_leBytes]), List.append_assoc]
  · rw [List.length_append]
    omega

/-- An LL-R block comes back whole, whatever follows it (11 R326, R327). -/
theorem llrDecode_llrEncode {b : List Byte} (hlen : b.length = 128) (rest : List Byte) :
    llrDecode (llrEncode b ++ rest) = .ok ((llrEncode b).length, b) ∧ (llrEncode b).length ≤ 131 := by
  have hread := fun more => llrRead_llrTokens more 129 [] b [] 130 0 (by omega) (by simp) (by simpa using hlen)
    (by rw [List.length_nil]; omega)
  unfold llrEncode
  rw [padTo_of_length hlen]
  dsimp only
  generalize llrTokens 129 [] b = body at hread ⊢
  split
  · obtain ⟨hhead, hdrop, htake, hle, hblk⟩ := llrFrame_read (h := 0x80) (by decide) b rest
    rw [hblk]
    refine ⟨?_, by omega⟩
    rw [hlen] at htake hle
    unfold llrDecode
    dsimp only
    rw [hhead, if_pos (by decide), if_neg (by omega), hdrop, List.take_left' hlen]
    dsimp only
    rw [if_neg (by omega), htake, blockCrcOk_sealBlock, if_neg (by decide), if_neg (by decide), hlen]
  next hfit =>
    obtain ⟨hhead, hdrop, htake, hle, hblk⟩ := llrFrame_read (h := 0) (by decide) body rest
    rw [hblk]
    refine ⟨?_, by omega⟩
    unfold llrDecode
    dsimp only
    rw [hhead, if_neg (by decide), hdrop, hread, Nat.zero_add]
    dsimp only
    rw [if_neg (by omega), htake, blockCrcOk_sealBlock, if_neg (by decide), if_neg (by decide)]
    rfl

end Sys2Proof.Machine

open Sys2Proof Sys2Proof.Machine

/-- Settles O38: each coder's block is taken apart by its decoder. -/
theorem codedBlocksComeBack : Obligations.CodedBlocksComeBack := by
  intro b rest bidx kind elo hlen hkind
  obtain ⟨hllg, hllgLen⟩ := llgDecode_llgEncode hlen rest
  obtain ⟨hllr, hllrLen⟩ := llrDecode_llrEncode hlen rest
  exact ⟨frDecode_frEncode bidx elo hkind b, hllg, hllgLen, hllr, hllrLen⟩
end

section
/-! Hops (03 R58, R81 to R86): the free slot that is least noisy, the decision of the guard interval, and the latch instant. -/

namespace Sys2Proof.Machine

/-- A slot that a hop may go to: of the mask, and not one of the running pair. -/
def slotFree (s : State) (mask k : Nat) : Bool := bit mask (k - 2) && k != s.chn.pri && k != s.chn.sec

/-- The noise of a slot. -/
def slotNoise (s : State) (k : Nat) : Nat := s.chn.noise.getD (k - 2) 0

/-- The better of the slot found and the next one. -/
def betterSlot (s : State) (mask : Nat) (best : Option Nat) (k : Nat) : Option Nat :=
  if !bit mask (k - 2) || k == s.chn.pri || k == s.chn.sec then best
  else match best with
    | none => some k
    | some b => if slotNoise s k < slotNoise s b then some k else some b

theorem freeSlot_eq (s : State) (mask : Nat) : freeSlot s mask = [2, 3, 4, 5, 6].foldl (betterSlot s mask) none := by
  have hlist : (List.range 5).map (· + 2) = [2, 3, 4, 5, 6] := by decide
  unfold freeSlot
  rw [hlist]
  congr 1
  funext best k
  unfold betterSlot slotNoise
  cases best <;> rfl

theorem betterSlot_free {s : State} {mask k : Nat} (h : slotFree s mask k = true) (best : Option Nat) : betterSlot s mask best k =
    match best with
    | none => some k
    | some b => if slotNoise s k < slotNoise s b then some k else some b := by
  refine if_neg ?_
  simp only [slotFree, Bool.and_eq_true, bne_iff_ne] at h
  simp [h]

theorem betterSlot_taken {s : State} {mask k : Nat} (h : slotFree s mask k = false) (best : Option Nat) : betterSlot s mask best k = best := by
  refine if_pos ?_
  simp only [slotFree, Bool.and_eq_false_iff, bne_eq_false_iff_eq] at h
  rcases h with (h | h) | h <;> simp [h]

/-- What the search over a list finds: a slot of the list, or the one before it, that no free slot undercuts. -/
theorem foldl_betterSlot {s : State} {mask f : Nat} (l : List Nat) (best : Option Nat) (h : l.foldl (betterSlot s mask) best = some f) :
    (best = some f ∨ f ∈ l ∧ slotFree s mask f = true) ∧ (∀ b, best = some b → slotNoise s f ≤ slotNoise s b) ∧
      ∀ k ∈ l, slotFree s mask k = true → slotNoise s f ≤ slotNoise s k := by
  induction l generalizing best with
  | nil => exact ⟨.inl h, fun b hb => by rw [show b = f from Option.some.inj (hb.symm.trans h)], fun k hk => absurd hk List.not_mem_nil⟩
  | cons x l ih =>
    obtain ⟨hin, hbest, hall⟩ := ih (betterSlot s mask best x) h
    cases hfree : slotFree s mask x with
    | false =>
      rw [betterSlot_taken hfree] at hin hbest
      refine ⟨hin.imp_right fun hf => ⟨List.mem_cons_of_mem _ hf.1, hf.2⟩, hbest, fun k hk hkf => ?_⟩
      rcases List.mem_cons.1 hk with rfl | hk
      · exact absurd (hfree.symm.trans hkf) (by decide)
      · exact hall k hk hkf
    | true =>
      have hstep := betterSlot_free hfree best
      have hx : slotNoise s f ≤ slotNoise s x ∧ ∀ b, best = some b → slotNoise s f ≤ slotNoise s b := by
        cases best with
        | none => exact ⟨hbest x hstep, nofun⟩
        | some b =>
          dsimp only at hstep
          split at hstep
          next hlt =>
            have hle := hbest x hstep
            exact ⟨hle, fun b' hb => by rw [← Option.some.inj hb]; omega⟩
          next hge =>
            have hle := hbest b hstep
            exact ⟨by omega, fun b' hb => by rw [← Option.some.inj hb]; exact hle⟩
      have hmem : best = some f ∨ f ∈ x :: l ∧ slotFree s mask f = true := by
        rcases hin with hin | hin
        · cases best with
          | none => exact .inr (by rw [Option.some.inj (hin.symm.trans hstep)]; exact ⟨List.mem_cons_self .., hfree⟩)
          | some b =>
            dsimp only at hstep
            split at hstep
            · exact .inr (by rw [Option.some.inj (hin.symm.trans hstep)]; exact ⟨List.mem_cons_self .., hfree⟩)
            · exact .inl (by rw [Option.some.inj (hin.symm.trans hstep)])
        · exact .inr ⟨List.mem_cons_of_mem _ hin.1, hin.2⟩
      refine ⟨hmem, hx.2, fun k hk hkf => ?_⟩
      rcases List.mem_cons.1 hk with rfl | hk
      · exact hx.1
      · exact hall k hk hkf

/-- The free slot found is of the mask, none of the running pair, and the least noisy (03 R84). -/
theorem freeSlot_spec {s : State} {mask f : Nat} (h : freeSlot s mask = some f) : 2 ≤ f ∧ f ≤ 6 ∧ slotFree s mask f = true ∧
    ∀ k, 2 ≤ k → k ≤ 6 → slotFree s mask k = true → slotNoise s f ≤ slotNoise s k := by
  rw [freeSlot_eq] at h
  obtain ⟨hin, -, hall⟩ := foldl_betterSlot _ _ h
  obtain ⟨hmem, hfree⟩ := hin.resolve_left nofun
  have hrange : ∀ k ∈ [2, 3, 4, 5, 6], 2 ≤ k ∧ k ≤ 6 := by decide
  refine ⟨(hrange f hmem).1, (hrange f hmem).2, hfree, fun k hlo hhi hk => hall k ?_ hk⟩
  simp only [List.mem_cons, List.not_mem_nil, or_false]
  omega

theorem slotFree_iff {s : State} {mask k : Nat} : slotFree s mask k = true ↔ mask.testBit (k - 2) = true ∧ k ≠ s.chn.pri ∧ k ≠ s.chn.sec := by
  simp only [slotFree, bit_eq_testBit, Bool.and_eq_true, bne_iff_ne, and_assoc]

/-- The idle time of a reduced rate begins where the guard interval of a frame that scans ends (03 R55). -/
theorem idleTime_eq {s : State} (hscans : s.scans = true) :
    idleTime s = { s with chn.seg := if s.chn.seg = 4 ∧ s.chn.cur.us ≠ 2000 then 5 else s.chn.seg } := by
  unfold idleTime
  rw [hscans, Bool.true_and]
  by_cases h : s.chn.seg = 4 ∧ s.chn.cur.us ≠ 2000
  · rw [if_pos (by simp [h]), if_pos h]
  · rw [if_neg (by simpa using h), if_neg h]

/-- What the latch instant leaves before a hop is latched. -/
def latchBegins (s : State) (i : Icu) : State :=
  { s with chn.latchPassed := true, chn.npri := s.chn.pri, chn.nsec := s.chn.sec, chn.auto := none, chn.replaced := [], icu := i
           chn.decided := s.chn.decided ++ s.chn.replaced.map (fun j => { cmd := j, outcome := 2 }) }

/-- The request decided at the latch instant. -/
def noteHop (q : HopReq) (o : Nat) (s : State) : State :=
  { s with chn.req := none, chn.decided := s.chn.decided ++ (q.cmd.toList.map (fun j => ({ cmd := j, outcome := o } : HopDecided))) }

/-- A forced request that is valid at the latch instant (03 R83). -/
def hopValid (q : HopReq) (s : State) : Bool :=
  decide (2 ≤ q.slot ∧ q.slot ≤ 6) && bit (s.act 0x2C7 1) (q.slot - 2) && q.slot != (if q.role = 0 then s.chn.sec else s.chn.pri)

/-- The latch instant without a commit under way: a valid forced hop, else an automatic one (03 R58, R83). -/
theorem latchInstant_eq {s : State} (hclk : s.clk.core = true) (hjob : s.ctx.job = none) : ∃ i, latchInstant s =
    let byAuto (u : State) : State := (s.chn.auto.map (fun a => latchHop false a.1 a.2 u)).getD u
    match s.chn.req with
    | none => byAuto (latchBegins s i)
    | some q => if hopValid q s then latchHop true q.role q.slot (noteHop q 0 (latchBegins s i)) else byAuto (noteHop q 1 (latchBegins s i)) := by
  obtain ⟨i, hraise⟩ := raise_icu (s := { s with
    chn.latchPassed := true, chn.npri := s.chn.pri, chn.nsec := s.chn.sec, chn.auto := none, chn.replaced := []
    chn.decided := s.chn.decided ++ s.chn.replaced.map (fun j => { cmd := j, outcome := 2 }) }) hclk 10
  refine ⟨i, ?_⟩
  unfold latchInstant
  rw [hraise]
  dsimp only
  cases hreq : s.chn.req with
  | none =>
    cases hauto : s.chn.auto with
    | none => simp only [latchBegins, hjob, hreq, Option.map_none, Option.getD_none]
    | some a => simp only [latchBegins, latchHop, hjob, hreq, Option.map_some, Option.getD_some]
  | some q =>
    dsimp only
    by_cases hv : hopValid q s = true
    · have hok := hv
      unfold hopValid at hok
      rw [if_pos hv]
      simp only [hok, if_true, latchBegins, noteHop, latchHop, hjob]
    · have hok := hv
      unfold hopValid at hok
      rw [if_neg hv]
      cases hauto : s.chn.auto with
      | none => simp only [hok, if_false, latchBegins, noteHop, hjob, Option.map_none, Option.getD_none, Bool.false_eq_true]
      | some a => simp only [hok, if_false, latchBegins, noteHop, latchHop, hjob, Option.map_some, Option.getD_some, Bool.false_eq_true]

end Sys2Proof.Machine

open Sys2Proof Sys2Proof.Machine

/-- Settles O43: the search for a free slot keeps the least noisy one, and the latch instant decides a forced hop before an automatic one. -/
theorem hopsAreDecidedAndLatched : Obligations.HopsAreDecidedAndLatched := by
  intro v q role f s hm hcore hafe ctx mask other valid seg hops
  have hexec : s.chn.timer = true → exec .latchInstant s = answer s (latchInstant s) := fun htimer => by
    change execLatchInstant s = _
    rw [execLatchInstant, if_neg (by simp [hcore, hafe, htimer])]
  have hvalid_iff : ∀ q : HopReq, hopValid q s = true ↔ 2 ≤ q.slot ∧ q.slot ≤ 6 ∧ mask.testBit (q.slot - 2) = true ∧
      q.slot ≠ (if q.role = 0 then s.chn.sec else s.chn.pri) := fun q => by
    simp only [hopValid, bit_eq_testBit, Bool.and_eq_true, decide_eq_true_eq, bne_iff_ne, and_assoc, mask]
  refine ⟨fun hscans hnoise hfree hauto hlast hp hs => ?_, fun hscans hnoise hp hs => ?_, fun hfree => ?_, fun htimer hjob hdec hrep => ⟨fun hreq hauto => ?_, fun hreq hauto => ?_,
    fun hreq hvalid => ?_, fun hreq hvalid hauto => ?_⟩, fun hv => ?_, fun hv => ?_⟩
  · have hdecide : execHopDecision s = answer s (idleTime { s with chn.auto := some (0, f) }) := by
      unfold execHopDecision
      rw [if_neg (by simp [hscans, hnoise])]
      dsimp only
      have hctx : (s.params s.epoch).ctx = ctx := rfl
      rw [hctx, hlast, hfree]
      dsimp only
      rw [if_neg (by simp [hauto, hp]), if_neg (by simp [hs]), if_pos (by simpa using hp)]
    rw [idleTime_eq (s := { s with chn.auto := some (0, f) }) hscans] at hdecide
    exact hdecide.trans (answer_of_eq s _ hm rfl rfl)
  · have hdecide : execHopDecision s = answer s (idleTime s) := by
      unfold execHopDecision
      rw [if_neg (by simp [hscans, hnoise])]
      dsimp only
      have hctx : (s.params s.epoch).ctx = ctx := rfl
      rw [hctx]
      split
      · rfl
      · rw [if_pos]
        simp only [Bool.or_eq_true, Bool.not_eq_true', Bool.or_eq_false_iff, decide_eq_false_iff_not]
        omega
    rw [idleTime_eq hscans] at hdecide
    exact hdecide.trans (answer_of_eq s _ hm rfl rfl)
  · obtain ⟨hlo, hhi, hslot, hall⟩ := freeSlot_spec hfree
    obtain ⟨hbit, hpri, hsec⟩ := slotFree_iff.1 hslot
    refine ⟨hlo, hhi, hbit, hpri, hsec, fun k hk hkbit hkpri hksec => ?_⟩
    exact hall (k + 2) (by omega) (by omega) (slotFree_iff.2 ⟨hkbit, hkpri, hksec⟩)
  · obtain ⟨i, hlatch⟩ := latchInstant_eq hcore hjob
    rw [hreq, hauto] at hlatch
    refine completes_answer (hexec htimer) ?_
    rw [hlatch]
    exact ⟨⟨rfl, rfl, rfl⟩, rfl, rfl⟩
  · obtain ⟨i, hlatch⟩ := latchInstant_eq hcore hjob
    rw [hreq, hauto] at hlatch
    refine completes_answer (hexec htimer) ?_
    rw [hlatch]
    exact ⟨rfl, rfl, rfl, rfl⟩
  · obtain ⟨i, hlatch⟩ := latchInstant_eq hcore hjob
    rw [hreq] at hlatch
    dsimp only at hlatch
    rw [if_pos ((hvalid_iff q).2 hvalid)] at hlatch
    refine completes_answer (hexec htimer) ?_
    rw [hlatch]
    refine ⟨⟨rfl, rfl, rfl⟩, rfl, ?_⟩
    simp [latchHop, noteHop, latchBegins, hdec, hrep]
  · obtain ⟨i, hlatch⟩ := latchInstant_eq hcore hjob
    rw [hreq, hauto] at hlatch
    dsimp only [Option.map_none, Option.getD_none] at hlatch
    rw [if_neg (fun h => hvalid ((hvalid_iff q).1 h))] at hlatch
    refine completes_answer (hexec htimer) ?_
    rw [hlatch]
    refine ⟨rfl, rfl, ?_⟩
    simp [noteHop, latchBegins, hdec, hrep]
  · change execHopForceWrite v s = _
    rw [execHopForceWrite, offStore, if_pos (by simp [hcore, hafe]), hopForce, bit_eq_getLsbD, hv, if_pos rfl]
    refine (answer_of_eq s (hopRequest (fld v.toNat 0 3) (fld v.toNat 4 1) none s) hm rfl rfl).trans ?_
    simp [hopRequest, fld]
  · change execHopForceWrite v s = _
    rw [execHopForceWrite, offStore, if_pos (by simp [hcore, hafe]), hopForce, bit_eq_getLsbD, hv, if_neg (by decide)]
    exact answer_of_eq s _ hm rfl rfl
end

section
/-! Markers (07 R207 to R209): a block that a port hears comes out of its descrambler as it was sent, and a marker steers the frame timer
and its lock. -/

namespace Sys2Proof.Machine

/-- A descrambler that starts where the scrambler started gives the bits back and ends where it ended (07 R186). -/
theorem descrambled_scrambled (n v : Nat) (st : BitVec 58) : scrambled descrambleBit n (scrambled scrambleBit n v st).1 st =
    (v % 2 ^ n, (scrambled scrambleBit n v st).2) := by
  induction n generalizing v st with
  | zero => simp [scrambled, Nat.mod_one]
  | succ n ih =>
    have hbit : ∀ o : Bool, ∀ x : Nat, ((b2n o + 2 * x) % 2 == 1) = o ∧ (b2n o + 2 * x) / 2 = x := by
      intro o x
      cases o
      · exact ⟨by simp [b2n], by simp [b2n]⟩
      · exact ⟨by simp [b2n, Nat.add_mod], by simp only [b2n, if_true]; omega⟩
    have hback : ∀ b : Bool, descrambleBit st (scrambleBit st b).1 = (b, (scrambleBit st b).2) := by
      intro b
      simp only [descrambleBit, scrambleBit]
      cases b <;> cases st.getLsbD 38 <;> cases st.getLsbD 57 <;> rfl
    simp only [scrambled]
    rw [(hbit _ _).1, (hbit _ _).2, hback, ih]
    have hlow : b2n (v % 2 == 1) = v % 2 := by
      rcases Nat.mod_two_eq_zero_or_one v with h | h <;> rw [h] <;> rfl
    rw [hlow]
    have hmod : v % 2 ^ (n + 1) = v % 2 + 2 * (v / 2 % 2 ^ n) := by
      rw [Nat.pow_succ, Nat.mul_comm, Nat.mod_mul]
    rw [hmod]

/-- A block that a port hears leaves all of it but the lane, the blocks' window and the descramblers (07 R186, R187). -/
theorem hearBlock_eq (q : PortSt) (b : LinkBlock) : ∃ n w l r p, (hearBlock q b).1 = { q with
    rxLane := n, win := w, lane := l, rscr := r, rxPos := p } := ⟨_, _, _, _, _, rfl⟩

theorem hearIdles_eq (k : Nat) (q : PortSt) : ∃ n w l r p, hearIdles k q = { q with
    rxLane := n, win := w, lane := l, rscr := r, rxPos := p } := by
  induction k generalizing q with
  | zero => exact ⟨_, _, _, _, _, rfl⟩
  | succ k ih =>
    obtain ⟨n, w, l, r, p, h⟩ := hearBlock_eq q (lineBlock q idleBlock)
    obtain ⟨n', w', l', r', p', h'⟩ := ih (hearIdle q)
    rw [hearIdles, h', hearIdle, h]
    exact ⟨_, _, _, _, _, rfl⟩

theorem endSlot_eq (q : PortSt) : ∃ n w l r p, endSlot q = { q with rxLane := n, win := w, lane := l, rscr := r, rxPos := p } := by
  unfold endSlot
  split
  · exact ⟨_, _, _, _, _, rfl⟩
  · obtain ⟨n, w, l, r, p, h⟩ := hearIdles_eq (19 - q.rxPos) q
    rw [h]
    exact ⟨_, _, _, _, _, rfl⟩

/-- A block of 64 bits that a lane brought is heard as it was sent. -/
theorem hearBlock_lineBlock (q : PortSt) {b : LinkBlock} (h : b.bits < 2 ^ 64) : (hearBlock q (lineBlock q b)).2 = b := by
  simp only [hearBlock, lineBlock, descrambled_scrambled, Nat.mod_eq_of_lt h]

theorem controlOf_bits_lt (k : BlockKind) (v : Nat) : (controlOf k v).bits < 2 ^ 64 := by
  have hcode : k.code < 256 := by cases k <;> decide
  have hv : v % 2 ^ 56 < 2 ^ 56 := Nat.mod_lt _ (by norm_num)
  simp only [controlOf]
  omega

theorem readBlock_controlOf (k : BlockKind) {v : Nat} (h : v < 2 ^ 56) : readBlock (controlOf k v) = .control k v := by
  have hcode : k.code < 256 := by cases k <;> decide
  have hlow : (k.code + 256 * v) % 256 = k.code := by omega
  have hhigh : fld (k.code + 256 * v) 8 56 = v := by
    rw [fld]
    omega
  have hkind : kindOfCode k.code = some k := by cases k <;> rfl
  simp only [readBlock, controlOf, Nat.mod_eq_of_lt h, hlow, hkind, hhigh]
  rfl

theorem markPayload_fields {n delay hops : Nat} (hn : n < 2 ^ 16) (hd : delay < 2 ^ 24) (hh : hops < 64) :
    markPayload (n, delay, hops) < 2 ^ 56 ∧ fld (markPayload (n, delay, hops)) 0 16 = n ∧
    fld (markPayload (n, delay, hops)) 16 24 = delay ∧ fld (markPayload (n, delay, hops)) 40 6 = hops := by
  simp only [markPayload, pack, fld, Nat.mod_eq_of_lt hn, Nat.mod_eq_of_lt hd, Nat.mod_eq_of_lt hh]
  omega

/-- What a marker of error `x`, used with its HOPS `h` from port `q`, makes of the timer and its lock (07 R207 to R209). -/
structure MarkUsed (x : Int) (h : Nat) (q : Port) (s t : State) : Prop where
  err : t.crl.err = x
  best : t.crl.best = some (h, q)
  marks : t.crl.marks = min 2 (s.crl.marks + 1)
  first : s.crl.marks = 0 → t.crl.phase = s.crl.phase + 4 * x ∧ t.crl.freq = s.crl.freq
  second : s.crl.marks = 1 → t.crl.phase = s.crl.phase ∧ t.crl.freq = s.crl.freq + 64 * x
  later : 2 ≤ s.crl.marks → t.crl.phase = s.crl.phase + x ∧ t.crl.freq = s.crl.freq + x
  locks : s.crl.lock = false → (t.crl.lock = true ↔ 7 ≤ s.crl.good ∧ x.natAbs ≤ 50)
  unlocks : s.crl.lock = true → (t.crl.lock = false ↔ 3 ≤ s.crl.bad ∧ 100 < x.natAbs)
  timer : s.crl.enrolled = true → t.chn.timer = true
  source : s.clk.core = true → s.icu.src.length = 48 →
    t.srcAt 25 = if t.crl.lock = s.crl.lock then s.srcAt 25 else ((s.srcAt 25).arrival).1

/-- What a marker may change of a state: the ring's, the timer and the interrupt unit. -/
def Steered (s t : State) : Prop := ∃ (c : Crila) (b : Bool) (i : Icu) (k : Nat), t = { s with crl := c, chn.timer := b, icu := i, clk.mergeIcu := k } ∧
  c.up = s.crl.up ∧ c.dn = s.crl.dn

theorem steer_spec (e : Int) (s : State) : ∃ m b p f, steer e s = { s with
    crl.err := satI 16 e, crl.maxErr := m, crl.marks := min 2 (s.crl.marks + 1), crl.phase := p, crl.freq := f, chn.timer := b } ∧
    (s.crl.enrolled = true → b = true) ∧ (s.crl.marks = 0 → p = s.crl.phase + 4 * e ∧ f = s.crl.freq) ∧
    (s.crl.marks = 1 → p = s.crl.phase ∧ f = s.crl.freq + 64 * e) ∧ (2 ≤ s.crl.marks → p = s.crl.phase + e ∧ f = s.crl.freq + e) := by
  have htimer : s.crl.enrolled = true → (s.chn.timer || s.crl.enrolled) = true := by
    intro h
    rw [h, Bool.or_true]
  unfold steer
  dsimp only
  split
  next h => exact ⟨_, _, _, _, rfl, htimer, fun _ => ⟨rfl, rfl⟩, by omega, by omega⟩
  next h => exact ⟨_, _, _, _, rfl, htimer, by omega, fun _ => ⟨rfl, rfl⟩, by omega⟩
  next h0 h1 => exact ⟨_, _, _, _, rfl, htimer, fun h => absurd h h0, fun h => absurd h h1, fun _ => ⟨rfl, rfl⟩⟩

theorem lockAfter_spec (e : Int) (s : State) : ∃ g b l i k, lockAfter e s = { s with
      crl.good := g, crl.bad := b, crl.lock := l, icu := i, clk.mergeIcu := k } ∧
    (s.crl.lock = false → (l = true ↔ 7 ≤ s.crl.good ∧ e.natAbs ≤ 50)) ∧
    (s.crl.lock = true → (l = false ↔ 3 ≤ s.crl.bad ∧ 100 < e.natAbs)) ∧
    (s.clk.core = true → s.icu.src.length = 48 →
      (lockAfter e s).srcAt 25 = if l = s.crl.lock then s.srcAt 25 else ((s.srcAt 25).arrival).1) := by
  have hlock : s.crl.lock = false → ((if s.crl.lock then decide ((if 100 < e.natAbs then s.crl.bad + 1 else 0) < 4)
      else decide (8 ≤ if e.natAbs ≤ 50 then s.crl.good + 1 else 0)) = true ↔ 7 ≤ s.crl.good ∧ e.natAbs ≤ 50) := by
    intro h
    simp only [h, Bool.false_eq_true, if_false, decide_eq_true_eq]
    split <;> omega
  have hunlock : s.crl.lock = true → ((if s.crl.lock then decide ((if 100 < e.natAbs then s.crl.bad + 1 else 0) < 4)
      else decide (8 ≤ if e.natAbs ≤ 50 then s.crl.good + 1 else 0)) = false ↔ 3 ≤ s.crl.bad ∧ 100 < e.natAbs) := by
    intro h
    simp only [h, if_true, decide_eq_false_iff_not]
    split <;> omega
  unfold lockAfter
  dsimp only
  generalize (if s.crl.lock then decide ((if 100 < e.natAbs then s.crl.bad + 1 else 0) < 4)
      else decide (8 ≤ if e.natAbs ≤ 50 then s.crl.good + 1 else 0)) = l at *
  split
  next h => exact ⟨_, _, _, _, _, rfl, hlock, hunlock, fun _ _ => by rw [if_pos h]; rfl⟩
  next h =>
    obtain ⟨_, _, _, _, _, hr⟩ := raise_eq 25 { s with
      crl.good := Nat.min (if e.natAbs ≤ 50 then s.crl.good + 1 else 0) 8, crl.bad := Nat.min (if 100 < e.natAbs then s.crl.bad + 1 else 0) 4
      crl.lock := l }
    refine ⟨_, _, _, _, _, hr, hlock, hunlock, fun hclk hlen => ?_⟩
    have hraise : ∀ u : State, u.icu = s.icu → u.clk = s.clk → (raise 25 u).srcAt 25 = (s.srcAt 25).arrival.1 := by
      intro u hi hk
      rw [raise_srcAt (by rw [hk, hclk]) (by rw [hi, hlen]; decide) (by decide), State.srcAt, State.srcAt, hi]
    rw [if_neg h]
    exact hraise _ rfl rfl

theorem useMark_spec (hops : Nat) (port : Port) {err : Int} (hlo : -32768 ≤ err) (hhi : err ≤ 32767) (s : State) :
    MarkUsed err hops port s (useMark hops port err s) ∧ Steered s (useMark hops port err s) := by
  have hsat : satI 16 err = err := by
    simp only [satI, clampI]
    norm_num
    omega
  obtain ⟨m, b, p, f, hst, htimer, hfirst, hsecond, hlater⟩ := steer_spec err { s with crl.best := some (hops, port), crl.first := none }
  obtain ⟨g, d, l, i, k, hl, hlocks, hunlocks, hsrc⟩ := lockAfter_spec err (steer err { s with crl.best := some (hops, port), crl.first := none })
  rw [hst] at hl hlocks hunlocks hsrc
  have hu : useMark hops port err s = _ := (congrArg (lockAfter err) hst).trans hl
  rw [hl] at hsrc
  rw [hu]
  exact ⟨⟨hsat, rfl, rfl, hfirst, hsecond, hlater, hlocks, hunlocks, htimer, hsrc⟩, ⟨_, _, _, _, rfl, rfl, rfl⟩⟩

theorem port_portOther (s : State) (p : Port) (f : PortSt → PortSt) : (s.setPort p f).port (portOther p) = s.port (portOther p) := by
  cases p <;> rfl

theorem isMember_setPort (s : State) (p : Port) (f : PortSt → PortSt) : (s.setPort p f).isMember = s.isMember := by
  cases p <;> rfl

theorem setPort_state {s : State} {p : Port} {q : PortSt} (h : q.state = (s.port p).state) :
    (s.setPort p fun _ => q).crl.up.state = s.crl.up.state ∧ (s.setPort p fun _ => q).crl.dn.state = s.crl.dn.state := by
  cases p
  · exact ⟨h, rfl⟩
  · exact ⟨rfl, h⟩

/-- A state once a marker's block was heard (07 R207): its ports hold the block and the marker that goes on, and a marker has come. -/
def HeardMark (s u : State) : Prop := ∃ a b : PortSt, u = { s with crl := { s.crl with up := a, dn := b, noMark := 0 } } ∧
  a.state = s.crl.up.state ∧ b.state = s.crl.dn.state

theorem HeardMark.twoMarks {s u : State} (h : HeardMark s u) : u.twoMarks = s.twoMarks := by
  obtain ⟨a, b, rfl, ha, hb⟩ := h
  simp only [State.twoMarks, ha, hb]

/-- A port that hears a block sent to it keeps its state and its hop latency. -/
theorem hearBlock_sent (q : PortSt) {b : LinkBlock} (h : b.bits < 2 ^ 64) : ∃ q' : PortSt, hearBlock (endSlot q) (lineBlock (endSlot q) b) = (q', b) ∧
    q'.state = q.state ∧ q'.hopLat = q.hopLat := by
  obtain ⟨_, _, _, _, _, hslot⟩ := endSlot_eq q
  obtain ⟨_, _, _, _, _, hq⟩ := hearBlock_eq (endSlot q) (lineBlock (endSlot q) b)
  have hblock := hearBlock_lineBlock (endSlot q) h
  generalize hearBlock (endSlot q) (lineBlock (endSlot q) b) = r at *
  refine ⟨r.1, Prod.ext rfl hblock, ?_, ?_⟩ <;> rw [hq, hslot]

/-- The marker that goes on at the other port in service. -/
def passMark (p : Port) (m : Nat × Nat × Nat) (s : State) : State :=
  if (s.port p).state = 2 then s.setPort p (fun x => { x with mark := some m }) else s

theorem passMark_eq (p : Port) (m : Nat × Nat × Nat) (s : State) : ∃ a b : PortSt, passMark p m s = { s with crl := { s.crl with up := a, dn := b } } ∧
    a.state = s.crl.up.state ∧ b.state = s.crl.dn.state := by
  unfold passMark
  split
  · cases p
    · exact ⟨{ s.crl.up with mark := some m }, s.crl.dn, rfl, rfl, rfl⟩
    · exact ⟨s.crl.up, { s.crl.dn with mark := some m }, rfl, rfl, rfl⟩
  · exact ⟨s.crl.up, s.crl.dn, rfl, rfl, rfl⟩

theorem passMark_mark {p : Port} {s : State} (h : (s.port p).state = 2) (m : Nat × Nat × Nat) : ((passMark p m s).port p).mark = some m := by
  rw [passMark, if_pos h]
  cases p <;> rfl

/-- A port in service that hears a marker takes it on a member, and passes it on with the member's own delay (07 R208). -/
theorem execMark_member {s : State} (hring : s.onRing = true) (hmember : s.isMember = true) {p : Port} (hup : (s.port p).state = 2)
    {b : LinkBlock} {q : PortSt} {v : Nat} (hb : hearBlock (endSlot (s.port p)) b = (q, controlOf .mark v)) (hv : v < 2 ^ 56) (res : Nat) (err : Int) :
    execMark p b res err s = answer s (takeMark p (fld v 40 6) err { passMark (portOther p)
      (fld v 0 16, (fld v 16 24 + q.hopLat + res) % 2 ^ 24, (fld v 40 6 + 1) % 64) (s.setPort p fun _ => q) with crl.noMark := 0 }) := by
  have hport : (s.setPort p fun _ => q).port p = q := by cases p <;> rfl
  rw [execMark, if_neg (by simp [hring, hup]), hb]
  dsimp only
  rw [readBlock_controlOf _ hv]
  dsimp only
  rw [if_neg (by simp [isMember_setPort, hmember]), hport]
  rfl

/-- A member that hears a marker in service takes it, and passes it on at its other port with its own delay (07 R208). -/
theorem exec_mark {s : State} (hmember : s.isMember = true) (hlink : s.clk.link = true) {p : Port} (hup : (s.port p).state = 2)
    {n delay hops : Nat} (hn : n < 2 ^ 16) (hd : delay < 2 ^ 24) (hh : hops < 64) (res : Nat) (err : Int) : ∃ u,
    exec (.mark p (lineBlock (endSlot (s.port p)) (controlOf .mark (markPayload (n, delay, hops)))) res err) s
      = answer s (takeMark p hops err u) ∧ HeardMark s u ∧
    ((s.port (portOther p)).state = 2 →
      (u.port (portOther p)).mark = some (n, (delay + (s.port p).hopLat + res) % 2 ^ 24, (hops + 1) % 64)) := by
  obtain ⟨hv, hfn, hfd, hfh⟩ := markPayload_fields hn hd hh
  have hring : s.onRing = true := by simp [State.onRing, hlink, hmember]
  generalize markPayload (n, delay, hops) = v at *
  obtain ⟨q, hb, hstate, hlat⟩ := hearBlock_sent (s.port p) (controlOf_bits_lt .mark v)
  generalize lineBlock (endSlot (s.port p)) (controlOf .mark v) = b at *
  have hexec := execMark_member hring hmember hup hb hv res err
  rw [hfn, hfd, hfh, hlat] at hexec
  obtain ⟨x, y, hpass, hx, hy⟩ := passMark_eq (portOther p) (n, (delay + (s.port p).hopLat + res) % 2 ^ 24, (hops + 1) % 64) (s.setPort p fun _ => q)
  have hmark := passMark_mark (p := portOther p) (s := s.setPort p fun _ => q) (m := (n, (delay + (s.port p).hopLat + res) % 2 ^ 24, (hops + 1) % 64))
  rw [port_portOther] at hmark
  refine ⟨_, hexec, ?_, ?_⟩
  · rw [hpass]
    refine ⟨x, y, ?_, hx.trans (setPort_state hstate).1, hy.trans (setPort_state hstate).2⟩
    cases p <;> rfl
  · intro ho
    refine Eq.trans ?_ (hmark ho)
    cases p <;> rfl

theorem MarkUsed.of_heard {x : Int} {h : Nat} {q : Port} {s u t : State} (hu : HeardMark s u) (hm : MarkUsed x h q u t) : MarkUsed x h q s t := by
  obtain ⟨a, b, rfl, -, -⟩ := hu
  exact ⟨hm.err, hm.best, hm.marks, hm.first, hm.second, hm.later, hm.locks, hm.unlocks, hm.timer, hm.source⟩

theorem HeardMark.fields {s u : State} (h : HeardMark s u) : u.crl.best = s.crl.best ∧ u.crl.first = s.crl.first ∧ u.chn = s.chn := by
  obtain ⟨a, b, rfl, -, -⟩ := h
  exact ⟨rfl, rfl, rfl⟩

theorem takeMark_none {p : Port} {hops : Nat} {err : Int} {s u : State} (hu : HeardMark s u) (hbest : s.crl.best = none) (hfirst : s.crl.first = none)
    (htwo : s.chn.timer = false ∨ s.twoMarks = false) : takeMark p hops err u = useMark hops p err u := by
  obtain ⟨hb, hf, hc⟩ := hu.fields
  have hchn : (s.chn.timer && s.twoMarks) = false := Bool.and_eq_false_iff.2 htwo
  simp only [takeMark, hb, hf, hc, hbest, hfirst, hu.twoMarks, hchn, Option.isSome_none, Bool.false_eq_true, if_false]

theorem takeMark_first {p : Port} {hops : Nat} {err : Int} {s u : State} (hu : HeardMark s u) (hbest : s.crl.best = none) (hfirst : s.crl.first = none)
    (htimer : s.chn.timer = true) (htwo : s.twoMarks = true) : takeMark p hops err u = { u with crl.first := some (hops, p, err) } := by
  obtain ⟨hb, hf, hc⟩ := hu.fields
  simp only [takeMark, hb, hf, hc, hbest, hfirst, hu.twoMarks, htimer, htwo, Option.isSome_none, Bool.false_eq_true, if_false, Bool.and_self, if_true]

theorem takeMark_second {p : Port} {hops h1 : Nat} {err e1 : Int} {s u : State} {o : Port} (hu : HeardMark s u) (hbest : s.crl.best = none)
    (hfirst : s.crl.first = some (h1, o, e1)) :
    takeMark p hops err u = if betterMark p hops (some (h1, o)) then useMark hops p err u else useMark h1 o e1 u := by
  obtain ⟨hb, hf, -⟩ := hu.fields
  simp only [takeMark, hb, hf, hbest, hfirst, Option.isSome_none, Bool.false_eq_true, if_false]

theorem takeMark_best {p : Port} {hops : Nat} {err : Int} {s u : State} (hu : HeardMark s u) (hbest : s.crl.best ≠ none) :
    takeMark p hops err u = u := by
  obtain ⟨a, b, rfl, -, -⟩ := hu
  exact if_pos (Option.isSome_iff_ne_none.2 hbest)

theorem betterMark_other (p : Port) (hops h1 : Nat) :
    (betterMark p hops (some (h1, portOther p)) = true ↔ hops < h1 ∨ (hops = h1 ∧ p = .up)) := by
  cases p <;> simp [betterMark, portOther]

end Sys2Proof.Machine

open Sys2Proof Sys2Proof.Machine

/-- Settles O51: a marker's block is heard as it was sent, so `takeMark` gets its fields; each of its cases ends in `useMark` or waits. -/
theorem markersLockTheTimer : Obligations.MarkersLockTheTimer := by
  unfold Obligations.MarkersLockTheTimer
  intro p n delay hops res h1 err e1 e s hmember hlink hm hn hd hh hlo hhi hlo1 hhi1 block o goesOn used unmoved
  have ho : o = portOther p := by cases p <;> rfl
  clear_value o
  subst ho
  have husedOf : ∀ {x h q t}, MarkUsed x h q s t → used x h q { t with pending := s.pending, mem := t.mem.canon } := fun h =>
    ⟨h.err, h.best, h.marks, h.first, h.second, h.later, h.locks, h.unlocks, h.timer, h.source⟩
  refine ⟨fun hup hbest => ?_, fun hbest => ?_, fun hinbox he => ?_⟩
  · obtain ⟨u, hexec, hu, hpass⟩ := exec_mark hmember hlink hup hn hd hh res err
    have hgoes : ∀ t, Steered u t → goesOn { t with pending := s.pending, mem := t.mem.canon } := by
      rintro t ⟨c, b, i, k, rfl, hcu, hcd⟩ ho
      rw [← hpass ho]
      cases p
      · exact congrArg PortSt.mark hcd
      · exact congrArg PortSt.mark hcu
    have huse := useMark_spec hops p hlo hhi u
    have huse1 := useMark_spec h1 (portOther p) hlo1 hhi1 u
    refine ⟨fun hfirst htwo => ?_, fun hfirst htimer htwo => ?_, fun hfirst => ?_⟩
    · rw [takeMark_none hu hbest hfirst htwo] at hexec
      exact completes_answer hexec ⟨husedOf (huse.1.of_heard hu), hgoes _ huse.2⟩
    · rw [takeMark_first hu hbest hfirst htimer htwo] at hexec
      refine completes_answer hexec ⟨rfl, ?_, hgoes _ ⟨_, _, _, _, rfl, rfl, rfl⟩⟩
      obtain ⟨a, b, rfl, -, -⟩ := hu
      exact ⟨rfl, rfl, rfl, rfl, rfl⟩
    · rw [takeMark_second hu hbest hfirst] at hexec
      by_cases hbetter : betterMark p hops (some (h1, portOther p)) = true
      · rw [if_pos hbetter] at hexec
        refine completes_answer hexec ⟨hgoes _ huse.2, fun _ => husedOf (huse.1.of_heard hu), fun hworse => ?_⟩
        rcases (betterMark_other p hops h1).1 hbetter with h | ⟨h, rfl⟩
        · omega
        · rcases hworse with h' | ⟨-, h'⟩
          · omega
          · cases h'
      · rw [if_neg hbetter] at hexec
        exact completes_answer hexec ⟨hgoes _ huse1.2, fun h => absurd ((betterMark_other p hops h1).2 h) hbetter, fun _ => husedOf (huse1.1.of_heard hu)⟩
  · by_cases hup : (s.port p).state = 2
    · obtain ⟨u, hexec, hu, -⟩ := exec_mark hmember hlink hup hn hd hh res err
      rw [takeMark_best hu hbest] at hexec
      obtain ⟨a, b, rfl, -, -⟩ := hu
      exact completes_answer hexec ⟨rfl, rfl, rfl, rfl, rfl⟩
    · have hexec : exec (.mark p block res err) s = answer s s := by
        clear_value block
        change execMark p block res err s = _
        rw [execMark, if_pos (by simp [hup])]
      exact completes_answer hexec ⟨rfl, rfl, rfl, rfl, rfl⟩
  · have hcons : consume (· == .epoch e) s = s := by simp [consume, hinbox]
    have hexec : exec (.epochMessage e) s = answer s (if s.epoch = e then s else
        { s with epoch := e, chn.cur.epoch := e, chn.cur.kind := FrameKind.none, chn.prev := {} }) := by
      change execEpochMessage e s = _
      rw [execEpochMessage, if_neg (by simp [hmember, hlink]), Nat.mod_eq_of_lt he, hcons]
    constructor
    · intro h
      rw [hexec, if_pos h.symm]
      exact answer_of_wf s s hm rfl
    · intro h
      rw [if_neg (Ne.symm h)] at hexec
      exact completes_answer hexec ⟨rfl, rfl, rfl, rfl⟩

end

section
/-! The end of a frame (06 R176 to R178, 10 R305, 07 R227): what a report does beside its own fields, and Crook's merge (07 R212 to R222). -/

namespace Sys2Proof.Machine

/-! ### What happens beside a frame's own work -/

/-- A state after messages, events, wake requests and interrupts were sent out: the sources above 20 but 47 stand as they were. -/
def Aside (s t : State) : Prop := ∃ c q i k m due taps lifted v x, t = { s with
    crl := c, arr.queue := q, icu := i, clk.mergeIcu := k, clk.mergeWake := m, pwr.wakeDue := due, pwr.taps := taps, pwr.lifted := lifted
    evt := v, mbx := x } ∧ s.crl.queued c ∧ t.icu.src.length = s.icu.src.length ∧ ∀ n, 20 < n → n ≠ 47 → t.srcAt n = s.srcAt n

theorem Aside.refl (s : State) : Aside s s := ⟨_, _, _, _, _, _, _, _, _, _, rfl, s.crl.queued_refl, rfl, fun _ _ _ => rfl⟩

theorem Aside.trans {s t u : State} (h : Aside s t) (h' : Aside t u) : Aside s u := by
  obtain ⟨_, _, _, _, _, _, _, _, _, _, rfl, hq, hl, hs⟩ := h
  obtain ⟨_, _, _, _, _, _, _, _, _, _, rfl, hq', hl', hs'⟩ := h'
  exact ⟨_, _, _, _, _, _, _, _, _, _, rfl, Crila.queued_trans hq hq', hl'.trans hl, fun n hn h47 => (hs' n hn h47).trans (hs n hn h47)⟩

theorem sendFrame_queued (f : CFrame) (s : State) : ∃ c, sendFrame f s = { s with crl := c } ∧ s.crl.queued c := by
  obtain ⟨c, -, -, h, hq, -⟩ := sendFrame_waits f s
  exact ⟨c, h, hq⟩

theorem foldl_queued {α : Type} {f : State → α → State} (hf : ∀ t a, ∃ c, f t a = { t with crl := c } ∧ t.crl.queued c) (l : List α) (s : State) :
    ∃ c, l.foldl f s = { s with crl := c } ∧ s.crl.queued c :=
  foldl_chains (r := fun t u => ∃ c, u = { t with crl := c } ∧ t.crl.queued c) (fun t => ⟨t.crl, rfl, t.crl.queued_refl⟩)
    (by
      rintro t _ _ ⟨c, rfl, hc⟩ ⟨d, rfl, hd⟩
      exact ⟨d, rfl, Crila.queued_trans hc hd⟩) hf l s

/-- A message joins the queues of the ports, or waits for a quiet member. -/
theorem sendMsgParts_queued (cls dst : Nat) (bcast : Bool) (msgs : List Msg) (s : State) :
    ∃ c q, sendMsgParts cls dst bcast msgs s = { s with crl := c, arr.queue := q } ∧ s.crl.queued c := by
  have hnum : s.crl.queued { s.crl with msgNum := (s.crl.msgNum + 1) % 65536 } := ⟨⟨_, _, _, _, rfl⟩, fun _ _ h => h⟩
  unfold sendMsgParts
  split
  · exact ⟨s.crl, s.arr.queue, rfl, s.crl.queued_refl⟩
  · dsimp only
    split
    · exact ⟨_, _, rfl, hnum⟩
    · refine (foldl_queued (fun t im => ?_) _ { s with crl.msgNum := (s.crl.msgNum + 1) % 65536 }).elim
        fun c h => ⟨c, s.arr.queue, h.1, Crila.queued_trans hnum h.2⟩
      split
      · obtain ⟨c, h, hc⟩ := sendFrame_queued _ t
        rw [h]
        obtain ⟨d, h', hd⟩ := sendFrame_queued _ { t with crl := c }
        exact ⟨d, h', Crila.queued_trans hc hd⟩
      · exact sendFrame_queued _ t

theorem sendMsgParts_aside (cls dst : Nat) (bcast : Bool) (msgs : List Msg) (s : State) : Aside s (sendMsgParts cls dst bcast msgs s) := by
  obtain ⟨c, q, h, hq⟩ := sendMsgParts_queued cls dst bcast msgs s
  rw [h]
  exact ⟨_, _, _, _, _, _, _, _, _, _, rfl, hq, rfl, fun _ _ _ => rfl⟩

theorem postEventAt_aside (epoch code d0 d1 : Nat) (s : State) : Aside s (postEventAt epoch code d0 d1 s) := by
  unfold postEventAt
  split
  · exact sendMsgParts_aside ..
  · rcases bufferEvent_eq { code := code, tile := s.tile, epoch := epoch, d0 := d0 % 2 ^ 32, d1 := d1 % 2 ^ 31 } s with h | h <;> rw [h] <;>
      exact ⟨_, _, _, _, _, _, _, _, _, _, rfl, s.crl.queued_refl, rfl, fun _ _ _ => rfl⟩

theorem wakeSource_aside (code : Nat) (s : State) : Aside s (wakeSource code s) := by
  obtain ⟨due, m, h⟩ := wakeSource_eq code s
  rw [h]
  exact ⟨_, _, _, _, _, _, _, _, _, _, rfl, s.crl.queued_refl, rfl, fun _ _ _ => rfl⟩

/-- An interrupt leaves every source but its own and source 47. -/
theorem raise_srcAt_ne {n m : Nat} (hne : m ≠ n) (h47 : m ≠ 47) (s : State) : (raise n s).srcAt m = s.srcAt m := by
  have harrive : (arrive n s).srcAt m = s.srcAt m := by
    unfold arrive
    dsimp only
    split
    · unfold countUndeliverable
      dsimp only
      split
      · rw [arriveUndeliv, State.srcAt_setSrc_ne _ h47]
        exact State.srcAt_setSrc_ne s hne _
      · exact State.srcAt_setSrc_ne s hne _
    · exact State.srcAt_setSrc_ne s hne _
  unfold raise
  split
  · exact harrive
  · split
    · rfl
    · dsimp only
      split <;> split <;> rfl

theorem raise_length (n : Nat) (s : State) : (raise n s).icu.src.length = s.icu.src.length := by
  have hset : ∀ (u : State) (m : Nat) (f : Src → Src), (u.setSrc m f).icu.src.length = u.icu.src.length := fun u m f => by
    simp [State.setSrc]
  have harrive : (arrive n s).icu.src.length = s.icu.src.length := by
    unfold arrive countUndeliverable arriveUndeliv
    dsimp only
    split
    · split
      · exact (hset _ _ _).trans (hset _ _ _)
      · exact hset _ _ _
    · exact hset _ _ _
  unfold raise
  split
  · exact harrive
  · split
    · rfl
    · dsimp only
      split <;> split <;> rfl

theorem raise_aside {n : Nat} (h : n ≤ 20) (s : State) : Aside s (raise n s) := by
  obtain ⟨_, _, _, _, _, hr⟩ := raise_eq n s
  refine ⟨s.crl, s.arr.queue, (raise n s).icu, (raise n s).clk.mergeIcu, s.clk.mergeWake, s.pwr.wakeDue, s.pwr.taps, s.pwr.lifted, s.evt, s.mbx, ?_,
    s.crl.queued_refl, raise_length n s, fun m hm h47 => raise_srcAt_ne (by omega) h47 s⟩
  rw [hr]

theorem appletPair_aside (w0 w1 : Word) (s : State) : Aside s (appletPair w0 w1 s) := by
  unfold appletPair
  split
  · exact Aside.refl s
  · dsimp only
    split
    · exact (postEventAt_aside ..).trans (wakeSource_aside ..)
    · exact postEventAt_aside ..

theorem pushPair_aside (c : CoreId) (w0 w1 : Word) (s : State) : Aside s (pushPair c w0 w1 s) := by
  have hmbx : ∀ x, Aside s { s with mbx := x } := fun x =>
    ⟨_, _, _, _, _, _, _, _, _, _, rfl, s.crl.queued_refl, rfl, fun _ _ _ => rfl⟩
  unfold pushPair
  cases c with
  | c0 =>
    dsimp only
    split
    · exact hmbx _
    · exact (hmbx _).trans (raise_aside (by decide) _)
  | c1 =>
    dsimp only
    split
    · exact hmbx _
    · exact ((hmbx _).trans (raise_aside (by decide) _)).trans (appletPair_aside ..)

theorem tapRecord_aside (s : State) (r : Rec) : Aside s (tapRecord s r) := by
  have htaps : ∀ a l, Aside s { s with pwr.taps := a, pwr.lifted := l } := fun a l =>
    ⟨_, _, _, _, _, _, _, _, _, _, rfl, s.crl.queued_refl, rfl, fun _ _ _ => rfl⟩
  unfold tapRecord
  dsimp only
  split
  · exact pushPair_aside ..
  · split
    · exact htaps _ _
    · split
      · split
        · exact (htaps _ _).trans (pushPair_aside ..)
        · exact htaps _ _
      · split
        · split
          · split
            · exact htaps _ _
            · exact htaps _ _
          · exact htaps _ _
        · exact Aside.refl s

theorem tapApplet_aside (rs : List Rec) (s : State) : Aside s (tapApplet rs s) := by
  unfold tapApplet
  split
  · exact foldl_chains Aside.refl (fun _ _ _ => Aside.trans) tapRecord_aside rs s
  · exact Aside.refl s

/-! ### A report that is complete -/

/-- The mirror's bytes with an image in the copy that is not published (06 R178). -/
def mirrorMem (r : Report) (m : Memory) : Memory :=
  let pub := m.le mirrorBase 4
  let a := if m.le (mirrorBase + 0x40) 4 == pub && bit (m.le (mirrorBase + 4) 4) 0 then mirrorBase + 0x880 else mirrorBase + 0x40
  ((m.write a (imageOf r r.recs)).putLe mirrorBase 4 r.epoch).putLe (mirrorBase + 4) 4 1

theorem publishMirror_aside (r : Report) (s : State) : Aside { s with mem := mirrorMem r s.mem } (publishMirror r s) :=
  (raise_aside (n := 20) (by decide) _).trans (tapApplet_aside r.recs _)

theorem deliverReport_aside (r : Report) (s : State) : ∃ d, Aside { s with rpt.due := d } (deliverReport r s) := by
  have hsame : ∀ u, Aside s u → ∃ d, Aside { s with rpt.due := d } u := fun u h => ⟨s.rpt.due, h⟩
  unfold deliverReport
  dsimp only
  split
  · split
    · exact hsame _ (sendMsgParts_aside ..)
    · exact hsame _ (Aside.refl s)
  · split
    · unfold reportDue
      split
      · exact ⟨_, Aside.refl _⟩
      · exact hsame _ (Aside.refl s)
    · split
      · exact hsame _ (Aside.refl s)
      · exact hsame _ (sendMsgParts_aside ..)

theorem returnIds_aside (r : Report) (s : State) : ∃ l, Aside { s with crl.lent := l } (returnIds r s) := by
  unfold returnIds
  split
  · exact ⟨s.crl.lent, Aside.refl s⟩
  · exact ⟨_, foldl_chains Aside.refl (fun _ _ _ => Aside.trans) (fun t x => sendMsgParts_aside ..) _ _⟩

/-- The records of a report that ends now: by rising index, the extra ones first (06 R175). -/
def endRecs (extras : List Rec) (s : State) : List Rec :=
  let mine := (s.tracks.filter (fun t => !t.2.silent)).map (fun t => ownerRec s.tile t.2 (trackRec t.1 t.2))
  let noPalm := s.ctxField (s.params s.chn.prev.epoch).ctx 0x32E 1 == 0
  ((List.range 64).flatMap (fun i => extras.filter (·.trk == i) ++ mine.filter (·.trk == i))).map
    (fun x => if x.cls = 2 ∧ noPalm then { x with suppressed := true } else x)

/-- The report of the frame in processing, complete. -/
def endReport (extras : List Rec) (s : State) : Report :=
  { s.trk.report with recs := endRecs extras s, ntrack := s.tracks.length, nnew := (s.tracks.filter (fun t => t.2.isNew)).length
                      nret := (s.tracks.filter (fun t => t.2.status != 1)).length + (extras.filter (·.status == 5)).length }

theorem Aside.fields {s t : State} (h : Aside s t) : t.chn = s.chn ∧ t.crook = s.crook ∧ t.trk = s.trk ∧ t.crl.late = s.crl.late ∧
    t.clk.core = s.clk.core := by
  obtain ⟨_, _, _, _, _, _, _, _, _, _, rfl, ⟨⟨_, _, _, _, rfl⟩, -⟩, -⟩ := h
  exact ⟨rfl, rfl, rfl, rfl, rfl⟩

theorem Aside.sources {s t : State} (h : Aside s t) : t.icu.src.length = s.icu.src.length ∧ ∀ n, 20 < n → n ≠ 47 → t.srcAt n = s.srcAt n := by
  obtain ⟨_, _, _, _, _, _, _, _, _, _, -, -, hlen, hs⟩ := h
  exact ⟨hlen, hs⟩

theorem raise_frame (n : Nat) (s : State) : (raise n s).chn = s.chn ∧ (raise n s).crook = s.crook ∧ (raise n s).trk = s.trk ∧
    (raise n s).crl.late = s.crl.late := by
  obtain ⟨_, _, _, _, _, h⟩ := raise_eq n s
  rw [h]
  exact ⟨rfl, rfl, rfl, rfl⟩

theorem Aside.withDue {s t : State} (h : Aside s t) (d : List RptImg) : Aside { s with rpt.due := d } { t with rpt.due := d } := by
  obtain ⟨_, _, _, _, _, _, _, _, _, _, rfl, hq, hs⟩ := h
  exact ⟨_, _, _, _, _, _, _, _, _, _, rfl, hq, hs⟩

theorem Aside.withTrk {s t : State} (h : Aside s t) (x : Tracker) : Aside { s with trk := x } { t with trk := x } := by
  obtain ⟨_, _, _, _, _, _, _, _, _, _, rfl, hq, hs⟩ := h
  exact ⟨_, _, _, _, _, _, _, _, _, _, rfl, hq, hs⟩

theorem Aside.withMem {s t : State} (h : Aside s t) (m : Memory) : Aside { s with mem := m } { t with mem := m } := by
  obtain ⟨_, _, _, _, _, _, _, _, _, _, rfl, hq, hs⟩ := h
  exact ⟨_, _, _, _, _, _, _, _, _, _, rfl, hq, hs⟩

theorem Aside.withLent {s t : State} (h : Aside s t) (l : List (Nat × Nat)) : Aside { s with crl.lent := l } { t with crl.lent := l } := by
  obtain ⟨_, _, _, _, _, _, _, _, _, _, rfl, ⟨⟨_, _, _, _, rfl⟩, hk⟩, hs⟩ := h
  exact ⟨_, _, _, _, _, _, _, _, _, _, rfl, ⟨⟨_, _, _, _, rfl⟩, hk⟩, hs⟩

theorem Aside.withGpio {s t : State} (h : Aside s t) (g : List Bool) : Aside { s with pwr.gpioOut := g } { t with pwr.gpioOut := g } := by
  obtain ⟨_, _, _, _, _, _, _, _, _, _, rfl, hq, hs⟩ := h
  exact ⟨_, _, _, _, _, _, _, _, _, _, rfl, hq, hs⟩

theorem Aside.noteReported {s t : State} (h : Aside s t) (r : Report) : Aside (noteReported r s) (noteReported r t) := by
  have htrk : (Machine.noteReported r t).trk = (Machine.noteReported r s).trk := by
    obtain ⟨_, _, _, _, _, _, _, _, _, _, rfl, ⟨⟨_, _, _, _, rfl⟩, -⟩, -⟩ := h
    rfl
  have hnote : ∀ u : State, Machine.noteReported r u = { u with trk := (Machine.noteReported r u).trk } := fun _ => rfl
  rw [hnote s, hnote t, htrk]
  exact h.withTrk _

/-- The way of a report from the mirror on. -/
theorem reportEnds_spec (r : Report) (s : State) : ∃ g d l, Aside { s with
      trk := (noteReported r s).trk, mem := mirrorMem r s.mem, rpt.due := d, crl.lent := l, pwr.gpioOut := g }
    (showContact (returnIds r (noteReported r (deliverReport r (publishMirror r s))))) := by
  obtain ⟨d, hdeliver⟩ := deliverReport_aside r (publishMirror r s)
  obtain ⟨l, hreturn⟩ := returnIds_aside r (noteReported r (deliverReport r (publishMirror r s)))
  have hnote := (((publishMirror_aside r s).withDue d).trans hdeliver).noteReported r
  exact ⟨_, d, l, ((hnote.withLent l).trans hreturn).withGpio _⟩

/-- The report stands in the tracker's registers. -/
def reportStands (extras : List Rec) (s : State) : State :=
  let r := endReport extras s
  { s with trk.report := r, trk.prevRecs := endRecs extras s, chn.prev.merged := true, chn.prev.tracked := true
           trk.opens := cnt 16 s.trk.opens r.nnew, trk.retires := cnt 16 s.trk.retires r.nret, trk.last := r.trkUs % 1024
           trk.max := Nat.max s.trk.max (r.trkUs % 1024) }

/-- A contact that opens in IDLE-SCAN wakes the tile (16 R440). -/
def reportWakes (recs : List Rec) (s : State) : Bool :=
  s.pwr.state == .idleScan && s.pwr.wakeMode == 0 && recs.any (fun x => x.status == 0 && decide (x.cls < 4))

theorem finishReport_ends (extras : List Rec) (s : State) : finishReport extras s = showContact (returnIds (endReport extras s)
    (noteReported (endReport extras s) (deliverReport (endReport extras s) (publishMirror (endReport extras s)
      (if reportWakes (endRecs extras s) (reportStands extras s) then wakeSource 0x11 (reportStands extras s) else reportStands extras s))))) := rfl

theorem finishReport_eq (extras : List Rec) (s : State) : ∃ t, Aside (reportStands extras s) t ∧ finishReport extras s = showContact
    (returnIds (endReport extras s) (noteReported (endReport extras s) (deliverReport (endReport extras s) (publishMirror (endReport extras s) t)))) := by
  refine ⟨if reportWakes (endRecs extras s) (reportStands extras s) then wakeSource 0x11 (reportStands extras s) else reportStands extras s, ?_,
    finishReport_ends extras s⟩
  split
  · exact wakeSource_aside 0x11 _
  · exact Aside.refl _

theorem Aside.trk_eq {s t : State} (h : Aside s t) : t.trk = s.trk ∧ t.mem = s.mem := by
  obtain ⟨_, _, _, _, _, _, _, _, _, _, rfl, -, -⟩ := h
  exact ⟨rfl, rfl⟩

/-- What a complete report leaves: itself with its image in the mirror, every track's part in it noted, and what goes on beside it. -/
theorem finishReport_spec (extras : List Rec) (s : State) : ∃ g d l, Aside { reportStands extras s with
      trk.tab := (noteReported (endReport extras s) s).trk.tab, mem := mirrorMem (endReport extras s) s.mem
      rpt.due := d, crl.lent := l, pwr.gpioOut := g } (finishReport extras s) := by
  obtain ⟨t, ht, h⟩ := finishReport_eq extras s
  obtain ⟨g, d, l, hend⟩ := reportEnds_spec (endReport extras s) t
  obtain ⟨-, hmem⟩ := ht.trk_eq
  have hnote := (ht.noteReported (endReport extras s)).trk_eq.1
  have hstands : (noteReported (endReport extras s) (reportStands extras s)).trk =
    { (reportStands extras s).trk with tab := (noteReported (endReport extras s) s).trk.tab } := rfl
  have hram : (reportStands extras s).mem = s.mem := rfl
  rw [hmem, hram, hnote, hstands] at hend
  rw [h]
  generalize reportStands extras s = v at *
  generalize (noteReported (endReport extras s) s).trk.tab = tab at *
  exact ⟨g, d, l, (((((ht.withTrk _).withMem _).withDue d).withLent l).withGpio g).trans hend⟩

/-! ### The merge of a frame without fragments (07 R212, R222) -/

/-- The numbers of a list, filed by the indices below `n`. -/
theorem length_flatMap_filter {α : Type} (f : α → Nat) (l : List α) (n : Nat) :
    ((List.range n).flatMap (fun i => l.filter (f · == i))).length = (l.filter (f · < n)).length := by
  induction n with
  | zero => simp
  | succ n ih =>
    have hsplit : ∀ l : List α, (l.filter (f · < n + 1)).length = (l.filter (f · < n)).length + (l.filter (f · == n)).length := by
      intro l
      induction l with
      | nil => rfl
      | cons x xs ihx =>
        rcases Nat.lt_trichotomy (f x) n with h | h | h
        · rw [List.filter_cons_of_pos (by simp; omega), List.filter_cons_of_pos (by simpa), List.filter_cons_of_neg (by simp; omega)]
          simp only [List.length_cons, ihx]
          omega
        · rw [List.filter_cons_of_pos (by simp; omega), List.filter_cons_of_neg (by simp; omega), List.filter_cons_of_pos (by simpa)]
          simp only [List.length_cons, ihx]
          omega
        · rw [List.filter_cons_of_neg (by simp; omega), List.filter_cons_of_neg (by simp; omega), List.filter_cons_of_neg (by simp; omega), ihx]
    rw [List.range_succ, List.flatMap_append, List.length_append, ih, hsplit]
    simp

theorem tracks_none {s : State} (h : s.trk.tab = List.replicate 64 none) : s.tracks = [] := by
  rw [State.tracks, h]
  rfl

theorem comps_none {s : State} (hfrags : s.trk.frags = []) (hsets : s.crook.sets = []) (touch : Int) : s.comps touch = [] := by
  have hown : s.ownFrags = [] := by rw [State.ownFrags, hfrags]; rfl
  have hgot : s.gotSets = [] := by rw [State.gotSets, hsets]; rfl
  have hall : s.allFrags = [] := by rw [State.allFrags, hown, hgot]; rfl
  rw [State.comps, hall]
  rfl

/-- The state whose report a merge without components completes. -/
def mergedAlone (late : Bool) (s : State) : State :=
  remask (s.params s.chn.prev.epoch) { noteComps [] s with
    trk.report.stitchLate := late, trk.report.recs := [], crook.waiting := [], trk.saved := none, crl.lost := []
    crl.late := if late then cnt 8 s.crl.late 1 else s.crl.late }

theorem crookMerge_alone {s : State} (htab : s.trk.tab = List.replicate 64 none) (hfrags : s.trk.frags = []) (hsets : s.crook.sets = [])
    (late : Bool) : crookMerge late s = raise 26 (finishReport s.trk.report.recs (mergedAlone late s)) := by
  have hretire : retireSilent s = s := by rw [retireSilent, tracks_none htab]; rfl
  unfold crookMerge
  dsimp only
  rw [comps_none hfrags hsets, hretire]
  rfl

/-- The records of a report without tracks: those it had, but none of an index above 63. -/
theorem length_endRecs {s : State} (htab : s.tracks = []) (extras : List Rec) :
    (endRecs extras s).length = (extras.filter (fun r => r.trk < 64)).length := by
  have hmine : (s.tracks.filter (fun t => !t.2.silent)).map (fun t => ownerRec s.tile t.2 (trackRec t.1 t.2)) = [] := by rw [htab]; rfl
  simp only [endRecs, hmine, List.length_map, List.filter_nil, List.append_nil]
  exact length_flatMap_filter Rec.trk extras 64

/-- A frame without tracks and fragments, as Crook leaves it (07 R212, R222). -/
structure MergedOnce (late : Bool) (s t : State) : Prop where
  merged : t.chn.prev.merged = true
  waiting : t.crook.waiting = []
  lateCount : t.crl.late = if late then min (s.crl.late + 1) 255 else s.crl.late
  stitchLate : t.trk.report.stitchLate = late
  recs : t.trk.report.recs.length = (s.trk.report.recs.filter (fun r => r.trk < 64)).length
  source : s.clk.core = true → s.icu.src.length = 48 → t.srcAt 26 = ((s.srcAt 26).arrival).1

theorem crookMerge_spec {s : State} (htab : s.trk.tab = List.replicate 64 none) (hfrags : s.trk.frags = []) (hsets : s.crook.sets = [])
    (late : Bool) : MergedOnce late s (crookMerge late s) ∧ (crookMerge late s).crook.deadline = s.crook.deadline := by
  rw [crookMerge_alone htab hfrags hsets]
  obtain ⟨g, d, l, h⟩ := finishReport_spec s.trk.report.recs (mergedAlone late s)
  generalize finishReport s.trk.report.recs (mergedAlone late s) = u at h
  obtain ⟨hchn, hcrook, htrk, hlate, hclk⟩ := h.fields
  obtain ⟨hclen, hsrc⟩ := h.sources
  obtain ⟨hrchn, hrcrook, hrtrk, hrlate⟩ := raise_frame 26 u
  refine ⟨⟨?_, ?_, ?_, ?_, ?_, fun hcore hlen => ?_⟩, by rw [hrcrook, hcrook]; rfl⟩
  · rw [hrchn, hchn]
    rfl
  · rw [hrcrook, hcrook]
    rfl
  · rw [hrlate, hlate]
    rfl
  · rw [hrtrk, htrk]
    rfl
  · rw [hrtrk, htrk]
    exact length_endRecs (tracks_none (show (s.trk.tab.map _) = _ by rw [htab]; rfl)) _
  · rw [raise_srcAt (hclk.trans hcore) (by rw [hclen]; exact hlen.symm ▸ (by decide)) (by decide), hsrc 26 (by decide) (by decide)]
    rfl

theorem execCrookMerge_cases {s : State} (hdue : s.crookDue = true) : exec .crookMerge s = answer s
    (if s.crook.waiting.isEmpty then crookMerge false s else if s.crook.deadline then crookMerge true s else s) := by
  change execCrookMerge s = _
  rw [execCrookMerge, if_neg (by simp [hdue])]

theorem execStitchDeadline_due {s : State} (hclk : s.clk.core = true) (htimer : s.chn.timer = true) (hdue : s.crookDue = true) :
    exec .stitchDeadline s = answer s (crookMerge (!s.crook.waiting.isEmpty) { s with crook.deadline := true }) := by
  have hdue' : ({ s with crook.deadline := true } : State).crookDue = true := hdue
  change execStitchDeadline s = _
  rw [execStitchDeadline, if_neg (by simp [hclk, htimer])]
  dsimp only
  rw [if_pos hdue']

theorem execStitchDeadline_else {s : State} (hclk : s.clk.core = true) (htimer : s.chn.timer = true) (hdue : s.crookDue = false) :
    exec .stitchDeadline s = answer s { s with crook.deadline := true } := by
  have hdue' : ({ s with crook.deadline := true } : State).crookDue = false := hdue
  change execStitchDeadline s = _
  rw [execStitchDeadline, if_neg (by simp [hclk, htimer])]
  dsimp only
  rw [if_neg (by simp only [hdue']; decide)]

/-- The merge at the deadline (07 R222), seen from the state before it. -/
theorem MergedOnce.of_deadline {late d : Bool} {s u : State} (h : MergedOnce late { s with crook.deadline := d } u) : MergedOnce late s u :=
  ⟨h.merged, h.waiting, h.lateCount, h.stitchLate, h.recs, h.source⟩

/-! ### FRAGSETs (07 R214, R222) -/

theorem length_fragRecord (f : Frag) : (fragRecord f).length = 128 := by
  simp [fragRecord, length_padTo]

theorem length_fragRecords (l : List Frag) : (l.flatMap fragRecord).length = 128 * l.length := by
  induction l with
  | nil => rfl
  | cons f fs ih => rw [List.flatMap_cons, List.length_append, length_fragRecord, ih, List.length_cons]; omega

/-- The buffer's half names the parity of the frame, whichever the neighbour. -/
theorem fragBase_parity (f : FragSet) (s : State) : (fragBase f s - crookBuf) / 0x2000 % 2 = f.epoch % 2 := by
  have hhalf : ∀ j : Nat, (crookBuf + 0x2000 * (f.epoch % 2) + 0x400 * (j % 8) - crookBuf) / 0x2000 % 2 = f.epoch % 2 := by
    intro j
    omega
  exact hhalf _

/-- A detection in Crook's buffers counts, and makes the FRAGSET that lay there a missing one. -/
theorem parityHit_frag (index addr : Nat) (s : State) : let t := parityHit { store := 0x14, index := index, addr := addr } s
    t.icu.parCnt = cnt 16 s.icu.parCnt 1 ∧ t.crook = (fragFault addr s).crook := by
  have hnote : ∃ i, noteParity 0x14 addr s = { s with icu := i } ∧ i.parCnt = cnt 16 s.icu.parCnt 1 := by
    unfold noteParity
    dsimp only
    split <;> exact ⟨_, rfl, rfl⟩
  obtain ⟨i, hnote, hcnt⟩ := hnote
  obtain ⟨_, _, _, _, _, hraise⟩ := raise_eq 40 (noteParity 0x14 addr s)
  have hcap : (captureParity 0x14 addr s).icu.parCnt = cnt 16 s.icu.parCnt 1 ∧ (captureParity 0x14 addr s).crook = s.crook ∧
      (captureParity 0x14 addr s).crl = s.crl ∧ (captureParity 0x14 addr s).epoch = s.epoch := by
    rw [captureParity, if_neg (by decide), hraise, hnote]
    exact ⟨hcnt, rfl, rfl, rfl⟩
  obtain ⟨hcnt, hcrook, hcrl, hepoch⟩ := hcap
  refine ⟨(congrArg Icu.parCnt (parityFound_icu _ _)).trans hcnt, ?_⟩
  have hfault : ∀ u : State, u.crook = s.crook → u.crl = s.crl → u.epoch = s.epoch → (fragFault addr u).crook = (fragFault addr s).crook := by
    intro u h1 h2 h3
    unfold fragFault
    rw [h1, h2, h3]
    split
    · exact h1
    · rfl
  rw [parityHit, parityFound]
  dsimp only
  rw [noteBad_else (by decide), if_neg (by decide)]
  split
  · exact hfault _ hcrook hcrl hepoch
  · obtain ⟨_, _, _, _, hact⟩ := parityAct_eq { store := 0x14, index := index, addr := addr } (parityDrop { store := 0x14, index := index, addr := addr }
      (captureParity 0x14 addr s))
    rw [hact]
    exact hfault _ hcrook hcrl hepoch

theorem fragFault_crook (addr : Nat) (s : State) : (fragFault addr s).crook.deadline = s.crook.deadline ∧
    (fragFault addr s).crook.sets ⊆ s.crook.sets ∧ s.crook.waiting ⊆ (fragFault addr s).crook.waiting ∧
    (s.crook.sets.all (fun g => g.epoch % 2 != (addr - crookBuf) / 0x2000 % 2) = true → (fragFault addr s).crook = s.crook) := by
  unfold fragFault
  split
  · exact ⟨rfl, List.Subset.refl _, List.Subset.refl _, fun _ => rfl⟩
  next k hk =>
    dsimp only
    refine ⟨rfl, List.filter_subset_self _, ?_, fun hall => ?_⟩
    · split
      · exact List.subset_append_left _ _
      · exact List.Subset.refl _
    · have hmiss : ∀ g ∈ s.crook.sets, (g.epoch % 2 == (addr - crookBuf) / 0x2000 % 2) = false := fun g hg => by
        simpa using List.all_eq_true.1 hall g hg
      have hkeep : s.crook.sets.filter (fun g => !(g.src == k && g.epoch % 2 == (addr - crookBuf) / 0x2000 % 2)) = s.crook.sets :=
        List.filter_eq_self.2 fun g hg => by simp [hmiss g hg]
      have hnone : s.crook.sets.any (fun g => (g.src == k && g.epoch % 2 == (addr - crookBuf) / 0x2000 % 2) && add32 g.epoch 1 == s.epoch) = false :=
        List.any_eq_false.2 fun g hg => by simp [hmiss g hg]
      rw [hkeep, if_neg (by simp only [hnone]; decide)]

theorem exec_fragset {f : FragSet} {s : State} (hclk : s.clk.core = true) (hring : s.onRing = true) (hinbox : s.crl.inbox = []) (parity : Bool) :
    exec (.fragset f parity) s = answer s (takeFragset f parity s) := by
  have hconsume : consumeAll (· == .fragset f) s = s := by
    simp only [consumeAll, hinbox, List.filter_nil, List.foldl_nil]
    rw [← hinbox]
  change execFragset f parity s = _
  rw [execFragset, if_pos (by simp [hclk, hring]), hconsume]

/-- A FRAGSET of the frame in processing, from a neighbour. -/
theorem takeFragset_due {f : FragSet} {s : State} (hseam : (s.seams.any (·.1 == f.src)) = true) (hnext : add32 f.epoch 1 = s.epoch)
    (hf : f.epoch < 2 ^ 32) (parity : Bool) : takeFragset f parity s =
      if s.crook.deadline then { s with crl.lateArr := cnt 8 s.crl.lateArr 1 }
      else if parity then parityHit { store := 0x14, index := f.src, addr := fragBase f s } s
      else { s with mem := s.mem.write (fragBase f s) ((f.frags.take 8).flatMap fragRecord)
                    crook.sets := s.crook.sets.filter (fun x => !(x.src == f.src && x.epoch == f.epoch)) ++ [{ f with frags := f.frags.take 8 }]
                    crook.waiting := s.crook.waiting.filter (· != f.src) } := by
  have hn : f.epoch = add32 s.epoch 0xFFFFFFFF := by
    rw [← hnext]
    simp only [add32]
    omega
  unfold takeFragset
  dsimp only
  rw [if_neg (by simp [hseam]), ← hn, if_pos rfl]
  simp

end Sys2Proof.Machine

open Sys2Proof Sys2Proof.Machine

/-- Settles O53: a merge without tracks or fragments only completes its report (`crookMerge_spec`); a FRAGSET is filed, counted as late or
missing by `takeFragset`. -/
theorem crookMergesAFrameOnce : Obligations.CrookMergesAFrameOnce := by
  unfold Obligations.CrookMergesAFrameOnce
  intro f id s hclk hm hinbox stands
  have hstands : ∀ {late : Bool} {t : State}, MergedOnce late s t → stands { t with pending := s.pending, mem := t.mem.canon } late := fun h =>
    ⟨h.merged, h.waiting, h.lateCount, h.stitchLate, h.source hclk⟩
  refine ⟨fun hdue htab hfrags hsets _ _ => ?_, fun hdue => ?_, fun hring hseam => ?_, fun hring => ?_⟩
  · have hspec := fun late => (crookMerge_spec htab hfrags hsets late).1
    have hexec := execCrookMerge_cases hdue
    refine ⟨fun hwait => ?_, fun hwait hdead => ?_, fun hwait hdead => ?_, fun htimer => ?_⟩
    · rw [if_pos (by simp [hwait])] at hexec
      have h := hspec false
      generalize crookMerge false s = u at hexec h
      exact completes_answer hexec ⟨hstands h, h.recs⟩
    · rw [if_neg (by simpa using hwait), if_pos hdead] at hexec
      exact completes_answer hexec (hstands (hspec true))
    · rw [hexec, if_neg (by simpa using hwait), if_neg (by simp [hdead])]
      exact answer_of_wf s s hm rfl
    · obtain ⟨h, hdead⟩ := crookMerge_spec (s := { s with crook.deadline := true }) htab hfrags hsets (!s.crook.waiting.isEmpty)
      have hexec := execStitchDeadline_due hclk htimer hdue
      generalize crookMerge (!s.crook.waiting.isEmpty) { s with crook.deadline := true } = u at hexec h hdead
      exact completes_answer hexec ⟨hstands h.of_deadline, hdead⟩
  · constructor
    · change execCrookMerge s = _
      rw [execCrookMerge, if_pos (by simp [hdue])]
      exact answer_of_wf s s hm rfl
    · exact fun htimer => (execStitchDeadline_else hclk htimer hdue).trans (answer_of_eq s _ hm rfl rfl)
  · refine ⟨fun hnext _ hf hdead => ⟨?_, ?_⟩, fun hnext _ hf hdead => ?_⟩
    · have hexec := exec_fragset hclk hring hinbox (f := f) false
      rw [takeFragset_due hseam hnext hf, if_neg (by simp [hdead]), if_neg (by decide)] at hexec
      refine completes_answer hexec ⟨List.mem_append_right _ (List.mem_singleton_self _), fun h => ?_, ?_, rfl⟩
      · simpa using (List.mem_filter.1 h).2
      · have hlen : ((f.frags.take 8).flatMap fragRecord).length = 128 * min 8 f.frags.length := by
          rw [length_fragRecords, List.length_take]
        rw [← hlen]
        dsimp only
        rw [Memory.canon_of_wf _ (Memory.write_wf _ _ _ hm)]
        exact Memory.read_write_same hm _ _
    · have hexec := exec_fragset hclk hring hinbox (f := f) true
      rw [takeFragset_due hseam hnext hf, if_neg (by simp [hdead]), if_pos rfl] at hexec
      obtain ⟨hcnt, hcrook⟩ := parityHit_frag f.src (fragBase f s) s
      obtain ⟨hd, hs, hw, hall⟩ := fragFault_crook (fragBase f s) s
      rw [← hcrook] at hd hs hw hall
      rw [fragBase_parity] at hall
      generalize parityHit { store := 0x14, index := f.src, addr := fragBase f s } s = u at *
      exact completes_answer hexec ⟨hcnt, hd, hs, hw, hall⟩
    · rw [exec_fragset hclk hring hinbox, takeFragset_due hseam hnext hf, if_pos hdead]
      exact answer_of_eq s _ hm rfl rfl
  · have hcons : consume (· == .idReturn id) s = s := by simp [consume, hinbox]
    change execIdReturn id s = _
    rw [execIdReturn, if_pos (by simp [hring, hclk]), hcons]
    exact answer_of_eq s _ hm rfl rfl

end

section
/-! Ports that go down and train again (07 R197, R200, R224, R225). -/

namespace Sys2Proof.Machine

theorem port_setPort (s : State) (p : Port) (f : PortSt → PortSt) : (s.setPort p f).port p = f (s.port p) := by
  cases p <;> rfl

theorem portOther_ne_self (p : Port) (s : State) (f : PortSt → PortSt) : (s.setPort (portOther p) f).port p = s.port p := by
  cases p <;> rfl

/-- An interrupt line raised: the source's arrival, while the CORE domain is clocked (14 R392). -/
theorem raise_line {n : Nat} (hne : n ≠ 47) (s : State) : ∃ i k, raise n s = { s with icu := i, clk.mergeIcu := k } ∧
    (s.clk.core = true → n < s.icu.src.length → ({ s with icu := i } : State).srcAt n = ((s.srcAt n).arrival).1) := by
  obtain ⟨a, b, c, d, k, h⟩ := raise_eq n s
  refine ⟨_, k, h, fun hclk hn => ?_⟩
  refine Eq.trans ?_ (raise_srcAt hclk hn hne)
  rw [h]
  rfl

/-! ### Frames that turn back -/

/-- Frames put into a port's queues in turn. -/
def PortSt.putAll (q : PortSt) (fs : List CFrame) : PortSt := fs.foldl PortSt.put q

/-- A port's waiting frames. -/
def PortSt.queues (q : PortSt) : List CFrame := q.q0 ++ q.q1 ++ q.q2

theorem PortSt.mem_queues {q : PortSt} {f : CFrame} {k : Nat} (h : f ∈ q.line k) : f ∈ q.queues := by
  simp only [PortSt.queues, List.mem_append]
  unfold PortSt.line at h
  split at h <;> simp [h]

theorem PortSt.put_state (q : PortSt) (f : CFrame) : (q.put f).state = q.state := by
  unfold PortSt.put
  split <;> rfl

theorem PortSt.putAll_spec (fs : List CFrame) (q : PortSt) : (q.putAll fs).state = q.state ∧
    (∀ k, ∀ g ∈ q.line k, g ∈ (q.putAll fs).line k) ∧ ∀ f ∈ fs, f ∈ (q.putAll fs).line f.cls := by
  induction fs generalizing q with
  | nil => exact ⟨rfl, fun _ _ h => h, nofun⟩
  | cons f fs ih =>
    obtain ⟨hstate, hold, hnew⟩ := ih (q.put f)
    refine ⟨hstate.trans (q.put_state f), fun k g h => hold k g (q.line_put_subset f h), fun g h => ?_⟩
    rcases List.mem_cons.1 h with rfl | h
    · exact hold _ _ (q.mem_line_put g)
    · exact hnew g h

theorem foldl_turnBack (o : Port) (fs : List CFrame) (s : State) : fs.foldl (fun u f => enqueueOn o (turnBack f) u) s =
    s.setPort o (fun q => q.putAll (fs.map turnBack)) := by
  induction fs generalizing s with
  | nil => cases o <;> rfl
  | cons f fs ih =>
    rw [List.foldl_cons, ih, enqueueOn_eq_put]
    cases o <;> rfl

/-- A message out of one port waits there while the port is in service. -/
theorem sendOn_up {s : State} (hlink : s.clk.link = true) {p : Port} (hup : (s.port p).state = 2) (cls dst : Nat) (m : Msg) : ∃ f : CFrame,
    sendOn p cls dst m s = ({ s with crl.msgNum := (s.crl.msgNum + 1) % 65536 } : State).setPort p (fun q => q.put f) ∧
    f.cls = cls ∧ f.dst = dst ∧ f.msg = m := by
  rw [sendOn, if_neg (by simp [hlink, hup]), enqueueOn_eq_put]
  exact ⟨_, rfl, rfl, rfl, rfl⟩

/-- A ring of which only the queues of the ports have changed, the message number, and wrapping where that is not over (07 R225). -/
def Crila.fed (c c' : Crila) : Prop := ∃ a0 a1 a2 b0 b1 b2 w n, c' = { c with
  up := { c.up with q0 := a0, q1 := a1, q2 := a2 }, dn := { c.dn with q0 := b0, q1 := b1, q2 := b2 }, wrap := w, msgNum := n } ∧
  (c.wrapOff = true → w = c.wrap)

theorem Crila.fed_refl (c : Crila) : c.fed c := ⟨_, _, _, _, _, _, _, _, rfl, fun _ => rfl⟩

theorem Crila.fed_trans {c c' c'' : Crila} (h : c.fed c') (h' : c'.fed c'') : c.fed c'' := by
  obtain ⟨_, _, _, _, _, _, _, _, rfl, hw⟩ := h
  obtain ⟨_, _, _, _, _, _, _, _, rfl, hw'⟩ := h'
  exact ⟨_, _, _, _, _, _, _, _, rfl, fun hoff => (hw' hoff).trans (hw hoff)⟩

theorem enqueueOn_fed (p : Port) (f : CFrame) (s : State) : ∃ c, enqueueOn p f s = { s with crl := c } ∧ s.crl.fed c := by
  have hput : ∀ q : PortSt, ∃ a b c, q.put f = { q with q0 := a, q1 := b, q2 := c } := by
    intro q
    unfold PortSt.put
    split <;> exact ⟨_, _, _, rfl⟩
  rw [enqueueOn_eq_put]
  cases p with
  | up =>
    obtain ⟨_, _, _, h⟩ := hput s.crl.up
    refine ⟨{ s.crl with up := s.crl.up.put f }, rfl, ?_⟩
    rw [h]
    exact ⟨_, _, _, _, _, _, _, _, rfl, fun _ => rfl⟩
  | dn =>
    obtain ⟨_, _, _, h⟩ := hput s.crl.dn
    refine ⟨{ s.crl with dn := s.crl.dn.put f }, rfl, ?_⟩
    rw [h]
    exact ⟨_, _, _, _, _, _, _, _, rfl, fun _ => rfl⟩

theorem sendFrame_fed (f : CFrame) (s : State) : ∃ c, sendFrame f s = { s with crl := c } ∧ s.crl.fed c := by
  unfold sendFrame
  dsimp only
  generalize (if f.dirn then Port.up else Port.dn) = p
  split
  next hwrap =>
    obtain ⟨c, h, hf⟩ := enqueueOn_fed (portOther p) { f with dirn := !f.dirn, wrapped := true } { s with crl.wrap := true }
    exact ⟨c, h, Crila.fed_trans ⟨_, _, _, _, _, _, _, _, rfl, fun hoff => by simp [hoff] at hwrap⟩ hf⟩
  next => exact enqueueOn_fed p f s

/-- A message feeds the ports' queues, or waits for a quiet member. -/
theorem sendMsgParts_fed (cls dst : Nat) (bcast : Bool) (msgs : List Msg) (s : State) :
    ∃ c q, sendMsgParts cls dst bcast msgs s = { s with crl := c, arr.queue := q } ∧ s.crl.fed c := by
  have hnum : s.crl.fed { s.crl with msgNum := (s.crl.msgNum + 1) % 65536 } := ⟨_, _, _, _, _, _, _, _, rfl, fun _ => rfl⟩
  unfold sendMsgParts
  split
  · exact ⟨s.crl, s.arr.queue, rfl, s.crl.fed_refl⟩
  · dsimp only
    split
    · exact ⟨_, _, rfl, hnum⟩
    · refine (foldl_chains (r := fun t u => ∃ c, u = { t with crl := c } ∧ t.crl.fed c) (fun t => ⟨t.crl, rfl, t.crl.fed_refl⟩) ?_
        (fun t im => ?_) _ { s with crl.msgNum := (s.crl.msgNum + 1) % 65536 }).elim fun c h => ⟨c, s.arr.queue, h.1, Crila.fed_trans hnum h.2⟩
      · rintro t _ _ ⟨c, rfl, hc⟩ ⟨d, rfl, hd⟩
        exact ⟨d, rfl, Crila.fed_trans hc hd⟩
      · split
        · obtain ⟨c, h, hc⟩ := sendFrame_fed _ t
          rw [h]
          obtain ⟨d, h', hd⟩ := sendFrame_fed _ { t with crl := c }
          exact ⟨d, h', Crila.fed_trans hc hd⟩
        · exact sendFrame_fed _ t

theorem sendOn_fed (p : Port) (cls dst : Nat) (m : Msg) (s : State) : ∃ c, sendOn p cls dst m s = { s with crl := c } ∧ s.crl.fed c := by
  unfold sendOn
  split
  · exact ⟨s.crl, rfl, s.crl.fed_refl⟩
  · obtain ⟨c, h, hf⟩ := enqueueOn_fed p _ { s with crl.msgNum := (s.crl.msgNum + 1) % 65536 }
    exact ⟨c, h, Crila.fed_trans ⟨_, _, _, _, _, _, _, _, rfl, fun _ => rfl⟩ hf⟩

/-! ### A port goes down (07 R224, R225) -/

/-- The losses counted once a port has gone down. -/
def lossCount (p : Port) (s : State) : Nat :=
  match p with
  | .up => min (s.crl.upDown + 1) 255 + s.crl.dnDown
  | .dn => s.crl.upDown + min (s.crl.dnDown + 1) 255

/-- A port in service that went down: its frames wait, wrapping has begun, the loss is counted and source 24 told. -/
structure PortFell (p : Port) (s t : State) : Prop where
  frame : ∃ u d a b i k, t = { s with
    icu := i, clk.mergeIcu := k, crl := { s.crl with up := u, dn := d, upDown := a, dnDown := b, wrap := true, wrapOff := false } }
  own : (t.port p).state = 0
  other : t.port (portOther p) = s.port (portOther p)
  count : t.crl.upDown + t.crl.dnDown = lossCount p s
  source : s.clk.core = true → s.icu.src.length = 48 → t.srcAt 24 = ((s.srcAt 24).arrival).1

theorem PortFell.keeps {p : Port} {s t : State} (h : PortFell p s t) : t.onRing = s.onRing ∧ t.isMember = s.isMember ∧ t.isRoot = s.isRoot ∧
    t.crl.enrolled = s.crl.enrolled ∧ t.crl.tile = s.crl.tile ∧ t.crl.ntiles = s.crl.ntiles ∧ t.crl.wrap = true := by
  obtain ⟨_, _, _, _, _, _, rfl⟩ := h.frame
  exact ⟨rfl, rfl, rfl, rfl, rfl, rfl, rfl⟩

/-- The port as it stands once it is down: its frames by class. -/
def PortSt.fallen (q : PortSt) : PortSt :=
  let all := q.held.map (·.1) ++ q.q0 ++ q.q1 ++ q.late ++ q.q2
  { hopLat := q.hopLat, q0 := all.filter (·.cls == 0), q1 := all.filter (·.cls == 1), q2 := all.filter (fun f => decide (2 ≤ f.cls)), bufs := q.bufs }

theorem portFell (p : Port) (s : State) : PortFell p s { raise 24 (countDown p (s.setPort p fun _ => (s.port p).fallen)) with
    crl.wrap := true, crl.wrapOff := false } := by
  obtain ⟨i, k, hraise, hsrc⟩ := raise_line (n := 24) (by decide) (countDown p (s.setPort p fun _ => (s.port p).fallen))
  have hlt : s.icu.src.length = 48 → 24 < s.icu.src.length := fun h => by rw [h]; decide
  rw [hraise]
  cases p with
  | up => exact ⟨⟨_, _, _, _, _, _, rfl⟩, rfl, rfl, rfl, fun hclk hlen => hsrc hclk (hlt hlen)⟩
  | dn => exact ⟨⟨_, _, _, _, _, _, rfl⟩, rfl, rfl, rfl, fun hclk hlen => hsrc hclk (hlt hlen)⟩

/-- The frames that a port in service holds, in the order in which they turn back. -/
def PortSt.pendingFrames (q : PortSt) : List CFrame := q.held.map (·.1) ++ q.q0 ++ q.q1 ++ q.late ++ q.q2

/-- A port down, its queues empty: its frames have turned back out of the other port. -/
def turned (p : Port) (fs : List CFrame) (s : State) : State :=
  (s.setPort p fun x => { x with q0 := [], q1 := [], q2 := [] }).setPort (portOther p) fun q => q.putAll (fs.map turnBack)

theorem portDown_eq {p : Port} {s : State} (hup : (s.port p).state = 2) : ∃ t, PortFell p s t ∧
    portDown p s = if (t.port (portOther p)).state == 2 then sendBreak p (turned p (s.port p).pendingFrames t)
      else let u := if t.isRoot then sendBreak p t else t
        { u with chn.discardReports := u.chn.discardReports || u.isMember } := by
  refine ⟨_, portFell p s, ?_⟩
  rw [turned, ← foldl_turnBack, portDown]
  dsimp only
  rw [if_neg (by simp [hup])]
  rfl

/-- A root notes the break of its own port, once it has a ring (07 R226). -/
theorem sendBreak_root {s : State} (hroot : s.isRoot = true) (p : Port) : ∃ b, sendBreak p s = { s with arr.breaks := b } ∧
    (1 < s.crl.ntiles → (0, p) ∈ b) := by
  rw [sendBreak, if_pos hroot]
  split
  next h => exact ⟨s.arr.breaks, rfl, by omega⟩
  next h => exact ⟨_, rfl, fun _ => by simp⟩

/-- A member's BREAK leaves by its other port (07 R226). -/
theorem sendBreak_member {s : State} (hmember : s.isMember = true) (hlink : s.clk.link = true) {p : Port} (hup : (s.port (portOther p)).state = 2) :
    ∃ fs n, sendBreak p s = { s.setPort (portOther p) (fun q => q.putAll fs) with crl.msgNum := n } ∧
      (s.crl.enrolled = true → ∃ f ∈ fs, f.cls = 0 ∧ f.msg = .brk s.crl.tile p) := by
  have hroot : s.isRoot = false := by
    simp only [State.isMember, State.isRoot, beq_iff_eq, beq_eq_false_iff_ne] at *
    simp [hmember]
  have htile : s.tile = s.crl.tile := by rw [State.tile, if_pos hmember]
  rw [sendBreak, if_neg (by simp [hroot])]
  split
  next h =>
    obtain ⟨f, hsend, hcls, -, hmsg⟩ := sendOn_up hlink hup 0 0 (.brk s.tile p)
    refine ⟨[f], (s.crl.msgNum + 1) % 65536, ?_, fun _ => ⟨f, by simp, hcls, by rw [hmsg, htile]⟩⟩
    rw [hsend]
    cases p <;> rfl
  next h =>
    refine ⟨[], s.crl.msgNum, ?_, fun h' => absurd h' h⟩
    cases p <;> rfl

/-- A break told: a root notes it, a member's message joins the queues of its other port. -/
theorem sendBreak_spec {s : State} (hring : s.onRing = true) {p : Port} (hup : (s.port (portOther p)).state = 2) :
    ∃ fs n b, sendBreak p s = { s.setPort (portOther p) (fun q => q.putAll fs) with crl.msgNum := n, arr.breaks := b } ∧
      (s.isMember = true → s.crl.enrolled = true → ∃ f ∈ fs, f.cls = 0 ∧ f.msg = .brk s.crl.tile p) ∧
      (s.isRoot = true → 1 < s.crl.ntiles → (0, p) ∈ b) := by
  simp only [State.onRing, Bool.and_eq_true, Bool.or_eq_true] at hring
  obtain ⟨hlink, hrole⟩ := hring
  by_cases hroot : s.isRoot = true
  · obtain ⟨b, h, hb⟩ := sendBreak_root hroot p
    refine ⟨[], s.crl.msgNum, b, ?_, fun hmember => ?_, fun _ => hb⟩
    · rw [h]
      cases p <;> rfl
    · simp only [State.isMember, State.isRoot, beq_iff_eq] at *
      simp [hroot] at hmember
  · have hmember := hrole.resolve_left hroot
    obtain ⟨fs, n, h, hf⟩ := sendBreak_member hmember hlink hup
    refine ⟨fs, n, s.arr.breaks, ?_, fun _ => hf, fun h => absurd h hroot⟩
    rw [h]
    cases p <;> rfl

theorem any_sent {s : State} {p : Port} {f : CFrame} (hcls : f.cls = 0 ∨ f.cls = 1) (h : f ∈ (s.port p).line f.cls) :
    ((s.crl.up.q0 ++ s.crl.up.q1 ++ s.crl.dn.q0 ++ s.crl.dn.q1).any (fun g => g.msg == f.msg)) = true := by
  refine List.any_eq_true.2 ⟨f, ?_, beq_self_eq_true f.msg⟩
  simp only [List.mem_append]
  cases p <;> rcases hcls with hc | hc <;> rw [hc] at h <;> simp only [State.port, PortSt.line] at h <;> simp [h]

theorem Crila.any_told_of_waits {c : Crila} {f : CFrame} (h : f ∈ c.waits 1) :
    ((c.up.q0 ++ c.up.q1 ++ c.dn.q0 ++ c.dn.q1).any (fun g => g.msg == f.msg)) = true := by
  refine List.any_eq_true.2 ⟨f, ?_, beq_self_eq_true f.msg⟩
  simp only [Crila.waits, PortSt.line, List.mem_append] at h ⊢
  tauto

/-! ### A port trains again (07 R197, R200) -/

/-- A port that has trained. -/
def PortSt.trained (q : PortSt) (lat : Nat) : PortSt :=
  { q with state := 2, lane := 3, hopLat := lat, txSeq := 0, rxSeq := 4095, held := [], cred := [0, 0, 0], again := 0, half := false, scr := [0, 0],
           rxLane := 0, rscr := [0, 0], rxPos := 0, win := [[], []], late := [], nakDue := false, nakSent := false, mark := none }

/-- The ring and the interrupts of a device whose port has trained, before it says so. -/
structure PortTrained (p : Port) (lat : Nat) (s t : State) : Prop where
  state : (t.port p).state = 2 ∧ (t.port p).lane = 3 ∧ (t.port p).hopLat = lat ∧ (t.port p).txSeq = 0 ∧ (t.port p).rxSeq = 4095 ∧
    (t.port p).held = []
  marks : t.crl.marks = 0
  source : s.clk.core = true → s.icu.src.length = 48 → t.srcAt 24 = ((s.srcAt 24).arrival).1

theorem PortTrained.fed {p : Port} {lat : Nat} {s t : State} (h : PortTrained p lat s t) {c : Crila} (hc : t.crl.fed c) (q : List CFrame) (a : Option Port) :
    PortTrained p lat s { t with crl := c, arr.queue := q, arr.probe := a } := by
  obtain ⟨_, _, _, _, _, _, _, _, rfl, -⟩ := hc
  cases p <;> exact ⟨h.state, h.marks, h.source⟩

/-- A training that completes, and what it tells the ring. -/
theorem trainingComplete_spec {p : Port} {s : State} (htrain : (s.port p).state = 1) {lat : Nat} (hlat : lat ≤ 768) : ∃ t, PortTrained p lat s t ∧
    t.isMember = s.isMember ∧ t.tile = s.tile ∧ t.ctx = s.ctx ∧ t.clk.link = s.clk.link ∧ t.arr = s.arr ∧ t.crl.enrolled = s.crl.enrolled ∧
    trainingComplete p lat s = if t.isMember then (if t.crl.enrolled then sendMsg 1 0 (.hello true t.tile t.ctx.gen) t else t)
      else if t.boot.phase == .running && t.arr.probe.isNone then sendOn p 1 0 .enum { t with arr.probe := some p } else t := by
  obtain ⟨i, k, hraise, hsrc⟩ := raise_line (n := 24) (by decide) (s.setPort p fun q => q.trained lat)
  have hlt : s.icu.src.length = 48 → 24 < s.icu.src.length := fun h => by rw [h]; decide
  refine ⟨{ raise 24 (s.setPort p fun q => q.trained lat) with crl.marks := 0 }, ?_, ?_, ?_, ?_, ?_, ?_, ?_, ?_⟩
  · rw [hraise]
    cases p <;> exact ⟨⟨rfl, rfl, rfl, rfl, rfl, rfl⟩, rfl, fun hclk hlen => hsrc hclk (hlt hlen)⟩
  · rw [hraise]
    cases p <;> rfl
  · rw [hraise]
    cases p <;> rfl
  · rw [hraise]
    cases p <;> rfl
  · rw [hraise]
    cases p <;> rfl
  · rw [hraise]
    cases p <;> rfl
  · rw [hraise]
    cases p <;> rfl
  · rw [trainingComplete, if_neg (by simp [htrain]), if_neg (by omega)]
    rfl

end Sys2Proof.Machine

open Sys2Proof Sys2Proof.Machine

/-- Settles O49: `portDown` turns the port's frames back once it has fallen (`portFell`); training sets the port afresh. -/
theorem portsGoDownAndTrainAgain : Obligations.PortsGoDownAndTrainAgain := by
  unfold Obligations.PortsGoDownAndTrainAgain
  intro p lat s hring hm q o sends
  have hlink : s.clk.link = true := by
    simp only [State.onRing, Bool.and_eq_true] at hring
    exact hring.1
  have ho : o = portOther p := by cases p <;> rfl
  clear_value o
  subst ho
  refine ⟨fun hup => ?_, fun hdown => ?_, fun hdown => ?_, fun htrain => ⟨fun hlat => ?_, fun hlat hlt => ?_⟩⟩
  · obtain ⟨t, hfell, hdown⟩ := portDown_eq hup
    have hexec : exec (.portDown p) s = answer s (portDown p s) := by
      change execPortDown p s = _
      rw [execPortDown, if_pos hring]
    obtain ⟨hring', hmember, hroot, henrolled, htile, hntiles, hwrap⟩ := hfell.keeps
    rw [hdown] at hexec
    clear hdown
    by_cases hother : (s.port (portOther p)).state = 2
    · rw [if_pos (by rw [hfell.other, hother]; rfl)] at hexec
      generalize hw : turned p q.pendingFrames t = w at hexec
      have hport : (w.port p).state = 0 ∧ (w.port p).q0 = [] ∧ (w.port p).q2 = [] := by
        rw [← hw, turned, portOther_ne_self, port_setPort]
        exact ⟨hfell.own, rfl, rfl⟩
      have hback : w.port (portOther p) = (s.port (portOther p)).putAll (q.pendingFrames.map turnBack) := by
        rw [← hw, turned, port_setPort, port_portOther, hfell.other]
      obtain ⟨hstate, -, hall⟩ := PortSt.putAll_spec (q.pendingFrames.map turnBack) (s.port (portOther p))
      have hkeep : w.onRing = t.onRing ∧ w.isMember = t.isMember ∧ w.isRoot = t.isRoot ∧ w.crl.enrolled = t.crl.enrolled ∧ w.crl.tile = t.crl.tile ∧
          w.crl.ntiles = t.crl.ntiles ∧ w.crl.wrap = t.crl.wrap ∧ w.crl.upDown = t.crl.upDown ∧ w.crl.dnDown = t.crl.dnDown ∧ w.icu = t.icu := by
        rw [← hw]
        cases p <;> exact ⟨rfl, rfl, rfl, rfl, rfl, rfl, rfl, rfl, rfl, rfl⟩
      obtain ⟨hr, hmb, hrt, hen, htl, hnt, hwp, hud, hdd, hicu⟩ := hkeep
      obtain ⟨fs, n, b, hbreak, hsent, hnoted⟩ := sendBreak_spec (hr.trans (hring'.trans hring)) (p := p) (by rw [hback, hstate, hother])
      obtain ⟨-, hold, hnew⟩ := PortSt.putAll_spec fs (w.port (portOther p))
      rw [hbreak] at hexec
      generalize hv : w.setPort (portOther p) (fun q => q.putAll fs) = v at hexec
      have hvp : v.port p = w.port p := by rw [← hv, portOther_ne_self]
      have hvo : v.port (portOther p) = (w.port (portOther p)).putAll fs := by rw [← hv, port_setPort]
      have hvk : v.crl.wrap = w.crl.wrap ∧ v.crl.upDown = w.crl.upDown ∧ v.crl.dnDown = w.crl.dnDown ∧ v.icu = w.icu := by
        rw [← hv]
        cases p <;> exact ⟨rfl, rfl, rfl, rfl⟩
      obtain ⟨hvw, hvu, hvd, hvi⟩ := hvk
      refine completes_answer hexec ⟨(congrArg PortSt.state hvp).trans hport.1, hvw.trans (hwp.trans hwrap), ?_, fun hclk hlen => ?_,
        fun _ => ⟨?_, (congrArg PortSt.q0 hvp).trans hport.2.1, (congrArg PortSt.q2 hvp).trans hport.2.2, fun hm' he' => ?_, fun hr' hn' => ?_⟩,
        fun h => absurd hother h⟩
      · exact Eq.trans (by rw [← hud, ← hdd, ← hvu, ← hvd]) hfell.count
      · refine Eq.trans ?_ (hfell.source hclk hlen)
        simp only [State.srcAt, ← hicu, ← hvi]
      · refine List.all_eq_true.2 fun f hf => List.contains_iff_mem.2 ?_
        have hmem : f ∈ q.pendingFrames := by
          simp only [PortSt.pendingFrames, List.mem_append] at hf ⊢
          tauto
        have hline := hnew
        have hq := hold _ _ (hback ▸ hall (turnBack f) (List.mem_map_of_mem hmem))
        rw [← hvo] at hq
        exact PortSt.mem_queues hq
      · obtain ⟨f, hf, hcls, hmsg⟩ := hsent (hmb.trans (hmember.trans hm')) (hen.trans (henrolled.trans he'))
        have hq := hnew f hf
        rw [← hvo] at hq
        have hany := any_sent (.inl hcls) hq
        rw [hmsg, htl, htile] at hany
        exact hany
      · exact hnoted (hrt.trans (hroot.trans hr')) (by rw [hnt, hntiles]; exact hn')
    · rw [if_neg (by rw [hfell.other]; simpa using hother)] at hexec
      have hfacts : ∀ u : State, (∃ b, u = { t with arr.breaks := b }) → (u.port p).state = 0 ∧ u.crl.wrap = true ∧
          u.crl.upDown + u.crl.dnDown = lossCount p s ∧
          (s.clk.core = true → s.icu.src.length = 48 → u.srcAt 24 = ((s.srcAt 24).arrival).1) ∧ u.isMember = s.isMember := by
        rintro u ⟨b, rfl⟩
        exact ⟨hfell.own, hwrap, hfell.count, hfell.source, hmember⟩
      have hbreak : ∃ b, (if t.isRoot then sendBreak p t else t) = { t with arr.breaks := b } := by
        split
        next h =>
          obtain ⟨b, h, -⟩ := sendBreak_root h p
          exact ⟨b, h⟩
        next => exact ⟨t.arr.breaks, rfl⟩
      obtain ⟨hstate, hwrap', hcount, hsource, hmember'⟩ := hfacts _ hbreak
      generalize (if t.isRoot then sendBreak p t else t) = u at *
      refine completes_answer hexec ⟨hstate, hwrap', hcount, hsource, fun h => absurd h hother, fun _ hm' => ?_⟩
      exact Bool.or_eq_true_iff.2 (.inr (hmember'.trans hm'))
  · change execPortDown p s = _
    rw [execPortDown, if_pos hring, portDown]
    dsimp only
    rw [if_pos hdown]
    exact answer_of_wf s s hm rfl
  · obtain ⟨i, k, hraise, hsrc⟩ := raise_line (n := 24) (by decide) (s.setPort p fun x => { x with state := 1 })
    have hexec : exec (.portRetrain p) s = answer s (raise 24 (s.setPort p fun x => { x with state := 1 })) := by
      change execPortRetrain p s = _
      rw [execPortRetrain, if_pos (by simp only [hring, Bool.true_and]; exact beq_iff_eq.2 hdown)]
    rw [hraise] at hexec
    have hlt : s.icu.src.length = 48 → 24 < s.icu.src.length := fun h => by rw [h]; decide
    cases p with
    | up => exact completes_answer hexec ⟨rfl, rfl, fun hclk hlen => hsrc hclk (hlt hlen)⟩
    | dn => exact completes_answer hexec ⟨rfl, rfl, fun hclk hlen => hsrc hclk (hlt hlen)⟩
  · obtain ⟨t, ht, hmb, htile, hctx, hlk, harr, hen, htrained⟩ := trainingComplete_spec htrain hlat
    have hexec : exec (.trainingComplete p lat) s = answer s (trainingComplete p lat s) := by
      change execTrainingComplete p lat s = _
      rw [execTrainingComplete, if_pos hring]
    suffices h : ∃ u, PortTrained p lat s u ∧
        (s.isMember = true → s.crl.enrolled = true → s.arr.quiet = [] → sends u (.hello true s.crl.tile s.ctx.gen)) ∧
        exec (.trainingComplete p lat) s = answer s u by
      obtain ⟨u, ⟨⟨h1, h2, h3, h4, h5, h6⟩, hmarks, hsource⟩, hs, he⟩ := h
      exact completes_answer he ⟨h1, h2, h3, h4, h5, h6, hmarks, hsource, hs⟩
    rw [htrained] at hexec
    by_cases hmember : s.isMember = true
    · rw [if_pos (hmb.trans hmember)] at hexec
      by_cases henrolled : s.crl.enrolled = true
      · rw [if_pos (hen.trans henrolled)] at hexec
        obtain ⟨c, q', hsend, hfed⟩ := sendMsgParts_fed 1 0 false [.hello true t.tile t.ctx.gen] t
        rw [sendMsg, hsend] at hexec
        refine ⟨_, ht.fed hfed q' t.arr.probe, fun _ _ hquiet => ?_, hexec⟩
        obtain ⟨c', f, hsend', -, hf, hmsg, -⟩ := sendMsg_waits (hlk.trans hlink) (dst := 0) (by rw [harr, hquiet]; exact List.not_mem_nil) 1
          (.hello true t.tile t.ctx.gen)
        rw [sendMsg, hsend] at hsend'
        have hc : c = c' := congrArg State.crl hsend'
        rw [← hc] at hf
        have hany := Crila.any_told_of_waits hf
        rw [hmsg, htile, hctx, State.tile, if_pos hmember] at hany
        exact hany
      · rw [if_neg (fun h => henrolled (hen.symm.trans h))] at hexec
        exact ⟨t, ht, fun _ h => absurd h henrolled, hexec⟩
    · rw [if_neg (fun h => hmember (hmb.symm.trans h))] at hexec
      split at hexec
      · obtain ⟨c, hsend, hfed⟩ := sendOn_fed p 1 0 .enum { t with arr.probe := some p }
        rw [hsend] at hexec
        exact ⟨_, ht.fed hfed t.arr.queue (some p), fun h => absurd h hmember, hexec⟩
      · exact ⟨t, ht, fun h => absurd h hmember, hexec⟩
  · change execTrainingComplete p lat s = _
    rw [execTrainingComplete, if_pos hring, trainingComplete, if_neg (by simpa using htrain), if_pos hlat]
    have hmin : Nat.min lat 0xFFFF = lat := Nat.min_eq_left (by omega)
    rw [hmin]
    cases p <;> exact answer_of_eq s _ hm rfl rfl

end

section
/-! Enrolment (07 R204): the root's question for a tile's RIDs waits for a member whose CORE domain is being reset. -/

namespace Sys2Proof.Machine

/-- A root in formation that enrols position 1 while member 2, online, is kept quiet (07 R232). -/
def quietFormation : State := { State.reset with
  boot := { State.reset.boot with role := .root }
  clk := { State.reset.clk with link := true }
  arr := { State.reset.arr with probe := some .dn, forming := true, nmap := 3, nextPos := 1, quiet := [2] }
  crl := { State.reset.crl with own := some (tileRecOf []), online := [0, 2], dn := { State.reset.crl.dn with state := 2 } } }

theorem quietFormation_memOk : quietFormation.memOk := resetMemoryIsCanonical.1

/-- The question waits in the root's queue for the quiet member, and at neither port. -/
theorem quietFormation_waits : (enrol .dn 0 quietFormation).arr.queue.length = 1 ∧
    let c := (enrol .dn 0 quietFormation).crl
    c.up.q0 ++ c.up.q1 ++ c.up.q2 ++ c.dn.q0 ++ c.dn.q1 ++ c.dn.q2 = [] := by
  decide

end Sys2Proof.Machine

open Sys2Proof Sys2Proof.Machine

/-- Refutes O50: when every other member online is one whose frames are held (07 R232), the question for the new tile's RIDs joins the root's
own queue and no port's. -/
theorem not_enrolmentFormsTheArray : ¬ Obligations.EnrolmentFormsTheArray := by
  unfold Obligations.EnrolmentFormsTheArray
  intro h
  obtain ⟨-, hroot⟩ := h .dn 0 0 0 [] [] quietFormation rfl quietFormation_memOk
  obtain ⟨-, -, -, hhello, -⟩ := hroot rfl
  obtain ⟨t, hexec, -, -, -, -, hothers⟩ := hhello rfl rfl rfl rfl (by decide) (by decide) (by decide) rfl
  obtain ⟨-, hsent⟩ := hothers (by decide)
  have hanswer : exec (.hello .dn false 0 0) quietFormation = answer quietFormation (enrol .dn 0 quietFormation) := rfl
  have ht : t.crl = (enrol .dn 0 quietFormation).crl := by
    rw [hanswer] at hexec
    injection hexec with hexec
    rw [← hexec]
  rw [ht, quietFormation_waits.2] at hsent
  cases hsent

end

section
/-! ROUTE, BREAK and the return of a link (07 R225 to R230). -/

namespace Sys2Proof.Machine

theorem sendMsg_fed (cls dst : Nat) (m : Msg) (s : State) : ∃ c q, sendMsg cls dst m s = { s with crl := c, arr.queue := q } ∧ s.crl.fed c :=
  sendMsgParts_fed cls dst false [m] s

theorem foldl_fed {α : Type} {f : State → α → State} (hf : ∀ t a, ∃ c q, f t a = { t with crl := c, arr.queue := q } ∧ t.crl.fed c) (l : List α)
    (s : State) : ∃ c q, l.foldl f s = { s with crl := c, arr.queue := q } ∧ s.crl.fed c :=
  foldl_chains (r := fun t u => ∃ c q, u = { t with crl := c, arr.queue := q } ∧ t.crl.fed c) (fun t => ⟨t.crl, t.arr.queue, rfl, t.crl.fed_refl⟩)
    (by
      rintro t _ _ ⟨c, q, rfl, hc⟩ ⟨d, q', rfl, hd⟩
      exact ⟨d, q', rfl, Crila.fed_trans hc hd⟩) hf l s

theorem consume_empty {s : State} (h : s.crl.inbox = []) (m : Msg → Bool) : consume m s = s := by simp [consume, h]

/-! ### ROUTE at a member (07 R226) -/

/-- What ROUTE leaves in the ring's registers. -/
def RouteTaken (dirs : List (Nat × Bool)) (online : List Nat) (seams : List (Nat × Nat)) (map : List TileRec) (ring : Nat) (cut : List Nat) (s : State)
    (c : Crila) : Prop :=
  c.dirs = dirs ∧ c.online = online ∧ c.map = map ∧ c.ring = ring ∧ c.cut = cut ∧ c.wrap = false ∧ c.wrapOff = true ∧ c.routed = true ∧
  c.ntiles = dirs.length + 1 ∧ c.lent = s.crl.lent.filter (fun l => online.contains l.2 || l.2 == 64) ∧
  c.enrolled = (s.crl.enrolled && dirs.any (fun d => d.1 == s.crl.tile)) ∧
  c.seamsOff = (seams.filter (fun p => p.1 == s.crl.tile || p.2 == s.crl.tile)).map (fun p => if p.1 = s.crl.tile then p.2 else p.1)

theorem RouteTaken.fed {dirs : List (Nat × Bool)} {online : List Nat} {seams : List (Nat × Nat)} {map : List TileRec} {ring : Nat} {cut : List Nat}
    {s : State} {c c' : Crila} (h : RouteTaken dirs online seams map ring cut s c) (hf : c.fed c') :
    RouteTaken dirs online seams map ring cut s c' := by
  obtain ⟨h1, h2, h3, h4, h5, h6, h7, hrest⟩ := h
  obtain ⟨_, _, _, _, _, _, _, _, rfl, hw⟩ := hf
  exact ⟨h1, h2, h3, h4, h5, (hw h7).trans h6, h7, hrest⟩

theorem retireSilently_member {s : State} (h : s.isMember = true) : ∃ c q x, retireSilently s = { s with
    crl := c, arr.queue := q, trk := x, cal.releases := [] } ∧ s.crl.fed c ∧ x.resync = true := by
  have hparts := foldl_chains (r := fun t u => t.isMember = true → ∃ c q, u = { t with crl := c, arr.queue := q } ∧ t.crl.fed c ∧ u.isMember = true)
    (f := fun u (r : Release) => partDone r.cmd 0x0D u.chn.prev.epoch 0 u)
    (fun t ht => ⟨t.crl, t.arr.queue, rfl, t.crl.fed_refl, ht⟩)
    (by
      intro t u v htu huv ht
      obtain ⟨c, q, rfl, hc, hu⟩ := htu ht
      obtain ⟨d, q', rfl, hd, hv⟩ := huv hu
      exact ⟨d, q', rfl, Crila.fed_trans hc hd, hv⟩)
    (by
      intro t r ht
      obtain ⟨c, q, hsend, hc⟩ := sendMsg_fed 1 0 (.cpl r.cmd 0x0D t.chn.prev.epoch 0) t
      rw [partDone, if_pos ht, hsend]
      exact ⟨c, q, rfl, hc, ht⟩) s.cal.releases s h
  obtain ⟨c, q, hparts, hc, -⟩ := hparts
  unfold retireSilently
  dsimp only
  rw [hparts]
  exact ⟨c, q, _, rfl, hc, rfl⟩

theorem backOnRing_member {s : State} (h : s.isMember = true) : s.crl.fed { (backOnRing s).crl with noMark := s.crl.noMark } ∧
    (backOnRing s).chn.discardReports = false ∧ (backOnRing s).trk.resync = true := by
  obtain ⟨c, q, x, hretire, hc, -⟩ := retireSilently_member h
  unfold backOnRing
  rw [hretire]
  refine ⟨?_, rfl, rfl⟩
  obtain ⟨_, _, _, _, _, _, _, _, rfl, hw⟩ := hc
  exact ⟨_, _, _, _, _, _, _, _, rfl, hw⟩

theorem namedOffline_fed (s : State) : s.crl.fed (namedOffline s).crl ∧ (namedOffline s).chn.discardReports = true := by
  unfold namedOffline
  dsimp only
  split
  · obtain ⟨c, q, h, hc⟩ := sendMsg_fed 1 0 (.hello true ({ s with chn.discardReports := true } : State).tile s.ctx.gen) { s with chn.discardReports := true }
    rw [h]
    exact ⟨hc, rfl⟩
  · exact ⟨s.crl.fed_refl, rfl⟩

/-- What a member does once its registers hold ROUTE (07 R229). -/
def afterRoute (online : List Nat) (me : Nat) (was : List Nat) (t : State) : State :=
  if !t.isMember || !t.crl.enrolled then t
  else if online.contains me then (if t.chn.discardReports then backOnRing t else t)
  else if was.contains me then namedOffline t else t

/-- ROUTE at a member: its registers, and what becomes of its reports (07 R226, R229). -/
structure RouteObeyed (dirs : List (Nat × Bool)) (online : List Nat) (seams : List (Nat × Nat)) (map : List TileRec) (ring : Nat) (cut : List Nat)
    (s t : State) : Prop where
  taken : RouteTaken dirs online seams map ring cut s t.crl
  back : t.crl.enrolled = true → s.crl.tile ∈ online → s.chn.discardReports = true → t.chn.discardReports = false ∧ t.trk.resync = true
  lost : s.crl.tile ∉ online → t.chn.discardReports = (s.chn.discardReports || (t.crl.enrolled && s.crl.online.contains s.crl.tile))

theorem RouteTaken.noMark {dirs : List (Nat × Bool)} {online : List Nat} {seams : List (Nat × Nat)} {map : List TileRec} {ring : Nat} {cut : List Nat}
    {s : State} {c : Crila} {n : Nat} (h : RouteTaken dirs online seams map ring cut s { c with noMark := n }) :
    RouteTaken dirs online seams map ring cut s c := h

theorem afterRoute_obeyed {dirs : List (Nat × Bool)} {online : List Nat} {seams : List (Nat × Nat)} {map : List TileRec} {ring : Nat} {cut : List Nat}
    {s t : State} (ht : RouteTaken dirs online seams map ring cut s t.crl) (hmember : t.isMember = true) (hchn : t.chn = s.chn) :
    RouteObeyed dirs online seams map ring cut s (afterRoute online s.crl.tile s.crl.online t) := by
  unfold afterRoute
  by_cases hen : t.crl.enrolled = true
  · rw [if_neg (by simp [hmember, hen])]
    by_cases hon : s.crl.tile ∈ online
    · rw [if_pos (by simpa using hon)]
      split
      next hlost =>
        obtain ⟨hfed, hdiscard, hresync⟩ := backOnRing_member hmember
        exact ⟨(ht.fed hfed).noMark, fun _ _ _ => ⟨hdiscard, hresync⟩, fun h => absurd hon h⟩
      next hkept => exact ⟨ht, fun _ _ h => absurd (hchn ▸ h) hkept, fun h => absurd hon h⟩
    · rw [if_neg (by simpa using hon)]
      split
      next hwas =>
        obtain ⟨hfed, hdiscard⟩ := namedOffline_fed t
        have hsame : (namedOffline t).crl.enrolled = t.crl.enrolled := by
          obtain ⟨_, _, _, _, _, _, _, _, h, -⟩ := hfed
          rw [h]
        exact ⟨ht.fed hfed, fun _ h => absurd h hon, fun _ => by rw [hdiscard, hsame, hen, hwas, Bool.and_self, Bool.or_true]⟩
      next hwas => exact ⟨ht, fun _ h => absurd h hon, fun _ => by rw [hchn, Bool.eq_false_iff.2 hwas, Bool.and_false, Bool.or_false]⟩
  · rw [if_pos (by simp [hen])]
    exact ⟨ht, fun h => absurd h hen, fun _ => by rw [hchn, Bool.eq_false_iff.2 hen, Bool.false_and, Bool.or_false]⟩

theorem applyRoute_member {s : State} (h : s.isMember = true) (dirs : List (Nat × Bool)) (online : List Nat) (seams : List (Nat × Nat))
    (map : List TileRec) (ring : Nat) (cut : List Nat) :
    RouteObeyed dirs online seams map ring cut s (applyRoute dirs online seams map ring cut s) := by
  have htile : s.tile = s.crl.tile := by rw [State.tile, if_pos h]
  have hroot : s.isRoot = false := by
    simp only [State.isMember, State.isRoot, beq_iff_eq, beq_eq_false_iff_ne] at *
    simp [h]
  unfold applyRoute
  dsimp only
  rw [htile, hroot]
  exact afterRoute_obeyed (t := { s with
    crl.dirs := dirs, crl.routed := true, crl.online := online, crl.wrap := false, crl.wrapOff := true
    crl.seamsOff := (seams.filter (fun p => p.1 == s.crl.tile || p.2 == s.crl.tile)).map (fun p => if p.1 = s.crl.tile then p.2 else p.1), crl.map := map
    crl.ring := ring, crl.cut := cut, crl.ntiles := dirs.length + 1
    crl.seamOff := _, crl.lent := s.crl.lent.filter (fun l => online.contains l.2 || l.2 == 64)
    crook.waiting := _, crl.lost := _, crl.enrolled := s.crl.enrolled && (false || dirs.any (fun d => d.1 == s.crl.tile)) })
    ⟨rfl, rfl, rfl, rfl, rfl, rfl, rfl, rfl, rfl, rfl, rfl, rfl⟩ h rfl

/-! ### ROUTE at the root (07 R226) -/

/-- A state after the root sent ROUTE: its ring's registers, the frames held for quiet members and Crook's waiting set. -/
def Routed (s t : State) : Prop := ∃ c q w, t = { s with crl := c, arr.queue := q, crook.waiting := w } ∧ c.online = s.crl.online ∧
  c.openRing = s.crl.openRing ∧ c.ntiles = s.crl.ntiles

theorem isMember_of_root {s : State} (h : s.isRoot = true) : s.isMember = false := by
  simp only [State.isMember, State.isRoot, beq_iff_eq, beq_eq_false_iff_ne] at *
  simp [h]

theorem sendRoute_root {s : State} (h : s.isRoot = true) : Routed s (sendRoute s) := by
  have hroute : ∀ dirs seams map ring cut, ∃ c w, applyRoute dirs s.crl.online seams map ring cut s = { s with crl := c, crook.waiting := w } ∧
      c.online = s.crl.online ∧ c.openRing = s.crl.openRing ∧ c.ntiles = s.crl.ntiles := by
    intro dirs seams map ring cut
    unfold applyRoute
    dsimp only
    rw [if_pos (by rw [Bool.or_eq_true]; exact .inl ((congrArg (! ·) (isMember_of_root h)).trans rfl))]
    exact ⟨_, _, rfl, rfl, rfl, if_pos h⟩
  unfold sendRoute
  dsimp only
  obtain ⟨c, w, hr, h1, h2, h3⟩ := hroute (directions (if s.arr.ring = 0 then s.crl.ntiles else s.arr.ring) s.arr.cut s.enrolledTiles)
    (badSeams s.arr.map) s.arr.map (if s.arr.ring = 0 then s.crl.ntiles else s.arr.ring) s.arr.cut
  rw [hr]
  obtain ⟨c', q, hb, hfed⟩ := sendMsgParts_fed 0 0 true [.route (directions (if s.arr.ring = 0 then s.crl.ntiles else s.arr.ring) s.arr.cut s.enrolledTiles)
    s.crl.online (badSeams s.arr.map) s.arr.map (if s.arr.ring = 0 then s.crl.ntiles else s.arr.ring) s.arr.cut] { s with crl := c, crook.waiting := w }
  obtain ⟨_, _, _, _, _, _, _, _, rfl, -⟩ := hfed
  exact ⟨_, q, w, hb, h1, h2, h3⟩

/-! ### The break decision (07 R226 to R228) -/

theorem filter_range_eq {n k : Nat} (hk : k < n) {f : Nat → Bool} (hf : ∀ l, l < n → (f l = true ↔ l = k)) : (List.range n).filter f = [k] := by
  have hsame : (List.range n).filter f = (List.range n).filter (· == k) := List.filter_congr fun l hl => by
    rw [Bool.eq_iff_iff, hf l (List.mem_range.1 hl), beq_iff_eq]
  rw [hsame, List.filter_beq, List.count_eq_one_of_mem List.nodup_range (List.mem_range.2 hk)]
  rfl

/-- A link that both its ends report is broken, and no member is silent. -/
theorem judge_both {n k : Nat} (hk : k + 1 < n) : judge n [(k, .dn), (k + 1, .up)] = ([k], [k], []) := by
  have hends : ∀ l, l < n → (endsOf n l [(k, Port.dn), (k + 1, Port.up)] = (l == k, l == k)) := by
    intro l hl
    have hmod : ((l + 1) % n = k + 1) ↔ l = k := by
      rcases Nat.lt_or_eq_of_le (Nat.succ_le_of_lt hl) with h | h
      · rw [Nat.mod_eq_of_lt h]
        omega
      · rw [show l + 1 = n from h, Nat.mod_self]
        omega
    simp only [endsOf, Prod.mk.injEq]
    constructor <;> rw [Bool.eq_iff_iff] <;> simp [hmod]
  have hcut : (List.range n).filter (fun l => (endsOf n l [(k, Port.dn), (k + 1, Port.up)]).1 || (endsOf n l [(k, Port.dn), (k + 1, Port.up)]).2) = [k] :=
    filter_range_eq (by omega) fun l hl => by simp [hends l hl]
  simp only [judge, hcut]
  simp [hends k (by omega)]

/-- A link that one end reports is broken, and the member at its other end is silent. -/
theorem judge_silent {n k : Nat} (hk : k + 1 < n) : judge n [(k, .dn)] = ([k], [], [k + 1]) := by
  have hends : ∀ l, endsOf n l [(k, Port.dn)] = (l == k, false) := by
    intro l
    simp only [endsOf, Prod.mk.injEq]
    constructor <;> rw [Bool.eq_iff_iff] <;> simp
  have hcut : (List.range n).filter (fun l => (endsOf n l [(k, Port.dn)]).1 || (endsOf n l [(k, Port.dn)]).2) = [k] :=
    filter_range_eq (by omega) fun l hl => by simp [hends l]
  simp only [judge, hcut]
  simp [hends k, Nat.mod_eq_of_lt hk]
  rfl

/-- One broken link leaves every device within reach of the root. -/
theorem reached_cut {n k p : Nat} (hp : p < n) (h0 : p ≠ 0) : ((reached n [k]).1.contains p || (reached n [k]).2.contains p) = true := by
  have hmem : p ∈ (List.range n).drop 1 := by
    rw [List.range_eq_range', List.drop_range', List.mem_range'_1]
    omega
  by_cases hpk : p ≤ k
  · have hsplit : (List.range n).drop 1 = List.range' 1 p ++ List.range' (p + 1) (n - 1 - p) := by
      rw [List.range_eq_range', List.drop_range', Nat.add_comm p 1, List.range'_append_1]
      congr 1
      omega
    have hdn : p ∈ (reached n [k]).1 := by
      simp only [reached]
      rw [hsplit, List.takeWhile_append_of_pos]
      · exact List.mem_append_left _ (List.mem_range'_1.2 (by omega))
      · intro a ha
        have := List.mem_range'_1.1 ha
        simp
        omega
    simp [hdn]
  · have hup : p ∈ (reached n [k]).2 := by
      simp only [reached, List.mem_filter]
      exact ⟨hmem, by simp; omega⟩
    simp [hup]

theorem postPartial_eq (a : RptAsm) (s : State) : ∃ r, postPartial a s = { s with rpt := r } := by
  unfold postPartial reportDue
  dsimp only
  split
  · split <;> exact ⟨_, rfl⟩
  · exact ⟨_, rfl⟩

theorem foldl_postPartial (l : List RptAsm) (s : State) : ∃ r, l.foldl (fun u a => postPartial a u) s = { s with rpt := r } :=
  foldl_chains (r := fun t u => ∃ r, u = { t with rpt := r }) (fun t => ⟨t.rpt, rfl⟩)
    (by
      rintro t _ _ ⟨r, rfl⟩ ⟨r', rfl⟩
      exact ⟨r', rfl⟩) (fun t a => postPartial_eq a t) l s

/-- The size of the ring as the root counts it. -/
def State.ringSize (s : State) : Nat := if s.arr.ring = 0 then s.crl.ntiles else s.arr.ring

/-- Both ends of a link report: a broken link, and every tile stays. -/
theorem breakDecision_both {s : State} {k : Nat} (hk : k + 1 < s.ringSize) (hn : 1 < s.crl.ntiles) (hcut : s.arr.cut = [])
    (honline : ∀ p ∈ s.crl.online, p < s.ringSize) (hbreaks : s.arr.breaks = [(k, .dn), (k + 1, .up)]) : ∃ r,
    breakDecision s = sendRoute (postEvent 0x08 k 0 { s with rpt := r, arr.breaks := [], arr.cut := [k], crl.openRing := true }) := by
  have hlost : s.crl.online.filter (fun p => p != 0 && (([] : List Nat).contains p ||
      !((reached s.ringSize [k]).1.contains p || (reached s.ringSize [k]).2.contains p))) = [] := by
    refine List.filter_eq_nil_iff.2 fun p hp => ?_
    by_cases h0 : p = 0
    · simp [h0]
    · simp only [reached_cut (honline p hp) h0]
      simp
  obtain ⟨r, hpart⟩ := foldl_postPartial ((s.rpt.asm.filter (fun a => !([] : List Nat).contains a.tile && ranOver [k] a.tile s))) s
  refine ⟨r, ?_⟩
  unfold breakDecision
  dsimp only
  rw [show (if s.arr.ring = 0 then s.crl.ntiles else s.arr.ring) = s.ringSize from rfl, hbreaks, if_neg (by simp; omega), judge_both hk, hcut]
  have hdups : [k].eraseDups = [k] := rfl
  have hlinks : [k].filter (fun l => !([] : List Nat).contains l) = [k] := rfl
  simp only [List.flatMap_nil, List.nil_append, List.append_nil, hdups, hlost, List.isEmpty_nil, if_true, hpart, hlinks, List.foldl_nil,
    List.foldl_cons]

/-- One end reports: the member at the silent end is lost. -/
theorem breakDecision_silent {s : State} {k : Nat} (hk : k + 1 < s.ringSize) (hn : 1 < s.crl.ntiles) (hcut : s.arr.cut = [])
    (honline : s.crl.online = [0, k + 1]) (hasm : s.rpt.asm = []) (hbreaks : s.arr.breaks = [(k, .dn)]) : ∃ cut, k ∈ cut ∧ k + 1 ∈ cut ∧
    breakDecision s = lostReport (k + 1) (sendRoute { loseTile (k + 1) { s with
      arr.breaks := [], arr.cut := cut, crl.openRing := true } with host.memberLost := true }) := by
  have haround : [k + 1].flatMap (fun i => [(i + s.ringSize - 1) % s.ringSize, i]) = [k, k + 1] := by
    have hmod : (k + 1 + s.ringSize - 1) % s.ringSize = k := by
      rw [show k + 1 + s.ringSize - 1 = k + s.ringSize by omega, Nat.add_mod_right, Nat.mod_eq_of_lt (by omega)]
    exact congrArg (fun i => [i, k + 1]) hmod
  have hlost : ∀ r : List Nat × List Nat, s.crl.online.filter (fun p => p != 0 && ([k + 1].contains p || !(r.1.contains p || r.2.contains p))) = [k + 1] := by
    intro r
    rw [honline]
    simp
  refine ⟨[k, k, k + 1].eraseDups, by simp, by simp, ?_⟩
  unfold breakDecision
  dsimp only
  rw [show (if s.arr.ring = 0 then s.crl.ntiles else s.arr.ring) = s.ringSize from rfl, hbreaks, if_neg (by simp; omega), judge_silent hk, hcut]
  simp only [haround, hlost, hasm, List.nil_append, List.cons_append, List.isEmpty_cons, Bool.false_eq_true, if_false, List.filter_nil, List.foldl_nil,
    List.foldl_cons]

theorem collected_eq (s : State) : ∃ c a, collected s = { s with crl := c, arr := a } ∧ s.crl.fed c ∧ a.cut = s.arr.cut := by
  unfold collected
  split
  · split
    next g _ _ =>
      obtain ⟨c, h, hc⟩ := sendOn_fed g.2.1 1 g.1 (.assign g.1 g.2.2.2.eraseDups none) { s with arr.collect := none }
      obtain ⟨c', h', hc'⟩ := sendOn_fed g.2.1 1 0 .enum { s with crl := c, arr.collect := none, arr.probe := some g.2.1 }
      rw [assignTile, h, sendEnum, h']
      exact ⟨_, _, rfl, Crila.fed_trans hc hc', rfl⟩
    next => exact ⟨s.crl, s.arr, rfl, s.crl.fed_refl, rfl⟩
  · exact ⟨s.crl, s.arr, rfl, s.crl.fed_refl, rfl⟩

theorem loseReply_none {s : State} (hjob : s.ctx.job = none) (hdoomed : s.ctx.doomed = []) (k : Nat) : loseReply k s = s := by
  unfold loseReply
  simp only [hdoomed, List.map_nil, List.filter_nil, List.foldl_nil, hjob]
  rw [← hdoomed, ← hjob]

theorem endFetch_eq (k : Nat) (s : State) : ∃ b d, endFetch k s = { s with host.diagBusy := b, host.diagData := d } := by
  unfold endFetch
  split <;> exact ⟨_, _, rfl⟩

/-- A lost member without journal entries, commits and images: its event, and the ring without it. -/
theorem loseTile_alone {s : State} (hroot : s.isRoot = true) (hbuf : s.evt.buf.length < 64) (hjrn : s.jrn = []) (hjob : s.ctx.job = none)
    (hdoomed : s.ctx.doomed = []) (hasm : s.rpt.asm = []) (k : Nat) : ∃ b d a c, loseTile k s = { s with
      host.diagBusy := b, host.diagData := d, arr := a, crl := c, pwr.contactTiles := s.pwr.contactTiles.filter (· != k)
      evt.buf := s.evt.buf ++ [{ code := 0x09, tile := 0, epoch := s.epoch, d0 := k % 2 ^ 32, d1 := 0 }] } ∧
      c.online = s.crl.online.filter (· != k) ∧ a.cut = s.arr.cut := by
  obtain ⟨b, d, hfetch⟩ := endFetch_eq k s
  have hparts : ∀ t : State, t.jrn = [] → loseParts k t = t := by
    intro t ht
    rw [loseParts, ht]
    rfl
  unfold loseTile
  dsimp only
  rw [hfetch, hasm, List.filter_nil, List.foldl_nil, postEvent_joins (by exact isMember_of_root hroot) (by exact hbuf), hparts _ (by exact hjrn),
    loseReply_none (by exact hjob) (by exact hdoomed)]
  obtain ⟨c, a, h, ⟨_, _, _, _, _, _, _, _, rfl, -⟩, hcut⟩ := collected_eq { s with
    host.diagBusy := b, host.diagData := d
    crl.online := s.crl.online.filter (· != k), pwr.contactTiles := s.pwr.contactTiles.filter (· != k)
    arr.rejoins := s.arr.rejoins.filter (fun r => r.tile != k), arr.ctxWait := s.arr.ctxWait.filter (· != k)
    arr.fwUpdate := s.arr.fwUpdate.filter (fun u => u.2.1 != k), arr.resetMember := s.arr.resetMember.filter (fun r => r.2 != k)
    evt.buf := s.evt.buf ++ [{ code := 0x09, tile := 0, epoch := s.epoch, d0 := k % 2 ^ 32, d1 := 0 }] }
  exact ⟨b, d, a, _, h, rfl, hcut⟩

/-! ### A link that is back (07 R229) -/

theorem flushQueue_eq (k : Nat) (s : State) : ∃ c q y, flushQueue k s = { s with crl := c, arr.queue := q, arr.quiet := y } ∧ s.crl.fed c := by
  obtain ⟨c, q, h, hc⟩ := foldl_fed (fun t f => by
    obtain ⟨c, h, hc⟩ := sendFrame_fed f t
    exact ⟨c, t.arr.queue, h, hc⟩) (s.arr.queue.filter (fun f => f.dst == k))
    { s with arr.quiet := s.arr.quiet.filter (· != k), arr.queue := s.arr.queue.filter (fun f => f.dst != k) }
  exact ⟨c, q, _, h, hc⟩

theorem sendStored_eq (k : Nat) (s : State) : ∃ c q, sendStored k s = { s with crl := c, arr.queue := q } ∧ s.crl.fed c := by
  unfold sendStored
  split
  · exact ⟨s.crl, s.arr.queue, rfl, s.crl.fed_refl⟩
  · exact sendMsg_fed ..

theorem probeAgain_eq (s : State) : ∃ c x u, probeAgain s = { s with crl := c, arr.probe := x, arr.upward := u } ∧ s.crl.fed c ∧
    (s.arr.probe = none → s.arr.forming = true ∨ (((List.range s.arr.ring).drop 1).all (fun i => s.crl.online.contains i)) = true → x = none) := by
  unfold probeAgain
  split
  · exact ⟨s.crl, s.arr.probe, s.arr.upward, rfl, s.crl.fed_refl, fun h _ => h⟩
  next h =>
    obtain ⟨c, hsend, hc⟩ := sendOn_fed .dn 1 0 .enum { s with arr.upward := false, arr.probe := some .dn }
    exact ⟨c, _, _, hsend, hc, fun _ hwhole => absurd (by
      rw [Bool.or_eq_true, Bool.or_eq_true]
      exact hwhole.imp .inl id) h⟩

theorem mended_cut {p : Port} {k : Nat} {s : State} (hquiet : k ∉ s.arr.quiet) (hcut : s.arr.cut = [k]) :
    s.arr.cut.filter (fun l => !(mended p k s).contains l) = [] := by
  have hk : k ∈ mended p k s := by
    simp only [mended, hcut]
    rw [if_neg (by simpa using hquiet)]
    cases p with
    | up => simp
    | dn => simpa using fun h => h.symm
  rw [hcut, List.filter_cons_of_neg (by simp [hk]), List.filter_nil]

/-- The root sends a member's image, ROUTE and, where a device is missing, a probe. -/
theorem probeAgain_route {s : State} (hroot : s.isRoot = true) (k : Nat) : ∃ c a w, probeAgain (sendRoute (sendStored k s)) =
      { s with crl := c, arr := a, crook.waiting := w } ∧ a.cut = s.arr.cut ∧ c.openRing = s.crl.openRing ∧ c.online = s.crl.online ∧
      (s.arr.probe = none → s.arr.forming = true ∨ (((List.range s.arr.ring).drop 1).all (fun i => s.crl.online.contains i)) = true → a.probe = none) := by
  obtain ⟨_, q, hstored, ⟨_, _, _, _, _, _, _, _, rfl, -⟩⟩ := sendStored_eq k s
  rw [hstored]
  generalize hu : ({ s with crl := _, arr.queue := q } : State) = u
  have hsame : u.crl.online = s.crl.online ∧ u.crl.openRing = s.crl.openRing ∧ u.arr = { s.arr with queue := q } ∧
      (∀ c a w, ({ u with crl := c, arr := a, crook.waiting := w } : State) = { s with crl := c, arr := a, crook.waiting := w }) := by
    rw [← hu]
    exact ⟨rfl, rfl, rfl, fun _ _ _ => rfl⟩
  obtain ⟨honline, hopen, harr, hset⟩ := hsame
  obtain ⟨c, q', w, hroute, h1, h2, -⟩ := sendRoute_root (s := u) (by rw [← hu]; exact hroot)
  obtain ⟨_, x, y, hprobe, ⟨_, _, _, _, _, _, _, _, rfl, -⟩, hnone⟩ := probeAgain_eq (sendRoute u)
  rw [hprobe, hroute]
  rw [hroute] at hnone
  refine ⟨_, _, w, hset _ { u.arr with queue := q', probe := x, upward := y } w, by rw [harr], h2.trans hopen, h1.trans honline, fun hp hw => hnone ?_ ?_⟩
  · exact Eq.trans (by rw [harr]) hp
  · rw [show ({ u with crl := c, arr.queue := q', crook.waiting := w } : State).crl.online = s.crl.online from h1.trans honline]
    exact hw.imp (fun h => Eq.trans (by rw [harr]) h) (fun h => by simpa [harr] using h)

/-- The link of a member that stayed online is back (07 R229). -/
theorem helloRetained_online {s : State} (hroot : s.isRoot = true) {k : Nat} (hk : k ∈ s.crl.online) (hquiet : k ∉ s.arr.quiet) (hcut : s.arr.cut = [k])
    (p : Port) (gen : Nat) : ∃ c a w, helloRetained p k gen s = { s with crl := c, arr := a, crook.waiting := w } ∧ a.cut = [] ∧ c.openRing = false ∧
      c.online = s.crl.online ∧
      (s.arr.forming = true ∨ (((List.range s.arr.ring).drop 1).all (fun i => s.crl.online.contains i)) = true → a.probe = none) := by
  obtain ⟨_, q1, y, hflush, ⟨a0, a1, a2, b0, b1, b2, w', n', rfl, -⟩⟩ := flushQueue_eq k { s with arr.probe := none }
  unfold helloRetained
  dsimp only
  rw [mended_cut hquiet hcut, hflush]
  dsimp only
  rw [if_pos (by simpa using hk)]
  obtain ⟨c, a, w, h, h1, h2, h3, h4⟩ := probeAgain_route (s := { s with
    crl := { s.crl with up := { s.crl.up with q0 := a0, q1 := a1, q2 := a2 }, dn := { s.crl.dn with q0 := b0, q1 := b1, q2 := b2 }, wrap := w',
                        msgNum := n', openRing := !([] : List Nat).isEmpty && s.crl.openRing }
    arr := { s.arr with probe := none, queue := q1, quiet := y, cut := [] } }) hroot k
  exact ⟨c, a, w, h, h1, h2, h3, fun hw => h4 rfl hw⟩

end Sys2Proof.Machine

open Sys2Proof Sys2Proof.Machine

/-- Settles O52: a member obeys ROUTE (`applyRoute_member`); the root judges its breaks (`breakDecision_both`, `breakDecision_silent`) and mends
the link that a retained HELLO came over. -/
theorem linkAndMemberLoss : Obligations.LinkAndMemberLoss := by
  unfold Obligations.LinkAndMemberLoss
  intro dirs online seams map ring cut k p s hlink hm hinbox n
  refine ⟨fun hmember => ?_, fun hroot => ⟨?_, fun hbreaks => ?_, fun h0 hk hn hnt hcut hall hbuf hbreaks => ?_,
    fun h0 hk hn hnt hcut honline hbuf hjrn hjob hdoomed hasm htable hbreaks => ?_, fun hk hon hquiet hcut => ?_⟩⟩
  · obtain ⟨⟨h1, h2, h3, h4, h5, h6, h7, h8, h9, hlent, hen, hoff⟩, hback, hlost⟩ := applyRoute_member hmember dirs online seams map ring cut
    have hexec : exec (.route dirs online seams map ring cut) s = answer s (applyRoute dirs online seams map ring cut s) := by
      change execRoute dirs online seams map ring cut s = _
      rw [execRoute, if_pos (by simp [hmember, hlink]), consume_empty hinbox]
    generalize applyRoute dirs online seams map ring cut s = t at *
    refine completes_answer hexec ⟨h1, h2, h3, h4, h5, h6, h7, h8, h9, ?_, ?_, hback, hlost, ?_, ?_⟩
    · refine List.all_eq_true.2 fun x hx => ?_
      have hx' : x ∈ t.crl.lent := hx
      rw [hlent] at hx'
      exact (List.mem_filter.1 hx').2
    · rw [← Bool.and_eq_true, ← hen]
    · rintro rfl
      refine hoff.trans ?_
      simp
    · rintro rfl
      exact hoff
  · have hexec : exec (.breakReport k p) s = answer s { s with arr.breaks := s.arr.breaks.filter (· != (k, p)) ++ [(k, p)] } := by
      change execBreakReport k p s = _
      rw [execBreakReport, if_pos (by simp [hroot, hlink]), consume_empty hinbox]
    refine completes_answer hexec ⟨by simp, rfl, ?_⟩
    simp
  · change execBreakDecision s = _
    rw [execBreakDecision, if_pos (by simp [hroot, hlink]), breakDecision, if_pos (by simp [hbreaks])]
    exact answer_of_wf s s hm rfl
  · have hexec : exec .breakDecision s = answer s (breakDecision s) := by
      change execBreakDecision s = _
      rw [execBreakDecision, if_pos (by simp [hroot, hlink])]
    obtain ⟨r, hdecide⟩ := breakDecision_both hk hnt hcut (fun p hp => of_decide_eq_true (List.all_eq_true.1 hall p hp)) hbreaks
    rw [hdecide, postEvent_joins (by exact isMember_of_root hroot) (by exact (show s.evt.buf.length < 64 by omega))] at hexec
    obtain ⟨c, q, w, hroute, h1, h2, h3⟩ := sendRoute_root (s := { s with
      rpt := r, arr.breaks := [], arr.cut := [k], crl.openRing := true
      evt.buf := s.evt.buf ++ [{ code := 0x08, tile := 0, epoch := s.epoch, d0 := k % 2 ^ 32, d1 := 0 % 2 ^ 31 }] }) hroot
    rw [hroute] at hexec
    refine completes_answer hexec ⟨rfl, rfl, h2, h1, ?_, rfl⟩
    rw [Nat.mod_eq_of_lt (show k < 2 ^ 32 by omega)]
    rfl
  · have hexec : exec .breakDecision s = answer s (breakDecision s) := by
      change execBreakDecision s = _
      rw [execBreakDecision, if_pos (by simp [hroot, hlink])]
    obtain ⟨cut', hk1, hk2, hsilent⟩ := breakDecision_silent hk hnt hcut honline hasm hbreaks
    obtain ⟨b, d, a, c, hlose, hc, ha⟩ := loseTile_alone (s := { s with arr.breaks := [], arr.cut := cut', crl.openRing := true })
      hroot (show s.evt.buf.length < 64 by omega) hjrn hjob hdoomed hasm (k + 1)
    rw [hsilent] at hexec
    generalize loseTile (k + 1) { s with arr.breaks := [], arr.cut := cut', crl.openRing := true } = u at hexec hlose
    obtain ⟨c', q, w, hroute, h1, -, -⟩ := sendRoute_root (s := { u with host.memberLost := true }) (by rw [hlose]; exact hroot)
    have htable' : u.rings.tableValid = true := by rw [hlose]; exact htable
    rw [hroute, lostReport, reportDue, if_pos (by exact htable')] at hexec
    refine completes_answer hexec ⟨?_, ?_, h1.trans ?_, rfl, ?_, ?_, ?_, ?_⟩
    · have hcut' : u.arr.cut = cut' := by rw [hlose]; exact ha
      exact hcut' ▸ hk1
    · have hcut' : u.arr.cut = cut' := by rw [hlose]; exact ha
      exact hcut' ▸ hk2
    · have hrest : u.crl.online = [0, k + 1].filter (· != k + 1) := by rw [hlose]; exact hc.trans (by rw [honline])
      exact hrest.trans (by simp)
    · have htiles : u.pwr.contactTiles = s.pwr.contactTiles.filter (· != k + 1) := by rw [hlose]
      rw [show ({ u with host.memberLost := true } : State).pwr.contactTiles = _ from htiles]
      simp
    · have hevt : u.evt.buf = s.evt.buf ++ [{ code := 0x09, tile := 0, epoch := s.epoch, d0 := (k + 1) % 2 ^ 32, d1 := 0 }] := by rw [hlose]
      refine Eq.trans hevt ?_
      rw [Nat.mod_eq_of_lt (show k + 1 < 2 ^ 32 by omega)]
    · have hdue : u.rpt.due = s.rpt.due := by rw [hlose]
      simp [hdue]
    · have hepoch : u.epoch = s.epoch := by rw [hlose]
      simp [hepoch]
  · have hexec : exec (.hello p true k s.ctx.gen) s = answer s (helloRetained p k s.ctx.gen s) := by
      change execHello p true k s.ctx.gen s = _
      rw [execHello, if_neg (by simp [hroot, hlink]), consume_empty hinbox, Nat.mod_eq_of_lt hk]
      rfl
    obtain ⟨c, a, w, h, h1, h2, h3, h4⟩ := helloRetained_online hroot hon hquiet hcut p s.ctx.gen
    rw [h] at hexec
    exact completes_answer hexec ⟨h1, h2, h3, h4⟩

end

section
/-! What members send the root (07 R200, R227, 10 R292, R295): the parts of a report, events, completions and images read back. -/

namespace Sys2Proof.Machine

/-! ### Parts filed by their number -/

theorem assoc_zip_range' {α : Type} (ps : List α) (k i : Nat) : assoc (List.zip (List.range' k ps.length) ps) (k + i) = ps[i]? := by
  induction ps generalizing k i with
  | nil => simp [assoc]
  | cons p ps ih =>
    rw [List.length_cons, List.range'_succ, List.zip_cons_cons]
    cases i with
    | zero => simp [assoc]
    | succ i =>
      have h := ih (k + 1) i
      rw [show k + 1 + i = k + (i + 1) by omega] at h
      simpa [assoc] using h

theorem assoc_zip_range {α : Type} {ps : List α} {n : Nat} (h : ps.length = n) (i : Nat) : assoc (List.zip (List.range n) ps) i = ps[i]? := by
  have hz := assoc_zip_range' ps 0 i
  rwa [h, ← List.range_eq_range', Nat.zero_add] at hz

theorem flatMap_assoc_zip {ps : List (List Byte)} {n : Nat} (h : ps.length = n) :
    (List.range n).flatMap (fun i => (assoc (List.zip (List.range n) ps) i).getD []) = ps.flatten := by
  rw [List.flatMap_def]
  congr 1
  refine List.ext_getElem (by simp [h]) fun i h1 h2 => ?_
  simp [assoc_zip_range h, List.getElem?_eq_getElem h2]

/-- The last part joins the ones before it. -/
theorem file_last {α : Type} {ps : List α} {n : Nat} (h : ps.length = n + 1) (d : α) :
    file (List.zip (List.range n) ps) n (ps.getD n d) = List.zip (List.range (n + 1)) ps := by
  have hsplit : ps = ps.take n ++ [ps.getD n d] := by
    rw [List.getD_eq_getElem _ _ (by omega), List.take_append_getElem (by omega), List.take_of_length_le (by omega)]
  have hzip : List.zip (List.range n) ps = List.zip (List.range n) (ps.take n) := by
    rw [List.zip_eq_zip_take_min, List.length_range, h, Nat.min_eq_left (by omega), List.take_of_length_le (by simp)]
  have hfile : (List.zip (List.range n) ps).filter (·.1 != n) = List.zip (List.range n) ps := by
    refine List.filter_eq_self.2 fun x hx => ?_
    have hx' := List.mem_range.1 (List.of_mem_zip (a := x.1) (b := x.2) hx).1
    simp
    omega
  rw [file, hfile, List.range_succ, hzip]
  conv_rhs => rw [hsplit]
  rw [List.zip_append (by simp [h])]
  rfl

/-! ### A report's frames at the root (07 R227) -/

theorem consume_eq (m : Msg → Bool) (s : State) : ∃ c, consume m s = { s with crl := c } := by
  unfold consume freeBuffer
  split
  · exact ⟨s.crl, rfl⟩
  · dsimp only
    split <;> exact ⟨_, rfl⟩

theorem consume_only {s : State} {f : CFrame} (h : s.crl.inbox = [f]) {m : Msg → Bool} (hm : m f.msg = true) :
    ∃ c, consume m s = { s with crl := c } ∧ c.inbox = [] := by
  unfold consume freeBuffer
  rw [h]
  simp only [List.find?_cons, hm]
  split <;> exact ⟨_, rfl, by simp⟩

/-- A frame of a report's image. -/
def isPart (epoch part : Nat) : Msg → Bool
  | .report e p _ _ => e == epoch && p == part
  | _ => false

theorem execReportFrame_online {s : State} (hroot : s.isRoot = true) (hclk : s.clk.core = true) {tile part : Nat} (h0 : 0 < tile)
    (hon : tile ∈ s.crl.online) (hpart : part < 17) (epoch : Nat) (data : List Byte) : exec (.reportFrame tile epoch part data) s = answer s
      (takeReportPart tile epoch part data (consume (isPart epoch part) (noteContact tile epoch part s))) := by
  have hline : s.isOnline tile = true := by simp [State.isOnline, hroot, hon]
  change execReportFrame tile epoch part data s = _
  rw [execReportFrame, if_neg (by simp [hroot, hclk, hline]; omega)]
  rfl

/-- The bytes of a report's image, from parts of the lengths of its frames. -/
theorem length_whole {ps : List (List Byte)} (h : ps.map (·.length) = 120 :: List.replicate 15 128 ++ [72]) : ps.length = 17 ∧
    ps.flatten.length = 2112 ∧ (ps.getD 16 []).length = 72 ∧ (ps.getD 0 []).length = 120 := by
  have hget : ∀ i, (ps.getD i []).length = (120 :: List.replicate 15 128 ++ [72]).getD i 0 := by
    intro i
    rw [← h, List.getD_eq_getElem?_getD, List.getD_eq_getElem?_getD, List.getElem?_map]
    cases ps[i]? <;> rfl
  refine ⟨?_, ?_, hget 16, hget 0⟩
  · rw [← List.length_map (·.length), h]
    rfl
  · rw [List.length_flatten, h]
    rfl

/-- The last frame of an image completes and posts it. -/
theorem takeReportPart_last {ps : List (List Byte)} (hwhole : ps.map (·.length) = 120 :: List.replicate 15 128 ++ [72]) {tile epoch : Nat} {s : State}
    (htable : s.rings.tableValid = true) (hreset : s.arr.resetMember = none)
    (hasm : s.rpt.asm = [{ tile := tile, epoch := epoch, parts := List.zip (List.range 16) ps }]) :
    takeReportPart tile epoch 16 (ps.getD 16 []) s = { s with
      rpt.asm := [], rpt.due := s.rpt.due ++ [{ tile := tile, epoch := epoch, nrec := leAt ps.flatten 5 1, image := ps.flatten }] } := by
  obtain ⟨hlen, hflat, h16, -⟩ := length_whole hwhole
  have hpad : padTo 72 (ps.getD 16 []) = ps.getD 16 [] := padTo_of_length h16
  have himg : padTo 2112 ((List.range 17).flatMap (fun i => (assoc (List.zip (List.range 17) ps) i).getD [])) = ps.flatten := by
    rw [flatMap_assoc_zip hlen]
    exact padTo_of_length hflat
  unfold takeReportPart
  simp only [hasm, List.find?_cons, BEq.rfl, Bool.and_self, Option.getD_some, show (16 : Nat) ≠ 0 by decide, if_false, if_true, hpad, file_last hlen]
  have hcount : (List.zip (List.range 17) ps).length = 17 := by simp [hlen]
  have hrest : [({ tile := tile, epoch := epoch, parts := List.zip (List.range 16) ps } : RptAsm)].filter
      (fun a => !(a.tile == tile && a.epoch == epoch)) = [] := by simp
  rw [if_neg (by simp only [hcount]; decide), himg, hrest, reportDue, if_pos (by exact htable)]
  simp only [hreset]

/-- A frame of an image that has none yet waits for the others. -/
theorem takeReportPart_first {tile epoch part : Nat} (data : List Byte) {s : State} (hasm : s.rpt.asm = []) : ∃ a,
    takeReportPart tile epoch part data s = { s with rpt.asm := [a] } ∧ (a.tile, a.epoch, a.parts.map (·.1)) = (tile, epoch, [part]) := by
  refine ⟨{ tile := tile, epoch := epoch, parts := [(part, padTo (if part = 0 then 120 else if part = 16 then 72 else 128) data)] }, ?_, rfl⟩
  unfold takeReportPart
  simp [hasm, file]

/-! ### An image cut short (07 R227) -/

theorem getD_patch {bs xs : List Byte} {o : Nat} (h : o + xs.length ≤ bs.length) (i : Nat) :
    (patch bs o xs).getD i 0 = if o ≤ i ∧ i < o + xs.length then xs.getD (i - o) 0 else bs.getD i 0 := by
  have hlen : (bs.take o ++ xs ++ bs.drop (o + xs.length)).length = bs.length := by
    simp only [List.length_append, List.length_take, List.length_drop]
    omega
  rw [patch, List.take_of_length_le (by omega)]
  simp only [List.getD_eq_getElem?_getD, List.getElem?_append, List.length_append, List.length_take, List.getElem?_take, List.getElem?_drop]
  rw [Nat.min_eq_left (by omega)]
  by_cases h1 : i < o
  · rw [if_pos (by omega), if_pos h1, if_pos h1, if_neg (by omega)]
  · by_cases h2 : i < o + xs.length
    · rw [if_pos (by omega), if_neg h1, if_pos (by omega)]
    · rw [if_neg h2, if_neg (by omega), show o + xs.length + (i - (o + xs.length)) = i by omega]

theorem length_patch {bs xs : List Byte} {o : Nat} (h : o + xs.length ≤ bs.length) : (patch bs o xs).length = bs.length := by
  rw [patch, List.length_take, List.length_append, List.length_append, List.length_take, List.length_drop]
  omega

/-- An image of which the first frame alone arrived: its header says how many records that holds, and that the image is cut short. -/
theorem partialImage_first {raw : List Byte} (hraw : raw.length = 120) (tile epoch : Nat) : ∃ r,
    partialImage { tile := tile, epoch := epoch, parts := [(0, raw)] } = some r ∧ r.tile = tile ∧ r.epoch = epoch ∧ r.nrec = min (leAt raw 5 1) 1 ∧
    r.image.length = 2112 ∧ leAt r.image 5 1 = min (leAt raw 5 1) 1 ∧ leAt r.image 8 1 / 32 % 2 = 1 ∧ r.image.take 5 = raw.take 5 := by
  have hn : ((List.range 17).takeWhile (fun i => (assoc [(0, raw)] i).isSome)).length = 1 := rfl
  have hjoin : (List.range 1).flatMap (fun i => (assoc [(0, raw)] i).getD []) = raw := by simp [assoc, List.range_succ]
  have hlt : min (leAt raw 5 1) 1 < 256 := by omega
  have hfit1 : 5 + (leBytes 1 (min (leAt raw 5 1) 1)).length ≤ (raw.take 64).length := by
    rw [length_leBytes, List.length_take]
    omega
  have hlen1 : (patch (raw.take 64) 5 (leBytes 1 (min (leAt raw 5 1) 1))).length = 64 := by
    rw [length_patch hfit1, List.length_take]
    omega
  have hfit2 : 8 + [raw.getD 8 0 ||| 0x20#8].length ≤ (patch (raw.take 64) 5 (leBytes 1 (min (leAt raw 5 1) 1))).length := by
    rw [hlen1]
    simp
  generalize hh : patch (patch (raw.take 64) 5 (leBytes 1 (min (leAt raw 5 1) 1))) 8 [raw.getD 8 0 ||| 0x20#8] = h at *
  have hlenh : h.length = 64 := by rw [← hh, length_patch hfit2, hlen1]
  have hbyte : ∀ i, i < 64 → ∀ rest, (padTo 2112 (h ++ rest)).getD i 0 = if i = 8 then raw.getD 8 0 ||| 0x20#8
      else if i = 5 then (leBytes 1 (min (leAt raw 5 1) 1)).getD 0 0 else raw.getD i 0 := by
    intro i hi rest
    rw [getD_padTo (by omega), List.getD_append _ _ _ _ (by omega), ← hh, getD_patch hfit2, getD_patch hfit1, length_leBytes]
    by_cases h8 : i = 8
    · subst h8
      rfl
    · rw [if_neg (by simp only [List.length_singleton]; omega), if_neg h8]
      by_cases h5 : i = 5
      · subst h5
        rfl
      · rw [if_neg (by omega), if_neg h5]
        simp only [List.getD_eq_getElem?_getD, List.getElem?_take_of_lt hi]
  refine ⟨{ tile := tile, epoch := epoch, nrec := min (leAt raw 5 1) 1
            image := padTo 2112 (h ++ (raw.drop 64).take (32 * min (leAt raw 5 1) 1)) }, ?_, rfl, rfl, rfl, length_padTo _ _, ?_, ?_, ?_⟩
  · unfold partialImage
    dsimp only
    rw [hn, if_neg (by decide), hjoin, hraw]
    exact congrArg _ (by rw [← hh])
  · rw [leAt_one, hbyte 5 (by decide), if_neg (by decide), if_pos rfl]
    simp [leBytes]
  · rw [leAt_one, hbyte 8 (by decide), if_pos rfl]
    have hset : ∀ b : BitVec 8, (b ||| 0x20#8).toNat / 32 % 2 = 1 := by decide
    exact hset _
  · refine List.ext_getElem ?_ fun i h1 h2 => ?_
    · rw [List.length_take, List.length_take, length_padTo, hraw]
      rfl
    · have hi : i < 5 := by rw [List.length_take] at h1; omega
      rw [List.getElem_take, List.getElem_take, ← List.getD_eq_getElem _ 0, ← List.getD_eq_getElem _ 0, hbyte i (by omega), if_neg (by omega),
        if_neg (by omega)]

/-! ### Events and completions at the root (10 R293, R295, 18 R486) -/

theorem bankFromBoot_keeps {tile : Nat} {s : State} (h : tile ≠ s.tile) (b : Nat) : ∃ c q, bankFromBoot tile b s = { s with crl := c, arr.queue := q } := by
  unfold bankFromBoot
  split
  · exact ⟨s.crl, s.arr.queue, rfl⟩
  next g hg =>
    rw [if_neg h]
    obtain ⟨c, q, h1⟩ := sendMsg_eq 1 tile (.cmd bankNum { opcode := 0x24, ord := false, dfence := false, rsv := false, tag := 0, tile := tile, a0 := 0
                                                           a1 := g.1, addr := 0, p0 := leAt (bootCopy s) 0x1004 4, p1 := 0, p2 := 0, p3 := 0 }) s
    obtain ⟨c', q', h2⟩ := sendMsg_eq 2 tile (.ctxData 0 bankNum g.2 3) { s with crl := c, arr.queue := q }
    rw [h1, h2]
    exact ⟨c', q', rfl⟩

/-- An event of a member: what its buffer makes of it, and a PARITY event counted (18 R486). -/
theorem exec_eventMessage {s : State} (hroot : s.isRoot = true) (hclk : s.clk.core = true) (hinbox : s.crl.inbox = []) {tile : Nat} (h0 : 0 < tile)
    (htile : tile < 64) (code epoch d0 d1 : Nat) : ∃ t u : State, exec (.eventMessage tile code epoch d0 d1) s = answer s t ∧
      u = bufferEvent { code := code, tile := tile, epoch := epoch, d0 := d0 % 2 ^ 32, d1 := d1 % 2 ^ 31 } s ∧ t.evt = u.evt ∧
      (code = 0x0E → t.host = { u.host with parity := true, cntParity := cnt 8 u.host.cntParity 1 }) ∧ (code ≠ 0x0E → t = u) := by
  have hexec : exec (.eventMessage tile code epoch d0 d1) s = execEventMessage tile code epoch d0 d1 s := rfl
  rw [execEventMessage, if_neg (by simp [hroot, hclk]), consume_empty hinbox] at hexec
  dsimp only at hexec
  rw [Nat.mod_eq_of_lt htile] at hexec
  refine ⟨_, _, hexec, rfl, ?_⟩
  have hside : ∀ t : State, t.isRoot = true → countParityEvent t = { t with host.parity := true, host.cntParity := cnt 8 t.host.cntParity 1 } := by
    intro t ht
    have ht' : t.hostSide = true := by simp only [State.hostSide, State.isRoot] at *; simp [ht]
    rw [countParityEvent, if_pos ht']
  have hbuf : (bufferEvent { code := code, tile := tile, epoch := epoch, d0 := d0 % 2 ^ 32, d1 := d1 % 2 ^ 31 } s).isRoot = true := by
    rcases bufferEvent_eq { code := code, tile := tile, epoch := epoch, d0 := d0 % 2 ^ 32, d1 := d1 % 2 ^ 31 } s with h | h <;> rw [h] <;> exact hroot
  generalize bufferEvent { code := code, tile := tile, epoch := epoch, d0 := d0 % 2 ^ 32, d1 := d1 % 2 ^ 31 } s = u at *
  by_cases hcode : code = 0x0E
  · rw [if_neg (by simpa using hcode), hside u hbuf]
    have htile0 : tile ≠ u.tile := by
      rw [State.tile, if_neg (by rw [isMember_of_root hbuf]; decide)]
      omega
    split
    · exact ⟨rfl, fun _ => rfl, fun h => absurd hcode h⟩
    · split
      · obtain ⟨c, q, h⟩ := bankFromBoot_keeps (tile := tile) (s := { u with host.parity := true, host.cntParity := cnt 8 u.host.cntParity 1 }) htile0
          (d0 / 65536 % 2)
        rw [h]
        exact ⟨rfl, fun _ => rfl, fun h => absurd hcode h⟩
      · unfold askRetained
        split <;> exact ⟨rfl, fun _ => rfl, fun h => absurd hcode h⟩
  · rw [if_pos hcode]
    exact ⟨rfl, fun h => absurd h hcode, fun _ => rfl⟩

/-- A completion of a member: its tile's part of a command that asks nothing else of the root. -/
theorem exec_cplMessage {s : State} (hroot : s.isRoot = true) (hclk : s.clk.core = true) (hinbox : s.crl.inbox = []) {num tile : Nat} {e : JEntry}
    (he : s.entry num = some e) (htile : tile ∈ e.tiles) (hop : e.d.opcode = 0x20 ∨ e.d.opcode = 0x41) (code r0 r1 : Nat) :
    exec (.cplMessage tile num code r0 r1) s = answer s (tilePart num tile code r0 r1 s) := by
  have hexec : exec (.cplMessage tile num code r0 r1) s = execCplMessage tile num code r0 r1 s := rfl
  rw [hexec, execCplMessage, if_neg (by simp [hroot, hclk]), consume_empty hinbox]
  simp only [he]
  rw [if_neg (by simpa using htile)]
  rcases hop with h | h <;> simp only [h]

/-- The only part that a command waits for ends it. -/
theorem tilePart_only {s : State} {num tile : Nat} {e : JEntry} (he : s.entry num = some e) (hstage : e.stage = .issued) (htiles : e.tiles = [tile])
    (hcode : e.code = 0) (hsum : summed e.d.opcode = false) {code : Nat} (hown : code ≠ 0 ∨ e.d.tile ≠ 0xFF) (r0 r1 : Nat) :
    (tilePart num tile code r0 r1 s).entry num = some { e with stage := .applied, wait := .start, code := code, r0 := r0, r1 := r1
                                                               ctile := if code = 0 then e.ctile else tile, tiles := [] } := by
  have hpart : e.part tile code r0 r1 = { e with tiles := [], code := code, r0 := r0, r1 := r1, ctile := if code = 0 then e.ctile else tile } := by
    by_cases h : code = 0
    · subst h
      have hff : e.d.tile ≠ 0xFF := by simpa using hown
      simp [JEntry.part, htiles, hcode, hsum, hff]
    · simp [JEntry.part, htiles, hcode, hsum, h]
  have hset : (s.setEntry num (fun _ => e.part tile code r0 r1)).entry num = some (e.part tile code r0 r1) :=
    State.entry_setEntry_some he fun _ _ _ => ⟨(State.cmd_of_entry he).1, by simp [hpart, hstage]⟩
  rw [tilePart_awaited he hstage (by simp [htiles]), if_pos (by rw [hpart]; rfl), finish_entry hset (by rw [hpart]; exact hstage), hpart]

/-- A part that ends while others are awaited. -/
theorem tilePart_more {s : State} {num tile : Nat} {e : JEntry} (he : s.entry num = some e) (hstage : e.stage = .issued)
    (htiles : e.tiles = [tile, tile + 1]) (code r0 r1 : Nat) :
    ((tilePart num tile code r0 r1 s).entry num).map (fun x => (x.stage, x.tiles)) = some (.issued, [tile + 1]) := by
  have hrest : (e.part tile code r0 r1).tiles = [tile + 1] := by simp [JEntry.part, htiles]
  have hkeep : (e.part tile code r0 r1).stage = .issued := hstage
  rw [tilePart_awaited he hstage (by simp [htiles]), if_neg (by simp [hrest]),
    State.entry_setEntry_some (f := fun _ => e.part tile code r0 r1) he fun _ _ _ => ⟨(State.cmd_of_entry he).1, by rw [hkeep]; decide⟩]
  simp [hrest, hkeep]

/-- An image that a member sends for READ_CONTEXT. -/
theorem exec_captureMessage {s : State} (hroot : s.isRoot = true) (hclk : s.clk.core = true) (hinbox : s.crl.inbox = []) {num tile : Nat} {e : JEntry}
    (he : s.entry num = some e) (htile : tile ∈ e.tiles) (hop : e.d.opcode = 0x13) (data : List Byte) :
    exec (.captureMessage tile num data) s = answer s (if s.dmaOk then tilePart num tile 0 (leAt data 0 1) (leAt (data.drop 1) 0x00C 4)
      (hostWrite e.d.addr (data.drop 1) true s) else s) := by
  have hexec : exec (.captureMessage tile num data) s = execCaptureMessage tile num data s := rfl
  rw [hexec, execCaptureMessage, if_neg (by simp [hroot, hclk]), consume_empty hinbox]
  simp only [he]
  rw [if_neg (by simpa using htile)]
  cases s.dmaOk
  · rfl
  · simp only [hop]
    rfl

end Sys2Proof.Machine

open Sys2Proof Sys2Proof.Machine

/-- Settles O54: each message of a member by what the root makes of it, `takeReportPart` for a report, `bufferEvent` for an event and `tilePart`
for a completion. -/
theorem membersReachTheRoot : Obligations.MembersReachTheRoot := by
  unfold Obligations.MembersReachTheRoot
  intro tile epoch num code r0 r1 d0 d1 ps e f present s hroot hclk hm h0 htile hon hreset whole
  refine ⟨fun hwhole htable hinbox hsrc hmsg hasm => ?_, fun hlen hasm hinbox hr0 => ?_, fun hwhole htable hasm => ?_,
    fun hinbox hbuf hd0 hd1 => ?_, fun hinbox hbuf hlost => ?_, fun hinbox he hstage hop => ⟨fun htiles hcode hown => ?_, fun htiles => ?_⟩,
    fun hinbox he hstage hop htiles hcode hown => ⟨fun hdma => ?_, fun hdma => ?_⟩⟩
  · have hexec := execReportFrame_online hroot hclk h0 hon (part := 16) (by decide) epoch (ps.getD 16 [])
    have hcontact : ∃ k, noteContact tile epoch 16 s = { s with pwr.contactTiles := k } ∧ (tile ∈ k ↔ present = true) := by
      unfold noteContact
      rw [hinbox]
      simp only [List.findSome?_cons, hmsg, hsrc, and_self, if_true]
      cases present with
      | true => exact ⟨_, rfl, by simp⟩
      | false => exact ⟨_, rfl, by simp⟩
    obtain ⟨k, hcontact, hk⟩ := hcontact
    obtain ⟨c, hcons, hc⟩ := consume_only (s := { s with pwr.contactTiles := k }) hinbox (m := isPart epoch 16) (by rw [hmsg]; simp [isPart])
    rw [hcontact, hcons, takeReportPart_last hwhole (by exact htable) (by exact hreset) (by exact hasm)] at hexec
    exact completes_answer hexec ⟨rfl, hc, hk, rfl⟩
  · have hexec := execReportFrame_online hroot hclk h0 hon hr0 epoch (ps.getD r0 [])
    have hcontact : noteContact tile epoch r0 s = s := by simp [noteContact, hinbox]
    obtain ⟨a, htake, ha⟩ := takeReportPart_first (tile := tile) (epoch := epoch) (part := r0) (ps.getD r0 []) hasm
    rw [hcontact, consume_empty hinbox, htake] at hexec
    exact completes_answer hexec ⟨rfl, congrArg (fun x => [x]) ha⟩
  · obtain ⟨-, -, -, hlen⟩ := length_whole hwhole
    obtain ⟨r, hr, h1, h2, h3, h4, h5, h6, h7⟩ := partialImage_first hlen tile epoch
    have hexec : exec (.reportImageDeadline tile epoch) s = answer s { s with rpt.asm := [], rpt.due := s.rpt.due ++ [r] } := by
      change execReportImageDeadline tile epoch s = _
      rw [execReportImageDeadline, hasm]
      simp only [List.find?_cons, BEq.rfl, Bool.and_self, hroot, if_true, postPartial, hasm, hr]
      rw [reportDue, if_pos (by exact htable)]
      simp
    refine completes_answer hexec ⟨rfl, by simp, fun i hi1 hi2 => ?_⟩
    have hi : i = s.rpt.due.length := by
      simp only [List.length_append, List.length_singleton] at hi1
      omega
    subst hi
    simp [h1, h2, h3, h4, h5, h6, h7]
  · obtain ⟨t, u, hexec, hu, hevt, hparity, helse⟩ := exec_eventMessage hroot hclk hinbox h0 htile code epoch d0 d1
    rw [bufferEvent, if_pos hbuf, Nat.mod_eq_of_lt hd0, Nat.mod_eq_of_lt hd1] at hu
    subst hu
    refine completes_answer hexec ⟨congrArg Events.buf hevt, fun h => ?_, fun h => ?_⟩
    · have hh := hparity h
      exact ⟨congrArg HostPort.parity hh, congrArg HostPort.cntParity hh⟩
    · obtain rfl := helse h
      exact ⟨rfl, rfl⟩
  · obtain ⟨t, u, hexec, hu, hevt, -, -⟩ := exec_eventMessage hroot hclk hinbox h0 htile code epoch d0 d1
    rw [bufferEvent, if_neg (by omega)] at hu
    subst hu
    have hb : t.evt.buf = s.evt.buf := by rw [hevt]
    have hl : t.evt.lost = s.evt.lost + 1 := by
      rw [hevt]
      simp only [add32]
      omega
    exact completes_answer hexec ⟨hb, hl⟩
  · have hsum : summed e.d.opcode = false := by rcases hop with h | h <;> rw [h] <;> rfl
    exact completes_answer (exec_cplMessage hroot hclk hinbox he (by simp [htiles]) hop code r0 r1)
      (tilePart_only he hstage htiles hcode hsum hown r0 r1)
  · exact completes_answer (exec_cplMessage hroot hclk hinbox he (by simp [htiles]) hop code r0 r1) (tilePart_more he hstage htiles code r0 r1)
  · rw [exec_captureMessage hroot hclk hinbox he (by simp [htiles]) hop, if_neg (by simp [hdma])]
    exact answer_of_wf s s hm rfl
  · have hexec := exec_captureMessage (tile := tile) hroot hclk hinbox he (by simp [htiles]) hop (leBytes 1 r0 ++ ps.getD 0 [])
    have hdrop : (leBytes 1 r0 ++ ps.getD 0 []).drop 1 = ps.getD 0 [] := rfl
    have hlead : leAt (leBytes 1 r0 ++ ps.getD 0 []) 0 1 = r0 % 256 := leAt_leBytes_append 1 r0 _
    rw [if_pos hdma, hdrop, hlead] at hexec
    have hsum : summed e.d.opcode = false := by rw [hop]; rfl
    have hentry := tilePart_only (s := hostWrite e.d.addr (ps.getD 0 []) true s) (code := 0) he hstage htiles hcode hsum (.inr (by omega)) (r0 % 256)
      (leAt (ps.getD 0 []) 0x00C 4)
    obtain ⟨l, hpart⟩ := tilePart_eq num tile 0 (r0 % 256) (leAt (ps.getD 0 []) 0x00C 4) (hostWrite e.d.addr (ps.getD 0 []) true s)
    rw [hpart] at hexec hentry
    refine completes_answer hexec ⟨?_, _, rfl, rfl, rfl⟩
    exact congrArg (Option.map fun x : JEntry => (x.stage, x.code, x.r0, x.r1)) hentry

end

section
/-! ARMED at the root (08 R240, R248): the journal takes the images of the members of a set, and tile 0 is none of them. -/

namespace Sys2Proof.Machine

/-- A decided commit that awaits ARMED of tile 0, twice in its set. -/
def armingOwn : CommitJob := { cmd := none, slot := 0, isSwitch := false, set := [0, 0], named := none, before := .staging, decided := true, unarmed := [0] }

/-- A root with that commit, and no image of a member in its journal. -/
def awaitsOwn : State := { State.reset with boot.role := .root, ctx.job := some armingOwn }

/-- A NOP's entry of the command journal. -/
def nopEntry : JEntry := { cmd := 0, cpl := 0, d := { opcode := 0, ord := false, dfence := false, rsv := false, tag := 0, tile := 0, a0 := 0, a1 := 0, addr := 0, p0 := 0, p1 := 0, p2 := 0, p3 := 0 } }

theorem awaitsOwn_memOk : awaitsOwn.memOk := resetMemoryIsCanonical.1

/-- The journal takes no image of tile 0. -/
theorem journalImages_own (images : List (Nat × List Byte)) :
    (journalImages { armingOwn with unarmed := [], images := images } awaitsOwn).arr.memberGen = [] := rfl

end Sys2Proof.Machine

open Sys2Proof Sys2Proof.Machine

/-- Refutes O55: its clause on ARMED lets the tile be 0; where a commit awaits ARMED of tile 0, the root's journal has no generation of it at
E_a, for it files the images of the other tiles alone. -/
theorem not_commitsCrossTheArray : ¬ Obligations.CommitsCrossTheArray := by
  unfold Obligations.CommitsCrossTheArray
  intro h
  obtain ⟨-, harmed, -⟩ := h 0 0 0 0 0 0 false [] (List.replicate 0x800 0) nopEntry armingOwn awaitsOwn awaitsOwn_memOk
  obtain ⟨t, -, -, -, -, hall⟩ := harmed rfl rfl rfl rfl (by decide) List.length_replicate
  have hgen := (hall awaitsOwn rfl awaitsOwn_memOk rfl).2
  rw [journalImages_own] at hgen
  exact absurd hgen List.not_mem_nil

end

section
/-! The first boundary of a frame timer (19 R496): the epoch that it starts with. -/

namespace Sys2Proof.Machine

/-- A standalone device that scans, whose frame timer has counted no boundary yet and whose epoch has no 32-bit form. -/
def scansWide : State := { State.reset with
  epoch := 2 ^ 32, boot.role := .standalone, clk.core := true, clk.afe := true, chn.timer := true, chn.counted := false
  ctx.slots := .active :: List.replicate 7 .empty, elec.ltBoot := true, host.dstate := .d0 }

/-- The same device, whose frame before had the REED_GAIN of its context. -/
def startsWide : State := { scansWide with chn.lastGain := scansWide.act 0x2C2 1, chn.fresh := false }

/-- Bytes of a number keep it below 256 to the power of how many they are. -/
theorem leAt_lt (b : List Byte) (o n : Nat) : leAt b o n < 256 ^ n := by
  induction n generalizing o with
  | zero => exact Nat.one_pos
  | succ n ih =>
    rw [leAt_succ, pow_succ]
    have hhead := (b.getD o 0).isLt
    have htail := ih (o + 1)
    omega

theorem startsWide_memOk : startsWide.memOk := resetMemoryIsCanonical.1

end Sys2Proof.Machine

open Sys2Proof Sys2Proof.Machine

/-- Refutes O40: where the first boundary of the timer does not count, nothing bounds the epoch, and the header's four bytes do not hold
one of 2^32. -/
theorem not_boundariesStartTheNextFrame : ¬ Obligations.BoundariesStartTheNextFrame := by
  unfold Obligations.BoundariesStartTheNextFrame
  intro h
  obtain ⟨-, -, -, -, hstart⟩ := h 0 { forced := false, role := 0, old := 0, new := 0 } startsWide startsWide_memOk rfl rfl rfl rfl rfl rfl rfl rfl rfl rfl
  obtain ⟨t, -, -, -, -, -, hepoch, -⟩ := hstart rfl rfl rfl rfl rfl rfl rfl rfl rfl rfl rfl (by decide) rfl rfl rfl rfl
  have hwide : (2 ^ 32 : Nat) < 256 ^ 4 := lt_of_eq_of_lt hepoch.symm (leAt_lt _ 0 4)
  exact absurd hwide (by norm_num)

end

section
/-! Numbers in memory: what stands in a block after writes elsewhere, and what numbers written read as (00 R7). -/

namespace Sys2Proof.Machine

/-! ### Signed numbers in a field -/

theorem tc_lt (w : Nat) (x : Int) : tc w x < 2 ^ w := by
  have hpos : (0 : Int) < ((2 ^ w : Nat) : Int) := by exact_mod_cast Nat.two_pow_pos w
  have hlt := Int.emod_lt_of_pos x hpos
  have hnn := Int.emod_nonneg x hpos.ne'
  rw [tc]
  omega

theorem sext_tc {w : Nat} (hw : 0 < w) {x : Int} (hlo : -(2 ^ (w - 1) : Nat) ≤ x) (hhi : x < (2 ^ (w - 1) : Nat)) : sext w (tc w x) = x := by
  have htwo : 2 ^ w = 2 * 2 ^ (w - 1) := by rw [← pow_succ', Nat.sub_add_cancel hw]
  rw [sext_of_lt (tc_lt w x), tc, htwo]
  generalize 2 ^ (w - 1) = h at *
  rcases lt_or_ge x 0 with hneg | hnn
  · have hmod : x % ((2 * h : Nat) : Int) = x + 2 * h := by
      rw [← Int.add_emod_right, Int.emod_eq_of_lt] <;> omega
    rw [hmod, if_neg (by omega)]
    omega
  · have hmod : x % ((2 * h : Nat) : Int) = x := Int.emod_eq_of_lt hnn (by omega)
    rw [hmod, if_pos (by omega)]
    omega

theorem satI_bounds {w : Nat} (x : Int) : -(2 ^ (w - 1) : Nat) ≤ satI w x ∧ satI w x < (2 ^ (w - 1) : Nat) := by
  have hpos := Nat.two_pow_pos (w - 1)
  rw [satI, clampI]
  split
  · omega
  · split <;> omega

/-! ### Reading numbers -/

theorem Memory.le_congr {m m' : Memory} (hm : m.wf = true) (hm' : m'.wf = true) {a n : Nat} (h : ∀ i, i < n → m'.byte (a + i) = m.byte (a + i)) :
    m'.le a n = m.le a n := by
  rw [Memory.le, Memory.le, Memory.read_congr hm hm' h]

theorem Memory.leI_congr {m m' : Memory} (hm : m.wf = true) (hm' : m'.wf = true) {a n : Nat} (h : ∀ i, i < n → m'.byte (a + i) = m.byte (a + i)) :
    m'.leI a n = m.leI a n := by
  rw [Memory.leI, Memory.leI, Memory.le_congr hm hm' h]

theorem Memory.ints_congr {m m' : Memory} (hm : m.wf = true) (hm' : m'.wf = true) {a w n : Nat}
    (h : ∀ i, i < w * n → m'.byte (a + i) = m.byte (a + i)) : m'.ints a w n = m.ints a w n := by
  rw [Memory.ints, Memory.ints, Memory.read_congr hm hm' h]

theorem length_intsOf (w n : Nat) (b : List Byte) : (intsOf w n b).length = n := by
  induction n generalizing b with
  | zero => rfl
  | succ n ih => rw [intsOf, List.length_cons, ih]

theorem getD_intsOf {w n i : Nat} (h : i < n) (b : List Byte) : (intsOf w n b).getD i 0 = sext (8 * w) (leNat ((b.drop (w * i)).take w)) := by
  induction n generalizing b i with
  | zero => exact absurd h (Nat.not_lt_zero i)
  | succ n ih =>
    cases i with
    | zero => rfl
    | succ i =>
      rw [intsOf, List.getD_cons_succ, ih (Nat.lt_of_succ_lt_succ h), List.drop_drop, Nat.mul_succ, Nat.add_comm w]

@[simp] theorem Memory.length_ints (m : Memory) (a w n : Nat) : (m.ints a w n).length = n := length_intsOf w n _

/-- A part of a block read. -/
theorem Memory.take_drop_read {m : Memory} (hm : m.wf = true) (a : Nat) {n o k : Nat} (h : o + k ≤ n) :
    ((m.read a n).drop o).take k = m.read (a + o) k := by
  rw [Memory.read_eq_map_byte hm, Memory.read_eq_map_byte hm, ← List.map_drop, ← List.map_take, List.drop_range', List.take_range'_of_length_ge (by omega), Nat.mul_one]

theorem Memory.getD_ints {m : Memory} (hm : m.wf = true) (a w : Nat) {n i : Nat} (h : i < n) : (m.ints a w n).getD i 0 = m.leI (a + w * i) w := by
  rw [Memory.ints, getD_intsOf h, Memory.take_drop_read hm a (by rw [← Nat.mul_succ]; exact Nat.mul_le_mul_left w h)]
  rfl

/-! ### Writing numbers -/

theorem Memory.le_putLe_same {m : Memory} (hm : m.wf = true) (a n v : Nat) : (m.putLe a n v).le a n = v % 256 ^ n := by
  rw [← leNat_leBytes, Memory.le, Memory.putLe]
  have h := Memory.read_write_same hm a (leBytes n v)
  rw [length_leBytes] at h
  rw [h]

theorem Memory.leI_putLeI_same {m : Memory} (hm : m.wf = true) (a : Nat) {n : Nat} (hn : 0 < n) {x : Int} (hlo : -(2 ^ (8 * n - 1) : Nat) ≤ x)
    (hhi : x < (2 ^ (8 * n - 1) : Nat)) : (m.putLeI a n x).leI a n = x := by
  have hpow : 256 ^ n = 2 ^ (8 * n) := by rw [Nat.pow_mul]
  rw [Memory.leI, Memory.putLeI, Memory.le_putLe_same hm, hpow, Nat.mod_eq_of_lt (tc_lt _ x), sext_tc (by omega) hlo hhi]

theorem Memory.byte_putLe_outside (m : Memory) {a n v x : Nat} (h : x < a ∨ a + n ≤ x) : (m.putLe a n v).byte x = m.byte x :=
  m.byte_write_outside (by rwa [length_leBytes])

theorem Memory.byte_putLeI_outside (m : Memory) {a n x : Nat} {v : Int} (h : x < a ∨ a + n ≤ x) : (m.putLeI a n v).byte x = m.byte x :=
  m.byte_putLe_outside h

theorem leNat_lt (l : List Byte) : leNat l < 256 ^ l.length := by
  have h := leAt_lt l 0 l.length
  rwa [leAt, List.drop_zero, List.take_length] at h

theorem Memory.le_lt {m : Memory} (hm : m.wf = true) (a n : Nat) : m.le a n < 256 ^ n := by
  have h := leNat_lt (m.read a n)
  rwa [Memory.length_read hm] at h

/-! ### Records of one length -/

theorem length_flatMap_const {α β : Type} {f : α → List β} {w : Nat} (hf : ∀ x, (f x).length = w) (l : List α) : (l.flatMap f).length = w * l.length := by
  induction l with
  | nil => rfl
  | cons x l ih => rw [List.flatMap_cons, List.length_append, ih, hf, List.length_cons, Nat.mul_succ, Nat.add_comm]

theorem take_drop_flatMap {α β : Type} {f : α → List β} {w : Nat} (hf : ∀ x, (f x).length = w) {l : List α} {i : Nat} (h : i < l.length) :
    ((l.flatMap f).drop (w * i)).take w = f l[i] := by
  induction l generalizing i with
  | nil => exact absurd h (Nat.not_lt_zero i)
  | cons x l ih =>
    rw [List.flatMap_cons]
    cases i with
    | zero => rw [Nat.mul_zero, List.drop_zero, List.take_left' (hf x), List.getElem_cons_zero]
    | succ i =>
      rw [Nat.mul_succ, Nat.add_comm, List.drop_append, List.drop_of_length_le (by rw [hf]; omega), List.nil_append, hf, Nat.add_sub_cancel_left,
        ih (Nat.lt_of_succ_lt_succ h), List.getElem_cons_succ]

theorem length_intBytes (w : Nat) (xs : List Int) : (intBytes w xs).length = w * xs.length :=
  length_flatMap_const (fun _ => length_leBytes _ _) xs

theorem take_drop_intBytes (w : Nat) {xs : List Int} {i : Nat} (h : i < xs.length) :
    ((intBytes w xs).drop (w * i)).take w = leBytes w (tc (8 * w) (xs.getD i 0)) := by
  rw [intBytes, take_drop_flatMap (fun _ => length_leBytes _ _) h, List.getD_eq_getElem _ _ h]

/-- A record of a written list of records of one length. -/
theorem Memory.read_write_flatMap {α : Type} {m : Memory} (hm : m.wf = true) (a : Nat) {f : α → List Byte} {w : Nat} (hf : ∀ x, (f x).length = w)
    {l : List α} {i : Nat} (h : i < l.length) : (m.write a (l.flatMap f)).read (a + w * i) w = f l[i] := by
  have hin : w * i + w ≤ (l.flatMap f).length := by
    rw [length_flatMap_const hf, ← Nat.mul_succ]
    exact Nat.mul_le_mul_left w h
  rw [← Memory.take_drop_read (m.write_wf a _ hm) a hin, Memory.read_write_same hm, take_drop_flatMap hf h]

/-- A number of a written list reads back. -/
theorem Memory.leI_write_intBytes {m : Memory} (hm : m.wf = true) (a : Nat) {w : Nat} (hw : 0 < w) {xs : List Int} {i : Nat} (h : i < xs.length)
    (hlo : -(2 ^ (8 * w - 1) : Nat) ≤ xs.getD i 0) (hhi : xs.getD i 0 < (2 ^ (8 * w - 1) : Nat)) :
    (m.write a (intBytes w xs)).leI (a + w * i) w = xs.getD i 0 := by
  have hpow : 256 ^ w = 2 ^ (8 * w) := by rw [Nat.pow_mul]
  rw [List.getD_eq_getElem _ _ h] at *
  rw [Memory.leI, Memory.le, intBytes, Memory.read_write_flatMap hm a (fun _ => length_leBytes _ _) h, leNat_leBytes, hpow,
    Nat.mod_eq_of_lt (tc_lt _ _), sext_tc (by omega) hlo hhi]

/-! ### Many blocks written one after another -/

section Blocks

variable {α : Type} {addr : α → Nat} {bs : α → List Byte}

theorem foldl_mem_eq (g : Memory → α → Memory) (l : List α) (s : State) :
    l.foldl (fun u k => { u with mem := g u.mem k }) s = { s with mem := l.foldl g s.mem } := by
  induction l generalizing s with
  | nil => rfl
  | cons k l ih => rw [List.foldl_cons, ih, List.foldl_cons]

theorem Memory.foldl_wf {g : Memory → α → Memory} (hg : ∀ m k, m.wf = true → (g m k).wf = true) (l : List α) {m : Memory} (hm : m.wf = true) :
    (l.foldl g m).wf = true :=
  List.foldlRecOn (motive := fun m => Memory.wf m = true) l _ hm fun m hwf k _ => hg m k hwf

/-- A byte that no step of a fold of changes touches. -/
theorem Memory.byte_foldl_outside {g : Memory → α → Memory} {x : Nat} {l : List α} (h : ∀ m, ∀ k ∈ l, (g m k).byte x = m.byte x) (m : Memory) :
    (l.foldl g m).byte x = m.byte x := by
  induction l generalizing m with
  | nil => rfl
  | cons k l ih =>
    rw [List.foldl_cons, ih (fun m j hj => h m j (List.mem_cons_of_mem k hj)), h m k List.mem_cons_self]

/-- A byte that one step of a fold of changes sets and no other touches. -/
theorem Memory.byte_foldl_inside {g : Memory → α → Memory} {x : Nat} {l : List α} (hnodup : l.Nodup) {k : α} (hk : k ∈ l) {v : Byte}
    (hset : ∀ m, (g m k).byte x = v) (hkeep : ∀ m, ∀ j ∈ l, j ≠ k → (g m j).byte x = m.byte x) (m : Memory) : (l.foldl g m).byte x = v := by
  obtain ⟨l₁, l₂, rfl⟩ := List.append_of_mem hk
  have hnot : k ∉ l₂ := (List.nodup_cons.1 (List.nodup_append.1 hnodup).2.1).1
  rw [List.foldl_append, List.foldl_cons, Memory.byte_foldl_outside, hset]
  intro m j hj
  exact hkeep m j (List.mem_append_right _ (List.mem_cons_of_mem k hj)) fun h => hnot (h ▸ hj)

/-- What one step of a fold of changes leaves in a block, where the others leave its bytes. -/
theorem Memory.foldl_inside {β : Type} {F : Memory → β} {a n : Nat}
    (hF : ∀ {m m' : Memory}, m.wf = true → m'.wf = true → (∀ i, i < n → m'.byte (a + i) = m.byte (a + i)) → F m' = F m)
    {g : Memory → α → Memory} (hg : ∀ m k, m.wf = true → (g m k).wf = true) {l : List α} (hnodup : l.Nodup) {k : α} (hk : k ∈ l) {v : β}
    (hset : ∀ m : Memory, m.wf = true → F (g m k) = v) (hkeep : ∀ m, ∀ j ∈ l, j ≠ k → ∀ i, i < n → (g m j).byte (a + i) = m.byte (a + i))
    {m : Memory} (hm : m.wf = true) : F (l.foldl g m) = v := by
  obtain ⟨l₁, l₂, rfl⟩ := List.append_of_mem hk
  have hnot : k ∉ l₂ := (List.nodup_cons.1 (List.nodup_append.1 hnodup).2.1).1
  have h1 := Memory.foldl_wf hg l₁ hm
  rw [List.foldl_append, List.foldl_cons, ← hset _ h1]
  refine hF (hg _ _ h1) (Memory.foldl_wf hg l₂ (hg _ _ h1)) fun i hi => Memory.byte_foldl_outside (fun m j hj => ?_) _
  exact hkeep m j (List.mem_append_right _ (List.mem_cons_of_mem k hj)) (fun h => hnot (h ▸ hj)) i hi

theorem Memory.leI_foldl_inside {g : Memory → α → Memory} (hg : ∀ m k, m.wf = true → (g m k).wf = true) {l : List α} (hnodup : l.Nodup) {k : α}
    (hk : k ∈ l) {a n : Nat} {v : Int} (hset : ∀ m : Memory, m.wf = true → (g m k).leI a n = v)
    (hkeep : ∀ m, ∀ j ∈ l, j ≠ k → ∀ i, i < n → (g m j).byte (a + i) = m.byte (a + i)) {m : Memory} (hm : m.wf = true) : (l.foldl g m).leI a n = v :=
  Memory.foldl_inside (F := fun m => m.leI a n) (a := a) (n := n) (fun h h' hb => Memory.leI_congr h h' hb) hg hnodup hk hset hkeep hm

theorem Memory.le_foldl_inside {g : Memory → α → Memory} (hg : ∀ m k, m.wf = true → (g m k).wf = true) {l : List α} (hnodup : l.Nodup) {k : α}
    (hk : k ∈ l) {a n v : Nat} (hset : ∀ m : Memory, m.wf = true → (g m k).le a n = v)
    (hkeep : ∀ m, ∀ j ∈ l, j ≠ k → ∀ i, i < n → (g m j).byte (a + i) = m.byte (a + i)) {m : Memory} (hm : m.wf = true) : (l.foldl g m).le a n = v :=
  Memory.foldl_inside (F := fun m => m.le a n) (a := a) (n := n) (fun h h' hb => Memory.le_congr h h' hb) hg hnodup hk hset hkeep hm

end Blocks

end Sys2Proof.Machine
end

section
/-! Line status and trips (02 R47 to R53, 04 R93, R103): what a code that changes leaves unchanged, and the driver that stands on a pin. -/

namespace Sys2Proof.Machine

/-! ### Codes -/

theorem postEvent_eq (code d0 d1 : Nat) (s : State) : ∃ v c q, postEvent code d0 d1 s = { s with evt := v, crl := c, arr.queue := q } :=
  postEventAt_eq s.epoch code d0 d1 s

theorem faultEvent_eq (pin old new : Nat) (s : State) : ∃ e v c q, faultEvent pin old new s = { s with
    elec.satEvt := e, evt := v, crl := c, arr.queue := q } := by
  unfold faultEvent
  dsimp only
  have hpost : ∀ e, ∃ e' v c q, postEvent 0x01 (pack [(pin, 0), (new, 12), (old, 16)]) 0 { s with elec.satEvt := e } = { s with
      elec.satEvt := e', evt := v, crl := c, arr.queue := q } := by
    intro e
    obtain ⟨v, c, q, h⟩ := postEvent_eq 0x01 (pack [(pin, 0), (new, 12), (old, 16)]) 0 { s with elec.satEvt := e }
    exact ⟨e, v, c, q, h⟩
  split
  · exact ⟨s.elec.satEvt, s.evt, s.crl, s.arr.queue, rfl⟩
  · split
    · split
      · split
        · exact ⟨s.elec.satEvt, s.evt, s.crl, s.arr.queue, rfl⟩
        · exact hpost _
      · exact hpost _
    · exact hpost s.elec.satEvt

theorem set_code_self {s : State} {pin c : Nat} (h : s.codeOf pin = c) : s.elec.code.set pin c = s.elec.code := by
  refine List.ext_getElem (List.length_set ..) fun i h1 h2 => ?_
  rw [List.getElem_set]
  split
  next hi =>
    rw [← h, State.codeOf, hi, List.getD_eq_getElem _ _ (by rwa [List.length_set] at h1)]
  next => rfl

theorem setCode_eq (pin new : Nat) (s : State) : ∃ f e i k v c q, setCode pin new s = { s with
    elec.code := s.elec.code.set pin new, elec.faultChg := f, elec.satEvt := e, icu := i, clk.mergeIcu := k, evt := v, crl := c, arr.queue := q } := by
  unfold setCode
  dsimp only
  split
  next h =>
    refine ⟨s.elec.faultChg, s.elec.satEvt, s.icu, s.clk.mergeIcu, s.evt, s.crl, s.arr.queue, ?_⟩
    rw [set_code_self h]
  next =>
    have hraised : ∃ i k, (if s.elec.faultChg then ({ s with elec.code := s.elec.code.set pin new, elec.faultChg := true } : State)
        else raise 14 { s with elec.code := s.elec.code.set pin new, elec.faultChg := true }) =
        { s with elec.code := s.elec.code.set pin new, elec.faultChg := true, icu := i, clk.mergeIcu := k } := by
      split
      · exact ⟨s.icu, s.clk.mergeIcu, rfl⟩
      · obtain ⟨i, k, h, -⟩ := raise_line (n := 14) (by decide) { s with elec.code := s.elec.code.set pin new, elec.faultChg := true }
        exact ⟨i, k, h⟩
    obtain ⟨i, k, hraised⟩ := hraised
    rw [hraised]
    obtain ⟨e, v, c, q, h⟩ := faultEvent_eq pin (s.codeOf pin) new { s with
      elec.code := s.elec.code.set pin new, elec.faultChg := true, icu := i, clk.mergeIcu := k }
    exact ⟨true, e, i, k, v, c, q, h⟩

theorem setCodeNow_eq (pin c : Nat) (s : State) : ∃ l f e i k v r q, setCodeNow pin c s = { s with
    elec.code := s.elec.code.set pin c, elec.faultChg := f, elec.satEvt := e, icu := i, clk.mergeIcu := k, evt := v, crl := r, arr.queue := q
    chn.cur.faults := l } := by
  obtain ⟨f, e, i, k, v, r, q, h⟩ := setCode_eq pin c s
  rw [setCodeNow, h]
  exact ⟨_, f, e, i, k, v, r, q, rfl⟩

/-! ### Trips -/

/-- The trips of a pin so far, with this one. -/
def tripsOf (pin : Nat) (s : State) : Nat := match s.elec.tripRun.find? (fun r => r.1 == pin) with
  | some r => r.2.1 + 1
  | none => 1

theorem countTrip_def (pin : Nat) (src : Bool) (s : State) : countTrip pin src s =
    let t := raise 15 { s with
      elec.tripRun := s.elec.tripRun.filter (fun r => r.1 != pin) ++ [(pin, tripsOf pin s, src)]
      elec.tripThis := s.elec.tripThis ++ [pin], elec.tripCnt := cnt 16 s.elec.tripCnt 1, elec.tripped := s.elec.tripped ++ [pin] }
    if tripsOf pin s < 3 || codeHeld (t.codeOf pin) then t
    else setCodeNow pin (if src then 2 else 3) { t with elec.tripRun := t.elec.tripRun.filter (fun r => r.1 != pin) } := rfl

/-- A trip counted (02 R47): codes and the faults of the frame being scanned change with the third one of a line that is not held. -/
theorem countTrip_eq (pin : Nat) (src : Bool) (s : State) : ∃ r w l f e i k v c q, countTrip pin src s = { s with
    elec.tripRun := r, elec.tripThis := s.elec.tripThis ++ [pin], elec.tripCnt := cnt 16 s.elec.tripCnt 1, elec.tripped := s.elec.tripped ++ [pin]
    elec.code := w, elec.faultChg := f, elec.satEvt := e, chn.cur.faults := l, icu := i, clk.mergeIcu := k, evt := v, crl := c, arr.queue := q } ∧
    (tripsOf pin s < 3 ∨ codeHeld (s.codeOf pin) = true → w = s.elec.code ∧ l = s.chn.cur.faults ∧
      r = s.elec.tripRun.filter (fun r => r.1 != pin) ++ [(pin, tripsOf pin s, src)]) ∧
    (3 ≤ tripsOf pin s → codeHeld (s.codeOf pin) = false → w = s.elec.code.set pin (if src then 2 else 3)) := by
  rw [countTrip_def]
  dsimp only
  obtain ⟨i, k, hraise, -⟩ := raise_line (n := 15) (by decide) { s with
    elec.tripRun := s.elec.tripRun.filter (fun r => r.1 != pin) ++ [(pin, tripsOf pin s, src)]
    elec.tripThis := s.elec.tripThis ++ [pin], elec.tripCnt := cnt 16 s.elec.tripCnt 1, elec.tripped := s.elec.tripped ++ [pin] }
  rw [hraise]
  split
  next hfew =>
    refine ⟨_, s.elec.code, s.chn.cur.faults, s.elec.faultChg, s.elec.satEvt, i, k, s.evt, s.crl, s.arr.queue, rfl, fun _ => ⟨rfl, rfl, rfl⟩,
      fun hmany hgood => ?_⟩
    rw [Bool.or_eq_true, decide_eq_true_eq] at hfew
    rcases hfew with hfew | hheld
    · omega
    · exact absurd (hheld.symm.trans hgood) Bool.noConfusion
  next hmany =>
    generalize hr : (s.elec.tripRun.filter (fun r => r.1 != pin) ++ [(pin, tripsOf pin s, src)]).filter (fun r => r.1 != pin) = r
    obtain ⟨l, f, e, i', k', v, c, q, hset⟩ := setCodeNow_eq pin (if src then 2 else 3) { s with
      elec.tripRun := r, elec.tripThis := s.elec.tripThis ++ [pin], elec.tripCnt := cnt 16 s.elec.tripCnt 1, elec.tripped := s.elec.tripped ++ [pin]
      icu := i, clk.mergeIcu := k }
    refine ⟨r, _, l, f, e, i', k', v, c, q, hset, fun hfew => ?_, fun _ _ => rfl⟩
    rw [Bool.or_eq_true, decide_eq_true_eq] at hmany
    exact absurd hfew hmany

theorem tripsOf_nil {pin : Nat} {s : State} (h : s.elec.tripRun = []) : tripsOf pin s = 1 := by
  rw [tripsOf, h]
  rfl

theorem tripsOf_pair {pin : Nat} {src : Bool} {s : State} (h : s.elec.tripRun = [(pin, 2, src)]) : tripsOf pin s = 3 := by
  simp [tripsOf, h]

/-! ### The driver of a mapped pin -/

/-- The role that the map in force gives a pin (02 R37). -/
def State.roleOf (s : State) (pin : Nat) : Nat := mapRole (s.mapEntry (s.pinSlot.getD 0) pin)

/-- The line of a pin by the map in force. -/
def State.lineOf (s : State) (pin : Nat) : Nat := mapLine (s.mapEntry (s.pinSlot.getD 0) pin)

theorem driverOn_role {s : State} {pin : Nat} (hon : s.driverOn pin = true) : s.roleOf pin = 1 ∨ s.roleOf pin = 2 := by
  rw [State.driverOn, Bool.and_eq_true] at hon
  obtain ⟨hrole, -⟩ := hon
  simpa [State.roleOf] using hrole

theorem scans_state {s : State} (h : s.scans = true) : s.pwr.state ≠ .drone := by
  intro hd
  rw [State.scans, hd] at h
  simp at h

/-- What stands on a pin whose own driver is on while the tile scans outside a line test: its line is held or shows its segment. -/
theorem pinOut_of_driverOn {s : State} {pin : Nat} (hscan : s.scans = true) (hlt : s.elec.ltLeft = 0) (hon : s.driverOn pin = true) :
    (s.pinOut pin).driven = true ∧ s.pinOut pin = if codeHeld (s.codeOf pin) then heldOut (s.roleOf pin) (s.codeOf pin)
      else segmentOut s.chn.seg (s.roleOf pin) (s.lineOf pin) (s.chn.cur.kind.injects (s.lineOf pin)) := by
  have hrole := driverOn_role hon
  have hdriven : (s.pinOut pin).driven = true := (Bool.and_eq_true _ _ ▸ hon : _ ∧ _).2
  refine ⟨hdriven, ?_⟩
  rw [State.pinOut] at hdriven ⊢
  split at hdriven
  · exact absurd hdriven Bool.noConfusion
  next hfloat =>
    rw [if_neg hfloat]
    dsimp only at hdriven ⊢
    rw [if_neg (scans_state hscan), if_neg (not_not.2 hlt)] at hdriven ⊢
    have hmapped : (decide (s.roleOf pin = 1 ∨ s.roleOf pin = 2) && codeHeld (s.codeOf pin)) = codeHeld (s.codeOf pin) := by
      rw [decide_eq_true hrole, Bool.true_and]
    simp only [← State.roleOf.eq_def, ← State.lineOf.eq_def, hmapped] at hdriven ⊢
    generalize (if codeHeld (s.codeOf pin) = true then _ else _) = o at *
    split at hdriven
    · exact absurd hdriven Bool.noConfusion
    next htrip => rw [if_neg htrip]

/-- A line driven in its segment: a drive line shows its code in the mutual segment, follows in pass A and rests from pass B on; a sense line
follows in pass B. -/
theorem segmentOut_driven {seg role line : Nat} {cut : Bool} (hrole : role = 1 ∨ role = 2) (hon : (segmentOut seg role line cut).driven = true) :
    (seg = 0 ∧ role = 1 ∧ segmentOut seg role line cut = .code line) ∨
    (seg = 0 ∧ role = 2 ∧ segmentOut seg role line cut = .vcm) ∨
    (seg = 1 ∧ role = 1 ∧ segmentOut seg role line cut = .follower driveLevel) ∨
    (seg = 2 ∧ role = 2 ∧ segmentOut seg role line cut = .follower vcmLevel) ∨
    (3 ≤ seg ∧ (segmentOut seg role line cut = .quiet ∨ segmentOut seg role line cut = .vcm)) := by
  rcases hrole with rfl | rfl
  · by_cases h0 : seg = 0
    · subst h0
      exact .inl ⟨rfl, rfl, rfl⟩
    · by_cases h1 : seg = 1
      · subst h1
        exact .inr (.inr (.inl ⟨rfl, rfl, rfl⟩))
      · by_cases h2 : seg = 2
        · subst h2
          exact absurd hon Bool.noConfusion
        · refine .inr (.inr (.inr (.inr ⟨by omega, .inl ?_⟩)))
          simp [segmentOut, h0, h1, h2]
  · by_cases h0 : seg = 0
    · subst h0
      cases cut with
      | false => exact absurd hon Bool.noConfusion
      | true => exact .inr (.inl ⟨rfl, rfl, rfl⟩)
    · by_cases h1 : seg = 1
      · subst h1
        exact absurd hon Bool.noConfusion
      · by_cases h2 : seg = 2
        · subst h2
          exact .inr (.inr (.inr (.inl ⟨rfl, rfl, rfl⟩)))
        · by_cases h3 : seg = 3
          · subst h3
            exact absurd hon Bool.noConfusion
          · refine .inr (.inr (.inr (.inr ⟨by omega, .inr ?_⟩)))
            simp [segmentOut, h0, h1, h2, h3]

/-- A held line that is driven rests. -/
theorem heldOut_driven {role code : Nat} (hon : (heldOut role code).driven = true) : heldOut role code = .quiet ∨ heldOut role code = .vcm := by
  rw [heldOut] at *
  split at hon
  · exact absurd hon Bool.noConfusion
  next hfloat =>
    rw [if_neg hfloat]
    split
    · exact .inl rfl
    · exact .inr rfl

/-! ### A driver trips -/

/-- What the tile makes of a trip that it has counted, by what the driver stood for (02 R48). -/
def afterTrip (o : PinOut) (pin : Nat) (t : State) : State := match o with
  | .code _ => disturbFrame t
  | .follower _ => { t with chn.cur.selfRep := t.chn.cur.selfRep ++ [pin] }
  | _ => t

theorem exec_driverTrip {s : State} {pin : Nat} {src : Bool} (hscan : s.scans = true) (hpin : pin < 320) (hkind : s.chn.cur.kind ≠ .lineTest)
    (hon : s.driverOn pin = true) : exec (.driverTrip pin src) s = answer s (afterTrip (s.pinOut pin) pin (countTrip pin src s)) := by
  change execDriverTrip pin src s = _
  rw [execDriverTrip, if_neg (by simp [hscan, hon, hkind]; omega)]
  rfl

theorem setHdrFlag_mem (e b : Nat) (s : State) : ∃ m, setHdrFlag e b s = { s with mem := m } := by
  unfold setHdrFlag
  dsimp only
  split
  · exact ⟨s.mem, rfl⟩
  · exact ⟨_, rfl⟩

theorem disturbFrame_eq (s : State) : ∃ m, disturbFrame s = { s with
    mem := m, chn.cur.dcause := if s.chn.cur.dcause = 0 then 1 else s.chn.cur.dcause } := by
  unfold disturbFrame discardCur
  dsimp only
  split
  · obtain ⟨m, h⟩ := setHdrFlag_mem s.epoch 0 { s with
      mem := s.mem.putLe (statusBase s.epoch + 8 * s.chn.step) 1 (s.mem.le (statusBase s.epoch + 8 * s.chn.step) 1 + 1)
      chn.cur.dcause := if s.chn.cur.dcause = 0 then 1 else s.chn.cur.dcause }
    exact ⟨m, h⟩
  · obtain ⟨m, h⟩ := setHdrFlag_mem s.epoch 0 { s with chn.cur.dcause := if s.chn.cur.dcause = 0 then 1 else s.chn.cur.dcause }
    exact ⟨m, h⟩

/-- Whatever the trip does to the frame, the counts of the trip stand. -/
theorem afterTrip_eq (o : PinOut) (pin : Nat) (t : State) : ∃ m d l, afterTrip o pin t = { t with
    mem := m, chn.cur.dcause := d, chn.cur.selfRep := l } := by
  unfold afterTrip
  split
  · obtain ⟨m, h⟩ := disturbFrame_eq t
    exact ⟨m, _, t.chn.cur.selfRep, h⟩
  · exact ⟨t.mem, t.chn.cur.dcause, _, rfl⟩
  · exact ⟨t.mem, t.chn.cur.dcause, t.chn.cur.selfRep, rfl⟩

end Sys2Proof.Machine
end

section
/-! Scan steps, the guard interval and the tile noise (02 R43, R47, R48, 03 R55, R56, R65, R66, R74, R75, 04 R103, 05 R142). -/

namespace Sys2Proof.Machine

/-! ### The mixer -/

theorem sat24_eq (x : Int) : satI 24 x = max (-8388608) (min 8388607 x) := clampI_eq (by norm_num) x

theorem sat16_eq (x : Int) : satI 16 x = max (-32768) (min 32767 x) := clampI_eq (by norm_num) x

/-- A mixer sum of a chain's window as the converter holds it (02 R43, 03 R65). -/
theorem mixSum_adc (x : List (List Int)) (c k ph : Nat) : mixSum k ph ((x.map (fun w => w.map adcSample)).getD c []) =
    ((List.range 48).map (fun n => (max (-8192) (min 8191 ((x.getD c []).getD n 0)) * sine48 (k * n + ph) + 512) / 1024)).foldl (· + ·) 0 := by
  have hwindow : (x.map (fun w => w.map adcSample)).getD c [] = (x.getD c []).map adcSample := List.getD_map x [] (fun w => w.map adcSample)
  have hsample : ∀ n, ((x.getD c []).map adcSample).getD n 0 = max (-8192) (min 8191 ((x.getD c []).getD n 0)) := fun n =>
    (List.getD_map (x.getD c []) 0 adcSample).trans (clampI_eq (by norm_num) _)
  rw [hwindow, mixSum]
  simp only [hsample]
  rfl

/-! ### The mutual part of a step -/

/-- The two values that a step stores for a chain (03 R66, R68). -/
def putPair (e t c : Nat) (v : Int × Int) (m : Memory) : Memory :=
  (m.putLeI (stepStore e + 3 * (256 * c + t)) 3 v.1).putLeI (stepStore e + 3 * (256 * c + 128 + t)) 3 v.2

theorem putPair_wf (e t c : Nat) (v : Int × Int) {m : Memory} (hm : m.wf = true) : (putPair e t c v m).wf = true :=
  Memory.putLeI_wf _ _ _ _ (Memory.putLeI_wf _ _ _ _ hm)

theorem byte_putPair_outside (e : Nat) {t c : Nat} (v : Int × Int) (m : Memory) {x : Nat}
    (h : (x < stepStore e + 3 * (256 * c + t) ∨ stepStore e + 3 * (256 * c + t) + 3 ≤ x) ∧
      (x < stepStore e + 3 * (256 * c + 128 + t) ∨ stepStore e + 3 * (256 * c + 128 + t) + 3 ≤ x)) : (putPair e t c v m).byte x = m.byte x := by
  rw [putPair, Memory.byte_putLeI_outside _ h.2, Memory.byte_putLeI_outside _ h.1]

theorem mutualPair_eq (s : State) (p : Params) (t c : Nat) (x : List Int) (h : s.chn.cur.kind.injects c = false) :
    mutualPair s p t c x = (stepValue (mixIQ p.kp x) (s.pair c p.kp), stepValue (mixIQ p.ks x) (s.pair c p.ks)) := by
  rw [mutualPair, h, Bool.false_and, if_neg Bool.false_ne_true]

/-- What the mutual part of a step leaves of memory: the values of every chain, and the status record above them. -/
theorem mutualStep_mem (t : Nat) (p : Params) (x : List (List Int)) (s : State) : ∃ l bs, bs.length = 8 ∧ mutualStep t p x s = { s with
    chn.cur.ovr := l
    mem := ((List.range p.s).foldl (fun m c => putPair s.epoch t c (mutualPair s p t c (x.getD c [])) m) s.mem).write
      (statusBase s.epoch + 8 * t) bs } := by
  unfold mutualStep
  dsimp only
  have hfold := foldl_mem_eq (fun m c => putPair s.epoch t c (mutualPair s p t c (x.getD c [])) m) (List.range p.s) s
  simp only [putPair] at hfold ⊢
  rw [hfold]
  refine ⟨_, _, ?_, rfl⟩
  simp only [List.length_append, length_leBytes]

/-- The stored values of a step (03 R68): each chain's two stand in its place of the step store. -/
theorem leI_mutualStep {s : State} (hm : s.memOk) {t c : Nat} (p : Params) (x : List (List Int)) (ht : t < 128) (hc : c < p.s) (hs : p.s ≤ 192)
    (hin : s.chn.cur.kind.injects c = false) :
    (mutualStep t p x s).mem.leI (stepStore s.epoch + 3 * (256 * c + t)) 3 = stepValue (mixIQ p.kp (x.getD c [])) (s.pair c p.kp) ∧
    (mutualStep t p x s).mem.leI (stepStore s.epoch + 3 * (256 * c + 128 + t)) 3 = stepValue (mixIQ p.ks (x.getD c [])) (s.pair c p.ks) := by
  obtain ⟨l, bs, hbs, h⟩ := mutualStep_mem t p x s
  have hfold : ∀ {a : Nat} {v : Int}, (a = stepStore s.epoch + 3 * (256 * c + t) ∨ a = stepStore s.epoch + 3 * (256 * c + 128 + t)) →
      (∀ m : Memory, m.wf = true → (putPair s.epoch t c (mutualPair s p t c (x.getD c [])) m).leI a 3 = v) →
      (mutualStep t p x s).mem.leI a 3 = v := by
    intro a v ha hset
    have hwf := Memory.foldl_wf (fun m c => putPair_wf s.epoch t c (mutualPair s p t c (x.getD c []))) (List.range p.s) hm
    have hfoldv := Memory.leI_foldl_inside (a := a) (n := 3)
      (fun m c => putPair_wf s.epoch t c (mutualPair s p t c (x.getD c []))) List.nodup_range (List.mem_range.2 hc) hset
      (fun m j hj hne i hi => byte_putPair_outside s.epoch _ m (by have := List.mem_range.1 hj; omega)) hm
    rw [h, ← hfoldv]
    refine Memory.leI_congr hwf (Memory.write_wf _ _ _ hwf) fun i hi => Memory.byte_write_outside _ (.inl ?_)
    rw [statusBase]
    omega
  have hpair := mutualPair_eq s p t c (x.getD c []) hin
  have hlo := @satI_bounds 24
  constructor
  · refine hfold (.inl rfl) fun m hwf => ?_
    have hwf1 := Memory.putLeI_wf m (stepStore s.epoch + 3 * (256 * c + t)) 3 (stepValue (mixIQ p.kp (x.getD c [])) (s.pair c p.kp)) hwf
    rw [hpair, putPair, Memory.leI_congr hwf1 (Memory.putLeI_wf _ _ _ _ hwf1) (fun i hi => Memory.byte_putLeI_outside _ (.inl (by omega))),
      Memory.leI_putLeI_same hwf _ (by norm_num) (hlo _).1 (hlo _).2]
  · refine hfold (.inr rfl) fun m hwf => ?_
    rw [hpair, putPair, Memory.leI_putLeI_same (Memory.putLeI_wf _ _ _ _ hwf) _ (by norm_num) (hlo _).1 (hlo _).2]

/-! ### A listen step -/

/-- What a listen step stores for a chain: the magnitudes of the five slots (03 R74). -/
def putListen (j c : Nat) (w : List Int) (m : Memory) : Memory :=
  (List.range 5).foldl (fun v k => v.putLe (listenData + 3 * (40 * c + 8 * k + j)) 3 (magnitude (mixIQ (k + 2) w))) m

theorem putListen_wf (j c : Nat) (w : List Int) {m : Memory} (hm : m.wf = true) : (putListen j c w m).wf = true :=
  Memory.foldl_wf (fun _ _ h => Memory.putLe_wf _ _ _ _ h) _ hm

theorem byte_putListen_outside {j c : Nat} (w : List Int) (hj : j < 8) {x : Nat} (h : x < listenData + 120 * c ∨ listenData + 120 * c + 120 ≤ x)
    (m : Memory) : (putListen j c w m).byte x = m.byte x :=
  Memory.byte_foldl_outside (fun m k hk => Memory.byte_putLe_outside _ (by have := List.mem_range.1 hk; omega)) m

theorem magnitude_lt (iq : Int × Int) : magnitude iq < 256 ^ 3 :=
  lt_of_le_of_lt (Nat.min_le_left _ _) (by norm_num)

theorem le_putListen {j c k : Nat} (w : List Int) (hk : k < 5) {m : Memory} (hm : m.wf = true) :
    (putListen j c w m).le (listenData + 3 * (40 * c + 8 * k + j)) 3 = magnitude (mixIQ (k + 2) w) := by
  refine Memory.le_foldl_inside (fun _ _ h => Memory.putLe_wf _ _ _ _ h) List.nodup_range (List.mem_range.2 hk)
    (fun m hwf => ?_) (fun m i hi hne o ho => Memory.byte_putLe_outside _ ?_) hm
  · rw [Memory.le_putLe_same hwf, Nat.mod_eq_of_lt (magnitude_lt _)]
  · rcases Nat.lt_or_gt_of_ne hne with h | h <;> omega

theorem listenStep_mem (j : Nat) (p : Params) (x : List (List Int)) (s : State) (hm : s.memOk) : ∃ l m, m.wf = true ∧ listenStep j p x s = { s with
    chn.cur.listenOvr := l, mem := (List.range p.s).foldl (fun m c => putListen j c (x.getD c []) m) m } := by
  unfold listenStep
  dsimp only
  have hfold : ∀ u : State, (List.range p.s).foldl (fun u c => (List.range 5).foldl (fun v k =>
      { v with mem := v.mem.putLe (listenData + 3 * (40 * c + 8 * k + j)) 3 (magnitude (mixIQ (k + 2) (x.getD c []))) }) u) u =
      { u with mem := (List.range p.s).foldl (fun m c => putListen j c (x.getD c []) m) u.mem } := by
    intro u
    have hslots : ∀ (v : State) (c : Nat), (List.range 5).foldl (fun v k =>
        { v with mem := v.mem.putLe (listenData + 3 * (40 * c + 8 * k + j)) 3 (magnitude (mixIQ (k + 2) (x.getD c []))) }) v =
        { v with mem := putListen j c (x.getD c []) v.mem } := fun v c =>
      foldl_mem_eq (fun m k => m.putLe (listenData + 3 * (40 * c + 8 * k + j)) 3 (magnitude (mixIQ (k + 2) (x.getD c [])))) (List.range 5) v
    simp only [hslots]
    exact foldl_mem_eq (fun m c => putListen j c (x.getD c []) m) (List.range p.s) u
  rw [hfold]
  split
  · exact ⟨_, _, Memory.clear_wf _ _ _ hm, rfl⟩
  · exact ⟨_, _, hm, rfl⟩

theorem le_listenStep {s : State} (hm : s.memOk) {j c k : Nat} (p : Params) (x : List (List Int)) (hj : j < 8) (hc : c < p.s) (hk : k < 5) :
    (listenStep j p x s).mem.le (listenData + 3 * (40 * c + 8 * k + j)) 3 = magnitude (mixIQ (k + 2) (x.getD c [])) := by
  obtain ⟨l, m, hwf, h⟩ := listenStep_mem j p x s hm
  rw [h]
  refine Memory.le_foldl_inside (g := fun m c => putListen j c (x.getD c []) m) (fun m i hw => putListen_wf j i (x.getD i []) hw) List.nodup_range
    (List.mem_range.2 hc) (fun m hw => le_putListen (x.getD c []) hk hw)
    (fun m i hi hne o ho => byte_putListen_outside (x.getD i []) hj ?_ m) hwf
  rcases Nat.lt_or_gt_of_ne hne with h' | h' <;> omega

/-! ### A step ends -/

/-- The restore after the mutual segment writes trim RAM alone (05 R125). -/
theorem trimAfterMutual_mem (s : State) : ∃ d m, trimAfterMutual s = { s with cal.trimDue := d, mem := m } ∧
    (s.mem.wf = true → m.wf = true) ∧ ∀ y, y < trimRam → m.byte y = s.mem.byte y := by
  unfold trimAfterMutual trimDueNow restoreTrim
  split
  · exact ⟨false, s.mem, rfl, id, fun _ _ => rfl⟩
  · split
    · exact ⟨false, _, rfl, fun h => Memory.write_wf _ _ _ h, fun y hy => Memory.byte_write_outside _ (.inl hy)⟩
    · exact ⟨s.cal.trimDue, s.mem, rfl, id, fun _ _ => rfl⟩

/-- What a step of a normal frame does before the counter moves on, where no trim entry reads with bad parity. -/
def stepPart (step : Nat) (x : List (List Int)) (s : State) : State :=
  let p := s.params s.epoch
  if step < 127 then mutualStep step p x s
  else if step = 127 then trimAfterMutual (mutualStep step p x s)
  else if step < 140 then selfStep 0 (step - 128) p x s
  else if step < 152 then selfStep 1 (step - 140) p x s
  else listenStep (step - 152) p x s

theorem exec_scanStep {s : State} {step : Nat} (x : List (List Int)) (hscan : s.scans = true) (hkind : s.chn.cur.kind = .normal)
    (hstep : step < 160) : exec (.scanStep step x []) s = answer s { stepPart step (x.map (fun w => w.map adcSample)) s with
      chn.step := if step = 159 then 0xFF else step + 1, chn.seg := if step = 159 then 4 else segOf (step + 1) } := by
  have hexec : exec (.scanStep step x []) s = execScanStep step x [] s := rfl
  have hnot : ¬((s.scans && s.chn.cur.kind == .lineTest) = true) := by simp [hkind]
  have hgo : ¬((!s.scans || s.chn.cur.kind == .none || decide (160 ≤ step)) = true) := by
    simp [hscan, hkind]
    omega
  rw [hexec, execScanStep, if_neg hnot, if_neg hgo]
  rfl

theorem stepPart_mutual {step : Nat} (x : List (List Int)) (s : State) (h : step < 128) : ∃ d m,
    stepPart step x s = { mutualStep step (s.params s.epoch) x s with cal.trimDue := d, mem := m } ∧
    ((mutualStep step (s.params s.epoch) x s).mem.wf = true → m.wf = true) ∧
    ∀ y, y < trimRam → m.byte y = (mutualStep step (s.params s.epoch) x s).mem.byte y := by
  rw [stepPart]
  dsimp only
  by_cases hlast : step = 127
  · rw [if_neg (by omega), if_pos hlast]
    exact trimAfterMutual_mem _
  · rw [if_pos (by omega)]
    exact ⟨(mutualStep step (s.params s.epoch) x s).cal.trimDue, (mutualStep step (s.params s.epoch) x s).mem, rfl, id, fun _ _ => rfl⟩

theorem stepPart_listen {step : Nat} (x : List (List Int)) (s : State) (h : 152 ≤ step) :
    stepPart step x s = listenStep (step - 152) (s.params s.epoch) x s := by
  rw [stepPart, if_neg (by omega), if_neg (by omega), if_neg (by omega), if_neg (by omega)]

end Sys2Proof.Machine
end

section
/-! Shield trips, the guard interval and the tile noise (03 R55, R75, R80, 04 R93, R103, 05 R142). -/

namespace Sys2Proof.Machine

/-! ### Shield drivers -/

/-- The trips of a shield driver so far, with this one. -/
def shieldTrips (sh : Nat) (s : State) : Nat := (assoc s.elec.shRun sh).getD 0 + 1

/-- The tile with an SH driver's trip counted. -/
def shieldTripped (sh : Nat) (s : State) : State := { s with
  elec.shRun := file s.elec.shRun sh (shieldTrips sh s), elec.shThis := s.elec.shThis ++ [sh], elec.shTrips := cnt 16 s.elec.shTrips 1
  elec.shTripped := s.elec.shTripped ++ [sh] }

/-- What stands after an SH driver's trip (04 R103). -/
theorem exec_shieldTrip {s : State} {sh : Fin 4} (hscan : s.scans = true) (hfault : s.elec.shFault = false) (hnew : sh.val ∉ s.elec.shTripped) :
    ∃ e b i k v c q, exec (.shieldTrip sh) s = answer s { s with
      elec := e, chn.cur.selfBad := b, icu := i, clk.mergeIcu := k, evt := v, crl := c, arr.queue := q } ∧
      e.shTripped = s.elec.shTripped ++ [sh.val] ∧ e.shTrips = cnt 16 s.elec.shTrips 1 ∧ e.shFault = decide (3 ≤ shieldTrips sh.val s) ∧
      (s.chn.seg ≤ 2 → b = true) ∧ (3 ≤ s.chn.seg → b = s.chn.cur.selfBad) := by
  have hexec : exec (.shieldTrip sh) s = execShieldTrip sh s := rfl
  obtain ⟨i, k, hraise, -⟩ := raise_line (n := 15) (by decide) (shieldTripped sh.val s)
  rw [hexec, execShieldTrip, if_neg (by simp [hfault, hscan, hnew])]
  dsimp only
  rw [← shieldTrips, ← shieldTripped, hraise]
  have hbad : ∃ b, (if s.chn.seg ≤ 2 then ({ shieldTripped sh.val s with icu := i, clk.mergeIcu := k, chn.cur.selfBad := true } : State)
      else { shieldTripped sh.val s with icu := i, clk.mergeIcu := k }) = { shieldTripped sh.val s with icu := i, clk.mergeIcu := k, chn.cur.selfBad := b } ∧
      (s.chn.seg ≤ 2 → b = true) ∧ (3 ≤ s.chn.seg → b = s.chn.cur.selfBad) := by
    split
    next h => exact ⟨true, rfl, fun _ => rfl, fun h3 => by omega⟩
    next h => exact ⟨s.chn.cur.selfBad, rfl, fun h2 => absurd h2 h, fun _ => rfl⟩
  obtain ⟨b, hb, hlow, hhigh⟩ := hbad
  simp only [shieldTripped] at hb ⊢
  rw [hb]
  split
  next hfew => exact ⟨_, b, i, k, s.evt, s.crl, s.arr.queue, rfl, rfl, rfl, hfault.trans (decide_eq_false (by omega)).symm, hlow, hhigh⟩
  next hmany =>
    obtain ⟨v, c, q, h⟩ := postEvent_eq 0x04 sh.val 0 { shieldTripped sh.val s with
      icu := i, clk.mergeIcu := k, chn.cur.selfBad := b, elec.shFault := true }
    simp only [shieldTripped] at h
    rw [h]
    exact ⟨_, b, i, k, v, c, q, rfl, rfl, rfl, (decide_eq_true (by omega)).symm, hlow, hhigh⟩

/-! ### The guard interval -/

/-- Pins that switch keep which drivers have tripped. -/
def PinsSwitched (s t : State) : Prop := ∃ m e i k v c q, t = { s with mem := m, elec := e, icu := i, clk.mergeIcu := k, evt := v, crl := c, arr.queue := q } ∧
  e.tripped = s.elec.tripped ∧ e.shTripped = s.elec.shTripped ∧ e.shFault = s.elec.shFault

theorem PinsSwitched.refl (s : State) : PinsSwitched s s :=
  ⟨s.mem, s.elec, s.icu, s.clk.mergeIcu, s.evt, s.crl, s.arr.queue, rfl, rfl, rfl, rfl⟩

theorem PinsSwitched.trans {s t u : State} (h : PinsSwitched s t) (h' : PinsSwitched t u) : PinsSwitched s u := by
  obtain ⟨_, _, _, _, _, _, _, rfl, h1, h2, h3⟩ := h
  obtain ⟨m, e, i, k, v, c, q, rfl, h1', h2', h3'⟩ := h'
  exact ⟨m, e, i, k, v, c, q, rfl, h1'.trans h1, h2'.trans h2, h3'.trans h3⟩

theorem saveCode_mem (pin c : Nat) (s : State) : ∃ m, saveCode pin c s = { s with mem := m } := by
  unfold saveCode
  dsimp only
  split
  · exact ⟨s.mem, rfl⟩
  · exact ⟨_, rfl⟩

theorem switchPins_spec (old new : List Nat) (s : State) : PinsSwitched s (switchPins old new s) := by
  unfold switchPins
  dsimp only
  refine foldl_chains PinsSwitched.refl (fun _ _ _ h h' => h.trans h') (fun t n => ?_) _ s
  split
  · exact .refl t
  · generalize (if mapRole (new.getD n 0) = 0 ∨ mapRole (new.getD n 0) = 3 then 0xF else if mapExcl (new.getD n 0) then 7 else 0) = c
    obtain ⟨f, e, i, k, v, r, q, hset⟩ := setCode_eq n c t
    obtain ⟨m, hsave⟩ := saveCode_mem n c (setCode n c t)
    rw [hsave, hset]
    exact ⟨m, _, i, k, v, r, q, rfl, rfl, rfl, rfl⟩

theorem switchPending_spec (s : State) : ∃ w t, PinsSwitched s t ∧ switchPending s = { t with ctx.switched := w } := by
  unfold switchPending
  split
  · split
    · exact ⟨s.ctx.switched, s, .refl s, rfl⟩
    · exact ⟨true, _, switchPins_spec _ _ s, rfl⟩
  · exact ⟨s.ctx.switched, s, .refl s, rfl⟩

theorem tempTrigger_eq (s : State) : ∃ g h, tempTrigger s = { s with cal.groupDue := g, cal.tempHeld := h } := by
  unfold tempTrigger
  split
  · exact ⟨s.cal.groupDue, s.cal.tempHeld, rfl⟩
  · split
    · exact ⟨some false, false, rfl⟩
    · exact ⟨s.cal.groupDue, true, rfl⟩

/-- The latest 16 temperatures with one more (05 R142). -/
def tempsWith (temp : Int) (l : List Int) : List Int := (l ++ [clampI (-512) 511 temp]).drop (l.length + 1 - 16)

/-- The highest temperature so far with one more. -/
def peakWith (m : Int) (peak : Option Int) : Int := match peak with
  | some p => if p < m then m else p
  | none => m

/-- Where the guard interval stands, by what the frame is for (03 R55). -/
def guardSeg (k : FrameKind) : Nat := if k == .lineTest then 6 else if k == .none then 7 else 4

/-- What the guard interval leaves: drivers on again, the temperature sampled, and pins that change role switched (03 R55, 05 R142). -/
theorem exec_guardSettleStart {s : State} (temp : Int) (hafe : s.clk.afe = true) (hcore : s.clk.core = true) (htimer : s.chn.timer = true) :
    ∃ m e i k v c q g h w, exec (.guardSettleStart temp) s = answer s { s with
      mem := m, elec := e, icu := i, clk.mergeIcu := k, evt := v, crl := c, arr.queue := q, cal.groupDue := g, cal.tempHeld := h, ctx.switched := w
      chn.seg := guardSeg s.chn.cur.kind, chn.step := 0xFF, cal.temps := tempsWith temp s.cal.temps, cal.tnow := meanTemp (tempsWith temp s.cal.temps)
      host.tpeak := some (peakWith (meanTemp (tempsWith temp s.cal.temps)) s.host.tpeak) } ∧
      e.tripped = [] ∧ e.shTripped = (if s.elec.shFault then s.elec.shTripped else []) := by
  have hexec : exec (.guardSettleStart temp) s = execGuardSettleStart temp s := rfl
  rw [hexec, execGuardSettleStart, if_neg (by simp [hafe, hcore, htimer])]
  obtain ⟨i, k, hraise, -⟩ := raise_line (n := 39) (by decide) { s with
    chn.seg := guardSeg s.chn.cur.kind, chn.step := 0xFF, elec.tripped := [], elec.shTripped := if s.elec.shFault then s.elec.shTripped else []
    cal.temps := tempsWith temp s.cal.temps, cal.tnow := meanTemp (tempsWith temp s.cal.temps)
    host.tpeak := some (peakWith (meanTemp (tempsWith temp s.cal.temps)) s.host.tpeak) }
  obtain ⟨w, t, ⟨m, e, i', k', v, c, q, ht, htrip, hsh, -⟩, hswitch⟩ := switchPending_spec { s with
    chn.seg := guardSeg s.chn.cur.kind, chn.step := 0xFF, elec.tripped := [], elec.shTripped := if s.elec.shFault then s.elec.shTripped else []
    cal.temps := tempsWith temp s.cal.temps, cal.tnow := meanTemp (tempsWith temp s.cal.temps)
    host.tpeak := some (peakWith (meanTemp (tempsWith temp s.cal.temps)) s.host.tpeak), icu := i, clk.mergeIcu := k }
  obtain ⟨g, h, htemp⟩ := tempTrigger_eq { t with ctx.switched := w }
  refine ⟨m, e, i', k', v, c, q, g, h, w, ?_, htrip, hsh⟩
  rw [← hraise] at hswitch
  exact congrArg (answer s) ((congrArg tempTrigger hswitch).trans (htemp.trans (by rw [ht])))

/-! ### The tile noise -/

/-- The noise record of a chain (03 R78). -/
def noiseRecord (s : State) (p : Params) (c : Nat) : List Byte :=
  let a := chainNoise s c p.kp
  let b := chainNoise s c p.ks
  let w := weight a b p.wMin
  leBytes 4 a ++ leBytes 4 b ++ leBytes 2 w ++ leBytes 2 (256 - w) ++ leBytes 4 0

theorem length_noiseRecord (s : State) (p : Params) (c : Nat) : (noiseRecord s p c).length = 16 := by
  simp only [noiseRecord, List.length_append, length_leBytes]

/-- What the tile noise leaves (03 R75, R78, R80). -/
theorem exec_tileNoise {s : State} (hscan : s.scans = true) (hkind : s.chn.cur.kind = .normal) : ∃ n ok a b i k, exec .tileNoise s = answer s { s with
    mem := (s.mem.clear noiseArea 0xC00).write noiseArea ((List.range (s.params s.epoch).s).flatMap (noiseRecord s (s.params s.epoch)))
    chn.noise := n, chn.cur.noiseOk := ok, chn.perP := a, chn.perS := b, icu := i, clk.mergeIcu := k } ∧ n.length = 5 ∧
    (s.chn.cur.listenBad = true → a = s.chn.perP ∧ b = s.chn.perS ∧ ok = false) ∧
    (s.chn.cur.listenBad = false → (a = 0 ∨ a = min (s.chn.perP + 1) 15) ∧ (b = 0 ∨ b = min (s.chn.perS + 1) 15)) := by
  have hexec : exec .tileNoise s = execTileNoise s := rfl
  rw [hexec, execTileNoise, if_neg (by simp [hscan, hkind])]
  dsimp only
  have hlen : ∀ f : Nat → Nat, ((List.range 5).map f).length = 5 := fun f => by rw [List.length_map, List.length_range]
  have hcount : ∀ (b : Bool) (n : Nat), (if b then Nat.min 15 (n + 1) else 0) = 0 ∨ (if b then Nat.min 15 (n + 1) else 0) = min (n + 1) 15 := by
    intro b n
    split
    · exact .inr (Nat.min_comm 15 (n + 1))
    · exact .inl rfl
  cases hbad : s.chn.cur.listenBad with
  | true =>
    rw [if_pos rfl]
    obtain ⟨i, k, h, -⟩ := raise_line (n := 11) (by decide) (_ : State)
    exact ⟨_, _, s.chn.perP, s.chn.perS, i, k, congrArg (answer s) h, hlen _, fun _ => ⟨rfl, rfl, by simp⟩, fun h => Bool.noConfusion h⟩
  | false =>
    rw [if_neg Bool.false_ne_true]
    obtain ⟨i, k, h, -⟩ := raise_line (n := 11) (by decide) (_ : State)
    exact ⟨_, _, _, _, i, k, congrArg (answer s) h, hlen _, fun h => Bool.noConfusion h, fun _ => ⟨hcount _ _, hcount _ _⟩⟩

end Sys2Proof.Machine
end

section
/-! What the rules of trips and scan steps come to (02 R47, 03 R65, R66, R74, R75). -/

namespace Sys2Proof.Machine

/-- The tile noise of a chain stands in its record (03 R75, R78). -/
theorem le_noiseRecord {s : State} (hm : s.memOk) {p : Params} {c : Nat} (hc : c < p.s) :
    ((s.mem.clear noiseArea 0xC00).write noiseArea ((List.range p.s).flatMap (noiseRecord s p))).le (noiseArea + 16 * c) 4 = chainNoise s c p.kp := by
  have hwf := Memory.clear_wf s.mem noiseArea 0xC00 hm
  have hc' : c < (List.range p.s).length := by rwa [List.length_range]
  have hread := Memory.read_write_flatMap hwf noiseArea (length_noiseRecord s p) hc'
  have hpart := Memory.take_drop_read (Memory.write_wf _ noiseArea ((List.range p.s).flatMap (noiseRecord s p)) hwf) (noiseArea + 16 * c)
    (o := 0) (k := 4) (n := 16) (by norm_num)
  rw [hread, List.getElem_range, List.drop_zero, Nat.add_zero, noiseRecord] at hpart
  have hbound : chainNoise s c p.kp < 256 ^ 4 := by
    have hsum : ((List.range 8).map (fun j => s.mem.le (listenData + 3 * (40 * c + 8 * (p.kp - 2) + j)) 3)).sum ≤ 8 * 256 ^ 3 := by
      have h := List.sum_le_card_nsmul ((List.range 8).map (fun j => s.mem.le (listenData + 3 * (40 * c + 8 * (p.kp - 2) + j)) 3)) (256 ^ 3) (by
        intro x hx
        obtain ⟨j, -, rfl⟩ := List.mem_map.1 hx
        exact (Memory.le_lt hm _ 3).le)
      rwa [List.length_map, List.length_range, smul_eq_mul] at h
    rw [chainNoise, ← List.sum_eq_foldl]
    omega
  rw [Memory.le, ← hpart]
  simp only [List.append_assoc]
  rw [List.take_left' (length_leBytes 4 _), leNat_leBytes, Nat.mod_eq_of_lt hbound]

/-- What a line's code says of it (02 R49, R51): good lines are not held, quiet ones are held and rest. -/
theorem codeHeld_of_good {s : State} {pin : Nat} (h : s.codeOf pin = 0 ∨ s.codeOf pin = 6) : codeHeld (s.codeOf pin) = false := by
  rcases h with h | h <;> rw [h] <;> rfl

theorem codeHeld_of_quiet {s : State} {pin : Nat} (h : s.codeOf pin = 1 ∨ s.codeOf pin = 5 ∨ s.codeOf pin = 7) : codeHeld (s.codeOf pin) = true := by
  rcases h with h | h | h <;> rw [h] <;> rfl

/-- A driven line that rests does not hear of the trip. -/
theorem afterTrip_rests {o : PinOut} (h : o = .quiet ∨ o = .vcm) (pin : Nat) (t : State) : afterTrip o pin t = t := by
  rcases h with rfl | rfl <;> rfl

section Trip

variable {s : State} {pin : Nat} {src : Bool}
  (hm : s.memOk) (hscan : s.scans = true) (hpin : pin < 320) (hkind : s.chn.cur.kind ≠ .lineTest) (hlt : s.elec.ltLeft = 0)
  (hon : s.driverOn pin = true)

include hscan hlt hon

/-- What stands on a driven pin whose line is not held. -/
theorem pinOut_good (hgood : codeHeld (s.codeOf pin) = false) : s.pinOut pin = segmentOut s.chn.seg (s.roleOf pin) (s.lineOf pin)
    (s.chn.cur.kind.injects (s.lineOf pin)) := by
  rw [(pinOut_of_driverOn hscan hlt hon).2, hgood, if_neg Bool.false_ne_true]

/-- A held line that is driven rests, and so does every driven line from the listen segment on. -/
theorem pinOut_rests (h : codeHeld (s.codeOf pin) = true ∨ 3 ≤ s.chn.seg) : s.pinOut pin = .quiet ∨ s.pinOut pin = .vcm := by
  obtain ⟨hdriven, hout⟩ := pinOut_of_driverOn hscan hlt hon
  have hrole := driverOn_role hon
  by_cases hheld : codeHeld (s.codeOf pin) = true
  · rw [if_pos hheld] at hout
    rw [hout] at hdriven ⊢
    exact heldOut_driven hdriven
  · have hlate := h.resolve_left hheld
    rw [if_neg hheld] at hout
    rw [hout] at hdriven ⊢
    obtain ⟨h0, -⟩ | ⟨h0, -⟩ | ⟨h0, -⟩ | ⟨h0, -⟩ | ⟨-, hrest⟩ := segmentOut_driven hrole hdriven
    · omega
    · omega
    · omega
    · omega
    · exact hrest

/-- A trip of a driver that is on (02 R47, R48): what is counted, and what the frame makes of it. -/
theorem driverTrip_spec : ∃ u : State, u = afterTrip (s.pinOut pin) pin (countTrip pin src s) ∧
    u.elec.tripped = s.elec.tripped ++ [pin] ∧ u.elec.tripCnt = cnt 16 s.elec.tripCnt 1 ∧
    (s.chn.seg = 0 → s.roleOf pin = 1 → codeHeld (s.codeOf pin) = false → s.chn.cur.dcause = 0 → u.chn.cur.dcause = 1) ∧
    (s.chn.seg = 1 ∧ s.roleOf pin = 1 ∨ s.chn.seg = 2 ∧ s.roleOf pin = 2 → codeHeld (s.codeOf pin) = false →
      u.chn.cur.selfRep = s.chn.cur.selfRep ++ [pin]) ∧
    (codeHeld (s.codeOf pin) = true → u.chn.cur = s.chn.cur) ∧
    (3 ≤ s.chn.seg → u.chn.cur = { s.chn.cur with faults := u.chn.cur.faults }) ∧
    (s.elec.tripRun = [(pin, 2, src)] → u.elec.code = if codeHeld (s.codeOf pin) then s.elec.code else s.elec.code.set pin (if src then 2 else 3)) ∧
    (s.elec.tripRun = [] → u.elec.code = s.elec.code ∧ u.elec.tripRun = [(pin, 1, src)]) := by
  obtain ⟨r, w, l, f, e, i, k, v, c, q, hcount, hfew, hthird⟩ := countTrip_eq pin src s
  obtain ⟨m, d, l', hafter⟩ := afterTrip_eq (s.pinOut pin) pin (countTrip pin src s)
  have helec : (afterTrip (s.pinOut pin) pin (countTrip pin src s)).elec = (countTrip pin src s).elec := by rw [hafter]
  refine ⟨_, rfl, by rw [helec, hcount], by rw [helec, hcount], fun hseg hrole hgood hcause => ?_, fun hpass hgood => ?_, fun hheld => ?_,
    fun hlate => ?_, fun hrun => ?_, fun hrun => ?_⟩
  · obtain ⟨m', h⟩ := disturbFrame_eq (countTrip pin src s)
    rw [pinOut_good hscan hlt hon hgood, hseg, hrole]
    change (disturbFrame (countTrip pin src s)).chn.cur.dcause = 1
    rw [h, hcount]
    exact if_pos hcause
  · rw [pinOut_good hscan hlt hon hgood]
    rcases hpass with ⟨hseg, hrole⟩ | ⟨hseg, hrole⟩ <;>
    · rw [hseg, hrole]
      change (countTrip pin src s).chn.cur.selfRep ++ [pin] = _
      rw [hcount]
  · rw [afterTrip_rests (pinOut_rests hscan hlt hon (.inl hheld)), hcount, (hfew (.inr hheld)).2.1]
  · rw [afterTrip_rests (pinOut_rests hscan hlt hon (.inr hlate)), hcount]
  · rw [helec, hcount]
    have hthree := tripsOf_pair hrun
    cases hheld : codeHeld (s.codeOf pin) with
    | true => exact (hfew (.inr hheld)).1
    | false => exact hthird (by omega) hheld
  · rw [helec, hcount]
    have hone := tripsOf_nil (pin := pin) hrun
    obtain ⟨hcode, -, hr⟩ := hfew (.inl (by omega))
    refine ⟨hcode, hr.trans ?_⟩
    rw [hrun, hone]
    rfl

end Trip

theorem cnt16_eq (n k : Nat) : cnt 16 n k = min (n + k) 65535 := rfl

/-- The third trip of an SH driver in a row, and its first. -/
theorem shieldTrips_of_run {sh n : Nat} {s : State} (h : s.elec.shRun = [(sh, n)]) : shieldTrips sh s = n + 1 := by
  simp [shieldTrips, assoc, h]

theorem shieldTrips_nil {sh : Nat} {s : State} (h : s.elec.shRun = []) : shieldTrips sh s = 1 := by
  rw [shieldTrips, h]
  rfl

/-- The latest samples and their mean where fewer than sixteen stood (05 R142). -/
theorem tempsWith_few {temp : Int} {l : List Int} (hlo : -512 ≤ temp) (hhi : temp ≤ 511) (h : l.length < 16) :
    tempsWith temp l = l ++ [temp] ∧ meanTemp (tempsWith temp l) = (l ++ [temp]).sum / (l.length + 1) := by
  have hkeep : l.length + 1 - 16 = 0 := by omega
  have htemps : tempsWith temp l = l ++ [temp] := by
    rw [tempsWith, hkeep, List.drop_zero, clampI, if_neg (by omega), if_neg (by omega)]
  refine ⟨htemps, ?_⟩
  rw [htemps, meanTemp, if_neg (by simp), sumI, ← List.sum_eq_foldl, List.length_append, List.length_singleton]
  rfl

theorem peakWith_le (m : Int) (peak : Option Int) : m ≤ peakWith m peak ∧ ∀ w, peak = some w → w ≤ peakWith m peak := by
  cases peak with
  | none => exact ⟨le_refl m, fun w h => absurd h (Option.some_ne_none w).symm⟩
  | some p =>
    have hpeak : peakWith m (some p) = if p < m then m else p := rfl
    rw [hpeak]
    constructor
    · split <;> omega
    · intro w h
      rw [← Option.some.inj h]
      split <;> omega

end Sys2Proof.Machine

open Sys2Proof Sys2Proof.Machine

/-- Settles O42: a trip by what the driver stood for, an SH driver's by its count, the guard interval and the tile noise each by what it
leaves. -/
theorem tripsGuardAndNoise : Obligations.TripsGuardAndNoise := by
  unfold Obligations.TripsGuardAndNoise
  intro pin src sh temp s hm
  refine ⟨fun hscan hpin hlen hkind hlt hon => ?_, fun hscan hfault hnew => ?_, fun hafe hcore htimer hlo hhi hfew => ?_, fun hscan hkind => ?_⟩
  · obtain ⟨u, hu, htrip, hcnt, hcode, hself, hheld, hlate, hthird, hfirst⟩ := driverTrip_spec (src := src) hscan hlt hon
    have hexec := exec_driverTrip (src := src) hscan hpin hkind hon
    rw [← hu] at hexec
    refine completes_answer hexec ⟨htrip, hcnt, fun hseg hrole hgood => hcode hseg hrole (codeHeld_of_good hgood),
      fun hquiet => hheld (codeHeld_of_quiet hquiet), fun hseg hrole hgood => hself (.inl ⟨hseg, hrole⟩) (codeHeld_of_good hgood),
      fun hseg hrole hgood => hself (.inr ⟨hseg, hrole⟩) (codeHeld_of_good hgood), hlate, fun hrun => ⟨fun hgood => ?_, fun hquiet => ?_⟩, hfirst⟩
    · change u.elec.code.getD pin 15 = _
      rw [hthird hrun, codeHeld_of_good hgood, if_neg Bool.false_ne_true, List.getD_eq_getElem _ _ (by rw [List.length_set, hlen]; exact hpin),
        List.getElem_set_self]
    · change u.elec.code.getD pin 15 = _
      rw [hthird hrun, codeHeld_of_quiet hquiet, if_pos rfl]
  · obtain ⟨e, b, i, k, v, c, q, hexec, htrip, hcnt, hf, hlow, hhigh⟩ := exec_shieldTrip hscan hfault hnew
    refine completes_answer hexec ⟨htrip, hcnt, hlow, fun hseg => ?_, fun hrun => ?_, fun hrun => ?_⟩
    · rw [hhigh hseg]
    · exact hf.trans (decide_eq_true (by rw [shieldTrips_of_run hrun]))
    · exact hf.trans (decide_eq_false (by rw [shieldTrips_nil hrun]; norm_num))
  · obtain ⟨m, e, i, k, v, c, q, g, h, w, hexec, htrip, hsh⟩ := exec_guardSettleStart temp hafe hcore htimer
    obtain ⟨htemps, hmean⟩ := tempsWith_few hlo hhi hfew
    obtain ⟨hpeak, hpast⟩ := peakWith_le (meanTemp (tempsWith temp s.cal.temps)) s.host.tpeak
    refine completes_answer hexec ⟨htrip, rfl, ?_, htemps, hmean, ⟨_, rfl, hpeak, hpast⟩, fun hok => ?_⟩
    · simp only [guardSeg, beq_iff_eq]
    · exact hsh.trans (by rw [hok, if_neg Bool.false_ne_true])
  · obtain ⟨n, ok, a, b, i, k, hexec, hlen, hbad, hgood⟩ := exec_tileNoise hscan hkind
    have hwf := Memory.write_wf _ noiseArea ((List.range (s.params s.epoch).s).flatMap (noiseRecord s (s.params s.epoch)))
      (Memory.clear_wf s.mem noiseArea 0xC00 hm)
    refine completes_answer hexec ⟨hlen, fun c hc hs hlo hhi => ?_, hbad, hgood⟩
    change (Memory.canon _).le _ 4 = _
    rw [Memory.canon_of_wf _ hwf]
    refine (le_noiseRecord hm hc).trans ?_
    rw [chainNoise, ← List.sum_eq_foldl]
    rfl

end

section
/-! The steps of a normal frame (03 R56, R65, R66, R68, R74). -/

open Sys2Proof Sys2Proof.Machine

/-- Settles O41: a step's values stand in their places of the step store and the listen data, since no other chain's lie there; the frame's
other events by what each leaves. -/
theorem scanStepsAreMixedAndStored : Obligations.ScanStepsAreMixedAndStored := by
  unfold Obligations.ScanStepsAreMixedAndStored
  intro step c k x s hm hscan hkind hstep
  have hinject : ∀ c, s.chn.cur.kind.injects c = false := fun c => by rw [hkind]; rfl
  have hexec := exec_scanStep x hscan hkind hstep
  refine ⟨?_, fun hmut hc hs => ?_, fun hlisten hc hs hk => ?_, fun pin src hpin hon => ?_, fun sh hfault hnew => ?_, ?_, fun temp hafe hcore htimer => ?_⟩
  · refine completes_answer hexec ⟨rfl, ?_⟩
    change (if step = 159 then 4 else segOf (step + 1)) = _
    rw [segOf]
  · obtain ⟨d, m, hpart, hwf, hbyte⟩ := stepPart_mutual (x.map (fun w => w.map adcSample)) s hmut
    obtain ⟨hp, hq⟩ := leI_mutualStep hm (s.params s.epoch) (x.map (fun w => w.map adcSample)) hmut hc hs (hinject c)
    obtain ⟨l, bs, -, hmstep⟩ := mutualStep_mem step (s.params s.epoch) (x.map (fun w => w.map adcSample)) s
    have hmwf : (mutualStep step (s.params s.epoch) (x.map (fun w => w.map adcSample)) s).mem.wf = true := by
      rw [hmstep]
      exact Memory.write_wf _ _ _ (Memory.foldl_wf (fun m c => putPair_wf s.epoch step c _) _ hm)
    have hread : ∀ {a : Nat}, a + 3 ≤ trimRam →
        m.canon.leI a 3 = (mutualStep step (s.params s.epoch) (x.map (fun w => w.map adcSample)) s).mem.leI a 3 := by
      intro a ha
      rw [Memory.canon_of_wf _ (hwf hmwf)]
      exact Memory.leI_congr hmwf (hwf hmwf) fun i hi => hbyte _ (by omega)
    have hstore : stepStore s.epoch ≤ 0x30024C00 := by
      unfold stepStore
      split <;> norm_num
    rw [hpart] at hexec
    refine completes_answer hexec ⟨?_, ?_⟩
    · refine ((hread (by rw [trimRam]; omega)).trans hp).trans ?_
      rw [stepValue, mixIQ, mixSum_adc, mixSum_adc, sat24_eq]
      rfl
    · refine ((hread (by rw [trimRam]; omega)).trans hq).trans ?_
      rw [stepValue, mixIQ, mixSum_adc, mixSum_adc, sat24_eq]
      rfl
  · rw [stepPart_listen _ _ hlisten] at hexec
    obtain ⟨l, m, hwf, hlstep⟩ := listenStep_mem (step - 152) (s.params s.epoch) (x.map (fun w => w.map adcSample)) s hm
    have hmwf : (listenStep (step - 152) (s.params s.epoch) (x.map (fun w => w.map adcSample)) s).mem.wf = true := by
      rw [hlstep]
      exact Memory.foldl_wf (fun m c => putListen_wf (step - 152) c _) _ hwf
    have hle := le_listenStep hm (s.params s.epoch) (x.map (fun w => w.map adcSample)) (j := step - 152) (by omega) hc hk
    rw [magnitude, mixIQ, mixSum_adc, mixSum_adc] at hle
    generalize listenStep (step - 152) (s.params s.epoch) (x.map (fun w => w.map adcSample)) s = u at hexec hle hmwf
    refine completes_answer hexec ?_
    change u.mem.canon.le _ 3 = _
    rw [Memory.canon_of_wf _ hmwf]
    exact hle
  · obtain ⟨r, w, l, f, e, i, j, v, c', q, hcount, -⟩ := countTrip_eq pin src s
    obtain ⟨m, d, l', hafter⟩ := afterTrip_eq (s.pinOut pin) pin (countTrip pin src s)
    have hexec := exec_driverTrip (src := src) hscan hpin (by rw [hkind]; decide) hon
    rw [hafter, hcount] at hexec
    exact completes_answer hexec rfl
  · obtain ⟨e, b, i, j, v, c', q, hexec, htrip, -⟩ := exec_shieldTrip hscan hfault hnew
    exact completes_answer hexec htrip
  · obtain ⟨n, ok, a, b, i, j, hexec, hlen, -⟩ := exec_tileNoise hscan hkind
    exact completes_answer hexec hlen
  · obtain ⟨m, e, i, j, v, c', q, g, h, w, hexec, htrip, -⟩ := exec_guardSettleStart temp hafe hcore htimer
    refine completes_answer hexec ⟨?_, rfl, htrip⟩
    change guardSeg s.chn.cur.kind = 4
    rw [hkind]
    rfl

end

section
/-! The transform of 128 values is the Walsh-Hadamard matrix (03 R61, R70). -/

namespace Sys2Proof.Machine

/-! ### Elements of the matrix -/

/-- The sign that an even or odd number of hits stands for, hit by hit. -/
theorem sign_filter (p : Nat → Bool) (l : List Nat) :
    (if (l.filter p).length % 2 = 0 then (1 : Int) else -1) = (l.map (fun k => if p k then (-1 : Int) else 1)).prod := by
  induction l with
  | nil => rfl
  | cons k l ih =>
    rw [List.map_cons, List.prod_cons, ← ih]
    by_cases hk : p k = true
    · rw [List.filter_cons_of_pos hk, List.length_cons, if_pos hk]
      split <;> split <;> omega
    · rw [List.filter_cons_of_neg hk, if_neg hk, one_mul]

/-- An element, bit by bit. -/
theorem walsh_eq_prod (d t : Nat) : walsh d t = ((List.range 7).map (fun k => if d.testBit k && t.testBit k then (-1 : Int) else 1)).prod := by
  rw [walsh, popcount, bitsOf, sign_filter]
  simp only [bit_eq_testBit, Nat.testBit_and]

/-- Rows that agree on the bits that a column has agree there. -/
theorem walsh_congr {d d' t : Nat} (h : ∀ k, k < 7 → t.testBit k = true → d.testBit k = d'.testBit k) : walsh d t = walsh d' t := by
  rw [walsh_eq_prod, walsh_eq_prod]
  refine congrArg List.prod (List.map_congr_left fun k hk => ?_)
  cases ht : t.testBit k with
  | false => rw [Bool.and_false, Bool.and_false]
  | true => rw [h k (List.mem_range.1 hk) ht]

theorem prod_single {j : Nat} (hj : j < 7) (v : Int) : ((List.range 7).map (fun k => if k = j then v else 1)).prod = v := by
  interval_cases j <;> simp [List.range_succ]

/-- The columns of the upper half of a block: a row whose next bit is set turns their sign (03 R61). -/
theorem walsh_add_pow {d t j : Nat} (hj : j < 7) (ht : t < 2 ^ j) : walsh d (2 ^ j + t) = walsh d t * if d.testBit j then -1 else 1 := by
  have hbit : ∀ k, (2 ^ j + t).testBit k = (t.testBit k || decide (k = j)) := by
    intro k
    have hor := Nat.two_pow_add_eq_or_of_lt ht 1
    rw [Nat.mul_one] at hor
    rw [hor, Nat.testBit_or, Nat.testBit_two_pow, Bool.or_comm]
    simp only [eq_comm]
  have hno : t.testBit j = false := Nat.testBit_lt_two_pow ht
  rw [walsh_eq_prod, walsh_eq_prod, ← prod_single hj (if d.testBit j then -1 else 1), ← List.prod_map_mul]
  refine congrArg List.prod (List.map_congr_left fun k _ => ?_)
  rw [hbit]
  by_cases hk : k = j
  · rw [hk, hno, if_pos rfl, Bool.and_false, if_neg Bool.false_ne_true, one_mul, decide_eq_true rfl, Bool.or_true, Bool.and_true]
  · rw [if_neg hk, mul_one, decide_eq_false hk, Bool.or_false]

/-! ### One stage -/

theorem length_butterfly (n h : Nat) {l : List Int} (hl : l.length = 2 * h * n) : (butterfly n h l).length = 2 * h * n := by
  induction n generalizing l with
  | zero => rfl
  | succ n ih =>
    have hdrop : (l.drop (2 * h)).length = 2 * h * n := by rw [List.length_drop, hl, Nat.mul_succ, Nat.add_sub_cancel]
    simp only [butterfly, List.length_append, List.length_zipWith, List.length_take, List.length_drop, ih hdrop]
    rw [hl, Nat.mul_succ]
    omega

/-- A butterfly stage: the lower half of every block takes sums, the upper half differences. -/
theorem getD_butterfly (n : Nat) {h i : Nat} (hh : 0 < h) {l : List Int} (hl : l.length = 2 * h * n) (hi : i < 2 * h * n) :
    (butterfly n h l).getD i 0 = if i / h % 2 = 0 then l.getD i 0 + l.getD (i + h) 0 else l.getD (i - h) 0 - l.getD i 0 := by
  induction n generalizing l i with
  | zero => exact absurd hi (Nat.not_lt_zero i)
  | succ n ih =>
    rw [Nat.mul_succ] at hl hi
    have hzip : ∀ (f : Int → Int → Int) (k : Nat), k < h →
        (List.zipWith f (l.take h) ((l.drop h).take h))[k]? = some (f (l.getD k 0) (l.getD (h + k) 0)) := by
      intro f k hk
      rw [List.getElem?_zipWith, List.getElem?_take_of_lt hk, List.getElem?_take_of_lt hk, List.getElem?_drop, List.getElem?_eq_getElem (by omega),
        List.getElem?_eq_getElem (by omega), List.getD_eq_getElem _ _ (by omega), List.getD_eq_getElem _ _ (by omega)]
    have hlen : ∀ f : Int → Int → Int, (List.zipWith f (l.take h) ((l.drop h).take h)).length = h := by
      intro f
      rw [List.length_zipWith, List.length_take, List.length_take, List.length_drop]
      omega
    rw [butterfly]
    by_cases hlow : i < h
    · rw [List.getD_eq_getElem?_getD, List.append_assoc, List.getElem?_append_left (by rw [hlen]; exact hlow), hzip _ _ hlow, Option.getD_some,
        Nat.div_eq_of_lt hlow, if_pos rfl, Nat.add_comm h i]
    · by_cases hmid : i < 2 * h
      · have hone : i / h = 1 := Nat.div_eq_of_lt_le (by omega) (by omega)
        rw [List.getD_eq_getElem?_getD, List.append_assoc, List.getElem?_append_right (by rw [hlen]; omega), hlen,
          List.getElem?_append_left (by rw [hlen]; omega), hzip _ _ (by omega), Option.getD_some, hone, if_neg (by norm_num),
          Nat.add_sub_cancel' (by omega)]
      · obtain ⟨k, rfl⟩ : ∃ k, i = k + 2 * h := ⟨i - 2 * h, by omega⟩
        have hdrop : (l.drop (2 * h)).length = 2 * h * n := by rw [List.length_drop, hl, Nat.add_sub_cancel]
        have hget : ∀ m, (l.drop (2 * h)).getD m 0 = l.getD (m + 2 * h) 0 := fun m => by
          rw [List.getD_eq_getElem?_getD, List.getElem?_drop, Nat.add_comm, List.getD_eq_getElem?_getD]
        rw [List.getD_append_right _ _ _ _ (by rw [List.length_append, hlen, hlen]; omega), List.length_append, hlen, hlen,
          show k + 2 * h - (h + h) = k by omega, ih hdrop (by omega), hget, hget, hget, Nat.add_mul_div_right _ _ hh, Nat.add_mod_right,
          show k + 2 * h + h = k + h + 2 * h by omega]
        split
        · rfl
        next hodd =>
          have hge : h ≤ k := by
            by_contra hlt
            rw [Nat.div_eq_of_lt (by omega)] at hodd
            exact hodd rfl
          rw [show k + 2 * h - h = k - h + 2 * h by omega]

/-! ### The stages together -/

/-- A row's sum over its block of 2^j values. -/
def blockSum (z : List Int) (j i : Nat) : Int := ((List.range (2 ^ j)).map (fun t => walsh i t * z.getD (i / 2 ^ j * 2 ^ j + t) 0)).sum

/-- After a stage every value is its row's sum over a block of twice the length. -/
theorem blockSum_stage {z x : List Int} {j i : Nat} (hj : j < 7) (hi : i < 128) (hx : x.length = 128)
    (h : ∀ k, k < 128 → x.getD k 0 = blockSum z j k) : (butterfly (2 ^ (6 - j)) (2 ^ j) x).getD i 0 = blockSum z (j + 1) i := by
  have hpow : 2 * 2 ^ j * 2 ^ (6 - j) = 128 := by
    rw [← pow_succ', ← pow_add, show j + 1 + (6 - j) = 7 by omega]
    norm_num
  have hpos := Nat.two_pow_pos j
  rw [getD_butterfly _ hpos (by omega) (by omega)]
  have hbitlow : ∀ {a b : Nat}, a % 2 ^ j = b % 2 ^ j → ∀ t, t < 2 ^ j → walsh a t = walsh b t := by
    intro a b hab t ht
    refine walsh_congr fun k _ hk => ?_
    have hkj : k < j := by
      by_contra hge
      rw [Nat.testBit_lt_two_pow (lt_of_lt_of_le ht (Nat.pow_le_pow_right (by norm_num) (by omega)))] at hk
      exact Bool.noConfusion hk
    have h1 := congrArg (fun v => v.testBit k) hab
    simpa [Nat.testBit_mod_two_pow, hkj] using h1
  have hsplit : blockSum z (j + 1) i = ((List.range (2 ^ j)).map (fun t => walsh i t * z.getD (i / 2 ^ (j + 1) * 2 ^ (j + 1) + t) 0)).sum +
      (if i.testBit j then -1 else 1) *
        ((List.range (2 ^ j)).map (fun t => walsh i t * z.getD (i / 2 ^ (j + 1) * 2 ^ (j + 1) + 2 ^ j + t) 0)).sum := by
    rw [blockSum, show 2 ^ (j + 1) = 2 ^ j + 2 ^ j by rw [pow_succ]; omega, List.range_add, List.map_append, List.sum_append, List.map_map,
      ← List.sum_map_mul_left]
    congr 2
    refine List.map_congr_left fun t ht => ?_
    rw [Function.comp_apply, walsh_add_pow hj (List.mem_range.1 ht), Nat.add_assoc]
    ring
  have hhalf : i / 2 ^ (j + 1) = i / 2 ^ j / 2 := by rw [pow_succ, Nat.div_div_eq_div_mul]
  have hblock : ∀ {k b : Nat}, k % 2 ^ j = i % 2 ^ j → k / 2 ^ j * 2 ^ j = b → k < 128 →
      x.getD k 0 = ((List.range (2 ^ j)).map (fun t => walsh i t * z.getD (b + t) 0)).sum := by
    intro k b hmod hbase hk
    rw [h k hk, blockSum, hbase]
    exact congrArg List.sum (List.map_congr_left fun t ht => by rw [hbitlow hmod t (List.mem_range.1 ht)])
  have hdm := Nat.div_add_mod i (2 ^ j)
  have hdm2 := Nat.div_add_mod (i / 2 ^ j) 2
  have hbound : i / 2 ^ j < 2 * 2 ^ (6 - j) := by
    rw [Nat.div_lt_iff_lt_mul hpos]
    calc i < 128 := hi
      _ = 2 * 2 ^ (6 - j) * 2 ^ j := by rw [← hpow]; ring
  rw [hsplit, Nat.testBit_eq_decide_div_mod_eq, hhalf, pow_succ]
  rcases Nat.mod_two_eq_zero_or_one (i / 2 ^ j) with heven | hodd
  · rw [if_pos heven, heven, decide_eq_false (by norm_num), if_neg Bool.false_ne_true, one_mul]
    have hdiv : i / 2 ^ j = 2 * (i / 2 ^ j / 2) := by omega
    rw [hblock (k := i) rfl rfl hi, hblock (k := i + 2 ^ j) (b := i / 2 ^ j * 2 ^ j + 2 ^ j) (Nat.add_mod_right i _)
      (by rw [Nat.add_div_right _ hpos, Nat.succ_mul]) ?_]
    · rw [show i / 2 ^ j / 2 * (2 ^ j * 2) = i / 2 ^ j * 2 ^ j by rw [mul_comm (2 ^ j) 2, ← mul_assoc, Nat.mul_comm _ 2, ← hdiv]]
    · have hlt : (i / 2 ^ j + 1) < 2 * 2 ^ (6 - j) := by omega
      have hmod := Nat.mod_lt i hpos
      calc i + 2 ^ j = 2 ^ j * (i / 2 ^ j + 1) + i % 2 ^ j := by rw [Nat.mul_succ]; omega
        _ < 2 ^ j * (i / 2 ^ j + 1) + 2 ^ j := by omega
        _ = 2 ^ j * (i / 2 ^ j + 2) := by ring
        _ ≤ 2 ^ j * (2 * 2 ^ (6 - j)) := Nat.mul_le_mul_left _ (by omega)
        _ = 128 := by rw [← hpow]; ring
  · rw [if_neg (by omega), hodd, decide_eq_true rfl, if_pos rfl, neg_one_mul, ← sub_eq_add_neg]
    have hdiv : i / 2 ^ j = 2 * (i / 2 ^ j / 2) + 1 := by omega
    have hge : 2 ^ j ≤ i := by
      by_contra hlt
      rw [Nat.div_eq_of_lt (by omega)] at hodd
      omega
    have hbase : i / 2 ^ j * 2 ^ j = i / 2 ^ j / 2 * (2 ^ j * 2) + 2 ^ j := by
      calc i / 2 ^ j * 2 ^ j = (2 * (i / 2 ^ j / 2) + 1) * 2 ^ j := by rw [← hdiv]
        _ = i / 2 ^ j / 2 * (2 ^ j * 2) + 2 ^ j := by ring
    rw [hblock (k := i) rfl hbase hi, hblock (k := i - 2 ^ j) (b := i / 2 ^ j / 2 * (2 ^ j * 2)) ?_ ?_ (by omega)]
    · rw [← Nat.add_mod_right (i - 2 ^ j), Nat.sub_add_cancel hge]
    · have hsub : (i - 2 ^ j) / 2 ^ j = i / 2 ^ j - 1 := by
        have := Nat.add_div_right (i - 2 ^ j) hpos
        rw [Nat.sub_add_cancel hge] at this
        omega
      rw [hsub, Nat.sub_mul, hbase]
      omega

theorem blockSum_zero (z : List Int) (i : Nat) : blockSum z 0 i = z.getD i 0 := by
  have hone : walsh i 0 = 1 := by rw [walsh, Nat.and_zero]; rfl
  simp [blockSum, hone]

theorem length_stage {j : Nat} (hj : j < 7) {x : List Int} (hx : x.length = 128) : (butterfly (2 ^ (6 - j)) (2 ^ j) x).length = 128 := by
  have hpow : 2 * 2 ^ j * 2 ^ (6 - j) = 128 := by
    rw [← pow_succ', ← pow_add, show j + 1 + (6 - j) = 7 by omega]
    norm_num
  rw [length_butterfly _ _ (by omega), hpow]

/-- The stages from the first on. -/
def stages (z : List Int) : Nat → List Int
  | 0 => z
  | j + 1 => butterfly (2 ^ (6 - j)) (2 ^ j) (stages z j)

theorem wht128_eq_stages (z : List Int) : wht128 z = stages z 7 := rfl

theorem stages_spec {z : List Int} (hz : z.length = 128) (j : Nat) (hj : j ≤ 7) :
    (stages z j).length = 128 ∧ ∀ i, i < 128 → (stages z j).getD i 0 = blockSum z j i := by
  induction j with
  | zero => exact ⟨hz, fun i _ => (blockSum_zero z i).symm⟩
  | succ j ih =>
    obtain ⟨hlen, hval⟩ := ih (by omega)
    exact ⟨length_stage (by omega) hlen, fun i hi => blockSum_stage (by omega) hi hlen hval⟩

theorem length_wht128 {z : List Int} (hz : z.length = 128) : (wht128 z).length = 128 := by
  rw [wht128_eq_stages]
  exact (stages_spec hz 7 le_rfl).1

/-- The transform is the matrix of order 128 (03 R61, R70). -/
theorem getD_wht128 {z : List Int} (hz : z.length = 128) {d : Nat} (hd : d < 128) :
    (wht128 z).getD d 0 = ((List.range 128).map (fun t => walsh d t * z.getD t 0)).sum := by
  rw [wht128_eq_stages, (stages_spec hz 7 le_rfl).2 d hd, blockSum, Nat.div_eq_of_lt (by norm_num; exact hd)]
  simp only [Nat.zero_mul, Nat.zero_add]
  rfl

end Sys2Proof.Machine
end

section
/-! The decoding of a frame (02 R47, R52, 03 R70 to R73, R89, 04 R99 to R104). -/

namespace Sys2Proof.Machine

/-! ### Frames by columns -/

theorem getD_map_range {α : Type} (f : Nat → α) {n i : Nat} (hi : i < n) (x : α) : ((List.range n).map f).getD i x = f i := by
  rw [List.getD_eq_getElem _ _ (by rwa [List.length_map, List.length_range]), List.getElem_map, List.getElem_range]

theorem getD_map_lt {α β : Type} (f : α → β) (x : α) (y : β) {l : List α} {i : Nat} (hi : i < l.length) : (l.map f).getD i y = f (l.getD i x) := by
  rw [List.getD_eq_getElem _ _ (by rwa [List.length_map]), List.getElem_map, List.getD_eq_getElem _ _ hi]

theorem getD_zipWith {α β γ : Type} (f : α → β → γ) (x : α) (y : β) (z : γ) {l : List α} {l' : List β} {i : Nat} (hi : i < l.length)
    (hi' : i < l'.length) : (List.zipWith f l l').getD i z = f (l.getD i x) (l'.getD i y) := by
  rw [List.getD_eq_getElem _ _ (by rw [List.length_zipWith]; omega), List.getElem_zipWith, List.getD_eq_getElem _ _ hi, List.getD_eq_getElem _ _ hi']

/-- A node of a region of memory with rows of 192 values (05 R131). -/
theorem nodeOf_cols {s : State} (hm : s.memOk) (a w : Nat) {d c i j : Nat} (hi : i < d) (hj : j < c) :
    nodeOf (s.cols a w d c) i j = s.mem.leI (a + w * (192 * i + j)) w := by
  rw [nodeOf, State.cols, columnsOf, getD_map_range _ hj, getD_map_lt _ [] _ (by rwa [List.length_map, List.length_range]), getD_map_range _ hi,
    Memory.getD_ints hm _ _ hj]
  congr 1
  ring

theorem length_byRows (d c : Nat) (cols : List (List Int)) : (byRows d c cols).length = 24576 := by
  rw [byRows, length_flatMap_const (fun _ => by rw [List.length_map, List.length_range]), List.length_range]

/-- A node of a frame given by rows of 192. -/
theorem getD_byRows {d c i j : Nat} (cols : List (List Int)) (hi : i < 128) (hj : j < 192) :
    (byRows d c cols).getD (192 * i + j) 0 = if i < d ∧ j < c then nodeOf cols i j else 0 := by
  have hrow := take_drop_flatMap (f := fun i => (List.range 192).map (fun j => if i < d ∧ j < c then nodeOf cols i j else 0)) (w := 192)
    (fun _ => by rw [List.length_map, List.length_range]) (l := List.range 128) (i := i) (by rwa [List.length_range])
  rw [List.getElem_range, ← byRows] at hrow
  have hget := congrArg (fun l : List Int => l.getD j 0) hrow
  simp only [getD_map_range _ hj] at hget
  rw [← hget, List.getD_eq_getElem?_getD, List.getD_eq_getElem?_getD, List.getElem?_take_of_lt hj, List.getElem?_drop]

/-! ### What the raw values rest on -/

/-- Memory that two states share where a frame's step values, header and weights lie (03 R68, R78). -/
def SameScan (s t : State) : Prop := s.mem.wf = true ∧ t.mem.wf = true ∧
  ∀ y, y < baseMut ∨ (noiseArea ≤ y ∧ y < noiseArea + 0xC00) → t.mem.byte y = s.mem.byte y

theorem stepStore_bounds (e : Nat) : 0x30000000 ≤ stepStore e ∧ stepStore e ≤ 0x30024C00 := by
  unfold stepStore
  split <;> norm_num

theorem SameScan.le_low {s t : State} (h : SameScan s t) {a n : Nat} (hlow : a + n ≤ baseMut) : t.mem.le a n = s.mem.le a n :=
  Memory.le_congr h.1 h.2.1 fun i hi => h.2.2 _ (.inl (by omega))

theorem SameScan.le_noise {s t : State} (h : SameScan s t) {a n : Nat} (hlow : noiseArea ≤ a) (hhigh : a + n ≤ noiseArea + 0xC00) :
    t.mem.le a n = s.mem.le a n :=
  Memory.le_congr h.1 h.2.1 fun i hi => h.2.2 _ (.inr (by omega))

theorem SameScan.params {s t : State} (h : SameScan s t) (e : Nat) : t.params e = s.params e := by
  have hle : ∀ o n, o + n ≤ 128 → t.mem.le (hdrBase e + o) n = s.mem.le (hdrBase e + o) n := by
    intro o n ho
    have := stepStore_bounds e
    exact h.le_low (by rw [hdrBase, baseMut]; omega)
  simp [State.params, hle]

theorem SameScan.columnU {s t : State} (h : SameScan s t) (e : Nat) {c : Nat} (hc : c < 192) (p : Params) (seq : List Int) :
    columnU t e c p seq = columnU s e c p seq := by
  have hvalues : ∀ role, role < 2 → stepValues t e c role = stepValues s e c role := by
    intro role hrole
    have := stepStore_bounds e
    exact Memory.ints_congr h.1 h.2.1 fun i hi => h.2.2 _ (.inl (by rw [baseMut]; omega))
  have hraw : ∀ role, role < 2 → rawColumn t e c role seq = rawColumn s e c role seq := fun role hrole => by
    rw [rawColumn, rawColumn, hvalues role hrole]
  have hnoise : ∀ o n, o + n ≤ 16 → t.mem.le (noiseArea + 16 * c + o) n = s.mem.le (noiseArea + 16 * c + o) n := fun o n ho =>
    h.le_noise (by omega) (by omega)
  have hwp : t.wp c = s.wp c := hnoise 8 2 (by norm_num)
  have hnp : t.mem.le (noiseArea + 16 * c) 3 = s.mem.le (noiseArea + 16 * c) 3 := hnoise 0 3 (by norm_num)
  have hns : t.mem.le (noiseArea + 16 * c + 4) 3 = s.mem.le (noiseArea + 16 * c + 4) 3 := hnoise 4 3 (by norm_num)
  rw [Machine.columnU, Machine.columnU, hraw 0 (by norm_num), hraw 1 (by norm_num), hwp, hnp, hns]

/-- The combined raw values by column are those of its chain. -/
theorem getD_frameU {s : State} {e c : Nat} (hc : c < (s.params e).s) :
    (frameU s e).getD c [] = (columnU s e c (s.params e) (chips (s.params e).cs)).1 := by
  rw [frameU]
  exact getD_map_range _ hc []

theorem length_chips (cs : Nat) : (chips cs).length = 128 := by
  have h : ∀ n st, (chipsFrom n st).length = n := by
    intro n
    induction n with
    | zero => exact fun _ => rfl
    | succ n ih => exact fun st => congrArg (· + 1) (ih _)
  exact h 128 _

theorem length_columnU (s : State) (e c : Nat) {p : Params} (cs : Nat) (hd : p.d ≤ 128) : (columnU s e c p (chips cs)).1.length = p.d := by
  have hraw : ∀ role, (rawColumn s e c role (chips cs)).length = 128 := by
    intro role
    rw [rawColumn, List.length_map, length_wht128]
    rw [List.length_zipWith, length_chips, stepValues, Memory.length_ints, Nat.min_self]
  simp only [columnU, List.length_map, List.length_take, List.length_zip, hraw]
  omega

/-! ### The rules of lines, and the self data -/

/-- What the rules of 02 R47 change: the line status, its events, and the faults of the frame being scanned. -/
def LinesJudged (s t : State) : Prop := ∃ e l i k v c q, t = { s with
  elec := e, chn.cur.faults := l, icu := i, clk.mergeIcu := k, evt := v, crl := c, arr.queue := q }

theorem LinesJudged.refl (s : State) : LinesJudged s s := ⟨s.elec, s.chn.cur.faults, s.icu, s.clk.mergeIcu, s.evt, s.crl, s.arr.queue, rfl⟩

theorem LinesJudged.trans {s t u : State} (h : LinesJudged s t) (h' : LinesJudged t u) : LinesJudged s u := by
  obtain ⟨_, _, _, _, _, _, _, rfl⟩ := h
  obtain ⟨e, l, i, k, v, c, q, rfl⟩ := h'
  exact ⟨e, l, i, k, v, c, q, rfl⟩

theorem setCodeNow_judged (pin c : Nat) (s : State) (e : Electrodes) : LinesJudged s (setCodeNow pin c { s with elec := e }) := by
  obtain ⟨l, f, e', i, k, v, r, q, h⟩ := setCodeNow_eq pin c { s with elec := e }
  exact ⟨_, l, i, k, v, r, q, h⟩

theorem elec_judged (s : State) (e : Electrodes) : LinesJudged s { s with elec := e } :=
  ⟨e, s.chn.cur.faults, s.icu, s.clk.mergeIcu, s.evt, s.crl, s.arr.queue, rfl⟩

theorem countOverrange_judged (m : PinMap) (s : State) : LinesJudged s (countOverrange m s) := elec_judged s _

theorem overrangeRules_judged (m : PinMap) (s : State) : LinesJudged s (overrangeRules m s) := by
  unfold overrangeRules
  dsimp only
  refine foldl_chains LinesJudged.refl (fun _ _ _ h h' => h.trans h') (fun t cp => ?_) _ s
  split
  · exact .refl t
  · split
    · split
      · exact setCodeNow_judged _ _ t _
      · exact elec_judged t _
    · split
      · exact setCodeNow_judged _ _ t _
      · exact elec_judged t _

theorem selfRules_judged (pins : List Nat) (s : State) : LinesJudged s (selfRules pins s) := by
  unfold selfRules
  dsimp only
  refine foldl_chains LinesJudged.refl (fun _ _ _ h h' => h.trans h') (fun t n => ?_) _ s
  split
  · exact .refl t
  · generalize (if selfLow _ _ _ = true then _ else _ : Nat) = lo
    generalize (if selfHigh _ = true then _ else _ : Nat) = hi
    split
    · exact setCodeNow_judged _ _ t _
    · split
      · exact setCodeNow_judged _ _ t _
      · exact elec_judged t _

theorem length_selfDeltas (s : State) (m : PinMap) : (selfDeltas s m).length = 320 := by
  unfold selfDeltas
  rw [List.length_map, List.length_range]

/-- The self part writes the self deltas (04 R100) and notes whether the self data are good. -/
theorem selfPart_eq (m : PinMap) (s : State) : ∃ e b xs, xs.length = 320 ∧ selfPart m s = { s with
    mem := s.mem.write selfDelta (intBytes 2 xs), elec := e, chn.prev.selfBad := b } := by
  unfold selfPart
  dsimp only
  split
  · exact ⟨_, true, _, length_selfDeltas s m, rfl⟩
  · exact ⟨_, s.chn.prev.selfBad, _, length_selfDeltas s m, rfl⟩

/-! ### The mutual part -/

theorem badRows_none {f : Frame} (m : PinMap) (hfaults : f.faults = []) (hundriven : f.undriven = []) : f.badRows m = [] := by
  rw [Frame.badRows, List.filter_eq_nil_iff]
  intro d _
  simp [Frame.bad, hfaults, hundriven]

theorem badCols_none {f : Frame} (m : PinMap) (hfaults : f.faults = []) (hovr : f.ovr = []) (hrecal : f.recalCols = []) : f.badCols m = [] := by
  rw [Frame.badCols, List.filter_eq_nil_iff]
  intro d _
  simp [Frame.bad, Frame.overrangeCol, hfaults, hovr, hrecal]

/-- Where no line is bad a node stays as it is (02 R52). -/
theorem nodeOf_interpolate_good {d c i j : Nat} {cols : List (List Int)} (hi : i < d) (hj : j < c) (hlen : j < cols.length) :
    nodeOf (interpolate d c (fun _ => false) (fun _ => false) cols) i j = nodeOf cols i j := by
  simp only [nodeOf, interpolate, Bool.false_eq_true, if_false]
  rw [getD_map_range _ hj, getD_map_lt _ [] _ hlen, getD_map_range _ hi]

/-- The combined raw values under a frame's parameters, column by column. -/
def rawColumns (s : State) (e : Nat) (p : Params) : List (List Int) := (List.range p.s).map (fun c => (columnU s e c p (chips p.cs)).1)

theorem mutualPart_good {s : State} {m : PinMap} (hrows : s.chn.prev.badRows m = []) (hcols : s.chn.prev.badCols m = []) : ∃ l n i,
    mutualPart m s = { s with
      chn.divLast := l, chn.divTotal := n, chn.prev.interpolated := i, chn.prev.decoded := true
      mem := s.mem.write (deltaFrame s.chn.prev.epoch) (intBytes 2 (byRows (s.params s.chn.prev.epoch).d (s.params s.chn.prev.epoch).s
        (interpolate (s.params s.chn.prev.epoch).d (s.params s.chn.prev.epoch).s (fun _ => false) (fun _ => false)
          (List.zipWith (fun b u => List.zipWith deltaOf b u)
            (s.baseCols (s.params s.chn.prev.epoch).d (s.params s.chn.prev.epoch).s) (rawColumns s s.chn.prev.epoch (s.params s.chn.prev.epoch)))))) } := by
  unfold mutualPart countDiverged
  dsimp only
  rw [hrows, hcols]
  simp only [List.contains_nil, List.map_map]
  exact ⟨_, _, _, rfl⟩

theorem length_baseCols (s : State) (d c : Nat) : (s.baseCols d c).length = c := by
  rw [State.baseCols, State.cols, columnsOf, List.length_map, List.length_range]

theorem deltaFrame_bounds (e : Nat) : 0x30061800 ≤ deltaFrame e ∧ deltaFrame e ≤ 0x3006D800 := by
  unfold deltaFrame
  split <;> norm_num

/-- The delta frame of a frame without a bad line (03 R72): each node is that of its baseline and its raw value. -/
theorem delta_mutualPart {s : State} (hm : s.mem.wf = true) {m : PinMap} (hrows : s.chn.prev.badRows m = []) (hcols : s.chn.prev.badCols m = [])
    {d c : Nat} (hd : d < (s.params s.chn.prev.epoch).d) (hc : c < (s.params s.chn.prev.epoch).s) (hd128 : (s.params s.chn.prev.epoch).d ≤ 128)
    (hs192 : (s.params s.chn.prev.epoch).s ≤ 192) : (mutualPart m s).mem.wf = true ∧
    (mutualPart m s).mem.leI (deltaFrame s.chn.prev.epoch + 2 * (192 * d + c)) 2 =
      deltaOf (s.mem.leI (baseMut + 4 * (192 * d + c)) 4) (((frameU s s.chn.prev.epoch).getD c []).getD d 0) ∧
    ∀ y, y < 0x30061800 → (mutualPart m s).mem.byte y = s.mem.byte y := by
  obtain ⟨l, n, i, h⟩ := mutualPart_good hrows hcols
  rw [h]
  generalize hp : s.params s.chn.prev.epoch = p at *
  have hraw : (rawColumns s s.chn.prev.epoch p).length = p.s := by rw [rawColumns, List.length_map, List.length_range]
  have hnode : nodeOf (List.zipWith (fun b u => List.zipWith deltaOf b u) (s.baseCols p.d p.s) (rawColumns s s.chn.prev.epoch p)) d c =
      deltaOf (s.mem.leI (baseMut + 4 * (192 * d + c)) 4) (((frameU s s.chn.prev.epoch).getD c []).getD d 0) := by
    have hbase := nodeOf_cols hm baseMut 4 hd hc
    rw [nodeOf] at hbase
    rw [nodeOf, getD_zipWith _ [] [] [] (by rwa [length_baseCols]) (by rwa [hraw]), rawColumns, getD_map_range _ hc, getD_frameU (by rwa [hp]), hp,
      getD_zipWith _ 0 0 0 ?_ (by rwa [length_columnU _ _ _ _ hd128]), ← hbase]
    · rfl
    · rw [State.baseCols, State.cols, columnsOf, getD_map_range _ hc, List.length_map, List.length_map, List.length_range]
      exact hd
  have hget : (byRows p.d p.s (interpolate p.d p.s (fun _ => false) (fun _ => false) (List.zipWith (fun b u => List.zipWith deltaOf b u)
      (s.baseCols p.d p.s) (rawColumns s s.chn.prev.epoch p)))).getD (192 * d + c) 0 =
      deltaOf (s.mem.leI (baseMut + 4 * (192 * d + c)) 4) (((frameU s s.chn.prev.epoch).getD c []).getD d 0) := by
    rw [getD_byRows _ (by omega) (by omega), if_pos ⟨hd, hc⟩, nodeOf_interpolate_good hd hc ?_, hnode]
    rw [List.length_zipWith, length_baseCols, hraw]
    omega
  have hbounds := @satI_bounds 16
  refine ⟨Memory.write_wf _ _ _ hm, ?_, fun y hy => Memory.byte_write_outside _ (.inl ?_)⟩
  · refine (Memory.leI_write_intBytes hm _ (by norm_num) (by rw [length_byRows]; omega) ?_ ?_).trans hget
    · rw [hget]
      exact (hbounds _).1
    · rw [hget]
      exact (hbounds _).2
  · have := deltaFrame_bounds s.chn.prev.epoch
    omega

theorem guardTest_eq (p : Params) (s : State) : ∃ g b, guardTest p s = { s with cal.guard := g, cal.baseDue := b } := by
  unfold guardTest
  dsimp only
  split
  · exact ⟨s.cal.guard, s.cal.baseDue, rfl⟩
  · split
    · exact ⟨false, true, rfl⟩
    · exact ⟨false, s.cal.baseDue, rfl⟩

theorem filter_zip_range {l : List Nat} (p : Nat → Nat → Bool) :
    ((List.zip (List.range l.length) l).filter (fun cp => p cp.1 cp.2)).length = ((List.range l.length).filter (fun c => p c (l.getD c 0))).length := by
  have hzip : List.zip (List.range l.length) l = (List.range l.length).map (fun c => (c, l.getD c 0)) := by
    refine List.ext_getElem (by simp) fun i h1 h2 => ?_
    rw [List.length_map, List.length_range] at h2
    rw [List.getElem_zip, List.getElem_map, List.getElem_range, List.getD_eq_getElem _ _ h2]
  rw [hzip, List.filter_map, List.length_map]
  rfl

end Sys2Proof.Machine
end

section
/-! A frame's decoding, or its discard (02 R47, R54, 03 R72, R89). -/

namespace Sys2Proof.Machine

section Decode

variable {s : State} (hcore : s.clk.core = true) (hdec : s.chn.prev.decoded = false) (hgain : s.cal.gain = none) (hkind : s.chn.prev.kind = .normal)

include hcore hdec hgain hkind

/-- A normal frame in processing is counted for its overrange chains, and decoded unless it was discarded. -/
theorem exec_deltaFrame : exec (.deltaFrameWritten []) s =
    let m := s.pinMap (s.params s.chn.prev.epoch).ctx
    let t := countOverrange m s
    answer s (if s.chn.prev.dcause ≠ 0 then { t with chn.prev.decoded := true }
      else
        let t := overrangeRules m t
        raise 12 (guardTest (s.params s.chn.prev.epoch) (mutualPart m (selfPart m
          (if s.chn.prev.selfBad || t.elec.shFault then t else selfRules (m.drive ++ m.sense) t))))) := by
  have hexec : exec (.deltaFrameWritten []) s = execDeltaFrameWritten [] s := rfl
  have hpar : parityHits [] s = s := rfl
  have happly : applyGain s.chn.prev.epoch s = s := by
    unfold applyGain
    rw [hgain]
  rw [hexec, execDeltaFrameWritten, if_neg (by simp [hcore, hkind, hdec])]
  dsimp only
  rw [hpar, happly, hkind]

/-- What a frame that was not discarded leaves of the decoding (03 R70 to R73): its delta frame stands for the nodes of good lines. -/
theorem completes_decode (hm : s.memOk) (hcause : s.chn.prev.dcause = 0) (hfaults : s.chn.prev.faults = []) (hundriven : s.chn.prev.undriven = [])
    (hovr : s.chn.prev.ovr = []) (hrecal : s.chn.prev.recalCols = []) {d c : Nat} (hd : d < (s.params s.chn.prev.epoch).d)
    (hc : c < (s.params s.chn.prev.epoch).s) (hd128 : (s.params s.chn.prev.epoch).d ≤ 128) (hs192 : (s.params s.chn.prev.epoch).s ≤ 192) :
    Completes (.deltaFrameWritten []) s (fun t => t.chn.prev.decoded = true ∧
      t.mem.leI (deltaFrame s.chn.prev.epoch + 2 * (192 * d + c)) 2 =
        deltaOf (s.mem.leI (baseMut + 4 * (192 * d + c)) 4) (((frameU s s.chn.prev.epoch).getD c []).getD d 0) ∧
      t.mem.leI (baseMut + 4 * (192 * d + c)) 4 = s.mem.leI (baseMut + 4 * (192 * d + c)) 4) := by
  have hexec := exec_deltaFrame hcore hdec hgain hkind
  dsimp only at hexec
  rw [if_neg (not_not.2 hcause)] at hexec
  generalize s.pinMap (s.params s.chn.prev.epoch).ctx = m at hexec
  have hjudged : ∀ b : Bool, LinesJudged s (if b then overrangeRules m (countOverrange m s)
      else selfRules (m.drive ++ m.sense) (overrangeRules m (countOverrange m s))) := by
    intro b
    have h := (countOverrange_judged m s).trans (overrangeRules_judged m _)
    cases b with
    | true => exact h
    | false => exact h.trans (selfRules_judged _ _)
  have hjudged := hjudged (s.chn.prev.selfBad || (overrangeRules m (countOverrange m s)).elec.shFault)
  generalize (if (s.chn.prev.selfBad || (overrangeRules m (countOverrange m s)).elec.shFault) = true then overrangeRules m (countOverrange m s)
    else selfRules (m.drive ++ m.sense) (overrangeRules m (countOverrange m s))) = u at hexec hjudged
  obtain ⟨e, l, i, k, v, q, a, hu⟩ := hjudged
  obtain ⟨e', b, xs, hxs, hself⟩ := selfPart_eq m u
  generalize selfPart m u = w at hexec hself
  have hepoch : w.chn.prev.epoch = s.chn.prev.epoch := by rw [hself, hu]
  have hwf : w.mem.wf = true := by
    rw [hself, hu]
    exact Memory.write_wf _ _ _ hm
  have hkeep : ∀ y, y < selfDelta ∨ selfDelta + 640 ≤ y → w.mem.byte y = s.mem.byte y := by
    intro y hy
    rw [hself, hu]
    exact Memory.byte_write_outside _ (by rw [length_intBytes, hxs]; exact hy)
  have hsame : SameScan s w := ⟨hm, hwf, fun y hy => hkeep y (by rw [baseMut, noiseArea] at hy; rw [selfDelta]; omega)⟩
  have hparams := hsame.params s.chn.prev.epoch
  have hrows : w.chn.prev.badRows m = [] := badRows_none m (by rw [hself, hu, hfaults]) (by rw [hself, hu, hundriven])
  have hcols : w.chn.prev.badCols m = [] := badCols_none m (by rw [hself, hu, hfaults]) (by rw [hself, hu, hovr]) (by rw [hself, hu, hrecal])
  obtain ⟨hmwf, hdelta, hlow⟩ := delta_mutualPart hwf hrows hcols (d := d) (c := c) (by rwa [hepoch, hparams]) (by rwa [hepoch, hparams])
    (by rwa [hepoch, hparams]) (by rwa [hepoch, hparams])
  have hdone : (mutualPart m w).chn.prev.decoded = true := by
    obtain ⟨_, _, _, h⟩ := mutualPart_good hrows hcols
    rw [h]
  have hbase : w.mem.leI (baseMut + 4 * (192 * d + c)) 4 = s.mem.leI (baseMut + 4 * (192 * d + c)) 4 :=
    Memory.leI_congr hm hwf fun j hj => hkeep _ (.inl (by rw [baseMut, selfDelta]; omega))
  have hraw : (frameU w w.chn.prev.epoch).getD c [] = (frameU s s.chn.prev.epoch).getD c [] := by
    rw [hepoch, getD_frameU (by rwa [hparams]), getD_frameU hc, hparams, hsame.columnU _ (by omega)]
  rw [hepoch] at hdelta
  rw [hepoch] at hraw
  rw [hraw, hbase] at hdelta
  have hbase' : (mutualPart m w).mem.leI (baseMut + 4 * (192 * d + c)) 4 = s.mem.leI (baseMut + 4 * (192 * d + c)) 4 := by
    rw [← hbase]
    exact Memory.leI_congr hwf hmwf fun j hj => hlow _ (by rw [baseMut]; omega)
  generalize mutualPart m w = x at *
  obtain ⟨g, h, hguard⟩ := guardTest_eq (s.params s.chn.prev.epoch) x
  obtain ⟨i', k', hraise, -⟩ := raise_line (n := 12) (by decide) (guardTest (s.params s.chn.prev.epoch) x)
  rw [hraise, hguard] at hexec
  refine completes_answer hexec ⟨hdone, ?_, ?_⟩
  · change x.mem.canon.leI _ 2 = _
    rw [Memory.canon_of_wf _ hmwf, hdelta]
  · change x.mem.canon.leI _ 4 = _
    rw [Memory.canon_of_wf _ hmwf, hbase']

end Decode

end Sys2Proof.Machine

open Sys2Proof Sys2Proof.Machine

/-- Settles O44: the transform stage by stage; a discarded frame is counted and no more; the delta frame is written from the baseline and
the raw values, which no rule of a line touches. -/
theorem framesAreDecoded : Obligations.FramesAreDecoded := by
  unfold Obligations.FramesAreDecoded
  intro z d c s
  refine ⟨fun hz hd => getD_wht128 hz hd, fun hm hcore hdec hgain => ⟨fun hkind hcause => ?_, fun hkind hcause hfaults hundriven hovr hrecal hd hc _ _ hd128 hs192 => ?_⟩⟩
  · have hexec := exec_deltaFrame hcore hdec hgain hkind
    dsimp only at hexec
    rw [if_pos hcause] at hexec
    have hcount := filter_zip_range (l := (s.pinMap (s.params s.chn.prev.epoch).ctx).sense)
      (fun c pin => !s.chn.prev.held pin && s.chn.prev.overrangeCol c)
    refine completes_answer hexec ⟨?_, ?_⟩
    · simp only [countOverrange]
      rw [Memory.canon_of_wf _ hm]
    · change cnt 16 s.elec.ovrCnt _ = _
      rw [hcount, cnt16_eq]
  · obtain ⟨t, ht, hdone, hdelta, hbase⟩ := completes_decode hcore hdec hgain hkind hm hcause hfaults hundriven hovr hrecal hd hc hd128 hs192
    refine ⟨t, ht, hdone, hdelta.trans ?_, hbase⟩
    rw [deltaOf, sat16_eq]
    rfl

end

section
/-! The baseline update of a frame and the initial baseline (05 R126 to R138): what each writes at a node. -/

namespace Sys2Proof.Machine

/-! ### Numbers -/

theorem sext_bounds {w : Nat} (hw : 0 < w) (v : Nat) : -(2 ^ (w - 1) : Nat) ≤ sext w v ∧ sext w v < (2 ^ (w - 1) : Nat) := by
  have htwo : 2 ^ w = 2 * 2 ^ (w - 1) := by rw [← pow_succ', Nat.sub_add_cancel hw]
  have hlt := Nat.mod_lt v (Nat.two_pow_pos w)
  rw [sext]
  rw [htwo] at *
  split <;> omega

theorem Memory.leI_bounds (m : Memory) (a : Nat) {n : Nat} (hn : 0 < n) : -(2 ^ (8 * n - 1) : Nat) ≤ m.leI a n ∧ m.leI a n < (2 ^ (8 * n - 1) : Nat) :=
  sext_bounds (by omega) _

theorem tc_sext {w v : Nat} (h : v < 2 ^ w) : tc w (sext w v) = v := by
  have hmod : ((sext w v) % ((2 ^ w : Nat) : Int)) = (v : Int) := by
    rw [sext_of_lt h]
    split
    · rw [Int.emod_eq_of_lt (by omega) (by omega)]
    · rw [← Int.add_emod_right, Int.sub_add_cancel, Int.emod_eq_of_lt (by omega) (by omega)]
  rw [tc, hmod]
  exact Int.toNat_natCast v

/-- A baseline that drifts towards a value stays between the two (05 R127). -/
theorem drift_between (b v : Int) (sh : Nat) :
    min b v ≤ b + (v - b + (2 ^ (sh - 1) : Nat)) / (2 ^ sh : Nat) ∧ b + (v - b + (2 ^ (sh - 1) : Nat)) / (2 ^ sh : Nat) ≤ max b (v + 1) := by
  cases sh with
  | zero =>
    have hone : ((2 ^ 0 : Nat) : Int) = 1 := rfl
    rw [Nat.zero_sub, hone, Int.ediv_one]
    omega
  | succ sh =>
    rw [Nat.add_sub_cancel, pow_succ]
    have hpos : (1 : Int) ≤ ((2 ^ sh : Nat) : Int) := by exact_mod_cast Nat.two_pow_pos sh
    have htwo : ((2 ^ sh * 2 : Nat) : Int) = 2 * ((2 ^ sh : Nat) : Int) := by push_cast; ring
    rw [htwo]
    generalize ((2 ^ sh : Nat) : Int) = h at *
    generalize hx : v - b = x
    have hlow : min 0 x ≤ (x + h) / (2 * h) := by
      rw [Int.le_ediv_iff_mul_le (by omega)]
      rcases le_total 0 x with hp | hn
      · rw [min_eq_left hp]
        omega
      · rw [min_eq_right hn]
        nlinarith
    have hhigh : (x + h) / (2 * h) ≤ max 0 x := by
      refine Int.lt_add_one_iff.1 ((Int.ediv_lt_iff_lt_mul (by omega)).2 ?_)
      rcases le_total 0 x with hp | hn
      · rw [max_eq_right hp]
        nlinarith
      · rw [max_eq_left hn]
        omega
    omega

/-! ### Blocks that one step of a fold changes by what stands there -/

/-- What one step of a fold of changes makes of a number that no other step touches. -/
theorem Memory.le_foldl_once {α : Type} {g : Memory → α → Memory} (hg : ∀ m k, m.wf = true → (g m k).wf = true) {l : List α} (hnodup : l.Nodup)
    {k : α} (hk : k ∈ l) {m : Memory} (hm : m.wf = true) {a n v : Nat} (hset : ∀ m' : Memory, m'.wf = true → m'.le a n = m.le a n → (g m' k).le a n = v)
    (hkeep : ∀ m, ∀ j ∈ l, j ≠ k → ∀ i, i < n → (g m j).byte (a + i) = m.byte (a + i)) : (l.foldl g m).le a n = v := by
  obtain ⟨l₁, l₂, rfl⟩ := List.append_of_mem hk
  have hnot2 : k ∉ l₂ := (List.nodup_cons.1 (List.nodup_append.1 hnodup).2.1).1
  have hnot1 : k ∉ l₁ := fun h => (List.nodup_append.1 hnodup).2.2 k h k List.mem_cons_self rfl
  have h1 := Memory.foldl_wf hg l₁ hm
  have hbefore : (l₁.foldl g m).le a n = m.le a n := Memory.le_congr hm h1 fun i hi => Memory.byte_foldl_outside
    (fun m j hj => hkeep m j (List.mem_append_left _ hj) (fun h => hnot1 (h ▸ hj)) i hi) m
  rw [List.foldl_append, List.foldl_cons, ← hset _ h1 hbefore]
  exact Memory.le_congr (hg _ _ h1) (Memory.foldl_wf hg l₂ (hg _ _ h1)) fun i hi => Memory.byte_foldl_outside
    (fun m j hj => hkeep m j (List.mem_append_right _ (List.mem_cons_of_mem k hj)) (fun h => hnot2 (h ▸ hj)) i hi) _

/-! ### Nodes -/

theorem mem_allNodes {d c : Nat} {n : Node} : n ∈ allNodes d c ↔ n.1 < d ∧ n.2 < c := by
  obtain ⟨i, j⟩ := n
  simp [allNodes]

theorem nodup_allNodes (d c : Nat) : (allNodes d c).Nodup := by
  rw [allNodes, List.nodup_flatMap]
  refine ⟨fun i _ => List.nodup_range.map fun a b h => (Prod.ext_iff.1 h).2, List.nodup_range.pairwise_of_forall_ne fun i _ j _ hij => ?_⟩
  intro n hi hj
  obtain ⟨_, _, rfl⟩ := List.mem_map.1 hi
  obtain ⟨_, _, h⟩ := List.mem_map.1 hj
  exact hij (Prod.ext_iff.1 h).1.symm

/-- Nodes of a panel of at most 192 sense lines have indices of their own. -/
theorem lin_ne {d c : Nat} (hc : c ≤ 192) {m n : Node} (hm : m ∈ allNodes d c) (hn : n ∈ allNodes d c) (hne : m ≠ n) : lin m ≠ lin n := by
  obtain ⟨-, hm2⟩ := mem_allNodes.1 hm
  obtain ⟨-, hn2⟩ := mem_allNodes.1 hn
  intro h
  rw [lin, lin] at h
  exact hne (Prod.ext (by omega) (by omega))

theorem dilate_nil (d c m : Nat) : dilate d c m [] = [] := by
  rw [dilate, List.filter_eq_nil_iff]
  simp

/-! ### Connected sets -/

theorem mem_growSet {α : Type} (near : α → α → Bool) (n : Nat) (acc front rest : List α) {x : α} :
    (x ∈ (growSet near n acc front rest).1 → x ∈ acc ∨ x ∈ rest) ∧ (x ∈ (growSet near n acc front rest).2 → x ∈ rest) := by
  induction n generalizing acc front rest with
  | zero => exact ⟨.inl, id⟩
  | succ n ih =>
    rw [growSet]
    split
    · exact ⟨.inl, id⟩
    · obtain ⟨h1, h2⟩ := ih (acc ++ (rest.partition (fun x => front.any (near x))).1) (rest.partition (fun x => front.any (near x))).1
        (rest.partition (fun x => front.any (near x))).2
      rw [List.partition_eq_filter_filter] at h1 h2 ⊢
      refine ⟨fun hx => ?_, fun hx => (List.mem_filter.1 (h2 hx)).1⟩
      rcases h1 hx with h | h
      · exact (List.mem_append.1 h).imp_right fun h => (List.mem_filter.1 h).1
      · exact .inr (List.mem_filter.1 h).1

/-- A connected set has members of the list alone. -/
theorem mem_of_components {α : Type} (near : α → α → Bool) (n : Nat) (l : List α) {ns : List α} (hns : ns ∈ components near n l) {x : α} (hx : x ∈ ns) :
    x ∈ l := by
  induction n generalizing l with
  | zero => exact absurd hns List.not_mem_nil
  | succ n ih =>
    cases l with
    | nil => exact absurd hns List.not_mem_nil
    | cons y ys =>
      rw [components] at hns
      have hgrow := mem_growSet near (ys.length + 1) [y] [y] ys (x := x)
      rcases List.mem_cons.1 hns with rfl | hrest
      · rcases hgrow.1 hx with h | h
        · exact List.mem_cons.2 (.inl (List.mem_singleton.1 h))
        · exact List.mem_cons_of_mem y h
      · exact List.mem_cons_of_mem y ((mem_growSet near (ys.length + 1) [y] [y] ys).2 (ih _ hrest))

/-! ### The rules of the rows -/

/-- A change of rows that leaves those at nodes outside a set, and every row's node. -/
def RowChange (ns : List Node) (G : NodeRow → NodeRow) : Prop := ∀ r, (G r).n = r.n ∧ (r.n ∉ ns → G r = r)

theorem RowChange.id (ns : List Node) : RowChange ns id := fun _ => ⟨rfl, fun _ => rfl⟩

theorem RowChange.comp {ns : List Node} {F G : NodeRow → NodeRow} (hF : RowChange ns F) (hG : RowChange ns G) : RowChange ns (F ∘ G) := by
  intro r
  obtain ⟨hn, hsame⟩ := hG r
  obtain ⟨hn', hsame'⟩ := hF (G r)
  refine ⟨hn'.trans hn, fun h => ?_⟩
  rw [Function.comp_apply, hsame' (by rwa [hn]), hsame h]

theorem RowChange.mono {ns ms : List Node} {G : NodeRow → NodeRow} (hG : RowChange ns G) (h : ∀ n ∈ ns, n ∈ ms) : RowChange ms G :=
  fun r => ⟨(hG r).1, fun hr => (hG r).2 fun hn => hr (h _ hn)⟩

/-- The nodes of suspect rows. -/
def suspectNodes (rows : List NodeRow) : List Node := (rows.filter (·.sus)).map (·.n)

/-- The suspect rule changes rows of suspect nodes alone (05 R137). -/
theorem suspectRule_rows (q : BlParams) (old : List Region) (rows : List NodeRow) : ∃ G, (suspectRule q old rows).1 = rows.map G ∧
    RowChange (suspectNodes rows) G := by
  unfold suspectRule
  dsimp only
  rw [← suspectNodes]
  have hkey : ∀ (cs : List (List Node)), (∀ ns ∈ cs, ∀ n ∈ ns, n ∈ suspectNodes rows) → ∀ (f : List NodeRow × List Region × Nat → List Node →
      List NodeRow × List Region × Nat), (∀ a ns, ∃ H, (f a ns).1 = a.1.map H ∧ RowChange ns H) → ∀ a : List NodeRow × List Region × Nat,
      (∃ G, a.1 = rows.map G ∧ RowChange (suspectNodes rows) G) → ∃ G, (cs.foldl f a).1 = rows.map G ∧ RowChange (suspectNodes rows) G := by
    intro cs
    induction cs with
    | nil => exact fun _ _ _ a ha => ha
    | cons ns cs ih =>
      rintro hcs f hf a ⟨G, ha, hG⟩
      obtain ⟨H, hH, hchange⟩ := hf a ns
      refine ih (fun ms hms => hcs ms (List.mem_cons_of_mem ns hms)) f hf (f a ns) ⟨H ∘ G, ?_, (hchange.mono (hcs ns List.mem_cons_self)).comp hG⟩
      rw [hH, ha, List.map_map]
  refine hkey _ (fun ns hns n hn => mem_of_components near4 _ _ hns hn) _ (fun a ns => ?_) _ ⟨id, (List.map_id _).symm, .id _⟩
  have hset : ∀ (p : NodeRow → Bool) (F : NodeRow → NodeRow), (∀ r, (F r).n = r.n) → (∀ r, p r = true → r.n ∈ ns) →
      RowChange ns (fun r => if p r then F r else r) := by
    intro p F hF hp r
    dsimp only
    split
    next h => exact ⟨hF r, fun hr => absurd (hp r h) hr⟩
    next => exact ⟨rfl, fun _ => rfl⟩
  have hin : ∀ {n : Node}, ns.contains n = true → n ∈ ns := fun h => List.contains_iff_mem.1 h
  generalize (if (!rows.any _) = true then _ else _ : Nat) = n
  split
  · refine ⟨_, rfl, hset (fun r => ns.contains r.n && !r.bad) (fun r => { r with b := 256 * r.u, sus := false, kept := false }) (fun _ => rfl) ?_⟩
    intro r h
    exact hin ((Bool.and_eq_true _ _).mp h).1
  · split
    · exact ⟨_, rfl, hset (fun r => ns.contains r.n) (fun r => { r with sus := false }) (fun _ => rfl) fun r h => hin h⟩
    · exact ⟨id, (List.map_id _).symm, .id _⟩

/-- Without a track no row drifts with one (05 R129). -/
theorem driftRule_none (q : BlParams) (rows : List NodeRow) : driftRule q [] rows = rows := by
  rw [driftRule]
  conv_rhs => rw [← List.map_id rows]
  refine List.map_congr_left fun r _ => ?_
  simp

/-- Without released nodes no row turns suspect (05 R141). -/
theorem releaseNodes_none (rows : List NodeRow) : (releaseNodes [] rows).1 = rows := by
  rw [releaseNodes]
  conv_rhs => rw [← List.map_id rows]
  refine List.map_congr_left fun r _ => ?_
  simp

theorem rowRule_node (q : BlParams) (r : NodeRow) : (rowRule q r).n = r.n ∧ (rowRule q r).sus = r.sus := by
  unfold rowRule
  dsimp only
  repeat' split
  all_goals exact ⟨rfl, rfl⟩

end Sys2Proof.Machine
end

section
/-! What the baseline update and the initial baseline write at a node (05 R126 to R133). -/

namespace Sys2Proof.Machine

/-! ### The rows of a frame without contacts -/

/-- What the update knows of a node of good lines that no mask holds. -/
def State.rowAt (s : State) (e : Nat) (n : Node) : NodeRow :=
  { n := n, u := nodeOf (frameU s e) n.1 n.2, delta := s.mem.leI (deltaFrame e + 2 * lin n) 2, b := s.mem.leI (baseMut + 4 * lin n) 4,
    neg := s.mem.le (nodeRam + lin n) 1 / 4, sus := bit (s.mem.le (nodeRam + lin n) 1) 0, bad := false, mask := false, water := false }

theorem rowAt_trusted {s : State} (e : Nat) {n : Node} (h : s.mem.le (nodeRam + lin n) 1 % 4 = 0) : (s.rowAt e n).sus = false := by
  have hzero : s.mem.le (nodeRam + lin n) 1 / 2 ^ 0 % 2 = 0 := by
    rw [pow_zero, Nat.div_one, ← Nat.mod_mod_of_dvd _ (by norm_num : 2 ∣ 4), h]
  exact congrArg (· == 1) hzero

theorem nodeRows_still {s : State} (hm : s.memOk) (p : Params) (m : PinMap) (hrows : s.chn.prev.badRows m = []) (hcols : s.chn.prev.badCols m = [])
    (hwater : s.trk.water = []) : s.nodeRows p m [] = (allNodes p.d p.s).map (s.rowAt s.chn.prev.epoch) := by
  rw [State.nodeRows]
  dsimp only
  rw [hrows, hcols, hwater]
  refine List.map_congr_left fun n hn => ?_
  obtain ⟨hd, hc⟩ := mem_allNodes.1 hn
  have hlt : s.mem.le (nodeRam + lin n) 1 < 256 := Memory.le_lt hm _ _
  have hst : tc 8 (nodeOf (s.cols nodeRam 1 p.d p.s) n.1 n.2) = s.mem.le (nodeRam + lin n) 1 := by
    rw [nodeOf_cols hm _ _ hd hc, Nat.one_mul]
    exact tc_sext hlt
  rw [hst, State.deltaCols, State.baseCols, nodeOf_cols hm _ _ hd hc, nodeOf_cols hm _ _ hd hc, fld, Nat.mod_eq_of_lt (by omega)]
  rfl

/-- What the update writes of a row. -/
def rowBytes (m : Memory) (r : NodeRow) : Memory :=
  (m.putLeI (baseMut + 4 * lin r.n) 4 r.b).putLe (nodeRam + lin r.n) 1 (pack [(b2n r.sus, 0), (b2n r.kept, 1), (r.neg, 2)])

theorem putRows_eq (rows : List NodeRow) (s : State) : s.putRows rows = { s with mem := rows.foldl rowBytes s.mem } :=
  foldl_mem_eq rowBytes rows s

theorem rowBytes_wf (m : Memory) (r : NodeRow) (h : m.wf = true) : (rowBytes m r).wf = true := Memory.putLe_wf _ _ _ _ (Memory.putLeI_wf _ _ _ _ h)

theorem byte_rowBytes (m : Memory) (r : NodeRow) {x : Nat} (hb : x < baseMut + 4 * lin r.n ∨ baseMut + 4 * lin r.n + 4 ≤ x)
    (hs : x < nodeRam + lin r.n ∨ nodeRam + lin r.n + 1 ≤ x) : (rowBytes m r).byte x = m.byte x :=
  (Memory.byte_putLe_outside _ hs).trans (Memory.byte_putLeI_outside _ hb)

theorem lin_lt {d c : Nat} (hd : d ≤ 128) (hc : c ≤ 192) {n : Node} (hn : n ∈ allNodes d c) : lin n < 24576 := by
  obtain ⟨h1, h2⟩ := mem_allNodes.1 hn
  rw [lin]
  omega

section Rows

variable {F : Node → NodeRow} (hF : ∀ n, (F n).n = n) {d c : Nat} (hd : d ≤ 128) (hc : c ≤ 192) {n : Node} (hn : n ∈ allNodes d c) {m : Memory}
  (hm : m.wf = true)

include hF hd hc hn hm

/-- The baseline of a node after the rows of all nodes are written. -/
theorem leI_rows (hlo : -(2 ^ 31 : Nat) ≤ (F n).b) (hhi : (F n).b < (2 ^ 31 : Nat)) :
    (((allNodes d c).map F).foldl rowBytes m).leI (baseMut + 4 * lin n) 4 = (F n).b := by
  have hbases : baseMut + 4 * 24576 ≤ nodeRam := by decide
  have hlin := lin_lt hd hc hn
  rw [List.foldl_map]
  refine Memory.leI_foldl_inside (g := fun m k => rowBytes m (F k)) (fun m k h => rowBytes_wf m _ h) (nodup_allNodes d c) hn (fun m' hm' => ?_)
    (fun m' j hj hne i hi => byte_rowBytes m' _ ?_ ?_) hm
  · rw [rowBytes, hF]
    refine Eq.trans (Memory.leI_congr (Memory.putLeI_wf _ _ _ _ hm') (Memory.putLe_wf _ _ _ _ (Memory.putLeI_wf _ _ _ _ hm'))
      fun i hi => Memory.byte_putLe_outside _ (.inl (by omega))) (Memory.leI_putLeI_same hm' _ (by norm_num) hlo hhi)
  · have := lin_ne hc hj hn hne
    rw [hF]
    omega
  · rw [hF]
    omega

/-- The state of a node after the rows of all nodes are written. -/
theorem le_rows (hneg : (F n).neg < 64) : (((allNodes d c).map F).foldl rowBytes m).le (nodeRam + lin n) 1 =
    pack [(b2n (F n).sus, 0), (b2n (F n).kept, 1), ((F n).neg, 2)] := by
  have hbases : baseMut + 4 * 24576 ≤ nodeRam := by decide
  rw [List.foldl_map]
  refine Memory.le_foldl_inside (g := fun m k => rowBytes m (F k)) (fun m k h => rowBytes_wf m _ h) (nodup_allNodes d c) hn (fun m' hm' => ?_)
    (fun m' j hj hne i hi => byte_rowBytes m' _ (.inr ?_) ?_) hm
  · rw [rowBytes, hF, Memory.le_putLe_same (Memory.putLeI_wf _ _ _ _ hm'), Nat.mod_eq_of_lt]
    have hbit : ∀ b, b2n b ≤ 1 := fun b => by cases b <;> decide
    have h1 := hbit (F n).sus
    have h2 := hbit (F n).kept
    simp only [pack]
    omega
  · have := lin_lt hd hc hj
    rw [hF]
    omega
  · have := lin_ne hc hj hn hne
    rw [hF]
    omega

end Rows

/-! ### The update without contacts -/

theorem released_none {s : State} (htab : s.trk.tab = List.replicate 64 none) : s.released = [] := by
  rw [State.released, List.filterMap_eq_nil_iff]
  intro r _
  have hnone : s.trk.tab.getD r.trk none = none := by
    rw [htab, List.getD_eq_getElem?_getD, List.getElem?_replicate]
    split <;> rfl
  rw [hnone]

theorem maskTracks_none {s : State} (htab : s.trk.tab = List.replicate 64 none) : s.maskTracks = [] := by
  have htracks : s.tracks = [] := by
    rw [State.tracks, List.filterMap_eq_nil_iff]
    rintro ⟨i, t⟩ hi
    have hnone : t = none := List.eq_of_mem_replicate (htab ▸ (List.of_mem_zip hi).2)
    rw [hnone]
    rfl
  rw [State.maskTracks, htracks, List.map_nil, List.filter_nil, List.mergeSort_nil]

/-- The update of a frame without contacts and bad lines (05 R127): the rows by the table, and the suspect rule on those of suspect nodes. -/
theorem updateNodes_still {s : State} (hm : s.memOk) (p : Params) (m : PinMap) (htab : s.trk.tab = List.replicate 64 none)
    (hwater : s.trk.water = []) (hrel : s.cal.relNodes = []) (hrows : s.chn.prev.badRows m = []) (hcols : s.chn.prev.badCols m = []) :
    ∃ G k, RowChange (suspectNodes ((allNodes p.d p.s).map fun n => rowRule (s.blParams p.ctx) (s.rowAt s.chn.prev.epoch n))) G ∧
      updateNodes p m s = { s with
        mem := ((allNodes p.d p.s).map fun n => G (rowRule (s.blParams p.ctx) (s.rowAt s.chn.prev.epoch n))).foldl rowBytes s.mem, cal := k } := by
  obtain ⟨G, hG, hchange⟩ := suspectRule_rows (s.blParams p.ctx) s.cal.regions
    ((allNodes p.d p.s).map fun n => rowRule (s.blParams p.ctx) (s.rowAt s.chn.prev.epoch n))
  unfold updateNodes
  dsimp only
  rw [maskTracks_none htab, released_none htab, hrel]
  simp only [List.map_nil, List.flatten_nil, List.filter_nil, List.flatMap_nil, dilate_nil, List.append_nil, List.foldl_nil]
  rw [driftRule_none, nodeRows_still hm p m hrows hcols hwater, List.map_map]
  have hcomp : rowRule (s.blParams p.ctx) ∘ s.rowAt s.chn.prev.epoch = fun n => rowRule (s.blParams p.ctx) (s.rowAt s.chn.prev.epoch n) := rfl
  rw [hcomp, releaseNodes_none, hG, putRows_eq, List.map_map]
  exact ⟨G, _, hchange, rfl⟩

/-! ### Self baselines -/

theorem lt_of_mem_pinsOf {l : List Nat} {role pin : Nat} (h : pin ∈ pinsOf l role) : pin < 320 := by
  obtain ⟨i, -, rfl⟩ := List.mem_map.1 h
  cases hp : pinOf l role i with
  | none => exact (by norm_num : (0 : Nat) < 320)
  | some n => exact List.mem_range.1 (List.mem_of_find?_eq_some hp)

/-- The self baselines and the pins' states change: those of the nodes stay. -/
def SelfMoved (s t : State) : Prop := ∃ c m, t = { s with cal := c, mem := m } ∧ (s.mem.wf = true → m.wf = true) ∧
  ∀ y, y < baseSelf ∨ baseSelf + 1280 ≤ y → y < nodeRam + 24576 → m.byte y = s.mem.byte y

theorem SelfMoved.refl (s : State) : SelfMoved s s := ⟨s.cal, s.mem, rfl, id, fun _ _ _ => rfl⟩

theorem SelfMoved.trans {s t u : State} (h : SelfMoved s t) (h' : SelfMoved t u) : SelfMoved s u := by
  obtain ⟨c, m, rfl, hwf, hkeep⟩ := h
  obtain ⟨c', m', rfl, hwf', hkeep'⟩ := h'
  exact ⟨c', m', rfl, fun h => hwf' (hwf h), fun y hy hy' => (hkeep' y hy hy').trans (hkeep y hy hy')⟩

theorem SelfMoved.cal (s : State) (c : Calib) : SelfMoved s { s with cal := c } := ⟨c, s.mem, rfl, id, fun _ _ _ => rfl⟩

theorem putPinState_moved (pin : Nat) (sus : Bool) (neg : Nat) (s : State) : SelfMoved s (putPinState pin sus neg s) :=
  ⟨s.cal, _, rfl, fun h => Memory.putLe_wf _ _ _ _ h, fun _ _ hy => Memory.byte_putLe_outside _ (.inl (Nat.lt_add_right pin hy))⟩

theorem setBs_moved {pin : Nat} (hpin : pin < 320) (v : Int) (s : State) : SelfMoved s (setBs pin v s) :=
  ⟨s.cal, _, rfl, fun h => Memory.putLeI_wf _ _ _ _ h, fun y hy _ =>
    have hout : y < baseSelf + 4 * pin ∨ baseSelf + 4 * pin + 4 ≤ y := by
      generalize baseSelf = b at *
      omega
    Memory.byte_putLeI_outside _ hout⟩

theorem updatePin_moved (q : BlParams) {pin : Nat} (hpin : pin < 320) (near : Bool) (svc sd : Int) (s : State) :
    SelfMoved s (updatePin q pin near svc sd s) := by
  unfold updatePin
  dsimp only
  have hset : ∀ (v : Int) (sus : Bool) (neg : Nat) (c : Calib), SelfMoved s (setBs pin v (putPinState pin sus neg { s with cal := c })) := fun v sus neg c =>
    ((SelfMoved.cal s c).trans (putPinState_moved pin sus neg _)).trans (setBs_moved hpin v _)
  have hput : ∀ (sus : Bool) (neg : Nat) (c : Calib), SelfMoved s (putPinState pin sus neg { s with cal := c }) := fun sus neg c =>
    (SelfMoved.cal s c).trans (putPinState_moved pin sus neg _)
  split
  · exact SelfMoved.refl s
  · split
    · exact hset _ _ _ _
    · split
      · exact SelfMoved.cal s _
      · split
        · split
          · exact hset _ _ _ _
          · generalize (if (sd.natAbs : Int) < q.selfBand then _ else _ : Nat) = n
            split
            · exact hput _ _ _
            · exact SelfMoved.cal s _
        · split
          · split
            · exact hset _ _ _ s.cal
            · exact hput _ _ s.cal
          · split
            · exact hset _ _ _ s.cal
            · exact hput _ _ s.cal

theorem updateSelf_moved (p : Params) (m : PinMap) (hdrive : ∀ pin ∈ m.drive, pin < 320) (hsense : ∀ pin ∈ m.sense, pin < 320) (s : State) :
    SelfMoved s (updateSelf p m s) := by
  have hfold : ∀ (l : List (Nat × Nat)) (near : Nat × Nat → Bool) (svc sd : Nat × Nat → Int) (q : BlParams), (∀ ip ∈ l, ip.2 < 320) → ∀ t,
      SelfMoved t (l.foldl (fun u ip => updatePin q ip.2 (near ip) (svc ip) (sd ip) u) t) := by
    intro l near svc sd q
    induction l with
    | nil => exact fun _ t => SelfMoved.refl t
    | cons ip l ih =>
      exact fun h t => (updatePin_moved q (h ip List.mem_cons_self) _ _ _ t).trans (ih (fun x hx => h x (List.mem_cons_of_mem ip hx)) _)
  unfold updateSelf
  split
  · exact SelfMoved.refl s
  · dsimp only
    exact (hfold _ _ _ _ _ (fun ip h => hdrive _ (List.of_mem_zip h).2) _).trans (hfold _ _ _ _ _ (fun ip h => hsense _ (List.of_mem_zip h).2) _)

/-! ### The update of one node -/

/-- What the table of 05 R127 makes of a node that no mask holds and that is not suspect. -/
theorem rowRule_free (q : BlParams) {r : NodeRow} (hbad : r.bad = false) (hmask : r.mask = false) (hwater : r.water = false) (hsus : r.sus = false) :
    (rowRule q r).b = (if r.delta ≤ -q.neg then (if q.hold ≤ min (r.neg + 1) 63 then 256 * r.u else r.b)
      else if (r.delta.natAbs : Int) < q.band then r.b + asr (256 * r.u - r.b + ((2 ^ (q.shift - 1) : Nat) : Int)) q.shift else r.b) ∧
    (rowRule q r).neg = (if r.delta ≤ -q.neg ∧ min (r.neg + 1) 63 < q.hold then min (r.neg + 1) 63 else 0) := by
  have hmin : Nat.min 63 (r.neg + 1) = min (r.neg + 1) 63 := Nat.min_comm _ _
  rw [rowRule, hbad, hmask, hwater, hsus]
  simp only [Bool.false_eq_true, if_false]
  rw [hmin]
  by_cases hneg : r.delta ≤ -q.neg
  · by_cases hhold : q.hold ≤ min (r.neg + 1) 63
    · simp [hneg, hhold, Nat.not_lt.2 hhold]
    · simp [hneg, hhold, Nat.lt_of_not_le hhold]
  · by_cases hband : (r.delta.natAbs : Int) < q.band
    · rw [if_neg hneg, if_pos hband, if_neg hneg, if_pos hband, if_neg (fun h => hneg h.1)]
      exact ⟨rfl, rfl⟩
    · rw [if_neg hneg, if_neg hband, if_neg hneg, if_neg hband, if_neg (fun h => hneg h.1)]
      exact ⟨rfl, rfl⟩

/-- Memory with a node marked FROZEN (05 R126). -/
def frozenNode (m : Memory) (n : Node) : Memory :=
  if bit (m.le (nodeRam + lin n) 1) 1 then m else m.putLe (nodeRam + lin n) 1 (m.le (nodeRam + lin n) 1 + 2)

theorem freezeNodes_eq (p : Params) (s : State) : freezeNodes p s = { s with mem := (allNodes p.d p.s).foldl frozenNode s.mem } := by
  rw [freezeNodes, ← foldl_mem_eq]
  congr 1
  funext t n
  dsimp only [frozenNode]
  split <;> rfl

/-! ### The baseline update -/

/-- A command whose answer's memory is in canonical form answers that state as it is. -/
theorem completes_answer_wf {i : Instr} {s t : State} (hexec : exec i s = answer s t) (hwf : t.mem.wf = true) {P : State → Prop}
    (hP : P { t with pending := s.pending }) : Completes i s P := by
  refine completes_answer hexec ?_
  rwa [Memory.canon_of_wf _ hwf]

section Update

variable {s : State} (hm : s.memOk) (hcore : s.clk.core = true) (hmerged : s.chn.prev.merged = true) (hupd : s.chn.prev.updated = false)
  (hkind : s.chn.prev.kind = .normal)

include hcore hmerged hupd hkind in
theorem exec_baselineUpdate : exec .baselineUpdate s =
    let p := s.params s.chn.prev.epoch
    let t := { s with chn.prev.updated := true }
    answer s (raise 13 (if s.chn.prev.dcause ≠ 0 then freezeNodes p t else updateSelf p (s.pinMap p.ctx) (updateNodes p (s.pinMap p.ctx) t))) := by
  have hexec : exec .baselineUpdate s = execBaselineUpdate s := rfl
  have hsilent : s.chn.prev.silent = false := by
    rw [Frame.silent, hkind]
  rw [hexec, execBaselineUpdate, if_neg (by simp [hcore, hmerged, hupd])]
  dsimp only
  rw [hsilent]
  simp only [Bool.or_false, decide_eq_true_eq]

variable {d c : Nat} (hd : d < (s.params s.chn.prev.epoch).d) (hc : c < (s.params s.chn.prev.epoch).s)
  (hd128 : (s.params s.chn.prev.epoch).d ≤ 128) (hs192 : (s.params s.chn.prev.epoch).s ≤ 192)

include hm hcore hmerged hupd hkind hd hc hd128 hs192

/-- A free node follows its raw value, is set afresh or stays (05 R127). -/
theorem completes_baselineUpdate_free {q : BlParams} (hq : s.blParams (s.params s.chn.prev.epoch).ctx = q)
    (hu : (((frameU s s.chn.prev.epoch).getD c []).getD d 0).natAbs < 2 ^ 23) (hcause : s.chn.prev.dcause = 0)
    (htab : s.trk.tab = List.replicate 64 none) (hwater : s.trk.water = []) (hrel : s.cal.relNodes = []) (hfaults : s.chn.prev.faults = [])
    (hundriven : s.chn.prev.undriven = []) (hovr : s.chn.prev.ovr = []) (hrecal : s.chn.prev.recalCols = [])
    (hstate : s.mem.le (nodeRam + (192 * d + c)) 1 % 4 = 0) :
    Completes .baselineUpdate s (fun t => t.chn.prev.updated = true ∧
      t.mem.leI (baseMut + 4 * (192 * d + c)) 4 = (rowRule q (s.rowAt s.chn.prev.epoch (d, c))).b ∧
      t.mem.le (nodeRam + (192 * d + c)) 1 / 4 = (rowRule q (s.rowAt s.chn.prev.epoch (d, c))).neg) := by
  have hexec := exec_baselineUpdate hcore hmerged hupd hkind
  dsimp only at hexec
  rw [if_neg (not_not.2 hcause)] at hexec
  have hdrive : ∀ pin ∈ (s.pinMap (s.params s.chn.prev.epoch).ctx).drive, pin < 320 := fun _ h => lt_of_mem_pinsOf h
  have hsense : ∀ pin ∈ (s.pinMap (s.params s.chn.prev.epoch).ctx).sense, pin < 320 := fun _ h => lt_of_mem_pinsOf h
  generalize s.pinMap (s.params s.chn.prev.epoch).ctx = m at hexec hdrive hsense
  obtain ⟨G, k, hchange, hnodes⟩ := updateNodes_still (s := { s with chn.prev.updated := true }) hm (s.params s.chn.prev.epoch) m htab hwater hrel
    (badRows_none m hfaults hundriven) (badCols_none m hfaults hovr hrecal)
  have hrowAt : ∀ n, ({ s with chn.prev.updated := true } : State).rowAt s.chn.prev.epoch n = s.rowAt s.chn.prev.epoch n := fun _ => rfl
  have hq' : ({ s with chn.prev.updated := true } : State).blParams (s.params s.chn.prev.epoch).ctx = q := hq
  dsimp only at hnodes hchange
  simp only [hrowAt, hq'] at hnodes hchange
  have hn : ((d, c) : Node) ∈ allNodes (s.params s.chn.prev.epoch).d (s.params s.chn.prev.epoch).s := mem_allNodes.2 ⟨hd, hc⟩
  have hF : ∀ n, (G (rowRule q (s.rowAt s.chn.prev.epoch n))).n = n := fun n => (hchange _).1.trans (rowRule_node q _).1
  have hsus : (s.rowAt s.chn.prev.epoch (d, c)).sus = false := rowAt_trusted _ hstate
  have hfree : G (rowRule q (s.rowAt s.chn.prev.epoch (d, c))) = rowRule q (s.rowAt s.chn.prev.epoch (d, c)) := by
    refine (hchange _).2 fun h => ?_
    obtain ⟨r, hr, hrn⟩ := List.mem_map.1 h
    obtain ⟨hr, hrsus⟩ := List.mem_filter.1 hr
    obtain ⟨x, -, rfl⟩ := List.mem_map.1 hr
    have hx : x = (d, c) := (rowRule_node q (s.rowAt s.chn.prev.epoch x)).1.symm.trans (hrn.trans (rowRule_node q _).1)
    rw [(rowRule_node q _).2, hx, hsus] at hrsus
    exact Bool.false_ne_true hrsus
  have hrow := rowRule_free q (r := s.rowAt s.chn.prev.epoch (d, c)) rfl rfl rfl hsus
  obtain ⟨c', m', hself, hwf, hkeep⟩ := updateSelf_moved (s.params s.chn.prev.epoch) m hdrive hsense
    (updateNodes (s.params s.chn.prev.epoch) m { s with chn.prev.updated := true })
  obtain ⟨a₁, a₂, a₃, a₄, a₅, hraise⟩ := raise_eq 13 (updateSelf (s.params s.chn.prev.epoch) m
    (updateNodes (s.params s.chn.prev.epoch) m { s with chn.prev.updated := true }))
  rw [hraise, hself] at hexec
  rw [hnodes] at hexec hwf hkeep
  have hwf1 := Memory.foldl_wf (g := rowBytes) rowBytes_wf ((allNodes (s.params s.chn.prev.epoch).d (s.params s.chn.prev.epoch).s).map fun n =>
    G (rowRule q (s.rowAt s.chn.prev.epoch n))) hm
  have hwf' := hwf hwf1
  have hb : -(2 ^ 31 : Nat) ≤ (rowRule q (s.rowAt s.chn.prev.epoch (d, c))).b ∧ (rowRule q (s.rowAt s.chn.prev.epoch (d, c))).b < (2 ^ 31 : Nat) := by
    have hold := s.mem.leI_bounds (baseMut + 4 * lin (d, c)) (n := 4) (by norm_num)
    have hdrift := drift_between (s.rowAt s.chn.prev.epoch (d, c)).b (256 * (s.rowAt s.chn.prev.epoch (d, c)).u) q.shift
    have hbdef : (s.rowAt s.chn.prev.epoch (d, c)).b = s.mem.leI (baseMut + 4 * lin (d, c)) 4 := rfl
    have hudef : (s.rowAt s.chn.prev.epoch (d, c)).u = ((frameU s s.chn.prev.epoch).getD c []).getD d 0 := rfl
    rw [← hbdef] at hold
    rw [← hudef] at hu
    rw [hrow.1, asr]
    generalize (s.rowAt s.chn.prev.epoch (d, c)) = r at *
    generalize (256 * r.u - r.b + _) / _ = x at *
    norm_num at hold hu ⊢
    split
    · split <;> omega
    · split <;> omega
  have hneg : (rowRule q (s.rowAt s.chn.prev.epoch (d, c))).neg < 64 := by
    rw [hrow.2]
    split <;> omega
  have hread := leI_rows hF hd128 hs192 hn hm (by rw [hfree]; exact hb.1) (by rw [hfree]; exact hb.2)
  have hreads := le_rows hF hd128 hs192 hn hm (by rw [hfree]; exact hneg)
  rw [hfree] at hread hreads
  rw [(rowRule_node q _).2, hsus] at hreads
  have hlin := lin_lt hd128 hs192 hn
  have hbases : baseMut + 4 * 24576 ≤ baseSelf ∧ baseSelf + 1280 ≤ nodeRam := by decide
  have hB := (Memory.leI_congr hwf1 hwf' fun i hi => hkeep (baseMut + 4 * lin (d, c) + i) (.inl (by omega)) (by omega)).trans hread
  have hS := (Memory.le_congr hwf1 hwf' fun i hi => hkeep (nodeRam + lin (d, c) + i) (.inr (by omega)) (by omega)).trans hreads
  refine completes_answer_wf hexec hwf' ⟨rfl, hB, hS ▸ ?_⟩
  simp only [pack]
  have hkept : b2n (rowRule q (s.rowAt s.chn.prev.epoch (d, c))).kept ≤ 1 := by
    rw [b2n]
    split <;> omega
  have hzero : b2n false = 0 := rfl
  omega

/-- A node of a discarded frame is marked FROZEN and keeps its baseline and its count (05 R126). -/
theorem completes_baselineUpdate_frozen (hcause : s.chn.prev.dcause ≠ 0) : Completes .baselineUpdate s (fun t => t.chn.prev.updated = true ∧
    t.mem.leI (baseMut + 4 * (192 * d + c)) 4 = s.mem.leI (baseMut + 4 * (192 * d + c)) 4 ∧
    t.mem.le (nodeRam + (192 * d + c)) 1 / 2 % 2 = 1 ∧
    t.mem.le (nodeRam + (192 * d + c)) 1 / 4 = s.mem.le (nodeRam + (192 * d + c)) 1 / 4) := by
  have hexec := exec_baselineUpdate hcore hmerged hupd hkind
  dsimp only at hexec
  rw [if_pos hcause, freezeNodes_eq] at hexec
  have hn : ((d, c) : Node) ∈ allNodes (s.params s.chn.prev.epoch).d (s.params s.chn.prev.epoch).s := mem_allNodes.2 ⟨hd, hc⟩
  have hlin := lin_lt hd128 hs192 hn
  have hbases : baseMut + 4 * 24576 ≤ nodeRam := by decide
  have hg : ∀ (m : Memory) (k : Node), m.wf = true → (frozenNode m k).wf = true := fun m k h => by
    rw [frozenNode]
    split
    · exact h
    · exact Memory.putLe_wf _ _ _ _ h
  have hkeep : ∀ (m : Memory) (k : Node) (x : Nat), x < nodeRam + lin k ∨ nodeRam + lin k + 1 ≤ x → (frozenNode m k).byte x = m.byte x := fun m k x h => by
    rw [frozenNode]
    split
    · rfl
    · exact Memory.byte_putLe_outside _ h
  have hwf := Memory.foldl_wf hg (allNodes (s.params s.chn.prev.epoch).d (s.params s.chn.prev.epoch).s) hm
  have hB := Memory.leI_congr (a := baseMut + 4 * lin (d, c)) (n := 4) hm hwf fun i hi =>
    Memory.byte_foldl_outside (fun m k _ => hkeep m k _ (.inl (by omega))) s.mem
  have hbyte : s.mem.le (nodeRam + lin (d, c)) 1 < 256 := Memory.le_lt hm _ _
  have hS := Memory.le_foldl_once hg (nodup_allNodes _ _) hn hm (a := nodeRam + lin (d, c)) (n := 1)
    (v := if bit (s.mem.le (nodeRam + lin (d, c)) 1) 1 then s.mem.le (nodeRam + lin (d, c)) 1 else s.mem.le (nodeRam + lin (d, c)) 1 + 2)
    (fun m hwfm hsame => by
      rw [frozenNode, hsame]
      split
      · exact hsame
      next hbit =>
        rw [Memory.le_putLe_same hwfm, Nat.mod_eq_of_lt]
        rw [bit, beq_iff_eq] at hbit
        omega)
    (fun m k hk hne i hi => hkeep m k _ (by have := lin_ne hs192 hk hn hne; omega))
  obtain ⟨a₁, a₂, a₃, a₄, a₅, hraise⟩ := raise_eq 13 { s with
    chn.prev.updated := true
    mem := (allNodes (s.params s.chn.prev.epoch).d (s.params s.chn.prev.epoch).s).foldl frozenNode s.mem }
  rw [hraise] at hexec
  have hbits : ∀ v : Nat, (if bit v 1 then v else v + 2) / 2 % 2 = 1 ∧ (if bit v 1 then v else v + 2) / 4 = v / 4 := by
    intro v
    rw [bit]
    split
    next h =>
      rw [beq_iff_eq] at h
      exact ⟨h, rfl⟩
    next h =>
      rw [beq_iff_eq] at h
      constructor <;> omega
  refine completes_answer_wf hexec hwf ⟨rfl, hB, ?_⟩
  exact hS ▸ hbits _

end Update

/-! ### The initial baseline -/

/-- The sums' baselines in memory, and the node states clear (05 R132). -/
def nodeBaselines (mem : Memory) : Memory :=
  (mem.write baseMut (intBytes 4 ((mem.ints accRam 8 24576).map fun x => 16 * x))).clear nodeRam (24576 + 320)

theorem length_nodeBaselines (mem : Memory) : (intBytes 4 ((mem.ints accRam 8 24576).map fun x => 16 * x)).length = 98304 := by
  rw [intBytes, length_flatMap_const (fun _ => length_leBytes _ _), List.length_map, Memory.length_ints]

theorem byte_nodeBaselines_states {mem : Memory} {n : Nat} (hn : n < 24576) : (nodeBaselines mem).byte (nodeRam + n) = 0 := by
  have hctx : ctxBase + 0x4000 ≤ nodeRam := by decide
  rw [nodeBaselines, Memory.byte_clear, if_pos ⟨Nat.le_add_right _ _, by omega⟩, Memory.background, if_neg (fun h => by omega)]

theorem byte_nodeBaselines_low {mem : Memory} {y : Nat} (hy : y < nodeRam) :
    (nodeBaselines mem).byte y = (mem.write baseMut (intBytes 4 ((mem.ints accRam 8 24576).map fun x => 16 * x))).byte y := by
  rw [nodeBaselines, Memory.byte_clear, if_neg (fun h => by omega)]

/-- Memory with the baselines of the nodes and of the pins that sixteen frames' sums give. -/
def firstBaselines (m : PinMap) (mem : Memory) : Memory :=
  (m.drive ++ m.sense).foldl (fun u pin => u.putLeI (baseSelf + 4 * pin) 4 (16 * (mem.ints (accRam + 0x30000) 8 320).getD pin 0)) (nodeBaselines mem)

theorem formBaselines_eq (m : PinMap) (s : State) : formBaselines m s = { s with
    mem := firstBaselines m s.mem, cal := { s.cal with susPins := [], regions := [], relNodes := [], selfFix := [] } } := by
  rw [formBaselines]
  exact foldl_mem_eq (fun u pin => u.putLeI (baseSelf + 4 * pin) 4 (16 * (s.mem.ints (accRam + 0x30000) 8 320).getD pin 0)) (m.drive ++ m.sense)
    { s with mem := nodeBaselines s.mem, cal.susPins := [], cal.regions := [], cal.relNodes := [], cal.selfFix := [] }

section First

variable {m : PinMap} (hdrive : ∀ pin ∈ m.drive, pin < 320) (hsense : ∀ pin ∈ m.sense, pin < 320) {mem : Memory} (hm : mem.wf = true)

include hm in
theorem firstBaselines_wf (m : PinMap) : (firstBaselines m mem).wf = true :=
  Memory.foldl_wf (fun _ _ h => Memory.putLeI_wf _ _ _ _ h) _ (Memory.clear_wf _ _ _ (Memory.write_wf _ _ _ hm))

include hdrive hsense

theorem byte_firstBaselines_outside {y : Nat} (hy : y < baseSelf ∨ baseSelf + 1280 ≤ y) :
    (firstBaselines m mem).byte y = (nodeBaselines mem).byte y := by
  refine Memory.byte_foldl_outside (fun u pin hpin => Memory.byte_putLeI_outside _ ?_) _
  have hlt : pin < 320 := (List.mem_append.1 hpin).elim (hdrive pin) (hsense pin)
  generalize baseSelf = b at *
  omega

theorem byte_firstBaselines {y : Nat} (hlow : baseSelf + 1280 ≤ y) (hhigh : y < nodeRam) : (firstBaselines m mem).byte y = mem.byte y := by
  have hbases : baseMut + 98304 ≤ baseSelf := by decide
  rw [byte_firstBaselines_outside hdrive hsense (.inr hlow), byte_nodeBaselines_low hhigh]
  refine Memory.byte_write_outside _ (.inr ?_)
  rw [length_nodeBaselines]
  exact hbases.trans ((Nat.le_add_right _ _).trans hlow)

include hm

/-- The baseline of a node is sixteen times the sum of its sixteen frames (05 R132). -/
theorem leI_firstBaselines {n : Nat} (hn : n < 24576) (hsum : (mem.leI (accRam + 8 * n) 8).natAbs < 2 ^ 27) :
    (firstBaselines m mem).leI (baseMut + 4 * n) 4 = 16 * mem.leI (accRam + 8 * n) 8 := by
  have hbases : baseMut + 98304 ≤ baseSelf ∧ baseSelf ≤ nodeRam := by decide
  have hints : n < (mem.ints accRam 8 24576).length := by rwa [Memory.length_ints]
  have hget : ((mem.ints accRam 8 24576).map fun x => 16 * x).getD n 0 = 16 * mem.leI (accRam + 8 * n) 8 := by
    rw [getD_map_lt _ 0 _ hints, Memory.getD_ints hm _ _ hn]
  have hlen : n < ((mem.ints accRam 8 24576).map fun x => 16 * x).length := by rwa [List.length_map]
  have hbytes : ∀ i, i < 4 → (firstBaselines m mem).byte (baseMut + 4 * n + i) =
      (mem.write baseMut (intBytes 4 ((mem.ints accRam 8 24576).map fun x => 16 * x))).byte (baseMut + 4 * n + i) := fun i hi => by
    rw [byte_firstBaselines_outside hdrive hsense (.inl (by omega)), byte_nodeBaselines_low (by omega)]
  rw [Memory.leI_congr (Memory.write_wf _ _ _ hm) (firstBaselines_wf hm m) hbytes]
  generalize (mem.ints accRam 8 24576).map (fun x => 16 * x) = xs at *
  rw [← hget]
  exact Memory.leI_write_intBytes hm baseMut (w := 4) (by norm_num) hlen (by rw [hget]; norm_num; omega) (by rw [hget]; norm_num; omega)

/-- Every node's state is clear. -/
theorem le_firstBaselines {n : Nat} (hn : n < 24576) : (firstBaselines m mem).le (nodeRam + n) 1 = 0 := by
  have hself : baseSelf + 1280 ≤ nodeRam := by decide
  rw [Memory.le, Memory.read_eq_map_byte (firstBaselines_wf hm m), List.range'_one, List.map_singleton,
    byte_firstBaselines_outside hdrive hsense (.inr (hself.trans (Nat.le_add_right _ _))), byte_nodeBaselines_states hn]
  rfl

end First

/-- Without a tolerance the reference test is not made (05 R134). -/
theorem refTest_none {s : State} {p : Params} (h : s.ctxField p.ctx 0x30A 2 = 0) : refTest s p = none := by
  rw [refTest, h]
  rfl

/-- Without a tolerance the self test flags no line (05 R135). -/
theorem selfAxis_none (s : State) (pins : List Nat) : ∃ o, selfAxis s pins 0 = ([], [], o) := ⟨_, rfl⟩

theorem partDone_eq (num code r0 r1 : Nat) (s : State) : ∃ c q l, partDone num code r0 r1 s = { s with crl := c, arr.queue := q, jrn := l } := by
  rw [partDone]
  split
  · obtain ⟨c, q, h⟩ := sendMsg_eq 1 0 (.cpl num code r0 r1) s
    exact ⟨c, q, s.jrn, h⟩
  · obtain ⟨l, h⟩ := tilePart_eq num 0 code r0 r1 s
    exact ⟨s.crl, s.arr.queue, l, h⟩

/-- The commands that waited for a full calibration end with it. -/
theorem endCalCmds_full (fails : Nat) (s : State) : ∃ c q l, endCalCmds false fails s = { s with cal.cmds := [], crl := c, arr.queue := q, jrn := l } := by
  have hfold := foldl_chains (r := fun s t => ∃ c q l, t = { s with crl := c, arr.queue := q, jrn := l }) (fun s => ⟨s.crl, s.arr.queue, s.jrn, rfl⟩)
    (by rintro s t u ⟨c, q, l, rfl⟩ ⟨c', q', l', rfl⟩; exact ⟨c', q', l', rfl⟩) (fun t j => partDone_eq j 0 fails 0 t) s.cal.cmds { s with cal.cmds := [] }
  exact hfold

theorem setCalDone_eq (s : State) : ∃ i k, setCalDone s = { s with cal.calDone := true, icu := i, clk := k } := by
  rw [setCalDone]
  split
  next h => exact ⟨s.icu, s.clk, by rw [← h]⟩
  next =>
    obtain ⟨a, b, c, d, k, h⟩ := raise_eq 17 { s with cal.calDone := true }
    exact ⟨_, _, h⟩

/-- A full calibration that ran through its baselines ends: its commands complete (05 R147). -/
theorem endFull_spec {s : State} (h : s.cal.baseOnly = false) : ∃ k, k.kind = .none ∧ k.calDone = true ∧ k.cmds = [] ∧ ∃ v c a l i x,
    endFull s = { s with cal := k, evt := v, crl := c, arr := a, jrn := l, icu := i, clk := x } := by
  rw [endFull, h]
  simp only [Bool.false_eq_true, if_false]
  obtain ⟨v, c, q, hevent⟩ := postEvent_eq 0x06 (pack [(1, 0), (b2n false, 2), (b2n s.cal.byCmd, 3), (s.cal.calfail, 8)]) 0
    { s with cal.kind := .none, cal.phase := 0, cal.done := 0, cal.baseOnly := false, cal.measured := false }
  have hcal : calEvent 1 false s.cal.byCmd { s with cal.kind := .none, cal.phase := 0, cal.done := 0, cal.baseOnly := false, cal.measured := false } =
    postEvent 0x06 (pack [(1, 0), (b2n false, 2), (b2n s.cal.byCmd, 3), (s.cal.calfail, 8)]) 0
      { s with cal.kind := .none, cal.phase := 0, cal.done := 0, cal.baseOnly := false, cal.measured := false } := rfl
  rw [hcal, hevent]
  obtain ⟨i, x, hdone⟩ := setCalDone_eq { s with
    cal.kind := .none, cal.phase := 0, cal.done := 0, cal.baseOnly := false, cal.measured := false, evt := v, crl := c, arr.queue := q }
  rw [hdone]
  obtain ⟨c', q', l, hend⟩ := endCalCmds_full s.cal.runFail { s with
    cal.kind := .none, cal.phase := 0, cal.done := 0, cal.baseOnly := false, cal.measured := false, evt := v, crl := c, arr.queue := q,
    cal.calDone := true, icu := i, clk := x }
  rw [hend]
  exact ⟨_, rfl, rfl, rfl, v, c', _, l, i, x, rfl⟩

/-- The initial baseline without the tests of 05 R134 and R135. -/
theorem initialBaseline_untested {s : State} {p : Params} {m : PinMap} {t : State} (hp : s.params s.chn.prev.epoch = p) (hmap : s.pinMap p.ctx = m)
    (ht : formBaselines m s = t) (href : t.ctxField p.ctx 0x30A 2 = 0) (hself : t.ctxField p.ctx 0x30C 2 = 0) (hmask : t.cal.maskSus = []) :
    initialBaseline s = endFull { t with cal.refused := false, cal.maskSus := [] } := by
  obtain ⟨od, hdrive⟩ := selfAxis_none t m.drive
  obtain ⟨os, hsense⟩ := selfAxis_none t m.sense
  rw [initialBaseline, hp]
  dsimp only
  rw [hmap, ht, refTest_none href, hself, hmask, Nat.cast_zero, hdrive, hsense]
  simp only [List.map_nil, List.flatMap_nil, List.append_nil, dilate_nil, List.filter_nil, List.foldl_nil, flagPins, Option.isSome_none]

/-- The phase of the initial baseline of a full calibration (05 R132, R147). -/
theorem completes_initialBaseline {s : State} (hm : s.memOk) {d c : Nat} (hd : d < 128) (hc : c < 192) (hkind : s.cal.kind = .full)
    (hphase : s.cal.phase = 5) (hdone : s.cal.done = 16) (hdec : s.chn.prev.decoded = true) (hframe : s.chn.prev.kind = .baseline)
    (href : s.ctxField (s.params s.chn.prev.epoch).ctx 0x30A 2 = 0) (hself : s.ctxField (s.params s.chn.prev.epoch).ctx 0x30C 2 = 0)
    (hmask : s.cal.maskSus = []) (halone : s.cal.baseOnly = false) (hsum : (s.mem.leI (accRam + 8 * (192 * d + c)) 8).natAbs < 2 ^ 27) :
    Completes .initialBaseline s (fun t => t.mem.leI (baseMut + 4 * (192 * d + c)) 4 = 16 * s.mem.leI (accRam + 8 * (192 * d + c)) 8 ∧
      t.mem.le (nodeRam + (192 * d + c)) 1 = 0 ∧ t.cal.kind = .none ∧ t.cal.calDone = true ∧ t.cal.cmds = []) := by
  have hexec : exec .initialBaseline s = execInitialBaseline s := rfl
  rw [execInitialBaseline, if_pos (by simp [hkind, hphase, hdone, hdec, hframe])] at hexec
  have hslot : (s.params s.chn.prev.epoch).ctx < 256 := Memory.le_lt hm _ 1
  generalize hp : s.params s.chn.prev.epoch = p at *
  generalize hmap : s.pinMap p.ctx = m
  have hdrive : ∀ pin ∈ m.drive, pin < 320 := fun _ h => lt_of_mem_pinsOf (hmap ▸ h)
  have hsense : ∀ pin ∈ m.sense, pin < 320 := fun _ h => lt_of_mem_pinsOf (hmap ▸ h)
  have hwf : (firstBaselines m s.mem).wf = true := firstBaselines_wf hm m
  have hbases : baseSelf + 1280 ≤ ctxBase ∧ ctxBase + 0x80800 ≤ nodeRam := by decide
  have hfield : ∀ o n, o + n ≤ 0x800 → (firstBaselines m s.mem).le (ctxBase + 0x800 * p.ctx + o) n = s.mem.le (ctxBase + 0x800 * p.ctx + o) n :=
    fun o n ho => Memory.le_congr hm hwf fun i hi => byte_firstBaselines hdrive hsense (by omega) (by omega)
  rw [initialBaseline_untested hp hmap (formBaselines_eq m s) ((hfield 0x30A 2 (by norm_num)).trans href)
    ((hfield 0x30C 2 (by norm_num)).trans hself) hmask] at hexec
  obtain ⟨k, hk, hkdone, hkcmds, v, c', a, l, i, x, hend⟩ := endFull_spec (s := { s with
    mem := firstBaselines m s.mem
    cal := { s.cal with susPins := [], regions := [], relNodes := [], selfFix := [], refused := false, maskSus := [] } }) halone
  have hn : 192 * d + c < 24576 := by omega
  exact completes_answer_wf (hexec.trans (congrArg (answer s) hend)) hwf ⟨leI_firstBaselines hdrive hsense hm hn hsum,
    le_firstBaselines hdrive hsense hm hn, hk, hkdone, hkcmds⟩

end Sys2Proof.Machine

open Sys2Proof Sys2Proof.Machine

/-- Settles O46: a node of the panel is written once by the update, by the table of 05 R127 where no rule of contacts, suspect regions or
bad lines holds it. -/
theorem baselinesFollowTheFrames : Obligations.BaselinesFollowTheFrames := by
  unfold Obligations.BaselinesFollowTheFrames
  intro d c s hm
  refine ⟨fun hd hc hd128 hs192 hcore hmerged hupd hkind hu => ⟨?_, ?_⟩, ?_⟩
  · intro hcause htab hwater hrel hfaults hundriven hovr hrecal hstate
    obtain ⟨t, ht, hupdated, hB, hS⟩ := completes_baselineUpdate_free hm hcore hmerged hupd hkind hd hc hd128 hs192 rfl hu hcause htab hwater hrel
      hfaults hundriven hovr hrecal hstate
    obtain ⟨hb, hneg⟩ := rowRule_free (s.blParams (s.params s.chn.prev.epoch).ctx) (r := s.rowAt s.chn.prev.epoch (d, c)) rfl rfl rfl
      (rowAt_trusted _ hstate)
    refine ⟨t, ht, hupdated, hB.trans (hb.trans ?_), hS.trans hneg⟩
    refine if_congr Iff.rfl rfl (if_congr ?_ rfl rfl)
    exact Int.ofNat_lt
  · intro hcause
    exact completes_baselineUpdate_frozen hm hcore hmerged hupd hkind hd hc hd128 hs192 hcause
  · intro hd hc hd128 hs192 hkind hphase hdone hdec hframe href hself hmask halone hsum
    exact completes_initialBaseline hm (hd.trans_le hd128) (hc.trans_le hs192) hkind hphase hdone hdec hframe href hself hmask halone hsum

end

section
/-! Calibrations and line tests (02 R50, R54, 05 R119 to R125, R149): the start bits, the results of injection and verify frames, the trim
search, the restored trim RAM and the line test's phases. -/

namespace Sys2Proof.Machine

/-! ### The start bits -/

theorem bit_of_mod {v w r i : Nat} (h : v % 2 ^ w = r) (hi : i < w) : bit v i = bit r i := by
  rw [bit_eq_testBit, bit_eq_testBit, ← h, Nat.testBit_mod_two_pow, decide_eq_true hi, Bool.true_and]

theorem exec_ltestStart {s : State} (v : Word) (hm : s.memOk) (hcore : s.clk.core = true) (hafe : s.clk.afe = true) :
    exec (.ltestStart v) s = .next (ltestWrite v.toNat s) := by
  have hexec : exec (.ltestStart v) s = execLtestStart v s := rfl
  rw [hexec, execLtestStart, offStore, hcore, hafe]
  refine answer_of_eq s _ hm ?_ ?_
  all_goals
    simp only [Bool.and_self, if_true, ltestWrite]
    split <;> rfl

theorem calStart_answer {s : State} (v : Word) (hm : s.memOk) (hcore : s.clk.core = true) (hafe : s.clk.afe = true) :
    answer s (offStore s.clk.afe 0x40060040 (calWrite v.toNat) s) = .next (calWrite v.toNat s) := by
  rw [offStore, hcore, hafe]
  refine answer_of_eq s _ hm ?_ ?_
  all_goals
    simp only [Bool.and_self, if_true, calWrite]
    repeat' split
    all_goals rfl

theorem calBusy_iff {s : State} : s.calBusy = false ↔ s.cal.kind = .none ∧ s.cal.fullDue = none ∧ s.cal.groupDue = none := by
  simp [State.calBusy, and_assoc]

theorem calDone_kept (s : State) : ({ s with cal.calDone := s.cal.calDone && !false } : State) = s := by
  rw [Bool.not_false, Bool.and_true]

/-- A start bit is ignored while a calibration runs or waits (05 R149). -/
theorem calWrite_busy {v : Nat} {s : State} (h3 : bit v 3 = false) (hbusy : s.calBusy = true) : calWrite v s = s := by
  rw [calWrite, h3, calDone_kept]
  exact if_pos hbusy

theorem calWrite_full {v : Nat} {s : State} (h3 : bit v 3 = false) (h0 : bit v 0 = true) (hbusy : s.calBusy = false) :
    calWrite v s = { s with cal.fullDue := some false } := by
  rw [calWrite, h3, calDone_kept]
  dsimp only
  rw [if_neg (by rw [hbusy]; exact Bool.false_ne_true), if_pos h0]

theorem calWrite_group {v : Nat} {s : State} (h3 : bit v 3 = false) (h0 : bit v 0 = false) (h1 : bit v 1 = true) (hbusy : s.calBusy = false) :
    calWrite v s = { s with cal.groupDue := some false } := by
  rw [calWrite, h3, calDone_kept]
  dsimp only
  rw [if_neg (by rw [hbusy]; exact Bool.false_ne_true), if_neg (by rw [h0]; exact Bool.false_ne_true), if_pos h1]

theorem calWrite_clear {v : Nat} {s : State} (h3 : bit v 3 = true) (h0 : bit v 0 = false) (h1 : bit v 1 = false) :
    calWrite v s = { s with cal.calDone := false } := by
  rw [calWrite, h3, h0, h1, Bool.not_true, Bool.and_false]
  dsimp only
  split <;> rfl

/-- A copy of a block stands where it was written. -/
theorem Memory.byte_write_read {m : Memory} (hm : m.wf = true) (a b : Nat) {n x : Nat} (h : x < n) : (m.write a (m.read b n)).byte (a + x) = m.byte (b + x) := by
  rw [Memory.byte_write_inside _ _ _ (by rwa [Memory.length_read hm]), Memory.getD_read hm b h]

/-- The trim RAM takes the shadow's bytes (05 R125). -/
theorem completes_trimRestore {s : State} (hm : s.memOk) (hcore : s.clk.core = true) (hafe : s.clk.afe = true) :
    Completes (.trimRestore []) s (fun t => (∀ x, x < 0x18000 → t.mem.byte (trimRam + x) = s.mem.byte (trimShadow + x)) ∧
      ({ t with mem := s.mem } : State) = { s with cal.trimDue := false }) := by
  have hexec : exec (.trimRestore []) s = execTrimRestore [] s := rfl
  have hpar : parityHits [] { s with cal.trimDue := true } = { s with cal.trimDue := true } := rfl
  rw [execTrimRestore, if_pos (by rw [hcore, hafe]; rfl), hpar, trimDueNow, if_pos rfl, restoreTrim] at hexec
  exact completes_answer_wf hexec (Memory.write_wf _ _ _ hm) ⟨fun x hx => Memory.byte_write_read hm _ _ hx, rfl⟩

/-! ### Pairs -/

/-- Memory with a chain's pair and trim gain of a slot loaded. -/
def pairLoaded (m : Memory) (c k : Nat) (p : Int × Int) (ky : Int) : Memory :=
  (m.write (coefRam + 4 * (5 * c + k - 2)) (intBytes 2 [p.1, p.2])).putLeI (kyRam + 4 * (5 * c + k - 2)) 4 ky

theorem loadMeasured_eq (e c k : Nat) (p : Int × Int) (s : State) :
    loadMeasured e c k p s = { s with mem := pairLoaded s.mem c k p (kyOf s e c k (s.params e).gain p) } := rfl

/-- A pair's parts stand where it was written. -/
theorem leI_write_pair {m : Memory} (hm : m.wf = true) (a : Nat) {p : Int × Int} (hlo : -32768 ≤ p.1) (hhi : p.1 ≤ 32767) (hlo' : -32768 ≤ p.2)
    (hhi' : p.2 ≤ 32767) {i : Nat} (hi : i < 2) : (m.write a (intBytes 2 [p.1, p.2])).leI (a + 2 * i) 2 = [p.1, p.2].getD i 0 := by
  refine Memory.leI_write_intBytes hm a (w := 2) (by norm_num) (xs := [p.1, p.2]) (i := i) hi ?_ ?_
  all_goals
    interval_cases i
    all_goals
      norm_num
      omega

section Pairs

variable {s : State} (hm : s.memOk) {c k : Nat} (hc : c < 192) (hk : 2 ≤ k) (hk6 : k ≤ 6) (e : Nat)

include hm in
theorem loadMeasured_memOk (c k : Nat) (p : Int × Int) : (loadMeasured e c k p s).memOk := Memory.putLeI_wf _ _ _ _ (Memory.write_wf _ _ _ hm)

include hm in
theorem pair_loadMeasured {p : Int × Int} (hlo : -32768 ≤ p.1) (hhi : p.1 ≤ 32767) (hlo' : -32768 ≤ p.2) (hhi' : p.2 ≤ 32767) :
    (loadMeasured e c k p s).pair c k = p := by
  have hbases : coefRam + 3840 ≤ kyRam := by decide
  have hread : ∀ i, i < 2 → (loadMeasured e c k p s).mem.leI (coefRam + 4 * (5 * c + k - 2) + 2 * i) 2 = [p.1, p.2].getD i 0 := fun i hi => by
    have hwritten := leI_write_pair hm (coefRam + 4 * (5 * c + k - 2)) hlo hhi hlo' hhi' hi
    rw [← hwritten, loadMeasured_eq, pairLoaded]
    have hbelow : ∀ j, j < 2 → coefRam + 4 * (5 * c + k - 2) + 2 * i + j < kyRam + 4 * (5 * c + k - 2) := fun j hj => by
      generalize kyRam = b at *
      generalize coefRam = b' at *
      omega
    exact Memory.leI_congr (Memory.write_wf _ _ _ hm) (Memory.putLeI_wf _ _ _ _ (Memory.write_wf _ _ _ hm)) fun j hj =>
      Memory.byte_putLeI_outside _ (.inl (hbelow j hj))
  exact Prod.ext (hread 0 (by norm_num)) (hread 1 (by norm_num))

include hc hk6

theorem byte_loadMeasured (p : Int × Int) {y : Nat}
    (hpair : y < coefRam + 4 * (5 * c + k - 2) ∨ coefRam + 4 * (5 * c + k - 2) + 4 ≤ y)
    (hky : y < kyRam ∨ kyRam + 3840 ≤ y) : (loadMeasured e c k p s).mem.byte y = s.mem.byte y := by
  rw [loadMeasured_eq, pairLoaded]
  have hout : y < kyRam + 4 * (5 * c + k - 2) ∨ kyRam + 4 * (5 * c + k - 2) + 4 ≤ y := by
    generalize kyRam = b at *
    omega
  rw [Memory.byte_putLeI_outside _ hout]
  exact Memory.byte_write_outside _ (by rwa [length_intBytes])

/-- What the decoder reads of a frame is as before. -/
theorem loadMeasured_scan (hm : s.memOk) (p : Int × Int) : SameScan s (loadMeasured e c k p s) :=
  ⟨hm, loadMeasured_memOk hm e c k p, fun y hy => by
    have hbases : noiseArea + 0xC00 ≤ coefRam ∧ baseMut ≤ coefRam ∧ coefRam ≤ kyRam := by decide
    exact byte_loadMeasured hc hk6 e p (by omega) (by omega)⟩

include hm hk

theorem pair_loadMeasured_ne (p : Int × Int) {j : Nat} (hj : 2 ≤ j) (hj6 : j ≤ 6) (hne : j ≠ k) : (loadMeasured e c k p s).pair c j = s.pair c j := by
  have hbases : coefRam + 3840 ≤ kyRam := by decide
  have hsame : ∀ i, i < 4 → (loadMeasured e c k p s).mem.byte (coefRam + 4 * (5 * c + j - 2) + i) = s.mem.byte (coefRam + 4 * (5 * c + j - 2) + i) :=
    fun i hi => byte_loadMeasured hc hk6 e p (by omega) (by omega)
  refine Prod.ext ?_ ?_
  · exact Memory.leI_congr hm (loadMeasured_memOk hm e c k p) fun i hi => hsame i (by omega)
  · refine Memory.leI_congr hm (loadMeasured_memOk hm e c k p) fun i hi => ?_
    rw [Nat.add_assoc]
    exact hsame (2 + i) (by omega)

end Pairs

theorem SameScan.pairError {s t : State} (h : SameScan s t) (e : Nat) {c k : Nat} (hc : c < 192) (hk6 : k ≤ 6) (p : Int × Int) :
    pairError t e c k p = pairError s e c k p := by
  have hstore := stepStore_bounds e
  have hread : ∀ i, i < 256 → t.mem.leI (stepStore e + 3 * (256 * c + i)) 3 = s.mem.leI (stepStore e + 3 * (256 * c + i)) 3 := fun i hi =>
    Memory.leI_congr h.1 h.2.1 fun j hj => h.2.2 _ (.inl (by rw [baseMut]; omega))
  have hcharge : chargeValue t e c k p = chargeValue s e c k p := by
    rw [chargeValue, chargeValue]
    dsimp only
    congr 3
    refine List.map_congr_left fun i hi => ?_
    have hi := List.mem_range.1 hi
    rw [hread _ (by omega), Nat.add_assoc, hread _ (by omega)]
  rw [Machine.pairError, Machine.pairError, h.params, hcharge]

/-! ### Results of injection and verify frames -/

theorem foldl_fixed {α β : Type} {f : β → α → β} {b : β} {l : List α} (h : ∀ a ∈ l, f b a = b) : l.foldl f b = b := by
  induction l with
  | nil => rfl
  | cons a l ih => rw [List.foldl_cons, h a List.mem_cons_self, ih fun x hx => h x (List.mem_cons_of_mem a hx)]

/-- Of the slots of one chain a single one changes the state. -/
theorem forSlots_one {c k : Nat} {g : Nat → Nat → State → State} {s t : State} (hk : 2 ≤ k) (hk6 : k ≤ 6)
    (hbefore : ∀ j, 2 ≤ j → j ≤ 6 → j ≠ k → g c j s = s) (hstep : g c k s = t) (hafter : ∀ j, 2 ≤ j → j ≤ 6 → j ≠ k → g c j t = t) :
    forSlots [c] g s = t := by
  obtain ⟨i, rfl⟩ : ∃ i, k = i + 2 := ⟨k - 2, by omega⟩
  obtain ⟨l₁, l₂, hl⟩ := List.append_of_mem (List.mem_range.2 (by omega : i < 5))
  have hnodup := hl ▸ (List.nodup_range (n := 5))
  have hlt : ∀ j, j ∈ l₁ ∨ j ∈ l₂ → j < 5 ∧ j ≠ i := fun j hj => by
    refine ⟨List.mem_range.1 (hl ▸ List.mem_append.2 (hj.imp_right (List.mem_cons_of_mem i))), ?_⟩
    rintro rfl
    rcases hj with hj | hj
    · exact (List.nodup_append.1 hnodup).2.2 j hj j List.mem_cons_self rfl
    · exact (List.nodup_cons.1 (List.nodup_append.1 hnodup).2.1).1 hj
  have h1 : l₁.foldl (fun v i => g c (i + 2) v) s = s := foldl_fixed fun j hj => by
    have := hlt j (.inl hj)
    exact hbefore (j + 2) (by omega) (by omega) (by omega)
  have h2 : l₂.foldl (fun v i => g c (i + 2) v) t = t := foldl_fixed fun j hj => by
    have := hlt j (.inr hj)
    exact hafter (j + 2) (by omega) (by omega) (by omega)
  rw [forSlots, List.foldl_cons, List.foldl_nil, hl, List.foldl_append, h1, List.foldl_cons, hstep, h2]

theorem forSlots_fixed {c : Nat} {g : Nat → Nat → State → State} {s : State} (h : ∀ j, 2 ≤ j → j ≤ 6 → g c j s = s) : forSlots [c] g s = s := by
  rw [forSlots, List.foldl_cons, List.foldl_nil]
  exact foldl_fixed fun j hj => h (j + 2) (by omega) (by have := List.mem_range.1 hj; omega)

theorem forPasses_fixed {c : Nat} {g : Nat → Nat → State → State} {s : State} (h : ∀ j, j < 2 → g c j s = s) : forPasses [c] g s = s := by
  rw [forPasses, List.foldl_cons, List.foldl_nil]
  exact foldl_fixed fun j hj => h j (List.mem_range.1 hj)

/-- The pair derived for a chain and slot from a single result. -/
theorem derivedPair_one (c k j e : Nat) (a b : Int) (s : State) : derivedPair [{ chain := c, slot := k, pc := a, ps := b }] e c j s =
    if k = j ∧ (pairError s e c j (a, b)).1 ≤ (pairError s e c j (a, b)).2 then some (a, b) else none := by
  rw [derivedPair, List.find?_cons, List.find?_nil]
  by_cases hk : k = j
  · by_cases hmeets : (pairError s e c j (a, b)).1 ≤ (pairError s e c j (a, b)).2
    · simp [hk, hmeets]
    · simp [hk, hmeets]
  · rw [if_neg (fun h => hk h.1)]
    simp [beq_false_of_ne hk]

/-- A measurement within its tolerance that was not being tried again changes nothing (05 R123). -/
theorem verifyOne_within {c key err tol : Nat} {now : Int × Int} {load : State → State} {keepBest : Int × Int → State → State} {s : State}
    (herr : err ≤ tol) (hnone : ∀ t ∈ s.cal.tries, ¬(t.chain = c ∧ t.slot = key)) : verifyOne c key err tol now load id keepBest s = s := by
  have hrest : s.cal.tries.filter (fun t => !(t.chain == c && t.slot == key)) = s.cal.tries :=
    List.filter_eq_self.2 fun t ht => by
    rw [Bool.not_eq_true', Bool.and_eq_false_iff, beq_eq_false_iff_ne, beq_eq_false_iff_ne]
    exact not_and_or.1 (hnone t ht)
  rw [verifyOne]
  dsimp only
  rw [hrest, if_pos herr]
  rfl

section Results

variable {s : State} {c k : Nat} {a b : Int}

/-- The results of an injection frame: the one pair derived is loaded when it meets the target (05 R121, R122). -/
theorem takeCalResults_injection {f : Frame} {v : Bool} (hkind : s.cal.kind = .full) (hframe : s.resultFrame = some (f, false))
    (hf : f.kind = .inject v [c]) (hk : 2 ≤ k) (hk6 : k ≤ 6) : takeCalResults [{ chain := c, slot := k, pc := a, ps := b }] [] s =
    { (if (pairError s f.epoch c k (a, b)).1 ≤ (pairError s f.epoch c k (a, b)).2 then loadMeasured f.epoch c k (a, b) s else s) with
      cal.measured := true, cal.verifies := 0, cal.took := none } := by
  rw [takeCalResults, hframe]
  dsimp only
  rw [hf]
  dsimp only
  have hgroup : (s.cal.kind == .group) = false := by rw [hkind]; rfl
  rw [hgroup, if_pos (by decide), forPasses_fixed fun j _ => rfl, if_neg Bool.false_ne_true]
  refine congrArg (fun t : State => { t with cal.measured := true, cal.verifies := 0, cal.took := none }) ?_
  refine forSlots_one hk hk6 (fun j _ _ hne => ?_) ?_ (fun j _ _ hne => ?_)
  · rw [derivedPair_one, if_neg (fun h => hne h.1.symm)]
  · rw [derivedPair_one]
    by_cases hmeets : (pairError s f.epoch c k (a, b)).1 ≤ (pairError s f.epoch c k (a, b)).2
    · rw [if_pos ⟨rfl, hmeets⟩, if_pos hmeets]
    · rw [if_neg (fun h => hmeets h.2), if_neg hmeets]
  · rw [derivedPair_one, if_neg (fun h => hne h.1.symm)]

/-- The results of a verify frame where one slot's verification makes `u` of the state and all else is within its tolerance (05 R123). -/
theorem takeCalResults_verify {f : Frame} {v : Bool} {u : State} (hframe : s.resultFrame = some (f, true))
    (hf : f.kind = .inject v [c]) (hc : c < 192) (hk : 2 ≤ k) (hk6 : k ≤ 6)
    (hscale : ∀ j, j < 2 → scaleError [chargeSum s f.epoch c j 0, chargeSum s f.epoch c j 1] (s.mem.le (scaleRam + 2 * (2 * c + j)) 2) ≤ 2048)
    (hothers : ∀ j, 2 ≤ j → j ≤ 6 → j ≠ k → (pairError s f.epoch c j (s.pair c j)).1 ≤ (pairError s f.epoch c j (s.pair c j)).2)
    (htries : ∀ t ∈ s.cal.tries, t.slot = k)
    (hu : ∀ load, ((pairError s f.epoch c k (a, b)).1 ≤ (pairError s f.epoch c k (a, b)).2 → load = loadMeasured f.epoch c k (a, b)) →
      verifyOne c k (pairError s f.epoch c k (s.pair c k)).1 (pairError s f.epoch c k (s.pair c k)).2 (s.pair c k) load id
        (fun b v => loadMeasured f.epoch c k b v) (beginVerify f.epoch s) = u)
    (hscan : SameScan s u) (hpairs : ∀ j, 2 ≤ j → j ≤ 6 → j ≠ k → u.pair c j = s.pair c j)
    (hscales : ∀ j, j < 2 → u.mem.le (scaleRam + 2 * (2 * c + j)) 2 = s.mem.le (scaleRam + 2 * (2 * c + j)) 2)
    (hutries : ∀ t ∈ u.cal.tries, t.slot = k) : takeCalResults [{ chain := c, slot := k, pc := a, ps := b }] [] s = u := by
  rw [takeCalResults, hframe]
  dsimp only
  rw [hf]
  dsimp only
  rw [if_neg (by decide)]
  have hbegin : SameScan s (beginVerify f.epoch s) := ⟨hscan.1, hscan.1, fun _ _ => rfl⟩
  rw [forSlots_one (t := u) hk hk6, forPasses_fixed]
  · intro j hj
    rw [hscales j hj]
    exact verifyOne_within (hscale j hj) fun t ht h => absurd (hutries t ht) (by omega)
  · intro j hj hj6 hne
    have hpair : (beginVerify f.epoch s).pair c j = s.pair c j := rfl
    rw [hpair, hbegin.pairError _ hc hj6]
    exact verifyOne_within (hothers j hj hj6 hne) fun t ht h => absurd (htries t ht) (by omega)
  · have hpair : (beginVerify f.epoch s).pair c k = s.pair c k := rfl
    rw [hpair, hbegin.pairError _ hc hk6]
    refine hu _ fun hmeets => ?_
    rw [derivedPair_one, if_pos ⟨rfl, hmeets⟩]
  · intro j hj hj6 hne
    rw [hpairs j hj hj6 hne, hscan.pairError _ hc hj6]
    exact verifyOne_within (hothers j hj hj6 hne) fun t ht h => absurd (hutries t ht) (by omega)

/-- A step of results leaves the count of verify frames. -/
def SameVerifies (s t : State) : Prop := t.cal.verifies = s.cal.verifies

theorem SameVerifies.refl (s : State) : SameVerifies s s := rfl

theorem SameVerifies.trans (s t u : State) (h : SameVerifies s t) (h' : SameVerifies t u) : SameVerifies s u := Eq.trans h' h

theorem verifyOne_verifies {key err tol : Nat} {now : Int × Int} {load : State → State} {keepBest : Int × Int → State → State}
    (hload : ∀ t, SameVerifies t (load t)) (hbest : ∀ p t, SameVerifies t (keepBest p t)) (s : State) :
    SameVerifies s (verifyOne c key err tol now load id keepBest s) := by
  rw [verifyOne]
  dsimp only
  generalize (if 3 ≤ s.cal.verifies then 3 else _ : Nat) = n
  split
  · rfl
  · split
    · exact hload _
    · exact hbest _ _

theorem forSlots_verifies {g : Nat → Nat → State → State} (h : ∀ c k t, SameVerifies t (g c k t)) (chains : List Nat) (s : State) :
    SameVerifies s (forSlots chains g s) :=
  foldl_chains SameVerifies.refl SameVerifies.trans (fun t c => foldl_chains SameVerifies.refl SameVerifies.trans (fun t i => h c (i + 2) t) (List.range 5) t) chains s

theorem forPasses_verifies {g : Nat → Nat → State → State} (h : ∀ c k t, SameVerifies t (g c k t)) (chains : List Nat) (s : State) :
    SameVerifies s (forPasses chains g s) :=
  foldl_chains SameVerifies.refl SameVerifies.trans (fun t c => foldl_chains SameVerifies.refl SameVerifies.trans (fun t i => h c i t) (List.range 2) t) chains s

theorem loadMeasured_verifies (e c k : Nat) (p : Int × Int) (s : State) : SameVerifies s (loadMeasured e c k p s) := rfl

theorem rescaleSelf_verifies (m : PinMap) (pass f : Nat) (s : State) : SameVerifies s (rescaleSelf m c pass f s) := by
  unfold rescaleSelf
  dsimp only
  split
  · split <;> rfl
  · rfl

/-- The results of a verify frame count it (05 R123). -/
theorem takeCalResults_verifies {f : Frame} {v : Bool} {chains : List Nat} (pairs : List PairResult) (scales : List ScaleResult)
    (hframe : s.resultFrame = some (f, true)) (hf : f.kind = .inject v chains) :
    (takeCalResults pairs scales s).cal.verifies = min 3 (s.cal.verifies + 1) := by
  have hscale : ∀ (group : Bool) (m : PinMap) (c pass f : Nat) (t : State),
      SameVerifies t (if group then rescaleSelf m c pass f t else loadScale c pass f t) := by
    intro group m c pass f t
    cases group
    · rfl
    · exact rescaleSelf_verifies m pass f t
  rw [takeCalResults, hframe]
  dsimp only
  rw [hf]
  dsimp only
  rw [if_neg (by decide)]
  refine SameVerifies.trans (beginVerify f.epoch s) _ _ (forSlots_verifies (fun c k t => ?_) chains _) (forPasses_verifies (fun c pass t => ?_) chains _)
  · refine verifyOne_verifies (fun t => ?_) (fun p t => loadMeasured_verifies f.epoch c k p t) t
    split
    · exact loadMeasured_verifies f.epoch c k _ t
    · rfl
  · refine verifyOne_verifies (fun t => ?_) (fun p t => hscale _ _ _ _ _ t) t
    split
    · exact hscale _ _ _ _ _ t
    · rfl

theorem resultFrame_injection (hkind : s.cal.kind = .full) (hphase : s.cal.phase = 3) (hmeasured : s.cal.measured = false)
    (hf : s.chn.prev.kind = .inject false [c]) (hdc : s.chn.prev.dcause = 0) : s.resultFrame = some (s.chn.prev, false) := by
  simp [State.resultFrame, Frame.injection, hkind, hphase, hmeasured, hf, hdc]

theorem resultFrame_verify (hkind : s.cal.kind = .full) (hphase : s.cal.phase = 3) (hmeasured : s.cal.measured = true)
    (hf : s.chn.cur.kind = .inject true [c]) (hdc : s.chn.cur.dcause = 0) (hseg : s.chn.seg ≠ 0)
    (htook : s.cal.took.map (·.epoch) ≠ some s.chn.cur.epoch) : s.resultFrame = some (s.chn.cur, true) := by
  simp [State.resultFrame, Frame.injection, hkind, hphase, hmeasured, hf, hdc, hseg, htook]

theorem exec_calInjectionResult (hfw : s.fwRuns = true) (hkind : s.cal.kind = .full) (pairs : List PairResult) (scales : List ScaleResult) :
    exec (.calInjectionResult pairs scales) s = answer s (takeCalResults pairs scales s) := by
  have hexec : exec (.calInjectionResult pairs scales) s = execCalInjectionResult pairs scales s := rfl
  rw [hexec, execCalInjectionResult, if_neg (by simp [hfw, hkind])]

end Results

section Verify

variable {s : State} (hm : s.memOk) {c k : Nat} {a b : Int} {f : Frame} {v : Bool} (hframe : s.resultFrame = some (f, true))
  (hf : f.kind = .inject v [c]) (hc : c < 192) (hk : 2 ≤ k) (hk6 : k ≤ 6)
  (hscale : ∀ j, j < 2 → scaleError [chargeSum s f.epoch c j 0, chargeSum s f.epoch c j 1] (s.mem.le (scaleRam + 2 * (2 * c + j)) 2) ≤ 2048)
  (hothers : ∀ j, 2 ≤ j → j ≤ 6 → j ≠ k → (pairError s f.epoch c j (s.pair c j)).1 ≤ (pairError s f.epoch c j (s.pair c j)).2)

include hm hframe hf hc hk hk6 hscale hothers

/-- All is within its tolerance: nothing is tried again (05 R123). -/
theorem takeCalResults_within (htries : ∀ t ∈ s.cal.tries, t.chain = c ∧ t.slot = k)
    (hwithin : (pairError s f.epoch c k (s.pair c k)).1 ≤ (pairError s f.epoch c k (s.pair c k)).2) :
    takeCalResults [{ chain := c, slot := k, pc := a, ps := b }] [] s = { beginVerify f.epoch s with cal.tries := [] } := by
  have hrest : (beginVerify f.epoch s).cal.tries.filter (fun t => !(t.chain == c && t.slot == k)) = [] := by
    refine List.filter_eq_nil_iff.2 fun t ht => ?_
    obtain ⟨h1, h2⟩ := htries t ht
    simp [h1, h2]
  refine takeCalResults_verify hframe hf hc hk hk6 hscale hothers (fun t ht => (htries t ht).2) (fun load _ => ?_) ⟨hm, hm, fun _ _ => rfl⟩
    (fun _ _ _ _ => rfl) (fun _ _ => rfl) (fun t ht => absurd ht List.not_mem_nil)
  rw [verifyOne]
  dsimp only
  rw [hrest, if_pos hwithin]
  rfl

/-- A slot's verification that loads a pair, all else being within its tolerance. -/
theorem takeCalResults_loads {l : List CalTry} {n m : Nat} {p : Int × Int} (htries : ∀ t ∈ s.cal.tries, t.slot = k) (hl : ∀ t ∈ l, t.slot = k)
    (hu : ∀ load, ((pairError s f.epoch c k (a, b)).1 ≤ (pairError s f.epoch c k (a, b)).2 → load = loadMeasured f.epoch c k (a, b)) →
      verifyOne c k (pairError s f.epoch c k (s.pair c k)).1 (pairError s f.epoch c k (s.pair c k)).2 (s.pair c k) load id
        (fun b v => loadMeasured f.epoch c k b v) (beginVerify f.epoch s) =
          loadMeasured f.epoch c k p { beginVerify f.epoch s with cal.tries := l, cal.calfail := n, cal.runFail := m }) :
    takeCalResults [{ chain := c, slot := k, pc := a, ps := b }] [] s =
      loadMeasured f.epoch c k p { beginVerify f.epoch s with cal.tries := l, cal.calfail := n, cal.runFail := m } := by
  generalize hw : ({ beginVerify f.epoch s with cal.tries := l, cal.calfail := n, cal.runFail := m } : State) = w at *
  have hmem : w.mem = s.mem := by rw [← hw]; rfl
  have hmw : w.memOk := by rw [State.memOk, hmem]; exact hm
  have hscan := loadMeasured_scan hc hk6 f.epoch hmw p
  have hbases : coefRam + 3840 ≤ scaleRam ∧ kyRam + 3840 ≤ scaleRam := by decide
  refine takeCalResults_verify hframe hf hc hk hk6 hscale hothers htries hu ⟨hm, hscan.2.1, fun y hy => by rw [hscan.2.2 y hy, hmem]⟩
    (fun j hj hj6 hne => ?_) (fun j hj => ?_) ?_
  · rw [pair_loadMeasured_ne hmw hc hk hk6 f.epoch p hj hj6 hne, State.pair, State.pair, hmem]
  · refine Memory.le_congr hm (loadMeasured_memOk hmw f.epoch c k p) fun i hi => ?_
    rw [← hmem]
    exact byte_loadMeasured hc hk6 f.epoch p (.inr (by omega)) (.inr (by omega))
  · intro t ht
    rw [loadMeasured_eq, ← hw] at ht
    exact hl t ht

/-- A pair that misses the target in its first verification is loaded anew (05 R123). -/
theorem takeCalResults_again (htries : s.cal.tries = []) (hverifies : s.cal.verifies < 2)
    (hmiss : ¬(pairError s f.epoch c k (s.pair c k)).1 ≤ (pairError s f.epoch c k (s.pair c k)).2)
    (hmeets : (pairError s f.epoch c k (a, b)).1 ≤ (pairError s f.epoch c k (a, b)).2) :
    takeCalResults [{ chain := c, slot := k, pc := a, ps := b }] [] s = loadMeasured f.epoch c k (a, b) { beginVerify f.epoch s with
      cal.tries := [{ chain := c, slot := k, attempts := 1, best := s.pair c k, err := (pairError s f.epoch c k (s.pair c k)).1 }]
      cal.calfail := s.cal.calfail
      cal.runFail := s.cal.runFail } := by
  refine takeCalResults_loads hm hframe hf hc hk hk6 hscale hothers (fun t ht => absurd (htries ▸ ht) List.not_mem_nil)
    (fun t ht => by rw [List.mem_singleton.1 ht]) (fun load hload => ?_)
  have hbegin : (beginVerify f.epoch s).cal.tries = [] := htries
  have hcount : ¬3 ≤ (beginVerify f.epoch s).cal.verifies := by
    have hv : (beginVerify f.epoch s).cal.verifies = min 3 (s.cal.verifies + 1) := rfl
    omega
  rw [verifyOne]
  dsimp only
  rw [if_neg hmiss, hbegin, if_neg hcount, hload hmeets]
  rfl

/-- After the third failure the best pair is kept and CALFAIL counts (05 R123). -/
theorem takeCalResults_best {p : Int × Int} {err : Nat} (htries : s.cal.tries = [{ chain := c, slot := k, attempts := 2, best := p, err := err }])
    (hmiss : ¬(pairError s f.epoch c k (s.pair c k)).1 ≤ (pairError s f.epoch c k (s.pair c k)).2)
    (herr : err ≤ (pairError s f.epoch c k (s.pair c k)).1) :
    takeCalResults [{ chain := c, slot := k, pc := a, ps := b }] [] s = loadMeasured f.epoch c k p { beginVerify f.epoch s with
      cal.tries := [], cal.calfail := cnt 8 s.cal.calfail 1, cal.runFail := s.cal.runFail + 1 } := by
  refine takeCalResults_loads hm hframe hf hc hk hk6 hscale hothers (fun t ht => by rw [htries] at ht; rw [List.mem_singleton.1 ht])
    (fun t ht => absurd ht List.not_mem_nil) (fun load hload => ?_)
  have hbegin : (beginVerify f.epoch s).cal.tries = [{ chain := c, slot := k, attempts := 2, best := p, err := err }] := htries
  have hself : (c == c && k == k) = true := by simp
  rw [verifyOne]
  dsimp only
  rw [if_neg hmiss, hbegin, List.find?_cons, List.filter_cons, hself]
  dsimp only
  rw [if_pos herr, Option.map_some, Option.getD_some, ite_self, if_neg (by decide), if_neg (by decide), List.filter_nil]
  rfl

end Verify

/-! ### The trim search -/

/-- Memory with the codes of one chain after a trim measurement (05 R124). -/
def trimBlock (s : State) (e : Nat) (p : Params) (m : Memory) (c : Nat) : Memory :=
  m.write (trimRam + 512 * c) (intBytes 2 ((trimChain s e c 0 p.kp).1 ++ (trimChain s e c 1 p.ks).1))

theorem length_trimChain (s : State) (e c role k : Nat) : (trimChain s e c role k).1.length = 128 := by
  simp [trimChain, stepValues]

theorem length_trimBlock (s : State) (e : Nat) (p : Params) (c : Nat) :
    (intBytes 2 ((trimChain s e c 0 p.kp).1 ++ (trimChain s e c 1 p.ks).1)).length = 512 := by
  rw [length_intBytes, List.length_append, length_trimChain, length_trimChain]

theorem trimSearch_eq (s : State) (e : Nat) (p : Params) (l : List Nat) (t : State) (n : Nat) : (l.foldl (fun (a : State × Nat) c =>
      ({ a.1 with mem := a.1.mem.write (trimRam + 512 * c) (intBytes 2 ((trimChain s e c 0 p.kp).1 ++ (trimChain s e c 1 p.ks).1)) },
        a.2 + b2n ((trimChain s e c 0 p.kp).2 || (trimChain s e c 1 p.ks).2))) (t, n)).1 =
    { t with mem := l.foldl (trimBlock s e p) t.mem } := by
  induction l generalizing t n with
  | nil => rfl
  | cons c l ih =>
    rw [List.foldl_cons, ih, List.foldl_cons]
    rfl

/-- The code of one step after a trim measurement: rounded from the value that the step shows (05 R124). -/
theorem getD_trimChain {s : State} (hm : s.memOk) (e c k : Nat) {i : Nat} (hi : i < 128) : (trimChain s e c 0 k).1.getD i 0 =
    clampI (-512) 511 (s.mem.leI (trimRam + 2 * (256 * c + i)) 2 +
      roundDiv (16 * s.mem.leI (stepStore e + 3 * (256 * c + i)) 3) (s.mem.leI (kyRam + 4 * (5 * c + k - 2)) 4)) := by
  have hvalues : i < (stepValues s e c 0).length := by rwa [stepValues, Memory.length_ints]
  have hcodes : i < (s.mem.ints (trimRam + 2 * (256 * c + 128 * 0)) 2 128).length := by rwa [Memory.length_ints]
  have hlen : i < (List.zip (s.mem.ints (trimRam + 2 * (256 * c + 128 * 0)) 2 128) (stepValues s e c 0)).length := by
    rw [List.length_zip, Memory.length_ints, stepValues, Memory.length_ints]
    exact hi
  have hcode : (s.mem.ints (trimRam + 2 * (256 * c + 128 * 0)) 2 128).getD i 0 = s.mem.leI (trimRam + 2 * (256 * c + i)) 2 := by
    rw [Memory.getD_ints hm _ _ hi]
    congr 1
    ring
  have hvalue : (stepValues s e c 0).getD i 0 = s.mem.leI (stepStore e + 3 * (256 * c + i)) 3 := by
    rw [stepValues, Memory.getD_ints hm _ _ hi]
    congr 1
    ring
  rw [trimChain]
  dsimp only
  rw [List.map_map, getD_map_lt _ (0, 0) _ hlen, List.zip, getD_zipWith _ 0 0 _ hcodes hvalues, hcode, hvalue]
  rfl

theorem trimBlock_wf (s : State) (e : Nat) (p : Params) (m : Memory) (c : Nat) (h : m.wf = true) : (trimBlock s e p m c).wf = true :=
  Memory.write_wf _ _ _ h

theorem byte_trimBlock (s : State) (e : Nat) (p : Params) (m : Memory) (c : Nat) {y : Nat} (h : y < trimRam + 512 * c ∨ trimRam + 512 * c + 512 ≤ y) :
    (trimBlock s e p m c).byte y = m.byte y :=
  Memory.byte_write_outside _ (by rwa [length_trimBlock])

theorem leI_trimBlock {s : State} (hs : s.memOk) (e : Nat) (p : Params) {m : Memory} (hm : m.wf = true) (c : Nat) {i : Nat} (hi : i < 128) :
    (trimBlock s e p m c).leI (trimRam + 2 * (256 * c + i)) 2 = clampI (-512) 511 (s.mem.leI (trimRam + 2 * (256 * c + i)) 2 +
      roundDiv (16 * s.mem.leI (stepStore e + 3 * (256 * c + i)) 3) (s.mem.leI (kyRam + 4 * (5 * c + p.kp - 2)) 4)) := by
  have hlen : i < (trimChain s e c 0 p.kp).1.length := by rwa [length_trimChain]
  have happend : ((trimChain s e c 0 p.kp).1 ++ (trimChain s e c 1 p.ks).1).getD i 0 = (trimChain s e c 0 p.kp).1.getD i 0 :=
    List.getD_append _ _ _ _ hlen
  have haddr : trimRam + 2 * (256 * c + i) = trimRam + 512 * c + 2 * i := by ring
  have hrange : -512 ≤ (trimChain s e c 0 p.kp).1.getD i 0 ∧ (trimChain s e c 0 p.kp).1.getD i 0 ≤ 511 := by
    rw [getD_trimChain hs e c p.kp hi, clampI_eq (by norm_num)]
    omega
  have hlen' := hlen.trans_le (List.length_append ▸ Nat.le_add_right _ (trimChain s e c 1 p.ks).1.length)
  rw [← happend] at hrange
  rw [← getD_trimChain hs e c p.kp hi, ← happend, haddr, trimBlock]
  exact Memory.leI_write_intBytes hm _ (by norm_num) hlen' (le_trans (by norm_num) hrange.1) (lt_of_le_of_lt hrange.2 (by norm_num))

/-- What a trim measurement leaves of a code (05 R124). -/
theorem leI_trimSearch {s : State} (hm : s.memOk) (e : Nat) (p : Params) {n c i : Nat} (hc : c < n) (hi : i < 128) :
    ((List.range n).foldl (trimBlock s e p) s.mem).leI (trimRam + 2 * (256 * c + i)) 2 =
      clampI (-512) 511 (s.mem.leI (trimRam + 2 * (256 * c + i)) 2 +
        roundDiv (16 * s.mem.leI (stepStore e + 3 * (256 * c + i)) 3) (s.mem.leI (kyRam + 4 * (5 * c + p.kp - 2)) 4)) :=
  Memory.leI_foldl_inside (g := trimBlock s e p) (trimBlock_wf s e p) List.nodup_range (List.mem_range.2 hc) (fun m hwf => leI_trimBlock hm e p hwf c hi)
    (fun m j _ hne o ho => byte_trimBlock s e p m j (by omega)) hm

theorem completes_trimSearchMeasure {s : State} (hm : s.memOk) {p : Params} (hp : s.params s.chn.prev.epoch = p) (hkind : s.chn.prev.kind = .trimMeasure)
    (hdc : s.chn.prev.dcause = 0) (hphase : s.cal.phase = 4) :
    Completes .trimSearchMeasure s (fun t => t.mem = (List.range p.s).foldl (trimBlock s s.chn.prev.epoch p) s.mem) := by
  have hexec : exec .trimSearchMeasure s = execTrimSearchMeasure s := rfl
  rw [execTrimSearchMeasure] at hexec
  dsimp only at hexec
  rw [hp, if_neg (by simp [hkind, hdc, hphase])] at hexec
  generalize hx : List.foldl _ (s, 0) (List.range p.s) = x at hexec
  have hfold := (congrArg Prod.fst hx).symm.trans (trimSearch_eq s s.chn.prev.epoch p (List.range p.s) s 0)
  obtain ⟨t, sat⟩ := x
  dsimp only at hexec hfold
  have hwf : t.mem.wf = true := by
    rw [hfold]
    exact Memory.foldl_wf (trimBlock_wf s _ p) _ hm
  have hmem : (if s.cal.done = 7 then { t with cal.trimsat := sat } else t).mem = t.mem := by
    split <;> rfl
  refine completes_answer_wf hexec (by rw [hmem]; exact hwf) (hmem.trans ?_)
  rw [hfold]

/-! ### The line test -/

/-- One step of the assignment of codes. -/
def assignCode (u : State) (n : Nat) : State :=
  if u.codeOf n = 7 ∨ u.codeOf n = 0xF then u else setCode n ((assoc u.elec.ltCodes n).getD 0) u

/-- The code that the line test assigns to a pin (02 R50): none to a masked or an unused one. -/
def assigned (codes : List (Nat × Nat)) (n old : Nat) : Nat := if old = 7 ∨ old = 0xF then old else (assoc codes n).getD 0

theorem assignCode_eq (u : State) (n : Nat) : ∃ f e i k v c q, assignCode u n = { u with
    elec.code := u.elec.code.set n (assigned u.elec.ltCodes n (u.codeOf n)), elec.faultChg := f, elec.satEvt := e, icu := i, clk.mergeIcu := k
    evt := v, crl := c, arr.queue := q } := by
  rw [assignCode, assigned]
  split
  · exact ⟨u.elec.faultChg, u.elec.satEvt, u.icu, u.clk.mergeIcu, u.evt, u.crl, u.arr.queue, by rw [set_code_self rfl]⟩
  · exact setCode_eq n _ u

theorem assignCodes_spec (l : List Nat) (hl : l.Nodup) (s : State) : ∃ g f e i k v c q, l.foldl assignCode s = { s with
    elec.code := g, elec.faultChg := f, elec.satEvt := e, icu := i, clk.mergeIcu := k, evt := v, crl := c, arr.queue := q } ∧
    g.length = s.elec.code.length ∧
    ∀ x, x < s.elec.code.length → g.getD x 15 = if x ∈ l then assigned s.elec.ltCodes x (s.elec.code.getD x 15) else s.elec.code.getD x 15 := by
  induction l generalizing s with
  | nil => exact ⟨s.elec.code, s.elec.faultChg, s.elec.satEvt, s.icu, s.clk.mergeIcu, s.evt, s.crl, s.arr.queue, rfl, rfl, fun _ _ => rfl⟩
  | cons n l ih =>
    obtain ⟨hn, hl⟩ := List.nodup_cons.1 hl
    obtain ⟨f, e, i, k, v, c, q, hstep⟩ := assignCode_eq s n
    obtain ⟨g, f', e', i', k', v', c', q', hrest, hlen, hg⟩ := ih hl (assignCode s n)
    rw [List.foldl_cons, hrest]
    rw [hstep] at hlen hg ⊢
    dsimp only at hlen hg
    rw [List.length_set] at hlen hg
    refine ⟨g, f', e', i', k', v', c', q', rfl, hlen, fun x hx => ?_⟩
    rw [hg x hx]
    by_cases hxn : x = n
    · subst hxn
      rw [if_neg hn, if_pos List.mem_cons_self, List.getD_eq_getElem _ _ (by rwa [List.length_set]), List.getElem_set_self]
      rfl
    · have hset : (s.elec.code.set n (assigned s.elec.ltCodes n (s.codeOf n))).getD x 15 = s.elec.code.getD x 15 := by
        rw [List.getD_eq_getElem?_getD, List.getElem?_set_ne (Ne.symm hxn), List.getD_eq_getElem?_getD]
      rw [hset]
      simp [hxn]

theorem ltAssign_spec (s : State) (hlen : s.elec.code.length = 320) : ∃ e, e.ltDone = s.elec.ltDone ∧ e.ltCodes = [] ∧
    (∀ x, x < 320 → e.code.getD x 15 = assigned s.elec.ltCodes x (s.elec.code.getD x 15)) ∧ ∃ i k v c a, ltAssign s = { s with
      elec := e, icu := i, clk := k, evt := v, crl := c, arr := a } := by
  obtain ⟨g, f, e, i, k, v, c, q, hfold, hg, hcodes⟩ := assignCodes_spec (List.range 320) List.nodup_range s
  unfold ltAssign
  dsimp only
  generalize hx : List.foldl _ s _ = t
  obtain rfl : t = _ := hx.symm.trans hfold
  refine ⟨{ s.elec with
    code := g, faultChg := f, satEvt := e, lowRun := List.replicate 320 0, highRun := List.replicate 320 0, ovrRun := List.replicate 192 0
    okRun := List.replicate 192 0, tripRun := [], ltCodes := [] }, rfl, rfl, fun x hx => ?_, i, { s.clk with mergeIcu := k }, v, c,
    { s.arr with queue := q }, rfl⟩
  exact (hcodes x (by rwa [hlen])).trans (if_pos (List.mem_range.2 hx))

theorem ltNote_one (s : State) (n c : Nat) (h : ltRank ((assoc s.elec.ltCodes n).getD 0) < ltRank c) :
    ltNote s [n] c = { s with elec.ltCodes := file s.elec.ltCodes n c } := by
  rw [ltNote, List.foldl_cons, List.foldl_nil, if_pos h]

theorem exec_lineTestPhaseEnd {s : State} (h : s.elec.ltLeft ≠ 0) (r : LtResult) : exec (.lineTestPhaseEnd r) s = answer s (match r with
    | .leakage src snk => ltNote (ltNote { s with elec.ltPhase := 1 } src 2) snk 3
    | .coupling pins => ltNote { s with elec.ltPhase := 2 } pins 4
    | .self vs => ltAssign (ltNote (ltNote { s with elec.ltPhase := 3 } ((vs.filter (fun v => selfHigh (v.2 : Int))).map (·.1)) 5)
        ((vs.filter (fun v => selfLow s v.1 (v.2 : Int))).map (·.1)) 1)) := by
  have hexec : exec (.lineTestPhaseEnd r) s = execLineTestPhaseEnd r s := rfl
  rw [hexec]
  unfold execLineTestPhaseEnd
  exact (congrArg (answer s) (if_neg h)).trans (by cases r <;> rfl)

/-! ### The statements' clauses -/

theorem exec_leakage_source {s : State} (hleft : s.elec.ltLeft ≠ 0) (hcodes : s.elec.ltCodes = []) (pin : Nat) :
    exec (.lineTestPhaseEnd (.leakage [pin] [])) s = answer s { s with elec.ltPhase := 1, elec.ltCodes := [(pin, 2)] } := by
  rw [exec_lineTestPhaseEnd hleft]
  dsimp only
  rw [ltNote_one _ pin 2 (by simp [hcodes, assoc, ltRank]), hcodes]
  rfl

theorem exec_leakage_sink {s : State} (hleft : s.elec.ltLeft ≠ 0) (hcodes : s.elec.ltCodes = []) (pin : Nat) :
    exec (.lineTestPhaseEnd (.leakage [] [pin])) s = answer s { s with elec.ltPhase := 1, elec.ltCodes := [(pin, 3)] } := by
  have hnone : ltNote { s with elec.ltPhase := 1 } [] 2 = { s with elec.ltPhase := 1 } := rfl
  rw [exec_lineTestPhaseEnd hleft]
  dsimp only
  rw [hnone, ltNote_one _ pin 3 (by simp [hcodes, assoc, ltRank]), hcodes]
  rfl

theorem exec_coupling {s : State} (hleft : s.elec.ltLeft ≠ 0) {pin : Nat} (hcodes : s.elec.ltCodes = [(pin, 2)]) :
    exec (.lineTestPhaseEnd (.coupling [pin])) s = answer s { s with elec.ltPhase := 2, elec.ltCodes := [(pin, 4)] } := by
  have hfile : file [(pin, 2)] pin 4 = [(pin, 4)] := by simp [file]
  rw [exec_lineTestPhaseEnd hleft]
  dsimp only
  rw [ltNote_one _ pin 4 (by simp [hcodes, assoc, ltRank]), hcodes, hfile]

/-- The last phase of the line test without a self finding: the codes are set (02 R50). -/
theorem completes_selfPhase {s : State} (hm : s.memOk) (hleft : s.elec.ltLeft ≠ 0) (hlen : s.elec.code.length = 320) : Completes
    (.lineTestPhaseEnd (.self [])) s (fun t => t.elec.ltDone = s.elec.ltDone ∧ t.elec.ltCodes = [] ∧
      ∀ x, x < 320 → t.elec.code.getD x 15 = assigned s.elec.ltCodes x (s.elec.code.getD x 15)) := by
  have hexec := exec_lineTestPhaseEnd hleft (.self [])
  obtain ⟨e, hdone, hcodes, hcode, i, k, v, c, a, hassign⟩ := ltAssign_spec { s with elec.ltPhase := 3 } hlen
  exact completes_answer_wf (hexec.trans (congrArg (answer s) hassign)) hm ⟨hdone, hcodes, hcode⟩

section Injection

variable {s : State} (hm : s.memOk) (hfw : s.fwRuns = true) (hkind : s.cal.kind = .full) (hphase : s.cal.phase = 3) {c k : Nat} {a b : Int}
  (hc : c < 192) (hk : 2 ≤ k) (hk6 : k ≤ 6) (hlo : -32768 ≤ a) (hhi : a ≤ 32767) (hlo' : -32768 ≤ b) (hhi' : b ≤ 32767)

include hm hfw hkind hphase hk hk6 hlo hhi hlo' hhi'

/-- A pair derived from an injection frame is loaded when it meets the target, and only then (05 R121). -/
theorem completes_injection (hmeasured : s.cal.measured = false) (hf : s.chn.prev.kind = .inject false [c]) (hdc : s.chn.prev.dcause = 0) :
    Completes (.calInjectionResult [{ chain := c, slot := k, pc := a, ps := b }] []) s (fun t => t.cal.measured = true ∧
      ((pairError s s.chn.prev.epoch c k (a, b)).1 ≤ (pairError s s.chn.prev.epoch c k (a, b)).2 → t.pair c k = (a, b) ∧ t.cal.tries = s.cal.tries) ∧
      (¬(pairError s s.chn.prev.epoch c k (a, b)).1 ≤ (pairError s s.chn.prev.epoch c k (a, b)).2 → t.pair c k = s.pair c k)) := by
  have hexec := exec_calInjectionResult hfw hkind [{ chain := c, slot := k, pc := a, ps := b }] []
  rw [takeCalResults_injection hkind (resultFrame_injection hkind hphase hmeasured hf hdc) hf hk hk6] at hexec
  by_cases hmeets : (pairError s s.chn.prev.epoch c k (a, b)).1 ≤ (pairError s s.chn.prev.epoch c k (a, b)).2
  · rw [if_pos hmeets] at hexec
    exact completes_answer_wf hexec (loadMeasured_memOk hm s.chn.prev.epoch c k (a, b))
      ⟨rfl, fun _ => ⟨pair_loadMeasured hm s.chn.prev.epoch hlo hhi hlo' hhi', rfl⟩, fun h => absurd hmeets h⟩
  · rw [if_neg hmeets] at hexec
    exact completes_answer_wf hexec hm ⟨rfl, fun h => absurd h hmeets, fun _ => rfl⟩

variable (hmeasured : s.cal.measured = true) (hf : s.chn.cur.kind = .inject true [c]) (hdc : s.chn.cur.dcause = 0) (hseg : s.chn.seg ≠ 0)
  (htook : s.cal.took.map (·.epoch) ≠ some s.chn.cur.epoch)
  (hscale : ∀ j, j < 2 → scaleError [chargeSum s s.chn.cur.epoch c j 0, chargeSum s s.chn.cur.epoch c j 1]
    (s.mem.le (scaleRam + 2 * (2 * c + j)) 2) ≤ 2048)

include hc hmeasured hf hdc hseg htook hscale

/-- The first results of a verify frame (05 R123). -/
theorem completes_firstVerify (htries : s.cal.tries = []) (hverifies : s.cal.verifies < 2) :
    Completes (.calInjectionResult [{ chain := c, slot := k, pc := a, ps := b }] []) s (fun t => t.cal.verifies = s.cal.verifies + 1 ∧
      ((∀ j, 2 ≤ j → j ≤ 6 → j ≠ k → (pairError s s.chn.cur.epoch c j (s.pair c j)).1 ≤ (pairError s s.chn.cur.epoch c j (s.pair c j)).2) →
        (pairError s s.chn.cur.epoch c k (s.pair c k)).1 ≤ (pairError s s.chn.cur.epoch c k (s.pair c k)).2 →
        ({ t with cal.took := s.cal.took, cal.verifies := s.cal.verifies } : State) = s) ∧
      ((∀ j, 2 ≤ j → j ≤ 6 → j ≠ k → (pairError s s.chn.cur.epoch c j (s.pair c j)).1 ≤ (pairError s s.chn.cur.epoch c j (s.pair c j)).2) →
        ¬(pairError s s.chn.cur.epoch c k (s.pair c k)).1 ≤ (pairError s s.chn.cur.epoch c k (s.pair c k)).2 →
        (pairError s s.chn.cur.epoch c k (a, b)).1 ≤ (pairError s s.chn.cur.epoch c k (a, b)).2 → t.pair c k = (a, b) ∧
        t.cal.tries = [{ chain := c, slot := k, attempts := 1, best := s.pair c k, err := (pairError s s.chn.cur.epoch c k (s.pair c k)).1 }] ∧
        t.cal.calfail = s.cal.calfail)) := by
  have hexec := exec_calInjectionResult hfw hkind [{ chain := c, slot := k, pc := a, ps := b }] []
  have hframe := resultFrame_verify hkind hphase hmeasured hf hdc hseg htook
  have hcount := takeCalResults_verifies [{ chain := c, slot := k, pc := a, ps := b }] [] hframe hf
  have hmin : min 3 (s.cal.verifies + 1) = s.cal.verifies + 1 := by omega
  have hwithin := takeCalResults_within (a := a) (b := b) hm hframe hf hc hk hk6 hscale
  have hagain := takeCalResults_again (a := a) (b := b) hm hframe hf hc hk hk6 hscale
  generalize takeCalResults [{ chain := c, slot := k, pc := a, ps := b }] [] s = u at hexec hcount hwithin hagain
  refine completes_answer hexec ⟨hcount.trans hmin, fun hothers hmeets => ?_, fun hothers hmiss hmeets => ?_⟩
  · have hu := hwithin hothers (fun t ht => absurd (htries ▸ ht) List.not_mem_nil) hmeets
    have hsame : ({ s with cal.tries := [] } : State) = s := by rw [← htries]
    rw [hu]
    dsimp only [beginVerify]
    rw [Memory.canon_of_wf _ hm]
    exact hsame
  · have hu := hagain hothers htries hverifies hmiss hmeets
    have hpair := pair_loadMeasured (s := { beginVerify s.chn.cur.epoch s with
      cal.tries := [{ chain := c, slot := k, attempts := 1, best := s.pair c k, err := (pairError s s.chn.cur.epoch c k (s.pair c k)).1 }]
      cal.calfail := s.cal.calfail
      cal.runFail := s.cal.runFail }) (c := c) (k := k) (p := (a, b)) hm s.chn.cur.epoch hlo hhi hlo' hhi'
    rw [← hu] at hpair
    have hwf : u.mem.wf = true := by
      rw [hu]
      exact loadMeasured_memOk hm _ _ _ _
    rw [Memory.canon_of_wf _ hwf]
    refine ⟨hpair, ?_, ?_⟩
    · rw [hu]
      rfl
    · rw [hu]
      rfl

/-- The results of a verify frame after two failures (05 R123). -/
theorem completes_thirdVerify {err : Nat} (htries : s.cal.tries = [{ chain := c, slot := k, attempts := 2, best := (a, b), err := err }]) :
    Completes (.calInjectionResult [{ chain := c, slot := k, pc := a, ps := b }] []) s (fun t =>
      ((∀ j, 2 ≤ j → j ≤ 6 → j ≠ k → (pairError s s.chn.cur.epoch c j (s.pair c j)).1 ≤ (pairError s s.chn.cur.epoch c j (s.pair c j)).2) →
        (pairError s s.chn.cur.epoch c k (s.pair c k)).1 ≤ (pairError s s.chn.cur.epoch c k (s.pair c k)).2 →
        ({ t with cal.took := s.cal.took, cal.verifies := s.cal.verifies } : State) = { s with cal.tries := [] }) ∧
      ((∀ j, 2 ≤ j → j ≤ 6 → j ≠ k → (pairError s s.chn.cur.epoch c j (s.pair c j)).1 ≤ (pairError s s.chn.cur.epoch c j (s.pair c j)).2) →
        ¬(pairError s s.chn.cur.epoch c k (s.pair c k)).1 ≤ (pairError s s.chn.cur.epoch c k (s.pair c k)).2 →
        err ≤ (pairError s s.chn.cur.epoch c k (s.pair c k)).1 → t.pair c k = (a, b) ∧ t.cal.tries = [] ∧
        t.cal.calfail = min (s.cal.calfail + 1) 255)) := by
  have hexec := exec_calInjectionResult hfw hkind [{ chain := c, slot := k, pc := a, ps := b }] []
  have hframe := resultFrame_verify hkind hphase hmeasured hf hdc hseg htook
  have hwithin := takeCalResults_within (a := a) (b := b) hm hframe hf hc hk hk6 hscale
  have hbest := takeCalResults_best (a := a) (b := b) (p := (a, b)) (err := err) hm hframe hf hc hk hk6 hscale
  generalize takeCalResults [{ chain := c, slot := k, pc := a, ps := b }] [] s = u at hexec hwithin hbest
  refine completes_answer hexec ⟨fun hothers hmeets => ?_, fun hothers hmiss herr => ?_⟩
  · have hu := hwithin hothers (fun t ht => by rw [htries] at ht; rw [List.mem_singleton.1 ht]; exact ⟨rfl, rfl⟩) hmeets
    rw [hu]
    dsimp only [beginVerify]
    rw [Memory.canon_of_wf _ hm]
  · have hu := hbest hothers htries hmiss herr
    have hpair := pair_loadMeasured (s := { beginVerify s.chn.cur.epoch s with
      cal.tries := [], cal.calfail := cnt 8 s.cal.calfail 1, cal.runFail := s.cal.runFail + 1 }) (c := c) (k := k) (p := (a, b)) hm
      s.chn.cur.epoch hlo hhi hlo' hhi'
    rw [← hu] at hpair
    have hwf : u.mem.wf = true := by
      rw [hu]
      exact loadMeasured_memOk hm _ _ _ _
    rw [Memory.canon_of_wf _ hwf]
    refine ⟨hpair, ?_, ?_⟩
    · rw [hu]
      rfl
    · rw [hu]
      rfl

end Injection

end Sys2Proof.Machine

open Sys2Proof Sys2Proof.Machine

/-- Settles O47: of a verify frame's slots one alone is out of its tolerance, so the rest of the results change nothing. -/
theorem calibrationsAndLineTestsRun : Obligations.CalibrationsAndLineTestsRun := by
  unfold Obligations.CalibrationsAndLineTestsRun
  intro v c k i pin a b s hm
  refine ⟨fun hcore hafe => ⟨?_, ?_, ?_, ?_, ?_, ?_, ?_⟩, fun hfw hkind hphase hc hk hk6 hlo hhi hlo' hhi' => ⟨?_, ?_⟩, ?_, fun hleft => ⟨?_, ?_, ?_, ?_⟩⟩
  · intro hv
    have h0 : bit v.toNat 0 = true := bit_of_mod (w := 3) hv (by norm_num)
    have h2 : bit v.toNat 2 = false := bit_of_mod (w := 3) hv (by norm_num)
    rw [exec_ltestStart v hm hcore hafe, ltestWrite, h0, h2]
    cases hp : s.elec.ltPending <;> cases hl : s.elec.ltLeft == 0 <;> simp_all [State.ltBusy]
  · intro hv
    have h0 : bit v.toNat 0 = false := bit_of_mod (w := 3) hv (by norm_num)
    have h2 : bit v.toNat 2 = true := bit_of_mod (w := 3) hv (by norm_num)
    rw [exec_ltestStart v hm hcore hafe, ltestWrite, h0, h2]
    simp
  · intro hv hkind hfull hgroup
    exact (calStart_answer v hm hcore hafe).trans (congrArg _ (calWrite_full (bit_of_mod (w := 4) hv (by norm_num))
      (bit_of_mod (w := 4) hv (by norm_num)) (calBusy_iff.2 ⟨hkind, hfull, hgroup⟩)))
  · intro hv hbusy
    have hbusy : s.calBusy = true := by
      rw [← Bool.not_eq_false, calBusy_iff]
      tauto
    exact (calStart_answer v hm hcore hafe).trans (congrArg _ (calWrite_busy (bit_of_mod (w := 4) hv (by norm_num)) hbusy))
  · intro hv hkind hfull hgroup
    exact (calStart_answer v hm hcore hafe).trans (congrArg _ (calWrite_group (bit_of_mod (w := 4) hv (by norm_num))
      (bit_of_mod (w := 4) hv (by norm_num)) (bit_of_mod (w := 4) hv (by norm_num)) (calBusy_iff.2 ⟨hkind, hfull, hgroup⟩)))
  · intro hv
    exact (calStart_answer v hm hcore hafe).trans (congrArg _ (calWrite_clear (bit_of_mod (w := 4) hv (by norm_num))
      (bit_of_mod (w := 4) hv (by norm_num)) (bit_of_mod (w := 4) hv (by norm_num))))
  · exact completes_trimRestore hm hcore hafe
  · intro hmeasured hf hdc
    exact completes_injection hm hfw hkind hphase hk hk6 hlo hhi hlo' hhi' hmeasured hf hdc
  · intro hmeasured hf hdc hseg htook hscale
    exact ⟨fun htries hverifies => completes_firstVerify hm hfw hkind hphase hc hk hk6 hlo hhi hlo' hhi' hmeasured hf hdc hseg htook hscale htries hverifies,
      fun err htries => completes_thirdVerify hm hfw hkind hphase hc hk hk6 hlo hhi hlo' hhi' hmeasured hf hdc hseg htook hscale htries⟩
  · intro hkind hdc hphase hc hs hi hkp hk5
    obtain ⟨t, ht, hmem⟩ := completes_trimSearchMeasure hm rfl hkind hdc hphase
    refine ⟨t, ht, ?_⟩
    have hcode := leI_trimSearch hm s.chn.prev.epoch (s.params s.chn.prev.epoch) hc hi
    have hky : 5 * c + (s.params s.chn.prev.epoch).kp - 2 = 5 * c + k := by omega
    rw [← hmem, hky, clampI_eq (by norm_num)] at hcode
    exact hcode
  · intro hcodes
    exact completes_answer_wf (exec_leakage_source hleft hcodes pin) hm ⟨rfl, rfl⟩
  · intro hcodes
    exact completes_answer_wf (exec_leakage_sink hleft hcodes pin) hm rfl
  · intro hcodes
    exact completes_answer_wf (exec_coupling hleft hcodes) hm rfl
  · intro hcodes _ hlen
    obtain ⟨t, ht, hdone, hnil, hcode⟩ := completes_selfPhase hm hleft hlen
    refine ⟨t, ht, hdone, hnil, fun x hx => ?_⟩
    rw [hcode x hx, assigned, hcodes]
    refine if_congr Iff.rfl rfl ?_
    by_cases hxp : x = pin
    · simp [hxp, assoc]
    · simp [hxp, assoc, Ne.symm hxp]

end

section
/-! Frames on the ring (07 R186 to R200): what a port takes of a frame, how it acknowledges, and what it sends. -/

namespace Sys2Proof.Machine

/-! ### Blocks that a port hears -/

theorem hearBlocks_eq (bs : List LinkBlock) (q : PortSt) : ∃ n w l r x, (hearBlocks q bs).1 = { q with
    rxLane := n, win := w, lane := l, rscr := r, rxPos := x } := by
  induction bs generalizing q with
  | nil => exact ⟨_, _, _, _, _, rfl⟩
  | cons b bs ih =>
    obtain ⟨n, w, l, r, x, h⟩ := hearBlock_eq q b
    obtain ⟨n', w', l', r', x', h'⟩ := ih (hearBlock q b).1
    rw [hearBlocks, h', h]
    exact ⟨_, _, _, _, _, rfl⟩

theorem setPort_setPort (s : State) (p : Port) (f g : PortSt → PortSt) : (s.setPort p f).setPort p g = s.setPort p fun q => g (f q) := by
  cases p <;> rfl

theorem exec_crilaFrameReceive {s : State} (hring : s.onRing = true) {p : Port} (hup : (s.port p).state = 2) (f : CFrame) (bs : List LinkBlock) :
    ∃ n w l r x, exec (.crilaFrameReceive p f bs false) s = answer s (receiveFrame p f (wireOk f (hearBlocks (s.port p) bs).2)
      (s.setPort p fun q => { q with rxLane := n, win := w, lane := l, rscr := r, rxPos := x })) := by
  have hexec : exec (.crilaFrameReceive p f bs false) s = execCrilaFrameReceive p f bs false s := rfl
  obtain ⟨n, w, l, r, x, h⟩ := hearBlocks_eq bs (s.port p)
  refine ⟨n, w, l, r, x, ?_⟩
  have hset : s.setPort p (fun _ => (hearBlocks (s.port p) bs).1) =
      s.setPort p fun q => { q with rxLane := n, win := w, lane := l, rscr := r, rxPos := x } := by
    rw [h]
    cases p <;> rfl
  rw [hexec, execCrilaFrameReceive, if_pos (by rw [hring, hup]; rfl)]
  dsimp only
  rw [if_neg Bool.false_ne_true, Bool.not_false, Bool.and_true, hset]

/-- A frame in order is taken; the port waits for the next one and owes no NAK (07 R194). -/
theorem receiveFrame_inOrder {s : State} {p : Port} {f : CFrame} (hup : (s.port p).state = 2) (hseq : f.seq = ((s.port p).rxSeq + 1) % 4096) :
    receiveFrame p f true s = takeFrame p f (s.setPort p fun x => { x with rxSeq := f.seq, nakDue := false, nakSent := false }) := by
  unfold receiveFrame
  dsimp only
  rw [if_neg (not_not.2 hup), if_neg (by decide), if_pos hseq, ← hseq]

/-- The frame that came last is dropped when it comes again (07 R194). -/
theorem receiveFrame_repeated {s : State} {p : Port} {f : CFrame} (hup : (s.port p).state = 2) (hseq : f.seq = (s.port p).rxSeq % 4096) :
    receiveFrame p f true s = s := by
  unfold receiveFrame
  dsimp only
  rw [if_neg (not_not.2 hup), if_neg (by decide), if_neg (by omega), if_pos (by omega)]

/-- A bad frame is counted at its port. -/
def countCrc (p : Port) (s : State) : State :=
  match p with
  | .up => { s with crl.crcUp := cnt 16 s.crl.crcUp 1 }
  | .dn => { s with crl.crcDn := cnt 16 s.crl.crcDn 1 }

theorem receiveFrame_bad {s : State} {p : Port} {f : CFrame} (hup : (s.port p).state = 2) : receiveFrame p f false s =
    if (s.port p).nakSent then countCrc p s else (countCrc p s).setPort p fun x => { x with nakDue := true, nakSent := true } := by
  unfold receiveFrame
  dsimp only
  rw [if_neg (not_not.2 hup), if_pos (by decide)]
  cases p <;> rfl

/-! ### The way of a frame -/

/-- A frame that is not broadcast goes to the device it names, or on. -/
theorem routeOf_named {f : CFrame} {s : State} (hmine : s.isRoot = true ∨ s.crl.enrolled = true) (hstranger : forStranger f.msg = false)
    (hbcast : f.bcast = false) : routeOf f s = (f.dst == s.tile, !(f.dst == s.tile)) := by
  have hmember : (s.isMember && !s.crl.enrolled) = false := by
    rcases hmine with h | h
    · have hrole : s.isMember = false := by
        simp only [State.isRoot, State.isMember, beq_iff_eq, beq_eq_false_iff_ne] at *
        rw [h]
        decide
      rw [hrole, Bool.false_and]
    · rw [h, Bool.not_true, Bool.and_false]
  unfold routeOf
  dsimp only
  rw [hmember, if_neg Bool.false_ne_true, hbcast, if_neg Bool.false_ne_true, hstranger, Bool.false_and, Bool.not_false, Bool.and_true]
  split
  next h => exact absurd (h ▸ hstranger) (by decide)
  next => rw [Bool.and_false, Bool.false_or]

/-- A frame for this device that it has not accepted is taken, and holds its buffer (07 R194, R196). -/
theorem acceptFrame_new {p : Port} {f : CFrame} {s : State} (hnew : seen f s.crl.accepted = false) : acceptFrame p f s =
    let t := ({ s with crl.accepted := noteSeen f s.crl.accepted, crl.inbox := s.crl.inbox ++ [f] }).setPort p fun q => { q with bufs := q.bufs ++ [f] }
    if wholeMessage f (noteSeen f s.crl.accepted) then raise (if f.cls = 2 then 23 else 22) t else t := by
  have hacc : ∀ (u : State) (g : PortSt → PortSt), (u.setPort p g).crl.accepted = u.crl.accepted := by
    intro u g
    cases p <;> rfl
  unfold acceptFrame
  rw [if_neg (by rw [hnew]; exact Bool.false_ne_true)]
  dsimp only
  rw [hacc]

theorem acceptFrame_seen {p : Port} {f : CFrame} {s : State} (hseen : seen f s.crl.accepted = true) : acceptFrame p f s = s := by
  unfold acceptFrame
  rw [if_pos hseen]

/-- A first frame of a longer message does not make it whole (14 R391). -/
theorem wholeMessage_first {f : CFrame} (h : 1 < f.parts) : wholeMessage f (noteSeen f []) = false := by
  have hnote : noteSeen f [] = [(f.src, 1024 * f.num + f.part)] := by
    rw [noteSeen, if_neg (by omega)]
    rfl
  rw [wholeMessage, hnote, Bool.or_eq_false_iff]
  refine ⟨decide_eq_false (by omega), ?_⟩
  rw [← Bool.not_eq_true, List.all_eq_true]
  intro hall
  have h0 := hall 0 (List.mem_range.2 (by omega))
  have h1 := hall 1 (List.mem_range.2 h)
  simp at h0 h1
  omega

theorem wholeMessage_single {f : CFrame} (h : f.parts ≤ 1) (l : List (Nat × Nat)) : wholeMessage f l = true := by
  rw [wholeMessage, decide_eq_true h, Bool.true_or]

theorem enqueueOn_cls0 {f : CFrame} (h : f.cls = 0) (p : Port) (s : State) : enqueueOn p f s = s.setPort p fun q => { q with q0 := q.q0 ++ [f] } := by
  rw [enqueueOn, h]
  rfl

/-! ### Frames received -/

/-- A port that has taken a frame in order. -/
def PortSt.inOrder (q : PortSt) (n : Nat) (w : List (List Nat)) (l : Nat) (r : List (BitVec 58)) (x seq : Nat) : PortSt :=
  { q with rxLane := n, win := w, lane := l, rscr := r, rxPos := x, rxSeq := seq, nakDue := false, nakSent := false }

section Receive

variable {s : State} (hm : s.memOk) (hring : s.onRing = true) {p : Port} (hup : (s.port p).state = 2) {f : CFrame} {bs : List LinkBlock}
  (hwhole : wireOk f (hearBlocks (s.port p) bs).2 = true) (hseq : f.seq = ((s.port p).rxSeq + 1) % 4096)
  (hmine : s.isRoot = true ∨ s.crl.enrolled = true) (hstranger : forStranger f.msg = false) (hbcast : f.bcast = false)

include hring hup hwhole in
theorem exec_whole : ∃ n w l r x, exec (.crilaFrameReceive p f bs false) s = answer s (receiveFrame p f true
    (s.setPort p fun q => { q with rxLane := n, win := w, lane := l, rscr := r, rxPos := x })) := by
  obtain ⟨n, w, l, r, x, h⟩ := exec_crilaFrameReceive hring hup f bs
  rw [hwhole] at h
  exact ⟨n, w, l, r, x, h⟩

include hring hup hwhole hseq in
theorem exec_inOrder : ∃ n w l r x, exec (.crilaFrameReceive p f bs false) s =
    answer s (takeFrame p f (s.setPort p fun q => q.inOrder n w l r x f.seq)) := by
  obtain ⟨n, w, l, r, x, h⟩ := exec_whole hring hup hwhole
  refine ⟨n, w, l, r, x, ?_⟩
  rw [h, receiveFrame_inOrder (by rw [port_setPort]; exact hup) (by rw [port_setPort]; exact hseq), setPort_setPort]
  rfl

include hmine hstranger hbcast in
theorem takeFrame_named (g : PortSt → PortSt) : takeFrame p f (s.setPort p g) =
    if f.dst == s.tile then acceptFrame p f (s.setPort p g) else forwardFrame f (s.setPort p g) := by
  have hroute : routeOf f (s.setPort p g) = (f.dst == s.tile, !(f.dst == s.tile)) := by
    rw [routeOf_named (s := s.setPort p g) (by cases p <;> exact hmine) hstranger hbcast]
    cases p <;> rfl
  rw [takeFrame, hroute]
  cases f.dst == s.tile <;> rfl

include hm hring hup hwhole hseq hmine hstranger hbcast

/-- A frame for this device is taken and holds a receive buffer; a whole message raises its source (07 R194, R196, 14 R391). -/
theorem completes_frame_taken (hdst : f.dst = s.tile) (hnew : f.parts ≤ 1 ∨ (f.src, 1024 * f.num + f.part) ∉ s.crl.accepted) (hcore : s.clk.core = true) :
    Completes (.crilaFrameReceive p f bs false) s (fun t => (t.port p).rxSeq = f.seq ∧ (t.port p).nakDue = false ∧
      (t.port p).bufs = (s.port p).bufs ++ [f] ∧ t.crl.inbox = s.crl.inbox ++ [f] ∧ t.crl.ttlDrop = s.crl.ttlDrop ∧
      (f.parts ≤ 1 → s.icu.src.length = 48 → t.srcAt (if f.cls = 2 then 23 else 22) = ((s.srcAt (if f.cls = 2 then 23 else 22)).arrival).1) ∧
      (1 < f.parts → s.crl.accepted = [] → t.icu = s.icu)) := by
  obtain ⟨n, w, l, r, x, hexec⟩ := exec_inOrder hring hup hwhole hseq
  rw [takeFrame_named hmine hstranger hbcast, if_pos (by rw [hdst]; exact beq_self_eq_true _)] at hexec
  have hseen : seen f s.crl.accepted = false := by
    rw [seen, Bool.and_eq_false_iff]
    rcases hnew with h | h
    · exact .inl (decide_eq_false (by omega))
    · exact .inr (by simpa using h)
  rw [acceptFrame_new (by cases p <;> exact hseen)] at hexec
  dsimp only at hexec
  generalize hsrc : (if f.cls = 2 then 23 else 22) = src at *
  have hne : src ≠ 47 ∧ src < 48 := by
    rw [← hsrc]
    split <;> decide
  by_cases hall : wholeMessage f (noteSeen f s.crl.accepted) = true
  · rw [if_pos (by cases p <;> exact hall)] at hexec
    obtain ⟨i, k, hraise, harr⟩ := raise_line hne.1 (({ s.setPort p (fun q => q.inOrder n w l r x f.seq) with
      crl.accepted := noteSeen f (s.setPort p (fun q => q.inOrder n w l r x f.seq)).crl.accepted
      crl.inbox := (s.setPort p (fun q => q.inOrder n w l r x f.seq)).crl.inbox ++ [f] } : State).setPort p fun q => { q with bufs := q.bufs ++ [f] })
    rw [hraise] at hexec
    have hfirst : 1 < f.parts → s.crl.accepted ≠ [] := fun h hnil => by
      rw [hnil, wholeMessage_first h] at hall
      exact Bool.false_ne_true hall
    cases p with
    | up => exact completes_answer_wf hexec hm ⟨rfl, rfl, rfl, rfl, rfl, fun _ hlen => harr hcore (by rw [← hlen] at hne; exact hne.2),
        fun h hnil => absurd hnil (hfirst h)⟩
    | dn => exact completes_answer_wf hexec hm ⟨rfl, rfl, rfl, rfl, rfl, fun _ hlen => harr hcore (by rw [← hlen] at hne; exact hne.2),
        fun h hnil => absurd hnil (hfirst h)⟩
  · rw [if_neg (by cases p <;> exact hall)] at hexec
    have hparts : ¬f.parts ≤ 1 := fun h => hall (wholeMessage_single h _)
    cases p with
    | up => exact completes_answer_wf hexec hm ⟨rfl, rfl, rfl, rfl, rfl, fun h => absurd h hparts, fun _ _ => rfl⟩
    | dn => exact completes_answer_wf hexec hm ⟨rfl, rfl, rfl, rfl, rfl, fun h => absurd h hparts, fun _ _ => rfl⟩

/-- A frame of a longer message that was accepted is not delivered again (07 R200). -/
theorem completes_frame_seen (hdst : f.dst = s.tile) (hparts : 1 < f.parts) (hold : (f.src, 1024 * f.num + f.part) ∈ s.crl.accepted) :
    Completes (.crilaFrameReceive p f bs false) s (fun t => (t.port p).rxSeq = f.seq ∧ t.crl.inbox = s.crl.inbox ∧ t.icu = s.icu) := by
  obtain ⟨n, w, l, r, x, hexec⟩ := exec_inOrder hring hup hwhole hseq
  have hseen : seen f s.crl.accepted = true := by
    rw [seen, decide_eq_true hparts, Bool.true_and]
    exact List.contains_iff_mem.2 hold
  rw [takeFrame_named hmine hstranger hbcast, if_pos (by rw [hdst]; exact beq_self_eq_true _), acceptFrame_seen (by cases p <;> exact hseen)] at hexec
  cases p <;> exact completes_answer_wf hexec hm ⟨rfl, rfl, rfl⟩

/-- A frame for another device passes on with TTL one less (07 R199, R200). -/
theorem completes_frame_forwarded (hdst : f.dst ≠ s.tile) (httl : 1 < f.ttl) {out : Port} (hout : (if f.dirn then Port.up else .dn) = out)
    (hoes : (s.port out).state = 2) (hcls : f.cls = 0) : Completes (.crilaFrameReceive p f bs false) s (fun t => (t.port p).rxSeq = f.seq ∧
      t.crl.inbox = s.crl.inbox ∧ (t.port out).q0 = (s.port out).q0 ++ [{ f with ttl := f.ttl - 1 }]) := by
  obtain ⟨n, w, l, r, x, hexec⟩ := exec_inOrder hring hup hwhole hseq
  rw [takeFrame_named hmine hstranger hbcast, if_neg (by simpa using hdst), forwardFrame, if_neg (by omega), sendFrame] at hexec
  dsimp only at hexec
  rw [hout] at hexec
  have hstate : ((s.setPort p fun q => q.inOrder n w l r x f.seq).port out).state = 2 := by
    cases p <;> cases out <;> exact hoes
  rw [if_neg (by simp [hstate]), enqueueOn_cls0 (f := { f with ttl := f.ttl - 1 }) hcls] at hexec
  cases p <;> cases out <;> exact completes_answer_wf hexec hm ⟨rfl, rfl, rfl⟩

/-- A frame whose TTL has run out is discarded and counted (07 R200). -/
theorem completes_frame_dropped (hdst : f.dst ≠ s.tile) (httl : f.ttl ≤ 1) : Completes (.crilaFrameReceive p f bs false) s (fun t =>
    (t.port p).rxSeq = f.seq ∧ t.crl.inbox = s.crl.inbox ∧ t.crl.ttlDrop = min (s.crl.ttlDrop + 1) 65535 ∧ t.crl.up.q0 = s.crl.up.q0 ∧
      t.crl.dn.q0 = s.crl.dn.q0) := by
  obtain ⟨n, w, l, r, x, hexec⟩ := exec_inOrder hring hup hwhole hseq
  rw [takeFrame_named hmine hstranger hbcast, if_neg (by simpa using hdst), forwardFrame, if_pos httl] at hexec
  cases p <;> exact completes_answer_wf hexec hm ⟨rfl, rfl, rfl, rfl, rfl⟩

end Receive

theorem mem_setPort (s : State) (p : Port) (g : PortSt → PortSt) : (s.setPort p g).mem = s.mem := by
  cases p <;> rfl

/-- A port that only heard blocks is otherwise `x`. -/
theorem completes_heard {i : Instr} {s : State} (hm : s.memOk) {p : Port} {n : Nat} {w : List (List Nat)} {l : Nat} {r : List (BitVec 58)} {y : Nat}
    {g : PortSt → PortSt} (hexec : exec i s = answer s (s.setPort p fun q => { g q with rxLane := n, win := w, lane := l, rscr := r, rxPos := y }))
    {x : PortSt} (hx : g (s.port p) = x) : Completes i s (fun t => t = s.setPort p fun _ => { x with
      rxLane := (t.port p).rxLane, win := (t.port p).win, lane := (t.port p).lane, rscr := (t.port p).rscr, rxPos := (t.port p).rxPos }) := by
  refine completes_answer_wf hexec (by rw [mem_setPort]; exact hm) ?_
  rw [← hx]
  cases p <;> rfl

/-- The bad frames counted once one more has come at a port. -/
def crcCount (p : Port) (s : State) : Nat :=
  match p with
  | .up => min (s.crl.crcUp + 1) 65535 + s.crl.crcDn
  | .dn => s.crl.crcUp + min (s.crl.crcDn + 1) 65535

/-- A bad frame is counted and a NAK owed, once until a frame is in order again (07 R192, R194). -/
theorem completes_frame_bad {s : State} (hm : s.memOk) (hring : s.onRing = true) {p : Port} (hup : (s.port p).state = 2) {f : CFrame}
    {bs : List LinkBlock} (hbad : wireOk f (hearBlocks (s.port p) bs).2 = false) : Completes (.crilaFrameReceive p f bs false) s (fun t =>
      (t.port p).rxSeq = (s.port p).rxSeq ∧ t.crl.inbox = s.crl.inbox ∧
      ((t.port p).nakDue = true ↔ (s.port p).nakDue = true ∨ (s.port p).nakSent = false) ∧ t.crl.crcUp + t.crl.crcDn = crcCount p s) := by
  obtain ⟨n, w, l, r, x, hexec⟩ := exec_crilaFrameReceive hring hup f bs
  rw [hbad, receiveFrame_bad (by rw [port_setPort]; exact hup), port_setPort] at hexec
  dsimp only at hexec
  have hport : ((countCrc p (s.setPort p fun q => { q with rxLane := n, win := w, lane := l, rscr := r, rxPos := x })).port p).rxSeq = (s.port p).rxSeq ∧
      ((countCrc p (s.setPort p fun q => { q with rxLane := n, win := w, lane := l, rscr := r, rxPos := x })).port p).nakDue = (s.port p).nakDue := by
    cases p <;> exact ⟨rfl, rfl⟩
  have hcount : (countCrc p (s.setPort p fun q => { q with rxLane := n, win := w, lane := l, rscr := r, rxPos := x })).crl.inbox = s.crl.inbox ∧
      (countCrc p (s.setPort p fun q => { q with rxLane := n, win := w, lane := l, rscr := r, rxPos := x })).mem = s.mem ∧
      (countCrc p (s.setPort p fun q => { q with rxLane := n, win := w, lane := l, rscr := r, rxPos := x })).crl.crcUp +
        (countCrc p (s.setPort p fun q => { q with rxLane := n, win := w, lane := l, rscr := r, rxPos := x })).crl.crcDn = crcCount p s := by
    cases p <;> exact ⟨rfl, rfl, rfl⟩
  obtain ⟨hinbox, hmem, hcrc⟩ := hcount
  generalize countCrc p (s.setPort p fun q => { q with rxLane := n, win := w, lane := l, rscr := r, rxPos := x }) = u at *
  have hwf : u.mem.wf = true := by
    rw [hmem]
    exact hm
  cases hsent : (s.port p).nakSent with
  | true =>
    rw [hsent, if_pos rfl] at hexec
    refine completes_answer_wf hexec hwf ⟨hport.1, hinbox, ?_, hcrc⟩
    exact (Bool.eq_iff_iff.1 hport.2).trans (by simp)
  | false =>
    rw [hsent, if_neg Bool.false_ne_true] at hexec
    have hset : (u.setPort p fun x => { x with nakDue := true, nakSent := true }).port p = { u.port p with nakDue := true, nakSent := true } :=
      port_setPort ..
    have hkeep : (u.setPort p fun x => { x with nakDue := true, nakSent := true }).crl.inbox = u.crl.inbox ∧
        (u.setPort p fun x => { x with nakDue := true, nakSent := true }).crl.crcUp = u.crl.crcUp ∧
        (u.setPort p fun x => { x with nakDue := true, nakSent := true }).crl.crcDn = u.crl.crcDn := by
      cases p <;> exact ⟨rfl, rfl, rfl⟩
    have hmem' := mem_setPort u p fun x => { x with nakDue := true, nakSent := true }
    generalize (u.setPort p fun x => { x with nakDue := true, nakSent := true }) = t at *
    refine completes_answer_wf hexec (by rw [hmem']; exact hwf) ⟨?_, hkeep.1.trans hinbox, iff_of_true (congrArg PortSt.nakDue hset) (.inr rfl), ?_⟩
    · exact (congrArg PortSt.rxSeq hset).trans hport.1
    · exact (congrArg₂ (· + ·) hkeep.2.1 hkeep.2.2).trans hcrc

/-! ### Control blocks -/

/-- A port that took an ACK and credits (07 R189, R195). -/
def PortSt.acked (q : PortSt) (ack : Nat) (cred : List Nat) : PortSt :=
  let rest := q.held.filter (fun h => !decide ((ack % 4096 + 4096 - h.1.seq) % 4096 < 2048))
  { q with held := if rest.length < q.held.length then rest.map (fun h => (h.1, 0)) else rest, again := min q.again rest.length, cred := cred }

theorem controlBlock_eq {s : State} {p : Port} (hup : (s.port p).state = 2) (ack : Nat) (nak : Bool) (cred : List Nat) :
    controlBlock p ack nak cred s = if nak && !((s.port p).acked ack cred).held.isEmpty then resendHeld p (s.setPort p fun q => q.acked ack cred)
      else s.setPort p fun q => q.acked ack cred := by
  have hport : (s.setPort p fun q => q.acked ack cred).port p = (s.port p).acked ack cred := port_setPort ..
  have hacked : (s.setPort p fun x =>
      { x with
        held := if decide ((x.held.filter (fun h => !decide ((ack % 4096 + 4096 - h.1.seq) % 4096 < 2048))).length < x.held.length) = true then
            (x.held.filter (fun h => !decide ((ack % 4096 + 4096 - h.1.seq) % 4096 < 2048))).map (fun h => (h.1, 0))
          else x.held.filter (fun h => !decide ((ack % 4096 + 4096 - h.1.seq) % 4096 < 2048))
        again := Nat.min x.again (x.held.filter (fun h => !decide ((ack % 4096 + 4096 - h.1.seq) % 4096 < 2048))).length
        cred := cred }) = s.setPort p fun q => q.acked ack cred := by
    simp only [decide_eq_true_eq]
    rfl
  unfold controlBlock
  rw [if_neg (not_not.2 hup)]
  dsimp only
  rw [hacked, hport]

theorem exec_controlBlockReceive {s : State} (hring : s.onRing = true) {p : Port} (hup : (s.port p).state = 2) {k : BlockKind}
    (hk : k = .cb0 ∨ k = .cb1) {v : Nat} (hv : v < 2 ^ 56) : ∃ n w l r x,
    exec (.controlBlockReceive p (lineBlock (endSlot (s.port p)) (controlOf k v))) s = answer s (controlBlock p (fld v 0 12) (bit v 12)
      [Nat.min (fld v 16 5) 16, Nat.min (fld v 21 5) 16, Nat.min (fld v 26 5) 16]
      (s.setPort p fun q => { q with rxLane := n, win := w, lane := l, rscr := r, rxPos := x })) := by
  have hexec : exec (.controlBlockReceive p (lineBlock (endSlot (s.port p)) (controlOf k v))) s =
    execControlBlockReceive p (lineBlock (endSlot (s.port p)) (controlOf k v)) s := rfl
  obtain ⟨_, _, _, _, _, hslot⟩ := endSlot_eq (s.port p)
  obtain ⟨n, w, l, r, x, hq⟩ := hearBlock_eq (endSlot (s.port p)) (lineBlock (endSlot (s.port p)) (controlOf k v))
  have hblock := hearBlock_lineBlock (endSlot (s.port p)) (controlOf_bits_lt k v)
  refine ⟨n, w, l, r, x, ?_⟩
  have hset : s.setPort p (fun _ => (hearBlock (endSlot (s.port p)) (lineBlock (endSlot (s.port p)) (controlOf k v))).1) =
      s.setPort p fun q => { q with rxLane := n, win := w, lane := l, rscr := r, rxPos := x } := by
    rw [hq, hslot]
    cases p <;> rfl
  rw [hexec]
  unfold execControlBlockReceive
  rw [if_neg (by simp [hring, hup])]
  dsimp only
  rw [hblock, readBlock_controlOf k hv, hset]
  rcases hk with rfl | rfl <;> rfl

/-- The held frames that an ACK leaves (07 R189), those sent before counted afresh once it covered one. -/
def ackLeft (v : Nat) (held : List (CFrame × Nat)) : List (CFrame × Nat) :=
  let left := held.filter (fun h => 2048 ≤ (v % 4096 + 4096 - h.1.seq) % 4096)
  if left.length < held.length then left.map (fun h => (h.1, 0)) else left

theorem acked_eq (q : PortSt) (v : Nat) (cred : List Nat) : q.acked (fld v 0 12) cred = { q with
    held := ackLeft v q.held, again := min q.again (ackLeft v q.held).length, cred := cred } := by
  have hack : fld v 0 12 % 4096 = v % 4096 := by
    rw [fld, pow_zero, Nat.div_one]
    omega
  have hfilter : q.held.filter (fun h => !decide ((fld v 0 12 % 4096 + 4096 - h.1.seq) % 4096 < 2048)) =
      q.held.filter (fun h => decide (2048 ≤ (v % 4096 + 4096 - h.1.seq) % 4096)) := by
    refine List.filter_congr fun h _ => ?_
    rw [hack, ← decide_not, decide_eq_decide]
    omega
  have hlen : (ackLeft v q.held).length = (q.held.filter (fun h => decide (2048 ≤ (v % 4096 + 4096 - h.1.seq) % 4096))).length := by
    rw [ackLeft]
    split
    · rw [List.length_map]
    · rfl
  rw [PortSt.acked, hfilter, hlen]
  rfl

section Control

variable {s : State} (hm : s.memOk) (hring : s.onRing = true) {p : Port} (hup : (s.port p).state = 2) {k : BlockKind} (hk : k = .cb0 ∨ k = .cb1)
  {v : Nat} (hv : v < 2 ^ 56)

include hring hup hk hv in
theorem exec_control : ∃ n w l r x, exec (.controlBlockReceive p (lineBlock (endSlot (s.port p)) (controlOf k v))) s = answer s
    (let t := s.setPort p fun q => { q with
        held := ackLeft v q.held, again := min q.again (ackLeft v q.held).length
        cred := [min (v / 2 ^ 16 % 32) 16, min (v / 2 ^ 21 % 32) 16, min (v / 2 ^ 26 % 32) 16]
        rxLane := n, win := w, lane := l, rscr := r, rxPos := x }
      if v.testBit 12 && !(ackLeft v (s.port p).held).isEmpty then resendHeld p t else t) := by
  obtain ⟨n, w, l, r, x, hexec⟩ := exec_controlBlockReceive hring hup hk hv
  refine ⟨n, w, l, r, x, ?_⟩
  rw [hexec, controlBlock_eq (by rw [port_setPort]; exact hup), port_setPort, acked_eq, setPort_setPort, bit_eq_testBit]
  have hset : (s.setPort p fun q => PortSt.acked { q with rxLane := n, win := w, lane := l, rscr := r, rxPos := x } (fld v 0 12)
      [Nat.min (fld v 16 5) 16, Nat.min (fld v 21 5) 16, Nat.min (fld v 26 5) 16]) = s.setPort p fun q => { q with
        held := ackLeft v q.held, again := min q.again (ackLeft v q.held).length
        cred := [min (v / 2 ^ 16 % 32) 16, min (v / 2 ^ 21 % 32) 16, min (v / 2 ^ 26 % 32) 16]
        rxLane := n, win := w, lane := l, rscr := r, rxPos := x } := by
    congr 1
    funext q
    rw [acked_eq]
    rfl
  rw [hset]

end Control

/-! ### Frames sent again -/

/-- The frames of a port that were sent again, counted. -/
def retried (p : Port) (s : State) : Nat :=
  match p with
  | .up => s.crl.retryUp
  | .dn => s.crl.retryDn

/-- A held frame sent once more. -/
def sentOnce (h : CFrame × Nat) : CFrame × Nat := (h.1, h.2 + 1)

/-- The first `j` of `n` held frames have been sent again from a port in service (07 R194). -/
structure Resent (p : Port) (j : Nat) (s t : State) : Prop where
  state : (t.port p).state = 2
  held : (t.port p).held = ((s.port p).held.take j).map sentOnce ++ (s.port p).held.drop j
  again : (t.port p).again = (s.port p).held.length - j
  cred : ∀ i, i < 3 → (s.port p).held.length - j ≤ (t.port p).cred.getD i 0
  retry : retried p t = if j = 0 then retried p s else min (retried p s + j) 65535
  ring : t.onRing = s.onRing

theorem resendHeld_iterate (p : Port) (s : State) : resendHeld p s =
    (sendAgain p)^[(s.port p).held.length] (s.setPort p fun x => { x with again := (s.port p).held.length }) := by
  rw [resendHeld, List.foldl_const, List.length_range]

theorem sub_one_le_getD_modify (l : List Nat) (c i : Nat) : l.getD i 0 - 1 ≤ (l.modify c (· - 1)).getD i 0 := by
  rw [List.getD_eq_getElem?_getD, List.getD_eq_getElem?_getD, List.getElem?_modify]
  cases l[i]? with
  | none => simp
  | some x =>
    by_cases h : c = i
    · simp [h]
    · simp [h]

/-- The oldest held frame that is still to be sent again, once it is. -/
def PortSt.sentAgain (q : PortSt) (h : CFrame × Nat) : PortSt :=
  { q with held := q.held.set (q.held.length - q.again) (sentOnce h), again := q.again - 1, cred := q.cred.modify (Nat.min h.1.cls 2) (· - 1) }

theorem sendAgain_eq {p : Port} {s : State} {h : CFrame × Nat} (hheld : (s.port p).held[(s.port p).held.length - (s.port p).again]? = some h)
    (hagain : (s.port p).again ≠ 0) (hcred : hasCredit (s.port p) h.1 = true) : sendAgain p s =
      if 8 ≤ h.2 + 1 then portDown p (countRetry p 1 (s.setPort p fun x => x.sentAgain h))
      else sendHalf p (some h.1) (countRetry p 1 (s.setPort p fun x => x.sentAgain h)) := by
  have hset : (s.setPort p fun x => { x with
      held := x.held.set ((s.port p).held.length - (s.port p).again) (h.1, h.2 + 1)
      again := x.again - 1
      cred := x.cred.modify (Nat.min h.1.cls 2) (· - 1) }) = s.setPort p fun x => x.sentAgain h := by
    cases p <;> rfl
  unfold sendAgain
  dsimp only
  rw [hheld]
  dsimp only
  rw [if_neg (by simp [hagain, hcred]), hset]

/-- A port from which nothing is held sends nothing again. -/
theorem sendAgain_empty {p : Port} {s : State} (h : (s.port p).held = []) : sendAgain p s = s := by
  unfold sendAgain
  dsimp only
  rw [h]
  rfl

theorem port_sendHalf (p : Port) (f : Option CFrame) (s : State) : ∃ w r m k, (sendHalf p f s).port p = { s.port p with
    wire := w, scr := r, half := !(s.port p).half, mark := m, nakDue := k } := by
  rw [sendHalf, port_setPort]
  exact ⟨_, _, _, _, rfl⟩

theorem port_countRetry (p : Port) (n : Nat) (s : State) : (countRetry p n s).port p = s.port p := by
  cases p <;> rfl

theorem retried_sent (p : Port) (f : Option CFrame) (g : PortSt → PortSt) (s : State) :
    retried p (sendHalf p f (countRetry p 1 (s.setPort p g))) = min (retried p s + 1) 65535 := by
  cases p <;> rfl

theorem Resent.start {p : Port} {s : State} (hup : (s.port p).state = 2) (hcred : ∀ i, i < 3 → (s.port p).held.length ≤ (s.port p).cred.getD i 0) :
    Resent p 0 s (s.setPort p fun x => { x with again := (s.port p).held.length }) := by
  refine ⟨?_, ?_, ?_, fun i hi => ?_, ?_, ?_⟩
  · rw [port_setPort]
    exact hup
  · rw [port_setPort, List.take_zero, List.drop_zero]
    rfl
  · rw [port_setPort]
    rfl
  · rw [port_setPort]
    exact hcred i hi
  · rw [if_pos rfl]
    cases p <;> rfl
  · cases p <;> rfl

section Again

variable {p : Port} {j : Nat} {s t : State} (h : Resent p j s t) (hj : j < (s.port p).held.length)

include h hj

/-- The next frame to be sent again is the oldest that was not, and has a credit. -/
theorem Resent.next : (t.port p).held[(t.port p).held.length - (t.port p).again]? = some ((s.port p).held[j]) ∧ (t.port p).again ≠ 0 ∧
    hasCredit (t.port p) ((s.port p).held[j]).1 = true := by
  have hlen : (t.port p).held.length = (s.port p).held.length := by
    rw [h.held, List.length_append, List.length_map, List.length_take, List.length_drop]
    omega
  have hindex : (t.port p).held.length - (t.port p).again = j := by
    rw [hlen, h.again]
    omega
  refine ⟨?_, ?_, ?_⟩
  · rw [hindex, h.held, List.getElem?_append_right (by rw [List.length_map, List.length_take]; omega), List.length_map, List.length_take,
      Nat.min_eq_left hj.le, Nat.sub_self, List.getElem?_drop, Nat.add_zero, List.getElem?_eq_getElem hj]
  · rw [h.again]
    omega
  · have hclass : Nat.min ((s.port p).held[j]).1.cls 2 < 3 := Nat.lt_succ_of_le (Nat.min_le_right _ _)
    have hcred := h.cred _ hclass
    rw [hasCredit, decide_eq_true_eq]
    omega

/-- One more frame goes out again while it has been sent fewer than seven times. -/
theorem Resent.step (hfew : ((s.port p).held[j]).2 < 7) : Resent p (j + 1) s (sendAgain p t) := by
  obtain ⟨hheld, hagain, hcred⟩ := h.next hj
  have hlen : (t.port p).held.length = (s.port p).held.length := by
    rw [h.held, List.length_append, List.length_map, List.length_take, List.length_drop]
    omega
  have hindex : (t.port p).held.length - (t.port p).again = j := by
    rw [hlen, h.again]
    omega
  rw [sendAgain_eq hheld hagain hcred, if_neg (by omega)]
  obtain ⟨w, r, m, k, hport⟩ := port_sendHalf p (some ((s.port p).held[j]).1) (countRetry p 1 (t.setPort p fun x => x.sentAgain ((s.port p).held[j])))
  rw [port_countRetry, port_setPort, PortSt.sentAgain, hindex] at hport
  refine ⟨?_, ?_, ?_, fun i hi => ?_, ?_, Eq.trans ?_ h.ring⟩
  · rw [hport]
    exact h.state
  · have hset : (t.port p).held.set j (sentOnce ((s.port p).held[j])) = ((s.port p).held.take (j + 1)).map sentOnce ++ (s.port p).held.drop (j + 1) := by
      rw [h.held, List.set_append_right _ _ (by rw [List.length_map, List.length_take]; omega), List.length_map, List.length_take,
        Nat.min_eq_left hj.le, Nat.sub_self, List.drop_eq_getElem_cons hj, List.set_cons_zero, List.take_succ_eq_append_getElem hj, List.map_append,
        List.append_assoc]
      rfl
    rw [hport]
    exact hset
  · rw [hport]
    exact (congrArg (· - 1) h.again).trans (Nat.sub_sub _ _ _)
  · rw [hport]
    have hsub := sub_one_le_getD_modify (t.port p).cred (Nat.min ((s.port p).held[j]).1.cls 2) i
    have hold := h.cred i hi
    dsimp only
    omega
  · rw [retried_sent, if_neg (Nat.succ_ne_zero j), h.retry]
    split
    next hz => rw [hz]
    next => omega
  · cases p <;> rfl

end Again

/-- The first held frames go out again, each having been sent fewer than seven times. -/
theorem Resent.iterate {p : Port} {s : State} (hup : (s.port p).state = 2) (hcred : ∀ i, i < 3 → (s.port p).held.length ≤ (s.port p).cred.getD i 0)
    {j : Nat} (hj : j ≤ (s.port p).held.length) (hfew : ∀ i (hi : i < (s.port p).held.length), i < j → ((s.port p).held[i]).2 < 7) :
    Resent p j s ((sendAgain p)^[j] (s.setPort p fun x => { x with again := (s.port p).held.length })) := by
  induction j with
  | zero => exact Resent.start hup hcred
  | succ j ih =>
    rw [Function.iterate_succ_apply']
    exact (ih (by omega) fun i hi hij => hfew i hi (by omega)).step (by omega) (hfew j (by omega) (by omega))

/-- All held frames go out again (07 R194). -/
theorem resendHeld_all {p : Port} {s : State} (hup : (s.port p).state = 2) (hcred : ∀ i, i < 3 → (s.port p).held.length ≤ (s.port p).cred.getD i 0)
    (hfew : (s.port p).held.all (fun h => decide (h.2 < 7)) = true) : Resent p (s.port p).held.length s (resendHeld p s) := by
  rw [resendHeld_iterate]
  exact Resent.iterate hup hcred le_rfl fun i hi _ => of_decide_eq_true (List.all_eq_true.1 hfew _ (List.getElem_mem hi))

/-! ### A port that goes down -/

/-- What a port going down leaves as it is: the port is down and holds nothing, and no parity error is counted. -/
structure Fallen (p : Port) (s t : State) : Prop where
  state : (t.port p).state = 0
  held : (t.port p).held = []
  parity : t.icu.parCnt = s.icu.parCnt

theorem Fallen.other {p : Port} {s t : State} (h : Fallen p s t) (g : PortSt → PortSt) : Fallen p s (t.setPort (portOther p) g) := by
  refine ⟨?_, ?_, Eq.trans ?_ h.parity⟩
  · rw [portOther_ne_self]
    exact h.state
  · rw [portOther_ne_self]
    exact h.held
  · cases p <;> rfl

theorem Fallen.turned {p : Port} {s t : State} (h : Fallen p s t) (fs : List CFrame) : Fallen p s (turned p fs t) := by
  refine Fallen.other ⟨?_, ?_, Eq.trans ?_ h.parity⟩ _
  · rw [port_setPort]
    exact h.state
  · rw [port_setPort]
    exact h.held
  · cases p <;> rfl

theorem fallen_raised (p : Port) (s : State) : Fallen p s { raise 24 (countDown p (s.setPort p fun _ => (s.port p).fallen)) with
    crl.wrap := true, crl.wrapOff := false } := by
  obtain ⟨a, b, c, d, k, h⟩ := raise_eq 24 (countDown p (s.setPort p fun _ => (s.port p).fallen))
  rw [h]
  cases p <;> exact ⟨rfl, rfl, rfl⟩

/-- A port in service that goes down is down, holds nothing, and counts no parity error (07 R224). -/
theorem portDown_fallen {p : Port} {s : State} (hring : s.onRing = true) (hup : (s.port p).state = 2) : Fallen p s (portDown p s) := by
  have hdown : portDown p s =
      let t := { raise 24 (countDown p (s.setPort p fun _ => (s.port p).fallen)) with crl.wrap := true, crl.wrapOff := false }
      if (t.port (portOther p)).state == 2 then sendBreak p (turned p (s.port p).pendingFrames t)
      else let u := if t.isRoot then sendBreak p t else t
        { u with chn.discardReports := u.chn.discardReports || u.isMember } := by
    unfold portDown
    dsimp only
    rw [if_neg (by simp [hup]), foldl_turnBack]
    rfl
  have hfell := fallen_raised p s
  have hkeeps := (portFell p s).keeps.1
  dsimp only at hdown
  generalize ({ raise 24 (countDown p (s.setPort p fun _ => (s.port p).fallen)) with crl.wrap := true, crl.wrapOff := false } : State) = t at *
  rw [hdown]
  split
  next hother =>
    have hturned := hfell.turned (s.port p).pendingFrames
    have hup' : ((turned p (s.port p).pendingFrames t).port (portOther p)).state = 2 := by
      rw [turned, port_setPort, port_portOther, (PortSt.putAll_spec _ _).1]
      exact beq_iff_eq.1 hother
    obtain ⟨fs, n, b, hbreak, -, -⟩ := sendBreak_spec (s := turned p (s.port p).pendingFrames t) (by cases p <;> exact hkeeps.trans hring) hup'
    rw [hbreak]
    exact ⟨(hturned.other _).state, (hturned.other _).held, (hturned.other _).parity⟩
  next =>
    have hbreak : Fallen p s (if t.isRoot then sendBreak p t else t) := by
      split
      next hroot =>
        obtain ⟨b, h, -⟩ := sendBreak_root hroot p
        rw [h]
        exact ⟨hfell.state, hfell.held, hfell.parity⟩
      next => exact hfell
    exact ⟨hbreak.state, hbreak.held, hbreak.parity⟩

/-- A held frame that was sent seven times takes the port down when its turn comes (07 R194). -/
theorem resendHeld_down {p : Port} {s : State} (hring : s.onRing = true) (hup : (s.port p).state = 2)
    (hcred : ∀ i, i < 3 → (s.port p).held.length ≤ (s.port p).cred.getD i 0) (hmany : (s.port p).held.any (fun h => decide (7 ≤ h.2)) = true) :
    ((resendHeld p s).port p).state = 0 := by
  have hidx := List.findIdx_lt_length_of_exists (List.any_eq_true.1 hmany)
  have hbefore : ∀ i (hi : i < (s.port p).held.length), i < (s.port p).held.findIdx (fun h => decide (7 ≤ h.2)) → ((s.port p).held[i]).2 < 7 :=
    fun i hi hlt => by
      have h := List.not_of_lt_findIdx hlt
      simpa using h
  have hmost : 7 ≤ ((s.port p).held[(s.port p).held.findIdx fun h => decide (7 ≤ h.2)]).2 := of_decide_eq_true (List.findIdx_getElem (w := hidx))
  generalize (s.port p).held.findIdx (fun h => decide (7 ≤ h.2)) = j at *
  have hresent := Resent.iterate hup hcred hidx.le hbefore
  obtain ⟨hheld, hagain, hhas⟩ := hresent.next hidx
  have hring' := hresent.ring.trans hring
  rw [resendHeld_iterate]
  generalize hu : (sendAgain p)^[j] (s.setPort p fun x => { x with again := (s.port p).held.length }) = u at *
  have hfell : Fallen p (countRetry p 1 (u.setPort p fun x => x.sentAgain ((s.port p).held[j]))) (sendAgain p u) := by
    rw [sendAgain_eq hheld hagain hhas, if_pos (by omega)]
    refine portDown_fallen ?_ ?_
    · cases p <;> exact hring'
    · rw [port_countRetry, port_setPort]
      exact hresent.state
  have hstays : ∀ n, (sendAgain p)^[n] (sendAgain p u) = sendAgain p u := fun n => Function.iterate_fixed (sendAgain_empty hfell.held) n
  obtain ⟨n, hn⟩ : ∃ n, (s.port p).held.length = n + 1 + j := ⟨(s.port p).held.length - 1 - j, by omega⟩
  rw [hn, Function.iterate_add_apply, ← hn, hu, Function.iterate_succ_apply, hstays]
  exact hfell.state

/-! ### A held frame that reads with bad parity -/

theorem postEventAt_fed (epoch code d0 d1 : Nat) (s : State) : ∃ v c q, postEventAt epoch code d0 d1 s =
    { s with evt := v, crl := c, arr.queue := q } ∧ s.crl.fed c := by
  unfold postEventAt
  split
  · obtain ⟨c, q, h, hc⟩ := sendMsg_fed 1 0 (.event code epoch (d0 % 2 ^ 32) (d1 % 2 ^ 31)) s
    exact ⟨s.evt, c, q, h, hc⟩
  · rcases bufferEvent_eq { code := code, tile := s.tile, epoch := epoch, d0 := d0 % 2 ^ 32, d1 := d1 % 2 ^ 31 } s with h | h
    · exact ⟨_, s.crl, s.arr.queue, h, s.crl.fed_refl⟩
    · exact ⟨_, s.crl, s.arr.queue, h, s.crl.fed_refl⟩

theorem parityEvent_fed (store index action : Nat) (s : State) : ∃ v c q h, parityEvent store index action s =
    { s with evt := v, crl := c, arr.queue := q, host := h } ∧ s.crl.fed c := by
  unfold parityEvent
  split
  · obtain ⟨v, c, q, h, hc⟩ := postEventAt_fed s.epoch 0x0E (store + 65536 * index) action s
    unfold postParity countParityEvent
    dsimp only
    rw [h]
    split
    · exact ⟨v, c, q, _, rfl, hc⟩
    · exact ⟨v, c, q, s.host, rfl, hc⟩
  · split
    · exact ⟨_, s.crl, s.arr.queue, s.host, rfl, s.crl.fed_refl⟩
    · exact ⟨_, s.crl, s.arr.queue, s.host, rfl, s.crl.fed_refl⟩

theorem noteParity_parCnt (store addr : Nat) (s : State) : (noteParity store addr s).icu.parCnt = cnt 16 s.icu.parCnt 1 := by
  rw [noteParity]
  dsimp only
  split <;> rfl

theorem captureParity_parCnt (store addr : Nat) (s : State) : (captureParity store addr s).icu.parCnt = cnt 16 s.icu.parCnt 1 := by
  obtain ⟨a, b, c, d, k, h⟩ := raise_eq (if store = 4 then 41 else 40) (noteParity store addr s)
  rw [captureParity, h]
  exact noteParity_parCnt store addr s

/-- A parity error in a Crila buffer is counted; the ports stay in service (18 R481, R482). -/
theorem bufferParity_spec (s : State) : (bufferParity s).onRing = s.onRing ∧ (∀ p, ((bufferParity s).port p).state = (s.port p).state) ∧
    (bufferParity s).icu.parCnt = cnt 16 s.icu.parCnt 1 := by
  obtain ⟨i, k, hcapture, -, -⟩ := captureParity_eq 0x15 0 s
  have hcount := captureParity_parCnt 0x15 0 s
  have hicu := parityFound_icu { store := 0x15, index := 0, addr := 0 } (captureParity 0x15 0 s)
  have hbuffer : bufferParity s = parityFound { store := 0x15, index := 0, addr := 0 } (captureParity 0x15 0 s) := rfl
  rw [hbuffer, hicu]
  suffices h : (parityFound { store := 0x15, index := 0, addr := 0 } (captureParity 0x15 0 s)).onRing = s.onRing ∧
      ∀ p, ((parityFound { store := 0x15, index := 0, addr := 0 } (captureParity 0x15 0 s)).port p).state = (s.port p).state from ⟨h.1, h.2, hcount⟩
  rw [hcapture]
  unfold parityFound
  dsimp only
  rw [noteBad_else (by decide), if_neg (by decide)]
  split
  · exact ⟨rfl, fun p => by cases p <;> rfl⟩
  · obtain ⟨v, c, q, h, hevent, hc⟩ := parityEvent_fed 0x15 (parityItem { store := 0x15, index := 0, addr := 0 }) 1
      { s with icu := i, clk.mergeIcu := k }
    have hact : parityAct { store := 0x15, index := 0, addr := 0 } { s with icu := i, clk.mergeIcu := k } =
      parityEvent 0x15 (parityItem { store := 0x15, index := 0, addr := 0 }) 1 { s with icu := i, clk.mergeIcu := k } := rfl
    obtain ⟨_, _, _, _, _, _, _, _, rfl, -⟩ := hc
    have hdrop : parityDrop { store := 0x15, index := 0, addr := 0 } { s with icu := i, clk.mergeIcu := k } = { s with icu := i, clk.mergeIcu := k } := rfl
    rw [hdrop, hact, hevent]
    exact ⟨rfl, fun p => by cases p <;> rfl⟩

section Timeout

variable {s : State} (hring : s.onRing = true) {p : Port} (hup : (s.port p).state = 2) (hheld : (s.port p).held ≠ [])

include hring hup hheld

theorem exec_retransmitTimeout (par : Bool) : exec (.retransmitTimeout p par) s = answer s
    (if par then portDown p (bufferParity (s.setPort p fun x => { x with held := x.held.tail })) else resendHeld p s) := by
  have hexec : exec (.retransmitTimeout p par) s = execRetransmitTimeout p par s := rfl
  rw [hexec, execRetransmitTimeout, if_pos (by simp [hring, hup, hheld])]

/-- A held frame that reads with bad parity takes the port down (18 R481). -/
theorem completes_retransmit_parity : Completes (.retransmitTimeout p true) s (fun t => (t.port p).state = 0 ∧
    t.icu.parCnt = min (s.icu.parCnt + 1) 65535) := by
  have hexec := exec_retransmitTimeout hring hup hheld true
  rw [if_pos rfl] at hexec
  obtain ⟨hring', hstate, hcount⟩ := bufferParity_spec (s.setPort p fun x => { x with held := x.held.tail })
  have hkeeps : (s.setPort p fun x => { x with held := x.held.tail }).onRing = s.onRing ∧
      (s.setPort p fun x => { x with held := x.held.tail }).icu = s.icu := by
    cases p <;> exact ⟨rfl, rfl⟩
  have hfell := portDown_fallen (hring'.trans (hkeeps.1.trans hring)) ((hstate p).trans (by rw [port_setPort]; exact hup))
  refine completes_answer hexec ⟨hfell.state, (hfell.parity.trans hcount).trans ?_⟩
  rw [hkeeps.2]
  rfl

theorem completes_retransmit (hcred : ∀ i, i < 3 → (s.port p).held.length ≤ (s.port p).cred.getD i 0)
    (hfew : (s.port p).held.all (fun h => decide (h.2 < 7)) = true) : Completes (.retransmitTimeout p false) s (fun t =>
      (t.port p).held = (s.port p).held.map sentOnce ∧ (t.port p).state = 2 ∧ retried p t = min (retried p s + (s.port p).held.length) 65535) := by
  have hexec := exec_retransmitTimeout hring hup hheld false
  rw [if_neg Bool.false_ne_true] at hexec
  have hall := resendHeld_all hup hcred hfew
  have hlen : (s.port p).held.length ≠ 0 := fun h => hheld (List.length_eq_zero_iff.1 h)
  have hretry := hall.retry
  rw [if_neg hlen] at hretry
  refine completes_answer hexec ⟨hall.held.trans ?_, hall.state, Eq.trans ?_ hretry⟩
  · rw [List.take_length, List.drop_length, List.append_nil]
  · cases p <;> rfl

theorem completes_retransmit_down (hcred : ∀ i, i < 3 → (s.port p).held.length ≤ (s.port p).cred.getD i 0)
    (hmany : (s.port p).held.any (fun h => decide (7 ≤ h.2)) = true) : Completes (.retransmitTimeout p false) s (fun t => (t.port p).state = 0) := by
  have hexec := exec_retransmitTimeout hring hup hheld false
  rw [if_neg Bool.false_ne_true] at hexec
  exact completes_answer hexec (resendHeld_down hring hup hcred hmany)

end Timeout

/-! ### Half a link cycle -/

theorem length_toLanes (bs : List LinkBlock) (l : Nat) (scr : List (BitVec 58)) : (toLanes l scr bs).1.length = bs.length := by
  induction bs generalizing l scr with
  | nil => rfl
  | cons b bs ih => rw [toLanes, List.length_cons, List.length_cons, ih]

theorem length_frameBlocks (f : CFrame) : (frameBlocks f).length ≤ 18 := by
  have hlen : (frameBytes f).length ≤ 128 := by
    rw [frameBytes, List.length_take]
    omega
  rw [frameBlocks]
  simp only [payloadBlocks, List.length_cons, List.length_append, List.length_map, List.length_range, List.length_nil]
  omega

theorem length_halfCycle (q : PortSt) (f : Option CFrame) : (halfCycle q f).length = 19 := by
  have hslot : (f.elim [] frameBlocks).length ≤ 18 := by
    cases f with
    | none => exact Nat.zero_le _
    | some f => exact length_frameBlocks f
  rw [halfCycle]
  simp only [List.length_append, List.length_cons, List.length_replicate]
  omega

/-- A port that has sent half a link cycle (07 R187, R190). -/
def PortSt.sentHalf (q : PortSt) (f : Option CFrame) : PortSt :=
  { q with
    wire := (toLanes (b2n q.half) q.scr (halfCycle q f)).1
    scr := (toLanes (b2n q.half) q.scr (halfCycle q f)).2
    half := !q.half
    mark := if q.half then q.mark else none
    nakDue := q.nakDue && (!q.half && q.mark.isSome) }

theorem sendHalf_eq (p : Port) (f : Option CFrame) (s : State) : sendHalf p f s = s.setPort p fun q => q.sentHalf f := rfl

/-- A port with no message behind a marker has nothing to bring forward. -/
theorem afterMark_none {q : PortSt} (h : q.late = []) : afterMark q = q := by
  rw [afterMark]
  split
  · rw [h]
    cases q
    simp_all
  · rfl

/-- A port that has a new frame in its slot: it is held until its ACK (07 R194, R196). -/
def PortSt.leaving (q : PortSt) (f : CFrame) (n : Nat) (q0 q1 q2 : List CFrame) : PortSt :=
  { q with q0 := q0, q1 := q1, q2 := q2, held := q.held ++ [({ f with seq := q.txSeq }, 1)], txSeq := (q.txSeq + 1) % 4096, cred := q.cred.modify n (· - 1) }

section Transmit

variable {s : State} {p : Port} (hup : (s.port p).state = 2) (hlate : (s.port p).late = []) (hagain : (s.port p).again = 0)

theorem setPort_self {s : State} {p : Port} {g : PortSt → PortSt} (h : g (s.port p) = s.port p) : s.setPort p g = s := by
  cases p
  · exact congrArg (fun q => ({ s with crl.up := q } : State)) h
  · exact congrArg (fun q => ({ s with crl.dn := q } : State)) h

include hup hlate hagain

/-- Nothing may leave: the slot is empty (07 R187). -/
theorem transmit_idle (h : 64 ≤ (s.port p).held.length ∨ nextClass (s.port p) = none) : transmit p s = sendHalf p none s := by
  rw [transmit]
  dsimp only
  rw [setPort_self (afterMark_none hlate), if_neg (not_not.2 hup), if_neg (not_not.2 hagain)]
  split
  · rfl
  next hfew => rw [h.resolve_left hfew]

theorem transmit_cls0 {f : CFrame} {rest : List CFrame} (hfew : (s.port p).held.length < 64) (hq : (s.port p).q0 = f :: rest)
    (hclass : nextClass (s.port p) = some 0) : transmit p s = sendHalf p (some { f with seq := (s.port p).txSeq })
      (s.setPort p fun q => q.leaving f 0 rest q.q1 q.q2) := by
  rw [transmit]
  dsimp only
  rw [setPort_self (afterMark_none hlate), if_neg (not_not.2 hup), if_neg (not_not.2 hagain), if_neg (by omega), hclass]
  dsimp only
  rw [if_pos rfl, hq]
  rfl

theorem transmit_cls1 {f : CFrame} {rest : List CFrame} (hfew : (s.port p).held.length < 64) (hq : (s.port p).q1 = f :: rest)
    (hclass : nextClass (s.port p) = some 1) : transmit p s = sendHalf p (some { f with seq := (s.port p).txSeq })
      (s.setPort p fun q => q.leaving f 1 q.q0 rest q.q2) := by
  rw [transmit]
  dsimp only
  rw [setPort_self (afterMark_none hlate), if_neg (not_not.2 hup), if_neg (not_not.2 hagain), if_neg (by omega), hclass]
  dsimp only
  rw [if_neg (by decide), if_pos rfl, hq]
  rfl

end Transmit

theorem nextClass_zero {q : PortSt} (hq : q.q0 ≠ []) (hcred : 0 < q.cred.getD 0 0) : nextClass q = some 0 := by
  rw [nextClass]
  dsimp only
  rw [if_pos (by simp [hq]; simpa using hcred)]

theorem nextClass_one {q : PortSt} (h0 : q.q0 = [] ∨ q.cred.getD 0 0 = 0) (hq : q.q1 ≠ []) (hcred : 0 < q.cred.getD 1 0) : nextClass q = some 1 := by
  have hcan : (!q.q0.isEmpty && decide (0 < q.cred.getD 0 0)) = false := by
    rcases h0 with h | h
    · rw [h]
      rfl
    · rw [h, decide_eq_false (by omega), Bool.and_false]
  rw [nextClass]
  dsimp only
  rw [if_neg (by rw [hcan]; exact Bool.false_ne_true), if_pos (by simp [hq]; simpa using hcred)]

theorem nextClass_none {q : PortSt} (h : q.cred = [0, 0, 0]) : nextClass q = none := by
  simp [nextClass, h]

theorem completes_half {s : State} (hm : s.memOk) (hring : s.onRing = true) {p : Port} {f : Option CFrame} {g : PortSt → PortSt}
    (h : transmit p s = sendHalf p f (s.setPort p g)) : Completes (.frameTransmit p) s (fun t => t.port p = (g (s.port p)).sentHalf f ∧
      ({ t with crl := s.crl } : State) = s) := by
  have hexec : exec (.frameTransmit p) s = execFrameTransmit p s := rfl
  rw [execFrameTransmit, if_pos hring, h, sendHalf_eq, setPort_setPort] at hexec
  refine completes_answer_wf hexec (by rw [mem_setPort]; exact hm) ⟨?_, ?_⟩
  · cases p <;> rfl
  · cases p <;> rfl

/-- What a half of the link cycle changes of a port whatever its slot holds. -/
theorem sentHalf_spec (q : PortSt) (f : Option CFrame) : (q.sentHalf f).half = (!q.half) ∧ (q.sentHalf f).wire.length = 19 ∧
    (q.sentHalf f).rxSeq = q.rxSeq ∧ (q.mark = none → (q.sentHalf f).nakDue = false) := by
  refine ⟨rfl, ?_, rfl, fun h => ?_⟩
  · exact (length_toLanes _ _ _).trans (length_halfCycle q f)
  · rw [PortSt.sentHalf, h, Option.isSome_none, Bool.and_false, Bool.and_false]

/-- A NAK has all held frames that the ACK left sent again, as their credits allow (07 R194, R196). -/
theorem completes_nak {s : State} (hring : s.onRing = true) {p : Port} (hup : (s.port p).state = 2) {k : BlockKind} (hk : k = .cb0 ∨ k = .cb1)
    {v : Nat} (hv : v < 2 ^ 56) (hnak : v.testBit 12 = true) (hleft : ackLeft v (s.port p).held ≠ [])
    (hcred : ∀ i, i < 3 → (ackLeft v (s.port p).held).length ≤ min (v / 2 ^ (16 + 5 * i) % 32) 16)
    (hfew : (ackLeft v (s.port p).held).all (fun h => decide (h.2 < 7)) = true) :
    Completes (.controlBlockReceive p (lineBlock (endSlot (s.port p)) (controlOf k v))) s (fun t => (t.port p).state = 2 ∧ (t.port p).again = 0 ∧
      (t.port p).held = (ackLeft v (s.port p).held).map (fun h => (h.1, h.2 + 1))) := by
  obtain ⟨n, w, l, r, x, hexec⟩ := exec_control hring hup hk hv
  dsimp only at hexec
  rw [hnak, Bool.true_and, if_pos (by simpa using hleft)] at hexec
  generalize hu : (s.setPort p fun q => { q with
    held := ackLeft v q.held, again := min q.again (ackLeft v q.held).length
    cred := [min (v / 2 ^ 16 % 32) 16, min (v / 2 ^ 21 % 32) 16, min (v / 2 ^ 26 % 32) 16]
    rxLane := n, win := w, lane := l, rscr := r, rxPos := x }) = u at hexec
  have hport : (u.port p).state = 2 ∧ (u.port p).held = ackLeft v (s.port p).held ∧
      (u.port p).cred = [min (v / 2 ^ 16 % 32) 16, min (v / 2 ^ 21 % 32) 16, min (v / 2 ^ 26 % 32) 16] := by
    rw [← hu, port_setPort]
    exact ⟨hup, rfl, rfl⟩
  obtain ⟨hstate, hheld, hcreds⟩ := hport
  have hall := resendHeld_all hstate (fun i hi => by
    rw [hheld, hcreds]
    interval_cases i
    · exact hcred 0 hi
    · exact hcred 1 hi
    · exact hcred 2 hi) (by rw [hheld]; exact hfew)
  refine completes_answer hexec ⟨hall.state, hall.again.trans (Nat.sub_self _), hall.held.trans ?_⟩
  rw [List.take_length, List.drop_length, List.append_nil, hheld]
  rfl

/-- A half of the link cycle without a frame changes nothing that waits or is held (07 R187). -/
theorem completes_idle {s : State} (hm : s.memOk) (hring : s.onRing = true) {p : Port} (hup : (s.port p).state = 2) (hlate : (s.port p).late = [])
    (hagain : (s.port p).again = 0) (h : 64 ≤ (s.port p).held.length ∨ nextClass (s.port p) = none) :
    Completes (.frameTransmit p) s (fun t => ((t.port p).half = (!(s.port p).half) ∧ (t.port p).wire.length = 19 ∧ (t.port p).rxSeq = (s.port p).rxSeq ∧
      ((s.port p).mark = none → (t.port p).nakDue = false) ∧ ({ t with crl := s.crl } : State) = s) ∧ (t.port p).held = (s.port p).held ∧
      (t.port p).txSeq = (s.port p).txSeq ∧ (t.port p).cred = (s.port p).cred ∧ (t.port p).q0 = (s.port p).q0 ∧ (t.port p).q1 = (s.port p).q1 ∧
      (t.port p).q2 = (s.port p).q2) := by
  have hidle := transmit_idle hup hlate hagain h
  rw [← setPort_self (s := s) (p := p) (g := id) rfl] at hidle
  have hset : s.setPort p id = s := setPort_self rfl
  obtain ⟨t, ht, hport, hsame⟩ := completes_half (g := id) hm hring (by rw [hset] at hidle ⊢; exact hidle)
  obtain ⟨hhalf, hwire, hseq, hnak⟩ := sentHalf_spec (s.port p) none
  have hport : t.port p = (s.port p).sentHalf none := hport
  rw [← hport] at hhalf hwire hseq hnak
  refine ⟨t, ht, ⟨hhalf, hwire, hseq, hnak, hsame⟩, ?_⟩
  rw [hport]
  exact ⟨rfl, rfl, rfl, rfl, rfl, rfl⟩

end Sys2Proof.Machine

open Sys2Proof Sys2Proof.Machine

/-- Settles O48: a port takes a frame when it is in order, and a half of the link cycle changes the port alone. -/
theorem framesArriveInOrderOnce : Obligations.FramesArriveInOrderOnce := by
  unfold Obligations.FramesArriveInOrderOnce
  intro p f bs k v rest s hring hm hup
  refine ⟨fun hwhole => ⟨fun hseq hmine hstranger hbcast => ⟨?_, ?_, ?_, ?_⟩, ?_⟩, ?_, fun hk hv => ⟨?_, ?_⟩, fun hheld => ⟨fun hcred => ⟨?_, ?_⟩, ?_⟩,
    fun hlate => ⟨fun hfew hagain => ⟨?_, ?_, ?_⟩, ?_⟩⟩
  · intro hdst hnew hcore
    exact completes_frame_taken hm hring hup hwhole hseq hmine hstranger hbcast hdst hnew hcore
  · intro hdst hparts hold
    exact completes_frame_seen hm hring hup hwhole hseq hmine hstranger hbcast hdst hparts hold
  · intro hdst httl hout hcls
    exact completes_frame_forwarded hm hring hup hwhole hseq hmine hstranger hbcast hdst httl rfl hout hcls
  · intro hdst httl
    exact completes_frame_dropped hm hring hup hwhole hseq hmine hstranger hbcast hdst httl
  · intro hseq _
    obtain ⟨n, w, l, r, x, hexec⟩ := exec_whole hring hup hwhole
    rw [receiveFrame_repeated (by rw [port_setPort]; exact hup) (by rw [port_setPort]; exact hseq)] at hexec
    exact completes_heard (g := id) hm hexec rfl
  · intro hnot
    exact completes_frame_bad hm hring hup (Bool.not_eq_true _ ▸ hnot)
  · intro hnak
    obtain ⟨n, w, l, r, x, hexec⟩ := exec_control hring hup hk hv
    dsimp only at hexec
    rw [hnak, Bool.false_and, if_neg Bool.false_ne_true] at hexec
    exact completes_heard (g := fun q => { q with
      held := ackLeft v q.held, again := min q.again (ackLeft v q.held).length
      cred := [min (v / 2 ^ 16 % 32) 16, min (v / 2 ^ 21 % 32) 16, min (v / 2 ^ 26 % 32) 16] }) hm hexec rfl
  · intro hnak hleft hcred hfew
    exact completes_nak hring hup hk hv hnak hleft hcred hfew
  · intro hfew
    obtain ⟨t, ht, hsent, hstate, hretry⟩ := completes_retransmit hring hup hheld hcred hfew
    exact ⟨t, ht, hsent, hstate, fun h => by subst h; exact hretry, fun h => by subst h; exact hretry⟩
  · exact completes_retransmit_down hring hup hheld hcred
  · exact completes_retransmit_parity hring hup hheld
  · intro hq hcred
    obtain ⟨t, ht, hport, hsame⟩ := completes_half hm hring (transmit_cls0 hup hlate hagain hfew hq (nextClass_zero (by rw [hq]; exact List.cons_ne_nil _ _) hcred))
    obtain ⟨hhalf, hwire, hseq, hnak⟩ := sentHalf_spec ((s.port p).leaving f 0 rest (s.port p).q1 (s.port p).q2) (some { f with seq := (s.port p).txSeq })
    rw [← hport] at hhalf hwire hseq hnak
    exact ⟨t, ht, ⟨hhalf, hwire, hseq, hnak, hsame⟩, ⟨congrArg PortSt.held hport, congrArg PortSt.txSeq hport, congrArg PortSt.cred hport⟩,
      congrArg PortSt.q0 hport, (congrArg PortSt.q1 hport).trans rfl, (congrArg PortSt.q2 hport).trans rfl⟩
  · intro hq0 hq hcred
    obtain ⟨t, ht, hport, hsame⟩ := completes_half hm hring (transmit_cls1 hup hlate hagain hfew hq
      (nextClass_one hq0 (by rw [hq]; exact List.cons_ne_nil _ _) hcred))
    obtain ⟨hhalf, hwire, hseq, hnak⟩ := sentHalf_spec ((s.port p).leaving f 1 (s.port p).q0 rest (s.port p).q2) (some { f with seq := (s.port p).txSeq })
    rw [← hport] at hhalf hwire hseq hnak
    exact ⟨t, ht, ⟨hhalf, hwire, hseq, hnak, hsame⟩, ⟨congrArg PortSt.held hport, congrArg PortSt.txSeq hport, congrArg PortSt.cred hport⟩,
      congrArg PortSt.q1 hport, (congrArg PortSt.q0 hport).trans rfl, (congrArg PortSt.q2 hport).trans rfl⟩
  · intro hcred
    exact completes_idle hm hring hup hlate hagain (.inr (nextClass_none hcred))
  · intro hmany hagain
    exact completes_idle hm hring hup hlate hagain (.inl hmany)

end

section
/-! What a member does of the root's messages (07 R229, R231, 08 R242 to R250, 10 R295, 17 R470, 19 R497). -/

namespace Sys2Proof.Machine

/-! ### The first failed check -/

/-- The failure reported of a list that starts with one: a member of the list of the least code. -/
theorem worstFail_foldl (l : List (Nat × Nat)) (b : Nat × Nat) : ∃ f, l.foldl (fun best f => match best with
      | none => some f
      | some b => if failBefore f b then some f else some b) (some b) = some f ∧ f ∈ b :: l ∧ ∀ x ∈ b :: l, f.1 ≤ x.1 := by
  induction l generalizing b with
  | nil => exact ⟨b, rfl, List.mem_cons_self, fun x hx => by rw [List.mem_singleton.1 hx]⟩
  | cons y l ih =>
    rw [List.foldl_cons]
    dsimp only
    have hcode : (failBefore y b = true → y.1 ≤ b.1) ∧ (failBefore y b = false → b.1 ≤ y.1) := by
      simp only [failBefore, Bool.or_eq_true, Bool.and_eq_true, decide_eq_true_eq, beq_iff_eq, Bool.or_eq_false_iff, decide_eq_false_iff_not,
        Bool.and_eq_false_iff, beq_eq_false_iff_ne]
      omega
    cases hb : failBefore y b with
    | true =>
      obtain ⟨f, hf, hmem, hmin⟩ := ih y
      refine ⟨f, by rw [if_pos rfl]; exact hf, List.mem_cons_of_mem b hmem, fun x hx => ?_⟩
      rcases List.mem_cons.1 hx with rfl | hx
      · exact (hmin y List.mem_cons_self).trans (hcode.1 hb)
      · exact hmin x hx
    | false =>
      obtain ⟨f, hf, hmem, hmin⟩ := ih b
      refine ⟨f, by rw [if_neg Bool.false_ne_true]; exact hf, ?_, fun x hx => ?_⟩
      · rcases List.mem_cons.1 hmem with rfl | hmem
        · exact List.mem_cons_self
        · exact List.mem_cons_of_mem b (List.mem_cons_of_mem y hmem)
      · rcases List.mem_cons.1 hx with rfl | hx
        · exact hmin x List.mem_cons_self
        · rcases List.mem_cons.1 hx with rfl | hx
          · exact (hmin b List.mem_cons_self).trans (hcode.2 hb)
          · exact hmin x (List.mem_cons_of_mem b hx)

theorem worstFail_spec {l : List (Nat × Nat)} (h : l ≠ []) : ∃ f, worstFail l = some f ∧ f ∈ l ∧ ∀ x ∈ l, f.1 ≤ x.1 := by
  obtain ⟨b, l, rfl⟩ := List.exists_cons_of_ne_nil h
  exact worstFail_foldl l b

/-- Every check of an image has a code of its own. -/
theorem imageFails_pos {slot : Nat} {img : List Byte} {x : Nat × Nat} (h : x ∈ imageFails slot img) : 1 ≤ x.1 := by
  simp only [imageFails, List.mem_append] at h
  rcases h with (((((h | h) | h) | h) | h) | h) | h
  · rw [mem_failIf h]
  · rw [mem_failIf h]
  · obtain ⟨o, -, rfl⟩ := List.mem_map.1 h
    exact le_rfl
  · exact (mapFails_code h).le.trans' (by norm_num)
  · exact (limitFails_code h).le.trans' (by norm_num)
  · exact (relationFails_code h).le.trans' (by norm_num)
  · obtain ⟨o, -, rfl⟩ := List.mem_map.1 h
    norm_num

/-- What an empty slot fails of a COMMIT's checks: its state, and the image's where its format or its slot is wrong. -/
theorem ownFails_empty {n : Nat} {s : State} (hempty : s.slot n = .empty) : (2, 0xFFF) ∈ ownFails n false none none s ∧
    (leAt (s.image n) 0 1 ≠ 1 ∨ leAt (s.image n) 1 1 ≠ n → ∃ o, (1, o) ∈ ownFails n false none none s) ∧
    ∀ x ∈ ownFails n false none none s, 1 ≤ x.1 := by
  have hfirst : failIf (s.slot n != (if false = true then SlotState.ready else SlotState.staging)) 0x02 0xFFF = [(2, 0xFFF)] := by
    rw [hempty]
    rfl
  unfold ownFails
  dsimp only
  rw [hfirst, if_neg Bool.false_ne_true]
  simp only [List.append_assoc, List.append_nil]
  refine ⟨List.mem_append_left _ (List.mem_singleton.2 rfl), fun h => ?_, fun x hx => ?_⟩
  · rcases h with h | h
    · refine ⟨0, List.mem_append_right _ (List.mem_append_right _ (List.mem_append_left _ ?_))⟩
      simp [imageFails, failIf, h]
    · refine ⟨1, List.mem_append_right _ (List.mem_append_right _ (List.mem_append_left _ ?_))⟩
      simp [imageFails, failIf, h]
  · simp only [List.mem_append] at hx
    rcases hx with h | h | h | h | h | h | h
    · rw [List.mem_singleton.1 h]
      norm_num
    · rw [mem_failIf h]
      norm_num
    · exact imageFails_pos h
    · rw [mem_failIf h]
      norm_num
    · split at h
      · rw [mem_failIf h]
        norm_num
      · exact absurd h List.not_mem_nil
    · rw [mem_failIf h]
      norm_num
    · rw [mem_failIf h]
      norm_num

/-! ### What a member tells the root -/

section Member

variable {s : State} (hmember : s.isMember = true) (hlink : s.clk.link = true) (hquiet : s.arr.quiet = [])

include hlink hquiet in
theorem sendMsg_told (m : Msg) : ∃ c, sendMsg 1 0 m s = { s with crl := c } ∧ ((c.up.q1 ++ c.dn.q1).any (fun x => x.msg == m)) = true := by
  obtain ⟨c, f, h, -, hf, hmsg, -⟩ := sendMsg_waits hlink (dst := 0) (by rw [hquiet]; exact List.not_mem_nil) 1 m
  exact ⟨c, h, hmsg ▸ Crila.any_msg_of_waits_one hf⟩

include hmember hlink hquiet in
theorem partDone_told (num code r0 r1 : Nat) : ∃ c, partDone num code r0 r1 s = { s with crl := c } ∧
    ((c.up.q1 ++ c.dn.q1).any (fun x => x.msg == .cpl num code r0 r1)) = true := by
  rw [partDone, if_pos hmember]
  exact sendMsg_told hlink hquiet _

end Member

/-! ### Forwarded commands (10 R295) -/

section Commands

variable {s : State} (hmember : s.isMember = true) (hlink : s.clk.link = true) (hm : s.memOk) (hquiet : s.arr.quiet = []) (hinbox : s.crl.inbox = [])
  (hfw : s.fwRuns = true) {num : Nat}

include hmember hlink hinbox hfw in
theorem exec_memberCommand (d : Desc) : exec (.cmdMessage num (.cmd num d)) s = answer s (memberCommand num d s) := by
  have hexec : exec (.cmdMessage num (.cmd num d)) s = execCmdMessage num (.cmd num d) s := rfl
  rw [hexec]
  unfold execCmdMessage
  rw [if_neg (by simp [hmember, hlink, hfw])]
  dsimp only
  rw [consume_empty hinbox]

include hmember hlink hinbox hfw in
theorem exec_prepare (slot : Nat) : exec (.cmdMessage num (.prepare slot false none none)) s = answer s (prepareMember (slot % 8) false none none s) := by
  have hexec : exec (.cmdMessage num (.prepare slot false none none)) s = execCmdMessage num (.prepare slot false none none) s := rfl
  rw [hexec]
  unfold execCmdMessage
  rw [if_neg (by simp [hmember, hlink, hfw])]
  dsimp only
  rw [consume_empty hinbox]

include hmember hlink hm hinbox hfw in
theorem completes_lineTest {d : Desc} (hop : d.opcode = 0x21) : Completes (.cmdMessage num (.cmd num d)) s (fun t =>
    t.elec.ltPending = true ∧ t.elec.ltCmds = s.elec.ltCmds ++ [num]) := by
  have hexec := exec_memberCommand hmember hlink hinbox hfw (num := num) d
  have hcmd : memberCommand num d s = lineTestOwn num s := by
    unfold memberCommand
    rw [hop]
    rfl
  rw [hcmd] at hexec
  exact completes_answer_wf hexec hm ⟨rfl, rfl⟩

include hmember hlink hm hquiet hinbox hfw

theorem completes_mailboxSend {d : Desc} (hop : d.opcode = 0x41) (hroom : s.mbx.q1.length < 8) :
    Completes (.cmdMessage num (.cmd num d)) s (fun t => t.mbx.q1 = s.mbx.q1 ++ [(BitVec.ofNat 32 d.p0, BitVec.ofNat 32 d.p1)] ∧
      ((t.crl.up.q1 ++ t.crl.dn.q1).any (fun x => x.msg == .cpl num 0 0 0)) = true) := by
  have hexec := exec_memberCommand hmember hlink hinbox hfw (num := num) d
  have hcmd : memberCommand num d s = mailboxSendOwn num d s := by
    unfold memberCommand
    rw [hop]
    rfl
  obtain ⟨a, b, c, e, k, hraise⟩ := raise_eq 1 { s with mbx.q1 := s.mbx.q1 ++ [(BitVec.ofNat 32 d.p0, BitVec.ofNat 32 d.p1)] }
  rw [hcmd, mailboxSendOwn, pushPair, if_neg (by omega), hraise] at hexec
  obtain ⟨c', hdone, htold⟩ := partDone_told (s := { s with
    mbx.q1 := s.mbx.q1 ++ [(BitVec.ofNat 32 d.p0, BitVec.ofNat 32 d.p1)], icu.src := a, icu.undCount := b, icu.undSrc := c, icu.heldEdges := e
    clk.mergeIcu := k }) hmember hlink hquiet num 0 0 0
  exact completes_answer_wf (hexec.trans (congrArg (answer s) hdone)) hm ⟨rfl, htold⟩

theorem completes_refused {d : Desc} (hop : d.opcode = 0x01) : Completes (.cmdMessage num (.cmd num d)) s (fun t =>
    ((t.crl.up.q1 ++ t.crl.dn.q1).any (fun x => x.msg == .cpl num 1 0 0)) = true ∧ t.ctx = s.ctx) := by
  have hexec := exec_memberCommand hmember hlink hinbox hfw (num := num) d
  have hcmd : memberCommand num d s = partDone num 0x01 0 0 s := by
    unfold memberCommand
    rw [hop]
    rfl
  obtain ⟨c, hdone, htold⟩ := partDone_told hmember hlink hquiet num 1 0 0
  rw [hcmd, hdone] at hexec
  exact completes_answer_wf hexec hm ⟨htold, rfl⟩

/-- The checks of a slot that is not where the commit wants it end with their first failure (08 R245). -/
theorem completes_prepare_empty (hnum : num < 8) (hempty : s.ctx.slots.getD num .empty = .empty) :
    Completes (.cmdMessage num (.prepare num false none none)) s (fun t =>
      ((t.crl.up.q1 ++ t.crl.dn.q1).any (fun x => x.msg == .prepareReply (if leAt (s.image num) 0 1 ≠ 1 ∨ leAt (s.image num) 1 1 ≠ num then 1
        else t.ctx.failCode) t.ctx.failOff)) = true ∧
      t.ctx.failCode ≤ 2 ∧ 1 ≤ t.ctx.failCode ∧ t.ctx.failTile = s.crl.tile ∧ t.ctx.slots = s.ctx.slots ∧ t.ctx.job = s.ctx.job) := by
  have hexec := exec_prepare hmember hlink hinbox hfw (num := num) num
  obtain ⟨hstate, hformat, hpos⟩ := ownFails_empty (n := num) hempty
  obtain ⟨f, hworst, hmem, hmin⟩ := worstFail_spec (l := ownFails num false none none s ++ failIf (s.ctx.job.isSome || s.pendingSlot.isSome) 0x88 0xFFF)
    (List.ne_nil_of_mem (List.mem_append_left _ hstate))
  have hlow : 1 ≤ f.1 := (List.mem_append.1 hmem).elim (hpos f) fun h => by
    rw [mem_failIf h]
    norm_num
  have hhigh := hmin _ (List.mem_append_left _ hstate)
  have htile : s.tile = s.crl.tile := by rw [State.tile, if_pos hmember]
  obtain ⟨c, hsend, htold⟩ := sendMsg_told (s := recordFail (s.tile, f.1, f.2) s) hlink hquiet (.prepareReply f.1 f.2)
  have hprepare : prepareMember (num % 8) false none none s = { recordFail (s.tile, f.1, f.2) s with crl := c } := by
    unfold prepareMember
    rw [Nat.mod_eq_of_lt hnum, hworst]
    exact hsend
  rw [hprepare] at hexec
  refine completes_answer_wf hexec hm ⟨?_, hhigh, hlow, htile, rfl, rfl⟩
  have hcode : (if leAt (s.image num) 0 1 ≠ 1 ∨ leAt (s.image num) 1 1 ≠ num then 1 else f.1) = f.1 := by
    split
    next h =>
      obtain ⟨o, ho⟩ := hformat h
      have := hmin _ (List.mem_append_left _ ho)
      omega
    next => rfl
  have hreply : (Msg.prepareReply (if leAt (s.image num) 0 1 ≠ 1 ∨ leAt (s.image num) 1 1 ≠ num then 1 else f.1) f.2) = .prepareReply f.1 f.2 := by
    rw [hcode]
  exact hreply ▸ htold

end Commands

/-! ### Pieces, images and references (08 R242, 07 R231, 17 R470) -/

section Images

variable {s : State} (hmember : s.isMember = true) (hlink : s.clk.link = true) (hcore : s.clk.core = true) (hm : s.memOk) (hquiet : s.arr.quiet = [])
  (hinbox : s.crl.inbox = []) (hfw : s.fwRuns = true)

include hmember hcore hinbox hfw in
theorem exec_ctxData (slot off : Nat) (data : List Byte) (kind : Nat) : exec (.ctxData slot off data kind) s = answer s (match kind with
    | 0 => stageMemberPiece slot off data s
    | 1 => takeContextImage data s
    | 2 => takeReference data s
    | 3 => takeImage false off data s
    | 5 => takeImage true off data s
    | _ => startApplet data s) := by
  have hexec : exec (.ctxData slot off data kind) s = execCtxData slot off data kind s := rfl
  rw [hexec]
  unfold execCtxData
  rw [if_neg (by simp [hmember, hcore])]
  dsimp only
  rw [consume_empty hinbox]
  exact congrArg (answer s) (if_neg (by simp [hfw]))

/-- A piece depends on the operands of its command by their fields alone. -/
theorem stageApply_fields (d : Desc) (data : List Byte) (s : State) : stageApply d data s = stageApply { d with a0 := d.a0 % 64 } data s := by
  have hn : fld (d.a0 % 64) 0 3 = fld d.a0 0 3 := by
    simp only [fld]
    omega
  have hinit : fld (d.a0 % 64) 4 2 = fld d.a0 4 2 := by
    simp only [fld]
    omega
  unfold stageApply
  dsimp only
  rw [hn, hinit]

/-- The root's image whose CRC passes is the one that comes in (07 R231). -/
theorem takeContextImage_arrived {data : List Byte} (hlen : data.length = 0x800) (hcrc : crc32 (data.drop 0x40) = leAt data 0x00C 4)
    (hactive : s.slot (leAt data 1 1 % 8) ≠ .active) : takeContextImage data s =
      takeIncoming { s with ctx.incoming := some data, ctx.incomingEa := takesEffect (leAt data 8 4) s, ctx.copyBad := false } := by
  unfold takeContextImage
  dsimp only
  rw [padTo_of_length hlen, beq_false_of_ne hactive, Bool.false_and, Bool.false_and, if_neg Bool.false_ne_true]
  unfold restoreImage
  dsimp only
  rw [padTo_of_length hlen, if_neg (not_not.2 hcrc)]

include hmember hlink hcore hm hquiet hinbox hfw in
/-- A piece that came for a member's own command is written over the slot's image (08 R242). -/
theorem completes_piece {num : Nat} {d : Desc} {data : List Byte} (hstaging : s.ctx.staging = [(num, d)]) (hop : d.opcode = 0x10)
    (hlen : d.p1 = data.length) (hfit : d.p0 + d.p1 ≤ 2048) (hinit : d.a0 % 64 < 16) (hslots : s.ctx.slots.length = 8) :
    Completes (.ctxData (d.a0 % 8) d.p0 data 0) s (fun t => t.ctx.slots.getD (d.a0 % 8) .empty = .staging ∧ t.ctx.staging = [] ∧
      ((t.crl.up.q1 ++ t.crl.dn.q1).any (fun x => x.msg == .cpl num 0 1 0)) = true ∧
      t.image (d.a0 % 8) = (s.image (d.a0 % 8)).take d.p0 ++ data ++ (s.image (d.a0 % 8)).drop (d.p0 + d.p1)) := by
  have hexec := exec_ctxData hmember hcore hinbox hfw (d.a0 % 8) d.p0 data 0
  have hfind : s.ctx.staging.find? (fun p => p.2.opcode == 0x10 && fld p.2.a0 0 3 == d.a0 % 8 && p.2.p0 == d.p0) = some (num, d) := by
    have hslot : fld d.a0 0 3 = d.a0 % 8 := by simp [fld]
    rw [hstaging, List.find?_cons, hop, hslot]
    simp
  have hrest : s.ctx.staging.filter (fun q => q.1 != num) = [] := by simp [hstaging]
  have hpiece : stageMemberPiece (d.a0 % 8) d.p0 data s =
      partDone num 0 1 0 (stageApply { d with a0 := d.a0 % 64 } data { s with ctx.staging := [] }) := by
    unfold stageMemberPiece
    rw [hfind]
    dsimp only
    rw [hrest, stageApply_fields]
  have hslot : d.a0 % 64 % 8 = d.a0 % 8 := by omega
  have hzero : d.a0 % 64 / 16 = 0 := by omega
  obtain ⟨m, b, happly, hwf, -, hread, -⟩ := stageApply_spec (d := { d with a0 := d.a0 % 64 }) (s := { s with ctx.staging := [] }) hm
    (by dsimp only; omega) hlen.symm hfit
  dsimp only at happly hread
  rw [hslot] at happly hread
  obtain ⟨c, hdone, htold⟩ := partDone_told (s := { s with mem := m, ctx.staging := [], ctx.slots := s.ctx.slots.set (d.a0 % 8) .staging, ctx.bad := b })
    hmember hlink hquiet num 0 1 0
  have hbase : stageBase { d with a0 := d.a0 % 64 } { s with ctx.staging := [] } = s.image (d.a0 % 8) := by
    rw [stageBase]
    dsimp only
    rw [if_pos hzero, hslot]
    rfl
  rw [hbase] at hread
  refine completes_answer_wf (hexec.trans (congrArg (answer s) ((hpiece.trans (by rw [happly])).trans hdone))) hwf ⟨?_, rfl, htold, hread⟩
  rw [List.getD_eq_getElem?_getD, List.getElem?_set_self (by omega)]
  rfl

include hmember hcore hm hinbox hfw

/-- The root's image that cannot take its place yet waits (07 R231). -/
theorem completes_image_waits {data : List Byte} (hlen : data.length = 0x800) (hcrc : crc32 (data.drop 0x40) = leAt data 0x00C 4)
    (hheld : s.slot (leAt data 1 1 % 8) = .draining ∨ s.slot (leAt data 1 1 % 8) = .checking) :
    Completes (.ctxData 0 0 data 1) s (fun t => t.ctx.incoming = some data ∧ t.mem = s.mem ∧ t.ctx.slots = s.ctx.slots) := by
  have hexec : exec (.ctxData 0 0 data 1) s = answer s (takeContextImage data s) := exec_ctxData hmember hcore hinbox hfw 0 0 data 1
  have hstate : ∀ u : State, u.ctx.slots = s.ctx.slots → ((u.slot (leAt data 1 1 % 8)).held && u.slot (leAt data 1 1 % 8) != .pending) = true := by
    intro u hu
    have hslot : u.slot (leAt data 1 1 % 8) = s.slot (leAt data 1 1 % 8) := by rw [State.slot, State.slot, hu]
    rw [hslot]
    rcases hheld with h | h <;> rw [h] <;> rfl
  rw [takeContextImage_arrived hlen hcrc (by rcases hheld with h | h <;> rw [h] <;> decide), takeIncoming] at hexec
  dsimp only at hexec
  exact completes_answer_wf (hexec.trans (congrArg (answer s) (if_pos (Bool.or_eq_true_iff.2 (.inl (hstate _ rfl)))))) hm ⟨rfl, rfl, rfl⟩

theorem completes_image_taken {data : List Byte} (hlen : data.length = 0x800) (hslots : s.ctx.slots.length = 8)
    (hcrc : crc32 (data.drop 0x40) = leAt data 0x00C 4) (hpend : s.pendingSlot = none)
    (hfree : s.slot (leAt data 1 1 % 8) = .empty ∨ s.slot (leAt data 1 1 % 8) = .staging ∨ s.slot (leAt data 1 1 % 8) = .ready) :
    Completes (.ctxData 0 0 data 1) s (fun t => t.ctx.slots.getD (leAt data 1 1 % 8) .empty = .pending ∧ t.ctx.gen = leAt data 4 4 ∧
      t.ctx.pendEa = takesEffect (leAt data 8 4) s ∧ t.image (leAt data 1 1 % 8) = data) := by
  have hexec : exec (.ctxData 0 0 data 1) s = answer s (takeContextImage data s) := exec_ctxData hmember hcore hinbox hfw 0 0 data 1
  have hstate : ∀ u : State, u.ctx.slots = s.ctx.slots → ((u.slot (leAt data 1 1 % 8)).held && u.slot (leAt data 1 1 % 8) != .pending ||
      u.pendingSlot.any (· != leAt data 1 1 % 8)) = false := by
    intro u hu
    have hslot : u.slot (leAt data 1 1 % 8) = s.slot (leAt data 1 1 % 8) := by rw [State.slot, State.slot, hu]
    have hnone : u.pendingSlot = none := by rw [State.pendingSlot, hu]; exact hpend
    rw [hslot, hnone]
    rcases hfree with h | h | h <;> rw [h] <;> rfl
  rw [takeContextImage_arrived hlen hcrc (by rcases hfree with h | h | h <;> rw [h] <;> decide), takeIncoming] at hexec
  dsimp only at hexec
  have hread := Memory.read_write_same hm (slotBase (leAt data 1 1 % 8)) data
  rw [hlen] at hread
  refine completes_answer_wf (hexec.trans (congrArg (answer s) (if_neg (ne_true_of_eq_false (hstate _ rfl))))) (Memory.write_wf _ _ _ hm)
    ⟨?_, rfl, rfl, hread⟩
  have hset : (s.ctx.slots.set (leAt data 1 1 % 8) .pending).getD (leAt data 1 1 % 8) .empty = .pending := by
    rw [List.getD_eq_getElem?_getD, List.getElem?_set_self (by omega)]
    rfl
  exact hset

end Images

/-! ### References (17 R470) -/

section References

variable {s : State} (hmember : s.isMember = true) (hcore : s.clk.core = true) (hm : s.memOk) (hinbox : s.crl.inbox = []) (hfw : s.fwRuns = true)
  {off : Nat} {data : List Byte}

include hmember hcore hm hinbox hfw

/-- A reference of the member's own tile whose CRC passes is kept. -/
theorem exec_reference_kept (hformat : leAt data 0 1 = 1) (htile : leAt data 1 1 % 64 = s.crl.tile)
    (hcrc : crc32 (data.take 0x3C ++ (data.drop 0x40).take 0x63C0) = leAt data 0x3C 4) :
    exec (.ctxData 0 off data 2) s = .next { s with elec.refRec := data } := by
  have hexec : exec (.ctxData 0 off data 2) s = answer s (takeReference data s) := exec_ctxData hmember hcore hinbox hfw 0 off data 2
  have hown : s.tile = s.crl.tile := by rw [State.tile, if_pos hmember]
  rw [takeReference, hown, if_pos ⟨hformat, htile, hcrc⟩] at hexec
  exact hexec.trans (answer_of_eq _ _ hm rfl rfl)

theorem exec_reference_dropped (hcrc : crc32 (data.take 0x3C ++ (data.drop 0x40).take 0x63C0) ≠ leAt data 0x3C 4) :
    exec (.ctxData 0 off data 2) s = .next s := by
  have hexec : exec (.ctxData 0 off data 2) s = answer s (takeReference data s) := exec_ctxData hmember hcore hinbox hfw 0 off data 2
  rw [takeReference, if_neg fun h => hcrc h.2.2] at hexec
  exact hexec.trans (answer_of_eq _ _ hm rfl rfl)

end References

/-! ### Firmware (07 R229, 12 R368, 19 R497) -/

section Firmware

variable {s : State} (hmember : s.isMember = true) (hlink : s.clk.link = true) (hcore : s.clk.core = true) (hm : s.memOk) (hquiet : s.arr.quiet = [])
  (hinbox : s.crl.inbox = []) {data : List Byte} {crc level : Nat}

include hmember hcore hinbox in
theorem exec_fwData (update : Bool) : exec (.fwData data crc level update) s = answer s (if update then
    (if s.fwRuns then takeUpdate data crc level s else s) else takeFirmware data crc level s) := by
  have hexec : exec (.fwData data crc level update) s = execFwData data crc level update s := rfl
  rw [hexec, execFwData, if_neg (by simp [hmember, hcore])]
  dsimp only
  rw [consume_empty hinbox]

section Update

variable (hfw : s.fwRuns = true) {num : Nat} {d : Desc} (hstaging : s.ctx.staging = [(num, d)]) (hop : d.opcode = 0x51)
  (hlen : data.length ≤ 0x20000)

/-- The staged update of a member: its image stands in the capture area and its command is done with. -/
def withUpdate (data : List Byte) (s : State) : State :=
  { s with ctx.staging := [], cap.held := none, cap.copied := [], mem := s.mem.write captureStaging data }

include hstaging hop hlen in
theorem takeUpdate_eq : takeUpdate data crc level s = if crc32 data ≠ crc ∨ 0x20000 < data.length then partDone num 0x0B 0 0 (withUpdate data s)
    else partDone num 0 0 (if bit d.p2 0 then d.p1 else add32 s.epoch 8) { withUpdate data s with
      boot.staged := some (data.length, crc, level), boot.stagedAt := some (if bit d.p2 0 then d.p1 else add32 s.epoch 8) } := by
  have hfind : s.ctx.staging.find? (fun p => p.2.opcode == 0x51) = some (num, d) := by rw [hstaging, List.find?_cons, hop]; rfl
  have hrest : s.ctx.staging.filter (fun q => q.1 != num) = [] := by simp [hstaging]
  unfold takeUpdate
  rw [hfind]
  dsimp only
  rw [hrest, List.take_of_length_le (by omega)]
  rfl

include hmember hlink hcore hm hquiet hinbox hfw hstaging hop hlen

theorem completes_update_staged (hcrc : crc32 data = crc) (hp2 : d.p2 = 1) : Completes (.fwData data crc level true) s (fun t =>
    t.boot.staged = some (data.length, crc, level) ∧ t.boot.stagedAt = some d.p1 ∧
    ((t.crl.up.q1 ++ t.crl.dn.q1).any (fun x => x.msg == .cpl num 0 0 d.p1)) = true ∧ t.mem.read captureStaging data.length = data ∧
    t.ctx.staging = []) := by
  have hexec := exec_fwData hmember hcore hinbox (data := data) (crc := crc) (level := level) true
  have hat : (if bit d.p2 0 then d.p1 else add32 s.epoch 8) = d.p1 := by rw [hp2]; rfl
  obtain ⟨c, hdone, htold⟩ := partDone_told (s := { withUpdate data s with
    boot.staged := some (data.length, crc, level), boot.stagedAt := some d.p1 }) hmember hlink hquiet num 0 0 d.p1
  rw [if_pos rfl, if_pos hfw, takeUpdate_eq hstaging hop hlen, if_neg (by omega), hat, hdone] at hexec
  exact completes_answer_wf hexec (Memory.write_wf _ _ _ hm) ⟨rfl, rfl, htold, Memory.read_write_same hm _ _, rfl⟩

theorem completes_update_refused (hcrc : crc32 data ≠ crc) : Completes (.fwData data crc level true) s (fun t => t.boot = s.boot ∧
    ((t.crl.up.q1 ++ t.crl.dn.q1).any (fun x => x.msg == .cpl num 0x0B 0 0)) = true) := by
  have hexec := exec_fwData hmember hcore hinbox (data := data) (crc := crc) (level := level) true
  obtain ⟨c, hdone, htold⟩ := partDone_told (s := withUpdate data s) hmember hlink hquiet num 0x0B 0 0
  rw [if_pos rfl, if_pos hfw, takeUpdate_eq hstaging hop hlen, if_pos (.inl hcrc), hdone] at hexec
  exact completes_answer_wf hexec (Memory.write_wf _ _ _ hm) ⟨rfl, htold⟩

end Update

theorem applyGpio_eq (s : State) : ∃ g, applyGpio s = { s with pwr.gpio := g } := by
  unfold applyGpio
  split
  · exact ⟨_, rfl⟩
  · exact ⟨s.pwr.gpio, rfl⟩

theorem startDefaultApplet_eq (s : State) : ∃ k, startDefaultApplet s = { s with
    pwr.dfltApplet := true, pwr.taps := [], pwr.lifted := [], core1 := k, mbx.run := true } := by
  unfold startDefaultApplet
  cases hrun : s.mbx.run with
  | true => exact ⟨s.core1, by rw [core1Run, if_pos hrun, ← hrun]⟩
  | false =>
    obtain ⟨k, h, -⟩ := core1Run_eq (s := { s with pwr.dfltApplet := true, pwr.taps := [], pwr.lifted := [] }) hrun
    exact ⟨k, h⟩

section Start

variable (hphase : s.boot.phase = .waitFw)

include hmember hlink hcore hm hquiet hinbox hphase

theorem completes_firmware_started (hlen : data.length ≤ 0x20000) (hcrc : crc32 data = crc) : Completes (.fwData data crc level false) s (fun t =>
    t.boot.phase = .running ∧ t.boot.ready = true ∧ t.boot.fwvalid = true ∧ t.boot.level = level ∧ t.boot.source = 2 ∧
    t.mem.read 0x10000000 data.length = data ∧ ((t.crl.up.q1 ++ t.crl.dn.q1).any (fun x => x.msg == .ready level)) = true) := by
  have hexec := exec_fwData hmember hcore hinbox (data := data) (crc := crc) (level := level) false
  have htake : takeFirmware data crc level s = startMember data.length crc level (s.put codeBase data) := by
    unfold takeFirmware
    rw [if_neg (by simp [hphase]), if_pos ⟨hcrc, hlen⟩, if_neg (by simp [hphase])]
  rw [if_neg Bool.false_ne_true, htake, startMember, State.put, startImage] at hexec
  dsimp only at hexec
  obtain ⟨g, hgpio⟩ := applyGpio_eq { s with
    core0 := { s.core0 with brm := false, pc := BitVec.ofNat 32 codeBase, ld := none, slot := [], waiting := false }
    mem := s.mem.write codeBase data
    parBad := s.parBad.filter (fun x => decide (x < codeBase) || decide (codeBase + data.length ≤ x))
    boot := { s.boot with phase := .running, fwLen := data.length, fwCrc := crc, level := level, source := 2, ready := true, fwvalid := true
                          fwRetried := false } }
  rw [hgpio] at hexec
  generalize hu : ({ s with
    core0 := { s.core0 with brm := false, pc := BitVec.ofNat 32 codeBase, ld := none, slot := [], waiting := false }
    mem := s.mem.write codeBase data
    parBad := s.parBad.filter (fun x => decide (x < codeBase) || decide (codeBase + data.length ≤ x))
    boot := { s.boot with phase := .running, fwLen := data.length, fwCrc := crc, level := level, source := 2, ready := true, fwvalid := true
                          fwRetried := false }
    pwr.gpio := g } : State) = u at hexec
  obtain ⟨k, happlet⟩ := startDefaultApplet_eq u
  rw [happlet] at hexec
  subst hu
  obtain ⟨c, hsend, htold⟩ := sendMsg_told (s := { s with
    core0 := { s.core0 with brm := false, pc := BitVec.ofNat 32 codeBase, ld := none, slot := [], waiting := false }
    mem := s.mem.write codeBase data
    parBad := s.parBad.filter (fun x => decide (x < codeBase) || decide (codeBase + data.length ≤ x))
    boot := { s.boot with phase := .running, fwLen := data.length, fwCrc := crc, level := level, source := 2, ready := true, fwvalid := true
                          fwRetried := false }
    pwr := { s.pwr with gpio := g, dfltApplet := true, taps := [], lifted := [] }
    core1 := k, mbx.run := true }) hlink hquiet (.ready level)
  exact completes_answer_wf (hexec.trans (congrArg (answer s) hsend)) (Memory.write_wf _ _ _ hm)
    ⟨rfl, rfl, rfl, rfl, rfl, Memory.read_write_same hm _ _, htold⟩

/-- Firmware that fails its check is asked for once more. -/
theorem completes_firmware_again (hcrc : crc32 data ≠ crc) (hfirst : s.boot.fwRetried = false) : Completes (.fwData data crc level false) s (fun t =>
    t.boot = { s.boot with fwRetried := true } ∧ ((t.crl.up.q1 ++ t.crl.dn.q1).any (fun x => x.msg == .ready 0)) = true ∧ t.mem = s.mem) := by
  have hexec := exec_fwData hmember hcore hinbox (data := data) (crc := crc) (level := level) false
  obtain ⟨c, hsend, htold⟩ := sendMsg_told (s := { s with boot.fwRetried := true }) hlink hquiet (.ready 0)
  have htake : takeFirmware data crc level s = sendMsg 1 0 (.ready 0) { s with boot.fwRetried := true } := by
    unfold takeFirmware
    rw [if_neg (by simp [hphase]), if_neg fun h => hcrc h.1, if_neg (by simp [hfirst])]
  rw [if_neg Bool.false_ne_true, htake, hsend] at hexec
  exact completes_answer_wf hexec hm ⟨rfl, htold, rfl⟩

omit hlink hquiet in
theorem exec_firmware_dropped (hcrc : crc32 data ≠ crc) (hagain : s.boot.fwRetried = true) : exec (.fwData data crc level false) s = .next s := by
  have hexec := exec_fwData hmember hcore hinbox (data := data) (crc := crc) (level := level) false
  have htake : takeFirmware data crc level s = s := by
    unfold takeFirmware
    rw [if_neg (by simp [hphase]), if_neg fun h => hcrc h.1, if_pos hagain]
  rw [if_neg Bool.false_ne_true, htake] at hexec
  exact hexec.trans (answer_of_eq _ _ hm rfl rfl)

end Start

end Firmware

end Sys2Proof.Machine

open Sys2Proof Sys2Proof.Machine

/-- Settles O56: each message by what its handler leaves of a member that has nothing else waiting. -/
theorem membersObeyTheRoot : Obligations.MembersObeyTheRoot := by
  unfold Obligations.MembersObeyTheRoot
  intro num crc level off d data s hmember hlink hcore hm hquiet hinbox
  refine ⟨fun hfw => ⟨fun hop hroom => ?_, fun hop => ?_, fun hop => ?_, fun hnum hempty => ?_, fun hstaging hop hlen hfit hinit hslots => ?_,
    fun hlen hslots hcrc hpend => ⟨fun h => ?_, fun h => ?_⟩, fun hformat htile => ⟨fun hcrc => ?_, fun hcrc => ?_⟩,
    fun hstaging hop hlen => ⟨fun hcrc hp2 => ?_, fun hcrc => ?_⟩⟩, fun hphase hlen => ⟨fun hcrc => ?_, fun hcrc hfirst => ?_, fun hcrc hagain => ?_⟩⟩
  · exact completes_mailboxSend hmember hlink hm hquiet hinbox hfw hop hroom
  · exact completes_lineTest hmember hlink hm hinbox hfw hop
  · exact completes_refused hmember hlink hm hquiet hinbox hfw hop
  · exact completes_prepare_empty hmember hlink hm hquiet hinbox hfw hnum hempty
  · exact completes_piece hmember hlink hcore hm hquiet hinbox hfw hstaging hop hlen hfit hinit hslots
  · exact completes_image_waits hmember hcore hm hinbox hfw hlen hcrc h
  · exact completes_image_taken hmember hcore hm hinbox hfw hlen hslots hcrc hpend h
  · exact exec_reference_kept hmember hcore hm hinbox hfw hformat htile hcrc
  · exact exec_reference_dropped hmember hcore hm hinbox hfw hcrc
  · exact completes_update_staged hmember hlink hcore hm hquiet hinbox hfw hstaging hop hlen hcrc hp2
  · exact completes_update_refused hmember hlink hcore hm hquiet hinbox hfw hstaging hop hlen hcrc
  · exact completes_firmware_started hmember hlink hcore hm hquiet hinbox hphase hlen hcrc
  · exact completes_firmware_again hmember hlink hcore hm hquiet hinbox hphase hcrc hfirst
  · exact exec_firmware_dropped hmember hcore hm hinbox hphase hcrc hagain
end

section
/-! The tracker on a decoded frame (06 R164, R167 to R173, R176, R178). -/

namespace Sys2Proof.Machine

/-! ### What the tracker's parts leave -/

/-- The tracker at work on a frame: the frame, the RAMs and the role stand, and the report is of the same frame, discarded or not. -/
def Tracked (s t : State) : Prop :=
  t.chn = s.chn ∧ t.mem = s.mem ∧ t.boot = s.boot ∧ t.trk.report.epoch = s.trk.report.epoch ∧ t.trk.report.discard = s.trk.report.discard

theorem Tracked.refl (s : State) : Tracked s s := ⟨rfl, rfl, rfl, rfl, rfl⟩

theorem Tracked.trans {s t u : State} (h : Tracked s t) (h' : Tracked t u) : Tracked s u := by
  obtain ⟨hc, hm, hb, he, hd⟩ := h
  obtain ⟨hc', hm', hb', he', hd'⟩ := h'
  exact ⟨hc'.trans hc, hm'.trans hm, hb'.trans hb, he'.trans he, hd'.trans hd⟩

/-- Segmentation at work on a frame: beside that, the table, the counter of the contact IDs and those lent stand. -/
def Found (s t : State) : Prop :=
  Tracked s t ∧ t.trk.tab = s.trk.tab ∧ t.trk.openCtr = s.trk.openCtr ∧ t.crl.lent = s.crl.lent ∧ t.cal.releases = s.cal.releases

theorem Found.refl (s : State) : Found s s := ⟨Tracked.refl s, rfl, rfl, rfl, rfl⟩

theorem Found.trans {s t u : State} (h : Found s t) (h' : Found t u) : Found s u := by
  obtain ⟨ht, htab, hc, hl, hr⟩ := h
  obtain ⟨ht', htab', hc', hl', hr'⟩ := h'
  exact ⟨ht.trans ht', htab'.trans htab, hc'.trans hc, hl'.trans hl, hr'.trans hr⟩

theorem Aside.found {s t : State} (h : Aside s t) : Found s t := by
  obtain ⟨_, _, _, _, _, _, _, _, _, _, rfl, ⟨⟨_, _, _, _, rfl⟩, -⟩, -⟩ := h
  exact ⟨⟨rfl, rfl, rfl, rfl, rfl⟩, rfl, rfl, rfl, rfl⟩

theorem tokenDets_none {w : View} {v : SelfView} {q : TrkParams} {slot : Nat} {sus : List Node} {s : State} (hbad : s.tok.bad = true) :
    tokenDets w v q slot sus s = ([], { s with trk.ncand := 0, trk.ntok := 0 }) := by
  unfold tokenDets
  dsimp only
  split
  · rfl
  · rw [if_pos hbad]

/-- A fold over a pair whose second part is a state. -/
theorem foldl_found {α β : Type} {f : β × State → α → β × State} (hf : ∀ a x, Found a.2 (f a x).2) (l : List α) (a : β × State) :
    Found a.2 (l.foldl f a).2 := by
  induction l generalizing a with
  | nil => exact Found.refl _
  | cons x l ih => exact (hf a x).trans (ih _)

theorem withTokens_found (s : State) (a b c d n : Nat) (skip : Bool) : Found s { s with
    trk.candcap := a, trk.clustcap := b, trk.ncand := c, trk.ntok := d, trk.report.tokenSkip := skip, trk.report.ntoken := n } :=
  ⟨⟨rfl, rfl, rfl, rfl, rfl⟩, rfl, rfl, rfl, rfl⟩

theorem withWet_found (s : State) (wet : Bool) (a b : Nat) : Found s { s with trk.wet := wet, trk.dryCnt := a, trk.waterW := b } :=
  ⟨⟨rfl, rfl, rfl, rfl, rfl⟩, rfl, rfl, rfl, rfl⟩

theorem tokenDets_found (w : View) (v : SelfView) (q : TrkParams) (slot : Nat) (sus : List Node) (s : State) :
    Found s (tokenDets w v q slot sus s).2 := by
  unfold tokenDets
  dsimp only
  split
  · exact Found.refl s
  · split
    · exact Found.refl s
    · refine Found.trans (foldl_found ?_ _ (([], s) : List Det × State)) (withTokens_found _ _ _ _ _ _ _)
      intro a g
      split
      · exact Found.refl _
      · exact ⟨⟨rfl, rfl, rfl, rfl, rfl⟩, rfl, rfl, rfl, rfl⟩

theorem wetState_found (slot w : Nat) (s : State) : Found s (wetState slot w s) := by
  unfold wetState
  extract_lets wet n next src t
  have ht : Found s t := withWet_found s _ _ _
  exact iteInduction (motive := Found s) (fun _ => ht) fun _ => ht.trans (postEventAt_aside _ _ _ _ t).found

/-- A blob's measures join those of the blobs before it (06 R165). -/
def blobStep (w : View) (q : TrkParams) (removed sus : List Node) (a : List Det × State) (b : Blob) : List Det × State :=
  let d := blobDet w (q.touch / 2) q.aspect removed sus b a.2
  (a.1 ++ [d.1], d.2)

theorem blobStep_found (w : View) (q : TrkParams) (removed sus : List Node) (a : List Det × State) (b : Blob) :
    Found a.2 (blobStep w q removed sus a b).2 := ⟨⟨rfl, rfl, rfl, rfl, rfl⟩, rfl, rfl, rfl, rfl⟩

theorem rebuildTab_tracked (par : List ParityHit) (s : State) : Tracked s (rebuildTab par s) := by
  unfold rebuildTab
  dsimp only
  split
  · exact ⟨rfl, rfl, rfl, rfl, rfl⟩
  · exact Tracked.trans ⟨rfl, rfl, rfl, rfl, rfl⟩
      (foldl_chains (f := fun u (x : Nat × Track) => putTrack x.1 x.2 u) Tracked.refl (fun _ _ _ => Tracked.trans) (fun t x => ⟨rfl, rfl, rfl, rfl, rfl⟩) _ _)

theorem matchTracks_tracked (q : TrkParams) (p : Params) (rebuilt : Bool) (ds : List Det) (asg : List (Nat × Nat)) (s : State) :
    Tracked s (matchTracks q p rebuilt ds asg s) := by
  refine foldl_chains Tracked.refl (fun _ _ _ => Tracked.trans) (fun t x => ?_) _ _
  split
  · split
    · exact ⟨rfl, rfl, rfl, rfl, rfl⟩
    · exact Tracked.refl t
  · split
    · split
      · exact ⟨rfl, rfl, rfl, rfl, rfl⟩
      · exact Tracked.refl t
    · exact ⟨rfl, rfl, rfl, rfl, rfl⟩

theorem oldHover_tracked (q : TrkParams) (slot : Nat) (v : Option HoverView) (opens : List (Nat × Det)) (s : State) :
    Tracked s (oldHover q slot v opens s).2 := by
  unfold oldHover
  split
  · exact Tracked.refl s
  · dsimp only
    split
    · exact ⟨rfl, rfl, rfl, rfl, rfl⟩
    · split
      · exact ⟨rfl, rfl, rfl, rfl, rfl⟩
      · exact ⟨rfl, rfl, rfl, rfl, rfl⟩
    · exact ⟨rfl, rfl, rfl, rfl, rfl⟩

theorem openDet_tracked (q : TrkParams) (d : Det) (a : State × List Rec) : Tracked a.1 (openDet q d a).1 := by
  unfold openDet
  dsimp only
  split
  · exact ⟨rfl, rfl, rfl, rfl, rfl⟩
  · split
    · exact ⟨rfl, rfl, rfl, rfl, rfl⟩
    · exact ⟨rfl, rfl, rfl, rfl, rfl⟩

theorem openDets_tracked {α : Type} (q : TrkParams) (f : α → Det) (l : List α) (a : State × List Rec) :
    Tracked a.1 (l.foldl (fun a d => openDet q (f d) a) a).1 := by
  induction l generalizing a with
  | nil => exact Tracked.refl _
  | cons x l ih => exact (openDet_tracked q (f x) a).trans (ih _)

theorem withCand_tracked (s : State) (n : Nat) : Tracked s { s with trk.hoverCand := n } := ⟨rfl, rfl, rfl, rfl, rfl⟩

theorem newHover_tracked (slot : Nat) (had : Bool) (v : Option HoverView) (s : State) : Tracked s (newHover slot had v s) := by
  unfold newHover
  split
  · dsimp only
    split
    · exact ⟨rfl, rfl, rfl, rfl, rfl⟩
    · split
      · exact ⟨rfl, rfl, rfl, rfl, rfl⟩
      · exact ⟨rfl, rfl, rfl, rfl, rfl⟩
  · exact ⟨rfl, rfl, rfl, rfl, rfl⟩

theorem partDone_tracked (num code r0 r1 : Nat) (s : State) : Tracked s (partDone num code r0 r1 s) := by
  obtain ⟨c, q, l, h⟩ := partDone_eq num code r0 r1 s
  rw [h]
  exact ⟨rfl, rfl, rfl, rfl, rfl⟩

theorem markReleases_tracked (s : State) : Tracked s (markReleases s) := by
  refine foldl_chains Tracked.refl (fun _ _ _ => Tracked.trans) (fun t x => ?_) _ _
  have hlost := Tracked.trans (s := t) ⟨rfl, rfl, rfl, rfl, rfl⟩
    (partDone_tracked x.cmd 0x0D t.chn.prev.epoch 0 { t with cal.releases := t.cal.releases.filter (· != x) })
  dsimp only
  split
  · split
    · exact hlost
    · exact ⟨rfl, rfl, rfl, rfl, rfl⟩
  · exact hlost

/-! ### Still tracks -/

/-- What a track is, beside its place among the reports and its still time. -/
def Track.core (t : Track) : Nat × Nat × Nat × Int × Int × Int × Int × Nat := (t.id, t.cls, t.coast, t.vx, t.vy, t.x, t.y, t.status)

theorem stillTrack_spec (us radius limit i : Nat) (t : Track) (s : State) : ∃ t', t'.core = t.core ∧
    Aside { s with trk.tab := s.trk.tab.set i (some t') } (stillTrack us radius limit i t s) := by
  unfold stillTrack
  dsimp only
  split
  · exact ⟨_, by rfl, Aside.refl _⟩
  · split
    · exact ⟨_, by rfl, Aside.refl _⟩
    · split
      · exact ⟨_, by rfl, postEventAt_aside ..⟩
      · exact ⟨_, by rfl, Aside.refl _⟩

/-- Still times change tracks alone. -/
theorem stillAll_spec (s : State) : Tracked s (stillAll s) ∧ (stillAll s).trk.prevRecs = s.trk.prevRecs := by
  refine foldl_chains (r := fun s t => Tracked s t ∧ t.trk.prevRecs = s.trk.prevRecs) (fun s => ⟨Tracked.refl s, rfl⟩)
    (fun _ _ _ h h' => ⟨h.1.trans h'.1, h'.2.trans h.2⟩) (fun t x => ?_) _ _
  obtain ⟨t', -, h⟩ := stillTrack_spec s.chn.prev.us (s.ctxField (s.params s.chn.prev.epoch).ctx 0x312 2)
    (s.ctxField (s.params s.chn.prev.epoch).ctx 0x310 2) x.1 x.2 t
  exact ⟨Tracked.trans (s := t) ⟨rfl, rfl, rfl, rfl, rfl⟩ h.found.1, (congrArg Tracker.prevRecs h.trk_eq.1).trans rfl⟩

/-! ### A frame with a report of its own -/

/-- The tile is alone: no seam has fragments. -/
theorem seams_standalone {s : State} (h : s.boot.role = .standalone) : s.seams = [] := by rw [State.seams, if_pos h]

/-- The last of a frame's tracking before its report. -/
def endFrame (p : Params) (s : State) : State := { remask p (stillAll (markReleases s)) with trk.frags := [] }

theorem remask_tracked (p : Params) (s : State) : Tracked s { remask p s with trk.frags := [] } := ⟨rfl, rfl, rfl, rfl, rfl⟩

theorem endFrame_tracked (p : Params) (s : State) : Tracked s (endFrame p s) :=
  ((markReleases_tracked s).trans (stillAll_spec _).1).trans (remask_tracked p _)

/-- A valid frame of a tile of its own ends with its report, of its epoch. -/
theorem validFrame_ends (us : Nat) (par : List ParityHit) {s : State} (hrole : s.boot.role = .standalone) : ∃ ex t,
    validFrame us par s = finishReport ex t ∧ t.chn = s.chn ∧ t.mem = s.mem ∧ t.trk.report.epoch = s.chn.prev.epoch ∧ t.trk.report.discard = false := by
  unfold validFrame
  extract_lets +onlyGivenNames p q m w v sus held rebuilt s1
  have h1 : Tracked s s1 := by
    cases hr : rebuilt with
    | true => exact Eq.subst (motive := Tracked s) (if_pos hr).symm (rebuildTab_tracked par s)
    | false => exact Eq.subst (motive := Tracked s) (if_neg (ne_true_of_eq_false hr)).symm (Tracked.refl s)
  obtain ⟨hchn1, hmem1, hboot1, -⟩ := h1
  clear_value s1 rebuilt held sus v m
  extract_lets +onlyGivenNames src1 s2
  have h2 : s2.chn = s.chn ∧ s2.mem = s.mem ∧ s2.boot = s.boot ∧ s2.trk.report.discard = false := ⟨hchn1, hmem1, hboot1, rfl⟩
  clear_value s2
  extract_lets +onlyGivenNames tok s3
  have h3 : Tracked s2 s3 := (tokenDets_found w v q p.ctx sus s2).1
  clear_value s3 tok
  extract_lets +onlyGivenNames taken water s4
  have h4 : Tracked s3 s4 := (wetState_found p.ctx water.length s3).1
  clear_value s4
  extract_lets +onlyGivenNames removed free touch seg bl ds s5
  have h5 : Tracked s4 s5 := (foldl_found (blobStep_found w q removed sus) seg.1 ([], s4)).1
  clear_value s5 ds seg
  extract_lets +onlyGivenNames hdr h src2 s6
  have h6 : s6.chn = s5.chn ∧ s6.mem = s5.mem ∧ s6.boot = s5.boot ∧ s6.trk.report.epoch = s5.chn.prev.epoch ∧ s6.trk.report.discard = false :=
    ⟨rfl, rfl, rfl, rfl, rfl⟩
  clear_value s6
  extract_lets +onlyGivenNames ids asg s7
  have h7 : Tracked s6 s7 := matchTracks_tracked q p rebuilt ds asg s6
  clear_value s7 asg ids
  extract_lets +onlyGivenNames hv on cand
  clear_value cand on hv
  extract_lets +onlyGivenNames src3 s8
  have h8 : Tracked s7 s8 := ⟨rfl, rfl, rfl, rfl, rfl⟩
  clear_value s8
  extract_lets +onlyGivenNames opens had oh
  have hold : Tracked s8 oh.2 := oldHover_tracked q p.ctx hv opens s8
  clear_value oh
  extract_lets +onlyGivenNames order op
  have hopen : Tracked oh.2 op.1 := openDets_tracked q (·.2) order (oh.2, [])
  clear_value op
  extract_lets +onlyGivenNames s9
  have h9 : Tracked op.1 s9 := newHover_tracked p.ctx had (if on then hv else none) op.1
  clear_value s9
  extract_lets s10 s11
  obtain ⟨hchn2, hmem2, hboot2, -⟩ := h2
  obtain ⟨hchn5, hmem5, hboot5, -⟩ := (h3.trans h4).trans h5
  obtain ⟨hchn6, hmem6, hboot6, hepoch6, hdis6⟩ := h6
  obtain ⟨hchn, hmem, hboot, hepoch, hdis⟩ := ((((h7.trans h8).trans hold).trans hopen).trans h9).trans (endFrame_tracked p s9)
  have hseams : s11.seams = [] :=
    seams_standalone ((congrArg (·.role) (hboot.trans (hboot6.trans (hboot5.trans hboot2)))).trans hrole)
  refine ⟨op.2, endFrame p s9, if_pos (by rw [hseams]; rfl), hchn.trans (hchn6.trans (hchn5.trans hchn2)), hmem.trans (hmem6.trans (hmem5.trans hmem2)),
    hepoch.trans (hepoch6.trans ?_), hdis.trans hdis6⟩
  rw [hchn5, hchn2]

/-! ### A frame without tokens, water and hover -/

/-- The tracks take the detections of a frame and the others open tracks, where no hover is. -/
def plainTracks (q : TrkParams) (p : Params) (ds : List Det) (s : State) : State :=
  let ids := List.zip (List.range ds.length) ds
  let asg := assign (matchPairs q p q.radius s.tracks ids)
  let opens := ids.filter (fun d => !asg.any (fun a => a.2 == d.1) && (d.2.token || decide (q.on ≤ d.2.peak)))
  ((opens.mergeSort (fun a b => decide (b.2.peak < a.2.peak) || (a.2.peak == b.2.peak && decide (a.1 ≤ b.1)))).foldl
    (fun a d => openDet q d.2 a) ({ matchTracks q p false ds asg s with trk.hoverCand := 0 }, [])).1

/-- The delta frame as the tracker reads it. -/
def viewOf (e d c : Nat) (s : State) : View := { d := d, c := c, cols := s.deltaCols e d c }

/-- What a frame of a tile of its own comes to where tokens, water and hover are off: `u` after segmentation. -/
theorem validFrame_plain (us : Nat) {s : State} (hrole : s.boot.role = .standalone) (hrebuild : s.trk.rebuild = false) (htok : s.tok.bad = true)
    (hhover : s.ctxField (s.params s.chn.prev.epoch).ctx 0x2EB 1 = 0) (hpolicy : s.ctxField (s.params s.chn.prev.epoch).ctx 0x2E2 1 = 0) :
    let p := s.params s.chn.prev.epoch
    let q := s.trkParams p.ctx
    let w := viewOf s.chn.prev.epoch p.d p.s s
    ∃ (sus : List Node) (r u t : State) (ex : List Rec), u.trk.tab = (freshTab s).trk.tab ∧ u.trk.openCtr = s.trk.openCtr ∧ u.crl.lent = s.crl.lent ∧
      u.boot = s.boot ∧ validFrame us [] s = finishReport ex (endFrame p t) ∧ (u.cal.releases = s.cal.releases) ∧
      let ds := ((blobsOf w q.split q.off (w.above q.touch)).1.foldl (blobStep w q [] sus) ([], r)).1
      ((matchTracks q p false ds (assign (matchPairs q p q.radius u.tracks (List.zip (List.range ds.length) ds))) u).hover = none →
        t = { plainTracks q p ds u with trk.hoverUp := false }) := by
  intro p q w
  unfold validFrame
  extract_lets +onlyGivenNames m w' v sus held rebuilt s1
  have h1 : s1 = s := if_neg (by rw [show rebuilt = false from hrebuild]; exact Bool.false_ne_true)
  have hfalse : rebuilt = false := hrebuild
  have hw : w' = w := rfl
  clear_value s1 rebuilt held sus v w' m
  subst hw h1 hfalse
  extract_lets +onlyGivenNames src1 s2 tok s3
  have htok2 : tok = ([], { s2 with trk.ncand := 0, trk.ntok := 0 }) := tokenDets_none htok
  have h2 : s2.trk.tab = (freshTab s1).trk.tab ∧ s2.trk.openCtr = s1.trk.openCtr ∧ s2.crl.lent = s1.crl.lent ∧ s2.boot = s1.boot ∧
    s2.cal.releases = s1.cal.releases ∧ s2.mem = s1.mem ∧ s2.chn = s1.chn := ⟨rfl, rfl, rfl, rfl, rfl, rfl, rfl⟩
  have h3 : Found s2 s3 := (tokenDets_found w v q p.ctx sus s2)
  have hnone : tok.1 = [] := congrArg Prod.fst htok2
  clear_value s3 tok s2
  extract_lets +onlyGivenNames taken water s4
  have h4 : Found s3 s4 := wetState_found p.ctx water.length s3
  have htaken : taken = [] := by rw [show taken = tok.1.flatMap (·.nodes) from rfl, hnone]; rfl
  clear_value s4 water taken
  subst htaken
  extract_lets +onlyGivenNames removed free touch
  have hzero : q.policy = 0 := hpolicy
  have hremoved : removed = [] := if_pos hzero
  have hfree : free = q.touch := if_neg fun h => by omega
  have htouch : touch = w.above q.touch := by
    refine List.filter_eq_self.2 fun n hn => ?_
    rw [hremoved, hfree, (List.mem_filter.1 hn).2, Bool.or_true]
    rfl
  clear_value touch free removed
  subst htouch hfree hremoved
  extract_lets +onlyGivenNames seg bl ds s5
  have h5 : Found s4 s5 := foldl_found (blobStep_found w q [] sus) seg.1 ([], s4)
  have hds : ds = ((blobsOf w q.split q.off (w.above q.touch)).1.foldl (blobStep w q [] sus) ([], s4)).1 := by
    rw [show ds = bl.1 ++ tok.1 from rfl, hnone, List.append_nil]
    rfl
  clear_value s5 ds seg
  extract_lets +onlyGivenNames hdr h src2 s6
  have h6 : s6.trk.tab = s5.trk.tab ∧ s6.trk.openCtr = s5.trk.openCtr ∧ s6.crl.lent = s5.crl.lent ∧ s6.boot = s5.boot ∧
    s6.cal.releases = s5.cal.releases ∧ s6.mem = s5.mem ∧ s6.chn = s5.chn := ⟨rfl, rfl, rfl, rfl, rfl, rfl, rfl⟩
  clear_value s6
  extract_lets +onlyGivenNames ids asg s7
  have h7 : Tracked s6 s7 := matchTracks_tracked q p false ds asg s6
  have hs7 : s7 = matchTracks q p false ds asg s6 := rfl
  clear_value s7
  extract_lets +onlyGivenNames hv on
  have hctx : s7.mem = s1.mem := by
    obtain ⟨-, hm3, -⟩ := (h3.trans (h4.trans h5)).1
    obtain ⟨-, -, -, -, -, hm2, -⟩ := h2
    obtain ⟨-, -, -, -, -, hm6, -⟩ := h6
    obtain ⟨-, hm7, -⟩ := h7
    exact hm7.trans (hm6.trans (hm3.trans hm2))
  have hon : on = false := by
    rw [show on = (s7.mem.le (ctxBase + 0x800 * p.ctx + 0x2EB) 1 == 1) from rfl, hctx]
    exact beq_false_of_ne (ne_of_eq_of_ne hhover (by norm_num))
  clear_value on hv
  subst hon
  extract_lets +onlyGivenNames cand src3 s8
  have hs8 : s8 = { s7 with trk.hoverCand := 0 } := rfl
  clear_value s8 cand
  subst hs8
  extract_lets +onlyGivenNames opens had oh
  have hoh : s7.hover = none → oh = (opens, { s7 with trk.hoverCand := 0 }) := fun hh => by
    have hstill : ({ s7 with trk.hoverCand := 0 } : State).hover = none := hh
    rw [show oh = oldHover q p.ctx hv opens { s7 with trk.hoverCand := 0 } from rfl, oldHover, hstill]
  have hold : Tracked s7 oh.2 := (withCand_tracked s7 0).trans (oldHover_tracked q p.ctx hv opens _)
  clear_value oh had
  extract_lets +onlyGivenNames order op
  have hopen : Tracked oh.2 op.1 := openDets_tracked q (·.2) order (oh.2, [])
  have hop : s7.hover = none → op.1 = plainTracks q p ds s6 := fun hh => by
    rw [show op = order.foldl (fun a d => openDet q d.2 a) (oh.2, []) from rfl, show order = oh.1.mergeSort _ from rfl, hoh hh, hs7]
    rfl
  clear_value op
  extract_lets +onlyGivenNames s9
  have h9 : s9 = { op.1 with trk.hoverUp := false } := rfl
  have hupright : s9.boot = op.1.boot := rfl
  clear_value s9
  extract_lets +onlyGivenNames s10 s11
  obtain ⟨htab2, hctr2, hlent2, hboot2, hrel2, -⟩ := h2
  obtain ⟨⟨-, -, hboot5, -⟩, htab5, hctr5, hlent5, hrel5⟩ := h3.trans (h4.trans h5)
  obtain ⟨htab6, hctr6, hlent6, hboot6, hrel6, -⟩ := h6
  obtain ⟨-, -, hboot9, -⟩ := (h7.trans hold).trans hopen
  obtain ⟨-, -, hboot11, -⟩ := endFrame_tracked p s9
  have hboot : s6.boot = s1.boot := hboot6.trans (hboot5.trans hboot2)
  have hseams : s11.seams = [] :=
    seams_standalone ((congrArg (·.role) (hboot11.trans (hupright.trans (hboot9.trans hboot)))).trans hrole)
  refine ⟨sus, s4, s6, s9, op.2, htab6.trans (htab5.trans htab2), hctr6.trans (hctr5.trans hctr2), hlent6.trans (hlent5.trans hlent2), hboot,
    if_pos (by rw [hseams]; rfl), hrel6.trans (hrel5.trans hrel2), ?_⟩
  intro ds' hh
  have hds' : ds' = ds := hds.symm
  clear_value ds'
  subst hds'
  have hnohover : s7.hover = none := hs7 ▸ hh
  rw [h9, hop hnohover]

/-! ### A table with one track -/

/-- The table with one track alone, in entry `i`. -/
def oneTrack (i : Nat) (k : Track) : List (Option Track) := (List.replicate 64 none).set i (some k)

theorem filterMap_zip_none {n : Nat} (a : Nat) : (List.zip (List.range' a n) (List.replicate n none)).filterMap
    (fun p : Nat × Option Track => p.2.map (fun t => (p.1, t))) = [] := by
  induction n generalizing a with
  | zero => rfl
  | succ n ih => exact ih (a + 1)

theorem filterMap_zip_one {n i : Nat} (a : Nat) (hi : i < n) (k : Track) :
    (List.zip (List.range' a n) ((List.replicate n none).set i (some k))).filterMap
      (fun p : Nat × Option Track => p.2.map (fun t => (p.1, t))) = [(a + i, k)] := by
  induction n generalizing a i with
  | zero => omega
  | succ n ih =>
    cases i with
    | zero => exact congrArg ((a, k) :: ·) (filterMap_zip_none (a + 1))
    | succ i =>
      refine (ih (a + 1) (Nat.lt_of_succ_lt_succ hi)).trans ?_
      rw [Nat.add_right_comm, Nat.add_assoc]

theorem tracks_one {s : State} {i : Nat} (hi : i < 64) {k : Track} (h : s.trk.tab = oneTrack i k) : s.tracks = [(i, k)] := by
  rw [State.tracks, h, List.range_eq_range']
  refine (filterMap_zip_one 0 hi k).trans ?_
  rw [Nat.zero_add]

theorem map_oneTrack (f : Option Track → Option Track) (hf : f none = none) (i : Nat) (k k' : Track) (hk : f (some k) = some k') :
    (oneTrack i k).map f = oneTrack i k' := by
  rw [oneTrack, List.map_set, List.map_replicate, hf, hk, oneTrack]

theorem getD_oneTrack_same {i : Nat} (hi : i < 64) (k : Track) : (oneTrack i k).getD i none = some k := by
  rw [oneTrack, List.getD_eq_getElem?_getD, List.getElem?_set_self (by simpa using hi)]
  rfl

theorem getD_oneTrack_other {i j : Nat} (h : j ≠ i) (k : Track) : (oneTrack i k).getD j none = none := by
  rw [oneTrack, List.getD_eq_getElem?_getD, List.getElem?_set_ne (Ne.symm h), List.getElem?_replicate]
  split <;> rfl

theorem freshTab_one {s : State} {i : Nat} {k : Track} (h : s.trk.tab = oneTrack i k) (hk : k.status = 1) : ∃ k',
    (freshTab s).trk.tab = oneTrack i k' ∧ k'.core = k.core := by
  unfold freshTab
  dsimp only
  rw [h]
  exact ⟨_, map_oneTrack _ rfl i k _ (if_pos hk), rfl⟩

theorem freshTab_none {s : State} (h : s.trk.tab = List.replicate 64 none) : (freshTab s).trk.tab = List.replicate 64 none := by
  unfold freshTab
  dsimp only
  rw [h, List.map_replicate]
  rfl

/-- One track alone goes through the rest of the frame as it is. -/
theorem endFrame_one {p : Params} {t : State} {i : Nat} {k : Track} (hi : i < 64) (hrel : t.cal.releases = []) (htab : t.trk.tab = oneTrack i k) :
    ∃ k', (endFrame p t).trk.tab = oneTrack i k' ∧ k'.core = k.core ∧ (endFrame p t).trk.openCtr = t.trk.openCtr := by
  have hmark : markReleases t = t := by
    rw [markReleases, hrel]
    rfl
  rw [endFrame, hmark, stillAll, tracks_one hi htab]
  obtain ⟨k', hk', hstill⟩ := stillTrack_spec t.chn.prev.us (t.ctxField (t.params t.chn.prev.epoch).ctx 0x312 2)
    (t.ctxField (t.params t.chn.prev.epoch).ctx 0x310 2) i k t
  obtain ⟨-, htab', hctr, -⟩ := hstill.found
  refine ⟨k', htab'.trans ?_, hk', hctr⟩
  rw [htab]
  exact List.set_set ..

/-- What a report says of a track. -/
def noted (r : Report) (me : Nat) (t : Track) : Track :=
  match r.shown.find? (fun x => x.id == t.rid && decide (x.status < 2 ∨ x.status = 6)) with
  | some x => { t with reported := true, repX := x.x, repY := x.y, owner := some me, ridCls := some x.cls }
  | none => { t with reported := false, owner := t.nextOwner, ridCls := t.nextCls }

theorem noted_core (r : Report) (me : Nat) (t : Track) : (noted r me t).core = t.core := by
  unfold noted
  split <;> rfl

theorem finishReport_one {t : State} {i : Nat} {k : Track} (htab : t.trk.tab = oneTrack i k) (ex : List Rec) :
    ∃ k', (finishReport ex t).trk.tab = oneTrack i k' ∧ k'.core = k.core ∧ (finishReport ex t).trk.openCtr = t.trk.openCtr := by
  obtain ⟨g, d, l, h⟩ := finishReport_spec ex t
  obtain ⟨-, -, htrk, -⟩ := h.fields
  rw [htrk]
  have hnote : (noteReported (endReport ex t) t).trk.tab = t.trk.tab.map (Option.map (noted (endReport ex t) t.tile)) := rfl
  refine ⟨noted (endReport ex t) t.tile k, hnote.trans ?_, noted_core _ _ k, rfl⟩
  rw [htab]
  exact map_oneTrack _ rfl i k _ rfl

theorem report_one {p : Params} {t : State} {i : Nat} {k : Track} (hi : i < 64) (hrel : t.cal.releases = []) (htab : t.trk.tab = oneTrack i k)
    (ex : List Rec) : ∃ k', (finishReport ex (endFrame p t)).trk.tab = oneTrack i k' ∧ k'.core = k.core ∧
      (finishReport ex (endFrame p t)).trk.openCtr = t.trk.openCtr := by
  obtain ⟨k', htab', hk', hctr'⟩ := endFrame_one (p := p) hi hrel htab
  obtain ⟨k'', htab'', hk'', hctr''⟩ := finishReport_one htab' ex
  exact ⟨k'', htab'', hk''.trans hk', hctr''.trans hctr'⟩

/-! ### A frame without contacts (06 R169) -/

/-- A track that no detection takes coasts, and lifts when it has coasted long enough. -/
theorem coastTrack_core (q : TrkParams) (p : Params) {k : Track} (hcls : k.cls = 0) (hstatus : k.status = 1) :
    (coastTrack q p false [] k).core = (k.id, 0, k.coast + 1, 0, 0, k.x, k.y, if q.lift ≤ k.coast + 1 then 2 else 1) := by
  unfold coastTrack
  dsimp only
  have hlimit : (if k.cls = 3 then q.hold else q.lift) = q.lift := if_neg (by omega)
  rw [if_neg Bool.false_ne_true, if_neg (by simp), hlimit]
  rw [Track.core]
  split
  · rw [← hcls]
    rfl
  · rw [← hcls, ← hstatus]

theorem matchTracks_coast (q : TrkParams) (p : Params) {u : State} {i : Nat} {k : Track} (hi : i < 64) (htab : u.trk.tab = oneTrack i k) (hcls : k.cls = 0) :
    matchTracks q p false [] [] u = { u with trk.tab := oneTrack i (coastTrack q p false [] k) } := by
  unfold matchTracks
  rw [tracks_one hi htab, List.foldl_cons, List.foldl_nil]
  dsimp only
  rw [if_neg (by omega)]
  have hset : u.trk.tab.set i (some (coastTrack q p false [] k)) = oneTrack i (coastTrack q p false [] k) := by
    rw [htab]
    exact List.set_set ..
  rw [← hset]
  rfl

theorem hover_one {s : State} {i : Nat} (hi : i < 64) {k : Track} (h : s.trk.tab = oneTrack i k) (hcls : k.cls ≠ 4) : s.hover = none := by
  rw [State.hover, tracks_one hi h, List.find?_cons_of_neg (by simp [hcls])]
  rfl

theorem hover_none {s : State} (h : s.trk.tab = List.replicate 64 none) : s.hover = none := by
  rw [State.hover, tracks_none h]
  rfl

/-! ### The delta frame with at most one node (06 R162 to R164) -/

section Delta

variable {s : State} (hm : s.memOk) {d c : Nat}

theorem leNat_zeros {l : List Byte} (h : ∀ x ∈ l, x = 0#8) : leNat l = 0 := by
  induction l with
  | nil => rfl
  | cons b l ih =>
    rw [leNat, ih fun x hx => h x (List.mem_cons_of_mem b hx), h b List.mem_cons_self]
    rfl

include hm in
theorem leI_zero {a : Nat} (h : s.mem.byte a = 0#8 ∧ s.mem.byte (a + 1) = 0#8) : s.mem.leI a 2 = 0 := by
  have hle : s.mem.le a 2 = 0 := by
    rw [Memory.le, Memory.read_eq_map_byte hm]
    refine leNat_zeros fun x hx => ?_
    obtain ⟨y, hy, rfl⟩ := List.mem_map.1 hx
    rcases Nat.lt_or_ge a y with hlt | hge
    · rw [show y = a + 1 by have := List.mem_range'_1.1 hy; omega, h.2]
    · rw [show y = a by have := List.mem_range'_1.1 hy; omega, h.1]
  rw [Memory.leI, hle]
  rfl

include hm in
theorem viewOf_at {e : Nat} {n : Node} (hn : n ∈ allNodes d c) : (viewOf e d c s).at n = s.mem.leI (deltaFrame e + 2 * lin n) 2 := by
  obtain ⟨hd, hc⟩ := mem_allNodes.1 hn
  exact nodeOf_cols hm (deltaFrame e) 2 hd hc

/-- Zero but at one address, the bytes of the delta frame. -/
def Blank (e a : Nat) (s : State) : Prop := ∀ x, deltaFrame e ≤ x → x < deltaFrame e + 49152 → x ≠ a → x ≠ a + 1 → s.mem.byte x = 0#8

variable (hd : d ≤ 128) (hc : c ≤ 192)

include hm hd hc

theorem above_none {e : Nat} (hblank : Blank e 0 s) {th : Int} (hth : 0 < th) : (viewOf e d c s).above th = [] := by
  rw [View.above, List.filter_eq_nil_iff]
  intro n (hn : n ∈ allNodes d c)
  have hlt := lin_lt hd hc hn
  have hbase : 2 ≤ deltaFrame e := by
    rw [deltaFrame]
    split <;> norm_num
  rw [viewOf_at hm hn, leI_zero hm ⟨hblank _ (by omega) (by omega) (by omega) (by omega), hblank _ (by omega) (by omega) (by omega) (by omega)⟩]
  simpa using hth

theorem above_one {e : Nat} {n : Node} (hn : n ∈ allNodes d c) (hblank : Blank e (deltaFrame e + 2 * lin n) s) {th : Int} (hth : 0 < th)
    (hv : th ≤ s.mem.leI (deltaFrame e + 2 * lin n) 2) : (viewOf e d c s).above th = [n] := by
  have hfilter : (viewOf e d c s).above th = (allNodes d c).filter (· == n) := by
    refine List.filter_congr fun m (hmem : m ∈ allNodes d c) => ?_
    rw [viewOf_at hm hmem]
    by_cases hmn : m = n
    · rw [hmn, beq_self_eq_true, decide_eq_true hv]
    · have hlin := lin_ne hc hmem hn hmn
      have hlt := lin_lt hd hc hmem
      rw [beq_false_of_ne hmn, leI_zero hm ⟨hblank _ (by omega) (by omega) (by omega) (by omega), hblank _ (by omega) (by omega) (by omega) (by omega)⟩]
      exact decide_eq_false (by omega)
  rw [hfilter, List.filter_beq, List.count_eq_one_of_mem (nodup_allNodes d c) hn]
  rfl

end Delta

/-- One touch node alone is a blob. -/
theorem blobsOf_one (w : View) (split : Nat) {off : Int} {n : Node} (h : off ≤ w.at n) :
    blobsOf w split off [n] = ([{ nodes := [n], peak := n }], 0) := by
  have hpoints : pointsTo w [n] n = none := by
    have hnil : (w.nbrs n).filter (fun m => decide (w.at n < w.at m) && [n].contains m) = [] := by
      rw [List.filter_eq_nil_iff]
      intro m _ hm
      rw [Bool.and_eq_true, decide_eq_true_eq, List.contains_iff_mem, List.mem_singleton] at hm
      exact absurd hm.1 (by rw [hm.2]; omega)
    rw [pointsTo, hnil]
    rfl
  have hleads : leadsTo w [n] 1 n = n := by rw [leadsTo, hpoints]
  have hbasins : basins w [n] = [{ nodes := [n], peak := n }] := by
    simp [basins, hpoints, hleads]
  have hmerge : mergeBlobs w split [n].length [{ nodes := [n], peak := n }] = [{ nodes := [n], peak := n }] := rfl
  rw [blobsOf, hbasins, hmerge]
  simp [h]

theorem isqrtAux_zero (w : Nat) : isqrtAux 0 w 0 = 0 := by
  induction w with
  | zero => rfl
  | succ w ih => rw [isqrtAux, if_neg (by have := Nat.two_pow_pos w; simp), ih]

/-- The weights of one node have no extent. -/
theorem momentsOf_one (v : View) (half : Int) (aspect : Nat) (n : Node) : (momentsOf v half aspect [n]).xx = 0 ∧
    (momentsOf v half aspect [n]).yy = 0 ∧ (momentsOf v half aspect [n]).xy = 0 := by
  simp only [momentsOf, List.map_cons, List.map_nil, List.sum_cons, List.sum_nil, Nat.add_zero]
  refine ⟨?_, ?_, ?_⟩ <;> push_cast <;> ring

theorem centroid_one (w : View) (half : Int) (n p : Node) (h : n = p) : w.centroid half [n] p = (256 * n.2, 256 * n.1) := by
  unfold View.centroid
  simp only [List.map_cons, List.map_nil, List.sum_cons, List.sum_nil, Nat.add_zero]
  split
  · rw [h]
  next hw =>
    have hpos := Nat.pos_of_ne_zero hw
    have hdiv : ∀ k : Nat, (256 * (k * w.weight half n) + w.weight half n / 2) / w.weight half n = 256 * k := fun k => by
      rw [← Nat.mul_assoc, Nat.add_comm, Nat.add_mul_div_right _ _ hpos, Nat.div_eq_of_lt (Nat.div_lt_self hpos (by norm_num)), Nat.zero_add]
    rw [hdiv, hdiv]

theorem shapeOf_major {m : Moments} (hx : m.xx = 0) (hy : m.yy = 0) (hxy : m.xy = 0) (s : State) : (shapeOf m s).1.1 ≤ 1 := by
  unfold shapeOf draw
  dsimp only
  rw [hx, hy, hxy, show ((0 - 0 : Int) * (0 - 0) + 4 * (0 * 0)).toNat = 0 from rfl, isqrtAux_zero]
  have hextent : extent (0 + 0 + ((0 : Nat) : Int)) m.w = 0 := by
    rw [extent]
    split
    · rfl
    · rw [show (0 + 0 + ((0 : Nat) : Int)).toNat = 0 from rfl, Nat.zero_div, isqrt, isqrtAux_zero]
      rfl
  rw [hextent, clampI_eq (by norm_num), bounded]
  omega

/-- What the measures of a blob of one node say. -/
theorem blobDet_one (w : View) (half : Int) (aspect : Nat) (removed sus : List Node) (n : Node) (s : State) :
    let D := (blobDet w half aspect removed sus { nodes := [n], peak := n } s).1
    D.token = false ∧ D.area = 1 ∧ D.major ≤ 1 ∧ D.peak = (w.at n).toNat ∧ D.xf = 256 * n.2 ∧ D.yf = 256 * n.1 := by
  have hnear : [n].filter (near8 n) = [n] := by
    rw [List.filter_cons_of_pos]
    · rfl
    · simp [near8, cheb, absDiff]
  obtain ⟨hx, hy, hxy⟩ := momentsOf_one w half aspect n
  unfold blobDet
  dsimp only
  rw [hnear, centroid_one w half n n rfl]
  exact ⟨rfl, rfl, shapeOf_major hx hy hxy s, rfl, rfl, rfl⟩

/-! ### A contact opens a track (06 R168, R170) -/

section Opening

variable {u : State} (htab : u.trk.tab = List.replicate 64 none)

include htab in
theorem matchTracks_none (q : TrkParams) (p : Params) (ds : List Det) (asg : List (Nat × Nat)) : matchTracks q p false ds asg u = u := by
  rw [matchTracks, tracks_none htab]
  rfl

include htab in
theorem nextId_first (hlent : u.crl.lent = []) (hctr : u.trk.openCtr < 1024) (hrole : u.boot.role = .standalone) :
    nextId u = (u.trk.openCtr, (u.trk.openCtr + 1) % 1024) := by
  have htile : u.tile = 0 := by rw [State.tile, State.isMember, hrole]; rfl
  have hfirst : (u.trk.openCtr + 0) % 1024 = u.trk.openCtr := Nat.mod_eq_of_lt hctr
  unfold nextId
  dsimp only
  rw [tracks_none htab, hlent, htile, List.range_succ_eq_map, List.map_cons, List.find?_cons_of_pos (by simp), hfirst]
  simp

/-- The track of a detection that is no token, palm or large contact. -/
theorem openDet_finger {q : TrkParams} {D : Det} (htoken : D.token = false) (hcls : classOf q none D.area D.major = 0) (hlent : u.crl.lent = [])
    (hctr : u.trk.openCtr < 1024) (hrole : u.boot.role = .standalone) (htab : u.trk.tab = List.replicate 64 none) : ∃ k,
    (openDet q D (u, [])).1 = { u with trk.tab := oneTrack 0 k, trk.openCtr := (u.trk.openCtr + 1) % 1024 } ∧
    k.core = (u.trk.openCtr, 0, 0, 0, 0, (D.xf : Int), (D.yf : Int), 1) := by
  have hclass : D.cls q none = 0 := by rw [Det.cls, htoken]; exact hcls
  have hfree : freeEntry u = some 0 := by rw [freeEntry, htab]; rfl
  have hpos : D.pos 0 = ((D.xf : Int), (D.yf : Int)) := rfl
  unfold openDet
  dsimp only
  rw [hfree, hclass, hpos]
  dsimp only
  rw [openAt, nextId_first htab hlent hctr hrole, putTrack]
  dsimp only
  rw [htab]
  exact ⟨_, rfl, rfl⟩

end Opening

theorem classOf_finger {q : TrkParams} {area major : Nat} (hpalm : area < q.palm) (hmajor : major < q.palmMajor) (hlarge : area < q.large) :
    classOf q none area major = 0 := by
  simp [classOf, Nat.not_le.2 hpalm, Nat.not_le.2 hmajor, Nat.not_le.2 hlarge]

theorem matchPairs_nil (q : TrkParams) (p : Params) (radius : Nat) (ts : List (Nat × Track)) : matchPairs q p radius ts [] = [] := by
  simp [matchPairs]

theorem assign_nil : assign [] = [] := by simp [assign]

theorem plainTracks_one {q : TrkParams} {p : Params} {D : Det} {u : State} (htab : u.trk.tab = List.replicate 64 none)
    (hopen : (D.token || decide (q.on ≤ D.peak)) = true) :
    plainTracks q p [D] u = (openDet q D ({ u with trk.hoverCand := 0 }, [])).1 := by
  have hasg : assign (matchPairs q p q.radius u.tracks (List.zip (List.range [D].length) [D])) = [] := by
    rw [tracks_none htab]
    exact assign_nil
  unfold plainTracks
  dsimp only
  rw [hasg, matchTracks_none htab]
  simp [hopen, List.range_succ]

theorem plainTracks_nil (q : TrkParams) (p : Params) (u : State) :
    plainTracks q p [] u = { matchTracks q p false [] [] u with trk.hoverCand := 0 } := by
  have hasg : assign (matchPairs q p q.radius u.tracks (List.zip (List.range ([] : List Det).length) [])) = [] := by
    rw [List.zip_nil_right, matchPairs_nil, assign_nil]
  unfold plainTracks
  dsimp only
  rw [hasg, List.zip_nil_right, List.filter_nil, List.mergeSort_nil, List.foldl_nil]

/-! ### The report of a discarded frame (06 R173) -/

theorem mirrorMem_wf (r : Report) {m : Memory} (hm : m.wf = true) : (mirrorMem r m).wf = true :=
  Memory.putLe_wf _ _ _ _ (Memory.putLe_wf _ _ _ _ (Memory.write_wf _ _ _ hm))

/-- The mirror names the epoch of its report, and is valid (06 R178). -/
theorem mirrorMem_published (r : Report) {m : Memory} (hm : m.wf = true) : (mirrorMem r m).le mirrorBase 4 = r.epoch % 2 ^ 32 ∧
    (mirrorMem r m).le (mirrorBase + 4) 4 = 1 := by
  have hwrite : ∀ a, (m.write a (imageOf r r.recs)).wf = true := fun a => Memory.write_wf _ _ _ hm
  unfold mirrorMem
  dsimp only
  generalize (if m.le (mirrorBase + 0x40) 4 == m.le mirrorBase 4 && bit (m.le (mirrorBase + 4) 4) 0 then mirrorBase + 0x880 else mirrorBase + 0x40) = a
  refine ⟨(Memory.le_congr (Memory.putLe_wf _ _ _ _ (hwrite a)) (Memory.putLe_wf _ _ _ _ (Memory.putLe_wf _ _ _ _ (hwrite a))) fun i hi =>
    Memory.byte_putLe_outside _ (.inl (by omega))).trans (Memory.le_putLe_same (hwrite a) _ _ _), ?_⟩
  exact Memory.le_putLe_same (Memory.putLe_wf _ _ _ _ (hwrite a)) _ _ _

theorem report_noted (r : Report) (u : State) : (noteReported r (deliverReport r (publishMirror r u))).chn = u.chn ∧
    (noteReported r (deliverReport r (publishMirror r u))).trk.report = u.trk.report ∧
    (noteReported r (deliverReport r (publishMirror r u))).mem = mirrorMem r u.mem := by
  obtain ⟨d, hdeliver⟩ := deliverReport_aside r (publishMirror r u)
  have h := (((publishMirror_aside r u).withDue d).trans hdeliver).noteReported r
  exact ⟨h.fields.1, (congrArg Tracker.report h.trk_eq.1).trans rfl, h.trk_eq.2⟩

/-- What a discarded frame's report carries of the records before it. -/
def carriedRecs (t : State) : List Rec := (t.trk.prevRecs.filter (fun x => x.status < 2 || x.status == 6)).map (fun x =>
  { x with status := 1, vx := 0, vy := 0, stale := (t.tracks.find? (fun k => k.2.rid == x.id)).elim x.stale (·.2.stale) })

theorem discardedReport_spec (us : Nat) (s : State) : ∃ r, (discardedReport us s).chn.prev.tracked = true ∧
    (discardedReport us s).trk.report = r ∧ (discardedReport us s).mem = mirrorMem r s.mem ∧ r.discard = true ∧ r.epoch = s.chn.prev.epoch ∧
    r.dcause = s.chn.prev.dcause ∧ r.recs = carriedRecs (stillAll (freshTab s)) := by
  unfold discardedReport
  extract_lets +onlyGivenNames t h carried r
  have ht : t.chn = s.chn ∧ t.mem = s.mem := ⟨(stillAll_spec (freshTab s)).1.1, (stillAll_spec (freshTab s)).1.2.1⟩
  obtain ⟨hchn, hmem⟩ := ht
  have hr : r.discard = true ∧ r.epoch = s.chn.prev.epoch ∧ r.dcause = s.chn.prev.dcause ∧ r.recs = carriedRecs t :=
    ⟨rfl, congrArg (·.prev.epoch) hchn, congrArg (·.prev.dcause) hchn, rfl⟩
  have htt : t = stillAll (freshTab s) := rfl
  clear_value r carried h t
  extract_lets src1 src2 src3 u src4 u2
  obtain ⟨hnchn, hnrep, hnmem⟩ := report_noted r u2
  exact ⟨r, congrArg (·.prev.tracked) hnchn, hnrep, hnmem.trans (congrArg (mirrorMem r) hmem), htt ▸ hr⟩

/-! ### The command -/

section Command

variable {s : State} (hm : s.memOk) (hcore : s.clk.core = true) (htracked : s.chn.prev.tracked = false) (hdecoded : s.chn.prev.decoded = true)
  (hkind : s.chn.prev.kind = .normal) (hrole : s.boot.role = .standalone) (us : Nat)

include hcore htracked hdecoded hkind hrole

theorem exec_trackUpdate : exec (.trackUpdate us []) s =
    answer s (if s.chn.prev.dcause ≠ 0 then discardedReport us s else validFrame us [] s) := by
  have hexec : exec (.trackUpdate us []) s = execTrackUpdate us [] s := rfl
  have hhits : parityHits [] s = s := rfl
  have hsilent : s.chn.prev.silent = false := by rw [Frame.silent, hkind]
  rw [hexec, execTrackUpdate, if_neg (by simp [hcore, htracked]), if_neg (by simp [hkind]), if_neg (by simp [hdecoded])]
  dsimp only
  rw [hhits, seams_standalone hrole, if_neg (by simp [hsilent])]
  rfl

/-- A frame that is discarded repeats the records of the one before (06 R173). -/
theorem completes_discarded (hm : s.memOk) (hdis : s.chn.prev.dcause ≠ 0) : Completes (.trackUpdate us []) s (fun t => t.chn.prev.tracked = true ∧
    t.trk.report.discard = true ∧ t.trk.report.epoch = s.chn.prev.epoch ∧ t.trk.report.dcause = s.chn.prev.dcause ∧
    t.trk.report.recs.map (·.id) = (s.trk.prevRecs.filter (fun x => x.status < 2 ∨ x.status = 6)).map (·.id) ∧
    ∀ x ∈ t.trk.report.recs, x.status = 1 ∧ x.vx = 0 ∧ x.vy = 0) := by
  have hexec := exec_trackUpdate hcore htracked hdecoded hkind hrole us
  obtain ⟨r, htr, hrep, hmem, hdiscard, hepoch, hcause, hrecs⟩ := discardedReport_spec us s
  have hprev : (stillAll (freshTab s)).trk.prevRecs = s.trk.prevRecs := (stillAll_spec (freshTab s)).2
  rw [if_pos hdis] at hexec
  generalize discardedReport us s = u at *
  refine completes_answer_wf hexec (hmem ▸ mirrorMem_wf r hm) ?_
  dsimp only
  rw [hrep, hrecs]
  refine ⟨htr, hdiscard, hepoch, hcause, ?_, fun x hx => ?_⟩
  · rw [carriedRecs, List.map_map, hprev]
    congr 1
    exact List.filter_congr fun x _ => by rw [Bool.decide_or, Bool.beq_eq_decide_eq]
  · obtain ⟨y, -, rfl⟩ := List.mem_map.1 hx
    exact ⟨rfl, rfl, rfl⟩

/-- What becomes of a frame that ends with one track: the table the report leaves. -/
theorem completes_one {p : Params} {t : State} {i : Nat} {k : Track} {ex : List Rec} {P : State → Prop} (hi : i < 64) (hvalid : s.chn.prev.dcause = 0)
    (hends : validFrame us [] s = finishReport ex (endFrame p t)) (hrel : t.cal.releases = []) (htab : t.trk.tab = oneTrack i k)
    (hP : ∀ u k', u.chn.prev.tracked = true → u.trk.tab = oneTrack i k' → k'.core = k.core → u.trk.openCtr = t.trk.openCtr → P u) :
    Completes (.trackUpdate us []) s P := by
  have hexec := exec_trackUpdate hcore htracked hdecoded hkind hrole us
  obtain ⟨k', htab', hk', hctr⟩ := report_one (p := p) hi hrel htab ex
  obtain ⟨g, d, l, h⟩ := finishReport_spec ex (endFrame p t)
  have htr := (congrArg (·.prev.tracked) h.fields.1).trans (Eq.refl true)
  rw [if_neg (not_not.2 hvalid), hends] at hexec
  generalize finishReport ex (endFrame p t) = v at *
  exact completes_answer hexec (hP _ k' htr htab' hk' hctr)

include hm

/-- A valid frame's report stands in the mirror (06 R178). -/
theorem completes_valid (hvalid : s.chn.prev.dcause = 0) : Completes (.trackUpdate us []) s (fun t => t.chn.prev.tracked = true ∧
    t.chn.prev.merged = true ∧ t.trk.report.epoch = s.chn.prev.epoch ∧ t.trk.report.discard = false ∧
    (s.chn.prev.epoch < 2 ^ 32 → t.mem.le 0x30081800 4 = s.chn.prev.epoch ∧ t.mem.le 0x30081804 4 = 1)) := by
  have hexec := exec_trackUpdate hcore htracked hdecoded hkind hrole us
  obtain ⟨ex, u, hends, -, hmem, hepoch, hdis⟩ := validFrame_ends us [] hrole
  rw [if_neg (not_not.2 hvalid), hends] at hexec
  obtain ⟨g, d, l, h⟩ := finishReport_spec ex u
  have hfields := h.fields
  obtain ⟨htrk, hram⟩ := h.trk_eq
  generalize finishReport ex u = t at *
  have hpub := mirrorMem_published (endReport ex u) (hmem ▸ hm : u.mem.wf = true)
  have hmirror : t.mem = mirrorMem (endReport ex u) u.mem := hram
  have hof : (endReport ex u).epoch = s.chn.prev.epoch := hepoch
  refine completes_answer_wf hexec (hmirror ▸ mirrorMem_wf _ (hmem ▸ hm : u.mem.wf = true)) ⟨?_, ?_, ?_, ?_, fun hlt => ?_⟩
  · exact (congrArg (·.prev.tracked) hfields.1).trans rfl
  · exact (congrArg (·.prev.merged) hfields.1).trans rfl
  · exact (congrArg (·.report.epoch) htrk).trans hepoch
  · exact (congrArg (·.report.discard) htrk).trans hdis
  · rw [hof, Nat.mod_eq_of_lt hlt, ← hmirror] at hpub
    exact hpub

end Command

/-- A track's core by its parts. -/
theorem core_parts {k : Track} {id cls coast status : Nat} {vx vy x y : Int} (h : k.core = (id, cls, coast, vx, vy, x, y, status)) :
    k.id = id ∧ k.cls = cls ∧ k.coast = coast ∧ k.vx = vx ∧ k.vy = vy ∧ k.x = x ∧ k.y = y ∧ k.status = status := by
  simpa [Track.core] using h

theorem blobsOf_nil (w : View) (split : Nat) (off : Int) : blobsOf w split off [] = ([], 0) := by
  simp [blobsOf, basins, mergeBlobs]

section Plain

variable {s : State} (hm : s.memOk) (hcore : s.clk.core = true) (htracked : s.chn.prev.tracked = false) (hdecoded : s.chn.prev.decoded = true)
  (hkind : s.chn.prev.kind = .normal) (hrole : s.boot.role = .standalone) (us : Nat) (hvalid : s.chn.prev.dcause = 0)
  (hrebuild : s.trk.rebuild = false) (hrel : s.cal.releases = []) (htok : s.tok.bad = true)
  {p : Params} (hp : s.params s.chn.prev.epoch = p) (hhover : s.ctxField p.ctx 0x2EB 1 = 0) (hpolicy : s.ctxField p.ctx 0x2E2 1 = 0)
  (htouch : 0 < s.ctxField p.ctx 0x320 2) (hd : p.d ≤ 128) (hc : p.s ≤ 192)

include hm hcore htracked hdecoded hkind hrole hvalid hrebuild hrel htok hp hhover hpolicy htouch hd hc

theorem completes_coast {i : Nat} {k : Track} (hblank : Blank s.chn.prev.epoch 0 s) (hi : i < 64) (htab : s.trk.tab = oneTrack i k)
    (hcls : k.cls = 0) (hstatus : k.status = 1) : Completes (.trackUpdate us []) s (fun t => t.chn.prev.tracked = true ∧
      ∃ k', t.trk.tab.getD i none = some k' ∧
        k'.core = (k.id, 0, k.coast + 1, 0, 0, k.x, k.y, if s.ctxField p.ctx 0x327 1 ≤ k.coast + 1 then 2 else 1)) := by
  subst hp
  obtain ⟨sus, r, u, t, ex, hutab, -, -, -, hends, hurel, hplain⟩ := validFrame_plain us hrole hrebuild htok hhover hpolicy
  obtain ⟨k0, hfresh, hk0⟩ := freshTab_one htab hstatus
  obtain ⟨hid0, hcls0, hcoast0, -, -, hx0, hy0, hstatus0⟩ := core_parts hk0
  have habove : (viewOf s.chn.prev.epoch (s.params s.chn.prev.epoch).d (s.params s.chn.prev.epoch).s s).above (s.trkParams (s.params s.chn.prev.epoch).ctx).touch = [] :=
    above_none hm hd hc hblank (Int.natCast_pos.2 htouch)
  rw [habove, blobsOf_nil] at hplain
  generalize s.params s.chn.prev.epoch = p at *
  have htabu : u.trk.tab = oneTrack i k0 := hutab.trans hfresh
  have hcls1 : k0.cls = 0 := hcls0.trans hcls
  have hmatch := matchTracks_coast (s.trkParams p.ctx) p hi htabu hcls1
  have hcore1 := coastTrack_core (s.trkParams p.ctx) p hcls1 (hstatus0.trans hstatus)
  have hnil : List.zip (List.range ([] : List Det).length) [] = ([] : List (Nat × Det)) := rfl
  have hasg : assign (matchPairs (s.trkParams p.ctx) p (s.trkParams p.ctx).radius u.tracks []) = [] := by rw [matchPairs_nil, assign_nil]
  have ht := hplain (by
    rw [List.foldl_nil, hnil, hasg, hmatch]
    refine hover_one hi rfl ?_
    rw [(core_parts hcore1).2.1]
    norm_num)
  rw [List.foldl_nil, plainTracks_nil, hmatch] at ht
  subst ht
  exact completes_one hcore htracked hdecoded hkind hrole us hi hvalid hends (hurel.trans hrel) rfl fun v k' htr htabv hk' _ =>
    ⟨htr, k', by rw [htabv, getD_oneTrack_same hi], hk'.trans (hcore1.trans (by rw [hid0, hcoast0, hx0, hy0]; rfl))⟩

/-- A contact alone, at no track, opens one. -/
theorem completes_opens {d c v : Nat} (hblank : Blank s.chn.prev.epoch (deltaFrame s.chn.prev.epoch + 2 * lin (d, c)) s) (hdp : d < p.d) (hcp : c < p.s)
    (hv : s.mem.leI (deltaFrame s.chn.prev.epoch + 2 * lin (d, c)) 2 = v) (hth : s.ctxField p.ctx 0x320 2 ≤ v) (hon : s.ctxField p.ctx 0x322 2 ≤ v)
    (hoff : s.ctxField p.ctx 0x324 2 ≤ v) (htab : s.trk.tab = List.replicate 64 none) (hlent : s.crl.lent = []) (hctr : s.trk.openCtr < 1024)
    (hpalm : 2 ≤ s.ctxField p.ctx 0x32C 2) (hlarge : 2 ≤ s.ctxField p.ctx 0x32A 1) (hmajor : 255 ≤ s.ctxField p.ctx 0x32B 1) :
    Completes (.trackUpdate us []) s (fun t => (∃ k, t.trk.tab = oneTrack 0 k ∧
      k.core = (s.trk.openCtr, 0, 0, 0, 0, (256 * c : Int), (256 * d : Int), 1)) ∧ t.trk.openCtr = (s.trk.openCtr + 1) % 1024) := by
  subst hp
  obtain ⟨sus, r, u, t, ex, hutab, huctr, hulent, huboot, hends, hurel, hplain⟩ := validFrame_plain us hrole hrebuild htok hhover hpolicy
  have hnode : (d, c) ∈ allNodes (s.params s.chn.prev.epoch).d (s.params s.chn.prev.epoch).s := mem_allNodes.2 ⟨hdp, hcp⟩
  have hat : (viewOf s.chn.prev.epoch (s.params s.chn.prev.epoch).d (s.params s.chn.prev.epoch).s s).at (d, c) = (v : Int) := (viewOf_at hm hnode).trans hv
  have habove : (viewOf s.chn.prev.epoch (s.params s.chn.prev.epoch).d (s.params s.chn.prev.epoch).s s).above (s.trkParams (s.params s.chn.prev.epoch).ctx).touch = [(d, c)] :=
    above_one hm hd hc hnode hblank (Int.natCast_pos.2 htouch) (by rw [hv]; exact Int.ofNat_le.2 hth)
  have hblob := blobsOf_one _ (s.trkParams (s.params s.chn.prev.epoch).ctx).split
    (off := (s.trkParams (s.params s.chn.prev.epoch).ctx).off) (hat.symm ▸ Int.ofNat_le.2 hoff)
  rw [habove, hblob, List.foldl_cons, List.foldl_nil] at hplain
  obtain ⟨htoken, harea, hmaj, hpeak, hxf, hyf⟩ := blobDet_one (viewOf s.chn.prev.epoch (s.params s.chn.prev.epoch).d (s.params s.chn.prev.epoch).s s)
    ((s.trkParams (s.params s.chn.prev.epoch).ctx).touch / 2) (s.trkParams (s.params s.chn.prev.epoch).ctx).aspect [] sus (d, c) r
  rw [hat, Int.toNat_natCast] at hpeak
  rw [show (blobStep _ _ [] sus ([], r) ⟨[(d, c)], (d, c)⟩).1 = [(blobDet _ _ _ [] sus ⟨[(d, c)], (d, c)⟩ r).1] from rfl] at hplain
  generalize (blobDet _ _ _ [] sus ⟨[(d, c)], (d, c)⟩ r).1 = D at *
  have hclass : classOf (s.trkParams (s.params s.chn.prev.epoch).ctx) none D.area D.major = 0 := by
    have hpalm' : 2 ≤ (s.trkParams (s.params s.chn.prev.epoch).ctx).palm := hpalm
    have hmajor' : 255 ≤ (s.trkParams (s.params s.chn.prev.epoch).ctx).palmMajor := hmajor
    have hlarge' : 2 ≤ (s.trkParams (s.params s.chn.prev.epoch).ctx).large := hlarge
    exact classOf_finger (by omega) (by omega) (by omega)
  have hopen : (D.token || decide ((s.trkParams (s.params s.chn.prev.epoch).ctx).on ≤ D.peak)) = true := by
    rw [htoken, hpeak]
    exact decide_eq_true hon
  have htabu : u.trk.tab = List.replicate 64 none := hutab.trans (freshTab_none htab)
  have ht := hplain (by rw [matchTracks_none htabu]; exact hover_none htabu)
  obtain ⟨k, hdet, hk⟩ := openDet_finger (u := { u with trk.hoverCand := 0 }) (q := s.trkParams (s.params s.chn.prev.epoch).ctx) (D := D)
    htoken hclass (hulent.trans hlent) (huctr ▸ hctr) (huboot ▸ hrole) htabu
  rw [plainTracks_one htabu hopen, hdet] at ht
  have hid : ({ u with trk.hoverCand := 0 } : State).trk.openCtr = s.trk.openCtr := huctr
  rw [hid, hxf, hyf] at hk
  subst ht
  refine completes_one hcore htracked hdecoded hkind hrole us (i := 0) (by norm_num) hvalid hends (hurel.trans hrel) rfl fun w k' htr htabw hk' hctrw =>
    ⟨⟨k', htabw, hk'.trans (hk.trans ?_)⟩, hctrw.trans (by rw [← huctr])⟩
  push_cast
  rfl

end Plain

end Sys2Proof.Machine

open Sys2Proof Sys2Proof.Machine

/-- Settles O45: each frame by the track it leaves, and by the report that ends it. -/
theorem tracksOpenCoastAndLift : Obligations.TracksOpenCoastAndLift := by
  unfold Obligations.TracksOpenCoastAndLift
  intro d c v us i k s hm hcore htracked hdecoded hkind hrole
  refine ⟨fun hdis => completes_discarded hcore htracked hdecoded hkind hrole us hm hdis,
    fun hvalid => completes_valid hm hcore htracked hdecoded hkind hrole us hvalid,
    fun hvalid hrebuild hrel htok hhover htouch hpolicy hd hc => ⟨fun hblank hi htab hcls hstatus => ?_,
      fun hblank hdp hcp hv hth hon hoff htab hlent hctr hpalm hlarge hmajor => ?_⟩⟩
  · obtain ⟨t, hexec, htr, k', hk', hcore'⟩ := completes_coast hm hcore htracked hdecoded hkind hrole us hvalid hrebuild hrel htok rfl hhover hpolicy
      htouch hd hc hblank hi htab hcls hstatus
    obtain ⟨hid, hcls', hcoast, hvx, hvy, hx, hy, hstatus'⟩ := core_parts hcore'
    refine ⟨t, hexec, htr, ?_, ?_⟩ <;> rw [hk', Option.map_some]
    · rw [hid, hcls', hcoast, hvx, hvy, hx, hy]
    · rw [hstatus']
  · obtain ⟨t, hexec, ⟨k', htab', hcore'⟩, hctr'⟩ := completes_opens hm hcore htracked hdecoded hkind hrole us hvalid hrebuild hrel htok rfl hhover hpolicy
      htouch hd hc hblank hdp hcp hv hth hon hoff htab hlent hctr hpalm hlarge hmajor
    obtain ⟨hid, hcls', hcoast, -, -, hx, hy, hstatus'⟩ := core_parts hcore'
    refine ⟨t, hexec, ?_, hctr', fun j _ hj => by rw [htab', getD_oneTrack_other hj]⟩
    rw [htab', getD_oneTrack_same (by norm_num), Option.map_some, hid, hcls', hcoast, hx, hy, hstatus']
end

section
/-! Mute's jobs (11 R332 to R338, 01 R31) and the stream channel (10 R309, 11 R329 to R331). -/

namespace Sys2Proof.Machine

/-! ### A job that stops (11 R337) -/

/-- The engine and the waiting captures stand. -/
def MuteKept (s t : State) : Prop := t.mute = s.mute ∧ t.cap = s.cap

/-- A job that is no command's stops: its RESULT, DONE and the interrupt. -/
theorem muteStop_eq (result : Nat) {s : State} (hown : s.mute.forCmd = none) : ∃ a b c e k, muteStop result s = { s with
    mute := { s.mute with busy := false, done := true, abort := false, result := result, forCmd := none }
    icu.src := a, icu.undCount := b, icu.undSrc := c, icu.heldEdges := e, clk.mergeIcu := k } := by
  obtain ⟨a, b, c, e, k, h⟩ := raise_eq 21 { s with
    mute := { s.mute with busy := false, done := true, abort := false, result := result, forCmd := none } }
  refine ⟨a, b, c, e, k, ?_⟩
  unfold muteStop
  rw [hown]
  exact h

theorem muteStop_cap (result : Nat) {s : State} (hown : s.mute.forCmd = none) : (muteStop result s).cap = s.cap := by
  obtain ⟨a, b, c, e, k, h⟩ := muteStop_eq result hown
  rw [h]

theorem captureWaiting_none {s : State} (h : s.cap.waiting = []) : captureWaiting s = s := by rw [captureWaiting, h]

section Control

variable {s : State} (hm : s.memOk) (hcore : s.clk.core = true) {v : Word}

/-- What MUTE_CTL latches for a job (11 R332). -/
def controlRegs (v : Word) (s : State) : MuteRegs :=
  { s.mute.regs with cls := if v.toNat / 16 % 4 = 3 then s.mute.regs.cls else v.toNat / 16 % 4, dir := v.getLsbD 6, host := v.getLsbD 7 }

include hcore in
theorem exec_muteJobStart (hidle : s.mute.busy = false) (hgo : v.getLsbD 0 = true) : exec (.muteJobStart v) s = answer s
    (muteGo (controlRegs v s) none (s.hdma.haddrHi.toNat * 2 ^ 32 + s.hdma.haddrLo.toNat) (0, 0)
      { s with mute.regs := controlRegs v s, mute.done := s.mute.done && !v.getLsbD 3 }) := by
  have hexec : exec (.muteJobStart v) s = execMuteJobStart v s := rfl
  have hbit : ∀ i, bit v.toNat i = v.getLsbD i := fun i => bit_eq_testBit v.toNat i
  rw [hexec, execMuteJobStart, if_pos hcore]
  unfold muteControl
  simp only [hbit]
  rw [if_neg (by simp [hidle]), if_pos hgo]
  rfl

include hm hcore

theorem completes_go (hidle : s.mute.busy = false) (hgo : v.getLsbD 0 = true) (hilen : (controlRegs v s).ilen ≠ 0) (holen : (controlRegs v s).olen ≠ 0) :
    Completes (.muteJobStart v) s (fun t => t.mute.busy = true ∧ t.mute.job = controlRegs v s ∧ t.mute.cons = 0 ∧ t.mute.prod = 0 ∧
      t.mute.result = 0 ∧ ({ t with mute := s.mute } : State) = s) := by
  have hexec := exec_muteJobStart hcore hidle hgo
  rw [muteGo, if_neg hilen, if_neg holen] at hexec
  exact completes_answer_wf hexec hm ⟨rfl, rfl, rfl, rfl, rfl, rfl⟩

theorem completes_go_empty (hidle : s.mute.busy = false) (hgo : v.getLsbD 0 = true) {result : Nat}
    (hlen : (controlRegs v s).ilen = 0 ∧ result = 1 ∨ (controlRegs v s).ilen ≠ 0 ∧ (controlRegs v s).olen = 0 ∧ result = 2) :
    Completes (.muteJobStart v) s (fun t => t.mute.busy = false ∧ t.mute.done = true ∧ t.mute.result = result) := by
  have hexec := exec_muteJobStart hcore hidle hgo
  unfold muteGo at hexec
  dsimp only at hexec
  rcases hlen with ⟨hi, rfl⟩ | ⟨hi, ho, rfl⟩
  · rw [if_pos hi] at hexec
    obtain ⟨a, b, c, e, k, h⟩ := muteStop_eq 1 (s := { s with
      mute := { s.mute with
        regs := controlRegs v s, done := s.mute.done && !v.getLsbD 3, before := (0, 0), job := controlRegs v s, busy := true, abort := false, result := 0
        marks := 0, cons := 0, prod := 0, forCmd := none, haddr := s.hdma.haddrHi.toNat * 2 ^ 32 + s.hdma.haddrLo.toNat } }) rfl
    exact completes_answer_wf (hexec.trans (congrArg (answer s) h)) hm ⟨rfl, rfl, rfl⟩
  · rw [if_neg hi, if_pos ho] at hexec
    obtain ⟨a, b, c, e, k, h⟩ := muteStop_eq 2 (s := { s with
      mute := { s.mute with
        regs := controlRegs v s, done := s.mute.done && !v.getLsbD 3, before := (0, 0), job := controlRegs v s, busy := true, abort := false, result := 0
        marks := 0, cons := 0, prod := 0, forCmd := none, haddr := s.hdma.haddrHi.toNat * 2 ^ 32 + s.hdma.haddrLo.toNat } }) rfl
    exact completes_answer_wf (hexec.trans (congrArg (answer s) h)) hm ⟨rfl, rfl, rfl⟩

theorem exec_muteJobAbort (hbusy : s.mute.busy = true) : exec .muteJobAbort s = .next { s with mute.abort := true } := by
  have hexec : exec .muteJobAbort s = execMuteJobAbort s := rfl
  rw [hexec, execMuteJobAbort, if_pos (by simp [hcore, hbusy])]
  exact answer_of_eq _ _ hm rfl rfl

end Control

/-! ### A block of a job (11 R333 to R335, R338) -/

theorem length_sealBlock_pos (b : List Byte) : 0 < (sealBlock b).length := by
  rw [sealBlock, List.length_append, length_leBytes]
  omega

/-- A coded block has bytes. -/
theorem coded_pos (cls bidx elo : Nat) (b : List Byte) :
    0 < (if cls = 0 then frEncode bidx 3 elo b else if cls = 1 then llgEncode b else llrEncode b).length := by
  split
  · exact length_sealBlock_pos _
  · split
    · unfold llgEncode
      dsimp only
      split <;> split <;> exact length_sealBlock_pos _
    · unfold llrEncode
      dsimp only
      split <;> exact length_sealBlock_pos _

theorem llrRead_length {n used : Nat} {bs out : List Byte} {r : Nat × List Byte} (h : llrRead n bs used out = some r) : r.2.length = 128 := by
  induction n generalizing bs used out with
  | zero => exact absurd h (by simp [llrRead])
  | succ n ih =>
    unfold llrRead at h
    split at h
    next hfull => exact Option.some.inj h ▸ hfull
    next =>
      split at h
      · exact absurd h (by simp)
      · dsimp only at h
        split at h
        · split at h
          · exact absurd h (by simp)
          · exact ih h
        · split at h
          · exact absurd h (by simp)
          · split at h
            · exact absurd h (by simp)
            · exact ih h

/-- A decoded block has 128 bytes. -/
theorem llrDecode_length {b out : List Byte} {n : Nat} (h : llrDecode b = .ok (n, out)) : out.length = 128 := by
  unfold llrDecode at h
  dsimp only at h
  split at h
  · exact absurd h (by simp)
  next k o hbody =>
    split at h
    · exact absurd h (by simp)
    · split at h
      · exact absurd h (by simp)
      · split at h
        · exact absurd h (by simp)
        · have hout : o = out := (Prod.ext_iff.1 (Except.ok.inj h)).2
          subst hout
          split at hbody
          · split at hbody
            · exact absurd hbody (by simp)
            next hlen =>
              obtain ⟨-, rfl⟩ := Prod.ext_iff.1 (Option.some.inj hbody)
              simp only [List.length_take, List.length_drop]
              omega
          · exact llrRead_length hbody

/-! ### A parity error in a job's input (11 R335) -/

theorem parityDrop_kept (h : ParityHit) (s : State) : MuteKept s (parityDrop h s) := by
  have hprev : ∀ u, MuteKept u (discardParity u) := fun u => by
    obtain ⟨c, k, m, e, d, hd, -⟩ := discardParity_eq u
    rw [hd]
    exact ⟨rfl, rfl⟩
  have hacq : ∀ u, MuteKept u (discardAcquired u) := fun u => by
    obtain ⟨c, k, m, e, d, hd, -⟩ := discardAcquired_eq u
    rw [hd]
    exact ⟨rfl, rfl⟩
  have hself : ∀ u, MuteKept u (selfLost u) := fun u => by
    obtain ⟨e, hd⟩ := selfLost_eq u
    rw [hd]
    exact ⟨rfl, rfl⟩
  unfold parityDrop
  split
  · exact hacq s
  · exact hprev s
  · unfold listenFault
    split
    · obtain ⟨m, hf⟩ := setHdrFlag_eq s.chn.cur.epoch 1 (discardCur 2 { s with chn.cur.listenBad := true })
      rw [hf]
      exact ⟨rfl, rfl⟩
    · exact hacq s
  · exact hacq s
  · exact hacq s
  · exact hprev s
  · exact hself s
  · exact hself s
  · exact hprev s
  · split
    · exact hprev s
    · exact ⟨rfl, rfl⟩
  · split <;> exact ⟨rfl, rfl⟩
  · unfold fragFault
    split <;> exact ⟨rfl, rfl⟩
  · split
    · obtain ⟨m, hs⟩ := storeHold_eq { s with rpt.hold := s.rpt.hold.eraseIdx h.index, rpt.lost := add32 s.rpt.lost 1 }
      rw [hs]
      obtain ⟨v, c, q, n, he⟩ := endEpisode_eq { s with rpt.hold := s.rpt.hold.eraseIdx h.index, rpt.lost := add32 s.rpt.lost 1, mem := m }
      rw [he]
      exact ⟨rfl, rfl⟩
    · exact ⟨rfl, rfl⟩
  · exact ⟨rfl, rfl⟩

theorem slotFault_kept (n : Nat) (s : State) : MuteKept s (slotFault n s).2 := by
  unfold slotFault
  split
  · split
    · obtain ⟨c, q, h⟩ := sendMsg_eq 1 0 (.hello true s.tile s.ctx.gen) { s with ctx.bad := s.ctx.bad.filter (· != n) ++ [n] }
      rw [h]
      exact ⟨rfl, rfl⟩
    · dsimp only
      split <;> exact ⟨rfl, rfl⟩
  · split <;> exact ⟨rfl, rfl⟩
  · exact ⟨rfl, rfl⟩
  · exact ⟨rfl, rfl⟩

/-- A store that a job may read. -/
theorem parityMend_kept {h : ParityHit} (hstore : h.store ≠ 0x0C ∧ h.store ≠ 0x0D ∧ h.store ≠ 0x0E ∧ h.store ≠ 0x11) (s : State) :
    MuteKept s (parityMend h s).2 := by
  obtain ⟨h12, h13, h14, h17⟩ := hstore
  unfold parityMend
  split
  · exact ⟨rfl, rfl⟩
  · exact ⟨rfl, rfl⟩
  · exact ⟨rfl, rfl⟩
  · exact ⟨rfl, rfl⟩
  · exact ⟨rfl, rfl⟩
  · dsimp only
    split <;> exact ⟨rfl, rfl⟩
  · exact ⟨rfl, rfl⟩
  · exact ⟨rfl, rfl⟩
  · exact ⟨rfl, rfl⟩
  · exact slotFault_kept ..
  next heq => exact absurd heq h12
  next heq => exact absurd heq h13
  next heq => exact absurd heq h14
  · obtain ⟨k, b, c, q, hr⟩ := recoveryTrap_eq { s with boot.restartPar := true }
    dsimp only
    rw [hr]
    exact ⟨rfl, rfl⟩
  next heq => exact absurd heq h17
  · exact ⟨rfl, rfl⟩
  · exact ⟨rfl, rfl⟩
  · exact ⟨rfl, rfl⟩
  · exact ⟨rfl, rfl⟩
  · exact ⟨rfl, rfl⟩
  · exact ⟨rfl, rfl⟩

theorem parityEvent_kept (store index action : Nat) (s : State) : MuteKept s (parityEvent store index action s) := by
  obtain ⟨v, c, q, x, h⟩ := parityEvent_eq store index action s
  rw [h]
  exact ⟨rfl, rfl⟩

theorem captureParity_kept (store addr : Nat) (s : State) : MuteKept s (captureParity store addr s) := by
  obtain ⟨i, k, h, -⟩ := captureParity_eq store addr s
  rw [h]
  exact ⟨rfl, rfl⟩

theorem MuteKept.trans {s t u : State} (h : MuteKept s t) (h' : MuteKept t u) : MuteKept s u := ⟨h'.1.trans h.1, h'.2.trans h.2⟩

theorem parityHit_kept {h : ParityHit} (hstore : h.store ≠ 0x0C ∧ h.store ≠ 0x0D ∧ h.store ≠ 0x0E ∧ h.store ≠ 0x11) (s : State) :
    MuteKept s (parityHit h s) := by
  have hbad : MuteKept (captureParity h.store h.addr s) (noteBad h.store h.addr (captureParity h.store h.addr s)) := by
    unfold noteBad
    split <;> exact ⟨rfl, rfl⟩
  have hdrop := ((captureParity_kept h.store h.addr s).trans hbad).trans (parityDrop_kept h _)
  unfold parityHit parityFound
  dsimp only
  split
  · exact hdrop.trans (parityMend_kept hstore _)
  · split
    · exact hdrop
    · exact (hdrop.trans (parityMend_kept hstore _)).trans (parityEvent_kept ..)

theorem storeAt_read (s : State) (a : Nat) : storeAt s a ≠ 0x0C ∧ storeAt s a ≠ 0x0D ∧ storeAt s a ≠ 0x0E ∧ storeAt s a ≠ 0x11 := by
  unfold storeAt
  repeat' split
  all_goals decide

section Block

variable {s : State} (hm : s.memOk) (hcore : s.clk.core = true) (hbusy : s.mute.busy = true) (hstr : s.mute.strBusy = false)
  (hown : s.mute.forCmd = none) (hwait : s.cap.waiting = [])

include hcore hbusy hstr in
theorem exec_muteJobBlock {parity fail : Bool} (hway : (s.dmaOk || s.isMember || s.mute.job.dir || !s.mute.job.host) = true) {t : State}
    (ht : muteBlock parity fail s = t) (hcap : t.cap.waiting = []) : exec (.muteJobBlock parity fail) s = answer s t := by
  have hexec : exec (.muteJobBlock parity fail) s = execMuteJobBlock parity fail s := rfl
  rw [hexec, execMuteJobBlock, if_pos (by rw [hcore, hbusy, hstr, hway]; rfl), ht, captureWaiting_none hcap]

/-- What a job that stops is like: the state `u` in which it stops has its counts and the RAMs. -/
theorem completes_stop (hm : s.memOk) {i : Instr} {result : Nat} {u : State} {P : State → Prop} (hown : u.mute.forCmd = none)
    (hexec : exec i s = answer s (muteStop result u)) (hcons : u.mute.cons = s.mute.cons) (hprod : u.mute.prod = s.mute.prod) (hmem : u.mem = s.mem)
    (hP : ∀ t : State, t.mute = { u.mute with busy := false, done := true, abort := false, result := result, forCmd := none } → t.out = u.out →
      t.host = u.host → P t) :
    Completes i s (fun t => t.mute.busy = false ∧ t.mute.done = true ∧ t.mute.result = result ∧ t.mute.cons = s.mute.cons ∧
      t.mute.prod = s.mute.prod ∧ t.mem = s.mem ∧ P t) := by
  obtain ⟨a, b, c, e, k, h⟩ := muteStop_eq result hown
  refine completes_answer_wf (hexec.trans (congrArg (answer s) h)) (show u.mem.wf = true from hmem ▸ hm) ⟨rfl, rfl, rfl, hcons, hprod, hmem, ?_⟩
  exact hP _ rfl rfl rfl

/-- The input of the job's next block, with what may follow it. -/
def jobInput (s : State) : List Byte := s.mem.read (s.mute.job.src + s.mute.cons) (min 260 (s.mute.job.ilen - s.mute.cons))

/-- The next block of a coding job (11 R333). -/
def jobCoded (s : State) : List Byte :=
  if s.mute.job.cls = 0 then frEncode (s.mute.job.bidx0 + s.mute.cons / 128) 3 s.mute.job.elo ((jobInput s).take 128)
  else if s.mute.job.cls = 1 then llgEncode ((jobInput s).take 128) else llrEncode ((jobInput s).take 128)

theorem jobCoded_pos (s : State) : 0 < (jobCoded s).length := coded_pos ..

include hm in
theorem muteBlock_codes (hdir : s.mute.job.dir = false) (hplace : (s.mute.job.host && s.isMember) = false) (hmore : s.mute.cons + 128 < s.mute.job.ilen) :
    muteBlock false false s = if s.mute.job.olen - s.mute.prod < (jobCoded s).length then muteStop 2 s
      else muteCount 128 (jobCoded s).length (muteOut (jobCoded s) s) := by
  have hraw : padTo 128 ((jobInput s).take 128) = (jobInput s).take 128 := by
    refine padTo_of_length ?_
    rw [List.length_take, jobInput, Memory.length_read hm]
    omega
  have hn : Nat.min 128 (s.mute.job.ilen - s.mute.cons) = 128 := Nat.min_eq_left (by omega)
  unfold muteBlock
  dsimp only
  rw [if_neg Bool.false_ne_true, hdir, Bool.not_false, Bool.and_true, hplace, Bool.false_and, if_neg Bool.false_ne_true, Bool.false_and,
    Bool.false_and, if_neg Bool.false_ne_true, if_pos rfl, hn]
  have hinput : s.mem.read (s.mute.job.src + s.mute.cons) (Nat.min 260 (s.mute.job.ilen - s.mute.cons)) = jobInput s := rfl
  rw [hinput, hraw]
  rfl

/-- A block that does not end its job, which is not aborted, is counted. -/
theorem muteCount_goes {used made : Nat} {u : State} (hmore : u.mute.cons + used < u.mute.job.ilen) (habort : u.mute.abort = false) :
    muteCount used made u = { u with mute.cons := u.mute.cons + used, mute.prod := u.mute.prod + made } := by
  unfold muteCount
  dsimp only
  rw [if_neg (by omega), if_neg (by simp [habort])]

include hm hcore hbusy hstr hwait

theorem completes_coded (hdir : s.mute.job.dir = false) (hhost : s.mute.job.host = false) (hmore : s.mute.cons + 128 < s.mute.job.ilen)
    (habort : s.mute.abort = false) (hfit : s.mute.prod + (jobCoded s).length ≤ s.mute.job.olen) :
    Completes (.muteJobBlock false false) s (fun t => t.mute = { s.mute with
        cons := s.mute.cons + 128, prod := s.mute.prod + (jobCoded s).length } ∧
      (∀ i, i < (jobCoded s).length → t.mem.byte (s.mute.job.dst + s.mute.prod + i) = (jobCoded s).getD i 0) ∧
      ({ t with mute := s.mute, mem := s.mem, parBad := s.parBad } : State) = s) := by
  have hblock := muteBlock_codes hm hdir (by rw [hhost]; rfl) hmore
  rw [if_neg (by omega), muteOut, if_neg (by simp [hhost]), State.put, muteCount_goes (by exact hmore) (by exact habort)] at hblock
  have hexec := exec_muteJobBlock hcore hbusy hstr (by simp [hhost]) hblock hwait
  refine completes_answer_wf hexec (Memory.write_wf _ _ _ hm) ⟨rfl, fun i hi => ?_, rfl⟩
  exact Memory.byte_write_inside _ _ _ hi

theorem completes_full (hown : s.mute.forCmd = none) (hdir : s.mute.job.dir = false) (hhost : s.mute.job.host = false)
    (hmore : s.mute.cons + 128 < s.mute.job.ilen) (hfull : s.mute.job.olen < s.mute.prod + (jobCoded s).length) :
    Completes (.muteJobBlock false false) s (fun t => t.mute.busy = false ∧ t.mute.done = true ∧ t.mute.result = 2 ∧ t.mute.cons = s.mute.cons ∧
      t.mute.prod = s.mute.prod ∧ t.mem = s.mem ∧ True) := by
  have hblock := muteBlock_codes hm hdir (by rw [hhost]; rfl) hmore
  have hpos := jobCoded_pos s
  rw [if_pos (by omega)] at hblock
  have hexec := exec_muteJobBlock hcore hbusy hstr (by simp [hhost]) hblock (by rw [muteStop_cap 2 hown]; exact hwait)
  exact completes_stop hm hown hexec rfl rfl rfl fun _ _ _ _ => trivial

/-- A job of a member's core 0 has no host to write to (01 R31). -/
theorem completes_memberHost (hown : s.mute.forCmd = none) (hdir : s.mute.job.dir = false) (hhost : s.mute.job.host = true) (hmember : s.isMember = true) :
    Completes (.muteJobBlock false false) s (fun t => t.mute.busy = false ∧ t.mute.done = true ∧ t.mute.result = 6 ∧ t.mute.cons = s.mute.cons ∧
      t.mute.prod = s.mute.prod ∧ t.mem = s.mem ∧ t.out = s.out) := by
  have hblock : muteBlock false false s = muteStop 6 s := by
    unfold muteBlock
    rw [if_neg Bool.false_ne_true, if_pos (by simp [hhost, hdir, hmember, hown])]
  have hexec := exec_muteJobBlock hcore hbusy hstr (by simp [hmember]) hblock (by rw [muteStop_cap 6 hown]; exact hwait)
  exact completes_stop hm hown hexec rfl rfl rfl fun _ _ hout _ => hout

/-- A block to the host is one write (11 R338). -/
theorem completes_hostWrite (hown : s.mute.forCmd = none) (hdir : s.mute.job.dir = false) (hhost : s.mute.job.host = true) (hmember : s.isMember = false)
    (hdma : s.dmaOk = true) (hcls : s.mute.job.cls = 2) (hmore : s.mute.cons + 128 < s.mute.job.ilen) (habort : s.mute.abort = false)
    (hfit : s.mute.prod + (llrEncode ((jobInput s).take 128)).length ≤ s.mute.job.olen) :
    Completes (.muteJobBlock false false) s (fun t => t.mem = s.mem ∧ t.out.writes = s.out.writes ++
      [{ addr := s.mute.haddr + s.mute.job.dst + s.mute.prod, data := llrEncode ((jobInput s).take 128), ro := s.host.relaxed }]) := by
  have hcoded : jobCoded s = llrEncode ((jobInput s).take 128) := by
    rw [jobCoded, if_neg (by omega), if_neg (by omega)]
  have hblock := muteBlock_codes hm hdir (by rw [hmember, Bool.and_false]) hmore
  rw [hcoded, if_neg (by omega), muteOut, if_pos (by simp [hhost, hdir]), hown] at hblock
  dsimp only at hblock
  rw [hostWrite, muteCount_goes (by exact hmore) (by exact habort)] at hblock
  have hexec := exec_muteJobBlock hcore hbusy hstr (by simp [hdma]) hblock hwait
  exact completes_answer_wf hexec hm ⟨rfl, by rw [Bool.true_and]⟩

omit hm hcore hbusy hstr hwait in
/-- The next block of a decoding job of raw blocks (11 R334). -/
theorem muteBlock_decodes (hdir : s.mute.job.dir = true) (hcls : s.mute.job.cls = 2) : muteBlock false false s = match llrDecode (jobInput s) with
    | .error .crc => muteStop 3 { s with mute.errCrc := cnt 8 s.mute.errCrc 1 }
    | .error .format => muteStop 4 { s with mute.errFormat := cnt 8 s.mute.errFormat 1 }
    | .ok (n, out) => if s.mute.job.olen - s.mute.prod < 128 then muteStop 2 s else muteCount n 128 (muteOut out s) := by
  have hdecode : muteDecode s.mute.job.cls (jobInput s) = match llrDecode (jobInput s) with
      | .ok (n, out) => .ok (n, false, .inr out)
      | .error e => .error e := by
    cases hl : llrDecode (jobInput s) <;> simp [muteDecode, hcls, hl]
  unfold muteBlock
  dsimp only
  rw [if_neg Bool.false_ne_true, hdir, Bool.not_true, Bool.and_false, Bool.false_and, Bool.false_and, if_neg Bool.false_ne_true, Bool.and_false,
    if_neg Bool.false_ne_true, if_neg Bool.false_ne_true]
  have hinput : s.mem.read (s.mute.job.src + s.mute.cons) (Nat.min 260 (s.mute.job.ilen - s.mute.cons)) = jobInput s := rfl
  rw [hinput, hdecode]
  cases llrDecode (jobInput s) with
  | error e => cases e <;> rfl
  | ok r => rfl

theorem completes_decoded {n : Nat} {out : List Byte} (hdir : s.mute.job.dir = true) (hcls : s.mute.job.cls = 2)
    (hdec : llrDecode (jobInput s) = .ok (n, out)) (hfit : s.mute.prod + 128 ≤ s.mute.job.olen) (hmore : s.mute.cons + n < s.mute.job.ilen)
    (habort : s.mute.abort = false) : Completes (.muteJobBlock false false) s (fun t =>
      t.mute = { s.mute with cons := s.mute.cons + n, prod := s.mute.prod + 128 } ∧
      ∀ i, i < 128 → t.mem.byte (s.mute.job.dst + s.mute.prod + i) = out.getD i 0) := by
  have hblock := muteBlock_decodes hdir hcls
  rw [hdec] at hblock
  dsimp only at hblock
  rw [if_neg (by omega), muteOut, if_neg (by simp [hdir]), State.put, muteCount_goes (by exact hmore) (by exact habort)] at hblock
  have hexec := exec_muteJobBlock hcore hbusy hstr (by simp [hdir]) hblock hwait
  refine completes_answer_wf hexec (Memory.write_wf _ _ _ hm) ⟨rfl, fun i hi => ?_⟩
  exact Memory.byte_write_inside _ _ _ (by rw [llrDecode_length hdec]; exact hi)

theorem completes_crc (hown : s.mute.forCmd = none) (hdir : s.mute.job.dir = true) (hcls : s.mute.job.cls = 2)
    (hdec : llrDecode (jobInput s) = .error .crc) : Completes (.muteJobBlock false false) s (fun t => t.mute.busy = false ∧ t.mute.done = true ∧
      t.mute.result = 3 ∧ t.mute.cons = s.mute.cons ∧ t.mute.prod = s.mute.prod ∧ t.mem = s.mem ∧ t.mute.errCrc = min (s.mute.errCrc + 1) 255) := by
  have hblock := muteBlock_decodes hdir hcls
  rw [hdec] at hblock
  dsimp only at hblock
  have hexec := exec_muteJobBlock hcore hbusy hstr (by simp [hdir]) hblock (by rw [muteStop_cap 3 (by exact hown)]; exact hwait)
  exact completes_stop hm (by exact hown) hexec rfl rfl rfl fun t ht _ _ => by rw [ht]; rfl

theorem completes_format (hown : s.mute.forCmd = none) (hdir : s.mute.job.dir = true) (hcls : s.mute.job.cls = 2)
    (hdec : llrDecode (jobInput s) = .error .format) : Completes (.muteJobBlock false false) s (fun t => t.mute.busy = false ∧ t.mute.done = true ∧
      t.mute.result = 4 ∧ t.mute.cons = s.mute.cons ∧ t.mute.prod = s.mute.prod ∧ t.mem = s.mem ∧ t.mute.errFormat = min (s.mute.errFormat + 1) 255) := by
  have hblock := muteBlock_decodes hdir hcls
  rw [hdec] at hblock
  dsimp only at hblock
  have hexec := exec_muteJobBlock hcore hbusy hstr (by simp [hdir]) hblock (by rw [muteStop_cap 4 (by exact hown)]; exact hwait)
  exact completes_stop hm (by exact hown) hexec rfl rfl rfl fun t ht _ _ => by rw [ht]; rfl

/-- A host that takes no more writes stops the job (11 R337). -/
theorem completes_hostFail (hown : s.mute.forCmd = none) (hdir : s.mute.job.dir = false) (hhost : s.mute.job.host = true) (hmember : s.isMember = false)
    (hdma : s.dmaOk = true) : Completes (.muteJobBlock false true) s (fun t => t.mute.busy = false ∧ t.mute.done = true ∧
      t.mute.result = 6 ∧ t.mute.cons = s.mute.cons ∧ t.mute.prod = s.mute.prod ∧ t.mem = s.mem ∧ t.host.hostrd = true) := by
  have hread : ∃ a b c e k, setHostrd s = { s with
      host.hostrd := true, icu.src := a, icu.undCount := b, icu.undSrc := c, icu.heldEdges := e, clk.mergeIcu := k } := by
    unfold setHostrd
    dsimp only
    split
    · exact ⟨_, _, _, _, _, rfl⟩
    · exact raise_eq 29 { s with host.hostrd := true }
  obtain ⟨a, b, c, e, k, hread⟩ := hread
  have hblock : muteBlock false true s = muteStop 6 (setHostrd s) := by
    unfold muteBlock
    rw [if_neg Bool.false_ne_true, if_neg (by simp [hmember]), if_pos (by simp [hhost, hdir])]
  rw [hread] at hblock
  have hexec := exec_muteJobBlock hcore hbusy hstr (by simp [hdma]) hblock (by
    rw [muteStop_cap 6]
    · exact hwait
    · exact hown)
  exact completes_stop hm (by exact hown) hexec rfl rfl rfl fun t _ _ hhost => by rw [hhost]

omit hm in
/-- A parity error in a block's input stops the job (11 R335). -/
theorem completes_parity (hown : s.mute.forCmd = none) (hway : s.mute.job.dir = true ∨ s.mute.job.host = false ∨ s.dmaOk = true) :
    Completes (.muteJobBlock true false) s (fun t => t.mute.busy = false ∧ t.mute.done = true ∧ t.mute.result = 5 ∧ t.mute.cons = s.mute.cons ∧
      t.mute.prod = s.mute.prod ∧ t.mute.errParity = min (s.mute.errParity + 1) 255) := by
  obtain ⟨a, b, c, e, k, hstop⟩ := muteStop_eq 5 (s := { s with mute.errParity := cnt 8 s.mute.errParity 1 }) hown
  have hblock : muteBlock true false s = muteParity s := by
    unfold muteBlock
    rw [if_pos rfl]
  have hkept : MuteKept (muteStop 5 { s with mute.errParity := cnt 8 s.mute.errParity 1 }) (muteParity s) := by
    unfold muteParity
    dsimp only
    split
    · exact (captureParity_kept ..).trans (parityEvent_kept ..)
    · exact parityHit_kept (storeAt_read s _) _
  rw [hstop] at hkept
  obtain ⟨hmute, hcap⟩ := hkept
  have hexec := exec_muteJobBlock hcore hbusy hstr (by rcases hway with h | h | h <;> simp [h]) hblock (by rw [hcap]; exact hwait)
  generalize muteParity s = u at *
  refine completes_answer hexec ?_
  dsimp only
  rw [hmute]
  exact ⟨rfl, rfl, rfl, rfl, rfl, rfl⟩

end Block

/-! ### The stream channel (11 R329) -/

/-- The record of the self deltas of a frame. -/
def selfRecord (slot n : Nat) (s : State) : SRec :=
  { epoch := n, tile := s.tile, kind := 1, raw := false, d := s.dLines slot, s := s.sLines slot, nblk := 5, blocks := codeBlocks s 1 n 5 false
    markers := [] }

theorem streamRecord_self (slot n : Nat) {s : State} (hmember : s.isMember = false) : streamRecord slot n 1 false [] s = { s with
    strm.recs := s.strm.recs ++ [selfRecord slot n s]
    mem := s.mem.write (muteStaging + 0x8000 * (n % 2) + 64 * 384) ((codeBlocks s 1 n 5 false).flatMap (·.2)) } := by
  unfold streamRecord
  dsimp only
  rw [if_neg Bool.false_ne_true, if_neg Bool.false_ne_true, hmember, if_neg Bool.false_ne_true]
  simp [selfRecord, streamBlocks]

/-- The self deltas of the frame just processed are coded into the staging region and into a record. -/
theorem exec_streamFrameCode_self {s : State} {n : Nat} (hn : add32 s.epoch 0xFFFFFFFF = n) (hcore : s.clk.core = true)
    (hdecoded : s.chn.prev.decoded = true) (hepoch : s.chn.prev.epoch = n) (hkind : s.chn.prev.kind = .normal) (hgood : s.chn.prev.dcause = 0)
    (hactive : s.activeSlot ≠ none) (hreports : s.chn.discardReports = false) (hstate : s.pwr.state = .active) (hmember : s.isMember = false)
    (hsel : s.ctxField (s.slotOf n) 0x360 1 = 2) (hraw : s.ctxField (s.slotOf n) 0x361 1 = 0) (hevery : s.ctxField (s.slotOf n) 0x362 1 = 1) :
    ∃ a b c e k q, exec (.streamFrameCode []) s = answer s { streamRecord (s.slotOf n) n 1 false [] (stageDrop (add32 n 0xFFFFFFFE) s) with
      mute := q, icu.src := a, icu.undCount := b, icu.undSrc := c, icu.heldEdges := e, clk.mergeIcu := k } ∧ q.strNblk = 5 ∧ q.strEpoch = n % 65536 := by
  have hexec : exec (.streamFrameCode []) s = execStreamFrameCode [] s := rfl
  unfold execStreamFrameCode at hexec
  extract_lets +onlyGivenNames n' slot sel raw every quiet at hexec
  have hn' : n' = n := hn
  have hquiet : quiet = false := by simp only [quiet, hkind]
  have hsel' : sel = 2 := (congrArg (fun m => s.ctxField (s.slotOf m) 0x360 1) hn').trans hsel
  have hraw' : ¬ raw := by
    rw [show raw = (s.ctxField (s.slotOf n') 0x361 1 % 4 = 1) from rfl, hn', hraw]
    norm_num
  have hev : every = 1 := by
    rw [show every = Nat.max 1 (s.ctxField (s.slotOf n') 0x362 1 % 32) from rfl, hn', hevery]
    rfl
  have hslot : slot = s.slotOf n := congrArg s.slotOf hn'
  have hraws : decide raw = false := decide_eq_false hraw'
  clear_value quiet every sel slot n'
  subst hn' hquiet hev hsel' hslot
  rw [if_neg (by simp [hcore, hdecoded, hepoch, hgood, hactive, hreports, hstate, hmember])] at hexec
  extract_lets +onlyGivenNames fr t at hexec
  have hfr : fr = true := by simp [fr, hraws, Nat.mod_one, bit]
  have ht : t = stageDrop (add32 n' 0xFFFFFFFE) s := if_pos hfr
  rw [hraws] at hexec
  clear_value t fr
  subst ht hfr
  extract_lets +onlyGivenNames run t2 at hexec
  have ht2 : t2 = streamRecord (s.slotOf n') n' 1 false [] (stageDrop (add32 n' 0xFFFFFFFE) s) := if_pos (Nat.mod_one n')
  clear_value t2 run
  subst ht2
  have hraise := raise_eq 19 { streamRecord (s.slotOf n') n' 1 false [] (stageDrop (add32 n' 0xFFFFFFFE) s) with
    mute.strBusy := false, mute.strEpoch := n' % 65536, mute.strNblk := 5 }
  generalize streamRecord (s.slotOf n') n' 1 false [] (stageDrop (add32 n' 0xFFFFFFFE) s) = u at *
  obtain ⟨a, b, c, e, k, hraise⟩ := hraise
  exact ⟨a, b, c, e, k, _, hexec.trans (congrArg (answer s) hraise), rfl, rfl⟩

theorem length_frEncode (bidx kind elo : Nat) (b : List Byte) : (frEncode bidx kind elo b).length = 64 := by
  unfold frEncode frBlock sealBlock
  simp only [List.length_append, length_leBytes]

theorem Memory.byte_write_canon (m : Memory) (a : Nat) (bs : List Byte) (x : Nat) : (m.canon.write a bs).byte x = (m.write a bs).byte x := by
  by_cases h : x < a ∨ a + bs.length ≤ x
  · rw [Memory.byte_write_outside _ h, Memory.byte_write_outside _ h, Memory.byte_canon]
  · obtain ⟨i, rfl⟩ := Nat.exists_eq_add_of_le (show a ≤ x by omega)
    rw [Memory.byte_write_inside _ _ _ (by omega), Memory.byte_write_inside _ _ _ (by omega)]

/-- A block read back from the staging region. -/
theorem read_staged (m : Memory) (base : Nat) {f : Nat → List Byte} (hf : ∀ b, (f b).length = 64) {n k : Nat} (hk : k < n) :
    (m.write base ((List.range n).flatMap f)).canon.read (base + 64 * k) 64 = f k := by
  have hsame := Memory.read_congr (a := base + 64 * k) (n := 64) (Memory.write_wf m.canon base ((List.range n).flatMap f) (Memory.canon_wf m))
    (Memory.canon_wf (m.write base ((List.range n).flatMap f))) fun i _ => by rw [Memory.byte_canon, Memory.byte_write_canon]
  rw [hsame, Memory.read_write_flatMap (Memory.canon_wf m) base hf (by rwa [List.length_range]), List.getElem_range]

theorem assoc_map_range {α : Type} (F : Nat → α) {n k : Nat} (hk : k < n) : assoc ((List.range n).map (fun b => (b, F b))) k = some (F k) := by
  have hfind : (List.range n).find? (fun b => b == k) = some k :=
    List.find?_range_eq_some.2 ⟨by simp, List.mem_range.2 hk, fun j hj => by simp; omega⟩
  rw [assoc, List.find?_map, show ((fun x : Nat × α => x.1 == k) ∘ fun b => (b, F b)) = fun b => b == k from rfl, hfind]
  rfl

theorem completes_streamed {s : State} {n : Nat} {r : SRec} (hn : add32 s.epoch 0xFFFFFFFF = n) (hcore : s.clk.core = true)
    (hdecoded : s.chn.prev.decoded = true) (hepoch : s.chn.prev.epoch = n) (hkind : s.chn.prev.kind = .normal) (hgood : s.chn.prev.dcause = 0)
    (hactive : s.activeSlot ≠ none) (hreports : s.chn.discardReports = false) (hstate : s.pwr.state = .active) (hhost : s.hostSide = true)
    (hsel : s.ctxField (s.slotOf n) 0x360 1 = 2) (hraw : s.ctxField (s.slotOf n) 0x361 1 = 0) (hevery : s.ctxField (s.slotOf n) 0x362 1 = 1)
    (hrecs : s.strm.recs = []) :
    Completes (.streamFrameCode []) s (fun t => t.mute.strNblk = 5 ∧ t.mute.strEpoch = n % 65536 ∧
      t.strm.recs.map (fun r => (r.epoch, r.tile, r.kind, r.raw, r.nblk)) = [(n, 0, 1, false, 5)] ∧
      ∀ k, k < 5 → assoc ((t.strm.recs.headD r).blocks) k = some (frEncode k 1 (n % 65536) (s.mem.read (0x3007FD00 + 128 * k) 128)) ∧
        t.mem.read (0x30087800 + 0x8000 * (n % 2) + 24576 + 64 * k) 64 = frEncode k 1 (n % 65536) (s.mem.read (0x3007FD00 + 128 * k) 128)) := by
  have hmember := State.notMember_of_hostSide hhost
  obtain ⟨a, b, c, e, k, q, hexec, hblk, hep⟩ := exec_streamFrameCode_self hn hcore hdecoded hepoch hkind hgood hactive hreports hstate hmember hsel
    hraw hevery
  have hdrop : ∃ q, stageDrop (add32 n 0xFFFFFFFE) s = { s with mute := q, strm.recs := [] } := by
    rw [stageDrop, if_neg (by simp [hmember]), hrecs]
    exact ⟨_, rfl⟩
  obtain ⟨q', hdrop⟩ := hdrop
  have hbytes : (codeBlocks s 1 n 5 false).flatMap (·.2) =
      (List.range 5).flatMap (fun b => frEncode b 1 (n % 65536) (s.mem.read (0x3007FD00 + 128 * b) 128)) := by
    rw [codeBlocks, List.flatMap_map]
    rfl
  have hcoded : codeBlocks { s with mute := q', strm.recs := [] } 1 n 5 false = codeBlocks s 1 n 5 false := rfl
  rw [hdrop, streamRecord_self _ _ (by exact hmember), hcoded, hbytes] at hexec
  refine completes_answer hexec ⟨hblk, hep, ?_, fun k hk => ⟨?_, ?_⟩⟩
  · have htile : s.tile = 0 := by rw [State.tile, if_neg (by simp [hmember])]
    exact congrArg (fun i => [(n, i, 1, false, 5)]) htile
  · exact assoc_map_range (fun b => frEncode b 1 (n % 65536) (s.mem.read (0x3007FD00 + 128 * b) 128)) hk
  · exact read_staged s.mem _ (fun b => length_frEncode b 1 (n % 65536) _) hk

/-! ### Stream records at the root (10 R309, 11 R331) -/

/-- A member's blocks join its record. -/
theorem completes_streamMessage {s : State} {tile kind n : Nat} {r : SRec} {blocks : List (Nat × List Byte)} (hn : add32 s.epoch 0xFFFFFFFF = n)
    (hroot : s.isRoot = true) (hcore : s.clk.core = true) (hkind : kind ≤ 2) (htile : tile ≠ 0) (hrecs : s.strm.recs = [r]) (hrt : r.tile = tile)
    (hrk : r.kind = kind) (hre : r.epoch = n) (hrn : r.nblk ≠ 0) (hblocks : r.blocks = []) :
    Completes (.streamMessage tile n kind false blocks) s (fun t => t.strm.recs = [{ r with blocks := blocks.filter (fun b => b.1 < r.nblk) }]) := by
  have hexec : exec (.streamMessage tile n kind false blocks) s = execStreamMessage tile n kind false blocks s := rfl
  obtain ⟨c, hconsume⟩ := consume_eq (· == .stream n kind false blocks) s
  rw [execStreamMessage, if_pos (by rw [hroot, hcore]; rfl), hconsume] at hexec
  have hbegin : beginRecord tile n kind false { s with crl := c } = { s with crl := c } := by
    unfold beginRecord
    dsimp only
    rw [if_pos (by rw [hrecs]; simp [hrt, hrk, hre])]
  have htake : takeStream tile n kind false blocks { s with crl := c } = { s with
      crl := c, strm.recs := [{ r with blocks := blocks.filter (fun b => b.1 < r.nblk) }] } := by
    unfold takeStream
    rw [if_neg (by simp [hn, htile]; omega), hbegin]
    dsimp only
    rw [hrecs, List.map_singleton, if_pos (by simp [hrt, hrk, hre, hrn]), hblocks, List.nil_append]
    simp [assoc]
  rw [htake] at hexec
  exact completes_answer hexec rfl

/-- A record goes into the buffer in hand, its header first. -/
theorem placeRecord_fits {n : Nat} {descs : List (Nat × Nat × Nat)} {r : SRec} {u : State} {b : SBuf} (hbufs : u.strm.bufs = [b])
    (hfit : (b.used + 63) / 64 * 64 + 32 + (recordPayload r).length ≤ b.len) :
    placeRecord (n + 1) descs r u = { u with
      out.writes := u.out.writes ++
        [{ addr := b.addr + (b.used + 63) / 64 * 64, data := recordHeader r (recordPayload r).length, ro := u.host.relaxed },
         { addr := b.addr + (b.used + 63) / 64 * 64 + 32, data := recordPayload r, ro := u.host.relaxed }]
      strm.bufs := [{ b with used := (b.used + 63) / 64 * 64 + 32 + (recordPayload r).length, efirst := if b.nrec = 0 then r.epoch else b.efirst
                             elast := r.epoch, nrec := min (b.nrec + 1) 65535 }] } := by
  unfold placeRecord
  dsimp only
  rw [hbufs]
  dsimp only
  rw [if_pos hfit]
  simp only [hostWrite, Bool.true_and, List.append_assoc, List.cons_append, List.nil_append, hbufs, List.tail_cons]
  rfl

theorem recordHeader_fields (r : SRec) (n : Nat) : (recordHeader r n).length = 32 ∧ leAt (recordHeader r n) 0 4 = r.epoch % 2 ^ 32 ∧
    leAt (recordHeader r n) 8 4 = n % 2 ^ 32 ∧ leAt (recordHeader r n) 14 2 = recordDropped r % 65536 := by
  have hlen := length_leBytes
  unfold recordHeader
  simp only [List.append_assoc]
  refine ⟨?_, leAt_leBytes_append 4 _ _, ?_, ?_⟩
  · simp only [List.length_append, length_leBytes, zeros, List.length_replicate]
  · rw [leAt_append _ _ 4 _ (by rw [hlen]), leAt_append _ _ 0 _ (by rw [hlen])]
    exact leAt_leBytes_append 4 _ _
  · rw [leAt_append _ _ 10 _ (by rw [hlen]), leAt_append _ _ 6 _ (by rw [hlen]), leAt_append _ _ 2 _ (by rw [hlen]), leAt_append _ _ 0 _ (by rw [hlen])]
    exact leAt_leBytes_append 2 _ _

/-- What a record written leaves of the first record of its tile and kind, `ok` among what is written. -/
theorem writeRecord_fits {s : State} {tile kind : Nat} {descs : List (Nat × Nat × Nat)} {ok : SRec → Bool} {r : SRec} {rest : List SRec} {b : SBuf}
    (hrings : s.ringsOk = true) (hrecs : s.strm.recs = r :: rest) (hrt : r.tile = tile) (hrk : r.kind = kind) (hok : ok r = true)
    (hbufs : s.strm.bufs = [b]) (hfit : (b.used + 63) / 64 * 64 + 32 + (recordPayload r).length ≤ b.len) :
    ∃ recs, writeRecord tile kind descs ok s = { s with
      out.writes := s.out.writes ++
        [{ addr := b.addr + (b.used + 63) / 64 * 64, data := recordHeader r (recordPayload r).length, ro := s.host.relaxed },
         { addr := b.addr + (b.used + 63) / 64 * 64 + 32, data := recordPayload r, ro := s.host.relaxed }]
      strm := { s.strm with
        recs := recs
        bufs := [{ b with used := (b.used + 63) / 64 * 64 + 32 + (recordPayload r).length, efirst := if b.nrec = 0 then r.epoch else b.efirst
                          elast := r.epoch, nrec := min (b.nrec + 1) 65535 }] } } := by
  unfold writeRecord
  rw [hrecs, List.find?_cons_of_pos (by simp [hrt, hrk, hok])]
  dsimp only
  generalize (r :: rest).map _ = recs
  have hgo : ({ s with strm.recs := recs } : State).ringsOk = true := hrings
  rw [hgo, Bool.or_true, if_pos rfl, placeRecord_fits (by exact hbufs) hfit]
  exact ⟨recs, rfl⟩

section Records

variable {s : State} {tile kind : Nat} (descs : List (Nat × Nat × Nat)) {r : SRec} {b : SBuf} (hhost : s.hostSide = true) (hcore : s.clk.core = true)
  (hrings : s.ringsOk = true) (hrecs : s.strm.recs = [r]) (hrt : r.tile = tile) (hrk : r.kind = kind) (hrn : r.nblk ≠ 0)
  (hbufs : s.strm.bufs = [b]) (hfit : (b.used + 63) / 64 * 64 + 32 + (recordPayload r).length ≤ b.len)

/-- The two writes of a record, and the buffer after them (10 R309). -/
def RecordWrote (b : SBuf) (r : SRec) (s t : State) : Prop := ∃ w1 w2 : HostWrite, t.out.writes = s.out.writes ++ [w1, w2] ∧
  w1.addr = b.addr + (b.used + 63) / 64 * 64 ∧ w2.addr = b.addr + (b.used + 63) / 64 * 64 + 32 ∧ w2.data = recordPayload r ∧ w1.data.length = 32 ∧
  leAt w1.data 0 4 = r.epoch % 2 ^ 32 ∧ leAt w1.data 8 4 = (recordPayload r).length % 2 ^ 32 ∧ leAt w1.data 14 2 = recordDropped r % 65536 ∧
  t.strm.bufs = [{ b with used := (b.used + 63) / 64 * 64 + 32 + (recordPayload r).length, efirst := if b.nrec = 0 then r.epoch else b.efirst
                          elast := r.epoch, nrec := min (b.nrec + 1) 65535 }]

include hhost hcore hrings hrecs hrt hrk hbufs hfit

theorem completes_recordWrite (hwhole : recordWhole r = true) : Completes (.streamRecordWrite tile kind descs) s (RecordWrote b r s) := by
  have hexec : exec (.streamRecordWrite tile kind descs) s = execStreamRecordWrite tile kind descs s := rfl
  obtain ⟨hlen, he, hp, hd⟩ := recordHeader_fields r (recordPayload r).length
  obtain ⟨recs, hwrite⟩ := writeRecord_fits (descs := descs) hrings hrecs hrt hrk hwhole hbufs hfit
  rw [execStreamRecordWrite, if_pos (by rw [hhost, hcore]; rfl), hwrite] at hexec
  exact completes_answer hexec ⟨_, _, rfl, rfl, rfl, rfl, hlen, he, hp, hd, rfl⟩

include hrn in
theorem completes_recordDeadline : Completes (.streamRecordDeadline tile kind descs) s (RecordWrote b r s) := by
  have hexec : exec (.streamRecordDeadline tile kind descs) s = execStreamRecordDeadline tile kind descs s := rfl
  obtain ⟨hlen, he, hp, hd⟩ := recordHeader_fields r (recordPayload r).length
  have hbegin : ∀ o : Option Bool, ∃ rest, (match o with
      | some raw => beginRecord tile (add32 s.epoch 0xFFFFFFFF) kind raw s
      | none => s) = { s with strm.recs := r :: rest } := by
    have hself : s = { s with strm.recs := [r] } := by rw [← hrecs]
    intro o
    cases o with
    | none => exact ⟨[], hself⟩
    | some raw =>
      dsimp only
      unfold beginRecord
      dsimp only
      split
      · exact ⟨[], hself⟩
      · rw [hrecs]
        exact ⟨_, rfl⟩
  unfold execStreamRecordDeadline at hexec
  dsimp only at hexec
  rw [if_pos (by rw [hhost, hcore]; rfl)] at hexec
  obtain ⟨rest, hrest⟩ := hbegin (s.expected tile kind (add32 s.epoch 0xFFFFFFFF))
  obtain ⟨recs, hwrite⟩ := writeRecord_fits (s := { s with strm.recs := r :: rest }) (descs := descs) (ok := (·.nblk != 0)) hrings rfl hrt hrk
    (by simpa using hrn) hbufs hfit
  have hexec' := hexec.trans (congrArg (fun u => answer s (writeRecord tile kind descs (·.nblk != 0) u)) hrest)
  dsimp only at hexec'
  rw [hwrite] at hexec'
  exact completes_answer hexec' ⟨_, _, rfl, rfl, rfl, rfl, hlen, he, hp, hd, rfl⟩

end Records

/-- What is written back of a buffer (10 R309). -/
def bufferBytes (c : RingCfg) (b : SBuf) : List Byte :=
  leBytes 4 b.used ++ leBytes 4 b.efirst ++ leBytes 4 b.elast ++ leBytes 4 (pack [(b.nrec, 0), (phaseOf c.log2n b.idx, 31)])

theorem retireBuffer_eq (b : SBuf) (s : State) : ∃ v, retireBuffer b s = { s with
    out.writes := s.out.writes ++ [{ addr := s.rings.str.slot 32 b.idx + 16, data := bufferBytes s.rings.str b, ro := false }]
    strm.bufs := s.strm.bufs.tail, rings.strCi := add32 b.idx 1, rings.dirty := true, host.vecs := v } := by
  unfold retireBuffer
  dsimp only
  obtain ⟨v, h⟩ := countRecord_eq s.rings.str { hostWrite (s.rings.str.slot 32 b.idx + 16) (bufferBytes s.rings.str b) false s with
    strm.bufs := s.strm.bufs.tail, rings.strCi := add32 b.idx 1, rings.dirty := true }
  exact ⟨v, h⟩

/-- A buffer whose FLUSH has run out is handed back (10 R309). -/
theorem completes_retire {s : State} {b : SBuf} (hrings : s.ringsOk = true) (hbufs : s.strm.bufs = [b]) (hflush : b.flush ≠ 0) (hnrec : b.nrec ≠ 0)
    (hlow : b.nrec < 65536) (hdue : b.flush ≤ diff32 s.epoch b.efirst) : Completes .streamBufferRetire s (fun t => t.strm.bufs = [] ∧
      t.rings.strCi = (b.idx + 1) % 2 ^ 32 ∧
      ∃ w : HostWrite, t.out.writes = s.out.writes ++ [w] ∧ w.addr = s.rings.str.base + 32 * (b.idx % 2 ^ s.rings.str.log2n) + 16 ∧
        w.data.length = 16 ∧ leAt w.data 0 4 = b.used % 2 ^ 32 ∧ leAt w.data 4 4 = b.efirst % 2 ^ 32 ∧
        leAt w.data 8 4 = b.elast % 2 ^ 32 ∧ leAt w.data 12 4 = b.nrec + if b.idx / 2 ^ s.rings.str.log2n % 2 = 0 then 2 ^ 31 else 0) := by
  have hexec : exec .streamBufferRetire s = execStreamBufferRetire s := rfl
  unfold execStreamBufferRetire at hexec
  rw [hbufs] at hexec
  dsimp only at hexec
  rw [if_pos (by simp [hrings, hflush, hnrec, hdue])] at hexec
  obtain ⟨v, hretire⟩ := retireBuffer_eq b s
  have hlen := length_leBytes
  refine completes_answer (hexec.trans (congrArg (answer s) hretire)) ⟨by simp [hbufs], rfl, _, rfl, rfl, ?_, ?_, ?_, ?_, ?_⟩
  · simp only [bufferBytes, List.length_append, hlen]
  · simp only [bufferBytes, List.append_assoc]
    exact leAt_leBytes_append 4 _ _
  · simp only [bufferBytes, List.append_assoc]
    rw [leAt_append _ _ 0 _ (by rw [hlen])]
    exact leAt_leBytes_append 4 _ _
  · simp only [bufferBytes, List.append_assoc]
    rw [leAt_append _ _ 4 _ (by rw [hlen]), leAt_append _ _ 0 _ (by rw [hlen])]
    exact leAt_leBytes_append 4 _ _
  · simp only [bufferBytes, List.append_assoc]
    rw [leAt_append _ _ 8 _ (by rw [hlen]), leAt_append _ _ 4 _ (by rw [hlen]), leAt_append _ _ 0 _ (by rw [hlen]), ← List.append_nil (leBytes 4 _),
      leAt_leBytes_append 4, pack, pack, pack, phaseOf]
    dsimp only
    split <;> omega

end Sys2Proof.Machine

open Sys2Proof Sys2Proof.Machine

/-- Settles O39: a job by what it makes of its next block, and the streams by what each leaves of the records and the buffer in hand. -/
theorem muteJobsAndStreamsRun : Obligations.MuteJobsAndStreamsRun := by
  unfold Obligations.MuteJobsAndStreamsRun
  refine ⟨fun v s hm hcore => ⟨fun hidle hgo => ⟨fun hi ho => ?_, fun hi => ?_, fun hi ho => ?_⟩, fun hbusy => ?_, fun hbusy hstr hown hwait =>
    ⟨fun hdir hhost hmore habort => ⟨fun hfit => ?_, fun hfull => ?_⟩, fun hdir hhost hmember => ?_,
      fun hdir hhost hmember hdma hcls hmore habort hfit => ?_, fun hdir hcls => ⟨fun n out hdec hfit hmore habort => ?_, fun hdec => ?_, fun hdec => ?_⟩,
      fun hway => ?_, fun hdir hhost hmember hdma => ?_⟩⟩, fun b r descs tile kind blocks s =>
    ⟨fun hcore hdecoded hepoch hkind hgood hactive hreports hstate hhost hsel hraw hevery hrecs => ?_,
      fun hroot hcore hkind htile hrecs hrt hrk hre hrn hblocks _ => ?_,
      fun hhost hcore hrings hrecs hrt hrk hrn hbufs hfit => ⟨fun hwhole => ?_, ?_⟩,
      fun hrings hbufs hflush hnrec hlow hdue => ?_⟩⟩
  · exact completes_go hm hcore hidle hgo hi ho
  · exact completes_go_empty hm hcore hidle hgo (.inl ⟨hi, rfl⟩)
  · exact completes_go_empty hm hcore hidle hgo (.inr ⟨hi, ho, rfl⟩)
  · exact exec_muteJobAbort hm hcore hbusy
  · exact completes_coded hm hcore hbusy hstr hwait hdir hhost hmore habort hfit
  · exact completes_full hm hcore hbusy hstr hwait hown hdir hhost hmore hfull
  · exact completes_memberHost hm hcore hbusy hstr hwait hown hdir hhost hmember
  · exact completes_hostWrite hm hcore hbusy hstr hwait hown hdir hhost hmember hdma hcls hmore habort hfit
  · exact completes_decoded hm hcore hbusy hstr hwait hdir hcls hdec hfit hmore habort
  · exact completes_crc hm hcore hbusy hstr hwait hown hdir hcls hdec
  · exact completes_format hm hcore hbusy hstr hwait hown hdir hcls hdec
  · exact completes_parity hcore hbusy hstr hwait hown hway
  · exact completes_hostFail hm hcore hbusy hstr hwait hown hdir hhost hmember hdma
  · exact completes_streamed rfl hcore hdecoded hepoch hkind hgood hactive hreports hstate hhost hsel hraw hevery hrecs
  · exact completes_streamMessage rfl hroot hcore hkind htile hrecs hrt hrk hre hrn hblocks
  · exact completes_recordWrite descs hhost hcore hrings hrecs hrt hrk hbufs hfit hwhole
  · exact completes_recordDeadline descs hhost hcore hrings hrecs hrt hrk hrn hbufs hfit
  · exact completes_retire hrings hbufs hflush hnrec hlow hdue
end

section
/-! Power states (16 R430 to R449): the orders, the entries and their refusals, the wake sources, the exits and limp mode. -/

namespace Sys2Proof.Machine

/-! ### What the steps of an entry leave -/

/-- The state of the power unit, the clocks, the epoch, the host function, the slots and the cores stand. -/
structure PowerKept (s t : State) : Prop where
  pwr : t.pwr = s.pwr
  epoch : t.epoch = s.epoch
  clk : ∃ k, t.clk = { s.clk with mergeIcu := k }
  host : t.host = s.host
  hdma : t.hdma = s.hdma
  boot : t.boot = s.boot
  slots : t.ctx.slots = s.ctx.slots
  core0 : t.core0 = s.core0
  core1 : t.core1 = s.core1

theorem PowerKept.refl (s : State) : PowerKept s s := ⟨rfl, rfl, ⟨_, rfl⟩, rfl, rfl, rfl, rfl, rfl, rfl⟩

theorem PowerKept.trans {s t u : State} (h : PowerKept s t) (h' : PowerKept t u) : PowerKept s u := by
  obtain ⟨k, hk⟩ := h.clk
  obtain ⟨k', hk'⟩ := h'.clk
  exact ⟨h'.pwr.trans h.pwr, h'.epoch.trans h.epoch, ⟨k', by rw [hk', hk]⟩, h'.host.trans h.host, h'.hdma.trans h.hdma, h'.boot.trans h.boot,
    h'.slots.trans h.slots, h'.core0.trans h.core0, h'.core1.trans h.core1⟩

theorem raise_power (n : Nat) (s : State) : PowerKept s (raise n s) := by
  obtain ⟨_, _, _, _, k, h⟩ := raise_eq n s
  rw [h]
  exact ⟨rfl, rfl, ⟨k, rfl⟩, rfl, rfl, rfl, rfl, rfl, rfl⟩

theorem sendMsgParts_power (cls dst : Nat) (bcast : Bool) (msgs : List Msg) (s : State) : PowerKept s (sendMsgParts cls dst bcast msgs s) := by
  obtain ⟨_, _, h⟩ := sendMsgParts_eq cls dst bcast msgs s
  rw [h]
  exact ⟨rfl, rfl, ⟨_, rfl⟩, rfl, rfl, rfl, rfl, rfl, rfl⟩

theorem partDone_power (num code r0 r1 : Nat) (s : State) : PowerKept s (partDone num code r0 r1 s) := by
  obtain ⟨_, _, _, h⟩ := partDone_eq num code r0 r1 s
  rw [h]
  exact ⟨rfl, rfl, ⟨_, rfl⟩, rfl, rfl, rfl, rfl, rfl, rfl⟩

theorem postEvent_power (code d0 d1 : Nat) (s : State) : PowerKept s (postEvent code d0 d1 s) := by
  obtain ⟨_, _, _, h⟩ := postEvent_eq code d0 d1 s
  rw [h]
  exact ⟨rfl, rfl, ⟨_, rfl⟩, rfl, rfl, rfl, rfl, rfl, rfl⟩

/-- The calibration unit's own record is none of what stands. -/
theorem withCal_power (c : Calib) (s : State) : PowerKept s { s with cal := c } := ⟨rfl, rfl, ⟨_, rfl⟩, rfl, rfl, rfl, rfl, rfl, rfl⟩

theorem setCalDone_power (s : State) : PowerKept s (setCalDone s) := by
  unfold setCalDone
  split
  · exact .refl s
  · exact (withCal_power _ s).trans (raise_power 17 _)

theorem endCalCmds_power (group : Bool) (fails : Nat) (s : State) : PowerKept s (endCalCmds group fails s) := by
  have hfold (l : List Nat) (t : State) : PowerKept t (l.foldl (fun u j => partDone j 0 fails 0 u) t) :=
    foldl_chains PowerKept.refl (fun _ _ _ => PowerKept.trans) (fun _ _ => partDone_power ..) l t
  unfold endCalCmds
  dsimp only
  split <;> exact (withCal_power _ s).trans (hfold ..)

theorem restoreGroup_power (s : State) : PowerKept s (restoreGroup s) := by
  obtain ⟨m, h⟩ := restorePairs_mem s.cal.old s
  unfold restoreGroup
  dsimp only
  rw [h]
  exact ⟨rfl, rfl, ⟨_, rfl⟩, rfl, rfl, rfl, rfl, rfl, rfl⟩

theorem abandonCal_power (s : State) : PowerKept s (abandonCal s) := by
  unfold abandonCal
  split
  · exact .refl s
  · dsimp only
    have hstart : PowerKept s (if (s.cal.kind == .group) = true then restoreGroup s else s) := by
      split
      · exact restoreGroup_power s
      · exact .refl s
    generalize (if (s.cal.kind == .group) = true then restoreGroup s else s) = t at hstart
    have hevent : PowerKept t (if s.cal.baseOnly = true then t else setCalDone (calEvent 2 (s.cal.kind == .group) t.cal.byCmd t)) := by
      split
      · exact .refl t
      · exact (postEvent_power ..).trans (setCalDone_power _)
    generalize (if s.cal.baseOnly = true then t else setCalDone (calEvent 2 (s.cal.kind == .group) t.cal.byCmd t)) = u at hevent
    split
    · exact ((hstart.trans hevent).trans (withCal_power _ u)).trans (endCalCmds_power ..)
    · exact (hstart.trans hevent).trans (withCal_power _ u)

theorem retireSilently_power (s : State) : PowerKept s (retireSilently s) := by
  have hparts : PowerKept s (s.cal.releases.foldl (fun u r => partDone r.cmd 0x0D u.chn.prev.epoch 0 u) s) :=
    foldl_chains PowerKept.refl (fun _ _ _ => PowerKept.trans) (fun _ _ => partDone_power ..) _ s
  have hrest (t : State) (k : Tracker) (l : List Release) : PowerKept t { t with trk := k, cal.releases := l } :=
    ⟨rfl, rfl, ⟨_, rfl⟩, rfl, rfl, rfl, rfl, rfl, rfl⟩
  exact hparts.trans (hrest _ _ _)

theorem pauseMute_power (s : State) : PowerKept s (pauseMute s) := by
  unfold pauseMute
  split
  · obtain ⟨_, _, _, _, k, h⟩ := muteStop_eq 6 (s := { s with mute.paused := true, mute.resumeCmd := s.mute.forCmd, mute.forCmd := none }) rfl
    rw [h]
    exact ⟨rfl, rfl, ⟨k, rfl⟩, rfl, rfl, rfl, rfl, rfl, rfl⟩
  · exact .refl s

/-- The last frame before a sleep: of the power unit the GPIO outputs alone. -/
theorem lastFrame_power (s : State) : PowerKept { s with pwr.gpioOut := List.replicate 4 false } (lastFrame s) := by
  have hcal : PowerKept s (if s.cal.kind = .group then abandonCal s else s) := by
    split
    · exact abandonCal_power s
    · exact .refl s
  have hretire := hcal.trans (retireSilently_power _)
  unfold lastFrame
  dsimp only
  generalize retireSilently (if s.cal.kind = .group then abandonCal s else s) = t at hretire
  obtain ⟨hpwr, hepoch, hclk, hhost, hhdma, hboot, hslots, hcore0, hcore1⟩ := hretire
  refine PowerKept.trans ?_ (pauseMute_power _)
  exact ⟨by dsimp only; rw [hpwr], hepoch, hclk, hhost, hhdma, hboot, hslots, hcore0, hcore1⟩

/-! ### The counters of Bellows (16 R453) -/

theorem belCount_counter (id : Nat) {n : Nat} {s : State} (h : n < s.pwr.counters.length) :
    ((belCount n id s).pwr.counters.getD n {}).count = min ((s.pwr.counters.getD n {}).count + 1) 65535 ∧
      ((belCount n id s).pwr.counters.getD n {}).lastId = id := by
  simp [belCount, List.getD_eq_getElem?_getD, h, cnt]

theorem belCount_counter_ne (id : Nat) {n m : Nat} (h : m ≠ n) (s : State) :
    (belCount n id s).pwr.counters.getD m {} = s.pwr.counters.getD m {} := by
  simp [belCount, List.getD_eq_getElem?_getD, List.getElem?_modify, if_neg (Ne.symm h)]

theorem belCount_length (n id : Nat) (s : State) : (belCount n id s).pwr.counters.length = s.pwr.counters.length := List.length_modify ..

/-! ### Descents (16 R432, R433) -/

theorem sendPower_power (st : PState) (e : Nat) (s : State) : PowerKept s (sendPower st e s) := by
  unfold sendPower
  split
  · exact sendMsgParts_power ..
  · exact .refl s

theorem orderEntry_power (st : PState) (s : State) :
    PowerKept { s with pwr.entryDue := some st, pwr.entryEpoch := add32 s.epoch (if s.isRoot && s.crl.online.any (· != 0) then 2 else 1) } (orderEntry st s) :=
  sendPower_power ..

theorem orderEpoch (s : State) : add32 s.epoch (if s.isRoot && s.crl.online.any (· != 0) then 2 else 1) =
    (s.epoch + if s.isRoot = true ∧ ∃ x ∈ s.crl.online, x ≠ 0 then 2 else 1) % 2 ^ 32 := by
  simp [add32]

/-! ### Entries (16 R440, R441) -/

/-- A transition that ends with no floor latched. -/
theorem transitionDone_unlatched {s : State} (h : s.pwr.floorNext = none) :
    ∃ i k, transitionDone s = { s with pwr.busy := false, pwr.target := s.pwr.state, icu := i, clk.mergeIcu := k } := by
  obtain ⟨_, _, _, _, k, hr⟩ := raise_eq 36 { s with pwr.busy := false, pwr.target := s.pwr.state }
  rw [transitionDone, hr, latchedFloor, h]
  exact ⟨_, k, rfl⟩

theorem replayWake_unlatched {s : State} (h : s.pwr.latched = none) : replayWake s = s := by rw [replayWake, h]

/-- The last steps of an entry to DRONE, with no wake latched during it. -/
theorem droneEntered_eq {s : State} (hlatched : s.pwr.latched = none) (hfloor : s.pwr.floorNext = none) : ∃ i k l,
    replayWake (belCount 1 0 (transitionDone (sendLtr s))) = { s with
      pwr.busy := false, pwr.target := s.pwr.state, pwr.counters := (belCount 1 0 s).pwr.counters, icu := i, clk.mergeIcu := k, out.ltrs := l } := by
  obtain ⟨l, hltr⟩ := sendLtr_eq s
  obtain ⟨i, k, hdone⟩ := transitionDone_unlatched (s := { s with out.ltrs := l }) hfloor
  rw [hltr, hdone]
  exact ⟨i, k, l, replayWake_unlatched hlatched⟩

/-- An entered DRONE: its domains are off, and what it keeps stands. -/
theorem enterDrone_spec {s : State} (hlatched : s.pwr.latched = none) (hfloor : s.pwr.floorNext = none) :
    let t := enterDrone s
    t.pwr.state = .drone ∧ t.pwr.busy = false ∧ t.pwr.entryDue = none ∧ t.pwr.refused = false ∧ t.clk.core = false ∧ t.clk.afe = false ∧
      t.clk.link = false ∧ t.clk.host = s.clk.host ∧ t.pwr.counters = (belCount 1 0 s).pwr.counters ∧ t.epoch = s.epoch ∧
      t.ctx.slots = s.ctx.slots ∧ t.core0 = s.core0 ∧ t.core1 = s.core1 := by
  obtain ⟨hpwr, hepoch, ⟨k, hclk⟩, -, -, -, hslots, hcore0, hcore1⟩ := lastFrame_power s
  obtain ⟨d, fr, hdrone⟩ := startDrone_eq (saveList (lastFrame s))
  unfold enterDrone
  dsimp only
  rw [hdrone]
  generalize hu : ({ loseTrim (linkOff { saveList (lastFrame s) with drone := d, fresh := fr }) with
    clk.core := false, clk.afe := false, clk.pllLock := false, pwr.state := .drone, pwr.entryDue := none, pwr.refused := false
    pwr.wakeSinceDrone := false } : State) = u
  have hkept : u.pwr.latched = none ∧ u.pwr.floorNext = none ∧ u.pwr.counters = s.pwr.counters ∧ u.clk.host = s.clk.host := by
    subst hu
    exact ⟨(congrArg Power.latched hpwr).trans hlatched, (congrArg Power.floorNext hpwr).trans hfloor, (congrArg Power.counters hpwr).trans rfl,
      (congrArg Clocks.host hclk).trans rfl⟩
  obtain ⟨hul, huf, huc, huh⟩ := hkept
  obtain ⟨i, k', l, hend⟩ := droneEntered_eq hul huf
  have hcount : (belCount 1 0 u).pwr.counters = (belCount 1 0 s).pwr.counters := by simp only [belCount, huc]
  rw [hend]
  subst hu
  exact ⟨rfl, rfl, rfl, rfl, rfl, rfl, rfl, huh, hcount, hepoch, hslots, hcore0, hcore1⟩

/-! ### What DORMANT keeps (16 R441) -/

/-- The retention memory, the counters and what is latched in the power unit stand. -/
structure Retained (s t : State) : Prop where
  ret : ∀ x, retBase ≤ x → x < retBase + 0x1000 → t.mem.byte x = s.mem.byte x
  latched : t.pwr.latched = s.pwr.latched
  floorNext : t.pwr.floorNext = s.pwr.floorNext
  counters : t.pwr.counters = s.pwr.counters

theorem Retained.trans {s t u : State} (h : Retained s t) (h' : Retained t u) : Retained s u :=
  ⟨fun x hlo hhi => (h'.ret x hlo hhi).trans (h.ret x hlo hhi), h'.latched.trans h.latched, h'.floorNext.trans h.floorNext,
    h'.counters.trans h.counters⟩

/-- Without a job of the host DMA engine the HOST domain's reset writes no memory. -/
theorem hostDomainReset_retained {s : State} (hbusy : s.hdma.busy = false) (hpost : s.hdma.pbusy = false) : Retained s (hostDomainReset s) := by
  have habort : abortHdma s = s := by simp [abortHdma, hbusy, hpost]
  obtain ⟨_, _, _, _, _, _, _, _, _, _, _, _, hclear⟩ := clearJournal_eq (ringsOff s)
  unfold hostDomainReset
  dsimp only
  rw [habort, hclear]
  exact ⟨fun _ _ _ => rfl, rfl, rfl, rfl⟩

theorem coreDomainReset_retained (s : State) : Retained s (coreDomainReset s) := by
  have hpwr := (coreDomainReset_spec s).pwr
  have hmem : (coreDomainReset s).mem = (s.mem.clear ctxBase 0x4000).clear (mirrorBase + 4) 4 := by
    obtain ⟨_, _, _, _, _, _, _, _, _, _, _, _, hclear⟩ := clearJournal_eq (ringsOff s)
    unfold coreDomainReset
    dsimp only
    rw [hclear]
    rfl
  have hbases : ctxBase + 0x4000 ≤ retBase ∧ mirrorBase + 8 ≤ retBase := by decide
  refine ⟨fun x hlo hhi => ?_, by rw [hpwr], by rw [hpwr], by rw [hpwr]⟩
  rw [hmem, Memory.byte_clear, if_neg (by omega), Memory.byte_clear, if_neg (by omega)]

theorem loseTrim_retained (s : State) : Retained s (loseTrim s) := by
  have hbases : retBase + 0x1000 ≤ trimRam := by decide
  refine ⟨fun x hlo hhi => ?_, rfl, rfl, rfl⟩
  rw [loseTrim, Memory.byte_clear, if_neg (by omega)]

theorem refusals_dormant_idle {s : State} (hside : s.hostSide = true) (h : refusals .dormant s = []) :
    s.hdma.busy = false ∧ s.hdma.pbusy = false := by
  simp only [refusals, List.append_eq_nil_iff, hside, Bool.true_and] at h
  obtain ⟨-, hhost⟩ := h
  split at hhost
  · cases hhost
  next hquiet =>
    simp only [Bool.or_eq_true, not_or] at hquiet
    simp [hquiet]

/-- The epoch as core 0 writes it among its items, before the image. -/
theorem byte_savedEpoch (m : Memory) (e : Nat) (img : List Byte) {i : Nat} (h : i < 4) :
    ((m.write (retBase + 0xE0) (leBytes 4 e)).write (retBase + 0x800) img).byte (retBase + 0xE0 + i) = (leBytes 4 e).getD i 0 := by
  rw [Memory.byte_write_outside _ (.inl (by omega)), Memory.byte_write_inside _ _ _ (by rwa [length_leBytes])]

/-- HOST's loss at DORMANT, on a device that has a host. -/
def hostLost (s : State) : State := if s.hostSide then { hostDomainReset s with host.dstate := .d3cold, host.perst := s.host.perst } else s

/-- The domains' loss once core 0 has written its items. -/
def domainsLost (s : State) : State := loseTrim (linkDomainReset (linkOff (afeDomainReset (coreDomainReset (hostLost s)))))

/-- The registers that say DORMANT. -/
def markDormant (s : State) : State := { s with
  clk.core := false, clk.afe := false, clk.host := false, clk.pllLock := false, clk.xtalOk := false, clk.limpClk := false
  pwr.state := .dormant, pwr.target := .dormant, pwr.busy := false, pwr.limp := false, pwr.awaitL2 := false
  pwr.entryDue := none, pwr.refused := false, drone.slot := 0, drone.pcnt := 0, drone.base := false }

theorem enterDormant_eq (s : State) : ∃ (img : List Byte) (bad : List Nat), enterDormant s = replayWake (latchedFloor (markDormant (domainsLost
    (belCount 2 0 { saveList (lastFrame s) with
      mem := ((saveList (lastFrame s)).mem.write (retBase + 0xE0) (leBytes 4 (saveList (lastFrame s)).epoch)).write (retBase + 0x800) img
      pwr.retBad := bad })))) := by
  unfold enterDormant
  generalize saveList (lastFrame s) = u
  exact ⟨_, _, rfl⟩

theorem domainsLost_retained {s : State} (hidle : s.hostSide = true → s.hdma.busy = false ∧ s.hdma.pbusy = false) :
    Retained s (domainsLost s) ∧ (domainsLost s).clk.link = false := by
  have hhost : Retained s (hostLost s) := by
    unfold hostLost
    split
    next hside =>
      obtain ⟨hret, hl, hf, hc⟩ := hostDomainReset_retained (hidle hside).1 (hidle hside).2
      exact ⟨hret, hl, hf, hc⟩
    next => exact ⟨fun _ _ _ => rfl, rfl, rfl, rfl⟩
  have hcore := hhost.trans (coreDomainReset_retained (hostLost s))
  have hlink (t : State) : Retained t (linkDomainReset (linkOff (afeDomainReset t))) := ⟨fun _ _ _ => rfl, rfl, rfl, rfl⟩
  exact ⟨(hcore.trans (hlink _)).trans (loseTrim_retained _), rfl⟩

/-- An entered DORMANT: the domains are off, and the saved epoch stands in the retention memory. -/
theorem enterDormant_spec {s : State} (hlatched : s.pwr.latched = none) (hfloor : s.pwr.floorNext = none)
    (hidle : s.hostSide = true → s.hdma.busy = false ∧ s.hdma.pbusy = false) :
    let t := enterDormant s
    t.pwr.state = .dormant ∧ t.pwr.busy = false ∧ t.pwr.awaitL2 = false ∧ t.clk.core = false ∧ t.clk.afe = false ∧ t.clk.link = false ∧
      t.clk.host = false ∧ t.pwr.counters = (belCount 2 0 s).pwr.counters ∧
      ∀ i, i < 4 → t.mem.byte (retBase + 0xE0 + i) = (leBytes 4 s.epoch).getD i 0 := by
  obtain ⟨hpwr, hepoch, -, -, hhdma, hboot, -, -, -⟩ := lastFrame_power s
  obtain ⟨img, bad, h⟩ := enterDormant_eq s
  generalize lastFrame s = u at hpwr hepoch hhdma hboot h
  generalize hv : belCount 2 0 { saveList u with mem := _, pwr.retBad := bad } = v at h
  have hv' : v.pwr.latched = none ∧ v.pwr.floorNext = none ∧ v.pwr.counters = (belCount 2 0 s).pwr.counters ∧ v.hdma = s.hdma ∧
      v.boot = s.boot ∧ ∀ i, i < 4 → v.mem.byte (retBase + 0xE0 + i) = (leBytes 4 s.epoch).getD i 0 := by
    subst hv
    refine ⟨(congrArg Power.latched hpwr).trans hlatched, (congrArg Power.floorNext hpwr).trans hfloor, ?_, hhdma, hboot, fun i hi => ?_⟩
    · exact (congrArg (fun p : Power => p.counters.modify 2 (fun c => { count := cnt 16 c.count 1, lastId := 0 })) hpwr).trans rfl
    · exact (byte_savedEpoch _ u.epoch img hi).trans (by rw [hepoch])
  obtain ⟨hvl, hvf, hvc, hvh, hvb, hvm⟩ := hv'
  obtain ⟨⟨hret, hl, hf, hc⟩, hlink⟩ := domainsLost_retained (s := v) (by rw [hvh, State.hostSide, hvb]; exact hidle)
  generalize domainsLost v = w at hret hl hf hc hlink h
  have hquiet : latchedFloor (markDormant w) = markDormant w := by
    unfold latchedFloor
    rw [show (markDormant w).pwr.floorNext = none from hf.trans hvf]
  have hsame : enterDormant s = markDormant w := by
    rw [h, hquiet]
    exact replayWake_unlatched (hl.trans hvl)
  have hbases : retBase + 0x1000 = retBase + 0xE0 + 0xF20 := rfl
  rw [hsame]
  exact ⟨rfl, rfl, rfl, rfl, rfl, hlink, rfl, hc.trans hvc, fun i hi => (hret _ (by omega) (by omega)).trans (hvm i hi)⟩

/-! ### Refusals (16 R442) -/

/-- What a state that the controllers of `rs` refused has of `s`: the refusals are counted, and no state has changed. -/
structure Refused (rs : List (Nat × Nat)) (s t : State) : Prop where
  pwr : ∃ b l, t.pwr = { s.pwr with refused := b, counters := l } ∧ l.length = s.pwr.counters.length
  refused : t.pwr.refused = (s.pwr.refused || !rs.isEmpty)
  mem : t.mem = s.mem
  core : t.clk.core = s.clk.core
  host : t.host = s.host
  counted : ∀ r ∈ rs, (t.pwr.counters.getD (4 + r.1) {}).count = min ((s.pwr.counters.getD (4 + r.1) {}).count + 1) 65535 ∧
    (t.pwr.counters.getD (4 + r.1) {}).lastId = r.2
  others : ∀ c, c ∉ rs.map Prod.fst → t.pwr.counters.getD (4 + c) {} = s.pwr.counters.getD (4 + c) {}

theorem Refused.refuses {rs : List (Nat × Nat)} {s t : State} (h : Refused rs s t) (hsome : rs ≠ []) : t.pwr.refused = true := by
  rw [h.refused]
  simp [hsome]

theorem refuse_eq (r : Nat × Nat) (s : State) : ∃ i k, refuse r s = { s with
    pwr.refused := true, pwr.counters := (belCount (4 + r.1) r.2 s).pwr.counters, icu := i, clk.mergeIcu := k } := by
  obtain ⟨_, _, _, _, k, h⟩ := raise_eq 38 (belCount (4 + r.1) r.2 { s with pwr.refused := true })
  exact ⟨_, k, h⟩

theorem foldl_refuse_refused {rs : List (Nat × Nat)} {s : State} (hnodup : (rs.map Prod.fst).Nodup)
    (hlow : ∀ r ∈ rs, 4 + r.1 < s.pwr.counters.length) : Refused rs s (rs.foldl (fun t r => refuse r t) s) := by
  induction rs generalizing s with
  | nil => exact ⟨⟨_, _, rfl, rfl⟩, (Bool.or_false _).symm, rfl, rfl, rfl, fun r hr => absurd hr List.not_mem_nil, fun _ _ => rfl⟩
  | cons r rs ih =>
    rw [List.map_cons, List.nodup_cons] at hnodup
    obtain ⟨hnew, hrest⟩ := hnodup
    obtain ⟨i, k, hone⟩ := refuse_eq r s
    have hlen := belCount_length (4 + r.1) r.2 s
    have hcount := belCount_counter r.2 (hlow r List.mem_cons_self)
    have hkeep : ∀ c, c ≠ r.1 → (belCount (4 + r.1) r.2 s).pwr.counters.getD (4 + c) {} = s.pwr.counters.getD (4 + c) {} :=
      fun c hc => belCount_counter_ne r.2 (by omega) s
    have htail := ih (s := refuse r s) hrest (by
      rw [hone]
      intro r' hr'
      exact hlen ▸ hlow r' (List.mem_cons_of_mem r hr'))
    rw [List.foldl_cons]
    generalize rs.foldl (fun t r => refuse r t) (refuse r s) = t at htail
    rw [hone] at htail
    obtain ⟨⟨b, l, hpwr, hl⟩, hrefused, hmem, hcore, hhost, hcounted, hothers⟩ := htail
    refine ⟨⟨b, l, hpwr, hl.trans hlen⟩, ?_, hmem, hcore, hhost, fun r' hr' => ?_, fun c hc => ?_⟩
    · rw [hrefused, List.isEmpty_cons, Bool.not_false, Bool.or_true, Bool.true_or]
    · rcases List.mem_cons.1 hr' with rfl | hin
      · rw [hothers r'.1 hnew]
        exact hcount
      · have hne : r'.1 ≠ r.1 := fun h => hnew (h ▸ List.mem_map_of_mem hin)
        have hr := hcounted r' hin
        dsimp only at hr
        rwa [hkeep r'.1 hne] at hr
    · rw [List.map_cons, List.mem_cons, not_or] at hc
      exact (hothers c hc.2).trans (hkeep c hc.1)

/-- Each controller refuses at most once. -/
theorem refusals_controllers (st : PState) (s : State) : ((refusals st s).map Prod.fst).Sublist [0, 1, 2, 3] := by
  unfold refusals
  dsimp only
  simp only [List.map_append]
  have hcore : ∀ a b c : Bool, ((((if a = true then [((0 : Nat), (0x01 : Nat))] else []) ++ (if b = true then [(0, 0x05)] else []) ++
      (if c = true then [(0, 0x0F)] else [])).take 1).map Prod.fst).Sublist [0] := by decide
  have hone (b : Bool) (r : Nat × Nat) : ((if b = true then [r] else []).map Prod.fst).Sublist [r.1] := by
    cases b <;> simp
  exact (((hcore _ _ _).append (hone _ (1, 2))).append (hone _ (2, 4))).append (hone _ (3, 3))

/-- A refused entry. -/
theorem foldl_refusals_refused (st : PState) {s u : State} (hlen : u.pwr.counters.length = 32) :
    Refused (refusals st s) u ((refusals st s).foldl (fun t r => refuse r t) u) := by
  have hsub := refusals_controllers st s
  refine foldl_refuse_refused (hsub.nodup (by decide)) fun r hr => ?_
  have hmem := hsub.subset (List.mem_map_of_mem (f := Prod.fst) hr)
  simp only [List.mem_cons, List.not_mem_nil, or_false] at hmem
  omega

/-! ### An attempt at an entry (16 R440, R442) -/

theorem attemptEntry_refused {st : PState} {s : State} (h : refusals st s ≠ []) :
    attemptEntry st s = (refusals st s).foldl (fun t r => refuse r t) s := by
  unfold attemptEntry
  dsimp only
  rw [if_pos (by simpa using h)]

theorem attemptEntry_drone {s : State} (h : refusals .drone s = []) : attemptEntry .drone s = enterDrone s := by
  rw [attemptEntry, h]
  rfl

theorem attemptEntry_dormant {s : State} (h : refusals .dormant s = [])
    (hlink : s.hostSide = false ∨ s.host.perst = true ∨ s.host.link = .l2l3) : attemptEntry .dormant s = enterDormant s := by
  have hquiet : (s.hostSide && !s.host.perst && s.host.link != .l2l3) = false := by rcases hlink with h | h | h <;> simp [h]
  unfold attemptEntry
  dsimp only
  rw [h, hquiet]
  rfl

theorem attemptEntry_waits {s : State} (h : refusals .dormant s = []) (hside : s.hostSide = true) (hperst : s.host.perst = false)
    (hlink : s.host.link ≠ .l2l3) :
    attemptEntry .dormant s = { s with pwr.awaitL2 := true, pwr.busy := true, pwr.target := .dormant } := by
  have hwaits : (s.hostSide && !s.host.perst && s.host.link != .l2l3) = true := by simp [hside, hperst, hlink]
  unfold attemptEntry
  dsimp only
  rw [h, hwaits]
  rfl

theorem exec_powerEntry {st : PState} {s : State} (hnow : s.entryNow = some st) (hready : s.pwr.refused = false) :
    exec .powerEntry s = answer s (attemptEntry st s) := by
  have hexec : exec .powerEntry s = execPowerEntry s := rfl
  rw [hexec, execPowerEntry, hnow]
  dsimp only
  rw [if_neg (by simp [hready])]

theorem exec_entryRetry {st : PState} {s : State} (hrefused : s.pwr.refused = true) (hside : s.hostSide = true)
    (hnow : ({ s with pwr.refused := false } : State).entryNow = some st) : exec .entryRetry s = answer s
      (if s.pwr.floor < st.code then { s with pwr.refused := false, pwr.entryDue := none } else attemptEntry st { s with pwr.refused := false }) := by
  have hexec : exec .entryRetry s = execEntryRetry s := rfl
  rw [hexec, execEntryRetry, if_neg (by simp [hrefused])]
  dsimp only
  rw [hnow]
  dsimp only
  have hside' : ({ s with pwr.refused := false } : State).hostSide = true := hside
  rw [hside', Bool.true_and]
  simp only [decide_eq_true_eq]

theorem exec_entryAbort {st : PState} {s : State} {controller : Nat} (hnow : s.entryNow = some st) (hready : s.pwr.refused = false)
    (hc : controller < 4) (block : Nat) : exec (.entryAbort controller block) s = answer s
      (raise 38 (belCount (8 + controller) (block % 256) { s with pwr.entryDue := none })) := by
  have hexec : exec (.entryAbort controller block) s = execEntryAbort controller block s := rfl
  rw [hexec, execEntryAbort, hnow]
  dsimp only
  rw [if_neg (by simp [hready]; omega)]

/-- An ordered descent waits for its boundary, one later on the root of an array (16 R433). -/
theorem completes_order {i : Instr} {st : PState} {s u : State} (hexec : exec i s = answer s (orderEntry st u))
    (hsame : u.epoch = s.epoch ∧ u.boot = s.boot ∧ u.crl = s.crl ∧ u.pwr.state = s.pwr.state) : Completes i s (fun t =>
      t.pwr.entryDue = some st ∧ t.pwr.entryEpoch = (s.epoch + if s.isRoot = true ∧ ∃ x ∈ s.crl.online, x ≠ 0 then 2 else 1) % 2 ^ 32 ∧
        t.pwr.state = s.pwr.state) := by
  obtain ⟨hepoch, hboot, hcrl, hstate⟩ := hsame
  have hpwr := (orderEntry_power st u).pwr
  generalize orderEntry st u = t at hexec hpwr
  refine completes_answer hexec ?_
  dsimp only
  rw [hpwr]
  refine ⟨rfl, (orderEpoch u).trans ?_, hstate⟩
  rw [hepoch, hcrl, State.isRoot, hboot]
  rfl

theorem exec_idleTimeout {s : State} (hside : s.hostSide = true) (hfw : s.fwRuns = true) (hbusy : s.pwr.busy = false)
    (hdue : s.pwr.entryDue = none) (hstate : s.pwr.state = .active) (hidle : s.pwr.idleT ≠ 0) (hfloor : s.pwr.floor = 1 ∨ s.pwr.floor = 2)
    (hquiet : 1000000 * s.pwr.idleT ≤ s.pwr.quietUs) : exec .idleTimeout s = answer s (orderEntry .idleScan s) := by
  have hexec : exec .idleTimeout s = execIdleTimeout s := rfl
  rw [hexec, execIdleTimeout, if_pos (by simp [hside, hfw, hbusy, hdue, hstate, hidle, hfloor, hquiet])]

theorem exec_droneTimeout {s : State} (hside : s.hostSide = true) (hfw : s.fwRuns = true) (hbusy : s.pwr.busy = false)
    (hdue : s.pwr.entryDue = none) (hstate : s.pwr.state = .idleScan) (hfloor : s.pwr.floor = 2)
    (hquiet : (if s.pwr.byDrone then 100000 * s.pwr.gestureT else 1000000 * s.pwr.droneT) ≤ s.pwr.idleUs) :
    exec .droneTimeout s = answer s (orderEntry .drone (if s.pwr.byDrone && !s.pwr.wakeSinceDrone then belCount 19 0 s else s)) := by
  have hexec : exec .droneTimeout s = execDroneTimeout s := rfl
  rw [hexec, execDroneTimeout, if_pos (by simp only [hside, hfw, hbusy, hdue, hstate, hfloor, decide_eq_true hquiet]; rfl)]

/-- A transition that ends with neither a floor nor a wake latched. -/
theorem transitionEnds_eq {s : State} (hlatched : s.pwr.latched = none) (hfloor : s.pwr.floorNext = none) : ∃ i k,
    replayWake (transitionDone s) = { s with pwr.busy := false, pwr.target := s.pwr.state, icu := i, clk.mergeIcu := k } := by
  obtain ⟨i, k, hdone⟩ := transitionDone_unlatched hfloor
  rw [hdone]
  exact ⟨i, k, replayWake_unlatched hlatched⟩

/-- A DORMANT entry that waited for the link and is refused at its end. -/
theorem waitRefused_spec {rs : List (Nat × Nat)} {s t : State} (h : Refused rs { s with pwr.awaitL2 := false, pwr.busy := false } t)
    (hlatched : s.pwr.latched = none) (hfloor : s.pwr.floorNext = none) :
    let u := replayWake (transitionDone t)
    u.pwr.state = s.pwr.state ∧ u.pwr.awaitL2 = false ∧ u.pwr.busy = false ∧ u.pwr.refused = t.pwr.refused ∧ u.host = s.host ∧
      u.pwr.counters = t.pwr.counters := by
  obtain ⟨⟨b, l, hpwr, -⟩, -, -, -, hhost, -, -⟩ := h
  obtain ⟨i, k, hend⟩ := transitionEnds_eq (s := t) (by rw [hpwr]; exact hlatched) (by rw [hpwr]; exact hfloor)
  dsimp only
  rw [hend]
  exact ⟨by rw [hpwr], by rw [hpwr], rfl, rfl, hhost, rfl⟩

theorem dormantReady_enters {s : State} (h : refusals .dormant s = []) : dormantReady s = enterDormant s := by
  unfold dormantReady
  dsimp only
  rw [h]
  rfl

theorem dormantReady_refused {s : State} (h : refusals .dormant s ≠ []) : dormantReady s = replayWake (transitionDone
    ((refusals .dormant s).foldl (fun t r => refuse r t) { s with pwr.awaitL2 := false, pwr.busy := false })) := by
  unfold dormantReady
  dsimp only
  rw [if_neg (by simpa using h)]

theorem exec_l2l3Ready {s : State} (hside : s.hostSide = true) (hclk : s.clk.host = true) : exec .l2l3Ready s = answer s
    (if s.pwr.awaitL2 then dormantReady { s with host.link := .l2l3 } else { s with host.link := .l2l3 }) := by
  have hexec : exec .l2l3Ready s = execL2l3Ready s := rfl
  rw [hexec, execL2l3Ready, if_neg (by simp [hside, hclk])]

theorem exec_l2l3ReadyTimeout {s : State} (hwait : s.pwr.awaitL2 = true) : exec .l2l3ReadyTimeout s = answer s
    (replayWake (transitionDone (refuse (3, 0x06) { s with pwr.awaitL2 := false, pwr.busy := false }))) := by
  have hexec : exec .l2l3ReadyTimeout s = execL2l3ReadyTimeout s := rfl
  rw [hexec, execL2l3ReadyTimeout, if_pos hwait]

/-- Four bytes of any store as its canonical form reads them. -/
theorem leNat_canon_read {m : Memory} {a v : Nat} (hv : v < 2 ^ 32) (h : ∀ i, i < 4 → m.byte (a + i) = (leBytes 4 v).getD i 0) :
    leNat (m.canon.read a 4) = v := by
  have hread : m.canon.read a 4 = leBytes 4 v := by
    refine List.ext_getElem (by rw [Memory.length_read m.canon_wf, length_leBytes]) fun i h1 h2 => ?_
    have hget := Memory.getD_read m.canon_wf a (i := i) (n := 4) (by rwa [length_leBytes] at h2)
    rw [Memory.byte_canon, h i (by rwa [length_leBytes] at h2)] at hget
    rwa [List.getD_eq_getElem _ _ h1, List.getD_eq_getElem _ _ h2] at hget
  rw [hread, leNat_leBytes]
  exact Nat.mod_eq_of_lt hv

/-! ### Wake sources (16 R438, R439) -/

/-- A disabled source leaves no record. -/
theorem takeWake_disabled {code : Nat} {w : WakeInfo} {s : State} (hinfo : wakeInfo code = some w) (hen : s.pwr.wakeEn.testBit w.bit = false) :
    ∃ g, takeWake code s = { s with pwr.wakeDue := s.pwr.wakeDue.erase code, pwr.gpioEdge := g } := by
  unfold takeWake
  rw [hinfo]
  dsimp only
  rw [if_pos (by simp [bit_eq_testBit, hen])]
  exact ⟨_, rfl⟩

/-- What a recorded source leaves of the state that it acts on. -/
structure WakeTaken (code : Nat) (s t : State) : Prop where
  last : t.pwr.last = code
  prev : t.pwr.prev = s.pwr.last
  new : t.pwr.new = true
  counters : t.pwr.counters = (belCount 20 0 s).pwr.counters
  mem : t.mem = s.mem.putLe (retBase + 0x104) 4 (code + 256 * s.pwr.last)
  state : t.pwr.state = s.pwr.state
  busy : t.pwr.busy = s.pwr.busy
  hold : t.pwr.hold = s.pwr.hold
  limp : t.pwr.limp = s.pwr.limp
  floor : t.pwr.floor = s.pwr.floor
  beaconPort : t.pwr.beaconPort = s.pwr.beaconPort
  boot : t.boot = s.boot
  beacons : t.out.beacons = s.out.beacons

theorem recordWake_taken (code : Nat) (s : State) : WakeTaken code s (recordWake code s) := by
  obtain ⟨_, _, _, _, _, h⟩ := raise_eq 36 (belCount 20 0 { s with
    pwr.prev := s.pwr.last, pwr.last := code, pwr.new := true, mem := s.mem.putLe (retBase + 0x104) 4 (code + 256 * s.pwr.last) })
  rw [recordWake, h]
  constructor <;> rfl

theorem notifyHost_taken {code : Nat} {s t : State} (h : WakeTaken code s t) : WakeTaken code s (notifyHost code t) := by
  obtain ⟨_, _, _, _, _, _, hnot⟩ := notifyHost_eq code t
  rw [hnot]
  obtain ⟨h1, h2, h3, h4, h5, h6, h7, h8, h9, h10, h11, h12, h13⟩ := h
  exact ⟨h1, h2, h3, h4, h5, h6, h7, h8, h9, h10, h11, h12, h13⟩

/-- An enabled source that can arise is recorded and then acts. -/
theorem takeWake_acts {code : Nat} {w : WakeInfo} {s : State} (hinfo : wakeInfo code = some w) (hen : s.pwr.wakeEn.testBit w.bit = true)
    (harises : w.arises s.pwr.state = true) : ∃ t, takeWake code s = actOnWake code t ∧ WakeTaken code s t := by
  unfold takeWake
  rw [hinfo]
  dsimp only
  rw [if_neg (by simp [bit_eq_testBit, hen]), if_neg (by simp [harises])]
  generalize (if 0x30 ≤ code ∧ code < 0x34 then s.pwr.gpioEdge.set (code - 0x30) false else s.pwr.gpioEdge) = g
  have hrec := recordWake_taken code { s with pwr.wakeDue := s.pwr.wakeDue.erase code, pwr.gpioEdge := g }
  have htaken : WakeTaken code s (recordWake code { s with pwr.wakeDue := s.pwr.wakeDue.erase code, pwr.gpioEdge := g }) := by
    obtain ⟨h1, h2, h3, h4, h5, h6, h7, h8, h9, h10, h11, h12, h13⟩ := hrec
    exact ⟨h1, h2, h3, h4, h5, h6, h7, h8, h9, h10, h11, h12, h13⟩
  generalize recordWake code _ = u at htaken
  refine ⟨_, rfl, ?_⟩
  split
  · exact notifyHost_taken htaken
  · exact htaken

theorem actOnWake_held {s : State} (h : s.pwr.hold = true) (code : Nat) : actOnWake code s = s := by rw [actOnWake, if_pos h]

/-- A source that raises a sleeping device begins its exit. -/
theorem actOnWake_rises {code : Nat} {s : State} (hhold : s.pwr.hold = false) (hbusy : s.pwr.busy = false)
    (hdeep : s.pwr.state = .drone ∨ s.pwr.state = .dormant) (hlow : (wakeRise code s).code < s.pwr.state.code) :
    ∃ f bd wd, actOnWake code s = wakeOthers code (wakeRise code s) { s with
      pwr.floor := f, pwr.busy := true, pwr.target := wakeRise code s, pwr.byDrone := bd, pwr.wakeSinceDrone := wd } := by
  unfold actOnWake
  rw [if_neg (by simp [hhold]), if_neg (by simp [hbusy])]
  dsimp only
  rw [if_neg (by omega), if_neg (by simp [hbusy]), if_neg (by rcases hdeep with h | h <;> simp [h])]
  exact ⟨_, _, _, rfl⟩

/-- In limp mode a wake goes to the floor, but no lower than IDLE-SCAN (16 R448). -/
theorem wakeRise_limp {s : State} (h : s.pwr.limp = true) (code : Nat) :
    wakeRise code s = if s.pwr.floor = 0 then PState.active else PState.idleScan := by
  rw [wakeRise, if_pos h]
  rcases Nat.lt_or_ge s.pwr.floor 2 with hlow | hhigh
  · rw [if_pos hlow]
    interval_cases s.pwr.floor <;> rfl
  · rw [if_neg (by omega), if_neg (by omega)]

/-- With no transition under way the record of the source stands. -/
theorem actOnWake_idle (code : Nat) {s : State} (hbusy : s.pwr.busy = false) : ∃ p c q b, actOnWake code s = { s with
    pwr := p, crl := c, arr.queue := q, out.beacons := b } ∧ p.last = s.pwr.last ∧ p.prev = s.pwr.prev ∧ p.new = s.pwr.new ∧
    p.counters = s.pwr.counters := by
  have hsame : ∃ p c q b, s = { s with pwr := p, crl := c, arr.queue := q, out.beacons := b } ∧ p.last = s.pwr.last ∧ p.prev = s.pwr.prev ∧
    p.new = s.pwr.new ∧ p.counters = s.pwr.counters := ⟨s.pwr, s.crl, s.arr.queue, s.out.beacons, rfl, rfl, rfl, rfl, rfl⟩
  unfold actOnWake
  split
  · exact hsame
  · rw [if_neg (by simp [hbusy])]
    dsimp only
    split
    · exact hsame
    · rw [if_neg (by simp [hbusy])]
      generalize (if s.pwr.state = .dormant then 0 else s.pwr.floor) = fl
      split
      · split
        · obtain ⟨c, q, h⟩ := sendMsg_eq 1 0 (.wake code) { s with pwr.floor := fl }
          exact ⟨_, c, q, s.out.beacons, h, rfl, rfl, rfl, rfl⟩
        · exact ⟨_, s.crl, s.arr.queue, s.out.beacons, rfl, rfl, rfl, rfl, rfl⟩
      · obtain ⟨bp, tr, b, h⟩ := wakeOthers_eq code (wakeRise code s) { s with
          pwr.floor := fl, pwr.busy := true, pwr.target := wakeRise code s, pwr.byDrone := code == 0x10, pwr.wakeSinceDrone := code != 0x10 }
        exact ⟨_, s.crl, s.arr.queue, b, h, rfl, rfl, rfl, rfl⟩

theorem exec_wakeRecord {code : Nat} {s : State} (hdue : code ∈ s.pwr.wakeDue) : exec (.wakeRecord code) s = answer s (takeWake code s) := by
  have hexec : exec (.wakeRecord code) s = execWakeRecord code s := rfl
  rw [hexec, execWakeRecord, if_pos (List.contains_iff_mem.2 hdue)]

theorem exec_wakeBeacon {port : Port} {s : State} (hrole : s.isMember = true ∨ s.isRoot = true) (hlink : s.clk.link = false) :
    exec (.wakeBeacon port) s = answer s
      (wakeSource 0x40 { s with pwr.beaconPort := if s.pwr.wakeDue.contains 0x40 then s.pwr.beaconPort else some port }) := by
  have hexec : exec (.wakeBeacon port) s = execWakeBeacon port s := rfl
  have hquiet : ¬(s.boot.role = .standalone ∨ s.boot.role = .test ∨ s.clk.link = true) := by
    rcases hrole with h | h <;> simp_all [State.isMember, State.isRoot]
  rw [hexec, execWakeBeacon, if_neg hquiet]

theorem exec_gpioWakeEdge {pin : Fin 4} {s : State} (hpin : s.pwr.gpio.getD pin.val 0 = 1) : exec (.gpioWakeEdge pin) s = answer s
    (wakeSource (0x30 + pin.val) (raise (42 + pin.val) { s with pwr.gpioEdge := s.pwr.gpioEdge.set pin.val true })) := by
  have hexec : exec (.gpioWakeEdge pin) s = execGpioWakeEdge pin s := rfl
  rw [hexec, execGpioWakeEdge, if_neg (not_not_intro hpin)]

/-! ### Exits (16 R444, R447) -/

/-- What the last steps of an exit leave: the power unit, the epoch, the clocks, calibration and the tracker. -/
structure ExitKept (s t : State) : Prop where
  pwr : t.pwr = s.pwr
  epoch : t.epoch = s.epoch
  core : t.clk.core = s.clk.core
  afe : t.clk.afe = s.clk.afe
  cal : t.cal = s.cal
  trk : t.trk = s.trk
  boot : t.boot = s.boot
  core0 : t.core0 = s.core0

theorem ExitKept.refl (s : State) : ExitKept s s := ⟨rfl, rfl, rfl, rfl, rfl, rfl, rfl, rfl⟩

theorem ExitKept.trans {s t u : State} (h : ExitKept s t) (h' : ExitKept t u) : ExitKept s u :=
  ⟨h'.pwr.trans h.pwr, h'.epoch.trans h.epoch, h'.core.trans h.core, h'.afe.trans h.afe, h'.cal.trans h.cal, h'.trk.trans h.trk,
    h'.boot.trans h.boot, h'.core0.trans h.core0⟩

theorem raise_exit (n : Nat) (s : State) : ExitKept s (raise n s) := by
  obtain ⟨_, _, _, _, _, h⟩ := raise_eq n s
  rw [h]
  constructor <;> rfl

theorem sendPower_exit (st : PState) (e : Nat) (s : State) : ExitKept s (sendPower st e s) := by
  unfold sendPower
  split
  · obtain ⟨_, _, h⟩ := sendMsgParts_eq 1 0 true [.power st.code e] s
    rw [broadcast, h]
    constructor <;> rfl
  · exact .refl s

theorem releaseEdges_exit (s : State) : ExitKept s (releaseEdges s) := by
  have hfold : ∀ (l : List Nat) (t : State), ExitKept t (l.foldl (fun t n => arrive n t) t) := fun l t =>
    foldl_chains ExitKept.refl (fun _ _ _ => ExitKept.trans) (fun t n => by
      obtain ⟨_, _, _, h⟩ := arrive_eq n t
      rw [h]
      constructor <;> rfl) l t
  have hempty : ExitKept s { s with icu.heldEdges := [] } := by constructor <;> rfl
  exact hempty.trans (hfold _ _)

theorem hostPower_exit (s : State) : ExitKept s (hostPower s) := by
  have hreleased (t : State) : ExitKept t (hostReleased t) := by
    unfold hostReleased
    split
    · have htrain : ExitKept t { t with host.link := .training, host.crs := true } := by constructor <;> rfl
      exact htrain.trans (raise_exit 30 _)
    · exact .refl t
  unfold hostPower
  split
  · have hon : ExitKept s { s with clk.host := true } := by constructor <;> rfl
    exact hon.trans (hreleased _)
  · exact .refl s

theorem restoreLink_exit (s : State) : ExitKept s (restoreLink s) := by
  unfold restoreLink
  split
  · exact .refl s
  · dsimp only
    generalize hu : ({ s with clk.link := true, crl := _ } : State) = u
    obtain ⟨c, h⟩ := linkItems_eq u
    rw [h]
    subst hu
    constructor <;> rfl

theorem muteStop_exit (result : Nat) (s : State) : ExitKept s (muteStop result s) := by
  have hstop (m : Mute) : ExitKept s (raise 21 { s with mute := m }) :=
    ExitKept.trans (t := { s with mute := m }) (by constructor <;> rfl) (raise_exit 21 _)
  unfold muteStop
  dsimp only
  cases s.mute.forCmd with
  | none => exact hstop _
  | some num =>
    dsimp only
    obtain ⟨_, _, _, h⟩ := partDone_eq num (if result = 1 then 0 else if result = 2 then 0x0C else if s.host.hostrd && result = 6 then 0x06 else 0x09)
      (s.mute.before.1 + s.mute.cons) (s.mute.before.2 + s.mute.prod)
      (raise 21 { s with mute.busy := false, mute.done := true, mute.abort := false, mute.result := result, mute.forCmd := none })
    rw [h]
    obtain ⟨h1, h2, h3, h4, h5, h6, h7, h8⟩ := hstop { s.mute with busy := false, done := true, abort := false, result := result, forCmd := none }
    exact ⟨h1, h2, h3, h4, h5, h6, h7, h8⟩

theorem resumeMute_exit (s : State) : ExitKept s (resumeMute s) := by
  have hmute (m : Mute) : ExitKept s { s with mute := m } := by constructor <;> rfl
  unfold resumeMute
  split
  · exact .refl s
  · unfold muteGo
    dsimp only
    split
    · exact (hmute _).trans (muteStop_exit 1 _)
    · split
      · exact (hmute _).trans (muteStop_exit 2 _)
      · exact hmute _

/-- A member's message of what woke it leaves the rest of the power unit. -/
theorem tellRoot_exit (s : State) : ∃ w, ExitKept { s with pwr.tellRoot := w } (tellRoot s) := by
  unfold tellRoot
  split
  next c _ =>
    obtain ⟨_, _, h⟩ := sendMsg_eq 1 0 (.wake c) { s with pwr.tellRoot := none }
    rw [h]
    exact ⟨none, by constructor <;> rfl⟩
  next => exact ⟨s.pwr.tellRoot, .refl s⟩

theorem transitionDone_eq (s : State) : ∃ f fn due m i k, transitionDone s = { s with
    pwr.busy := false, pwr.target := s.pwr.state, pwr.floor := f, pwr.floorNext := fn, pwr.wakeDue := due
    clk.mergeWake := m, clk.mergeIcu := k, icu := i } := by
  obtain ⟨_, _, _, _, k, hr⟩ := raise_eq 36 { s with pwr.busy := false, pwr.target := s.pwr.state }
  rw [transitionDone, hr]
  obtain ⟨f, fn, due, m, h⟩ := latchedFloor_eq { s with pwr.busy := false, pwr.target := s.pwr.state, icu := _, clk.mergeIcu := k }
  exact ⟨f, fn, due, m, _, k, h⟩

theorem replayDuring_none {s : State} (h : s.pwr.during = []) : replayDuring s = { s with pwr.during := [] } := by
  rw [replayDuring, h]
  rfl

/-- The clocks of CORE and AFE run, the epoch is `e`, and no source was taken meanwhile. -/
structure Rising (e : Nat) (t : State) : Prop where
  during : t.pwr.during = []
  epoch : t.epoch = e
  core : t.clk.core = true
  afe : t.clk.afe = true

theorem Rising.kept {e : Nat} {s t : State} (h : Rising e s) (hkept : ExitKept s t) : Rising e t :=
  ⟨(congrArg Power.during hkept.pwr).trans h.during, hkept.epoch.trans h.epoch, hkept.core.trans h.core, hkept.afe.trans h.afe⟩

theorem restoreAfe_rising (timer : Bool) {e : Nat} {s : State} (h : Rising e s) : Rising e (restoreAfe timer s) := by
  obtain ⟨_, _, _, _, _, hafe⟩ := restoreAfe_eq timer s
  rw [hafe]
  exact ⟨h.during, h.epoch, h.core, h.afe⟩

theorem ltrSent_spec {e n : Nat} {s : State} (h : Rising e s) :
    let t := belCount n 0 (sendLtr s)
    Rising e t ∧ t.pwr.state = s.pwr.state ∧ t.cal = s.cal ∧ t.trk = s.trk := by
  obtain ⟨_, hltr⟩ := sendLtr_eq s
  rw [hltr]
  exact ⟨⟨h.during, h.epoch, h.core, h.afe⟩, rfl, rfl, rfl⟩

/-- The last steps of an exit. -/
theorem exitEnds_spec {st : PState} {e : Nat} {s : State} (h : Rising e s) :
    let t := replayDuring (resumeMute (transitionDone (if st = .active then sendPower .active s.epoch s else s)))
    Rising e t ∧ t.pwr.state = s.pwr.state ∧ t.pwr.busy = false ∧ t.cal = s.cal ∧ t.trk = s.trk := by
  have hsent : ExitKept s (if st = .active then sendPower .active s.epoch s else s) := by
    split
    · exact sendPower_exit ..
    · exact .refl s
  generalize (if st = .active then sendPower .active s.epoch s else s) = u at hsent
  obtain ⟨f, fn, due, m, i, k, hdone⟩ := transitionDone_eq u
  have hmute := resumeMute_exit (transitionDone u)
  rw [hdone] at hmute ⊢
  generalize resumeMute _ = v at hmute
  obtain ⟨hpwr, hepoch, hcore, hafe, hcal, htrk, -, -⟩ := hmute
  have hsentState : u.pwr.state = s.pwr.state := congrArg Power.state hsent.pwr
  have hsentDuring : u.pwr.during = [] := (congrArg Power.during hsent.pwr).trans h.during
  have hduring : v.pwr.during = [] := (congrArg Power.during hpwr).trans hsentDuring
  dsimp only
  rw [replayDuring_none hduring]
  exact ⟨⟨rfl, hepoch.trans (hsent.epoch.trans h.epoch), hcore.trans (hsent.core.trans h.core), hafe.trans (hsent.afe.trans h.afe)⟩,
    (congrArg Power.state hpwr).trans hsentState, congrArg Power.busy hpwr, hcal.trans hsent.cal, htrk.trans hsent.trk⟩

/-- An exit from DRONE whose steps succeeded. -/
theorem wakeUp_spec {s : State} (hduring : s.pwr.during = []) (st : PState) :
    let t := wakeUp st s
    t.pwr.state = st ∧ t.pwr.busy = false ∧ t.clk.core = true ∧ t.clk.afe = true ∧ t.cal.guard = true ∧ t.trk.resync = true ∧
      t.epoch = s.epoch := by
  unfold wakeUp
  extract_lets +onlyGivenNames clk pwr t1
  have h1 : Rising s.epoch t1 := ⟨hduring, rfl, rfl, rfl⟩
  clear_value t1 pwr clk
  extract_lets +onlyGivenNames t2
  have h2 : Rising s.epoch t2 := h1.kept (releaseEdges_exit t1)
  clear_value t2
  extract_lets +onlyGivenNames chn t3
  have h3 : Rising s.epoch t3 := by
    simp only [t3]
    split
    · exact ⟨h2.during, h2.epoch, h2.core, h2.afe⟩
    · exact restoreAfe_rising true h2
  clear_value t3 chn
  extract_lets +onlyGivenNames t4
  have h4 : Rising s.epoch t4 := by
    obtain ⟨w, hw⟩ := tellRoot_exit (restoreLink (hostPower t3))
    obtain ⟨hd, he, hc, ha⟩ := h3.kept ((hostPower_exit t3).trans (restoreLink_exit _))
    exact Rising.kept (s := { restoreLink (hostPower t3) with pwr.tellRoot := w }) ⟨hd, he, hc, ha⟩ hw
  clear_value t4
  extract_lets +onlyGivenNames pwr' drone cal trk t5
  have h5 : Rising s.epoch t5 ∧ t5.pwr.state = st ∧ t5.cal.guard = true ∧ t5.trk.resync = true := ⟨⟨h4.during, h4.epoch, h4.core, h4.afe⟩, rfl, rfl, rfl⟩
  clear_value t5 pwr' drone cal trk
  obtain ⟨hrising, hst, hguard, hres⟩ := h5
  extract_lets +onlyGivenNames t6
  obtain ⟨h6, hst6, hcal6, htrk6⟩ := ltrSent_spec (n := if st = .active then 3 else 0) hrising
  obtain ⟨hend, hstate, hbusy, hcal, htrk⟩ := exitEnds_spec (st := st) h6
  exact ⟨hstate.trans (hst6.trans hst), hbusy, hend.core, hend.afe, (congrArg Calib.guard (hcal.trans hcal6)).trans hguard,
    (congrArg Tracker.resync (htrk.trans htrk6)).trans hres, hend.epoch⟩

/-- AFE, LINK, CORE and HOST that power up leave the power unit and core 0. -/
theorem domainsBack_spec (s : State) :
    let t := hostPower (leaveCoreReset (linkItems (linkDomainReset (restoreAfe false s))))
    t.pwr = s.pwr ∧ t.core0 = s.core0 ∧ t.clk.core = true ∧ t.boot.phase = .rom := by
  obtain ⟨_, _, _, _, _, hafe⟩ := restoreAfe_eq false s
  have h1 : (restoreAfe false s).pwr = s.pwr ∧ (restoreAfe false s).core0 = s.core0 := by
    rw [hafe]
    exact ⟨rfl, rfl⟩
  clear hafe
  generalize restoreAfe false s = a at h1
  obtain ⟨_, hlink⟩ := linkItems_eq (linkDomainReset a)
  have h2 : (linkItems (linkDomainReset a)).pwr = a.pwr ∧ (linkItems (linkDomainReset a)).core0 = a.core0 := by
    rw [hlink]
    exact ⟨rfl, rfl⟩
  clear hlink
  generalize linkItems (linkDomainReset a) = b at h2
  obtain ⟨_, hleave, -⟩ := leaveCoreReset_eq b
  have h3 : (leaveCoreReset b).pwr = b.pwr ∧ (leaveCoreReset b).core0 = b.core0 ∧ (leaveCoreReset b).clk.core = true ∧
      (leaveCoreReset b).boot.phase = .rom := by
    rw [hleave]
    exact ⟨rfl, rfl, rfl, rfl⟩
  clear hleave
  generalize leaveCoreReset b = c at h3
  obtain ⟨hpwr, -, hcore, -, -, -, hboot, hcore0⟩ := hostPower_exit c
  obtain ⟨h3pwr, h3core0, h3core, h3phase⟩ := h3
  exact ⟨hpwr.trans (h3pwr.trans (h2.1.trans h1.1)), hcore0.trans (h3core0.trans (h2.2.trans h1.2)), hcore.trans h3core,
    (congrArg Boot.phase hboot).trans h3phase⟩

/-- The last steps of an exit from DORMANT. -/
theorem dormantEnds_spec {s : State} (hduring : s.pwr.during = []) :
    let t := replayDuring (belCount 3 0 (transitionDone s))
    t.pwr.state = s.pwr.state ∧ t.pwr.busy = false ∧ t.clk.core = s.clk.core ∧ t.boot = s.boot ∧ t.core0 = s.core0 ∧ t.epoch = s.epoch := by
  obtain ⟨_, _, _, _, _, _, hdone⟩ := transitionDone_eq s
  have h : (belCount 3 0 (transitionDone s)).pwr.during = [] := by
    rw [hdone]
    exact hduring
  dsimp only
  rw [replayDuring_none h, hdone]
  exact ⟨rfl, rfl, rfl, rfl, rfl, rfl⟩

/-- An exit from DORMANT whose steps succeeded: core 0 boots, and the epoch goes on from the saved one. -/
theorem wakeDormant_spec {s : State} (hgood : 0xE0 ∉ s.pwr.retBad) :
    let t := wakeDormant s
    t.pwr.state = .active ∧ t.pwr.busy = false ∧ t.clk.core = true ∧ t.boot.phase = .rom ∧ t.core0.pc = s.core0.pc ∧
      t.epoch = (leNat (s.mem.read (retBase + 0xE0) 4) + 1) % 2 ^ 32 := by
  have hsaved : (if s.pwr.retBad.contains 0xE0 then 0 else add32 (s.mem.le (retBase + 0xE0) 4) 1) =
      (leNat (s.mem.read (retBase + 0xE0) 4) + 1) % 2 ^ 32 := by
    rw [if_neg (by simpa using hgood)]
    rfl
  unfold wakeDormant
  rw [hsaved]
  generalize (leNat (s.mem.read (retBase + 0xE0) 4) + 1) % 2 ^ 32 = e
  dsimp only
  obtain ⟨_, _, _, _, hup⟩ := clocksUp_eq { s with pwr.floor := 0 }
  have hclocks : (clocksUp { s with pwr.floor := 0 }).pwr.state = .active ∧ (clocksUp { s with pwr.floor := 0 }).pwr.during = [] ∧
      (clocksUp { s with pwr.floor := 0 }).core0 = s.core0 := by
    rw [hup]
    exact ⟨rfl, rfl, rfl⟩
  clear hup
  generalize clocksUp { s with pwr.floor := 0 } = u at hclocks
  obtain ⟨hstate, hduring, hcore0⟩ := hclocks
  have hback := domainsBack_spec u
  generalize hostPower _ = v at hback
  obtain ⟨hpwr, hc0, hcore, hphase⟩ := hback
  have hends := dormantEnds_spec (s := { v with epoch := e, boot.dormant := true, trk.resync := true }) (by rw [hpwr]; exact hduring)
  generalize replayDuring _ = t at hends
  obtain ⟨hst, hbusy, hclk, hboot, ht0, hepoch⟩ := hends
  have hvst : v.pwr.state = .active := by rw [hpwr, hstate]
  exact ⟨hst.trans hvst, hbusy, hclk.trans hcore, (congrArg Boot.phase hboot).trans hphase,
    congrArg Core.pc (ht0.trans (hc0.trans hcore0)), hepoch⟩

/-! ### Steps that fail (16 R447, R448) -/

/-- The state that limp mode records. -/
theorem enterLimp_records (step attempts : Nat) (s : State) :
    let t := enterLimp step attempts s
    t.pwr.state = .drone ∧ t.pwr.failAttempts = attempts := by
  unfold enterLimp
  extract_lets +onlyGivenNames t1 t2
  clear_value t2
  extract_lets +onlyGivenNames off clk pwr t3
  have h3 : t3.pwr.state = .drone ∧ t3.pwr.failAttempts = attempts := ⟨rfl, rfl⟩
  clear_value t3
  extract_lets +onlyGivenNames t4
  have h4 : t4.pwr.state = .drone ∧ t4.pwr.failAttempts = attempts := by
    simp only [t4]
    split
    · obtain ⟨_, _, hdrone⟩ := startDrone_eq t3
      rw [hdrone]
      exact h3
    · exact h3
  clear_value t4
  extract_lets +onlyGivenNames t5
  obtain ⟨_, _, _, _, hfloor⟩ := latchedFloor_eq t5
  obtain ⟨_, hset⟩ := setAlert_eq 0 (belCount 17 0 (latchedFloor t5))
  rw [hset, hfloor]
  exact h4

/-- A step that fails while leaving DRONE. -/
theorem failExit_drone {s : State} (hdrone : s.pwr.state = .drone) (step : Nat) :
    let t := failExit step s
    t.pwr.limp = true ∧ t.pwr.hold = true ∧ t.pwr.state = .drone ∧ t.pwr.failStep = step ∧ t.pwr.failAttempts = 4 ∧ t.clk.limpClk = true ∧
      t.clk.link = false ∧ t.twm.alertWake = true := by
  obtain ⟨hlimp, hhold, hstep, hlink, hclk, halert⟩ := enterLimp_spec step 4 { s with pwr.attemptStep := 0 }
  obtain ⟨hstate, hfails⟩ := enterLimp_records step 4 { s with pwr.attemptStep := 0 }
  have hreleased : failExit step s = releaseEdges (enterLimp step 4 { s with pwr.attemptStep := 0 }) := by
    unfold failExit
    dsimp only
    rw [if_neg (by simp [hdrone])]
  have hrelease (t : State) : ∃ i, releaseEdges t = { t with icu := i } := by
    refine foldl_chains (r := fun t u => ∃ i, u = { t with icu := i }) (fun t => ⟨t.icu, rfl⟩) ?_ (fun t n => ?_) t.icu.heldEdges
      { t with icu.heldEdges := [] }
    · rintro t _ _ ⟨i, rfl⟩ ⟨i', rfl⟩
      exact ⟨i', rfl⟩
    · obtain ⟨_, _, _, h⟩ := arrive_eq n t
      exact ⟨_, h⟩
  obtain ⟨i, hedges⟩ := hrelease (enterLimp step 4 { s with pwr.attemptStep := 0 })
  dsimp only
  rw [hreleased, hedges]
  exact ⟨hlimp, hhold, hstate, hstep, hfails, hclk, hlink, halert⟩

section Exit

variable {s : State} (hbusy : s.pwr.busy = true)

include hbusy in
theorem exec_powerExit_drone (hatt : s.pwr.attempts = 0) (hstate : s.pwr.state = .drone) (htarget : s.pwr.target.code < 2) :
    exec (.powerExit { ldo := 0, xtal := 0, pll := 0 }) s = answer s (wakeUp s.pwr.target s) := by
  have hexec : exec (.powerExit { ldo := 0, xtal := 0, pll := 0 }) s = execPowerExit { ldo := 0, xtal := 0, pll := 0 } s := rfl
  have hsteps (n : Nat) (t : State) : countAttempts n 0 t = t := rfl
  have htried (k : Nat) : s.tried k 0 = 0 := by simp [State.tried, hatt]
  have hcode : PState.drone.code = 2 := rfl
  rw [hexec, execPowerExit, if_neg (by simp [hbusy, hstate, hcode, htarget])]
  simp [hsteps, htried, hstate]

include hbusy in
theorem exec_powerExit_dormant (hatt : s.pwr.attempts = 0) (hstate : s.pwr.state = .dormant) (htarget : s.pwr.target.code < 3) :
    exec (.powerExit { ldo := 0, xtal := 0, pll := 0 }) s = answer s (wakeDormant { s with clk.xtalOk := true }) := by
  have hexec : exec (.powerExit { ldo := 0, xtal := 0, pll := 0 }) s = execPowerExit { ldo := 0, xtal := 0, pll := 0 } s := rfl
  have hsteps (n : Nat) (t : State) : countAttempts n 0 t = t := rfl
  have htried (k : Nat) : s.tried k 0 = 0 := by simp [State.tried, hatt]
  have hcode : PState.dormant.code = 3 := rfl
  rw [hexec, execPowerExit, if_neg (by simp [hbusy, hstate, hcode, htarget])]
  simp [hsteps, htried, hstate]

include hbusy in
theorem exec_powerExit_fails (hatt : s.pwr.attempts = 0) (hstate : s.pwr.state = .drone) (htarget : s.pwr.target.code < 2) :
    exec (.powerExit { ldo := 4, xtal := 0, pll := 0 }) s = answer s (failExit 1 (countAttempts 14 4 s)) := by
  have hexec : exec (.powerExit { ldo := 4, xtal := 0, pll := 0 }) s = execPowerExit { ldo := 4, xtal := 0, pll := 0 } s := rfl
  have htried : 4 ≤ s.tried 1 4 := by simp [State.tried, hatt]
  have hcode : PState.drone.code = 2 := rfl
  rw [hexec, execPowerExit, if_neg (by simp [hbusy, hstate, hcode, htarget])]
  dsimp only
  rw [if_pos htried]

include hbusy in
theorem exec_wakeStepTimeout {step : Nat} (hstep : step = 1 ∨ step = 3) (hstate : s.pwr.state = .drone) (htarget : s.pwr.target.code < 2) :
    exec (.wakeStepTimeout step) s = answer s (if 4 ≤ s.tried step 1
      then failExit step (belCount (13 + step) 0 { s with pwr.attempts := s.tried step 1, pwr.attemptStep := step })
      else belCount (13 + step) 0 { s with pwr.attempts := s.tried step 1, pwr.attemptStep := step }) := by
  have hexec : exec (.wakeStepTimeout step) s = execWakeStepTimeout step s := rfl
  have hcode : PState.drone.code = 2 := rfl
  rw [hexec, execWakeStepTimeout]
  dsimp only
  rw [if_neg (by rcases hstep with rfl | rfl <;> simp [hbusy, hstate, hcode, htarget])]

end Exit

/-! ### Drone boundaries (16 R430, R435) -/

/-- The epoch and the power state stand. -/
def Dated (s t : State) : Prop := t.epoch = s.epoch ∧ t.pwr.state = s.pwr.state

theorem Dated.refl (s : State) : Dated s s := ⟨rfl, rfl⟩

theorem Dated.trans {s t u : State} (h : Dated s t) (h' : Dated t u) : Dated s u := ⟨h'.1.trans h.1, h'.2.trans h.2⟩

theorem PowerKept.dated {s t : State} (h : PowerKept s t) : Dated s t := ⟨h.epoch, congrArg Power.state h.pwr⟩

theorem setSlot_dated (n : Nat) (st : SlotState) (s : State) : Dated s (setSlot n st s) := ⟨rfl, rfl⟩

theorem restartPair_dated (img : List Byte) (s : State) : Dated s (restartPair img s) := ⟨rfl, rfl⟩

theorem cancelHop_dated (s : State) : Dated s (cancelHop s) := by
  unfold cancelHop
  split <;> exact ⟨rfl, rfl⟩

theorem switchPins_dated (old new : List Nat) (s : State) : Dated s (switchPins old new s) := by
  obtain ⟨_, _, _, _, _, _, _, h, -⟩ := switchPins_spec old new s
  rw [h]
  exact ⟨rfl, rfl⟩

theorem clearShieldFault_dated (s : State) : Dated s (clearShieldFault s) := by
  unfold clearShieldFault
  split <;> exact ⟨rfl, rfl⟩

theorem applyOver_dated (old : Option (List Byte)) (n : Nat) (s : State) : Dated s (applyOver old n s) := by
  unfold applyOver
  extract_lets +onlyGivenNames bad img t1
  have h1 : Dated s t1 := by
    simp only [t1]
    split
    · exact .refl s
    · exact switchPins_dated ..
  clear_value t1
  extract_lets +onlyGivenNames t2
  have h2 : Dated t1 t2 := by
    simp only [t2]
    split <;> exact ⟨rfl, rfl⟩
  clear_value t2
  extract_lets +onlyGivenNames t3
  have h3 : Dated t2 t3 := (setSlot_dated n .active t2).trans (cancelHop_dated _)
  clear_value t3
  extract_lets +onlyGivenNames f ctx t4
  have h4 : Dated t3 t4 := ⟨rfl, rfl⟩
  clear_value t4
  extract_lets +onlyGivenNames t5
  have h5 : Dated t4 t5 := clearShieldFault_dated t4
  clear_value t5
  extract_lets +onlyGivenNames t6
  have h6 : Dated t5 t6 := by
    simp only [t6]
    split <;> exact ⟨rfl, rfl⟩
  clear_value t6
  refine ((((h1.trans h2).trans h3).trans h4).trans (h5.trans h6)).trans ?_
  cases old with
  | none =>
    dsimp only
    split <;> exact ⟨rfl, rfl⟩
  | some o =>
    dsimp only
    split <;> split <;> exact ⟨rfl, rfl⟩

theorem putIncoming_dated (img : List Byte) (s : State) : Dated s (putIncoming img s) := ⟨rfl, rfl⟩

theorem replaceActive_dated (s : State) : Dated s (replaceActive s) := by
  unfold replaceActive
  split
  · exact .refl s
  · dsimp only
    split
    · exact (putIncoming_dated _ s).trans (applyOver_dated ..)
    · exact .refl s

theorem takeIncoming_dated (s : State) : Dated s (takeIncoming s) := by
  unfold takeIncoming
  split
  · exact .refl s
  · dsimp only
    split
    · exact .refl s
    · exact ⟨rfl, rfl⟩

theorem journalImages_dated (g : CommitJob) (s : State) : Dated s (journalImages g s) := by
  unfold journalImages
  split
  · exact .refl s
  · refine foldl_chains Dated.refl (fun _ _ _ => Dated.trans) (fun t k => ?_) _ s
    exact ⟨rfl, rfl⟩

/-- A pending context is applied once its epoch has come. -/
def appliedWhenDue (s : State) : State := match s.pendingSlot with
  | some n => if later s.ctx.pendEa s.epoch then s else applySlot n s
  | none => s

theorem appliedWhenDue_dated (s : State) : Dated s (appliedWhenDue s) := by
  unfold appliedWhenDue
  split
  · split
    · exact .refl s
    · exact applyOver_dated ..
  · exact .refl s

theorem contextBoundary_dated (s : State) : Dated s (contextBoundary s) := by
  unfold contextBoundary
  extract_lets +onlyGivenNames t1
  have h1 : Dated s t1 := by
    simp only [t1]
    split <;> exact ⟨rfl, rfl⟩
  clear_value t1
  extract_lets +onlyGivenNames ctx t2
  have h2 : Dated t1 t2 := by
    simp only [t2]
    split
    · split
      · exact (Dated.trans (t := { t1 with ctx.restored := false }) ⟨rfl, rfl⟩ (cancelHop_dated _)).trans (restartPair_dated ..)
      · exact ⟨rfl, rfl⟩
    · exact .refl t1
  clear_value t2
  extract_lets +onlyGivenNames due t3
  have hdue : due = appliedWhenDue := rfl
  have h3 : Dated t2 t3 := by
    simp only [t3, hdue]
    exact (((appliedWhenDue_dated t2).trans (replaceActive_dated _)).trans (takeIncoming_dated _)).trans (appliedWhenDue_dated _)
  clear_value t3
  refine (h1.trans h2).trans (h3.trans ?_)
  split
  next g _ =>
    split
    · exact .refl t3
    · dsimp only
      have hjob : Dated t3 (journalImages g { t3 with ctx.job := none }) :=
        Dated.trans (t := { t3 with ctx.job := none }) ⟨rfl, rfl⟩ (journalImages_dated ..)
      split
      · exact hjob.trans ⟨rfl, rfl⟩
      · exact hjob
  next => exact .refl t3

theorem noisyBurst_dated (s : State) : Dated s (noisyBurst s) := by
  unfold noisyBurst
  split <;> exact ⟨rfl, rfl⟩

theorem formBurst_dated (gv : List Int) (s : State) : Dated s (formBurst gv s) := by
  unfold formBurst
  dsimp only
  split <;> exact ⟨rfl, rfl⟩

theorem quietBurst_dated (gv dd : List Int) (s : State) : Dated s (quietBurst gv dd s) := by
  unfold quietBurst
  extract_lets +onlyGivenNames on r active n drone t
  have ht : Dated s t := ⟨rfl, rfl⟩
  clear_value t
  split
  · obtain ⟨_, _, h⟩ := wakeSource_eq 0x10 (belCount 18 0 { t with drone.gang := bestGang dd })
    rw [h]
    exact ht.trans ⟨rfl, rfl⟩
  · exact ht

theorem measureBurst_dated (x : List (List (List Int))) (s : State) : Dated s (measureBurst x s) := by
  unfold measureBurst
  extract_lets +onlyGivenNames gv nz dd drone t1
  have h1 : Dated s t1 := ⟨rfl, rfl⟩
  clear_value t1
  extract_lets +onlyGivenNames noisy t2
  have h2 : Dated t1 t2 := by
    simp only [t2]
    split
    · exact formBurst_dated gv t1
    · split
      · exact .refl t1
      · exact quietBurst_dated gv dd t1
  clear_value t2
  refine (h1.trans h2).trans ?_
  split
  · exact noisyBurst_dated t2
  · exact ⟨rfl, rfl⟩

theorem exec_droneBurst {s : State} (hstate : s.pwr.state = .drone) (hbusy : s.pwr.busy = false) (x : List (List (List Int))) :
    ∃ t, exec (.droneBurst x) s = answer s t ∧ t.epoch = add32 s.epoch 1 ∧ t.pwr.state = .drone := by
  have hexec : exec (.droneBurst x) s = execDroneBurst x s := rfl
  rw [hexec, execDroneBurst]
  dsimp only
  rw [if_neg (by simp [hstate, hbusy])]
  refine ⟨_, rfl, ?_⟩
  generalize hu : ({ s with epoch := add32 s.epoch 1, clk.now := _, pwr.attempts := 0, pwr.attemptStep := 0 } : State) = u
  have hcounted : u.epoch = add32 s.epoch 1 ∧ u.pwr.state = .drone := by
    subst hu
    exact ⟨rfl, hstate⟩
  have hburst := (contextBoundary_dated u).trans (measureBurst_dated (x.map (fun w => w.map (fun v => v.map adcSample))) _)
  generalize measureBurst _ (contextBoundary u) = v at hburst
  have horder : Dated v (if v.hostSide && v.pwr.floor == 3 && v.pwr.entryDue.isNone then orderEntry .dormant v else v) := by
    split
    · exact Dated.trans ⟨rfl, rfl⟩ (orderEntry_power .dormant v).dated
    · exact .refl v
  generalize (if v.hostSide && v.pwr.floor == 3 && v.pwr.entryDue.isNone then orderEntry .dormant v else v) = w at horder
  obtain ⟨hepoch, hst⟩ := hburst.trans horder
  split
  · exact ⟨hepoch.trans hcounted.1, hst.trans hcounted.2⟩
  · obtain ⟨_, _, hpoll, -⟩ := pollDoorbell_eq w
    rw [hpoll]
    exact ⟨hepoch.trans hcounted.1, hst.trans hcounted.2⟩

/-! ### The root's order at a member (16 R433) -/

theorem exec_powerMessage {s : State} (hmember : s.isMember = true) (hlink : s.clk.link = true) {state : Nat} (hstate : state < 4)
    (epoch : Nat) : ∃ c, exec (.powerMessage state epoch) s = answer s
      (if pstateOf state = s.pwr.state then { s with crl := c, pwr.entryDue := none }
        else { s with crl := c, pwr.entryDue := some (pstateOf state), pwr.entryEpoch := epoch % 2 ^ 32 }) := by
  have hexec : exec (.powerMessage state epoch) s = execPowerMessage state epoch s := rfl
  obtain ⟨c, hc⟩ := consume_eq (· == .power state epoch) s
  refine ⟨c, ?_⟩
  rw [hexec, execPowerMessage, if_neg (by simp [hmember, hlink]; omega)]
  dsimp only
  rw [hc]

/-- The recorded source's code as the retention memory's byte holds it. -/
theorem WakeTaken.byte {code : Nat} {s t : State} (h : WakeTaken code s t) (hcode : code < 256) : (t.mem.byte (retBase + 0x104)).toNat = code := by
  have hin := Memory.byte_write_inside s.mem (retBase + 0x104) (leBytes 4 (code + 256 * s.pwr.last)) (i := 0) (by rw [length_leBytes]; decide)
  rw [h.mem, Memory.putLe]
  refine (congrArg BitVec.toNat hin).trans ?_
  change (BitVec.ofNat 8 (code + 256 * s.pwr.last)).toNat = code
  rw [BitVec.toNat_ofNat]
  omega

/-- A source taken with no transition under way stands recorded, and acts as HOLD, the state and limp mode say. -/
theorem actOnWake_spec {code : Nat} {s u : State} (h : WakeTaken code s u) (hbusy : s.pwr.busy = false) :
    let t := actOnWake code u
    t.pwr.last = code ∧ t.pwr.prev = s.pwr.last ∧ t.pwr.new = true ∧ t.pwr.counters = (belCount 20 0 s).pwr.counters ∧ t.mem = u.mem ∧
      (s.pwr.hold = true → t.pwr.busy = false) ∧
      (s.pwr.hold = false → s.pwr.state = .drone ∨ s.pwr.state = .dormant → (wakeRise code s).code < s.pwr.state.code →
        t.pwr.busy = true ∧ t.pwr.target = wakeRise code s) := by
  have hubusy := h.busy.trans hbusy
  have hrise : wakeRise code u = wakeRise code s := by rw [wakeRise, wakeRise, h.limp, h.floor, h.state]
  refine ⟨?_, ?_, ?_, ?_, ?_, fun hhold => ?_, fun hhold hdeep hlow => ?_⟩
  case refine_6 =>
    rw [actOnWake_held (h.hold.trans hhold)]
    exact hubusy
  case refine_7 =>
    obtain ⟨f, bd, wd, hacts⟩ := actOnWake_rises (code := code) (h.hold.trans hhold) hubusy (by rwa [h.state]) (by rwa [hrise, h.state])
    obtain ⟨_, _, _, hothers⟩ := wakeOthers_eq code (wakeRise code u) { u with
      pwr.floor := f, pwr.busy := true, pwr.target := wakeRise code u, pwr.byDrone := bd, pwr.wakeSinceDrone := wd }
    rw [hacts, hothers]
    exact ⟨rfl, hrise⟩
  all_goals
    obtain ⟨p, _, _, _, hidle, hlast, hprev, hnew, hcounters⟩ := actOnWake_idle code hubusy
    rw [hidle]
  case refine_1 => exact hlast.trans h.last
  case refine_2 => exact hprev.trans h.prev
  case refine_3 => exact hnew.trans h.new
  case refine_4 => exact hcounters.trans h.counters

/-- The beacon's source wakes the tile, which passes the beacon on (16 R438). -/
theorem actOnWake_beacon {port : Port} {s u : State} (h : WakeTaken 0x40 s u) (hrole : s.isMember = true ∨ s.isRoot = true)
    (hport : s.pwr.beaconPort = some port) (hbusy : s.pwr.busy = false) (hhold : s.pwr.hold = false) (hlimp : s.pwr.limp = false)
    (hdeep : s.pwr.state = .drone ∨ s.pwr.state = .dormant) :
    let t := actOnWake 0x40 u
    t.pwr.busy = true ∧ t.pwr.target = (if s.pwr.state = .drone then .idleScan else .active) ∧
      t.out.beacons = s.out.beacons ++ [portOther port] := by
  have hrise : wakeRise 0x40 u = if s.pwr.state = .drone then .idleScan else .active := by
    rw [wakeRise, h.limp, hlimp, h.state]
    rcases hdeep with hst | hst <;> rw [hst] <;> rfl
  have hlow : (wakeRise 0x40 u).code < u.pwr.state.code := by
    rw [hrise, h.state]
    rcases hdeep with hst | hst <;> rw [hst] <;> decide
  have hring : s.boot.role ≠ .standalone := by
    rcases hrole with hr | hr <;> intro hs <;> simp [State.isMember, State.isRoot, hs] at hr
  obtain ⟨f, bd, wd, hacts⟩ := actOnWake_rises (h.hold.trans hhold) (h.busy.trans hbusy) (by rwa [h.state]) hlow
  dsimp only
  rw [hacts, wakeOthers, if_pos rfl, sendBeacons, if_neg (by rw [h.boot]; exact hring)]
  refine ⟨rfl, hrise, ?_⟩
  dsimp only
  rw [h.beacons, h.beaconPort, hport]
  rfl

end Sys2Proof.Machine

open Sys2Proof Sys2Proof.Machine

/-- Settles O37: descents are ordered for their boundary, entries reach their state or are refused, wake sources are recorded and begin the
exit, and exits end with the clocks running or in limp mode. -/
theorem lowPowerIsEnteredAndLeft : Obligations.LowPowerIsEnteredAndLeft := by
  refine ⟨?_, ?_⟩
  · intro controller block st s hm hlen hlatched hfloor orders count deeper
    have hcanon : s.mem.canon = s.mem := Memory.canon_of_wf _ hm
    refine ⟨fun hside hfw hbusy hdue => ⟨?_, ?_, ?_⟩, fun hready => ⟨?_, ?_, ?_, ?_, ?_⟩, fun hrefused hside hnow => ⟨?_, ?_, ?_⟩,
      fun hside hclk => ⟨?_, ?_, ?_⟩, fun hwait => ?_⟩
    · intro hstate hidle hfl hquiet
      exact completes_order (exec_idleTimeout hside hfw hbusy hdue hstate hidle hfl hquiet) ⟨rfl, rfl, rfl, rfl⟩
    · intro hstate hfl hdrone hquiet
      exact completes_order (exec_droneTimeout hside hfw hbusy hdue hstate hfl (by simpa [hdrone] using hquiet)) (by split <;> exact ⟨rfl, rfl, rfl, rfl⟩)
    · intro hstate hfl hdrone hquiet
      exact completes_order (exec_droneTimeout hside hfw hbusy hdue hstate hfl (by simpa [hdrone] using hquiet)) (by split <;> exact ⟨rfl, rfl, rfl, rfl⟩)
    · intro hnow hnone
      have hexec := (exec_powerEntry hnow hready).trans (congrArg (answer s) (attemptEntry_drone hnone))
      have hspec := enterDrone_spec hlatched hfloor
      generalize enterDrone s = t at hexec hspec
      obtain ⟨h1, h2, h3, -, h4, h5, h6, h7, hcount, h8, h9, h10, h11⟩ := hspec
      refine completes_answer hexec ⟨h1, h2, h3, h4, h5, h6, h7, ?_, h8, h9, h10, h11⟩
      exact (congrArg (fun l : List BelCnt => (l.getD 1 {}).count) hcount).trans (belCount_counter 0 (by omega)).1
    · intro hnow hnone hlink hepoch
      have hexec := (exec_powerEntry hnow hready).trans (congrArg (answer s) (attemptEntry_dormant hnone hlink))
      have hspec := enterDormant_spec hlatched hfloor (fun hside => refusals_dormant_idle hside hnone)
      generalize enterDormant s = t at hexec hspec
      obtain ⟨h1, h2, -, h3, h4, h5, h6, hcount, hsaved⟩ := hspec
      refine completes_answer hexec ⟨h1, h2, h3, h4, h5, h6, ?_, leNat_canon_read hepoch hsaved⟩
      exact (congrArg (fun l : List BelCnt => (l.getD 2 {}).count) hcount).trans (belCount_counter 0 (by omega)).1
    · intro hnow hnone hside hperst hlink
      rw [exec_powerEntry hnow hready, attemptEntry_waits hnone hside hperst hlink]
      exact answer_of_eq s _ hm rfl rfl
    · intro hnow hsome
      have hexec := (exec_powerEntry hnow hready).trans (congrArg (answer s) (attemptEntry_refused hsome))
      have hspec := foldl_refusals_refused (s := s) st hlen
      generalize List.foldl (fun t r => refuse r t) s (refusals st s) = t at hexec hspec
      have hrefused := hspec.refuses hsome
      obtain ⟨⟨b, l, hpwr, -⟩, -, hmem, hcore, -, hcounted, -⟩ := hspec
      refine completes_answer hexec ⟨hrefused, ?_, hcore, ?_, hcounted⟩
      · exact (congrArg Power.state hpwr).trans rfl
      · exact (congrArg Memory.canon hmem).trans hcanon
    · intro hnow hc
      obtain ⟨_, _, _, _, k, hraise⟩ := raise_eq 38 (belCount (8 + controller) (block % 256) { s with pwr.entryDue := none })
      refine completes_answer ((exec_entryAbort hnow hready hc block).trans (congrArg (answer s) hraise)) ⟨rfl, rfl, ?_⟩
      exact belCount_counter (s := { s with pwr.entryDue := none }) (block % 256) (by change 8 + controller < s.pwr.counters.length; omega)
    · intro hlow
      rw [exec_entryRetry hrefused hside hnow, if_pos hlow]
      exact answer_of_eq s _ hm rfl rfl
    · intro hlow hsome
      have hexec := exec_entryRetry hrefused hside hnow
      rw [if_neg (by omega), attemptEntry_refused (s := { s with pwr.refused := false }) hsome] at hexec
      have hspec := foldl_refusals_refused (s := { s with pwr.refused := false }) (u := { s with pwr.refused := false }) st hlen
      generalize List.foldl (fun t r => refuse r t) _ _ = t at hexec hspec
      have hrefused := hspec.refuses hsome
      obtain ⟨⟨b, l, hpwr, -⟩, -⟩ := hspec
      exact completes_answer hexec ⟨hrefused, (congrArg Power.state hpwr).trans rfl⟩
    · intro hlow hst hnone
      have hexec := exec_entryRetry hrefused hside hnow
      subst hst
      rw [if_neg (by omega), attemptEntry_drone (s := { s with pwr.refused := false }) hnone] at hexec
      have hspec := enterDrone_spec (s := { s with pwr.refused := false }) hlatched hfloor
      generalize enterDrone _ = t at hexec hspec
      obtain ⟨hstate, -, -, href, -⟩ := hspec
      exact completes_answer hexec ⟨hstate, href⟩
    · intro hwait
      rw [exec_l2l3Ready hside hclk, hwait]
      exact answer_of_eq s _ hm rfl rfl
    · intro hwait hnone
      have hexec := exec_l2l3Ready hside hclk
      rw [hwait, if_pos rfl, dormantReady_enters hnone] at hexec
      have hspec := enterDormant_spec (s := { s with host.link := .l2l3 }) hlatched hfloor (fun hs => refusals_dormant_idle hs hnone)
      generalize enterDormant _ = t at hexec hspec
      obtain ⟨hstate, -, hawait, -, -, -, hhost, -⟩ := hspec
      exact completes_answer hexec ⟨hstate, hawait, hhost⟩
    · intro hwait hsome
      have hexec := exec_l2l3Ready hside hclk
      rw [hwait, if_pos rfl, dormantReady_refused hsome] at hexec
      have hfold := foldl_refusals_refused (s := { s with host.link := .l2l3 })
        (u := { s with host.link := .l2l3, pwr.awaitL2 := false, pwr.busy := false }) .dormant hlen
      have hspec := waitRefused_spec (s := { s with host.link := .l2l3 }) hfold hlatched hfloor
      have hrefused := hfold.refuses hsome
      generalize replayWake _ = t at hexec hspec
      obtain ⟨hstate, hawait, -, href, hhost, -⟩ := hspec
      exact completes_answer hexec ⟨hstate, hawait, href.trans hrefused, congrArg HostPort.link hhost⟩
    · have hexec := exec_l2l3ReadyTimeout hwait
      have hfold := foldl_refuse_refused (rs := [(3, 0x06)]) (s := { s with pwr.awaitL2 := false, pwr.busy := false }) (by simp) (by simp; omega)
      have hspec := waitRefused_spec hfold hlatched hfloor
      have hrefused := hfold.refuses (List.cons_ne_nil _ _)
      have hcounted := hfold.counted
      rw [List.foldl_cons, List.foldl_nil] at hspec hrefused hcounted
      generalize refuse _ _ = u at hexec hspec hrefused hcounted
      generalize replayWake _ = t at hexec hspec
      obtain ⟨hstate, hawait, hbusy, href, -, hcount⟩ := hspec
      refine completes_answer hexec ⟨hawait, hbusy, href.trans hrefused, hstate, ?_⟩
      exact (congrArg (fun l : List BelCnt => (l.getD 7 {}).count) hcount).trans (hcounted (3, 6) (by simp)).1
  · intro code step port pin x w state epoch s hm hlen fails
    refine ⟨fun hdue hinfo => ⟨fun hen => ?_, fun hen hbusy harises => ?_⟩, fun hrole hlink => ?_,
      fun hrole hdue hport hen hbusy hhold hlimp hdeep => ?_, fun hgpio hedges hpin => ?_,
      fun hbusy hatt hfloor hduring => ⟨fun hstate htarget => ?_, fun hstate htarget hgood => ?_, fun hstate htarget => ?_,
        fun hstep hstate htarget => ?_⟩, fun hbusy hstate htarget hatt hstep => ?_, fun hstate hbusy => ?_,
      fun hmember hlink hstate => ⟨fun hne hepoch => ?_, fun heq => ?_⟩⟩
    · obtain ⟨g, htake⟩ := takeWake_disabled hinfo hen
      exact completes_answer ((exec_wakeRecord hdue).trans (congrArg (answer s) htake)) ⟨rfl, rfl, rfl, rfl⟩
    · obtain ⟨u, htake, htaken⟩ := takeWake_acts hinfo hen harises
      obtain ⟨hlast, hprev, hnew, hcount, hmem, hheld, hrises⟩ := actOnWake_spec htaken hbusy
      have hexec := (exec_wakeRecord hdue).trans (congrArg (answer s) htake)
      generalize actOnWake code u = t at hexec hlast hprev hnew hcount hmem hheld hrises
      refine completes_answer hexec ⟨hlast, hprev, hnew, fun hcode => ?_, ?_, hheld, fun hhold hlimp hdeep hlow => ?_, fun hhold hlimp hst => ?_⟩
      · exact (congrArg BitVec.toNat ((Memory.byte_canon _ _).trans (congrArg (fun m : Memory => m.byte 0x50000104) hmem))).trans (htaken.byte hcode)
      · exact (congrArg (fun l : List BelCnt => (l.getD 20 {}).count) hcount).trans (belCount_counter 0 (by omega)).1
      · have hrise : wakeRise code s = wakeTarget code s.pwr.state s.pwr.floor := if_neg (by simp [hlimp])
        rw [hrise] at hrises
        exact hrises hhold hdeep hlow
      · have hrise : wakeRise code s = if s.pwr.floor = 0 then PState.active else PState.idleScan := wakeRise_limp hlimp code
        rw [hrise] at hrises
        refine hrises hhold (.inl hst) ?_
        rw [hst]
        split <;> decide
    · have hexec := exec_wakeBeacon (port := port) hrole hlink
      have hmem := mem_wakeSource 0x40 { s with pwr.beaconPort := if s.pwr.wakeDue.contains 0x40 then s.pwr.beaconPort else some port }
      have hfirst (hnew : 0x40 ∉ s.pwr.wakeDue) := wakeSource_first (s := { s with
        pwr.beaconPort := if s.pwr.wakeDue.contains 0x40 then s.pwr.beaconPort else some port }) hnew
      obtain ⟨due, m, hset⟩ := wakeSource_eq 0x40 { s with pwr.beaconPort := if s.pwr.wakeDue.contains 0x40 then s.pwr.beaconPort else some port }
      generalize wakeSource 0x40 _ = t at hexec hmem hfirst hset
      refine completes_answer hexec ⟨hmem, by rw [hset], by rw [hset], fun hnew => ?_⟩
      rw [hfirst hnew]
      exact ⟨rfl, if_neg (by simpa using hnew)⟩
    · have hinfo : wakeInfo 0x40 = some ⟨12, false, true, true⟩ := rfl
      have harises : WakeInfo.arises ⟨12, false, true, true⟩ s.pwr.state = true := by rcases hdeep with h | h <;> rw [h] <;> rfl
      obtain ⟨u, htake, htaken⟩ := takeWake_acts hinfo hen harises
      obtain ⟨hlast, -⟩ := actOnWake_spec htaken hbusy
      obtain ⟨hb, htarget, hbeacons⟩ := actOnWake_beacon htaken hrole hport hbusy hhold hlimp hdeep
      have hexec := (exec_wakeRecord hdue).trans (congrArg (answer s) htake)
      generalize actOnWake 0x40 u = t at hexec hlast hb htarget hbeacons
      exact completes_answer hexec ⟨hlast, hb, htarget, hbeacons⟩
    · have hexec := exec_gpioWakeEdge hpin
      obtain ⟨_, _, _, _, _, hraise⟩ := raise_eq (42 + pin.val) { s with pwr.gpioEdge := s.pwr.gpioEdge.set pin.val true }
      have hedge : (raise (42 + pin.val) { s with pwr.gpioEdge := s.pwr.gpioEdge.set pin.val true }).pwr.gpioEdge =
        s.pwr.gpioEdge.set pin.val true := by rw [hraise]
      generalize raise (42 + pin.val) _ = u at hexec hedge
      have hmem := mem_wakeSource (0x30 + pin.val) u
      obtain ⟨due, m, hset⟩ := wakeSource_eq (0x30 + pin.val) u
      generalize wakeSource (0x30 + pin.val) u = t at hexec hmem hset
      refine completes_answer hexec ⟨?_, hmem⟩
      dsimp only
      rw [hset, hedge]
      simp [List.getD_eq_getElem?_getD, hedges]
    · have hexec := exec_powerExit_drone hbusy hatt hstate htarget
      have hspec := wakeUp_spec hduring s.pwr.target
      generalize wakeUp s.pwr.target s = t at hexec hspec
      exact completes_answer hexec hspec
    · have hexec := exec_powerExit_dormant hbusy hatt hstate htarget
      have hspec := wakeDormant_spec (s := { s with clk.xtalOk := true }) hgood
      generalize wakeDormant _ = t at hexec hspec
      exact completes_answer hexec hspec
    · have hexec := exec_powerExit_fails hbusy hatt hstate htarget
      obtain ⟨l, hcounts⟩ := countAttempts_eq 14 4 s
      have hspec := failExit_drone (s := countAttempts 14 4 s) (by rw [hcounts]; exact hstate) 1
      generalize failExit 1 _ = t at hexec hspec
      exact completes_answer hexec hspec
    · have hexec := exec_wakeStepTimeout hbusy hstep hstate htarget
      have htried : s.tried step 1 = 1 := by simp [State.tried, hatt]
      rw [htried, if_neg (by decide)] at hexec
      have hcount := belCount_counter (n := 13 + step) (s := { s with pwr.attempts := 1, pwr.attemptStep := step }) 0
        (by change 13 + step < s.pwr.counters.length; omega)
      exact completes_answer hexec ⟨rfl, rfl, hstate, rfl, hcount.1⟩
    · have hexec := exec_wakeStepTimeout hbusy (.inr rfl) hstate htarget
      have htried : s.tried 3 1 = 4 := by simp [State.tried, hatt, hstep]
      rw [htried, if_pos (by decide)] at hexec
      obtain ⟨hlimp, hhold, -, hfail, -⟩ := failExit_drone (s := belCount 16 0 { s with pwr.attempts := 4, pwr.attemptStep := 3 }) hstate 3
      generalize failExit 3 _ = t at hexec hlimp hhold hfail
      exact completes_answer hexec ⟨hlimp, hfail, hhold⟩
    · obtain ⟨t, hexec, hepoch, hst⟩ := exec_droneBurst hstate hbusy x
      exact completes_answer hexec ⟨hepoch, hst⟩
    · obtain ⟨c, hexec⟩ := exec_powerMessage hmember hlink hstate epoch
      rw [if_neg hne] at hexec
      exact completes_answer hexec ⟨rfl, Nat.mod_eq_of_lt hepoch, rfl⟩
    · obtain ⟨c, hexec⟩ := exec_powerMessage hmember hlink hstate epoch
      rw [if_pos heq] at hexec
      exact completes_answer hexec rfl

end
